-- ==== Sys2Proof/Word.lean ====
section
/-! DEFINITION. The word types of the FHL-740 and their plainest arithmetic (00_scope.md sections 5.2 to 5.4). -/
namespace Sys2Proof

/-- One byte on a wire. -/
abbrev Byte := BitVec 8

/-- A reading of the elapsed count: 48 bits, continuing from 0 after 2^48 - 1 (R2). -/
abbrev Elapsed := BitVec 48

/-- A station time as its whole number of ticks from the array epoch: seconds * 1,048,576 + ticks (00_scope.md 5.2). -/
abbrev StationTime := Nat

/-- Ticks per second. -/
def tps : Nat := 1048576

/-- The greatest station time, 4,294,967,295:1,048,575. -/
def maxTime : Nat := 4503599627370495

/-- A duration of n seconds in ticks. -/
def secs (n : Nat) : Nat := n * tps

/-- A duration of n milliseconds in ticks, taken as floor. -/
def millis (n : Nat) : Nat := n * tps / 1000

/-- The interval from reading t to reading now, modulo 2^48 (R2). -/
def since (now t : Elapsed) : Nat := (now - t).toNat

/-- Clamp x to [lo, hi] (00_scope.md 5.4). -/
def clampInt (x lo hi : Int) : Int := if x < lo then lo else if hi < x then hi else x

/-- The seconds part of a station time. -/
def secPart (t : StationTime) : Nat := t / tps

/-- The ticks part of a station time. -/
def tickPart (t : StationTime) : Nat := t % tps

end Sys2Proof
end

