-- ==== Sys2Proof/Syntax.lean ====
section
/-! DEFINITION. The commands of the FHL-740: one constructor of Instr per row of the opcode table, with its operands. -/
namespace Sys2Proof

/-- The levels of the input lines that have no row of their own in the opcode table, as sampled at a tick of the running
oscillator (log entry 4). -/
structure Lines where
  /-- ID3 to ID0, ID0 the least significant bit (R198) -/
  straps : BitVec 4
  /-- CHG_AVL: charge source present when high (00_scope.md section 4) -/
  chgAvl : Bool
  /-- UP_RDY (00_scope.md section 4) -/
  upRdy : Bool
  /-- TW_SCL (R202) -/
  scl : Bool
  /-- TW_SDA (R202) -/
  sda : Bool
deriving DecidableEq, Repr

/-- How a two-wire transaction that reads n bytes ends (R201, R202). -/
inductive TwEnd (n : Nat) where
  | complete (bytes : Vector Byte n)
  | nack
  | timeout
  | busStuck
deriving DecidableEq, Repr

/-- The two temperature sensors: A (sensor package) and B (vault air) (R162). -/
inductive TempSensor where
  | a
  | b
deriving DecidableEq, Repr

/-- What the Sample Interface takes at one rising edge of DIG_CLK: a bit of DIG_DAT and a sample of DIG_FRM (section 5.2). -/
structure PortEdge where
  bit : Bool
  frm : Bool
deriving DecidableEq, Repr

/-- The frame kinds whose waiting requests have a staleness limit (R29). -/
inductive StaleKind where
  | triggerNotice
  | rangeReply
  | rangeProbe
  | serviceReport
deriving DecidableEq, Repr

/-- The commands, in the order of spec/opcode_table.json. In the rows of a complete frame, `rest` is what the receiver took
after the header: body, CRC and check field, 6 + L bytes (R36). -/
inductive Instr where
  /-- POWER_ON (R196). -/
  | powerOn
  /-- RESET_N_LOW (R205). -/
  | resetNLow
  /-- RESET_N_RISE (R205). -/
  | resetNRise
  /-- CRYSTAL_WAIT_END (R196). -/
  | crystalWaitEnd
  /-- CONFIG_LOAD_END (R199). -/
  | configLoadEnd (r : TwEnd 64)
  /-- NOMINAL_TICK (R3). -/
  | nominalTick (lines : Lines)
  /-- SLOW_CYCLE (R5). -/
  | slowCycle (lines : Lines)
  /-- SECOND_BOUNDARY (R1). -/
  | secondBoundary
  /-- ELAPSED_SECOND (R9). -/
  | elapsedSecond
  /-- FAST_STEADY (R3). -/
  | fastSteady
  /-- SOURCE_BECOMES_SLOW (R3). -/
  | sourceBecomesSlow
  /-- CALIBRATION_PERIOD_EXPIRY (R6). -/
  | calibrationPeriodExpiry
  /-- CALIBRATION_WINDOW_CLOSE (R6). -/
  | calibrationWindowClose
  /-- MARK_EDGE (R15). -/
  | markEdge
  /-- MARK_LABEL_READ_END (R16). -/
  | markLabelReadEnd (r : TwEnd 5)
  /-- MARK_EXPECTATION_EXPIRY (R17). -/
  | markExpectationExpiry
  /-- REFERENCE_LOSS_EXPIRY (R18). -/
  | referenceLossExpiry
  /-- GUARD_COMPLETE (R32). -/
  | guardComplete
  /-- CARRIER_BUSY (R33). -/
  | carrierBusy
  /-- BACKOFF_COMPLETE (R33). -/
  | backoffComplete
  /-- STAMP_POINT (R22). -/
  | stampPoint
  /-- TRANSMISSION_END (R34). -/
  | transmissionEnd
  /-- REQUEST_STALE_DROP (R29). -/
  | requestStaleDrop (kind : StaleKind)
  /-- BEACON_TIMER_EXPIRY (R35). -/
  | beaconTimerExpiry
  /-- SYNC_WORD_TAKEN (R36). -/
  | syncWordTaken
  /-- HEADER_TAKEN (R36). -/
  | headerTaken (kindSender targetFlags length sequence : Byte)
  /-- FRAME_TRUNCATED (R36). -/
  | frameTruncated
  /-- FRAME_DISCARDED (R37). -/
  | frameDiscarded (rest : List Byte)
  /-- BEACON_RECEIVED (R46). -/
  | beaconReceived (rest : List Byte)
  /-- TRIGGER_NOTICE_RECEIVED (R117). -/
  | triggerNoticeReceived (rest : List Byte)
  /-- EVENT_DECLARATION_RECEIVED (R131). -/
  | eventDeclarationReceived (rest : List Byte)
  /-- RANGE_PROBE_RECEIVED (R61). -/
  | rangeProbeReceived (rest : List Byte)
  /-- RANGE_REPLY_RECEIVED (R63). -/
  | rangeReplyReceived (rest : List Byte)
  /-- SERVICE_REPORT_RECEIVED (R40). -/
  | serviceReportReceived (rest : List Byte)
  /-- PEER_RECORD_EXPIRY (R51). -/
  | peerRecordExpiry (id : Nat)
  /-- PROBE_TARGET_CHOICE (R59). -/
  | probeTargetChoice
  /-- PROBE_TIMEOUT (R64). -/
  | probeTimeout
  /-- RANGE_AGE_STALE (R58). -/
  | rangeAgeStale (id : Nat)
  /-- UNREACHABLE_HOLD_END (R58). -/
  | unreachableHoldEnd (id : Nat)
  /-- STEERING_INSTANT (R68). -/
  | steeringInstant
  /-- SAMPLE_SET_COMPLETE (R82): the run of edges that ends with the 80th bit of a set (log entry 43). -/
  | sampleSetComplete (edges : List PortEdge)
  /-- PARTIAL_SET (R78): the run of edges up to the framed one that cuts a set, and the bit that this last one brings, the first of the
  new set (log entry 43). -/
  | partialSet (taken : List PortEdge) (first : Bool)
  /-- DIG_SYNC_FALL (R80). -/
  | digSyncFall
  /-- MISSING_SAMPLE (R85). -/
  | missingSample
  /-- HOLD_TIMER_EXPIRY (R102). -/
  | holdTimerExpiry
  /-- OVERLONG_EXPIRY (R104). -/
  | overlongExpiry
  /-- TRIM_DECAY_EXPIRY (R109). -/
  | trimDecayExpiry
  /-- ENTRY_RETENTION_EXPIRY (R120). -/
  | entryRetentionExpiry
  /-- HOLDOFF_EXPIRY (R128). -/
  | holdoffExpiry
  /-- EVENT_CLOSE_TEST (R136). -/
  | eventCloseTest
  /-- MAXIMUM_LIFE_EXPIRY (R137). -/
  | maximumLifeExpiry
  /-- RECORD_LINGER_END (R124). -/
  | recordLingerEnd
  /-- HEALTH_TIMER_EXPIRY (R142). -/
  | healthTimerExpiry
  /-- RETRY_WAIT_END (R152). -/
  | retryWaitEnd
  /-- MODEM_WARM_UP_EXPIRY (R147). -/
  | modemWarmUpExpiry
  /-- POWER_CYCLE_END (R147). -/
  | powerCycleEnd
  /-- POWER_DOWN_DELAY_EXPIRY (R147). -/
  | powerDownDelayExpiry
  /-- UP_RDY_RISE (R147). -/
  | upRdyRise
  /-- BUSY_LIMIT_EXPIRY (R148). -/
  | busyLimitExpiry
  /-- SEGMENT_FETCH (R150). -/
  | segmentFetch
  /-- MESSAGE_SUM_SENT (R147). -/
  | messageSumSent
  /-- CAN_SENT (R151). -/
  | canSent
  /-- UPLINK_REPLY (R152). -/
  | uplinkReply (byte : Byte)
  /-- REPLY_LIMIT_EXPIRY (R152). -/
  | replyLimitExpiry
  /-- BATTERY_POLL (R158). -/
  | batteryPoll
  /-- BATTERY_RESULT (R165). -/
  | batteryResult (r : TwEnd 6)
  /-- TEMPERATURE_RESULT (R162). -/
  | temperatureResult (sensor : TempSensor) (r : TwEnd 2)
  /-- BRIEF_RUN_READY (R189). -/
  | briefRunReady
  /-- BRIEF_RUN_BEACON_SKIP (R189). -/
  | briefRunBeaconSkip
  /-- WAKE_PATTERN_DETECT (R190). -/
  | wakePatternDetect
  /-- CAPTURE_LIMIT_EXPIRY (R190). -/
  | captureLimitExpiry
  /-- WAKE_HOLD_EXPIRY (R192). -/
  | wakeHoldExpiry
  /-- FINAL_BEACON_TIMEOUT (R194). -/
  | finalBeaconTimeout
  /-- SERVICE_STATUS (R204). -/
  | serviceStatus (rest : List Byte)
  /-- SERVICE_PEERS (R204). -/
  | servicePeers (rest : List Byte)
  /-- SERVICE_EVENTS (R204). -/
  | serviceEvents (rest : List Byte)
  /-- SERVICE_COUNTERS (R204). -/
  | serviceCounters (rest : List Byte)
  /-- SERVICE_RESTART (R205). -/
  | serviceRestart (rest : List Byte)
  /-- SERVICE_UNKNOWN (R203). -/
  | serviceUnknown (rest : List Byte)
  /-- CARRIER_DETECT_CHANGE (R32). -/
  | carrierDetectChange (high : Bool)
deriving DecidableEq, Repr

end Sys2Proof
end

