-- ==== Sys2Proof/Decode.lean ====
section
/-! DEFINITION. The decoder of the command table: the FHL-740 is a block, and no row of spec/opcode_table.json gives bits. -/
namespace Sys2Proof

/-- The command a word spells. No row of the table gives a bit, so no word spells a command. -/
def decodeTableWord (_nbits _w : Nat) : Option Instr := none

end Sys2Proof
end

