-- ==== Sys2Proof/Config.lean ====
section
/-! DEFINITION. What the spec leaves open for every FHL-740 alike: the free values, each an opaque constant. -/
namespace Sys2Proof.Config

/-- The one byte of an EVENTS record whose content R204 does not state: the rule gives a record 20 bytes plus 4 per
participant, and the fields R140 lists, with a participant count, fill 19 (log entry 40). FREE VALUE: nothing constrains
it; the argument is the number of free bytes drawn before it. -/
opaque eventsSpareByte : Nat → BitVec 8

end Sys2Proof.Config
end

