-- ==== Sys2Proof/Machine/State.lean ====
section
/-! DEFINITION. The state of the FHL-740: every piece of state the spec gives its blocks, as plain data, and its values
after POWER-ON. Fields marked MODEL are the model's own bookkeeping (INVENTORY.md lists them apart). -/
namespace Sys2Proof.Machine

/-! ## Shared types -/

/-- A timer on the elapsed count: it runs from the reading `start` for `period` ticks (R2, 00_scope.md 5.2). -/
structure Timer where
  start : Elapsed
  period : Nat
deriving DecidableEq, Repr

/-- The 102 counters, in the order of the COUNTERS report: chapter order, and within each chapter the order of its counter
list (R204). For the four of TWM chapter 12 gives no list; they stand in the order in which R202 raises them (log entry 70, DESIGN
CHOICE). -/
inductive Counter where
  -- Chapter 1 (section 1.8)
  | stepsApplied | calibrationDiscards | badMarks | missingMarks
  -- Chapter 2 (section 2.11)
  | framesSent | framesAccepted | discardLength | discardCrc | discardKind | discardSender | discardMalformed
  | discardRepeat | idConflicts | staleDrops | busyDeferrals
  -- Chapter 3 (R56)
  | peerExpiries
  -- Chapter 4 (R75)
  | unansweredProbes | lateReplies | rangingAnomalies | voidedExchanges | holdovers | hinderedSteps
  -- Chapter 5 (R89)
  | partialSets | timingFaults | missingSamples | unalignedSets | overloadedSets | faultEntries
  -- Chapter 6 (R111)
  | triggers | retriggers | onsetNoticesReplaced | overlongReleases | unconfirmedTriggers
  -- Chapter 7 (R140)
  | staleEntries | recoveredEntries | triggerTableOverflow | quorums | declarations | holdoffsDissolved | adoptions
  | conflictsWon | conflictsLost | declarationsIgnored | participantsLeftOut | eventTableOverflow
  -- Chapter 8 (R157)
  | acknowledgedAlerts | naks | replyTimeouts | failedAlerts | healthDrops | healthEvictions | stacks
  | restartsOnChange | withdrawalsInTransfer | busyTimeouts | powerCycles
  -- Chapter 9 (R170)
  | batteryFailures | batteryRejects | pollOverruns | failuresA | rejectsA | failuresB | rejectsB | forcedClasses
  | classChanges | fullAnchors | emptyAnchors
  -- Chapter 10 (R183): HTR_B, then HTR_S, then both together
  | edgesTakenB | edgesDeferredB | limitTakesB | onsCancelledB | offsMergedB | offForcingsB | overtempCutsB
  | edgesTakenS | edgesDeferredS | limitTakesS | onsCancelledS | offsMergedS | offForcingsS | overtempCutsS
  | frameCuts
  -- Chapter 11 (R197)
  | dormantEntriesBegun | dormantEntries | entriesAbandoned | skippedBeacons | patternWakes | falseWakes | localWakes
  | musterBeacons | shelterEntries | finalBeaconsAbandoned | shelterExits
  -- Chapter 12 (R202, R204; log entry 70)
  | busRecoveries | busStucks | twNacks | stretchTimeouts | loadDefaults | requestsTaken | requestsReplaced
  | unknownRequests | reportsDropped
deriving DecidableEq, Repr

/-- The place of a counter in the COUNTERS report, from 0. -/
def Counter.idx (c : Counter) : Fin 102 := ⟨c.ctorIdx, by cases c <;> decide⟩

/-- The operating modes a station announces (section 2.10). -/
inductive OpMode where
  | active | economy | dormant | shelter
deriving DecidableEq, Repr

/-- The battery classes, best first (R166). -/
inductive BatClass where
  | good | lean | low | critical
deriving DecidableEq, Repr

/-- The states of a station trigger (R99, section 2.10). -/
inductive TrigState where
  | stopped | settling | off | on | hold
deriving DecidableEq, Repr

/-- An event id: origin station and sequence number (chapter 7). -/
structure EventId where
  origin : Nat
  seq : Nat
deriving DecidableEq, Repr

/-- A stamp: a station time with the elapsed count of the same moment (R22). -/
structure Stamp where
  time : StationTime
  moment : Elapsed
deriving DecidableEq, Repr

/-! ## Pins -/

/-- The levels of the input lines that are read as levels (section 12.6). -/
structure Pins where
  /-- ID3 to ID0 -/
  straps : BitVec 4
  chgAvl : Bool
  upRdy : Bool
  scl : Bool
  sda : Bool
  /-- LK_CD: the medium is busy while it is high (R32) -/
  lkCd : Bool
deriving DecidableEq, Repr

/-! ## Timebase (chapter 1) -/

/-- The clock source (section 1.3). -/
inductive Source where
  | slow | warming | fast
deriving DecidableEq, Repr

/-- The drive direction of a pending step (R4). -/
inductive Drive where
  | plus | minus
deriving DecidableEq, Repr

/-- An open calibration window: slow cycles counted and m, the ticks station time has advanced (R6). -/
structure CalWindow where
  cycles : Nat
  m : Nat
deriving DecidableEq, Repr

structure Timebase where
  /-- TB has begun to count, at the end of CRYSTAL WAIT (R2) -/
  counting : Bool
  /-- station time (R1) -/
  time : StationTime
  /-- the elapsed count (R2) -/
  elapsed : Elapsed
  /-- the clock source (R3) -/
  source : Source
  /-- slow cycles counted in WARMING, to 256 (R3) -/
  warmUp : Nat
  /-- a run on slow request waiting for the next slow-cycle boundary (R3) -/
  slowAsked : Bool
  /-- the 32-bit fraction accumulator (R3) -/
  frac : Nat
  /-- R_base (R4) -/
  rBase : Int
  /-- R_phase (R4) -/
  rPhase : Int
  /-- the pending-step flag with its drive direction (R4, R11) -/
  pendingStep : Option Drive
  /-- C_slow (R6) -/
  cSlow : Int
  /-- the calibration period timer (R6) -/
  calTimer : Option Timer
  /-- the period has expired and the window opens at the next slow-cycle boundary (R6) -/
  calOpening : Bool
  /-- the open calibration window (R6) -/
  calWindow : Option CalWindow
  /-- time quality (R9) -/
  quality : Nat
  /-- a steering with a source set the quality since the last elapsed second (R9) -/
  steered : Bool
  /-- reference distance (R8) -/
  distance : Nat
  /-- the unset flag (R10) -/
  unset : Bool
  /-- MODEL: second boundaries reported (R1) and not yet taken by SECOND_BOUNDARY, oldest first -/
  boundaries : List Nat
  /-- MODEL: elapsed seconds passed (R2) and not yet taken by ELAPSED_SECOND -/
  elapsedSeconds : Nat
deriving DecidableEq, Repr

/-! ## Reference Mark Unit (chapter 1) -/

/-- The lock states of the RMU (R18). -/
inductive RmuState where
  | absent | acquiring | locked | holdover
deriving DecidableEq, Repr

/-- A mark whose label read completed in time: stamp, label and valid flag (R16). -/
structure Mark where
  stamp : Int
  label : Nat
  valid : Bool
deriving DecidableEq, Repr

/-- A stamped edge whose label read has not ended (R15). -/
structure OpenMark where
  stamp : Int
  edge : Elapsed
deriving DecidableEq, Repr

/-- The mark expectation: the elapsed count at which it expires, and whether it counts as armed since the RMU entered its
state (R17). -/
structure Expectation where
  due : Elapsed
  live : Bool
deriving DecidableEq, Repr

structure Rmu where
  state : RmuState
  /-- asleep in DORMANT or SHELTER (R19) -/
  sleeping : Bool
  /-- consecutive good marks G (R18) -/
  good : Nat
  /-- consecutive bad or missing marks B (R18) -/
  bad : Nat
  /-- the 60 s reference loss timer (R18) -/
  lossTimer : Option Timer
  expectation : Option Expectation
  /-- the previous mark (R16) -/
  prev : Option Mark
  openMark : Option OpenMark
  /-- the kept mark offsets, oldest first (R18) -/
  offsets : List Int
deriving DecidableEq, Repr

/-! ## Link Controller (chapter 2) -/

/-- The frame kinds (section 2.5). -/
inductive FrameKind where
  | beacon | notice | declaration | probe | reply | serviceRequest | serviceReport
deriving DecidableEq, Repr

inductive NoticeKind where
  | onset | finish
deriving DecidableEq, Repr

/-- What a TRIGGER NOTICE carries (section 2.10). -/
structure Notice where
  kind : NoticeKind
  onset : StationTime
  mask : Nat
  peak : Nat
  /-- tenths of a second -/
  duration : Nat
deriving DecidableEq, Repr

/-- The marking of a BEACON request: an ordinary beacon, the DORMANT entry beacon (R186) or the final SHELTER beacon (R194). -/
inductive BeaconMark where
  | ordinary | entry | final
deriving DecidableEq, Repr

/-- A request that waits in a slot, with the elapsed count at which it was made (R29). -/
structure NoticeReq where
  moment : Elapsed
  notice : Notice
deriving DecidableEq, Repr

structure ReplyReq where
  moment : Elapsed
  target : Nat
  t1 : StationTime
  t2 : Stamp
deriving DecidableEq, Repr

structure ProbeReq where
  moment : Elapsed
  target : Nat
deriving DecidableEq, Repr

structure BeaconReq where
  moment : Elapsed
  mark : BeaconMark
deriving DecidableEq, Repr

structure ReportReq where
  moment : Elapsed
  body : List Byte
  /-- the segment carries the last flag -/
  last : Bool
deriving DecidableEq, Repr

/-- The six request slots (R29). The EVENT DECLARATION slot holds the standing request of R31. -/
structure Slots where
  declaration : Option Elapsed
  notice : Option NoticeReq
  reply : Option ReplyReq
  probe : Option ProbeReq
  beacon : Option BeaconReq
  report : Option ReportReq
deriving DecidableEq, Repr

/-- The access states (section 2.6); a backoff holds the slots drawn. -/
inductive Access where
  | idle
  | guard
  | backoff (slots : Nat)
deriving DecidableEq, Repr

/-- What the owner of a frame in flight needs at its stamp point and its completion (R34). -/
inductive TxOwner where
  /-- the record (by its key) and the update number carried (R31) -/
  | declaration (rid update : Nat)
  /-- its kind and the moment of its request, which names it (R34, R103) -/
  | notice (kind : NoticeKind) (moment : Elapsed)
  | reply
  | probe (target : Nat)
  | beacon (mark : BeaconMark)
  /-- whether the segment belongs to the pending request, and its last flag (R203) -/
  | report (current last : Bool)
deriving DecidableEq, Repr

/-- The frame in flight (R30, R34). -/
structure TxFrame where
  owner : TxOwner
  /-- sent behind a wake preamble (R26) -/
  wake : Bool
  /-- the four header bytes (R23) -/
  header : List Byte
  /-- the body; its transmit-stamp fields are zeros until the stamp point (R22) -/
  body : List Byte
  /-- the transmit stamp, absent before the stamp point (R22) -/
  stamp : Option Stamp
deriving DecidableEq, Repr

/-- A receive stamp, with whether the clock source was FAST when it was taken (R22, R61). -/
structure RxStamp where
  time : StationTime
  moment : Elapsed
  fast : Bool
deriving DecidableEq, Repr

/-- The four header bytes of a frame as received (R23). -/
structure Header where
  kindSender : Byte
  targetFlags : Byte
  length : Byte
  sequence : Byte
deriving DecidableEq, Repr

/-- The receiver and its one-frame receive buffer (R36): off, hunting for the sync word, reading the header, or reading the
rest of a frame. -/
inductive Rx where
  | off
  | hunting
  | header (stamp : RxStamp)
  | body (stamp : RxStamp) (hdr : Header)
deriving DecidableEq, Repr

structure Link where
  slots : Slots
  access : Access
  /-- the medium has been found busy and the draw of R33 is still to be made -/
  busy : Bool
  /-- the attempt count a (section 2.6) -/
  attempt : Nat
  /-- the later of LK_CD falling and LK_TXEN falling (R32) -/
  quietSince : Elapsed
  tx : Option TxFrame
  rx : Rx
  /-- the random source (R28) -/
  random : BitVec 16
  /-- the own sequence number (R27) -/
  ownSeq : Nat
  /-- the own sequence number has been drawn since POWER-ON (R27) -/
  seqDrawn : Bool
  /-- the terminal's last accepted sequence (R37) -/
  terminalSeq : Option Nat
  beaconTimer : Option Timer
  /-- the id-conflict flag (R38) -/
  idConflict : Bool
deriving DecidableEq, Repr

/-! ## Peer Table (chapter 3) -/

/-- The ranging states (R58). -/
inductive Ranging where
  | unranged | probing | ranged | stale | unreachable
deriving DecidableEq, Repr

inductive Grade where
  | good | marginal | poor
deriving DecidableEq, Repr

/-- A peer record (section 3.2). -/
structure PeerRecord where
  id : Nat
  lastHeard : Elapsed
  /-- ticks of age held in own dormancy (R50) -/
  heldAge : Option Nat
  /-- announced interval code; absent while provisional -/
  code : Option Nat
  mode : Option OpMode
  cls : Option BatClass
  distance : Option Nat
  quality : Option Nat
  unset : Option Bool
  trig : Option TrigState
  lastOnset : Option StationTime
  /-- latest offset sample (R66) -/
  sample : Option Int
  ranging : Ranging
  delay : Option Nat
  rangeTime : Option Elapsed
  attempts : Nat
  /-- check-error ring, oldest first (R48) -/
  ring : List Nat
  ringSum : Nat
  counted : Nat
  grade : Grade
  lastSeq : Nat
deriving DecidableEq, Repr

/-! ## Time Agreement Unit (chapter 4) -/

/-- The probe slot (R59, R60). -/
structure ProbeSlot where
  target : Nat
  /-- the prior state of the target record -/
  prior : Ranging
  /-- the choice; the 500 ms probe timeout runs from it -/
  chosenAt : Elapsed
  /-- t1, once the stamp point is reported -/
  t1 : Option Stamp
deriving DecidableEq, Repr

/-- The kinds of outcome of a steering instant, in the order of section 4.4. -/
inductive Outcome4 where
  | holdover | step | hindered | slew
deriving DecidableEq, Repr

inductive SourceKind where
  | reference | peers | freeRun | none
deriving DecidableEq, Repr

/-- The last exchange in the last-results record (R63). -/
structure LastExchange where
  peer : Nat
  delay : Nat
  offset : Int
deriving DecidableEq, Repr

/-- The last instant in the last-results record (R72). -/
structure LastInstant where
  moment : Elapsed
  outcome : Outcome4
  /-- O; absent without a source -/
  offset : Option Int
  source : SourceKind
  count : Nat
  /-- g; absent without peer sources -/
  g : Option Nat
deriving DecidableEq, Repr

structure Agreement where
  probe : Option ProbeSlot
  /-- the 1 s probe rest (R59) -/
  rest : Option Timer
  steerTimer : Option Timer
  /-- a steering instant has fallen due and waits for the fast source (R68) -/
  steerWaiting : Bool
  lastExchange : Option LastExchange
  lastInstant : Option LastInstant
deriving DecidableEq, Repr

/-! ## Sample Interface (chapter 5) -/

inductive Grid where
  | off | unaligned | tracking | fault
deriving DecidableEq, Repr

/-- A grid slot: sample index of second sec (R82). -/
structure GridSlot where
  sec : Nat
  index : Nat
deriving DecidableEq, Repr

structure SampleIf where
  grid : Grid
  /-- the expected slot (R82) -/
  slot : Option GridSlot
  faultRun : Nat
  goodRun : Nat
  faultHeld : Bool
  /-- a step notice has been taken: the next pulse is the realigning pulse (R86) -/
  realign : Bool
  /-- the bit counter (R77): 1 to 79 while a set is in progress; the port is unframed at 0, before the first framed bit, and at 80 -/
  bitCount : Nat
  /-- the set buffer, first bit first (R77) -/
  buffer : List Bool
  /-- DIG_SYNC is high while present, with the elapsed count of its rise (R80) -/
  digSync : Option Elapsed
  /-- grid time of the last set handed to the Trigger Detector (R89) -/
  lastHanded : Option StationTime
deriving DecidableEq, Repr

/-! ## Trigger Detector (chapter 6) -/

inductive ChanState where
  | stopped | settling | quiet | on
deriving DecidableEq, Repr

/-- A detector channel (section 6.2); m, s and l are scaled by 256. -/
structure Channel where
  state : ChanState
  init : Bool
  m : Int
  s : Int
  l : Int
  warm : Bool
  settle : Nat
  blank : Nat
  ratio : Nat
deriving DecidableEq, Repr

structure Trigger where
  z : Channel
  n : Channel
  e : Channel
  /-- the station trigger state (R99) -/
  state : TrigState
  /-- onset of the current or last trigger -/
  onset : Option StationTime
  /-- component mask of the current or last trigger -/
  mask : Option Nat
  peak : Nat
  endAt : Option StationTime
  holdTimer : Option Timer
  overTimer : Option Timer
  overlong : Bool
  void : Bool
  lastOnset : Option StationTime
  /-- onset notice outstanding (R103), with the elapsed count of its request -/
  outstanding : Option Elapsed
  /-- grid time of the last set taken since the detector started (R110) -/
  lastSet : Option StationTime
  /-- the sensitivity trim, sixteenths (R108) -/
  trim : Nat
  trimTimer : Option Timer
deriving DecidableEq, Repr

/-! ## Coincidence Unit (chapter 7) -/

/-- The uplink states of an event record (R143). -/
inductive UplinkState where
  | none | queued | stacked | sending | awaiting | sent | withdrawn | failed
deriving DecidableEq, Repr

/-- The states of an event record (section 7.3). -/
inductive RecState where
  | holdoff | declared | adopted | merged | closed
deriving DecidableEq, Repr

/-- A trigger-table entry (section 7.2). `bound` is the key of the record it is bound to. -/
structure Entry where
  station : Nat
  onset : StationTime
  mask : Option Nat
  peak : Nat
  endAt : Option StationTime
  bound : Option Nat
  own : Bool
  confirmed : Bool
deriving DecidableEq, Repr

/-- A participant of an event record, with its onset; the onset offset is formed from it by R113 (log entry 24). -/
structure Part where
  station : Nat
  onset : StationTime
  peak : Nat
deriving DecidableEq, Repr

/-- An event record (section 7.3). -/
structure EventRec where
  /-- MODEL: the key by which entries and alerts name the record -/
  rid : Nat
  id : Option EventId
  state : RecState
  earliest : StationTime
  parts : List Part
  update : Nat
  declOwed : Bool
  carried : Option Nat
  /-- the holdoff, running to the holdoff expiry (R127) -/
  holdoff : Option Timer
  mergedInto : Option EventId
  uplink : UplinkState
  owedUplink : Option Nat
  opened : Elapsed
  lastEnd : Elapsed
  finished : Option Elapsed
  /-- UC's delivered flag for the record (R142) -/
  delivered : Bool
deriving DecidableEq, Repr

structure Coincidence where
  entries : List Entry
  events : List EventRec
  /-- the own event sequence -/
  ownEventSeq : Nat
  /-- MODEL: the next record key -/
  nextRid : Nat
deriving DecidableEq, Repr

/-! ## Uplink Controller (chapter 8) -/

inductive AlertKind where
  | event | retract | update | health
deriving DecidableEq, Repr

inductive Turn where
  | ready | sending | awaiting | retry
deriving DecidableEq, Repr

/-- An alert of the uplink queue (R143). -/
structure Alert where
  kind : AlertKind
  /-- the key of its event record; absent for HEALTH -/
  rid : Option Nat
  id : Option EventId
  update : Nat
  enqueued : Elapsed
  attempts : Nat
  turn : Turn
  /-- the 30 s retry wait (R152) -/
  retryWait : Option Timer
  /-- marked withdrawn while AWAITING (R153) -/
  withdrawn : Bool
deriving DecidableEq, Repr

/-- An entry of the stacked list: a report entry, or a RETRACT entry with the id it retracts (R145). -/
structure Stacked where
  kind : AlertKind
  rid : Nat
  retracts : Option EventId
deriving DecidableEq, Repr

inductive Modem where
  | off | warmUp | powerCycle | idle | readyWait | sending | awaiting
deriving DecidableEq, Repr

/-- Why a transfer is being cut with CAN (R151, R153). -/
inductive Cut where
  | change | withdrawal
deriving DecidableEq, Repr

/-- A segment fetch: its moment, the bytes of the segment before it that were still to be sent then, and its own bytes (R150). -/
structure Fetch where
  moment : Elapsed
  left : Nat
  size : Nat
deriving DecidableEq, Repr

/-- The transfer in progress: what was stamped at the HEADER, the payload composed so far, the segments fetched after the
HEADER of all the chain has, the last fetch, and a cut under way (R150, R151). -/
structure Transfer where
  kind : AlertKind
  rid : Option Nat
  id : Option EventId
  update : Nat
  count : Nat
  segments : Nat
  fetched : Nat
  payload : List Byte
  /-- the last segment fetched; none while only the HEADER is composed -/
  last : Option Fetch
  cut : Option Cut
  /-- the on-times a HEALTH message carries (R152, R181) -/
  onTimes : Option (Nat × Nat)
deriving DecidableEq, Repr

structure Uplink where
  queue : List Alert
  stacked : List Stacked
  modem : Modem
  /-- the timer of the modem state (section 8.3) -/
  modemTimer : Option Timer
  busyCount : Nat
  transfer : Option Transfer
  healthTimer : Option Timer
  healthDue : Bool
deriving DecidableEq, Repr

/-! ## Battery Monitor (chapter 9) -/

structure Battery where
  /-- last accepted voltage, mV -/
  v : Option Int
  /-- last accepted current, mA -/
  i : Option Int
  /-- last accepted battery temperature, tenths -/
  temp : Option Int
  tempA : Option Int
  tempB : Option Int
  /-- the charge accumulator Q, mA·s -/
  q : Int
  /-- MODEL: Q has been formed from a loaded capacity since POWER-ON (log entry 7) -/
  qFormed : Bool
  anchored : Bool
  /-- E_ref (R163) -/
  eRef : Option Elapsed
  soc : Int
  cls : BatClass
  staleCount : Nat
  staleCountA : Nat
  staleCountB : Nat
  stale : Bool
  staleA : Bool
  staleB : Bool
  /-- the charge-enable state; CHARGE_EN follows it (R168) -/
  chargeEn : Bool
  pollTimer : Option Timer
  /-- when the last poll was made (R158) -/
  lastPoll : Option Elapsed
deriving DecidableEq, Repr

/-! ## Heater Controller (chapter 10) -/

inductive Level where
  | off | quarter | third | half | full
deriving DecidableEq, Repr

inductive Edge where
  | on | off
deriving DecidableEq, Repr

inductive HeaterId where
  | b | s
deriving DecidableEq, Repr

/-- A heater record (section 10.2); the on-slot count is that of the level. -/
structure Heater where
  /-- the heater pin -/
  output : Bool
  pos : Option Nat
  level : Level
  edge : Option Edge
  deferral : Nat
  carried : Option Nat
  onTime : Nat
  onFrac : Nat
deriving DecidableEq, Repr

structure Heaters where
  b : Heater
  s : Heater
deriving DecidableEq, Repr

/-! ## Mode Controller (chapter 11) -/

/-- The mode with its sub-state. -/
inductive Standing where
  -- START
  | crystalWait | loading | firstPoll
  -- ACTIVE
  | active
  -- ECONOMY
  | watching | entering
  -- DORMANT
  | asleep | capturing | waking
  -- SHELTER
  | finalBeacon | sheltered | rising
deriving DecidableEq, Repr

/-- The users of the two-wire bus, in the order of section 12.2. -/
inductive TwUser where
  | loader | label | battery | tempA | tempB
deriving DecidableEq, Repr

/-- The set of brief-run users (R189): a beacon with the moment it joined, a poll, the final beacon, and the two-wire work
that stood at the entry. -/
structure BriefUsers where
  beacon : Option Elapsed
  poll : Bool
  final : Bool
  entryWork : List TwUser
deriving DecidableEq, Repr

structure ModeCtl where
  standing : Standing
  /-- slow cycles counted in CRYSTAL WAIT, to 16,384 (R196) -/
  crystal : Nat
  /-- held in RESTART while RESET_N is low (R205) -/
  held : Bool
  wakeHold : Option Timer
  /-- a capture is running, with its limit (R190) -/
  capture : Option Timer
  users : BriefUsers
  /-- the fast oscillator: absent while stopped, else the slow cycles it has run, to 256 (R189) -/
  osc : Option Nat
  /-- the oscillator has been handed to its users (R189) -/
  handed : Bool
  /-- the 10 s limit of the final beacon (R194) -/
  finalLimit : Option Timer
  /-- MODEL: an event of R184 has been reported and is not yet evaluated (log entry 11) -/
  evalDue : Bool
  /-- MODEL: an abandoning event of R187 has been reported and is not yet taken (log entry 11) -/
  abandonDue : Bool
deriving DecidableEq, Repr

/-! ## Two-Wire Master (chapter 12) -/

/-- A request in a pending place, or the transaction on the bus: whether its result goes to its user (R15, R202). -/
structure TwReq where
  wanted : Bool
deriving DecidableEq, Repr

/-- The free-bus check of R202 step 1: TWM waits for TW_SCL to rise, has found both lines high, or has found TW_SDA low with
TW_SCL high and sent a recovery. -/
inductive TwCheck where
  | waiting | clear | recovered
deriving DecidableEq, Repr

/-- The transaction on the bus, with how its free-bus check stands (R201, R202). -/
structure TwBus where
  user : TwUser
  wanted : Bool
  check : TwCheck
deriving DecidableEq, Repr

structure TwoWire where
  loader : Option TwReq
  label : Option TwReq
  battery : Option TwReq
  tempA : Option TwReq
  tempB : Option TwReq
  /-- the bus: IDLE while absent (R201) -/
  bus : Option TwBus
deriving DecidableEq, Repr

/-! ## Configuration and Service (chapter 12) -/

/-- The configuration image: the fields of the table of R200. -/
structure Image where
  receiver : Bool
  uplink : Bool
  linkCode : Nat
  sampleCode : Nat
  uplinkCode : Nat
  b : Nat
  k : Nat
  p : Nat
  eGood : Nat
  ePoor : Nat
  latency : Nat
  bSync : Nat
  mask : Nat
  vote : Nat
  h : Nat
  aS : Nat
  aL : Nat
  floor : Nat
  rOn : Nat
  rOff : Nat
  rQuiet : Nat
  hold : Nat
  tMax : Nat
  wc : Nat
  quorum : Nat
  mWatch : Nat
  holdoffSlot : Nat
  closeDelay : Nat
  maxLife : Nat
  modemWarmUp : Nat
  healthHours : Nat
  capacity : Nat
  vFull : Nat
  vEmpty : Nat
  vCutoff : Nat
  iTaper : Nat
  tCmin : Int
  tCmax : Int
  batterySet : Int
  chargeSet : Int
  sensorSet : Int
  deferB : Nat
  deferS : Nat
  blanking : Nat
  wakeHold : Nat
  batteryAddr : Nat
  sensorAAddr : Nat
  sensorBAddr : Nat
  receiverAddr : Nat
  ind0 : Nat
  ind1 : Nat
  ind2 : Nat
  ind3 : Nat
deriving DecidableEq, Repr

/-- Every field at its default (R200). -/
def Image.default : Image :=
  { receiver := false, uplink := false, linkCode := 1, sampleCode := 1, uplinkCode := 1, b := 4, k := 6, p := 17,
    eGood := 2, ePoor := 16, latency := 0, bSync := 64, mask := 7, vote := 2, h := 12, aS := 3, aL := 8, floor := 16,
    rOn := 64, rOff := 32, rQuiet := 48, hold := 4, tMax := 120, wc := 10, quorum := 3, mWatch := 2, holdoffSlot := 250,
    closeDelay := 30, maxLife := 600, modemWarmUp := 30, healthHours := 6, capacity := 100, vFull := 13800,
    vEmpty := 11400, vCutoff := 11000, iTaper := 200, tCmin := 0, tCmax := 450, batterySet := -50, chargeSet := 30,
    sensorSet := 0, deferB := 20, deferS := 30, blanking := 20, wakeHold := 300, batteryAddr := 0x0B,
    sensorAAddr := 0x48, sensorBAddr := 0x49, receiverAddr := 0x42, ind0 := 1, ind1 := 2, ind2 := 4, ind3 := 13 }

/-- Where the next segment of a report begins (R204). -/
inductive Resume where
  | start
  /-- STATUS: group and byte within it -/
  | status (group offset : Nat)
  /-- PEERS: the last id sent -/
  | peers (lastId : Nat)
  /-- EVENTS: the last record sent, by earliest onset and id -/
  | record (earliest : StationTime) (id : Option EventId)
  /-- EVENTS: the last trigger-table entry sent, by onset and station -/
  | entry (onset : StationTime) (station : Nat)
  /-- COUNTERS: the segment number -/
  | counters (segment : Nat)
deriving DecidableEq, Repr

/-- The pending service request (R203). -/
structure ServiceReq where
  code : Nat
  argument : Nat
  nextSegment : Nat
  resume : Resume
  /-- taken in DORMANT and held for the completion of the wake -/
  held : Bool
deriving DecidableEq, Repr

structure Service where
  stationId : Nat
  image : Image
  defaulted : Bool
  clamped : Bool
  pending : Option ServiceReq
deriving DecidableEq, Repr

/-! ## The whole state -/

structure State where
  /-- MODEL: the commands that wait, first in, first out -/
  pending : List Instr
  pins : Pins
  tb : Timebase
  rmu : Rmu
  lc : Link
  peers : List PeerRecord
  tau : Agreement
  si : SampleIf
  td : Trigger
  cu : Coincidence
  uc : Uplink
  bm : Battery
  hc : Heaters
  mc : ModeCtl
  twm : TwoWire
  cs : Service
  counters : Vector Nat 102
  /-- MODEL: free bytes drawn so far (log entry 40) -/
  freeDrawn : Nat
deriving DecidableEq, Repr

/-- The part's faults: none. The spec names no event after which the part stops; every trap-like event of it (a bad frame, a
failed transaction, an overflow of a table) is counted and the part goes on. -/
inductive Fault where
deriving DecidableEq, Repr

/-- The refusals. -/
inductive Refusal where
  /-- Raised by `exec` alone, in the arm of a command that has no meaning yet; safe: the model claims nothing of it. -/
  | notModelled (mnemonic : String)
deriving DecidableEq, Repr

/-! ## Named updates -/

def State.setPending (s : State) (x : List Instr) : State := { s with pending := x }
def State.setPins (s : State) (x : Pins) : State := { s with pins := x }
def State.setTb (s : State) (x : Timebase) : State := { s with tb := x }
def State.setRmu (s : State) (x : Rmu) : State := { s with rmu := x }
def State.setLc (s : State) (x : Link) : State := { s with lc := x }
def State.setPeers (s : State) (x : List PeerRecord) : State := { s with peers := x }
def State.setTau (s : State) (x : Agreement) : State := { s with tau := x }
def State.setSi (s : State) (x : SampleIf) : State := { s with si := x }
def State.setTd (s : State) (x : Trigger) : State := { s with td := x }
def State.setCu (s : State) (x : Coincidence) : State := { s with cu := x }
def State.setUc (s : State) (x : Uplink) : State := { s with uc := x }
def State.setBm (s : State) (x : Battery) : State := { s with bm := x }
def State.setHc (s : State) (x : Heaters) : State := { s with hc := x }
def State.setMc (s : State) (x : ModeCtl) : State := { s with mc := x }
def State.setTwm (s : State) (x : TwoWire) : State := { s with twm := x }
def State.setCs (s : State) (x : Service) : State := { s with cs := x }
def State.setCounters (s : State) (x : Vector Nat 102) : State := { s with counters := x }
def State.setFreeDrawn (s : State) (x : Nat) : State := { s with freeDrawn := x }

/-! ## Reset values (POWER-ON) -/

/-- Input lines at POWER-ON: the spec gives no levels; straps low by their pull-downs, the two-wire lines high by their
pull-ups (section 12.6), the others low (log entry 5, DESIGN CHOICE). -/
def Pins.reset : Pins := { straps := 0, chgAvl := false, upRdy := false, scl := true, sda := true, lkCd := false }

/-- R14, column POWER-ON. -/
def Timebase.reset : Timebase :=
  { counting := false, time := 0, elapsed := 0, source := .slow, warmUp := 0, slowAsked := false, frac := 0, rBase := 0,
    rPhase := 0, pendingStep := none, cSlow := 0, calTimer := none, calOpening := false, calWindow := none,
    quality := 16777215, steered := false, distance := 15, unset := true, boundaries := [], elapsedSeconds := 0 }

/-- R20. -/
def Rmu.reset : Rmu :=
  { state := .absent, sleeping := false, good := 0, bad := 0, lossTimer := none, expectation := none, prev := none,
    openMark := none, offsets := [] }

def Slots.empty : Slots :=
  { declaration := none, notice := none, reply := none, probe := none, beacon := none, report := none }

/-- R42, column POWER-ON; the random source before its first seeding and the own sequence number before
its first draw, at the end of START, are values of the model's, 1 and 0 (log entry 6, DESIGN CHOICE). -/
def Link.reset : Link :=
  { slots := .empty, access := .idle, busy := false, attempt := 0, quietSince := 0, tx := none, rx := .off, random := 1,
    ownSeq := 0, seqDrawn := false, terminalSeq := none, beaconTimer := none, idConflict := false }

/-- R75. -/
def Agreement.reset : Agreement :=
  { probe := none, rest := none, steerTimer := none, steerWaiting := false, lastExchange := none, lastInstant := none }

/-- R89. -/
def SampleIf.reset : SampleIf :=
  { grid := .off, slot := none, faultRun := 0, goodRun := 0, faultHeld := false, realign := false, bitCount := 0,
    buffer := [], digSync := none, lastHanded := none }

/-- A stopped channel, its averages dropped (R110, R111). The mean and the averages of a channel that holds none stand at 0, and so
do the settle count and the ratio (log entries 48 and 49). -/
def Channel.stopped : Channel :=
  { state := .stopped, init := false, m := 0, s := 0, l := 0, warm := false, settle := 0, blank := 0, ratio := 0 }

/-- R111. -/
def Trigger.reset : Trigger :=
  { z := .stopped, n := .stopped, e := .stopped, state := .stopped, onset := none, mask := none, peak := 0, endAt := none,
    holdTimer := none, overTimer := none, overlong := false, void := false, lastOnset := none, outstanding := none,
    lastSet := none, trim := 0, trimTimer := none }

/-- R140. -/
def Coincidence.reset : Coincidence := { entries := [], events := [], ownEventSeq := 0, nextRid := 0 }

/-- R156. -/
def Uplink.reset : Uplink :=
  { queue := [], stacked := [], modem := .off, modemTimer := none, busyCount := 0, transfer := none, healthTimer := none,
    healthDue := false }

/-- R169, column POWER-ON. Q is half of Qcap at the default capacity, the image being the default one until a block is
loaded (log entry 6); R169's value is formed anew when the first image is taken (log entry 7). -/
def Battery.reset : Battery :=
  { v := none, i := none, temp := none, tempA := none, tempB := none, q := 180000000, qFormed := false, anchored := false, eRef := none,
    soc := 50, cls := .low, staleCount := 0, staleCountA := 0, staleCountB := 0, stale := true, staleA := true,
    staleB := true, chargeEn := false, pollTimer := none, lastPoll := none }

/-- R183. -/
def Heater.reset : Heater :=
  { output := false, pos := none, level := .off, edge := none, deferral := 0, carried := none, onTime := 0, onFrac := 0 }

def BriefUsers.empty : BriefUsers := { beacon := none, poll := false, final := false, entryWork := [] }

/-- R197, after POWER-ON. -/
def ModeCtl.reset : ModeCtl :=
  { standing := .crystalWait, crystal := 0, held := false, wakeHold := none, capture := none, users := .empty,
    osc := none, handed := false, finalLimit := none, evalDue := false, abandonDue := false }

/-- R202: the places are empty and the bus is IDLE. -/
def TwoWire.reset : TwoWire :=
  { loader := none, label := none, battery := none, tempA := none, tempB := none, bus := none }

/-- CS before LOADING: the spec gives no image and no station id until then (log entry 6, DESIGN CHOICE). -/
def Service.reset : Service :=
  { stationId := 0, image := .default, defaulted := false, clamped := false, pending := none }

/-- The machine right after POWER-ON. -/
def State.reset : State :=
  { pending := [], pins := .reset, tb := .reset, rmu := .reset, lc := .reset, peers := [], tau := .reset, si := .reset,
    td := .reset, cu := .reset, uc := .reset, bm := .reset, hc := { b := .reset, s := .reset }, mc := .reset,
    twm := .reset, cs := .reset, counters := Vector.replicate 102 0, freeDrawn := 0 }

end Sys2Proof.Machine
end

