-- ==== Sys2Proof/Machine/Ops.lean ====
section
/-! DEFINITION. The operations every block uses: counters, timers on the elapsed count, the station's standing, the reports
to the Mode Controller, and ordered insertion. -/
namespace Sys2Proof.Machine

/-! ## Counters (00_scope.md 5.5) -/

/-- A count held at 65,535. -/
def sat16 (n : Nat) : Nat := min n 65535

/-- The value of a counter. -/
def State.count (s : State) (c : Counter) : Nat := s.counters[c.idx]

/-- One count more, saturating at 65,535 (00_scope.md 5.5). -/
def bump (c : Counter) (s : State) : State :=
  s.setCounters (s.counters.set c.idx.val (sat16 (s.count c + 1)) c.idx.isLt)

/-- n counts more, saturating at 65,535. -/
def bumpBy (c : Counter) (n : Nat) (s : State) : State :=
  s.setCounters (s.counters.set c.idx.val (sat16 (s.count c + n)) c.idx.isLt)

/-- Count only where the condition holds. -/
def bumpIf (b : Bool) (c : Counter) (s : State) : State := if b then bump c s else s

/-! ## Timers on the elapsed count (R2) -/

/-- The elapsed count now. -/
def State.now (s : State) : Elapsed := s.tb.elapsed

/-- The timer has run its period at the reading `now`. -/
def Timer.due (t : Timer) (now : Elapsed) : Bool := t.period ≤ since now t.start

/-- A timer that may be stopped has run its period. -/
def timerDue (t : Option Timer) (now : Elapsed) : Bool := t.any (fun x => x.due now)

/-- The whole seconds left on a timer (R204). -/
def Timer.left (t : Timer) (now : Elapsed) : Nat := (t.period - since now t.start) / tps

/-- A timer of p ticks started from zero now. -/
def State.startTimer (s : State) (p : Nat) : Option Timer := some { start := s.now, period := p }

/-! ## Standing (chapter 11) -/

/-- START. -/
def Standing.inStart : Standing → Bool
  | .crystalWait | .loading | .firstPoll => true
  | _ => false

/-- ACTIVE or ECONOMY: the station is awake. -/
def Standing.awake : Standing → Bool
  | .active | .watching | .entering => true
  | _ => false

def Standing.inDormant : Standing → Bool
  | .asleep | .capturing | .waking => true
  | _ => false

def Standing.inShelter : Standing → Bool
  | .finalBeacon | .sheltered | .rising => true
  | _ => false

/-- The mode, absent in START, which no frame announces. -/
def Standing.mode : Standing → Option OpMode
  | .crystalWait | .loading | .firstPoll => none
  | .active => some .active
  | .watching | .entering => some .economy
  | .asleep | .capturing | .waking => some .dormant
  | .finalBeacon | .sheltered | .rising => some .shelter

def State.awake (s : State) : Bool := s.mc.standing.awake
def State.dormant (s : State) : Bool := s.mc.standing.inDormant

/-- The station id (R198). -/
def State.ownId (s : State) : Nat := s.cs.stationId

/-- Strapped 0 or 15 (R39). -/
def State.listenOnly (s : State) : Bool := s.ownId == 0 || s.ownId == 15

/-! ## Reports to the Mode Controller -/

/-- An event on which MC evaluates the mode (R184) is reported. -/
def tellMode (s : State) : State := s.setMc { s.mc with evalDue := true }

/-- An event that abandons a DORMANT entry (R187) is reported. -/
def alarmMode (s : State) : State := s.setMc { s.mc with abandonDue := true }

/-! ## Ordered lists -/

/-- Insert after every element that does not come after x. -/
def insertBy {α : Type} (le : α → α → Bool) (x : α) : List α → List α
  | [] => [x]
  | y :: ys => if le y x then y :: insertBy le x ys else x :: y :: ys

/-- Stable sort by insertion. -/
def sortBy {α : Type} (le : α → α → Bool) (xs : List α) : List α := xs.foldl (fun acc x => insertBy le x acc) []

/-- The distance of two station times in ticks. -/
def timeGap (a b : StationTime) : Nat := if a ≤ b then b - a else a - b

/-- Append, and drop the oldest beyond n entries. -/
def pushKeep {α : Type} (n : Nat) (xs : List α) (x : α) : List α := (xs ++ [x]).drop ((xs.length + 1) - n)

end Sys2Proof.Machine
end

