-- ==== Sys2Proof/Machine/Operands.lean ====
section
/-! DEFINITION. What stands on the wires: byte order, the CRC, the check field and the random source, the frame header and
the frame bodies of section 2.10, both read and written. -/
namespace Sys2Proof.Machine

/-! ## Byte order (R21, R149, R204: most significant byte first) -/

/-- The low k bytes of n, most significant first. -/
def be : Nat → Nat → List Byte
  | 0, _ => []
  | k + 1, n => BitVec.ofNat 8 (n / 256 ^ k) :: be k n

/-- A signed value in k bytes, two's complement. -/
def beInt (k : Nat) (i : Int) : List Byte := be k (i % (256 ^ k : Int)).toNat

/-- The unsigned value of bytes, most significant first. -/
def fromBe (bs : List Byte) : Nat := bs.foldl (fun acc b => acc * 256 + b.toNat) 0

/-- The two's complement value of bytes, most significant first. -/
def fromBeInt (bs : List Byte) : Int :=
  let n := fromBe bs
  if n < 256 ^ bs.length / 2 then n else (n : Int) - 256 ^ bs.length

/-- Bytes i to i + k - 1 of a body. -/
def field (bs : List Byte) (i k : Nat) : List Byte := (bs.drop i).take k

/-- The unsigned field of k bytes at offset i. -/
def num (bs : List Byte) (i k : Nat) : Nat := fromBe (field bs i k)

/-- A station time in 7 bytes: seconds in 4, ticks in 3 (section 2.10). -/
def timeBytes (t : StationTime) : List Byte := be 4 (secPart t) ++ be 3 (tickPart t)

/-- A station time that may be absent: ticks part FFFFFFH, seconds 0 (section 2.10). -/
def timeBytesOpt : Option StationTime → List Byte
  | some t => timeBytes t
  | none => be 4 0 ++ be 3 0xFFFFFF

/-- The station-time field at offset i; absent from the model's answer when its ticks part is above 1,048,575 (R37). -/
def timeAt (bs : List Byte) (i : Nat) : Option StationTime :=
  if num bs (i + 4) 3 < tps then some (num bs i 4 * tps + num bs (i + 4) 3) else none

/-! ## CRC, check field, random source -/

/-- One bit into the CRC register, polynomial 1021H (R24). -/
def crcBit (crc : BitVec 16) (bit : Bool) : BitVec 16 :=
  if (crc.getLsbD 15).xor bit then (crc <<< 1) ^^^ 0x1021#16 else crc <<< 1

/-- The bits of a byte, most significant first (R21). -/
def bitsOf (b : Byte) : List Bool := [7, 6, 5, 4, 3, 2, 1, 0].map b.getLsbD

/-- The CRC-16 of bytes in the order sent, initial value FFFFH, no final inversion (R24). -/
def crc16 (bs : List Byte) : BitVec 16 := (bs.flatMap bitsOf).foldl crcBit 0xFFFF#16

/-- One step of the 15-stage generator: stage n is bit n - 1; stage 1 takes stage 15 XOR stage 14 (R25). -/
def checkStep (g : BitVec 15) : BitVec 15 :=
  (g <<< 1) ||| (if (g.getLsbD 14).xor (g.getLsbD 13) then 1#15 else 0#15)

/-- The first n output bits of the generator; stage 15 is the output (R25). -/
def checkBits : Nat → BitVec 15 → List Bool
  | 0, _ => []
  | n + 1, g => g.getLsbD 14 :: checkBits n (checkStep g)

/-- The check field of a frame from its sender and sequence, first bit first (R25). -/
def checkField (sender seq : Nat) : List Bool := checkBits 32 (BitVec.ofNat 15 (256 * sender + seq))

/-- The number of differing bits of the received check field (R25). -/
def checkErrors (sender seq : Nat) (received : List Byte) : Nat :=
  (List.zipWith Bool.xor (checkField sender seq) (received.flatMap bitsOf)).count true

/-- One step of the random source: stage 1 takes the XOR of stages 16, 14, 13 and 11 (R28; its direction as in R25, log
entry 9, DEDUCED). -/
def randomStep (g : BitVec 16) : BitVec 16 :=
  (g <<< 1) ||| (if ((g.getLsbD 15).xor (g.getLsbD 13)).xor ((g.getLsbD 12).xor (g.getLsbD 10)) then 1#16 else 0#16)

/-- A draw advances the source by 16 steps (R28). -/
def randomDraw (g : BitVec 16) : BitVec 16 := (List.range 16).foldl (fun acc _ => randomStep acc) g

/-! ## Codes of section 2.10 -/

def OpMode.code : OpMode → Nat
  | .active => 1 | .economy => 2 | .dormant => 3 | .shelter => 4

def opModeOf : Nat → Option OpMode
  | 1 => some .active | 2 => some .economy | 3 => some .dormant | 4 => some .shelter | _ => none

def BatClass.code : BatClass → Nat
  | .good => 0 | .lean => 1 | .low => 2 | .critical => 3

def batClassOf : Nat → Option BatClass
  | 0 => some .good | 1 => some .lean | 2 => some .low | 3 => some .critical | _ => none

def TrigState.code : TrigState → Nat
  | .stopped => 0 | .settling => 1 | .off => 2 | .on => 3 | .hold => 4

def trigStateOf : Nat → Option TrigState
  | 0 => some .stopped | 1 => some .settling | 2 => some .off | 3 => some .on | 4 => some .hold | _ => none

def FrameKind.code : FrameKind → Nat
  | .beacon => 1 | .notice => 2 | .declaration => 3 | .probe => 4 | .reply => 5 | .serviceRequest => 6 | .serviceReport => 7

/-- Codes 0 and 8 to 15 are unknown kinds (section 2.5). -/
def frameKindOf : Nat → Option FrameKind
  | 1 => some .beacon | 2 => some .notice | 3 => some .declaration | 4 => some .probe | 5 => some .reply
  | 6 => some .serviceRequest | 7 => some .serviceReport | _ => none

def NoticeKind.code : NoticeKind → Nat
  | .onset => 0 | .finish => 1

/-! ## The header (R23; the half-bytes by the convention of R200, log entry 8) -/

def Header.kindCode (h : Header) : Nat := h.kindSender.toNat % 16
def Header.sender (h : Header) : Nat := h.kindSender.toNat / 16
def Header.target (h : Header) : Nat := h.targetFlags.toNat % 16
def Header.wake (h : Header) : Bool := h.targetFlags.getLsbD 4
def Header.muster (h : Header) : Bool := h.targetFlags.getLsbD 5
def Header.bytes (h : Header) : List Byte := [h.kindSender, h.targetFlags, h.length, h.sequence]

/-- The header the transmitter fills (R23). -/
def headerBytes (kind : FrameKind) (own target : Nat) (wake muster defaulted conflict : Bool) (length seq : Nat) : List Byte :=
  [BitVec.ofNat 8 (kind.code + 16 * own),
   BitVec.ofNat 8 (target + 16 * (wake.toNat + 2 * muster.toNat + 4 * defaulted.toNat + 8 * conflict.toNat)),
   BitVec.ofNat 8 length, BitVec.ofNat 8 seq]

/-! ## Bodies -/

/-- A BEACON body (section 2.10). -/
structure BeaconBody where
  stamp : StationTime
  quality : Nat
  distance : Nat
  mode : OpMode
  cls : BatClass
  code : Nat
  trig : TrigState
  lastOnset : Option StationTime
  peak : Nat
  unset : Bool
deriving DecidableEq, Repr

/-- An EVENT DECLARATION participant: station, onset offset in ms, peak ratio (section 2.10). -/
structure DeclPart where
  station : Nat
  offset : Nat
  peak : Nat
deriving DecidableEq, Repr

/-- An EVENT DECLARATION body (section 2.10). -/
structure DeclBody where
  id : EventId
  update : Nat
  earliest : StationTime
  parts : List DeclPart
deriving DecidableEq, Repr

/-- A RANGE REPLY body (section 2.10). -/
structure ReplyBody where
  t1 : StationTime
  t2 : StationTime
  t3 : StationTime
deriving DecidableEq, Repr

/-- A SERVICE REQUEST body (section 2.10). -/
structure RequestBody where
  code : Nat
  argument : Nat
deriving DecidableEq, Repr

/-- An accepted body by its kind; a SERVICE REPORT's body is not read (R40). -/
inductive Body where
  | beacon (b : BeaconBody)
  | notice (n : Notice)
  | declaration (d : DeclBody)
  | probe (t1 : StationTime)
  | reply (r : ReplyBody)
  | request (q : RequestBody)
  | report
deriving DecidableEq, Repr

/-- Read a BEACON body; none where it breaks its form (R37). -/
def readBeacon (bs : List Byte) : Option BeaconBody :=
  if bs.length ≠ 24 then none
  else match timeAt bs 0, opModeOf (num bs 11 1), batClassOf (num bs 12 1), trigStateOf (num bs 14 1) with
    | some stamp, some mode, some cls, some trig =>
      if 15 < num bs 10 1 ∨ num bs 13 1 < 2 ∨ 10 < num bs 13 1 then none
      else if num bs 19 3 = 0xFFFFFF then
        some { stamp, quality := num bs 7 3, distance := num bs 10 1, mode, cls, code := num bs 13 1, trig,
               lastOnset := none, peak := num bs 22 1, unset := num bs 23 1 % 2 = 1 }
      else match timeAt bs 15 with
        | none => none
        | some onset =>
          some { stamp, quality := num bs 7 3, distance := num bs 10 1, mode, cls, code := num bs 13 1, trig,
                 lastOnset := some onset, peak := num bs 22 1, unset := num bs 23 1 % 2 = 1 }
    | _, _, _, _ => none

/-- The BEACON body as sent (section 2.10). -/
def beaconBytes (b : BeaconBody) : List Byte :=
  timeBytes b.stamp ++ be 3 b.quality ++ be 1 b.distance ++ be 1 b.mode.code ++ be 1 b.cls.code ++ be 1 b.code ++
  be 1 b.trig.code ++ timeBytesOpt b.lastOnset ++ be 1 b.peak ++ be 1 b.unset.toNat

/-- Read a TRIGGER NOTICE body (R37). -/
def readNotice (bs : List Byte) : Option Notice :=
  if bs.length ≠ 12 then none
  else match timeAt bs 0 with
    | none => none
    | some onset =>
      if 1 < num bs 7 1 ∨ num bs 8 1 < 1 ∨ 7 < num bs 8 1 then none
      else some { kind := if num bs 7 1 = 0 then .onset else .finish, onset, mask := num bs 8 1, peak := num bs 9 1,
                  duration := num bs 10 2 }

/-- The TRIGGER NOTICE body as sent. -/
def noticeBytes (n : Notice) : List Byte :=
  timeBytes n.onset ++ be 1 n.kind.code ++ be 1 n.mask ++ be 1 n.peak ++ be 2 n.duration

/-- The participants of an EVENT DECLARATION body. -/
def readParts (bs : List Byte) (count : Nat) : List DeclPart :=
  (List.range count).map fun i =>
    { station := num bs (11 + 4 * i) 1, offset := num bs (12 + 4 * i) 2, peak := num bs (14 + 4 * i) 1 }

/-- Read an EVENT DECLARATION body (R37). An onset offset is no enumerated field, count or id, and is read as it stands
(log entry 46). -/
def readDecl (bs : List Byte) : Option DeclBody :=
  if bs.length < 11 ∨ bs.length ≠ 11 + 4 * num bs 10 1 then none
  else match timeAt bs 3 with
    | none => none
    | some earliest =>
      let parts := readParts bs (num bs 10 1)
      if num bs 0 1 < 1 ∨ 14 < num bs 0 1 ∨ 3 < num bs 2 1 ∨ num bs 10 1 < 1 ∨ 14 < num bs 10 1 ∨
         parts.any (fun p => p.station < 1 || 14 < p.station) ∨ ¬ (parts.map DeclPart.station).Nodup then none
      else some { id := { origin := num bs 0 1, seq := num bs 1 1 }, update := num bs 2 1, earliest, parts }

/-- The EVENT DECLARATION body as sent. -/
def declBytes (d : DeclBody) : List Byte :=
  be 1 d.id.origin ++ be 1 d.id.seq ++ be 1 d.update ++ timeBytes d.earliest ++ be 1 d.parts.length ++
  d.parts.flatMap (fun p => be 1 p.station ++ be 2 p.offset ++ be 1 p.peak)

/-- Read a RANGE REPLY body (R37). -/
def readReply (bs : List Byte) : Option ReplyBody :=
  if bs.length ≠ 21 then none
  else match timeAt bs 0, timeAt bs 7, timeAt bs 14 with
    | some t1, some t2, some t3 => some { t1, t2, t3 }
    | _, _, _ => none

/-- Read the body of a known kind; none where it breaks its kind's form (R37, section 2.10). The target is part of the form:
0 for BEACON, TRIGGER NOTICE and EVENT DECLARATION, not 0 for the others. The status of a SERVICE REPORT is OK or UNKNOWN
(R203). -/
def readBody (kind : FrameKind) (target : Nat) (bs : List Byte) : Option Body :=
  match kind with
  | .beacon => if target ≠ 0 then none else (readBeacon bs).map .beacon
  | .notice => if target ≠ 0 then none else (readNotice bs).map .notice
  | .declaration => if target ≠ 0 then none else (readDecl bs).map .declaration
  | .probe => if target = 0 ∨ bs.length ≠ 7 then none else (timeAt bs 0).map .probe
  | .reply => if target = 0 then none else (readReply bs).map .reply
  | .serviceRequest => if target = 0 ∨ bs.length ≠ 2 then none else some (.request { code := num bs 0 1, argument := num bs 1 1 })
  | .serviceReport => if target = 0 ∨ bs.length < 3 ∨ 80 < bs.length ∨ 1 < num bs 2 1 then none else some .report

/-! ## The frame on the medium (section 2.2) -/

/-- The link rate of a rate code, bit/s (R200). -/
def linkRate : Nat → Nat
  | 0 => 9600 | 1 => 19200 | _ => 38400

/-- The uplink rate of a rate code, bit/s (R200). -/
def uplinkRate : Nat → Nat
  | 0 => 9600 | 1 => 19200 | _ => 57600

/-- The 4-bit groups of the wake preamble (R26). -/
def wakeGroups : Nat → Nat
  | 0 => 39 | 1 => 77 | _ => 154

/-- The CRC bytes of header and body (R24). -/
def crcBytes (bs : List Byte) : List Byte := be 2 (crc16 bs).toNat

/-- Every bit of a frame in flight, in the order it leaves LK_TXD, at a link rate code (section 2.2). -/
def TxFrame.lineBits (f : TxFrame) (rateCode : Nat) : List Bool :=
  (if f.wake then (List.replicate (wakeGroups rateCode) [true, true, false, false]).flatten else []) ++
  (List.replicate 12 [true, false]).flatten ++ ([0xB4#8, 0xE3#8] ++ f.header ++ f.body ++ crcBytes (f.header ++ f.body)).flatMap bitsOf ++
  checkField (num f.header 0 1 / 16) (num f.header 3 1)

/-- The sample rate of a rate code, sets per second (R200). -/
def sampleRate : Nat → Nat
  | 0 => 50 | 1 => 100 | _ => 200

/-! ## A sample set (R77, R79) -/

/-- The byte of up to eight bits, most significant first (section 5.2). -/
def byteOfBits (bits : List Bool) : Byte := BitVec.ofNat 8 (bits.foldl (fun n b => 2 * n + b.toNat) 0)

/-- The ten bytes of the 80 bits of a set, first bit first (section 5.2). -/
def setBytes (bits : List Bool) : List Byte := (List.range 10).map fun i => byteOfBits ((bits.drop (8 * i)).take 8)

structure SampleSet where
  z : Int
  n : Int
  e : Int
  overZ : Bool
  overN : Bool
  overE : Bool
  calibration : Bool
deriving DecidableEq, Repr

/-- Decode the ten bytes of a set (R79, section 5.2). -/
def decodeSet (b : List Byte) : SampleSet :=
  let st := (b.getD 9 0)
  { z := fromBeInt (field b 0 3), n := fromBeInt (field b 3 3), e := fromBeInt (field b 6 3), overZ := st.getLsbD 0,
    overN := st.getLsbD 1, overE := st.getLsbD 2, calibration := st.getLsbD 3 }

end Sys2Proof.Machine
end

