-- ==== Sys2Proof/Machine/Flags.lean ====
section
/-! DEFINITION. What other blocks and the outside read off the state: hot, the derived values of the peer table, the
conditions on records, the indicator signals and the output pins. -/
namespace Sys2Proof.Machine

/-! ## Records and triggers -/

/-- The station trigger is ON or HOLD. -/
def Trigger.active (t : Trigger) : Bool := t.state == .on || t.state == .hold

/-- The live states are DECLARED and ADOPTED (section 7.3). -/
def RecState.live : RecState → Bool
  | .declared | .adopted => true
  | _ => false

/-- HOLDOFF, DECLARED or ADOPTED (R71, R185). -/
def RecState.open : RecState → Bool
  | .holdoff | .declared | .adopted => true
  | _ => false

/-- The event table holds a HOLDOFF, DECLARED or ADOPTED record. -/
def State.openEvent (s : State) : Bool := s.cu.events.any (fun r => r.state.open)

/-- The indicator signal *live event* (R140). -/
def State.liveEvent (s : State) : Bool := s.cu.events.any (fun r => r.state.live)

/-- The enable mask's bit of a component: 0 Z, 1 N, 2 E (section 6.1). -/
def State.enabled (s : State) (i : Nat) : Bool := s.cs.image.mask.testBit i

/-- The number of enabled channels. -/
def State.enabledCount (s : State) : Nat := (s.enabled 0).toNat + (s.enabled 1).toNat + (s.enabled 2).toNat

/-- The hot indication (R105). -/
def State.hot (s : State) : Bool :=
  s.td.active || (s.enabled 0 && s.td.z.warm) || (s.enabled 1 && s.td.n.warm) || (s.enabled 2 && s.td.e.warm)

/-- The effective ratios (R94). -/
def State.rOnEff (s : State) : Nat := min 255 (s.cs.image.rOn + s.td.trim)
def State.rOffEff (s : State) : Nat := min (s.rOnEff - 1) (s.cs.image.rOff + s.td.trim)
def State.rQuietEff (s : State) : Nat := min s.rOnEff (s.cs.image.rQuiet + s.td.trim)

/-! ## The peer table (R52, R53) -/

/-- A record counts as awake (R52). -/
def PeerRecord.isAwake (r : PeerRecord) : Bool := r.mode == some .active || r.mode == some .economy

/-- Dormant present (R52). -/
def State.dormantPresent (s : State) : Bool := s.peers.any (fun r => r.mode == some .dormant)

/-- The awake count (R52). At a listen-only station, whose table has 14 places, it can reach 15, and it is not held to R52's range
(log entry 47). -/
def State.awakeCount (s : State) : Nat := 1 + (s.peers.filter PeerRecord.isAwake).length

/-- A record ranks above the own station (R53); a lower class code is a better class. -/
def State.ranksAbove (s : State) (r : PeerRecord) : Bool :=
  match r.cls with
  | none => false
  | some c => c.code < s.bm.cls.code || (c.code == s.bm.cls.code && r.id < s.ownId)

/-- The watch count (R53). At a listen-only station it can reach 14, and it is not held to R53's range (log entry 47). -/
def State.watchCount (s : State) : Nat := (s.peers.filter (fun r => r.isAwake && s.ranksAbove r)).length

/-- The record of a station id. -/
def State.peer (s : State) (id : Nat) : Option PeerRecord := s.peers.find? (fun r => r.id == id)

/-- The age of a record in ticks, held in own dormancy (R50). -/
def State.peerAge (s : State) (r : PeerRecord) : Nat := r.heldAge.getD (since s.now r.lastHeard)

/-- The freshness limit of a record in ticks (R50). -/
def State.freshLimit (s : State) (r : PeerRecord) : Nat := secs (4 * 2 ^ (r.code.getD s.cs.image.b))

/-! ## Uplink -/

/-- The queue and the stacked list are both empty. -/
def Uplink.allEmpty (u : Uplink) : Bool := u.queue.isEmpty && u.stacked.isEmpty

/-- UP_PWR (section 8.3). -/
def Modem.power : Modem → Bool
  | .off | .powerCycle => false
  | _ => true

/-- The priority of an alert kind (section 8.2). -/
def AlertKind.priority : AlertKind → Nat
  | .event => 1 | .retract => 2 | .update => 3 | .health => 4

/-- EVENT and UPDATE are report alerts (section 8.2). -/
def AlertKind.isReport : AlertKind → Bool
  | .event | .update => true
  | _ => false

/-- In transfer: SENDING or AWAITING (R143). -/
def Turn.inTransfer : Turn → Bool
  | .sending | .awaiting => true
  | _ => false

/-- The head: the first READY alert (R143). -/
def Uplink.head (u : Uplink) : Option Alert := u.queue.find? (fun a => a.turn == .ready)

/-! ## Heater temperatures and caps (R171, R173) -/

def Level.rank : Level → Nat
  | .off => 0 | .quarter => 1 | .third => 2 | .half => 3 | .full => 4

/-- The lower of two levels (section 10.1). -/
def Level.lower (a b : Level) : Level := if a.rank ≤ b.rank then a else b

def Level.onSlots : Level → Nat
  | .off => 0 | .quarter => 3 | .third => 4 | .half => 6 | .full => 12

/-- The class cap (R173). -/
def classCap : HeaterId → BatClass → Level
  | .b, .good => .full | .b, .lean => .half | .b, .low => .quarter | .b, .critical => .off
  | .s, .good => .full | .s, .lean => .quarter | .s, .low => .off | .s, .critical => .off

/-- The mode cap (R173). -/
def modeCap : HeaterId → Option OpMode → Level
  | _, some .active => .full | _, some .economy => .full
  | .b, some .dormant => .quarter | .s, some .dormant => .off
  | _, some .shelter => .off | _, none => .off

/-- The allowance: the lower of the two caps (R173). -/
def State.allowance (s : State) (h : HeaterId) : Level := (classCap h s.bm.cls).lower (modeCap h s.mc.standing.mode)

/-- The setpoint in force (R171). -/
def State.setpoint (s : State) : HeaterId → Int
  | .b => if s.pins.chgAvl then s.cs.image.chargeSet else s.cs.image.batterySet
  | .s => s.cs.image.sensorSet

/-- The temperature a heater uses, absent while it is stale (R171). -/
def State.heaterTemp (s : State) : HeaterId → Option Int
  | .b => if s.bm.stale then none else s.bm.temp
  | .s => if s.bm.staleA then none else s.bm.tempA

def State.heater (s : State) : HeaterId → Heater
  | .b => s.hc.b
  | .s => s.hc.s

/-! ## Quality, sample input, configuration -/

/-- The indicator signal *SI FAULT* (R84). -/
def SampleIf.faultSignal (si : SampleIf) : Bool := si.grid == .fault || (si.grid == .unaligned && si.faultHeld)

/-- The fast oscillator is handed to its users (R189) or runs as the clock source. -/
def State.oscReady (s : State) : Bool := s.mc.handed

/-! ## Indicators and output pins (R206, section 12.6) -/

/-- The signal of an indicator code (R206). -/
def State.signal (s : State) : Nat → Bool
  | 1 => s.td.active
  | 2 => s.liveEvent
  | 3 => s.rmu.state == .locked
  | 4 => s.tb.quality ≤ 1048
  | 5 => s.bm.cls == .low || s.bm.cls == .critical
  | 6 => s.hc.b.output
  | 7 => s.hc.s.output
  | 8 => s.bm.chargeEn
  | 9 => s.uc.modem.power
  | 10 => s.lc.tx.isSome
  | 11 => s.pins.lkCd
  | 12 => s.dormant
  | 13 => s.cs.defaulted
  | 14 => s.lc.idConflict
  | 15 => s.si.faultSignal
  | _ => false

/-- Loading has ended since the last reset, so the indicator lines show their signals (R206). -/
def State.linesShown (s : State) : Bool :=
  !s.mc.held && !(s.mc.standing == .crystalWait || s.mc.standing == .loading)

/-- The level of indicator line i (R206). -/
def State.indicator (s : State) (i : Nat) : Bool :=
  s.linesShown &&
    s.signal (match i with | 0 => s.cs.image.ind0 | 1 => s.cs.image.ind1 | 2 => s.cs.image.ind2 | _ => s.cs.image.ind3)

/-- The output pins that are held as levels (section 12.6). -/
structure Outputs where
  lkTxen : Bool
  digSync : Bool
  upPwr : Bool
  htrB : Bool
  htrS : Bool
  chargeEn : Bool
  ind : List Bool
deriving DecidableEq, Repr

/-- The levels of the output pins. -/
def State.outputs (s : State) : Outputs :=
  { lkTxen := s.lc.tx.isSome, digSync := s.si.digSync.isSome, upPwr := s.uc.modem.power, htrB := s.hc.b.output,
    htrS := s.hc.s.output, chargeEn := s.bm.chargeEn, ind := [s.indicator 0, s.indicator 1, s.indicator 2, s.indicator 3] }

end Sys2Proof.Machine
end

