-- ==== Sys2Proof/Machine/Timebase.lean ====
section
/-! DEFINITION. The Timebase (chapter 1): advance of station time and the elapsed count, source requests, calibration,
quality, distance and the step itself. -/
namespace Sys2Proof.Machine

/-- The limit of the applied rate word (section 1.1). -/
def rateLimit : Int := 214748

/-- The applied rate word R (R4). -/
def Timebase.applied (t : Timebase) : Int :=
  match t.pendingStep with
  | some .plus => rateLimit
  | some .minus => -rateLimit
  | none => clampInt (t.rBase + t.rPhase) (-rateLimit) rateLimit

/-- The carry of the fraction accumulator: the new fraction, and the tick added or withheld (R3, R5). -/
def carryFrac (x : Int) : Nat × Int :=
  if 4294967296 ≤ x then ((x - 4294967296).toNat, 1)
  else if x < 0 then ((x + 4294967296).toNat, -1)
  else (x.toNat, 0)

/-- Station time advances by n ticks, held at the greatest station time; a rise of the seconds part is a second boundary
(R1). An open calibration window counts the ticks (R6). -/
def Timebase.advance (t : Timebase) (n : Nat) : Timebase :=
  let time := min (t.time + n) maxTime
  { t with
    time := time
    boundaries := if secPart t.time < secPart time then t.boundaries ++ [secPart time] else t.boundaries
    calWindow := t.calWindow.map fun w => if w.cycles < 32768 then { w with m := w.m + (time - t.time) } else w }

/-- The elapsed count advances by n ticks; a crossing of a whole multiple of 2^20 is an elapsed second (R2). -/
def Timebase.elapse (t : Timebase) (n : Nat) : Timebase :=
  { t with
    elapsed := t.elapsed + BitVec.ofNat 48 n
    elapsedSeconds := t.elapsedSeconds + (t.elapsed.toNat % tps + n) / tps }

/-- One nominal tick on the fast oscillator (R3). -/
def Timebase.fastTick (t : Timebase) : Timebase :=
  let c := carryFrac (t.frac + t.applied)
  { (t.elapse 1).advance (1 + c.2).toNat with frac := c.1 }

/-- One slow cycle in SLOW or WARMING (R5). -/
def Timebase.slowTick (t : Timebase) : Timebase :=
  let c := carryFrac (t.frac - 32 * t.cSlow)
  { (t.elapse 32).advance (32 + c.2).toNat with frac := c.1 }

/-! ## Calibration (R6, R7) -/

/-- The calibration period timer runs in ACTIVE or ECONOMY on the fast source (R6). -/
def State.calRuns (s : State) : Bool := s.awake && s.tb.source == .fast

/-- The calibration period timer starts from zero, if it runs at all; else it stops (R6, R7). A window whose period has expired and
that still waits for its slow-cycle boundary, of which R6 and R7 do not speak, is dropped with it; over a step it goes on waiting,
since `calDiscard` comes here only from an open window (log entry 68, DESIGN CHOICE). -/
def calRestart (s : State) : State :=
  s.setTb { s.tb with calTimer := if s.calRuns then s.startTimer (secs 64) else none, calOpening := false }

/-- An open window is discarded and counted, and the timer starts again (R7). -/
def calDiscard (s : State) : State :=
  if s.tb.calWindow.isSome then calRestart (bump .calibrationDiscards (s.setTb { s.tb with calWindow := none })) else s

/-- The mode has changed or the source has left FAST: an open window is discarded, and the timer starts from zero or stops
(R6, R7). -/
def calModeChange (s : State) : State := calRestart (calDiscard s)

/-- The filter of a completed window (R6). -/
def calFilter (cSlow : Int) (m : Nat) : Int :=
  clampInt (cSlow + ((1048576 - (m : Int)) * 4096 - cSlow) / 4) (-858993) 858993

/-! ## Source requests (R3; log entry 12) -/

/-- A run on fast request: in SLOW it starts WARMING; in WARMING or FAST it changes nothing, so that a run on slow that waits for
its boundary is still taken there (R3; log entry 12). -/
def runFast (s : State) : State :=
  if s.tb.source == .slow then s.setTb { s.tb with source := .warming, warmUp := 0 } else s

/-- A run on slow request: taken at the next slow-cycle boundary; in SLOW it changes nothing (R3). -/
def runSlow (s : State) : State :=
  if s.tb.source == .slow then s else s.setTb { s.tb with slowAsked := true }

/-! ## Distance, quality (R8, R9) -/

/-- A distance of 0 becomes 1; any other is kept (R8). -/
def distanceUnlocked (s : State) : State :=
  if s.tb.distance == 0 then s.setTb { s.tb with distance := 1 } else s

/-- The growth of the time quality at an elapsed second (R9). -/
def State.qualityGrowth (s : State) : Nat := if s.awake then (if s.tb.steered then 0 else 1) else 16

/-! ## The step (R12) -/

/-- Station time moved by n ticks and held at its limits (R12 item 1). -/
def stepTime (time : StationTime) (n : Int) : StationTime := (clampInt (time + n) 0 maxTime).toNat

/-- The Timebase's own part of a step of n ticks (R12); the readers' actions on the notice follow it. -/
def tbStep (n : Int) (s : State) : State :=
  bump .stepsApplied (calDiscard (s.setTb
    { s.tb with time := stepTime s.tb.time n, rPhase := 0, pendingStep := none, unset := false }))

/-- The applied step A (R12 item 2). -/
def stepApplied (time : StationTime) (n : Int) : Int := (stepTime time n : Int) - time

end Sys2Proof.Machine
end

