-- ==== Sys2Proof/Machine/TwoWire.lean ====
section
/-! DEFINITION. The Two-Wire Master (chapter 12.2): the pending places, the bus, and the ends of a transaction. -/
namespace Sys2Proof.Machine

/-- The pending place of a user (R201). -/
def TwoWire.place (t : TwoWire) : TwUser → Option TwReq
  | .loader => t.loader
  | .label => t.label
  | .battery => t.battery
  | .tempA => t.tempA
  | .tempB => t.tempB

/-- A user's place is set (R201). -/
def TwoWire.setPlace (t : TwoWire) (u : TwUser) (r : Option TwReq) : TwoWire :=
  match u with
  | .loader => { t with loader := r }
  | .label => { t with label := r }
  | .battery => { t with battery := r }
  | .tempA => { t with tempA := r }
  | .tempB => { t with tempB := r }

/-- The users, in the order of section 12.2. -/
def twUsers : List TwUser := [.loader, .label, .battery, .tempA, .tempB]

/-- What a user's transaction puts on the bus: the device address, the bytes written before the read, and the bytes read. -/
structure TwTransaction where
  address : Nat
  written : List Byte
  reads : Nat
deriving DecidableEq, Repr

/-- The transactions of the users (the table of section 12.2). -/
def State.twTransaction (s : State) : TwUser → TwTransaction
  | .loader => { address := 0x57, written := [0x00#8], reads := 64 }
  | .label => { address := s.cs.image.receiverAddr, written := [], reads := 5 }
  | .battery => { address := s.cs.image.batteryAddr, written := [], reads := 6 }
  | .tempA => { address := s.cs.image.sensorAAddr, written := [], reads := 2 }
  | .tempB => { address := s.cs.image.sensorBAddr, written := [], reads := 2 }

/-- A request fills its user's place, replacing one there (R201). -/
def twRequest (u : TwUser) (s : State) : State := s.setTwm (s.twm.setPlace u (some { wanted := true }))

/-- A user's transaction is pending or on the bus and its result is still wanted (R159). -/
def TwoWire.busyFor (t : TwoWire) (u : TwUser) : Bool :=
  (t.place u).any (fun r => r.wanted) || t.bus.any (fun b => b.user == u && b.wanted)

/-- The first full place in the order of section 12.2 (R201). -/
def TwoWire.firstFull (t : TwoWire) : Option TwUser := twUsers.find? (fun u => (t.place u).isSome)

/-- The free-bus check with TW_SCL high: TW_SDA low makes TWM send a recovery, which is counted (R202 step 1). -/
def freeBusCheck (s : State) : State :=
  let check : TwCheck := if s.pins.sda then .clear else .recovered
  bumpIf (!s.pins.sda) .busRecoveries (s.setTwm { s.twm with bus := s.twm.bus.map (fun b => { b with check := check }) })

/-- The transaction of a user starts: the place empties and the bus is BUSY; with TW_SCL low TWM waits for it to rise
(R201, R202 step 1). -/
def twStart (u : TwUser) (s : State) : State :=
  let wanted := (s.twm.place u).any (fun r => r.wanted)
  let s := s.setTwm { s.twm.setPlace u none with bus := some { user := u, wanted := wanted, check := .waiting } }
  if s.pins.scl then freeBusCheck s else s

/-- With the bus IDLE, the fast oscillator handed over and a place full, the first full place starts (R201, R189). -/
def twKick (s : State) : State :=
  if s.twm.bus.isNone && s.oscReady then
    match s.twm.firstFull with
    | some u => twStart u s
    | none => s
  else s

/-- TW_SCL has been sampled: a transaction that waited for it goes on when it is high (R202 step 1). -/
def twSclSampled (s : State) : State :=
  match s.twm.bus with
  | some b =>
    if b.check = .waiting && s.pins.scl then freeBusCheck s else s
  | none => s

/-- The counter of an end of a transaction (R202). -/
def twCountEnd {n : Nat} (r : TwEnd n) (s : State) : State :=
  match r with
  | .complete _ => s
  | .nack => bump .twNacks s
  | .timeout => bump .stretchTimeouts s
  | .busStuck => bump .busStucks s

/-- A transaction may end so now: while TWM still waits for TW_SCL only the timeout can end it, and bus-stuck ends it only after
a recovery (R202 step 1, log entry 33). -/
def TwBus.mayEnd {n : Nat} (b : TwBus) (r : TwEnd n) : Bool :=
  match b.check, r with
  | .waiting, .timeout => true
  | .waiting, _ => false
  | .clear, .busStuck => false
  | .clear, _ => true
  | .recovered, _ => true

/-- The transaction of a user that the end r ends, if one is on the bus (R201). -/
def State.twEnding {n : Nat} (s : State) (u : TwUser) (r : TwEnd n) : Option TwBus :=
  s.twm.bus.filter (fun b => b.user == u && b.mayEnd r)

/-- The transaction ends: the bus is IDLE and the fault is counted (R201, R202). -/
def twEnd {n : Nat} (r : TwEnd n) (s : State) : State := twCountEnd r (s.setTwm { s.twm with bus := none })

/-- The results of a user's pending request and transaction go to no one any more (R15, R19, R202). -/
def twDiscard (u : TwUser) (s : State) : State :=
  let t := s.twm.setPlace u ((s.twm.place u).map (fun _ => { wanted := false }))
  s.setTwm { t with bus := t.bus.map (fun b => if b.user == u then { b with wanted := false } else b) }

/-- The users with a request pending or a transaction on the bus (R189). -/
def TwoWire.working (t : TwoWire) : List TwUser :=
  twUsers.filter (fun u => (t.place u).isSome || t.bus.any (fun b => b.user == u))

/-- The Two-Wire Master at RESTART: every place empties, and a transaction on the bus runs on to no user (R202). -/
def TwoWire.restart (t : TwoWire) : TwoWire :=
  { TwoWire.reset with bus := t.bus.map (fun b => { b with wanted := false }) }

end Sys2Proof.Machine
end

