-- ==== Sys2Proof/Machine/Slots.lean ====
section
/-! DEFINITION. The request slots of the Link Controller (R29, R39, R41): which requests are taken, and withdrawals. -/
namespace Sys2Proof.Machine

/-- LC takes requests of every kind: awake and not listen-only (R39, R41). -/
def State.lcTakes (s : State) : Bool := s.awake && !s.listenOnly

/-- LC takes an ordinary BEACON request: awake or DORMANT (R41). -/
def State.lcTakesBeacon (s : State) : Bool := (s.awake || s.dormant) && !s.listenOnly

def State.setSlots (s : State) (x : Slots) : State := s.setLc { s.lc with slots := x }

/-- No slot is filled. -/
def Slots.allEmpty (x : Slots) : Bool :=
  x.declaration.isNone && x.notice.isNone && x.reply.isNone && x.probe.isNone && x.beacon.isNone && x.report.isNone

/-- A TRIGGER NOTICE request (R29); dropped at once where LC does not take it (R39, R41). -/
def requestNotice (n : Notice) (s : State) : State :=
  if s.lcTakes then s.setSlots { s.lc.slots with notice := some { moment := s.now, notice := n } } else s

/-- A RANGE REPLY request (R61). -/
def requestReply (target : Nat) (t1 : StationTime) (t2 : Stamp) (s : State) : State :=
  if s.lcTakes then
    s.setSlots { s.lc.slots with reply := some { moment := s.now, target := target, t1 := t1, t2 := t2 } }
  else s

/-- A RANGE PROBE request (R59). -/
def requestProbe (target : Nat) (s : State) : State :=
  if s.lcTakes then s.setSlots { s.lc.slots with probe := some { moment := s.now, target := target } } else s

/-- The standing request of the Coincidence Unit (R130, R31). -/
def requestDeclaration (s : State) : State :=
  if s.lcTakes && s.lc.slots.declaration.isNone then s.setSlots { s.lc.slots with declaration := some s.now } else s

/-- A BEACON request fills the slot, replacing one there; in DORMANT it joins the brief-run users (R35, R189). -/
def fillBeacon (mark : BeaconMark) (s : State) : State :=
  let s := s.setSlots { s.lc.slots with beacon := some { moment := s.now, mark := mark } }
  if s.dormant then s.setMc { s.mc with users := { s.mc.users with beacon := some s.now } } else s

/-- An ordinary BEACON request (R35). -/
def requestBeacon (s : State) : State := if s.lcTakesBeacon then fillBeacon .ordinary s else s

/-- The frame in flight is a probe whose exchange has ended: its stamp concerns no exchange any more (R60). -/
def forgetProbeInFlight (s : State) : State :=
  s.setLc { s.lc with tx := s.lc.tx.map (fun f =>
    match f.owner with
    | .probe _ => { f with owner := .probe 0 }
    | _ => f) }

/-- A report segment in flight no longer belongs to the pending request (R203). -/
def forgetReportInFlight (s : State) : State :=
  s.setLc { s.lc with tx := s.lc.tx.map (fun f =>
    match f.owner with
    | .report _ last => { f with owner := .report false last }
    | _ => f) }

/-- The beacon period of the mode (R35). -/
def State.beaconPeriod (s : State) : Option Nat :=
  match s.mc.standing.mode with
  | some .active => some (secs (2 ^ s.cs.image.b))
  | some .economy => some (secs (2 ^ s.cs.image.b))
  | some .dormant => some (secs (16 * 2 ^ s.cs.image.b))
  | some .shelter => none
  | none => none

/-- The beacon timer restarts with the current period; the beacon timer of a listen-only station does not run (R35, R39). -/
def beaconTimerRestart (s : State) : State :=
  s.setLc { s.lc with beaconTimer :=
    if s.listenOnly then none else s.beaconPeriod.map (fun p => { start := s.now, period := p }) }

end Sys2Proof.Machine
end

