-- ==== Sys2Proof/Machine/Detector.lean ====
section
/-! DEFINITION. The channels of the Trigger Detector (chapter 6): the per-sample arithmetic, settling, blanking, the vote,
the sensitivity trim, and the reports of hot and of the station trigger state. -/
namespace Sys2Proof.Machine

/-! ## Per-sample arithmetic (R91 to R96) -/

/-- What a channel reads from the configuration and the trim (section 6.1, R94). -/
structure ChanCfg where
  h : Nat
  aS : Nat
  aL : Nat
  floor : Nat
  rOn : Nat
  rOff : Nat
  rQuiet : Nat
deriving DecidableEq, Repr

/-- The channel configuration now, with the effective ratios (R94). -/
def State.chanCfg (s : State) : ChanCfg :=
  { h := s.cs.image.h, aS := s.cs.image.aS, aL := s.cs.image.aL, floor := s.cs.image.floor, rOn := s.rOnEff,
    rOff := s.rOffEff, rQuiet := s.rQuietEff }

/-- The first sample of a channel initialises it before R91 (R96). -/
def Channel.first (c : Channel) (x : Int) : Channel :=
  if c.init then c else { c with init := true, m := 256 * x, s := 0, l := 0 }

/-- Offset removal: the new mean and the offset-free value (R91). -/
def offsetRemoval (cfg : ChanCfg) (m x : Int) (ovl : Bool) : Int × Int :=
  if ovl then (m, 8388607)
  else
    let m' := m + (x * 256 - m) / 2 ^ cfg.h
    (m', x - m' / 256)

/-- The characteristic value (R92). -/
def characteristic (d : Int) : Int := min (d.natAbs : Int) 8388607

/-- The comparison of R95 with the new averages. -/
def Channel.compare (cfg : ChanCfg) (c : Channel) : Channel :=
  let on := if c.state == .on then ! decide (c.s * 16 < c.l * cfg.rOff) else decide (c.l * cfg.rOn ≤ c.s * 16)
  { c with
    state := if on then .on else .quiet
    warm := decide (c.l * cfg.rQuiet ≤ c.s * 16)
    ratio := if on then (if c.l = 0 then 255 else (min 255 (c.s * 16 / c.l)).toNat) else c.ratio }

/-- The end of a sample: SETTLING counts down, a held channel keeps its standing, another compares (R92, R95, R96). The
second component says whether the channel was compared. -/
def Channel.judge (cfg : ChanCfg) (held : Bool) (c : Channel) : Channel × Bool :=
  match c.state with
  | .stopped => (c, false)
  | .settling => ({ c with settle := c.settle - 1, state := if c.settle ≤ 1 then .quiet else .settling }, false)
  | .quiet | .on => if held then (c, false) else (c.compare cfg, true)

/-- One sample through the channel (R90 to R96). -/
def Channel.take (cfg : ChanCfg) (overlong : Bool) (c : Channel) (x : Int) (ovl : Bool) : Channel × Bool :=
  if c.state == .stopped then (c, false)
  else
    let c := c.first x
    let (m, d) := offsetRemoval cfg c.m x ovl
    let held := decide (0 < c.blank)
    let v := if held then c.l / 256 else characteristic d
    let frozen := c.state == .on && !overlong
    let st := c.s + (v * 256 - c.s) / 2 ^ cfg.aS
    let lt := if frozen then c.l else c.l + (v * 256 - c.l) / 2 ^ cfg.aL
    Channel.judge cfg held { c with m := m, s := st, l := max lt (256 * (cfg.floor : Int)), blank := c.blank - 1 }

/-- A channel as the detector starts: SETTLING, not initialised (R96); a channel the mask leaves out stays STOPPED. -/
def Channel.start (enabled : Bool) (aL : Nat) : Channel :=
  if enabled then { Channel.stopped with state := .settling, settle := 2 ^ (aL + 2) } else Channel.stopped

/-! ## Blanking (R97) -/

/-- A channel takes a blanking request (R97). -/
def Channel.blanked (n : Nat) (c : Channel) : Channel :=
  if c.state == .stopped then c else { c with blank := max c.blank n }

/-- A blanking request of n samples; discarded while the station trigger is STOPPED (R97). -/
def requestBlanking (n : Nat) (s : State) : State :=
  if s.td.state == .stopped then s
  else s.setTd { s.td with z := s.td.z.blanked n, n := s.td.n.blanked n, e := s.td.e.blanked n }

/-! ## The vote (R98) -/

def Channel.isOn (c : Channel) : Bool := c.state == .on

/-- The number of channels that are ON (R98); a channel that is not enabled is STOPPED. -/
def Trigger.vote (t : Trigger) : Nat := t.z.isOn.toNat + t.n.isOn.toNat + t.e.isOn.toNat

/-- The component mask of the channels that are ON. -/
def Trigger.onMask (t : Trigger) : Nat := t.z.isOn.toNat + 2 * t.n.isOn.toNat + 4 * t.e.isOn.toNat

/-- The effective threshold: K clamped down to the number of enabled channels (R98). -/
def State.voteK (s : State) : Nat := min s.cs.image.vote s.enabledCount

/-! ## Reports (R99, R105) -/

/-- TD reports what changed of hot and of the station trigger state between two states (R99, R105): a rise of hot abandons a
DORMANT entry (R187), a fall of hot and each change of state make MC evaluate the mode (R184, R185). -/
def tdReport (before after : State) : State :=
  let a := if before.td.state == after.td.state then after else tellMode after
  if !before.hot && after.hot then alarmMode a
  else if before.hot && !after.hot then tellMode a
  else a

/-! ## Trim (R108, R109) -/

/-- The trim decay timer starts from zero (R108, R109). -/
def trimTimerStart (s : State) : State := s.setTd { s.td with trimTimer := s.startTimer (secs 3600) }

/-- An unconfirmed report (R108). -/
def tdUnconfirmed (s : State) : State :=
  bump .unconfirmedTriggers (trimTimerStart (s.setTd { s.td with trim := min 64 (s.td.trim + 4) }))

/-- An unconfirmed report, where one is given. -/
def tdUnconfirmedIf (b : Bool) (s : State) : State := if b then tdUnconfirmed s else s

/-! ## Requests for an END notice (R103) -/

/-- The duration of a trigger in tenths of a second (R102). -/
def tenths (ticks : Nat) : Nat := min (ticks * 10 / tps) 65535

/-- TD requests an END notice; where it replaces an ONSET notice that is outstanding and waits in its slot, the replacement
is counted and the flag cleared (R102, R103). -/
def requestEnd (onset : StationTime) (mask peak duration : Nat) (s : State) : State :=
  let replaces := s.lcTakes && s.td.outstanding.isSome && s.lc.slots.notice.any (fun r => r.notice.kind == .onset)
  let s := requestNotice { kind := .finish, onset := onset, mask := mask, peak := peak, duration := duration } s
  if replaces then bump .onsetNoticesReplaced (s.setTd { s.td with outstanding := none }) else s

/-- TD's part of a step notice with A ≠ 0 (R107). -/
def tdStep (s : State) : State :=
  let s := if s.lc.slots.notice.isSome then s.setSlots { s.lc.slots with notice := none } else s
  s.setTd { s.td with lastOnset := none, outstanding := none, void := s.td.void || s.td.active }

end Sys2Proof.Machine
end

