-- ==== Sys2Proof/Machine/Heating.lean ====
section
/-! DEFINITION. The Heater Controller (chapter 10): levels, duty frames, edges taken, deferred, merged and cancelled,
off-forcings, frame cuts and the on-times. -/
namespace Sys2Proof.Machine

/-- A heater's record is set. -/
def setHeater (h : HeaterId) (x : Heater) (s : State) : State :=
  match h with
  | .b => s.setHc { s.hc with b := x }
  | .s => s.setHc { s.hc with s := x }

/-- The counters of a heater (R183). -/
inductive HeaterCount where
  | taken | deferred | limit | cancelled | merged | forced | overtemp
deriving DecidableEq, Repr

def heaterCounter : HeaterId → HeaterCount → Counter
  | .b, .taken => .edgesTakenB | .b, .deferred => .edgesDeferredB | .b, .limit => .limitTakesB
  | .b, .cancelled => .onsCancelledB | .b, .merged => .offsMergedB | .b, .forced => .offForcingsB
  | .b, .overtemp => .overtempCutsB
  | .s, .taken => .edgesTakenS | .s, .deferred => .edgesDeferredS | .s, .limit => .limitTakesS
  | .s, .cancelled => .onsCancelledS | .s, .merged => .offsMergedS | .s, .forced => .offForcingsS
  | .s, .overtemp => .overtempCutsS

/-- The defer limit of a heater. -/
def State.deferLimit (s : State) : HeaterId → Nat
  | .b => s.cs.image.deferB
  | .s => s.cs.image.deferS

/-! ## Edges (R175) -/

/-- An edge is taken: the output changes, blanking is requested (R179), and the edge is counted; an OFF edge makes the carried
count absent (R176). Without a pending edge the deferral count stands at 0 (log entry 59). -/
def takeEdge (h : HeaterId) (e : Edge) (s : State) : State :=
  let x := s.heater h
  let x' := { x with
    output := e == .on, edge := none, deferral := 0, carried := if e == .off then none else x.carried }
  bump (heaterCounter h .taken) (requestBlanking s.cs.image.blanking (setHeater h x' s))

/-- An edge falls due: taken, or deferred while hot (R175). -/
def edgeDue (h : HeaterId) (e : Edge) (s : State) : State :=
  if !s.hot || s.deferLimit h == 0 then takeEdge h e s
  else
    let x := s.heater h
    bump (heaterCounter h .deferred) (setHeater h { x with edge := some e, deferral := x.carried.getD 0 } s)

/-- Step 3 and 4 of R175: a pending edge is taken if hot is false or its deferral has reached the limit. -/
def examineEdge (h : HeaterId) (s : State) : State :=
  let x := s.heater h
  match x.edge with
  | none => s
  | some e =>
    if !s.hot then takeEdge h e s
    else if s.deferLimit h ≤ x.deferral then bump (heaterCounter h .limit) (takeEdge h e s)
    else s

/-- A pending ON is cancelled (R174, R177; log entry 59). -/
def cancelOn (h : HeaterId) (s : State) : State :=
  bump (heaterCounter h .cancelled) (setHeater h { s.heater h with edge := none, deferral := 0 } s)

/-! ## Levels (R172) -/

/-- The demand by the deficit (R172). -/
def demandOf : HeaterId → Int → Level
  | .b, d =>
    if d ≤ 0 then .off else if d ≤ 20 then .quarter else if d ≤ 50 then .third else if d ≤ 100 then .half else .full
  | .s, d =>
    if d ≤ 0 then .off else if d ≤ 5 then .quarter else if d ≤ 10 then .third else if d ≤ 20 then .half else .full

/-- The demand now; with a stale temperature 1/4 for HTR_B and OFF for HTR_S (R172). -/
def State.demand (s : State) (h : HeaterId) : Level :=
  match s.heaterTemp h, h with
  | some t, _ => demandOf h (s.setpoint h - t)
  | none, .b => .quarter
  | none, .s => .off

/-- The level chosen at a frame start: the lowest of demand, class cap and mode cap (R172). -/
def State.frameLevel (s : State) (h : HeaterId) : Level := (s.demand h).lower (s.allowance h)

/-- The OFF point inside a frame (R174). -/
def Level.offPoint : Level → Option Nat
  | .quarter => some 3 | .third => some 4 | .half => some 6 | .off => none | .full => none

/-! ## Slot boundaries (R174 to R177) -/

/-- HC first raises the deferral count of a pending edge (R175). -/
def raiseDeferral (x : Heater) : Heater :=
  if x.edge.isSome then { x with deferral := min 60 (x.deferral + 1) } else x

/-- A frame start (R174, R176, R177; log entry 59). -/
def frameStart (h : HeaterId) (s : State) : State :=
  let x := raiseDeferral (s.heater h)
  let level := s.frameLevel h
  let x := { x with pos := some 0, level := level }
  match x.edge with
  | some .off =>
    if level == .off then examineEdge h (setHeater h x s)
    else bump (heaterCounter h .merged)
      (setHeater h { x with edge := none, deferral := 0, carried := some x.deferral } s)
  | some .on =>
    if level == .off then cancelOn h (setHeater h x s) else examineEdge h (setHeater h x s)
  | none =>
    let s := setHeater h (if x.output then x else { x with carried := none }) s
    if level == .off then (if x.output then edgeDue h .off s else s)
    else (if x.output then s else edgeDue h .on s)

/-- Another slot boundary (R174, R175, R177). -/
def slotBoundary (h : HeaterId) (s : State) : State :=
  let x := raiseDeferral (s.heater h)
  let x := { x with pos := x.pos.map (· + 1) }
  let s := setHeater h x s
  if x.level.offPoint.isSome && x.pos == x.level.offPoint then
    match x.edge with
    | some .on => cancelOn h s
    | some .off => examineEdge h s
    | none => if x.output then edgeDue h .off s else s
  else examineEdge h s

/-- HC takes the second boundary of seconds value sec as a slot boundary or frame start, outside START (R174, R182). -/
def heaterBoundary (sec : Nat) (h : HeaterId) (s : State) : State :=
  if s.mc.standing.inStart then s
  else if sec % 12 == 0 then frameStart h s else slotBoundary h s

/-! ## Overtemperature (R174) -/

/-- The frame's heating is over: the level is OFF or the frame is past its OFF point (R174). -/
def Heater.heatingOver (x : Heater) : Bool :=
  x.level == .off || (match x.level.offPoint, x.pos with | some p, some q => p ≤ q | _, _ => false)

/-- The overtemperature test at a good reading (R174). -/
def overtempTest (h : HeaterId) (reading : Int) (s : State) : State :=
  let x := s.heater h
  if s.setpoint h + 10 ≤ reading && !x.heatingOver then
    let s := if x.edge == some .on then cancelOn h s else s
    let s := setHeater h { s.heater h with level := .off } s
    let s := if x.output && x.edge != some .off then edgeDue h .off s else s
    bump (heaterCounter h .overtemp) s
  else s

/-! ## Off-forcing (R178) and the frame cut (R180) -/

/-- An off-forcing (R178; log entry 59). -/
def offForce (h : HeaterId) (s : State) : State :=
  let x := s.heater h
  let x' := { x with output := false, edge := none, deferral := 0, carried := none, level := .off }
  if x.output then
    bump (heaterCounter h .forced) (bump (heaterCounter h .taken)
      (requestBlanking s.cs.image.blanking (setHeater h x' s)))
  else setHeater h x' s

/-- The class or the mode has changed: a heater whose allowance is now OFF is forced off (R173, R178). -/
def forceByAllowance (s : State) : State :=
  let s := if s.allowance .b == .off then offForce .b s else s
  if s.allowance .s == .off then offForce .s s else s

/-- The frame of one heater is cut (R180; log entry 59). -/
def cutFrame (h : HeaterId) (s : State) : State :=
  let x := s.heater h
  let off := x.edge == some .off
  let s := setHeater h { x with pos := none, level := .off, edge := if off then x.edge else none,
                                deferral := if off then x.deferral else 0, carried := none } s
  if x.output && !off then edgeDue h .off s else s

/-- HC's part of a step notice with A ≠ 0 (R180). -/
def hcStep (s : State) : State := bump .frameCuts (cutFrame .s (cutFrame .b s))

/-! ## On-times (R181) -/

/-- n ticks of elapsed count on a heater: while its output is high they are added to the on-time (R181). -/
def Heater.run (n : Nat) (x : Heater) : Heater :=
  if x.output then { x with onTime := min 65535 (x.onTime + (x.onFrac + n) / tps), onFrac := (x.onFrac + n) % tps } else x

/-- n ticks of elapsed count on both heaters. -/
def Heaters.run (n : Nat) (x : Heaters) : Heaters := { b := x.b.run n, s := x.s.run n }

/-- The on-times of an acknowledged HEALTH message are taken off (R181). -/
def takeOnTimes (b t : Nat) (s : State) : State :=
  s.setHc { b := { s.hc.b with onTime := s.hc.b.onTime - b }, s := { s.hc.s with onTime := s.hc.s.onTime - t } }

/-- A heater record at RESTART (R183). -/
def Heater.restart (x : Heater) : Heater := { Heater.reset with onTime := x.onTime, onFrac := x.onFrac }

end Sys2Proof.Machine
end

