-- ==== Sys2Proof/Machine/Records.lean ====
section
/-! DEFINITION. The event table as every block reads it (section 7.3): order, lookup, update, participants. -/
namespace Sys2Proof.Machine

/-- Event ids in order: the origin first, then the sequence. -/
def EventId.le (a b : EventId) : Bool := a.origin < b.origin || (a.origin == b.origin && a.seq ≤ b.seq)

/-- A record with an id comes before one without (R122). -/
def idLe : Option EventId → Option EventId → Bool
  | some a, some b => a.le b
  | some _, none => true
  | none, some _ => false
  | none, none => true

/-- The order of the event table (R122). -/
def recLe (a b : EventRec) : Bool := a.earliest < b.earliest || (a.earliest == b.earliest && idLe a.id b.id)

/-- The order of the trigger table (R114). -/
def entryLe (a b : Entry) : Bool := a.onset < b.onset || (a.onset == b.onset && a.station ≤ b.station)

/-- The record of a key. -/
def State.rec? (s : State) (rid : Nat) : Option EventRec := s.cu.events.find? (fun r => r.rid == rid)

/-- The event table is set, in order. -/
def setEvents (xs : List EventRec) (s : State) : State := s.setCu { s.cu with events := sortBy recLe xs }

/-- The record of a key is updated. -/
def updRec (rid : Nat) (f : EventRec → EventRec) (s : State) : State :=
  setEvents (s.cu.events.map (fun r => if r.rid == rid then f r else r)) s

/-- The trigger table is set, in order. -/
def setEntries (xs : List Entry) (s : State) : State := s.setCu { s.cu with entries := sortBy entryLe xs }

/-- A participant's onset offset in ms from the record's earliest onset (R113), formed anew from its onset whenever it is read, also
where the onset was itself rebuilt from a declared offset (R123; log entries 24 and 72, DESIGN CHOICE). -/
def EventRec.offset (r : EventRec) (p : Part) : Nat := (p.onset - r.earliest) * 1000 / 1048576

/-- The order of a record's participants: by offset in ms, then id (section 7.3, R123). -/
def EventRec.partLe (r : EventRec) (a b : Part) : Bool :=
  r.offset a < r.offset b || (r.offset a == r.offset b && a.station ≤ b.station)

/-- The maximum ratio: the largest participant peak ratio (section 7.3). -/
def EventRec.maxRatio (r : EventRec) : Nat := r.parts.foldl (fun m p => max m p.peak) 0

/-- The latest participant onset. -/
def EventRec.latest (r : EventRec) : StationTime := r.parts.foldl (fun m p => max m p.onset) r.earliest

/-- The record owes a declaration or update (R130). -/
def EventRec.owes (r : EventRec) : Bool := r.state == .declared && r.declOwed

/-- The coincidence window in ticks (R113). -/
def State.window (s : State) : Nat := secs s.cs.image.wc

/-- Two station times lie within W_c of each other (R113). -/
def State.withinWc (s : State) (a b : StationTime) : Bool := timeGap a b ≤ s.window

end Sys2Proof.Machine
end

