-- ==== Sys2Proof/Machine/Uplink.lean ====
section
/-! DEFINITION. The Uplink Controller (chapter 8): the queue and the stacked list, the modem, the segment chain, replies,
withdrawal and change of id. -/
namespace Sys2Proof.Machine

/-! ## Uplink states of the records (R143) -/

/-- The uplink state of a record by its alerts and stacked entries; its last one where it has none (R143). -/
def uplinkStateOf (u : Uplink) (r : EventRec) : UplinkState :=
  let mine := u.queue.filter (fun a => a.rid == some r.rid)
  if mine.any (fun a => a.turn == .sending) then .sending
  else if mine.any (fun a => a.turn == .awaiting) then .awaiting
  else if mine.any (fun a => a.turn == .ready || a.turn == .retry) then .queued
  else if u.stacked.any (fun x => x.rid == r.rid) then .stacked
  else r.uplink

/-- UC writes the uplink state of every record (R143). -/
def ucSync (s : State) : State :=
  s.setCu { s.cu with events := s.cu.events.map (fun r => { r with uplink := uplinkStateOf s.uc r }) }

/-- A record whose alert leaves takes the state it left as (R143). -/
def ucLeft (rid : Option Nat) (how : UplinkState) (s : State) : State :=
  match rid with
  | none => s
  | some k => updRec k (fun r => { r with uplink := how }) s

/-- A change in whether the queue and the stacked list are both empty is reported to MC (R143). -/
def ucReportEmpty (before after : State) : State :=
  if before.uc.allEmpty == after.uc.allEmpty then after else tellMode after

/-- The order of the queue: priority, then the older first (R143). Of two alerts of equal priority and equal enqueue time, whose order
R143 leaves open, the one inserted first stays in front (log entry 76, DESIGN CHOICE). -/
def alertLe (now : Elapsed) (a b : Alert) : Bool :=
  a.kind.priority < b.kind.priority ||
    (a.kind.priority == b.kind.priority && since now b.enqueued ≤ since now a.enqueued)

def setQueue (q : List Alert) (s : State) : State := s.setUc { s.uc with queue := q }
def setStacked (q : List Stacked) (s : State) : State := s.setUc { s.uc with stacked := q }

/-! ## Enqueue (R144, R145) -/

/-- An alert is inserted in its place; each enqueue is reported to MC (R144 step 5, R143). -/
def ucInsert (kind : AlertKind) (rid : Option Nat) (id : Option EventId) (update : Nat) (s : State) : State :=
  let a : Alert := { kind, rid, id, update, enqueued := s.now, attempts := 0, turn := .ready, retryWait := none, withdrawn := false }
  alarmMode (tellMode (ucSync (setQueue (insertBy (alertLe s.now) a s.uc.queue) s)))

/-- An alert that finds no place is stacked; a record has at most one report entry and one RETRACT entry there (R145). -/
def ucStack (kind : AlertKind) (rid : Nat) (id : Option EventId) (update : Nat) (s : State) : State :=
  if s.uc.stacked.any (fun x => x.rid == rid && x.kind.isReport == kind.isReport) then s
  else
    let s := setStacked (s.uc.stacked ++ [{ kind, rid, retracts := if kind.isReport then none else id }]) s
    let s := if kind.isReport then updRec rid (fun r => { r with owedUplink := some update }) s else s
    bump .stacks (ucSync s)

/-- A HEALTH alert is placed in the queue; with the queue full it is dropped (R144 step 5, R145). -/
def ucPlaceHealth (s : State) : State :=
  if s.uc.queue.length < 8 then ucInsert .health none none 0 s else bump .healthDrops s

/-- The queue holds an alert of this kind, id and update number (R144 step 4). -/
def Uplink.holds (u : Uplink) (kind : AlertKind) (id : Option EventId) (update : Nat) : Bool :=
  u.queue.any (fun a => a.kind == kind && a.id == id && a.update == update)

/-- A HEALTH alert is raised (R144 steps 1 to 5). -/
def ucRaiseHealth (s : State) : State :=
  if !s.cs.image.uplink then s
  else if s.bm.cls == .low || s.bm.cls == .critical then bump .healthDrops s
  else if s.uc.queue.any (fun a => a.kind == .health && !a.turn.inTransfer) then s
  else if s.uc.queue.any (fun a => a.kind == .health) then s.setUc { s.uc with healthDue := true }
  else ucPlaceHealth s

/-- A HEALTH alert has left: with the health-due flag set the flag is cleared and a HEALTH alert raised (R144 step 3). -/
def ucHealthLeft (kind : AlertKind) (s : State) : State :=
  if kind == .health && s.uc.healthDue then ucRaiseHealth (s.setUc { s.uc with healthDue := false }) else s

/-- A waiting HEALTH alert makes room (R145). -/
def ucEvictHealth (s : State) : State :=
  bump .healthEvictions (setQueue (s.uc.queue.filter (fun a => !(a.kind == .health && !a.turn.inTransfer))) s)

/-- An alert of a record is placed: in the queue, in the place of a HEALTH alert that then leaves, or on the stacked list (R144
steps 3 and 5, R145). A HEALTH alert that was held while the evicted one was in transfer is raised after the arriving alert has its
place (log entry 27). -/
def ucPlace (kind : AlertKind) (rid : Nat) (id : Option EventId) (update : Nat) (s : State) : State :=
  if s.uc.queue.length < 8 then ucInsert kind (some rid) id update s
  else if s.uc.queue.any (fun a => a.kind == .health && !a.turn.inTransfer) then
    ucHealthLeft .health (ucInsert kind (some rid) id update (ucEvictHealth s))
  else ucStack kind rid id update s

/-- A RETRACT of an id is raised for a record (R144 steps 4 and 5). -/
def ucRaiseRetract (rid : Nat) (id : Option EventId) (s : State) : State :=
  if s.uc.holds .retract id 0 then s else ucPlace .retract rid id 0 s

/-- A report alert of a record is raised with its current update number (R144 steps 2, 4 and 5). -/
def ucRaiseReport (kind : AlertKind) (rid : Nat) (s : State) : State :=
  match s.rec? rid with
  | none => s
  | some r =>
    let waits (a : Alert) : Bool := a.rid == some rid && a.kind.isReport && !a.turn.inTransfer
    if s.uc.queue.any waits then
      setQueue (s.uc.queue.map (fun a => if waits a then { a with update := r.update } else a)) s
    else if s.uc.stacked.any (fun x => x.rid == rid && x.kind.isReport) then
      updRec rid (fun r => { r with owedUplink := some r.update }) s
    else if s.uc.holds kind r.id r.update then s
    else ucPlace kind rid r.id r.update s

/-- The stacked entry that is taken first: of the record with the oldest earliest onset, its RETRACT before its report entry
(R145). -/
def stackedLe (events : List EventRec) (a b : Stacked) : Bool :=
  let i := events.findIdx (fun r => r.rid == a.rid)
  let j := events.findIdx (fun r => r.rid == b.rid)
  i < j || (i == j && (a.kind == .retract || b.kind != .retract))

/-- With a place free, one stacked entry is enqueued (R145). -/
def ucPromoteOne (s : State) : State :=
  if s.uc.queue.length < 8 then
    match (sortBy (stackedLe s.cu.events) s.uc.stacked).head? with
    | none => s
    | some x =>
      let s := setStacked (s.uc.stacked.erase x) s
      match x.kind.isReport, s.rec? x.rid with
      | true, some r =>
        ucInsert (if r.delivered then .update else .event) (some x.rid) r.id (r.owedUplink.getD r.update)
          (updRec x.rid (fun r => { r with owedUplink := none }) s)
      | _, _ => ucInsert x.kind (some x.rid) x.retracts 0 s
  else s

/-- One stacked entry is taken for each place freed (R145). -/
def ucPromote (s : State) : State := (List.range 8).foldl (fun s _ => ucPromoteOne s) s

/-- An alert leaves the queue, freeing its place (R143, R145, R144 step 3). -/
def ucLeave (a : Alert) (how : UplinkState) (s : State) : State :=
  let t := ucSync (ucLeft a.rid how (setQueue (s.uc.queue.erase a) s))
  ucHealthLeft a.kind (ucPromote (ucReportEmpty s t))

/-! ## Reports of the Coincidence Unit (R138, R142) -/

/-- The record has a report alert in transfer (R146). -/
def Uplink.reportInTransfer (u : Uplink) (rid : Nat) : Bool :=
  u.queue.any (fun a => a.rid == some rid && a.kind.isReport && a.turn.inTransfer)

/-- A new event report (R142). -/
def ucNewEvent (rid : Nat) (s : State) : State := if s.cs.image.uplink then ucRaiseReport .event rid s else s

/-- An update report: while a report alert of the record is in transfer it raises nothing (R142, R146). -/
def ucUpdate (rid : Nat) (s : State) : State :=
  if !s.cs.image.uplink || s.uc.reportInTransfer rid then s
  else ucRaiseReport (if (s.rec? rid).any (fun r => r.delivered) then .update else .event) rid s

/-- With no report alert left to deal with, a delivered record gets a RETRACT of its id (R153). -/
def ucRetractWithdrawn (rid : Nat) (s : State) : State :=
  match s.rec? rid with
  | none => s
  | some r => if r.delivered && !s.uc.reportInTransfer rid then ucRaiseRetract rid r.id s else s

/-- The segment fetched last is not yet current: the bytes that were left of the segment before it at the fetch, 10 bit periods each
at the uplink rate, have not all been sent (R149, R150; log entry 55). -/
def Transfer.ahead (now : Elapsed) (rate : Nat) (t : Transfer) : Option Fetch :=
  t.last.filter (fun f => since now f.moment * rate < f.left * 10 * 1048576)

/-- A transfer cut on a withdrawal: CAN follows the end of the current segment, so a segment fetched ahead of it is not sent (R153,
log entry 55). After a cut on change no segment stands fetched ahead, and the payload stays (R151, log entry 56). -/
def Transfer.withdraw (now : Elapsed) (rate : Nat) (t : Transfer) : Transfer :=
  match t.cut, t.ahead now rate with
  | none, some f =>
    { t with cut := some .withdrawal, fetched := t.fetched - 1, payload := t.payload.take (t.payload.length - f.size) }
  | _, _ => { t with cut := some .withdrawal }

/-- A withdrawal report (R153): waiting report alerts and the stacked report entry leave, a report alert in SENDING is cut, one
in AWAITING is marked. The places freed are taken by stacked entries afterwards (`ucPromote`). A transfer in SENDING is cut also while
its sum is on the line (log entry 54), and in place of a cut on change that has not ended (log entry 56). -/
def ucWithdraw (rid : Nat) (s : State) : State :=
  if !s.cs.image.uplink then s
  else
    let mine (a : Alert) : Bool := a.rid == some rid && a.kind.isReport
    let waits (a : Alert) : Bool := mine a && !a.turn.inTransfer
    let stackedMine (x : Stacked) : Bool := x.rid == rid && x.kind.isReport
    let left := s.uc.queue.any waits || s.uc.stacked.any stackedMine
    let sending := s.uc.queue.any (fun a => mine a && a.turn == .sending)
    let queue := (s.uc.queue.filter (fun a => !waits a)).map
      (fun a => if mine a && a.turn == .awaiting then { a with withdrawn := true } else a)
    let t := s.setUc { s.uc with
      queue := queue
      stacked := s.uc.stacked.filter (fun x => !stackedMine x)
      transfer := if sending then s.uc.transfer.map (Transfer.withdraw s.now (uplinkRate s.cs.image.uplinkCode)) else s.uc.transfer }
    let t := if left then updRec rid (fun r => { r with uplink := .withdrawn, owedUplink := none }) t else t
    ucRetractWithdrawn rid (ucReportEmpty s (ucSync t))

/-- A change-of-id report: the former id is `former` (R154). -/
def ucChangeId (rid : Nat) (former : Option EventId) (s : State) : State :=
  match s.cs.image.uplink, s.rec? rid with
  | true, some r =>
    let mine (a : Alert) : Bool := a.rid == some rid && a.kind.isReport
    if s.uc.queue.any (fun a => mine a && a.turn == .awaiting) then s
    else
      let waits (a : Alert) : Bool := mine a && !a.turn.inTransfer
      let stackedMine (x : Stacked) : Bool := x.rid == rid && x.kind.isReport
      if !r.delivered then
        setQueue (s.uc.queue.map (fun a => if waits a then { a with id := r.id } else a)) s
      else
        let has := s.uc.queue.any mine || s.uc.stacked.any stackedMine
        let q := sortBy (alertLe s.now)
          (s.uc.queue.map (fun a => if waits a then { a with id := r.id, kind := .event } else a))
        let st := s.uc.stacked.map (fun x => if stackedMine x then { x with kind := .event } else x)
        let s := updRec rid (fun r => { r with delivered := false }) (s.setUc { s.uc with queue := q, stacked := st })
        let s := ucRaiseRetract rid former s
        if has then s else ucRaiseReport .event rid s
  | _, _ => s

/-! ## Messages (R149, R150) -/

def AlertKind.code : AlertKind → Nat
  | .event => 1 | .retract => 2 | .update => 3 | .health => 4

/-- The HEADER segment (R149). -/
def headerSegment (own : Nat) (kind : AlertKind) (id : Option EventId) (update : Nat) (time : StationTime) : List Byte :=
  be 1 kind.code ++ be 1 own ++ be 1 (id.elim 0 EventId.origin) ++ be 1 (id.elim 0 EventId.seq) ++ be 1 update ++
  timeBytes time

/-- The record state of an EVENT head (R149). -/
def RecState.headCode : RecState → Nat
  | .declared => 1 | .adopted => 2 | _ => 3

/-- The EVENT head segment (R149). -/
def eventHead (r : EventRec) : List Byte :=
  timeBytes r.earliest ++ be 1 r.parts.length ++ be 1 r.maxRatio ++ be 1 r.state.headCode

/-- The participant segment of place i (R149). -/
def partSegment (r : EventRec) (i : Nat) : List Byte :=
  match r.parts[i]? with
  | some p => be 1 p.station ++ be 2 (r.offset p) ++ be 1 p.peak
  | none => be 4 0

/-- The RETRACT segment names the winner (R150). -/
def retractSegment (r : EventRec) : List Byte :=
  let w := if r.state == .merged then r.mergedInto else r.id
  be 1 (w.elim 0 EventId.origin) ++ be 1 (w.elim 0 EventId.seq)

/-- The flags of the HEALTH segment (R149). -/
def State.healthFlags (s : State) : Nat :=
  s.bm.anchored.toNat + 2 * s.bm.stale.toNat + 4 * s.bm.chargeEn.toNat + 8 * s.pins.chgAvl.toNat +
  16 * (s.rmu.state == .locked).toNat + 32 * s.cs.defaulted.toNat

/-- The HEALTH segment (R149; absent values by R162). -/
def State.healthSegment (s : State) : List Byte :=
  be 1 (s.mc.standing.mode.elim 0 OpMode.code) ++ be 1 s.bm.cls.code ++ beInt 1 s.bm.soc ++ be 1 s.healthFlags ++
  beInt 2 (s.bm.v.getD 0) ++ beInt 2 (clampInt (s.bm.i.getD 0) (-32768) 32767) ++ beInt 2 (s.bm.temp.getD (-32768)) ++
  beInt 2 (s.bm.tempA.getD (-32768)) ++ beInt 2 (s.bm.tempB.getD (-32768)) ++ be 2 s.hc.b.onTime ++ be 2 s.hc.s.onTime ++
  be 3 s.tb.quality ++ be 1 s.tb.distance ++ be 1 s.peers.length ++ be 1 s.uc.queue.length

/-- The segment that is fetched next (R150). -/
def State.nextSegment (s : State) (t : Transfer) : List Byte :=
  match t.kind, t.rid.bind s.rec? with
  | .health, _ => s.healthSegment
  | .retract, some r => retractSegment r
  | .event, some r | .update, some r => if t.fetched = 0 then eventHead r else partSegment r (t.fetched - 1)
  | _, none => []

/-- The length byte L of a message (section 8.4). -/
def Transfer.length (t : Transfer) : Nat :=
  match t.kind with
  | .event | .update => 22 + 4 * t.count
  | .retract => 14
  | .health => 36

/-- The sum of the payload bytes modulo 65,536 (section 8.4). -/
def payloadSum (bs : List Byte) : Nat := (bs.foldl (fun n b => n + b.toNat) 0) % 65536

/-- SOH and CAN (section 8.1). -/
def sohByte : Byte := 0x01#8
def canByte : Byte := 0x18#8

/-- What ends the bytes of a transfer on the line: CAN in place of the next segment or of the sum where the transfer is cut (R151
step 3, R153); the sum behind the last segment; nothing while a segment is still to be fetched (section 8.4). -/
def Transfer.ending (t : Transfer) : List Byte :=
  match t.cut with
  | some _ => [canByte]
  | none => if t.fetched = t.segments then be 2 (payloadSum t.payload) else []

/-- The bytes a transfer puts on UP_TXD, as far as they are fixed (section 8.4, R151, R153, R157; log entries 39, 54 and 55). -/
def Transfer.line (t : Transfer) : List Byte := [sohByte] ++ be 1 t.length ++ t.payload ++ t.ending

/-- The bytes on the uplink line: those of the transfer in progress; between messages UP_TXD rests at the idle level (R149,
R157). -/
def State.uplinkLine (s : State) : List Byte := (s.uc.transfer.map Transfer.line).getD []

/-! ## The modem (R147, R148) -/

/-- The modem state is set with its timer. -/
def setModem (m : Modem) (timer : Option Timer) (s : State) : State := s.setUc { s.uc with modem := m, modemTimer := timer }

/-- The head's transfer starts: the HEADER is composed and stamped (R150). -/
def ucStart (s : State) : State :=
  match s.uc.head with
  | none => s
  | some a =>
    let r := a.rid.bind s.rec?
    let update := if a.kind.isReport then r.elim a.update EventRec.update else 0
    let n := if a.kind.isReport then r.elim 0 (fun r => r.parts.length) else 0
    let t : Transfer :=
      { kind := a.kind, rid := a.rid, id := a.id, update := update, count := n, segments := if a.kind.isReport then n + 1 else 1,
        fetched := 0, payload := headerSegment s.ownId a.kind a.id update s.tb.time, last := none, cut := none, onTimes := none }
    ucSync (s.setUc { s.uc with
      queue := s.uc.queue.replace a { a with turn := .sending, update := update }
      modem := .sending, modemTimer := none, busyCount := 0, transfer := some t })

/-- READY-WAIT is entered: the busy limit starts from zero, and UP_RDY high on entry starts the transfer (R147). -/
def enterReadyWait (s : State) : State :=
  let s := setModem .readyWait (s.startTimer (secs 60)) s
  if s.pins.upRdy then ucStart s else s

/-- IDLE is entered: with the queue empty the power-down delay starts (R147). -/
def enterIdle (s : State) : State :=
  setModem .idle (if s.uc.queue.isEmpty then s.startTimer (secs 30) else none) s

/-- READY-WAIT if a head exists, IDLE otherwise (R147). -/
def modemNext (s : State) : State := if s.uc.head.isSome then enterReadyWait s else enterIdle s

/-- The modem follows the queue in ACTIVE and ECONOMY (R147). -/
def modemKick (s : State) : State :=
  if !(s.awake && s.cs.image.uplink) then s
  else match s.uc.modem with
    | .off => if s.uc.queue.isEmpty then s else setModem .warmUp (s.startTimer (secs s.cs.image.modemWarmUp)) s
    | .idle =>
      if s.uc.head.isSome then enterReadyWait s
      else if !s.uc.queue.isEmpty then setModem .idle none s
      else if s.uc.modemTimer.isNone then setModem .idle (s.startTimer (secs 30)) s
      else s
    | .readyWait => if s.uc.head.isSome then s else enterIdle s
    | .warmUp | .powerCycle | .sending | .awaiting => s

/-! ## Attempts and returns (R151, R152, R154) -/

/-- An alert that goes back to wait takes its record's id: where the record has taken a new one, the next attempt is an EVENT
under it (R154), one that was cut in SENDING too, whose kind R154 does not say (R151; log entry 73, DESIGN CHOICE). -/
def fixId (r : Option EventRec) (a : Alert) : Alert :=
  match r with
  | some r => if a.kind.isReport && a.id != r.id then { a with id := r.id, kind := .event } else a
  | none => a

/-- The record was delivered and its alert waited for a reply under a former id: that id is retracted and the flag cleared
(R154). -/
def retractFormer (a : Alert) (s : State) : State :=
  match a.rid, a.rid.bind s.rec? with
  | some k, some r =>
    if a.kind.isReport && a.id != r.id && r.delivered then
      ucRaiseRetract k a.id (updRec k (fun r => { r with delivered := false }) s)
    else s
  | _, _ => s

/-- An alert of the queue is replaced, and the queue put in order. -/
def putAlert (old new : Alert) (s : State) : State :=
  ucSync (setQueue (sortBy (alertLe s.now) (s.uc.queue.replace old new)) s)

/-- An alert has failed one attempt (R152): below 5 it waits 30 s, at 5 it leaves as FAILED. Where a report alert AWAITING under a
former id fails its fifth, it leaves as FAILED, a delivered record's flag is cleared beside a RETRACT of the former id by R154, which
R152 would keep, and no EVENT is raised under the new id (log entry 79, DESIGN CHOICE). -/
def failAttempt (a : Alert) (s : State) : State :=
  let a' := fixId (a.rid.bind s.rec?) { a with attempts := a.attempts + 1, turn := .retry, retryWait := s.startTimer (secs 30) }
  let t := if a'.attempts < 5 then putAlert a a' s else bump .failedAlerts (ucLeave a .failed s)
  retractFormer a t

/-- A cut or abandoned alert goes back to READY with its attempts unchanged (R151, R155). One whose record has a new id goes back as an
EVENT under it, as R154 has it after a NAK, an alert in AWAITING that a SHELTER entry ends among them (log entry 53). -/
def returnAlert (a : Alert) (s : State) : State :=
  retractFormer a (putAlert a (fixId (a.rid.bind s.rec?) { a with turn := .ready, withdrawn := false }) s)

/-- A withdrawn alert leaves as WITHDRAWN, and a delivered record gets its RETRACT (R153). -/
def leaveWithdrawn (a : Alert) (s : State) : State :=
  let s := ucLeave a .withdrawn s
  match a.rid with
  | some k => ucRetractWithdrawn k s
  | none => s

/-- The alert in transfer. -/
def Uplink.inTransfer (u : Uplink) : Option Alert := u.queue.find? (fun a => a.turn.inTransfer)

/-- A CAN has been sent: after a withdrawal the alert leaves, after a change it goes back to READY (R151, R153). -/
def endCut (c : Cut) (a : Alert) (s : State) : State :=
  match c with
  | .withdrawal => leaveWithdrawn a (bump .withdrawalsInTransfer s)
  | .change => returnAlert a (bump .restartsOnChange s)

/-- The ACK of an alert (R152, R146, R153, R154). Under a former id it raises an EVENT also where the record has been CLOSED
since (log entry 52). A former id is settled so also where the id changed in SENDING after the last fetch, which R151 can no longer
cut (log entry 77, DESIGN CHOICE). -/
def ackAlert (a : Alert) (t : Transfer) (s : State) : State :=
  let r := a.rid.bind s.rec?
  let changed := a.kind.isReport && r.any (fun r => r.id != a.id)
  let s := match a.rid with
    | some k => if a.kind.isReport then updRec k (fun r => { r with delivered := !changed }) s else s
    | none => s
  let s := match t.onTimes with
    | some (b, x) => takeOnTimes b x s
    | none => s
  let s := bump .acknowledgedAlerts (ucLeave a .sent s)
  match a.rid with
  | none => s
  | some k =>
    if !a.kind.isReport then s
    else if a.withdrawn then ucRetractWithdrawn k s
    else if changed then ucRaiseReport .event k (ucRaiseRetract k a.id s)
    else if (s.rec? k).any (fun r => r.state.live && t.update < r.update) then ucRaiseReport .update k s
    else s

/-- A refusal or a missing reply: a withdrawn alert leaves, another fails one attempt (R152, R153). -/
def nakAlert (a : Alert) (s : State) : State := if a.withdrawn then leaveWithdrawn a s else failAttempt a s

/-- The reply to the alert in AWAITING has been taken: the modem goes on (R147). -/
def endAwaiting (s : State) : State := modemNext (s.setUc { s.uc with transfer := none, modemTimer := none })

/-- DORMANT or SHELTER is entered: UP_PWR drops, and an alert in transfer goes back to READY or, withdrawn, leaves (R155). -/
def ucModeOff (s : State) : State :=
  let cut := s.uc.transfer.bind (fun t => t.cut)
  let a := s.uc.inTransfer
  let s := s.setUc { s.uc with modem := .off, modemTimer := none, transfer := none }
  match a with
  | none => s
  | some a =>
    if cut == some .withdrawal then leaveWithdrawn a (bump .withdrawalsInTransfer s)
    else if a.withdrawn then leaveWithdrawn a s
    else returnAlert a s

/-! ## HEALTH (R142) -/

/-- The HEALTH timer starts from zero. -/
def healthTimerStart (s : State) : State :=
  s.setUc { s.uc with healthTimer := if s.cs.image.uplink then s.startTimer (secs (3600 * s.cs.image.healthHours)) else none }

/-- A HEALTH alert is raised and the HEALTH timer starts again: at its expiry, at a class change outside START and at the end
of START (R142). -/
def ucHealth (s : State) : State := healthTimerStart (ucRaiseHealth s)

/-- The segment fetched now differs from what the HEADER stamped (R151). -/
def Transfer.differs (t : Transfer) (r : EventRec) : Bool :=
  r.id != t.id || r.update != t.update || r.parts.length != t.count

/-- The bytes still to be sent, at a fetch, of the segment that is then current: 7, or all of a shorter one (R150). -/
def Transfer.leftAtFetch (t : Transfer) : Nat := min 7 (t.last.elim 12 Fetch.size)

/-- A segment fetch: the transfer is cut on a change, else the segment is sent (R150, R151). -/
def ucFetch (t : Transfer) (s : State) : State :=
  if t.kind.isReport && (t.rid.bind s.rec?).any t.differs then
    s.setUc { s.uc with transfer := some { t with cut := some .change } }
  else
    s.setUc { s.uc with transfer := some { t with
      fetched := t.fetched + 1, payload := t.payload ++ s.nextSegment t
      last := some { moment := s.now, left := t.leftAtFetch, size := (s.nextSegment t).length }
      onTimes := if t.kind == .health then some (s.hc.b.onTime, s.hc.s.onTime) else t.onTimes } }

end Sys2Proof.Machine
end

