-- ==== Sys2Proof/Machine/Coincidence.lean ====
section
/-! DEFINITION. The Coincidence Unit (chapter 7): admission to the trigger table, the participant merge, quorum, holdoff,
declaration, adoption, conflict, late participants, closure and removal. -/
namespace Sys2Proof.Machine

/-! ## Reports -/

/-- CU reports a record created, changed in state or removed (R122). -/
def cuReport (s : State) : State := tellMode s

/-- CU reports a record that has become HOLDOFF, DECLARED or ADOPTED: MC also abandons an entry on it (R122, R187). -/
def cuReportOpen (s : State) : State := alarmMode (tellMode s)

/-- The standing request is filled while a record owes (R130, R31). -/
def cuRequest (s : State) : State := if s.cu.events.any EventRec.owes then requestDeclaration s else s

/-! ## Participants (R123) -/

/-- The span test of R123: the onsets of all participants with the candidate span no more than W_c. -/
def spanFits (wc : Nat) (r : EventRec) (onset : StationTime) : Bool :=
  r.parts.all (fun p => timeGap p.onset onset ≤ wc)

/-- A candidate would become the record's new earliest onset: it lies before every participant, as the first of a record with none
does, and it is not the earliest onset the record has (R123, log entry 62). -/
def newEarliest (r : EventRec) (onset : StationTime) : Bool :=
  r.parts.all (fun p => onset < p.onset) && onset != r.earliest

/-- The test of R123 on a new earliest onset, before or after the one it takes the place of, against the other live records. -/
def earliestFits (wc : Nat) (others : List EventRec) (r : EventRec) (onset : StationTime) : Bool :=
  !newEarliest r onset || others.all (fun x => x.rid == r.rid || !x.state.live || wc < timeGap x.earliest onset)

/-- A station the participant merge would accept as a new participant (R123). -/
def canJoin (wc : Nat) (others : List EventRec) (r : EventRec) (station : Nat) (onset : StationTime) : Bool :=
  1 ≤ station && station ≤ 14 && r.parts.all (fun p => p.station != station) && spanFits wc r onset &&
  earliestFits wc others r onset

/-- The participant list with a new member: the earliest onset becomes the least participant onset, every offset is formed from
it again, and the list is put in order of offset, then id (R123). -/
def addPart (r : EventRec) (p : Part) : EventRec :=
  let r := { r with earliest := r.parts.foldl (fun (m : StationTime) (q : Part) => min m q.onset) p.onset }
  { r with parts := sortBy r.partLe (p :: r.parts) }

/-- A participant's peak ratio takes a value (R115). -/
def setPeak (station peak : Nat) (r : EventRec) : EventRec :=
  { r with parts := r.parts.map (fun p => if p.station == station then { p with peak := peak } else p) }

/-- A participant's peak ratio becomes the larger of the two (R123). -/
def raisePeak (station peak : Nat) (r : EventRec) : EventRec :=
  { r with parts := r.parts.map (fun p => if p.station == station then { p with peak := max p.peak peak } else p) }

/-- The participant merge of R123 into the record of a key. A candidate that fails a test is left out and counted. -/
def mergePart (rid station : Nat) (onset : StationTime) (peak : Nat) (s : State) : State :=
  match s.rec? rid with
  | none => s
  | some r =>
    if r.parts.any (fun p => p.station == station) then updRec rid (raisePeak station peak) s
    else if !(1 ≤ station && station ≤ 14) then s
    else if canJoin s.window s.cu.events r station onset then updRec rid (fun r => addPart r { station, onset, peak }) s
    else bump .participantsLeftOut s

/-- An onset rebuilt from an offset (R113). Its offset, floored again, may be 1 ms less (log entry 72). -/
def rebuildOnset (earliest : StationTime) (offset : Nat) : StationTime := earliest + offset * 1048576 / 1000

/-- A declaration's participants are merged one by one in the order of its body (R123). -/
def mergeDecl (rid : Nat) (d : DeclBody) (s : State) : State :=
  d.parts.foldl (fun s p => mergePart rid p.station (rebuildOnset d.earliest p.offset) p.peak s) s

/-! ## Owing (R135) -/

/-- The owing rule of R135. -/
def oweUpdate (rid : Nat) (s : State) : State :=
  match s.rec? rid with
  | none => s
  | some r =>
    if r.state != .declared then s
    else if r.declOwed && r.carried.isNone then s
    else if r.update < 3 then ucUpdate rid (updRec rid (fun r => { r with update := r.update + 1, declOwed := true }) s)
    else s

/-! ## Binding and offering (R135) -/

/-- How an entry fits a record: not at all, without a merge, or as a late participant (R135). -/
inductive Fit where
  | no | bind | join
deriving DecidableEq, Repr

/-- The fit of an entry to a record (R135). -/
def fitOf (s : State) (r : EventRec) (e : Entry) : Fit :=
  if r.parts.any (fun p => p.station == e.station) then
    (if r.parts.any (fun p => p.station == e.station && s.withinWc p.onset e.onset) then .bind else .no)
  else if e.own && s.listenOnly then
    (if r.earliest ≤ e.onset + s.window && e.onset ≤ r.latest + s.window then .bind else .no)
  else if canJoin s.window s.cu.events r e.station e.onset then .join
  else .no

/-- The first HOLDOFF or live record, of those allowed, that an entry fits, in table order (R135). -/
def firstFit (s : State) (allow : EventRec → Bool) (e : Entry) : Option (EventRec × Fit) :=
  ((s.cu.events.filter (fun r => r.state.open && allow r)).map (fun r => (r, fitOf s r e))).find? (fun x => x.2 != .no)

/-- An entry as it stands bound to a record; the confirmed flag is set when the record is live (section 7.2). -/
def Entry.bindTo (e : Entry) (r : EventRec) : Entry :=
  { e with bound := some r.rid, confirmed := e.confirmed || r.state.live }

/-- What a late participant makes of its record (R135). -/
def joinRecord (r : EventRec) (f : Fit) (e : Entry) (s : State) : State :=
  match f with
  | .join => oweUpdate r.rid (updRec r.rid (fun x => addPart x { station := e.station, onset := e.onset, peak := e.peak }) s)
  | _ => s

/-- An unbound entry of the table is offered to the records allowed (R135). -/
def offerOne (allow : EventRec → Bool) (s : State) (e : Entry) : State :=
  if s.cu.entries.any (fun x => x == e) && e.bound.isNone then
    match firstFit s allow e with
    | some (r, f) => joinRecord r f e (setEntries (s.cu.entries.replace e (e.bindTo r)) s)
    | none => s
  else s

/-- Entries are offered one after the other, in table order (R135). -/
def offerEach (allow : EventRec → Bool) (es : List Entry) (s : State) : State := es.foldl (offerOne allow) s

/-! ## Retention (R115 step 1, R120) -/

/-- An onset is older than the own station time minus (W_c + 30 s). -/
def State.tooOld (s : State) (onset : StationTime) : Bool := onset + s.window + secs 30 < s.tb.time

/-- Unbound entries past retention are removed, own unconfirmed ones being reported (R120). -/
def retentionSweep (s : State) : State :=
  let gone (e : Entry) : Bool := e.bound.isNone && s.tooOld e.onset
  let out := s.cu.entries.filter gone
  out.foldl (fun s e => tdUnconfirmedIf (e.own && !e.confirmed) s) (setEntries (s.cu.entries.filter (fun e => !gone e)) s)

/-! ## Removal of records (R124, R125, R129) -/

/-- A record is removed with the entries bound to it (R120, R124). -/
def removeRec (rid : Nat) (s : State) : State :=
  cuReport (s.setCu { s.cu with
    events := s.cu.events.filter (fun r => r.rid != rid), entries := s.cu.entries.filter (fun e => e.bound != some rid) })

/-- The entries of a HOLDOFF record that goes become unbound; they, and no others, are offered, and retention applies to them
(R120, R128, R129, R135). They are offered to the HOLDOFF records as well as to the live ones (log entry 50). -/
def freeEntries (rid : Nat) (s : State) : State :=
  let free (e : Entry) : Entry := { e with bound := none }
  let freed := (s.cu.entries.filter (fun e => e.bound == some rid)).map free
  let s := setEntries (s.cu.entries.map (fun e => if e.bound == some rid then free e else e)) s
  retentionSweep (offerEach (fun _ => true) freed (removeRec rid s))

/-- The uplink states in which a finished record is removable (R124). -/
def UplinkState.done : UplinkState → Bool
  | .none | .sent | .withdrawn | .failed => true
  | _ => false

/-- CLOSED or MERGED and removable (R124). -/
def EventRec.removable (st : RecState) (r : EventRec) : Bool := r.state == st && r.uplink.done

/-- A place for a new record: a free one, or that of an evicted record (R125). `keep` is not a candidate (R133). -/
def makePlace (keep : Option Nat) (s : State) : Option State :=
  if s.cu.events.length < 8 then some s
  else
    let pick (st : RecState) := s.cu.events.find? (fun r => r.removable st && some r.rid != keep)
    match pick .closed with
    | some r => some (removeRec r.rid s)
    | none =>
      match pick .merged with
      | some r => some (removeRec r.rid s)
      | none => none

/-- A record in its place in the table; its key is the next one. -/
def insertRec (r : EventRec) (s : State) : State :=
  setEvents (s.cu.events ++ [r]) (s.setCu { s.cu with nextRid := s.cu.nextRid + 1 })

/-- A new record of the model's next key. -/
def newRec (s : State) (state : RecState) (id : Option EventId) (update : Nat) (earliest : StationTime) (opened : Elapsed) :
    EventRec :=
  { rid := s.cu.nextRid, id, state, earliest, parts := [], update, declOwed := false, carried := none, holdoff := none,
    mergedInto := none, uplink := .none, owedUplink := none, opened, lastEnd := opened, finished := none, delivered := false }

/-- The linger of a CLOSED or MERGED record has passed and it is removable (R124). -/
def State.lingered (s : State) (r : EventRec) : Bool :=
  (r.removable .closed || r.removable .merged) &&
    r.finished.any (fun t => s.window + secs 30 ≤ since s.now t)

/-- Every record whose linger has passed and that is removable is removed (R124). -/
def lingerSweep (s : State) : State :=
  (s.cu.events.filter s.lingered).foldl (fun s r => removeRec r.rid s) s

/-! ## Declaration (R127, R128) -/

/-- A live record's entries are confirmed (R128, R132). -/
def confirmEntries (rid : Nat) (s : State) : State :=
  setEntries (s.cu.entries.map (fun e => if e.bound == some rid then { e with confirmed := true } else e)) s

/-- A HOLDOFF record becomes DECLARED (R128). -/
def declareRec (rid : Nat) (s : State) : State :=
  let id : EventId := { origin := s.ownId, seq := s.cu.ownEventSeq }
  let s := s.setCu { s.cu with ownEventSeq := (s.cu.ownEventSeq + 1) % 256 }
  let s := updRec rid (fun r => { r with state := .declared, id := some id, declOwed := true, holdoff := none }) s
  cuRequest (ucNewEvent rid (cuReportOpen (bump .declarations (confirmEntries rid s))))

/-- The holdoff expiry of a HOLDOFF record: it is dissolved near a live record, else declared (R128). -/
def holdoffExpire (rid : Nat) (s : State) : State :=
  match s.rec? rid with
  | none => s
  | some r =>
    if s.cu.events.any (fun x => x.state.live && s.withinWc x.earliest r.earliest) then
      cuRequest (freeEntries rid (bump .holdoffsDissolved s))
    else declareRec rid s

/-! ## Quorum (R126) -/

/-- The unbound entries of the window that begins at an entry, in table order (R126). -/
def State.windowOf (s : State) (e : Entry) : List Entry :=
  s.cu.entries.filter (fun x => x.bound.isNone && e.onset ≤ x.onset && x.onset ≤ e.onset + s.window)

/-- A window is skipped near a HOLDOFF or live record (R126). -/
def State.skipped (s : State) (e : Entry) : Bool := s.cu.events.any (fun r => r.state.open && s.withinWc r.earliest e.onset)

/-- The window of an entry is a quorum (R126). -/
def State.isQuorum (s : State) (e : Entry) : Bool :=
  !s.skipped e && s.cs.image.quorum ≤ ((s.windowOf e).map (fun x => x.station)).dedup.length &&
    (s.windowOf e).any (fun x => x.own)

/-- Quorum evaluation (R126, R127). The holdoff slot is taken in whole ticks before it is multiplied by the rank (log entry 51). -/
def evalQuorum (s : State) : State :=
  if s.listenOnly then s
  else match (s.cu.entries.filter (fun e => e.bound.isNone)).find? s.isQuorum with
    | none => s
    | some e =>
      let win := s.windowOf e
      let s := bump .quorums s
      match makePlace none s with
      | none => bump .eventTableOverflow s
      | some s =>
        let rank := win.findIdx (fun x => x.own)
        let period := rank * millis s.cs.image.holdoffSlot
        let r := { newRec s .holdoff none 0 e.onset s.now with holdoff := s.startTimer period }
        let s := insertRec r s
        let s := win.foldl (fun s x => mergePart r.rid x.station x.onset x.peak s) s
        let s := setEntries (s.cu.entries.map (fun x => if win.contains x then { x with bound := some r.rid } else x)) s
        let s := cuReportOpen s
        if rank == 0 then holdoffExpire r.rid s else s

/-! ## Eviction and admission (R115, R119) -/

/-- The entry's record is HOLDOFF (section 7.2). -/
def State.provisional (s : State) (e : Entry) : Bool :=
  e.bound.any (fun k => (s.rec? k).any (fun r => r.state == .holdoff))

/-- The oldest evictable entry: the first in table order that is unbound or provisionally bound (R119). -/
def State.evictable (s : State) : Option Entry := s.cu.entries.find? (fun e => e.bound.isNone || s.provisional e)

/-- An entry is evicted; that of a HOLDOFF record takes the record with it (R119, R129). -/
def evict (e : Entry) (s : State) : State :=
  let s := tdUnconfirmedIf (e.own && !e.confirmed)
    (bump .triggerTableOverflow (setEntries (s.cu.entries.erase e) s))
  match e.bound with
  | none => s
  | some k => freeEntries k s

/-- An arrival of step 3 or 4 of R115 has a place at once (`some none`), takes that of the entry it evicts, or has none (R119). -/
def State.placeFor (s : State) : Option (Option Entry) :=
  if s.cu.entries.length < 24 then some none else s.evictable.map some

/-- The entry that gives up its place, if any, is evicted. -/
def evictFor (victim : Option Entry) (s : State) : State :=
  match victim with
  | none => s
  | some e => evict e s

/-- Steps 3 to 5 of R115 for an arrival that did not merge. It is offered first, to the records as they stand; one that fits none is
inserted unbound after the eviction, and quorum is evaluated. One that is bound needs a place as well (log entry 20). -/
def placeEntry (e : Entry) (s : State) : State :=
  match s.placeFor with
  | none => bump .triggerTableOverflow s
  | some victim =>
    match firstFit s (fun _ => true) e with
    | some (r, f) => evictFor victim (joinRecord r f e (setEntries (s.cu.entries ++ [e.bindTo r]) s))
    | none =>
      let s := evictFor victim s
      evalQuorum (setEntries (s.cu.entries ++ [e]) s)

/-- The entry an arrival merges into: the first of the same station within W_c (R115 step 2). -/
def State.mergeTarget (s : State) (station : Nat) (onset : StationTime) : Option Entry :=
  s.cu.entries.find? (fun e => e.station == station && s.withinWc e.onset onset)

/-- An entry with an arrival merged into it (R115 step 2). -/
def Entry.absorb (e : Entry) (x : Entry) : Entry :=
  { e with
    onset := if e.bound.isNone then min e.onset x.onset else e.onset
    peak := max e.peak x.peak
    mask := match e.mask, x.mask with | some a, some b => some (a ||| b) | none, m => m | m, none => m
    endAt := x.endAt }

/-- The last END of a live record, or of a HOLDOFF record that may yet become one, becomes the elapsed count now (R136). -/
def renewEnd (p : EventRec → Bool) (s : State) : State :=
  s.setCu { s.cu with events := s.cu.events.map (fun r => if r.state.open && p r then { r with lastEnd := s.now } else r) }

/-- An arrival merges into an entry (R115 steps 2, 3 and 5). -/
def mergeEntry (e x : Entry) (s : State) : State :=
  let e' := e.absorb x
  let s := setEntries (s.cu.entries.replace e e') s
  match e.bound with
  | some k =>
    let s := updRec k (setPeak e'.station e'.peak) s
    if x.endAt.isSome then renewEnd (fun r => r.rid == k) s else s
  | none => evalQuorum (offerOne (fun _ => true) s e')

/-- An onset that reaches CU is admitted (R115). -/
def admitOnset (x : Entry) (s : State) : State :=
  if s.tooOld x.onset then bump .staleEntries s
  else match s.mergeTarget x.station x.onset with
    | some e => cuRequest (mergeEntry e x s)
    | none => cuRequest (placeEntry x s)

/-- An arrival that is not stale and merges into no entry finds a place, a free one or by eviction (R115, R119). -/
def State.findsPlace (s : State) (x : Entry) : Bool :=
  !s.tooOld x.onset && (s.mergeTarget x.station x.onset).isNone && s.placeFor.isSome

/-- An arrival's entry (R115 to R118). -/
def arrival (station : Nat) (onset : StationTime) (mask : Option Nat) (peak : Nat) (endAt : Option StationTime) (own : Bool) : Entry :=
  { station, onset, mask, peak, endAt, bound := none, own, confirmed := false }

/-! ## Closure (R136, R137) -/

/-- A participant stands OFF (R136). -/
def State.standsOff (s : State) (station : Nat) : Bool :=
  match s.peer station with
  | none => true
  | some p => !(p.trig == some .on || p.trig == some .hold)

/-- The conditions of R136. -/
def State.mayClose (s : State) (r : EventRec) : Bool :=
  r.state.live &&
  r.parts.all (fun p => if p.station == s.ownId then !s.td.active else s.standsOff p.station) &&
  secs s.cs.image.closeDelay ≤ since s.now r.lastEnd

/-- A record as it stands CLOSED now (R137). -/
def EventRec.close (now : Elapsed) (r : EventRec) : EventRec :=
  { r with state := .closed, finished := some now, declOwed := false }

/-- The records that meet a test become CLOSED (R136, R137). -/
def closeWhere (p : EventRec → Bool) (s : State) : State :=
  if s.cu.events.any p then
    cuReport (s.setCu { s.cu with events := s.cu.events.map (fun r => if p r then r.close s.now else r) })
  else s

/-- The closure test on the records that a condition names (R136). -/
def closeTest (p : EventRec → Bool) (s : State) : State := closeWhere (fun r => p r && s.mayClose r) s

/-- A station is among the participants. -/
def EventRec.includes (r : EventRec) (station : Nat) : Bool := r.parts.any (fun p => p.station == station)

/-! ## Own reports (R116) and notices (R117, R118) -/

/-- TD hands CU an own onset (R116). -/
def cuOwnOnset (onset : StationTime) (mask peak : Nat) (s : State) : State :=
  admitOnset (arrival s.ownId onset (some mask) peak none true) s

/-- TD hands CU the end of its own entry (R116). -/
def cuOwnEnd (onset endAt : StationTime) (mask peak : Nat) (s : State) : State :=
  match s.cu.entries.find? (fun e => e.own && s.withinWc e.onset onset) with
  | none => s
  | some e =>
    closeTest (fun r => e.bound == some r.rid) (cuRequest (mergeEntry e (arrival s.ownId onset (some mask) peak (some endAt) true) s))

/-- A TRIGGER NOTICE body (R117); the records of the sender are then tested for closure (R136). -/
def cuNotice (sender : Nat) (n : Notice) (s : State) : State :=
  let endAt := if n.kind == .finish then some (n.onset + n.duration * 1048576 / 10) else none
  closeTest (fun r => r.includes sender) (admitOnset (arrival sender n.onset (some n.mask) n.peak endAt false) s)

/-- The trigger fields of a BEACON (R118); the records of the sender are then tested for closure (R136). `ended` says that the
beacon changed the sender's trigger state from ON or HOLD to another; the onset is admitted first, so that the record the sender
joins by it has its last END renewed too (log entry 66, DESIGN CHOICE). -/
def cuBeacon (sender : Nat) (b : BeaconBody) (ended : Bool) (s : State) : State :=
  let s := match b.lastOnset with
    | none => s
    | some onset =>
      if (s.mergeTarget sender onset).isSome then s
      else
        let x := arrival sender onset none b.peak none false
        bumpIf (s.findsPlace x) .recoveredEntries (admitOnset x s)
  let s := if ended then renewEnd (fun r => r.includes sender) s else s
  closeTest (fun r => r.includes sender) s

/-- The removal of a peer record (R136, R51). -/
def cuPeerRemoved (id : Nat) (s : State) : State :=
  closeTest (fun r => r.includes id) (renewEnd (fun r => r.includes id) s)

/-! ## Declarations received (R131 to R134) -/

/-- The conflict rule: the declaration wins over the record (R133). -/
def declWins (d : DeclBody) (x : EventRec) : Bool :=
  d.earliest < x.earliest ||
    (d.earliest == x.earliest && (match x.id with | some i => !(i.le d.id) | none => true))

/-- Every unbound entry is offered to the record of a key (R131 to R134). -/
def offerTo (rid : Nat) (s : State) : State :=
  offerEach (fun r => r.rid == rid) (s.cu.entries.filter (fun e => e.bound.isNone)) s

/-- D is an update of a record of its id (R131). -/
def declUpdate (r : EventRec) (d : DeclBody) (s : State) : State :=
  let s := mergeDecl r.rid d s
  let s := updRec r.rid (fun x => { x with update := max x.update d.update }) s
  let s := if r.state == .adopted && r.update < d.update then ucUpdate r.rid s else s
  offerTo r.rid s

/-- D is adopted into a HOLDOFF record (R132). Nothing is tested against R122's law: the record becomes live also beside a live one
within W_c of its earliest onset, where R128 would have dissolved it (log entry 75, DESIGN CHOICE). -/
def declAdoptHoldoff (x : EventRec) (d : DeclBody) (s : State) : State :=
  let s := updRec x.rid (fun r => { r with state := .adopted, id := some d.id, update := d.update, holdoff := none }) s
  let s := confirmEntries x.rid (mergeDecl x.rid d s)
  offerTo x.rid (ucNewEvent x.rid (cuReportOpen (bump .adoptions s)))

/-- D is adopted into a new record (R132). -/
def declAdoptNew (d : DeclBody) (s : State) : State :=
  match makePlace none s with
  | none => bump .eventTableOverflow s
  | some s =>
    let r := newRec s .adopted (some d.id) d.update d.earliest s.now
    let s := mergeDecl r.rid d (insertRec r s)
    offerTo r.rid (ucNewEvent r.rid (cuReportOpen (bump .adoptions s)))

/-- The own DECLARED record loses to D (R133). -/
def conflictLost (x : EventRec) (d : DeclBody) (s : State) : State :=
  let s := updRec x.rid (fun r =>
    { r with state := .merged, mergedInto := some d.id, finished := some s.now, declOwed := false }) s
  let s := ucWithdraw x.rid (cuReport s)
  let s := match makePlace (some x.rid) s with
    | none => bump .eventTableOverflow s
    | some s =>
      let r := newRec s .adopted (some d.id) d.update d.earliest x.opened
      let s := mergeDecl r.rid d (insertRec r s)
      let s := x.parts.foldl (fun s p => mergePart r.rid p.station p.onset p.peak s) s
      let s := setEntries (s.cu.entries.map (fun e =>
        if e.bound == some x.rid then { e with bound := some r.rid, confirmed := true } else e)) s
      offerTo r.rid (ucNewEvent r.rid (cuReportOpen s))
  bump .conflictsLost (ucPromote s)

/-- The own DECLARED record wins over D (R133). -/
def conflictWon (x : EventRec) (d : DeclBody) (s : State) : State :=
  bump .conflictsWon (offerTo x.rid (oweUpdate x.rid (mergeDecl x.rid d s)))

/-- The conflict between an ADOPTED record and D (R134). -/
def conflictAdopted (x : EventRec) (d : DeclBody) (s : State) : State :=
  if declWins d x then
    let s := updRec x.rid (fun r => { r with id := some d.id, update := d.update }) s
    offerTo x.rid (ucChangeId x.rid x.id (mergeDecl x.rid d s))
  else offerTo x.rid (mergeDecl x.rid d s)

/-- A declaration's earliest onset is older than the own station time minus the maximum life (R131). -/
def State.declTooOld (s : State) (d : DeclBody) : Bool := d.earliest + secs s.cs.image.maxLife < s.tb.time

/-- D names no record of its id: it is set against the first HOLDOFF or live record near it, whatever its age (R132 to R134). Where
it matches none by time either, one older than the maximum life is ignored (R131; log entry 21), and another is adopted. -/
def declAgainst (d : DeclBody) (s : State) : State :=
  match s.cu.events.find? (fun r => r.state.open && s.withinWc r.earliest d.earliest) with
  | none => if s.declTooOld d then bump .declarationsIgnored s else declAdoptNew d s
  | some x =>
    match x.state with
    | .declared => if declWins d x then conflictLost x d s else conflictWon x d s
    | .adopted => conflictAdopted x d s
    | .holdoff | .merged | .closed => declAdoptHoldoff x d s

/-- An EVENT DECLARATION body, matched first by id and then by time (R131, section 7.5). -/
def cuDeclaration (sender : Nat) (d : DeclBody) (s : State) : State :=
  if d.id.origin != sender then bump .declarationsIgnored s
  else
    cuRequest (match s.cu.events.find? (fun r => r.id == some d.id && s.withinWc r.earliest d.earliest) with
    | some r => declUpdate r d s
    | none => declAgainst d s)

/-! ## Frames of declarations (R130, R31) -/

/-- The record the builder takes: among those owing the one with the oldest opened time, then the lower id (R31). -/
def State.owing (s : State) : Option EventRec :=
  (sortBy (fun (a b : EventRec) => since s.now b.opened < since s.now a.opened ||
    (since s.now a.opened == since s.now b.opened && idLe a.id b.id)) (s.cu.events.filter EventRec.owes)).head?

/-- Completion of a declaration frame (R130). -/
def cuDeclarationSent (rid update : Nat) (s : State) : State :=
  cuRequest (updRec rid (fun r =>
    { r with carried := none, declOwed := r.declOwed && !(r.state == .declared && r.update == update) }) s)

/-! ## Steps and modes (R121, R139) -/

/-- CU's part of a step notice with A ≠ 0 (R121). -/
def cuStep (s : State) : State :=
  retentionSweep (setEntries (s.cu.entries.filter (fun e => !(e.own && e.bound.isNone))) s)

/-- The trigger table is cleared at entry to DORMANT and SHELTER (R139). -/
def cuClear (s : State) : State := s.setCu { s.cu with entries := [] }

/-- CU at entry to SHELTER (R139). -/
def cuShelter (s : State) : State :=
  let s := cuClear s
  let s := if s.cu.events.any (fun r => r.state == .holdoff) then
      cuReport (s.setCu { s.cu with events := s.cu.events.filter (fun r => r.state != .holdoff) }) else s
  closeWhere (fun r => r.state.live) s

end Sys2Proof.Machine
end

