-- ==== Sys2Proof/Machine/StationTrigger.lean ====
section
/-! DEFINITION. The station trigger (chapter 6): a sample set taken, onset, hold, retrigger, end, start and stop. -/
namespace Sys2Proof.Machine

/-- OFF → ON (R100). -/
def tdOnset (grid : StationTime) (peak : Nat) (s : State) : State :=
  let mask := s.td.onMask
  let s := s.setTd { s.td with
    state := .on, onset := some grid, mask := some mask, peak := peak, endAt := none, void := false,
    overTimer := s.startTimer (secs s.cs.image.tMax), overlong := false, lastOnset := some grid, outstanding := some s.now }
  let s := requestNotice { kind := .onset, onset := grid, mask := mask, peak := peak, duration := 0 } s
  bump .triggers (cuOwnOnset grid mask peak s)

/-- The reports of the end of a trigger, unless it is void: the own entry's end and the END notice (R102). -/
def tdEndReports (endAt : StationTime) (s : State) : State :=
  match s.td.void, s.td.onset with
  | false, some onset =>
    let mask := s.td.mask.getD 0
    requestEnd onset mask s.td.peak (tenths (endAt - onset)) (cuOwnEnd onset endAt mask s.td.peak s)
  | _, _ => s

/-- HOLD → OFF (R102). -/
def tdOff (s : State) : State :=
  let endAt := s.td.endAt.getD 0
  tdEndReports endAt (s.setTd { s.td with state := .off, endAt := none, holdTimer := none })

/-- ON → HOLD; with a hold of 0 s HOLD → OFF follows at once (R101). -/
def tdHold (grid : StationTime) (s : State) : State :=
  let s := s.setTd { s.td with
    state := .hold, endAt := some grid, overTimer := none, overlong := false
    holdTimer := s.startTimer (secs s.cs.image.hold) }
  if s.cs.image.hold = 0 then tdOff s else s

/-- HOLD → ON: the trigger continues (R101). -/
def tdRetrigger (s : State) : State :=
  bump .retriggers (s.setTd { s.td with
    state := .on, endAt := none, holdTimer := none, overTimer := s.startTimer (secs s.cs.image.tMax) })

/-- The ratio a channel adds to the peak at a set: it was compared and is ON (R98). -/
def peakOf (c : Channel × Bool) : Nat := if c.2 && c.1.isOn then c.1.ratio else 0

/-- The largest ratio among the channels that are ON (R98). -/
def Trigger.onPeak (t : Trigger) : Nat :=
  max (if t.z.isOn then t.z.ratio else 0) (max (if t.n.isOn then t.n.ratio else 0) (if t.e.isOn then t.e.ratio else 0))

/-- The enabled channels have finished settling (R96, R99). -/
def Trigger.settled (t : Trigger) : Bool :=
  t.z.state != .settling && t.n.state != .settling && t.e.state != .settling

/-- The vote and the station trigger, evaluated once for a set (R98 to R101). `compared` is the largest ratio of the channels
that were compared at this set and are ON. -/
def tdEvaluate (grid : StationTime) (compared : Nat) (s : State) : State :=
  let reached := decide (s.voteK ≤ s.td.vote)
  match s.td.state with
  | .stopped => s
  | .settling => if s.td.settled then s.setTd { s.td with state := .off } else s
  | .off => if reached then tdOnset grid s.td.onPeak s else s
  | .on =>
    let s := s.setTd { s.td with peak := max s.td.peak compared, mask := some (s.td.mask.getD 0 ||| s.td.onMask) }
    if reached then s else tdHold grid s
  | .hold =>
    let s := s.setTd { s.td with peak := max s.td.peak compared, mask := some (s.td.mask.getD 0 ||| s.td.onMask) }
    if reached then tdRetrigger s else s

/-- TD takes a sample set that the Sample Interface hands on (R90). -/
def tdTakeSet (grid : StationTime) (x : SampleSet) (s : State) : State :=
  if s.td.state == .stopped then s
  else
    let cfg := s.chanCfg
    let z := s.td.z.take cfg s.td.overlong x.z x.overZ
    let n := s.td.n.take cfg s.td.overlong x.n x.overN
    let e := s.td.e.take cfg s.td.overlong x.e x.overE
    let s' := s.setTd { s.td with z := z.1, n := n.1, e := e.1, lastSet := some grid }
    tdReport s (tdEvaluate grid (max (peakOf z) (max (peakOf n) (peakOf e))) s')

/-- The detector starts (R110). -/
def tdStart (s : State) : State :=
  tdReport s (s.setTd { s.td with
    state := .settling, lastSet := none
    z := Channel.start (s.enabled 0) s.cs.image.aL
    n := Channel.start (s.enabled 1) s.cs.image.aL
    e := Channel.start (s.enabled 2) s.cs.image.aL })

/-- The detector stops; a trigger in ON or HOLD is ended first (R110). The settle counts, the ratios and the dropped averages of its
channels become 0 (log entries 48 and 49). -/
def tdStop (s : State) : State :=
  let endAt := (s.td.lastSet.orElse (fun _ => s.td.onset)).getD 0
  let t := if s.td.active then tdEndReports endAt s else s
  tdReport s (t.setTd { t.td with
    state := .stopped, z := .stopped, n := .stopped, e := .stopped, endAt := none, holdTimer := none, overTimer := none,
    overlong := false, lastSet := none })

/-- The hold timer expires (R102). -/
def tdHoldExpiry (s : State) : State := tdReport s (tdOff s)

/-- The overlong timer expires (R104). -/
def tdOverlong (s : State) : State :=
  bump .overlongReleases (s.setTd { s.td with overlong := true, overTimer := none })

/-- TD at RESTART (R111). -/
def Trigger.restart (_t : Trigger) : Trigger := Trigger.reset

end Sys2Proof.Machine
end

