-- ==== Sys2Proof/Machine/Reference.lean ====
section
/-! DEFINITION. The Reference Mark Unit (chapter 1): verdicts, the lock state machine, the expectation, sleep and waking. -/
namespace Sys2Proof.Machine

/-- The four verdicts on a mark (section 1.7); GOOD carries the mark offset. -/
inductive Verdict where
  | first
  | good (offset : Int)
  | bad
  | missing
deriving DecidableEq, Repr

/-- The elapsed count has reached a reading (modulo 2^48). -/
def reached (now due : Elapsed) : Bool := since now due < 140737488355328

/-- The loss timer starts from zero (R18). -/
def State.lossStart (s : State) : Option Timer := s.startTimer (secs 60)

/-- The RMU moves to another state. An expectation armed or re-armed at the edge or expiry whose verdict moved it (`cause`)
counts as armed in the new state; another does not (R17). -/
def rmuMove (st : RmuState) (cause : Option Elapsed) (s : State) : State :=
  s.setRmu { s.rmu with
    state := st
    expectation := s.rmu.expectation.map (fun e => { e with live := some e.due == cause }) }

/-- ACQUIRING is entered (R18). -/
def rmuAcquire (cause : Option Elapsed) (s : State) : State :=
  let s := rmuMove .acquiring cause s
  s.setRmu { s.rmu with good := 0, lossTimer := s.lossStart }

/-- LOCKED is entered with the offset of the completing mark (R18, R8). -/
def rmuLock (offset : Int) (cause : Option Elapsed) (s : State) : State :=
  let s := rmuMove .locked cause s
  let s := s.setRmu { s.rmu with bad := 0, good := 4, lossTimer := none, offsets := [offset] }
  s.setTb { s.tb with distance := 0 }

/-- LOCKED is left for HOLDOVER (R18, R8). -/
def rmuUnlock (cause : Option Elapsed) (s : State) : State :=
  let s := rmuMove .holdover cause s
  distanceUnlocked (s.setRmu { s.rmu with good := 0, offsets := [], lossTimer := s.lossStart })

/-- ABSENT is entered: the previous mark is dropped and the expectation disarmed (R18). -/
def rmuAbsent (s : State) : State :=
  s.setRmu { s.rmu with state := .absent, prev := none, expectation := none, lossTimer := none }

/-- The counter of a verdict (R16). -/
def countVerdict (v : Verdict) (s : State) : State :=
  match v with
  | .bad => bump .badMarks s
  | .missing => bump .missingMarks s
  | .first | .good _ => s

/-- A verdict moves the RMU (R18). -/
def rmuVerdict (v : Verdict) (cause : Option Elapsed) (s : State) : State :=
  let s := countVerdict v s
  match s.rmu.state, v with
  | .absent, .good _ | .absent, .first => rmuAcquire cause s
  | .absent, .bad | .absent, .missing => s
  | .acquiring, .good o | .holdover, .good o =>
    if 4 ≤ s.rmu.good + 1 then rmuLock o cause s
    else s.setRmu { s.rmu with good := s.rmu.good + 1, lossTimer := s.lossStart }
  | .acquiring, .first | .acquiring, .bad | .acquiring, .missing
  | .holdover, .first | .holdover, .bad | .holdover, .missing => s.setRmu { s.rmu with good := 0 }
  | .locked, .good o => s.setRmu { s.rmu with bad := 0, offsets := pushKeep 3 s.rmu.offsets o }
  | .locked, .first => s.setRmu { s.rmu with bad := 0 }
  | .locked, .bad | .locked, .missing =>
    let s := s.setRmu { s.rmu with bad := s.rmu.bad + 1 }
    if 3 ≤ s.rmu.bad then rmuUnlock cause s else s

/-- When the expectation that an edge armed falls due (R17). -/
def edgeDueAt (edge : Elapsed) : Elapsed := edge + 1049576

/-- The RMU takes MARK edges: a receiver, an awake mode, not sleeping (R15). -/
def State.takesMarks (s : State) : Bool := s.cs.image.receiver && s.awake && !s.rmu.sleeping

/-- An open mark takes MISSING, and the result of its read is discarded (R15). -/
def closeOpenMark (s : State) : State :=
  match s.rmu.openMark with
  | none => s
  | some m =>
    rmuVerdict .missing (some (edgeDueAt m.edge)) (twDiscard .label (s.setRmu { s.rmu with openMark := none }))

/-- A MARK edge (R15). -/
def rmuEdge (s : State) : State :=
  if !s.takesMarks then s
  else
    let s := closeOpenMark s
    if s.tb.source == .fast then
      twRequest .label (s.setRmu { s.rmu with
        openMark := some { stamp := s.tb.time, edge := s.now }
        expectation := some { due := edgeDueAt s.now, live := true } })
    else rmuVerdict .missing none s

/-- The verdict on a mark whose label read completed in time, against the previous mark (R16). -/
def verdictOf (prev : Option Mark) (m : Mark) : Verdict :=
  if !m.valid then .bad
  else match prev with
    | none => .first
    | some p =>
      if m.label = p.label + 1 ∧ 1047576 ≤ m.stamp - p.stamp ∧ m.stamp - p.stamp ≤ 1049576 then
        .good ((m.label : Int) * 1048576 - m.stamp)
      else .bad

/-- The mark that an open mark and the bytes of its label read make (R15, section 12.2). The label's first byte is its most
significant one: the table states no byte order (log entry 71, DESIGN CHOICE). -/
def markOf (m : OpenMark) (bytes : List Byte) : Mark :=
  { stamp := m.stamp, label := num bytes 0 4, valid := num bytes 4 1 % 2 = 1 }

/-- The label read of the open mark has ended (R15, R16). -/
def rmuReadEnd (r : TwEnd 5) (s : State) : State :=
  match s.rmu.openMark with
  | none => s
  | some m =>
    let cause := some (edgeDueAt m.edge)
    let s := s.setRmu { s.rmu with openMark := none }
    match r with
    | .complete bytes =>
      if since s.now m.edge ≤ 524288 then
        let mark := markOf m bytes.toList
        let s' := rmuVerdict (verdictOf s.rmu.prev mark) cause s
        s'.setRmu { s'.rmu with prev := some mark }
      else rmuVerdict .missing cause s
    | .nack | .timeout | .busStuck => rmuVerdict .missing cause s

/-- The expectation may expire in this state (R17). -/
def Rmu.expects (r : Rmu) : Bool := r.state != .absent && !r.sleeping

/-- The mark expectation expires: it is re-armed one second later, and the mark that did not come is MISSING (R17). -/
def rmuExpectation (s : State) : State :=
  match s.rmu.expectation with
  | none => s
  | some e =>
    if s.rmu.expects && e.live && reached s.now e.due then
      let due := e.due + 1048576
      rmuVerdict .missing (some due) (s.setRmu { s.rmu with expectation := some { due, live := true } })
    else s

/-- The RMU sleeps (R19). -/
def rmuSleep (s : State) : State :=
  let s := if s.rmu.openMark.isSome then bump .missingMarks (twDiscard .label s) else s
  distanceUnlocked (s.setRmu { s.rmu with
    state := .holdover, sleeping := true, good := 0, bad := 0, offsets := [], prev := none, expectation := none,
    lossTimer := none, openMark := none })

/-- The RMU wakes in ACQUIRING, or in ABSENT without a receiver (R19). -/
def rmuWake (s : State) : State :=
  if s.rmu.sleeping then
    if s.cs.image.receiver then
      s.setRmu { s.rmu with sleeping := false, state := .acquiring, good := 0, prev := none, expectation := none, lossTimer := s.lossStart }
    else s.setRmu { s.rmu with sleeping := false, state := .absent, prev := none, expectation := none, lossTimer := none }
  else s

/-- The RMU's part of a step notice: the stamps are moved by A and the kept offsets by −A (R17). -/
def rmuStep (a : Int) (s : State) : State :=
  s.setRmu { s.rmu with
    prev := s.rmu.prev.map (fun m => { m with stamp := m.stamp + a })
    openMark := s.rmu.openMark.map (fun m => { m with stamp := m.stamp + a })
    offsets := s.rmu.offsets.map (fun o => o - a) }

end Sys2Proof.Machine
end

