-- ==== Sys2Proof/Machine/SampleInput.lean ====
section
/-! DEFINITION. The Sample Interface (chapter 5): the grid, sets judged against it, missing samples, FAULT, DIG_SYNC. -/
namespace Sys2Proof.Machine

/-- The configured sample rate (section 5.1). -/
def State.rate (s : State) : Nat := sampleRate s.cs.image.sampleCode

/-- The grid time of a slot (R82). -/
def gridTime (rate : Nat) (g : GridSlot) : StationTime := g.sec * tps + g.index * 1048576 / rate

/-- The slot after a slot (R82). -/
def nextSlot (rate : Nat) (g : GridSlot) : GridSlot :=
  if g.index + 1 < rate then { g with index := g.index + 1 } else { sec := g.sec + 1, index := 0 }

/-- The grid tolerance T (section 5.1). -/
def tolerance (rate : Nat) : Nat := 1048576 / (8 * rate)

/-- The expected arrival e of a slot (R82). -/
def State.expected (s : State) (g : GridSlot) : StationTime := gridTime s.rate g + s.cs.image.latency

/-- The window of a slot has closed: station time is past e + T (R85). -/
def State.windowClosed (s : State) (g : GridSlot) : Bool := s.expected g + tolerance s.rate < s.tb.time

/-- The window of a slot has opened: station time has reached e − T (R82). -/
def State.windowOpen (s : State) (g : GridSlot) : Bool := s.expected g ≤ s.tb.time + tolerance s.rate

/-- The number of a slot, counted over all seconds. -/
def GridSlot.number (rate : Nat) (g : GridSlot) : Nat := g.sec * rate + g.index

/-- The first slot whose grid time is at least u: the first whose window is open at station time u + L + T. -/
def firstSlotFrom (rate u : Nat) : GridSlot :=
  let i := (u % tps * rate + (tps - 1)) / tps
  if i < rate then { sec := u / tps, index := i } else { sec := u / tps + 1, index := 0 }

/-- n slots are counted missing and the expected slot moves on (R85). -/
def countMissing (n : Nat) (g : GridSlot) (s : State) : State :=
  bumpBy .missingSamples n (s.setSi { s.si with
    slot := some g, goodRun := if s.si.grid == .fault then 0 else s.si.goodRun })

/-- Every window that station time has passed closes, one slot at a time in ascending order (R85). -/
def closeWindows (s : State) : State :=
  match s.si.slot with
  | none => s
  | some g =>
    if s.windowClosed g then
      let g' := firstSlotFrom s.rate (s.tb.time - (s.cs.image.latency + tolerance s.rate))
      countMissing (g'.number s.rate - g.number s.rate) g' s
    else s

/-- The expected slot's window closes (R85). -/
def closeOneWindow (s : State) : State :=
  match s.si.slot with
  | none => s
  | some g => if s.windowClosed g then countMissing 1 (nextSlot s.rate g) s else s

/-- A set is handed to the Trigger Detector with its grid time; a calibration-active set is preceded by a blanking request of 1
sample (R87, R82). -/
def handOver (grid : StationTime) (x : SampleSet) (s : State) : State :=
  let s := s.setSi { s.si with lastHanded := some grid }
  tdTakeSet grid x (if x.calibration then requestBlanking 1 s else s)

/-- An on-grid set (R82, R84). -/
def onGrid (g : GridSlot) (x : SampleSet) (s : State) : State :=
  let s := s.setSi { s.si with faultRun := 0, slot := some (nextSlot s.rate g) }
  if s.si.grid == .fault then
    if 2 ≤ s.si.goodRun + 1 then
      handOver (gridTime s.rate g) x (s.setSi { s.si with goodRun := s.si.goodRun + 1, grid := .tracking, faultHeld := false })
    else s.setSi { s.si with goodRun := s.si.goodRun + 1 }
  else handOver (gridTime s.rate g) x s

/-- An off-grid set (R83). -/
def offGrid (s : State) : State :=
  let s := bump .timingFaults s
  if s.si.grid == .fault then s.setSi { s.si with goodRun := 0 }
  else
    let s := s.setSi { s.si with faultRun := s.si.faultRun + 1 }
    if 3 ≤ s.si.faultRun then
      bump .faultEntries (s.setSi { s.si with grid := .fault, faultHeld := true, goodRun := 0 })
    else s

/-- A complete set is judged against the expected slot (R82). -/
def judgeSet (x : SampleSet) (s : State) : State :=
  let s := closeWindows s
  match s.si.slot with
  | none => s
  | some g => if s.windowOpen g then onGrid g x s else offGrid s

/-! ## The port (R77, R78) -/

/-- A set is in progress, with 1 to 79 of its bits taken (R78). Outside it the port is unframed: before the first DIG_FRM since SI
began taking it, and after a completed set (R77). -/
def SampleIf.inSet (x : SampleIf) : Bool := decide (1 ≤ x.bitCount ∧ x.bitCount ≤ 79)

/-- A framed bit begins a new set; a set in progress ends as partial, and is counted (R77, R78). -/
def startSet (bit : Bool) (s : State) : State :=
  bumpIf s.si.inSet .partialSets (s.setSi { s.si with bitCount := 1, buffer := [bit] })

/-- An unframed bit is added to the set in progress (R77). -/
def addBit (bit : Bool) (s : State) : State :=
  s.setSi { s.si with bitCount := s.si.bitCount + 1, buffer := s.si.buffer ++ [bit] }

/-- The set in the buffer is complete: it is decoded and judged (R77, R79, R81, R82). -/
def takeSet (s : State) : State :=
  let x := decodeSet (setBytes s.si.buffer)
  let s := bumpIf (x.overZ || x.overN || x.overE) .overloadedSets s
  match s.si.grid with
  | .off => s
  | .unaligned => bump .unalignedSets s
  | .tracking | .fault => judgeSet x s

/-- SI starts: UNALIGNED and unframed, the fault-held flag as it stood (R88). A realigning pulse that has not risen yet is still to
come (R80, R86). -/
def siStart (s : State) : State := s.setSi { s.si with grid := .unaligned, slot := none, bitCount := 0, buffer := [] }

/-- SI stops: OFF (R88). The first pulse after a step stays the realigning pulse (R80). -/
def siStop (s : State) : State :=
  s.setSi { s.si with grid := .off, slot := none, bitCount := 0, buffer := [], faultRun := 0, goodRun := 0 }

/-- SI's part of a step notice with A ≠ 0 (R86). -/
def siStep (s : State) : State :=
  if s.si.grid == .off then s else s.setSi { s.si with grid := .unaligned, slot := none, realign := true }

/-- A pulse in UNALIGNED arms the grid at sample 0 of its second (R81). -/
def SampleIf.arm (x : SampleIf) (sec : Nat) : SampleIf :=
  if x.grid == .unaligned then
    { x with grid := if x.faultHeld then .fault else .tracking, slot := some { sec := sec, index := 0 }, faultRun := 0, goodRun := 0 }
  else x

/-- SI takes a second boundary outside START: DIG_SYNC rises, and in UNALIGNED the pulse arms the grid; the first pulse after a
step realigns and asks for digitiser-settle blanking, which a stopped detector discards (R80, R81, R86, R97). -/
def siBoundary (sec : Nat) (s : State) : State :=
  if s.mc.standing.inStart then s
  else
    let realign := s.si.realign
    let s := s.setSi { s.si.arm sec with digSync := some s.now, realign := false }
    if realign then requestBlanking s.cs.image.bSync s else s

/-- SI at RESTART: the fault-held flag is kept (R89); a realigning pulse that waits is dropped, which R89 does not list (log entry
60, DESIGN CHOICE). -/
def SampleIf.restart (x : SampleIf) : SampleIf := { SampleIf.reset with faultHeld := x.faultHeld }

end Sys2Proof.Machine
end

