-- ==== Sys2Proof/Machine/PeerTable.lean ====
section
/-! DEFINITION. The Peer Table (chapter 3): records created and updated by frames, the check-error ring and the link grade,
ages, and removal. -/
namespace Sys2Proof.Machine

/-- The header facts of an accepted frame (R40). -/
structure HeaderFacts where
  sender : Nat
  seq : Nat
  moment : Elapsed
  errors : Nat
  isBeacon : Bool
deriving DecidableEq, Repr

/-- The link grade by the frames counted and the ring sum (R49). -/
def gradeOf (eGood ePoor counted sum : Nat) : Grade :=
  if counted < 4 then .marginal else if sum ≤ eGood then .good else if sum ≤ ePoor then .marginal else .poor

/-- A check error count enters the ring (R48). -/
def ringPush (n : Nat) (r : PeerRecord) : PeerRecord :=
  if 16 ≤ r.ring.length then
    { r with ring := r.ring.tail ++ [n], ringSum := r.ringSum - r.ring.headD 0 + n }
  else { r with ring := r.ring ++ [n], ringSum := r.ringSum + n, counted := r.counted + 1 }

/-- The record at creation (section 3.2, R44). -/
def newPeer (f : HeaderFacts) : PeerRecord :=
  { id := f.sender, lastHeard := f.moment, heldAge := none, code := none, mode := none, cls := none, distance := none,
    quality := none, unset := none, trig := none, lastOnset := none, sample := none, ranging := .unranged, delay := none,
    rangeTime := none, attempts := 0, ring := [f.errors], ringSum := f.errors, counted := 1, grade := .marginal,
    lastSeq := f.seq }

/-- A frame other than a BEACON is a sign that its sender is awake (R45). -/
def wakeMode (isBeacon : Bool) (r : PeerRecord) : PeerRecord :=
  if isBeacon || r.isAwake then r else { r with mode := some .economy }

/-- The header facts update a record (R45, R48, R49). -/
def touchPeer (eGood ePoor : Nat) (f : HeaderFacts) (r : PeerRecord) : PeerRecord :=
  let r := ringPush f.errors { r with lastHeard := f.moment, heldAge := none, lastSeq := f.seq }
  wakeMode f.isBeacon { r with grade := gradeOf eGood ePoor r.counted r.ringSum }

/-- Ascending order of id (R43). -/
def peerLe (a b : PeerRecord) : Bool := a.id ≤ b.id

/-- The record of an id is updated. -/
def updPeer (id : Nat) (f : PeerRecord → PeerRecord) (s : State) : State :=
  s.setPeers (s.peers.map (fun r => if r.id == id then f r else r))

/-- PT takes the header facts: the sender's record is created or updated; in own dormancy its held age becomes 0 (R44, R45,
R50). -/
def ptTake (f : HeaderFacts) (s : State) : State :=
  let hold (r : PeerRecord) : PeerRecord := if s.dormant then { r with heldAge := some 0 } else r
  match s.peer f.sender with
  | some _ => updPeer f.sender (fun r => hold (touchPeer s.cs.image.eGood s.cs.image.ePoor f r)) s
  | none => s.setPeers (insertBy peerLe (hold (wakeMode f.isBeacon (newPeer f))) s.peers)

/-- The announcements of a BEACON (R46). -/
def ptBeacon (sender : Nat) (b : BeaconBody) (s : State) : State :=
  updPeer sender (fun r =>
    { r with mode := some b.mode, cls := some b.cls, code := some b.code, distance := some b.distance,
             quality := some b.quality, unset := some b.unset, trig := some b.trig, lastOnset := b.lastOnset }) s

/-- The trigger word of a TRIGGER NOTICE (R47). -/
def ptNotice (sender : Nat) (n : Notice) (s : State) : State :=
  updPeer sender (fun r => { r with trig := some (if n.kind == .onset then .on else .off), lastOnset := some n.onset }) s

/-- The own mode enters DORMANT: each age is stored as held (R50). -/
def ptHold (s : State) : State :=
  s.setPeers (s.peers.map (fun r => { r with heldAge := some (since s.now r.lastHeard) }))

/-- The own mode leaves DORMANT: the ages resume (R50). -/
def ptResume (s : State) : State :=
  s.setPeers (s.peers.map (fun r =>
    match r.heldAge with
    | some a => { r with lastHeard := s.now - BitVec.ofNat 48 a, heldAge := none }
    | none => r))

/-- The age of a record has passed its freshness limit; in own dormancy the ages are held (R50, R51). -/
def State.expired (s : State) (r : PeerRecord) : Bool := !s.dormant && s.freshLimit r < s.peerAge r

/-- The record of an id is removed. -/
def dropPeer (id : Nat) (s : State) : State := s.setPeers (s.peers.filter (fun r => r.id != id))

end Sys2Proof.Machine
end

