-- ==== Sys2Proof/Machine/TimeAgreement.lean ====
section
/-! DEFINITION. The Time Agreement Unit (chapter 4): the ranging exchange, offset samples, and the steering instant with the
step and its notice to the readers of station time. -/
namespace Sys2Proof.Machine

/-! ## The exchange (R58 to R65) -/

/-- The range age of a record in ticks (section 3.2). -/
def State.rangeAge (s : State) (r : PeerRecord) : Option Nat := r.rangeTime.map (fun t => since s.now t)

/-- A record is choosable for a probe (R59). -/
def PeerRecord.choosable (r : PeerRecord) : Bool :=
  r.isAwake && r.grade == .good && (r.ranging == .unranged || r.ranging == .stale)

/-- The range of a is older than that of b, or as old (R59). -/
def State.olderRange (s : State) (a b : PeerRecord) : Bool :=
  match s.rangeAge a, s.rangeAge b with
  | none, none => a.id ≤ b.id
  | none, some _ => true
  | some _, none => false
  | some x, some y => y < x || (x == y && a.id ≤ b.id)

/-- The conditions of a choice besides a choosable record (R59). -/
def State.mayProbe (s : State) : Bool :=
  s.tau.probe.isNone && s.tau.rest.all (fun t => t.due s.now) && s.awake && s.tb.source == .fast && !s.listenOnly

/-- The record that is chosen (R59). -/
def State.probeChoice (s : State) : Option PeerRecord :=
  (sortBy s.olderRange (s.peers.filter PeerRecord.choosable)).head?

/-- A probe target is chosen (R59). -/
def tauChoose (s : State) : State :=
  match s.mayProbe, s.probeChoice with
  | true, some r =>
    requestProbe r.id (updPeer r.id (fun x => { x with ranging := .probing })
      (s.setTau { s.tau with
        probe := some { target := r.id, prior := r.ranging, chosenAt := s.now, t1 := none }, rest := none }))
  | _, _ => s

/-- The probe slot empties: a request that waits is withdrawn, and the probe rest starts (R59, R64, R65). -/
def endExchange (s : State) : State :=
  let s := forgetProbeInFlight (s.setSlots { s.lc.slots with probe := none })
  s.setTau { s.tau with probe := none, rest := s.startTimer (secs 1) }

/-- The target after an unanswered exchange (R58, R64). -/
def unansweredPeer (now : Elapsed) (prior : Ranging) (r : PeerRecord) : PeerRecord :=
  if r.attempts + 1 < 3 then { r with attempts := r.attempts + 1, ranging := prior }
  else { r with attempts := r.attempts + 1, ranging := .unreachable, delay := none, rangeTime := some now }

/-- An open exchange ends unanswered (R64). -/
def tauUnanswered (s : State) : State :=
  match s.tau.probe with
  | none => s
  | some p => endExchange (bump .unansweredProbes (updPeer p.target (unansweredPeer s.now p.prior) s))

/-- An open exchange is voided (R65). -/
def tauVoid (s : State) : State :=
  match s.tau.probe with
  | none => s
  | some p => endExchange (bump .voidedExchanges (updPeer p.target (fun r => { r with ranging := p.prior }) s))

/-- LC reports the probe as not sent (R64, R65). -/
def tauNotSent (s : State) : State := if s.awake then tauUnanswered s else tauVoid s

/-- LC reports the stamp of a probe to its target (R60). -/
def tauProbeStamped (target : Nat) (t1 : Stamp) (s : State) : State :=
  s.setTau { s.tau with probe := s.tau.probe.map (fun p => if p.target == target then { p with t1 := some t1 } else p) }

/-- A RANGE PROBE is answered (R61). -/
def tauProbe (sender : Nat) (t1 : StationTime) (t2 : RxStamp) (s : State) : State :=
  if t2.fast && s.awake && !s.listenOnly then requestReply sender t1 { time := t2.time, moment := t2.moment } s else s

/-- The delay and ranging offset of an exchange: the raw delay D and the offset (R63). -/
def exchangeResult (t1 t2 t3 t4 : Int) : Int × Int :=
  (((t4 - t1) - (t3 - t2)) / 2, ((t2 - t1) + (t3 - t4)) / 2)

/-- A RANGE REPLY (R63). -/
def tauReply (sender : Nat) (b : ReplyBody) (t4 : RxStamp) (s : State) : State :=
  match s.tau.probe with
  | none => bump .lateReplies s
  | some p =>
    if p.target != sender || p.t1.map (fun t => t.time) != some b.t1 then bump .lateReplies s
    else
      let turn : Int := (b.t3 : Int) - b.t2
      if turn < 0 ∨ 471859 < turn then bump .rangingAnomalies s
      else
        let x := exchangeResult b.t1 b.t2 b.t3 t4.time
        let d := (clampInt x.1 0 65535).toNat
        let s := bumpIf (decide (x.1 < 0 ∨ 65535 < x.1)) .rangingAnomalies s
        let s := updPeer sender
          (fun r => { r with ranging := .ranged, delay := some d, rangeTime := some t4.moment, attempts := 0 }) s
        endExchange (s.setTau { s.tau with lastExchange := some { peer := sender, delay := d, offset := x.2 } })

/-- The removal of a peer record, which was already taken from the table (R51, R65). -/
def tauPeerRemoved (id : Nat) (s : State) : State :=
  if s.tau.probe.any (fun p => p.target == id) then tauVoid s else s

/-! ## Offset samples (R66, R67) -/

/-- A BEACON forms an offset sample where its sender's record holds a delay (R66, R74). -/
def tauBeacon (sender : Nat) (stamp : StationTime) (r : RxStamp) (s : State) : State :=
  if s.awake && !s.listenOnly then
    updPeer sender (fun x =>
      match x.delay with
      | some d => { x with sample := some ((stamp : Int) + d - r.time) }
      | none => x) s
  else s

/-- Every latest offset sample is made absent (R66, R72). -/
def clearSamples (s : State) : State := s.setPeers (s.peers.map (fun r => { r with sample := none }))

/-- The own unset flag is set and no record announces unset false (R67 item 4). -/
def State.unsetException (s : State) : Bool := s.tb.unset && s.peers.all (fun r => r.unset != some false)

/-- The ranging state qualifies (R67 item 3). -/
def State.rangingQualifies (s : State) (r : PeerRecord) : Bool :=
  match r.ranging with
  | .ranged | .stale => true
  | .probing => s.tau.probe.any (fun p => p.target == r.id && p.prior == .stale)
  | .unranged | .unreachable => false

/-- The sample of a record is eligible (R67). -/
def State.eligible (s : State) (r : PeerRecord) : Bool :=
  r.isAwake && r.grade == .good && s.rangingQualifies r &&
  (r.unset == some false || (s.unsetException && r.unset == some true)) &&
  r.sample.any (fun o => s.tb.unset || o.natAbs < 1073741824)

/-! ## The source set (R69) -/

/-- A source: its offset, and its announced time quality. -/
structure SourceOffset where
  offset : Int
  quality : Nat
deriving DecidableEq, Repr

/-- The source set of a steering instant (R69). -/
structure SourceSet where
  kind : SourceKind
  sources : List SourceOffset
  g : Option Nat
deriving DecidableEq, Repr

/-- The least of distances, 15 where there is none. -/
def leastDistance (rs : List PeerRecord) : Nat := rs.foldl (fun m r => min m (r.distance.getD 15)) 15

/-- The source set formed now (R69). -/
def State.sourceSet (s : State) : SourceSet :=
  if s.rmu.state == .locked then
    { kind := .reference, sources := s.rmu.offsets.map (fun o => { offset := o, quality := 0 }), g := none }
  else
    let el := s.peers.filter s.eligible
    if el.isEmpty then { kind := .none, sources := [], g := none }
    else
      let g := leastDistance el
      let peers := (el.filter (fun r => r.distance.getD 15 == g)).map
        (fun r => ({ offset := r.sample.getD 0, quality := r.quality.getD 0 } : SourceOffset))
      if g = 15 then { kind := .freeRun, sources := peers ++ [{ offset := 0, quality := s.tb.quality }], g := some g }
      else { kind := .peers, sources := peers, g := some g }

/-- The offsets in ascending order. -/
def SourceSet.sorted (x : SourceSet) : List Int := sortBy (fun a b : Int => decide (a ≤ b)) (x.sources.map (fun y => y.offset))

/-- The combined offset O: the median (R69). -/
def SourceSet.median (x : SourceSet) : Int :=
  let xs := x.sorted
  let n := xs.length
  if n % 2 = 1 then xs.getD (n / 2) 0 else (xs.getD (n / 2 - 1) 0 + xs.getD (n / 2) 0) / 2

/-- The spread (R69). -/
def SourceSet.spread (x : SourceSet) : Int := x.sorted.getLastD 0 - x.sorted.headD 0

/-- Q_best (R69). -/
def SourceSet.qBest (x : SourceSet) : Nat :=
  match x.sources with
  | [] => 0
  | y :: ys => ys.foldl (fun m z => min m z.quality) y.quality

/-! ## The outcome (R70 to R73) -/

/-- A step is hindered (R71). -/
def State.hindered (s : State) : Bool := !s.tb.unset && (s.td.active || s.openEvent || s.uc.modem == .sending)

/-- The outcome of an instant with source set x (section 4.4). -/
def State.outcome (s : State) (x : SourceSet) : Outcome4 :=
  if x.kind == .none then .holdover
  else if x.median.natAbs < 2 ^ s.cs.image.p then .slew
  else if s.hindered then .hindered
  else .step

/-- The quality written (R73). -/
def qualityWritten (x : SourceSet) (out : Outcome4) : Nat :=
  let q : Int := match x.kind with
    | .reference => x.median.natAbs + 2
    | _ => x.qBest + x.spread / 2 + 1 + (if out == .hindered then (x.median.natAbs : Int) else 0)
  (min q 16777215).toNat

/-- The distance written (R73). -/
def distanceWritten (x : SourceSet) : Nat :=
  match x.kind, x.g with
  | .reference, _ => 0
  | .peers, some g => min 15 (g + 1)
  | _, _ => 15

/-- TAU withdraws a RANGE REPLY that waits (R62). -/
def withdrawReply (s : State) : State :=
  if s.lc.slots.reply.isSome then s.setSlots { s.lc.slots with reply := none } else s

/-- The step notice with A reaches its readers (R13). -/
def stepNotice (a : Int) (s : State) : State :=
  let s := withdrawReply (tauVoid (rmuStep a s))
  if a = 0 then s else cuStep (hcStep (siStep (tdStep s)))

/-- A step of n ticks and its notice (R12, R13). -/
def applyStep (n : Int) (s : State) : State := stepNotice (stepApplied s.tb.time n) (tbStep n s)

/-- The pending-step flag is set: an open calibration window is discarded (R71, R7). -/
def setDrive (d : Drive) (s : State) : State := calDiscard (s.setTb { s.tb with pendingStep := some d })

/-- What the Timebase is given for an outcome (R70 to R72). -/
def steerOutcome (x : SourceSet) (out : Outcome4) (s : State) : State :=
  let o := x.median
  let k := s.cs.image.k
  match out with
  | .holdover => bump .holdovers (s.setTb { s.tb with rPhase := 0, pendingStep := none, distance := 15 })
  | .step => applyStep o s
  | .hindered => bump .hinderedSteps (setDrive (if 0 ≤ o then .plus else .minus) s)
  | .slew => s.setTb { s.tb with
      rBase := clampInt (s.tb.rBase + o * 2 ^ (10 - k)) (-rateLimit) rateLimit
      rPhase := o * 2 ^ (11 - k), pendingStep := none }

/-- A steering instant that used a source writes the quality and the distance and clears the unset flag (R73, R10, R9). -/
def steerWrites (x : SourceSet) (out : Outcome4) (s : State) : State :=
  if out == .holdover then s
  else s.setTb { s.tb with quality := qualityWritten x out, distance := distanceWritten x, unset := false, steered := true }

/-- A steering instant is taken (R68 to R73). The count of sources of a REFERENCE instant is the number of kept mark offsets, 1 to 3,
not 1: R69 leaves open which of the two R72's record counts (log entry 74, DESIGN CHOICE). -/
def steer (s : State) : State :=
  let x := s.sourceSet
  let out := s.outcome x
  let s := steerWrites x out (steerOutcome x out s)
  let s := clearSamples s
  s.setTau { s.tau with
    steerTimer := s.startTimer (secs (2 ^ s.cs.image.k)), steerWaiting := false
    lastInstant := some
      { moment := s.now, outcome := out, offset := if x.kind == .none then none else some x.median, source := x.kind,
        count := x.sources.length, g := x.g } }

/-! ## Modes (R68, R74) -/

/-- The mode enters ACTIVE or ECONOMY from START, DORMANT or SHELTER (R68). -/
def tauStart (s : State) : State :=
  s.setTau { s.tau with steerTimer := s.startTimer (secs (2 ^ s.cs.image.k)), steerWaiting := false }

/-- The mode leaves ACTIVE and ECONOMY (R74). -/
def tauStop (s : State) : State :=
  let s := clearSamples (tauVoid s)
  s.setTau { s.tau with steerTimer := none, steerWaiting := false }

/-- TAU at RESTART (R75). -/
def Agreement.restart (x : Agreement) : Agreement :=
  { Agreement.reset with lastExchange := x.lastExchange, lastInstant := x.lastInstant }

end Sys2Proof.Machine
end

