-- ==== Sys2Proof/Machine/Resets.lean ====
section
/-! DEFINITION. RESTART and the entry to LOADING (R14, R20, R42, R57, R75, R89, R111, R140, R156, R169, R183, R196, R197, R202,
R205), and the taking of the configuration block (R199, R200). -/
namespace Sys2Proof.Machine

/-! ## RESTART -/

/-- The Link Controller at RESTART (R42). -/
def Link.restart (x : Link) (now : Elapsed) : Link :=
  { Link.reset with
    quietSince := if x.tx.isSome then now else x.quietSince, random := x.random, ownSeq := x.ownSeq, seqDrawn := x.seqDrawn,
    idConflict := x.idConflict }

/-- The Coincidence Unit at RESTART (R140). -/
def Coincidence.restart (x : Coincidence) : Coincidence := { x with entries := [], events := [] }

/-- The Battery Monitor at RESTART (R169). Q is kept as it is, whatever capacity the image loaded next gives (log entry 57). -/
def Battery.restart (x : Battery) : Battery := { x with chargeEn := false, pollTimer := none, lastPoll := none }

/-- The Timebase at RESTART, its open calibration window having been discarded (R14); one that waits for its boundary goes with it
(log entry 68, DESIGN CHOICE). -/
def Timebase.restart (x : Timebase) : Timebase :=
  { x with rPhase := 0, pendingStep := none, calTimer := none, calOpening := false, slowAsked := false,
           distance := if x.distance = 0 then 1 else x.distance }

/-- The Mode Controller at RESTART: CRYSTAL WAIT where the crystal wait of a POWER-ON runs on, else LOADING (R196, R197). -/
def ModeCtl.restart (x : ModeCtl) (fast : Bool) : ModeCtl :=
  { ModeCtl.reset with
    standing := if x.standing == .crystalWait then .crystalWait else .loading
    crystal := x.crystal, osc := x.osc, handed := x.handed && fast }

/-- Every block takes its RESTART values (R205). -/
def restartValues (s : State) : State :=
  let s := bumpIf s.tb.calWindow.isSome .calibrationDiscards s
  { s with
    tb := { s.tb.restart with calWindow := none }
    rmu := .reset
    lc := s.lc.restart s.now
    peers := []
    tau := s.tau.restart
    si := s.si.restart
    td := s.td.restart
    cu := s.cu.restart
    uc := .reset
    bm := s.bm.restart
    hc := { b := s.hc.b.restart, s := s.hc.s.restart }
    mc := s.mc.restart (s.tb.source == .fast)
    twm := s.twm.restart
    cs := { s.cs with pending := none } }

/-- LOADING: the straps are sampled, run on fast is requested, and on a source that is FAST already the configuration is loaded
at once (R196, R198, R199). -/
def enterLoading (s : State) : State :=
  let s := runFast ((s.setCs { s.cs with stationId := s.pins.straps.toNat }).setMc { s.mc with standing := .loading })
  if s.tb.source == .fast then twRequest .loader s else s

/-- A RESTART that is not held by RESET_N (R205, R196). -/
def restart (s : State) : State :=
  let s := restartValues s
  if s.mc.standing == .crystalWait then s else enterLoading s

/-! ## The configuration block (R199, R200) -/

/-- A field with what its clamp did. -/
structure Clamped where
  value : Int
  moved : Bool
deriving DecidableEq, Repr

/-- A field clamped to the nearest legal value (R200). -/
def clampField (x lo hi : Int) : Clamped := { value := clampInt x lo hi, moved := decide (x < lo ∨ hi < x) }

def Clamped.nat (c : Clamped) : Nat := c.value.toNat

/-- The unsigned field at an offset of the block. -/
def blockNat (b : List Byte) (i k : Nat) : Int := num b i k

/-- The signed field of two bytes at an offset of the block. -/
def blockInt (b : List Byte) (i : Nat) : Int := fromBeInt (field b i 2)

/-- The first and the second field of a packed byte: low four bits, high four bits (R200). -/
def lowNibble (b : List Byte) (i : Nat) : Int := num b i 1 % 16
def highNibble (b : List Byte) (i : Nat) : Int := num b i 1 / 16

/-- A rate code of 3 becomes 2 (R200). -/
def rateCode (options shift : Nat) : Clamped := clampField ((options / 2 ^ shift % 4 : Nat) : Int) 0 2

/-- The image of a block and whether a field was clamped (R200). -/
def imageOf (b : List Byte) : Image × Bool :=
  let o := num b 1 1
  let link := rateCode o 2
  let sample := rateCode o 4
  let up := rateCode o 6
  let bb := clampField (lowNibble b 2) 2 6
  let kk := clampField (highNibble b 2) 4 8
  let p := clampField (blockNat b 3 1) 14 20
  let eGood := clampField (blockNat b 4 1) 0 255
  let ePoor := clampField (blockNat b 5 1) eGood.value 255
  let latency := clampField (blockNat b 6 3) 0 262143
  let bSync := clampField (blockNat b 9 2) 0 1023
  let mask := clampField (lowNibble b 11) 1 7
  let vote := clampField (highNibble b 11) 1 3
  let h := clampField (lowNibble b 12) 6 14
  let aS := clampField (highNibble b 12) 1 6
  let aL := clampField (blockNat b 13 1) (max 5 (aS.value + 3)) 12
  let rOn := clampField (blockNat b 16 1) 24 255
  let rOff := clampField (blockNat b 17 1) 16 (rOn.value - 1)
  let rQuiet := clampField (blockNat b 18 1) 16 rOn.value
  let hold := clampField (blockNat b 19 1) 0 30
  let tMax := clampField (blockNat b 20 2) 10 600
  let wc := clampField (blockNat b 22 1) 1 60
  let quorum := clampField (lowNibble b 23) 2 14
  let mWatch := clampField (highNibble b 23) 1 13
  let holdoffSlot := clampField (blockNat b 24 2) 100 1000
  let closeDelay := clampField (blockNat b 26 1) 5 120
  let maxLife := clampField (blockNat b 27 2) 60 1800
  let warm := clampField (blockNat b 29 1) 5 120
  let health := clampField (blockNat b 30 1) 1 24
  let cap := clampField (blockNat b 31 2) 1 1000
  let vFull := clampField (blockNat b 33 2) 3000 60000
  let vEmpty := clampField (blockNat b 35 2) 2000 (vFull.value - 1)
  let vCutoff := clampField (blockNat b 37 2) 1000 (vEmpty.value - 1)
  let iTaper := clampField (blockNat b 39 2) 0 5000
  let tCmin := clampField (blockInt b 41) (-300) 300
  let tCmax := clampField (blockInt b 43) (tCmin.value + 20) 600
  let batterySet := clampField (blockInt b 45) (-300) 300
  let chargeSet := clampField (blockInt b 47) (-300) 300
  let sensorSet := clampField (blockInt b 49) (-300) 300
  let deferB := clampField (blockNat b 51 1) 0 60
  let deferS := clampField (blockNat b 52 1) 0 60
  let wakeHold := clampField (blockNat b 54 2) 60 900
  let aBat := clampField (blockNat b 56 1) 8 119
  let aA := clampField (blockNat b 57 1) 8 119
  let aB := clampField (blockNat b 58 1) 8 119
  let aRec := clampField (blockNat b 59 1) 8 119
  let all := [link, sample, up, bb, kk, p, eGood, ePoor, latency, bSync, mask, vote, h, aS, aL, rOn, rOff, rQuiet, hold, tMax, wc,
    quorum, mWatch, holdoffSlot, closeDelay, maxLife, warm, health, cap, vFull, vEmpty, vCutoff, iTaper, tCmin, tCmax,
    batterySet, chargeSet, sensorSet, deferB, deferS, wakeHold, aBat, aA, aB, aRec]
  ({ receiver := o % 2 = 1, uplink := o / 2 % 2 = 1, linkCode := link.nat, sampleCode := sample.nat, uplinkCode := up.nat,
     b := bb.nat, k := kk.nat, p := p.nat, eGood := eGood.nat, ePoor := ePoor.nat, latency := latency.nat, bSync := bSync.nat,
     mask := mask.nat, vote := vote.nat, h := h.nat, aS := aS.nat, aL := aL.nat, floor := num b 14 2, rOn := rOn.nat,
     rOff := rOff.nat, rQuiet := rQuiet.nat, hold := hold.nat, tMax := tMax.nat, wc := wc.nat, quorum := quorum.nat,
     mWatch := mWatch.nat, holdoffSlot := holdoffSlot.nat, closeDelay := closeDelay.nat, maxLife := maxLife.nat,
     modemWarmUp := warm.nat, healthHours := health.nat, capacity := cap.nat, vFull := vFull.nat, vEmpty := vEmpty.nat,
     vCutoff := vCutoff.nat, iTaper := iTaper.nat, tCmin := tCmin.value, tCmax := tCmax.value, batterySet := batterySet.value,
     chargeSet := chargeSet.value, sensorSet := sensorSet.value, deferB := deferB.nat, deferS := deferS.nat,
     blanking := num b 53 1, wakeHold := wakeHold.nat, batteryAddr := aBat.nat, sensorAAddr := aA.nat, sensorBAddr := aB.nat,
     receiverAddr := aRec.nat, ind0 := (lowNibble b 60).toNat, ind1 := (highNibble b 60).toNat, ind2 := (lowNibble b 61).toNat,
     ind3 := (highNibble b 61).toNat },
   all.any (fun c => c.moved))

/-- The block passes the format and CRC tests (R199). -/
def blockGood (b : List Byte) : Bool := num b 0 1 == 0xA7 && crcBytes (b.take 62) == field b 62 2

/-- The result of the load is judged: the block is taken and clamped, or every field takes its default (R199, R200). -/
def csTakeBlock (r : TwEnd 64) (s : State) : State :=
  let default (s : State) : State :=
    bump .loadDefaults (s.setCs { s.cs with image := .default, defaulted := true, clamped := false })
  match r with
  | .complete v =>
    if blockGood v.toList then
      let x := imageOf v.toList
      s.setCs { s.cs with image := x.1, defaulted := false, clamped := x.2 }
    else default s
  | .nack | .timeout | .busStuck => default s

/-- Qcap (section 9.1). -/
def State.qcap (s : State) : Int := (s.cs.image.capacity * 3600000 : Nat)

/-- The first image since POWER-ON forms Q at half of its capacity (R169; log entry 7). A later one leaves Q as it is (log entry 57). -/
def formCharge (s : State) : State :=
  if s.bm.qFormed then s else s.setBm { s.bm with q := s.qcap / 2, qFormed := true }

end Sys2Proof.Machine
end

