-- ==== Sys2Proof/Machine/Service.lean ====
section
/-! DEFINITION. Service requests and reports (section 12.3): the groups of the STATUS report, the entries of PEERS and EVENTS,
the COUNTERS segments, and the course of the pending request. -/
namespace Sys2Proof.Machine

/-! ## Field encodings (R204) -/

/-- A field that may be absent: an absent value has every bit set. -/
def beOpt (k : Nat) : Option Nat → List Byte
  | some n => be k n
  | none => List.replicate k 0xFF#8

/-- A signed field that may be absent. -/
def beIntOpt (k : Nat) : Option Int → List Byte
  | some i => beInt k i
  | none => List.replicate k 0xFF#8

/-- A station time that may be absent, with every bit set (R204). -/
def timeOpt : Option StationTime → List Byte
  | some t => timeBytes t
  | none => List.replicate 7 0xFF#8

def flagByte (b : Bool) : List Byte := be 1 b.toNat
def flagOpt (b : Option Bool) : List Byte := beOpt 1 (b.map Bool.toNat)

/-- An event id in two bytes, or absent. -/
def idBytes : Option EventId → List Byte
  | some i => be 1 i.origin ++ be 1 i.seq
  | none => [0xFF#8, 0xFF#8]

/-- A duration without a bound, in whole seconds, held at 65,535 (R204). -/
def ageBytes (ticks : Nat) : List Byte := be 2 (min 65535 (ticks / tps))

/-- The time left on a timer in whole seconds (R204). For a timer that is not running no chapter says what is shown; the field is sent
as absent, every bit set (log entry 78, DESIGN CHOICE). -/
def leftBytes (k : Nat) (t : Option Timer) (now : Elapsed) : List Byte := beOpt k (t.map (fun x => x.left now))

/-! ## STATUS (R204; the numbering of the values by the order of first listing, log entry 41) -/

def Source.num : Source → Nat | .slow => 0 | .warming => 1 | .fast => 2
def RmuState.num : RmuState → Nat | .absent => 0 | .acquiring => 1 | .locked => 2 | .holdover => 3
def Ranging.num : Ranging → Nat | .unranged => 0 | .probing => 1 | .ranged => 2 | .stale => 3 | .unreachable => 4
def Outcome4.num : Outcome4 → Nat | .holdover => 0 | .step => 1 | .hindered => 2 | .slew => 3
def SourceKind.num : SourceKind → Nat | .reference => 0 | .peers => 1 | .freeRun => 2 | .none => 3
def Grid.num : Grid → Nat | .off => 0 | .unaligned => 1 | .tracking => 2 | .fault => 3
def ChanState.num : ChanState → Nat | .stopped => 0 | .settling => 1 | .quiet => 2 | .on => 3
def Modem.num : Modem → Nat
  | .off => 0 | .warmUp => 1 | .powerCycle => 2 | .idle => 3 | .readyWait => 4 | .sending => 5 | .awaiting => 6
def AlertKind.num : AlertKind → Nat | .event => 0 | .retract => 1 | .update => 2 | .health => 3
def Turn.num : Turn → Nat | .ready => 0 | .sending => 1 | .awaiting => 2 | .retry => 3
def Grade.num : Grade → Nat | .good => 0 | .marginal => 1 | .poor => 2
def RecState.num : RecState → Nat | .holdoff => 0 | .declared => 1 | .adopted => 2 | .merged => 3 | .closed => 4
def UplinkState.num : UplinkState → Nat
  | .none => 0 | .queued => 1 | .stacked => 2 | .sending => 3 | .awaiting => 4 | .sent => 5 | .withdrawn => 6 | .failed => 7
def edgeNum : Option Edge → Nat | none => 0 | some .on => 1 | some .off => 2
/-- The sub-states in the order of chapter 11's table; ACTIVE has none. -/
def Standing.num : Standing → Option Nat
  | .crystalWait => some 0 | .loading => some 1 | .firstPoll => some 2 | .active => none | .watching => some 3
  | .entering => some 4 | .asleep => some 5 | .capturing => some 6 | .waking => some 7 | .finalBeacon => some 8
  | .sheltered => some 9 | .rising => some 10

/-- The group of CS. -/
def State.groupCs (s : State) : List Byte :=
  be 1 s.ownId ++ flagByte s.cs.defaulted ++ flagByte s.cs.clamped ++ flagByte s.lc.idConflict ++
  be 1 s.cs.image.ind0 ++ be 1 s.cs.image.ind1 ++ be 1 s.cs.image.ind2 ++ be 1 s.cs.image.ind3

/-- The group of the Timebase and the RMU (section 1.8). The kept offsets always take three places, a missing one with every bit
set, which R204 leaves open (log entry 69, DESIGN CHOICE). -/
def State.groupTime (s : State) : List Byte :=
  timeBytes s.tb.time ++ be 1 s.tb.source.num ++ beInt 3 s.tb.rBase ++ beInt 3 s.tb.applied ++ beInt 3 s.tb.cSlow ++
  be 3 s.tb.quality ++ be 1 s.tb.distance ++ flagByte s.tb.unset ++ flagByte s.tb.pendingStep.isSome ++
  be 1 s.rmu.state.num ++ beIntOpt 7 s.rmu.offsets[0]? ++ beIntOpt 7 s.rmu.offsets[1]? ++ beIntOpt 7 s.rmu.offsets[2]?

/-- The group of Time Agreement (R76). -/
def State.groupTau (s : State) : List Byte :=
  beOpt 1 (s.tau.lastExchange.map (fun x => x.peer)) ++ beOpt 2 (s.tau.lastExchange.map (fun x => x.delay)) ++
  beIntOpt 7 (s.tau.lastExchange.map (fun x => x.offset)) ++
  beOpt 1 (s.tau.lastInstant.map (fun x => x.outcome.num)) ++ beIntOpt 7 (s.tau.lastInstant.bind (fun x => x.offset)) ++
  beOpt 1 (s.tau.lastInstant.map (fun x => x.source.num)) ++ beOpt 1 (s.tau.lastInstant.map (fun x => x.count)) ++
  beOpt 1 (s.tau.lastInstant.bind (fun x => x.g)) ++
  beOpt 1 (s.tau.probe.map (fun x => x.target)) ++ beOpt 1 (s.tau.probe.map (fun x => x.prior.num)) ++
  flagByte s.tb.pendingStep.isSome ++ beOpt 1 (s.tb.pendingStep.map (fun d => if d == .plus then 0 else 1)) ++
  beInt 3 s.tb.rBase ++ beInt 3 s.tb.applied

/-- The group of the Sample Interface (R89). -/
def State.groupSi (s : State) : List Byte :=
  be 1 s.si.grid.num ++ flagByte s.si.faultHeld ++ be 1 s.si.faultRun ++ be 1 s.si.goodRun ++ timeOpt s.si.lastHanded

/-- A channel in the group of the Trigger Detector. -/
def Channel.bytes (c : Channel) : List Byte :=
  be 1 c.state.num ++ flagByte c.warm ++ beInt 4 c.s ++ beInt 4 c.l ++ be 2 c.blank ++ be 2 c.settle

/-- The group of the Trigger Detector (R112). -/
def State.groupTd (s : State) : List Byte :=
  be 1 s.td.state.code ++ timeOpt s.td.onset ++ beOpt 1 s.td.mask ++ be 1 s.td.peak ++ flagByte s.td.void ++
  flagByte s.td.overlong ++ s.td.z.bytes ++ s.td.n.bytes ++ s.td.e.bytes ++ be 1 s.td.trim ++ be 1 s.rOnEff ++
  be 1 s.rOffEff ++ be 1 s.rQuietEff ++ flagByte s.hot

/-- The group of the Uplink Controller (R157); the stacked entries stand in the order in which they were stacked, which R157 leaves
open (log entry 63, DESIGN CHOICE). -/
def State.groupUc (s : State) : List Byte :=
  be 1 s.uc.modem.num ++ be 1 s.uc.busyCount ++ leftBytes 3 s.uc.healthTimer s.now ++ flagByte s.uc.healthDue ++
  s.uc.queue.flatMap (fun a => be 1 a.kind.num ++ idBytes a.id ++ be 1 a.update ++ be 1 a.turn.num ++ be 1 a.attempts) ++
  s.uc.stacked.flatMap (fun x =>
    be 1 x.kind.num ++ idBytes (if x.kind.isReport then (s.rec? x.rid).bind (fun r => r.id) else x.retracts))

/-- The voltage estimate (R166). -/
def State.estimateOf (s : State) (v : Int) : Int :=
  clampInt ((v - s.cs.image.vEmpty) * 100 / (s.cs.image.vFull - s.cs.image.vEmpty)) 0 100

/-- The group of the Battery Monitor (R170). -/
def State.groupBm (s : State) : List Byte :=
  beIntOpt 2 s.bm.v ++ beIntOpt 2 s.bm.i ++ beIntOpt 2 s.bm.temp ++ beIntOpt 2 s.bm.tempA ++ beIntOpt 2 s.bm.tempB ++
  beInt 4 s.bm.q ++ beInt 4 s.qcap ++ beInt 1 s.bm.soc ++ beIntOpt 1 (s.bm.v.map s.estimateOf) ++ flagByte s.bm.anchored ++
  be 1 s.bm.cls.code ++ be 2 s.bm.staleCount ++ be 2 s.bm.staleCountA ++ be 2 s.bm.staleCountB ++ flagByte s.bm.stale ++
  flagByte s.bm.staleA ++ flagByte s.bm.staleB ++ flagByte s.bm.chargeEn ++ leftBytes 2 s.bm.pollTimer s.now

/-- The held temperature of a heater, stale or not (R171). -/
def State.heldTemp (s : State) : HeaterId → Option Int
  | .b => s.bm.temp
  | .s => s.bm.tempA

/-- The stale flag a heater reads (R171). -/
def State.tempStale (s : State) : HeaterId → Bool
  | .b => s.bm.stale
  | .s => s.bm.staleA

/-- A heater in the group of the Heater Controller (R183). -/
def State.heaterBytes (s : State) (h : HeaterId) : List Byte :=
  let x := s.heater h
  beInt 2 (s.setpoint h) ++ beIntOpt 2 (s.heldTemp h) ++ flagByte (s.tempStale h) ++
  beIntOpt 2 ((s.heldTemp h).map (fun t => s.setpoint h - t)) ++ be 1 (s.allowance h).rank ++ be 1 x.level.rank ++
  be 1 x.level.onSlots ++ beOpt 1 x.pos ++ be 1 (edgeNum x.edge) ++ be 1 x.deferral ++ beOpt 1 x.carried ++ be 2 x.onTime

def State.groupHc (s : State) : List Byte := s.heaterBytes .b ++ s.heaterBytes .s

/-- The brief-run users as bits: 0 beacon, 1 poll, 2 final beacon, 3 work of the entry (log entry 41). -/
def BriefUsers.bits (u : BriefUsers) : Nat :=
  u.beacon.isSome.toNat + 2 * u.poll.toNat + 4 * u.final.toNat + 8 * (!u.entryWork.isEmpty).toNat

/-- The group of the Mode Controller (R197). -/
def State.groupMc (s : State) : List Byte :=
  beOpt 1 (s.mc.standing.mode.map OpMode.code) ++ beOpt 1 s.mc.standing.num ++ leftBytes 2 s.mc.wakeHold s.now ++
  be 1 s.watchCount ++ be 1 s.awakeCount ++ flagByte s.dormantPresent ++ be 1 s.mc.users.bits ++ be 1 s.tb.source.num

/-- The groups of the STATUS report, in order (R204). -/
def State.statusGroups (s : State) : List (List Byte) :=
  [s.groupCs, s.groupTime, s.groupTau, s.groupSi, s.groupTd, s.groupUc, s.groupBm, s.groupHc, s.groupMc]

/-! ## Segments -/

/-- What the building of a segment gives: its data, the last flag, the resume point, and the free bytes drawn. -/
structure Built where
  data : List Byte
  last : Bool
  resume : Resume
  free : Nat
deriving DecidableEq, Repr

/-- A STATUS segment: a group begins a new segment, and a group longer than 77 bytes continues into the next (R204). It resumes at
the byte reached, in the group as it stands now, also where the group has changed its length since (log entry 64, DESIGN CHOICE). -/
def State.buildStatus (s : State) (g off : Nat) : Built :=
  let bs := (s.statusGroups.getD g []).drop off
  let more := 77 < bs.length
  { data := bs.take 77, last := !more && 8 ≤ g, resume := if more then .status g (off + 77) else .status (g + 1) 0, free := 0 }

/-- The mode a PEERS entry shows: absent where no beacon has been heard, whatever the record holds by R45 (R56). -/
def PeerRecord.shownMode (r : PeerRecord) : Option OpMode := if r.code.isSome then r.mode else none

/-- A PEERS entry (R56, R204). -/
def State.peerEntry (s : State) (r : PeerRecord) : List Byte :=
  be 1 r.id ++ ageBytes (s.peerAge r) ++ beOpt 1 r.code ++ beOpt 1 (r.shownMode.map OpMode.code) ++
  beOpt 1 (r.cls.map BatClass.code) ++ beOpt 1 r.distance ++ beOpt 3 r.quality ++ flagOpt r.unset ++
  beOpt 1 (r.trig.map TrigState.code) ++ timeOpt r.lastOnset ++ be 1 r.ranging.num ++ beOpt 2 r.delay ++
  (match s.rangeAge r with | some t => ageBytes t | none => beOpt 2 none) ++ be 1 r.grade.num ++ be 1 r.counted ++
  be 2 r.ringSum ++ be 1 r.lastSeq

/-- A PEERS segment: two whole entries from the lowest id above the resume point (R204). -/
def State.buildPeers (s : State) (after : Nat) : Built :=
  let rs := s.peers.filter (fun r => after < r.id)
  let now := rs.take 2
  { data := now.flatMap s.peerEntry, last := rs.length ≤ 2, resume := .peers ((now.getLast?.map (fun r => r.id)).getD after), free := 0 }

/-- An EVENTS record (R140, R204); the participant count before the participants, which R140 does not list, and the places of it
and of the one byte without a stated content, a free value, are log entry 40 (DESIGN CHOICE). -/
def State.eventRecord (s : State) (r : EventRec) (spare : Byte) : List Byte :=
  idBytes r.id ++ be 1 r.state.num ++ timeBytes r.earliest ++ be 1 r.parts.length ++
  r.parts.flatMap (fun p => be 1 p.station ++ be 2 (r.offset p) ++ be 1 p.peak) ++ be 1 r.maxRatio ++ be 1 r.update ++
  flagByte r.declOwed ++ idBytes r.mergedInto ++ be 1 r.uplink.num ++ ageBytes (since s.now r.opened) ++ [spare]

/-- The bytes a record takes: 20 and 4 per participant (R204). -/
def EventRec.size (r : EventRec) : Nat := 20 + 4 * r.parts.length

/-- As many whole records as fit in 77 bytes (R204). -/
def fitRecords : Nat → List EventRec → List EventRec
  | _, [] => []
  | room, r :: rs => if r.size ≤ room then r :: fitRecords (room - r.size) rs else []

/-- The records of one segment with their free bytes. -/
def State.recordBytes (s : State) : Nat → List EventRec → List Byte
  | _, [] => []
  | n, r :: rs => s.eventRecord r (Config.eventsSpareByte n) ++ s.recordBytes (n + 1) rs

/-- A trigger-table entry of the EVENTS report (R140, R204). -/
def State.entryBytes (s : State) (e : Entry) : List Byte :=
  be 1 e.station ++ timeBytes e.onset ++ timeOpt e.endAt ++
  (match e.bound with
   | none => be 2 0xFFFF
   | some k => match (s.rec? k).bind (fun r => r.id) with
     | some i => be 1 i.origin ++ be 1 i.seq
     | none => be 2 0xFFFE) ++
  flagByte e.own ++ beOpt 1 e.mask

/-- A segment of trigger-table entries, four to a segment (R204). -/
def State.buildEntries (s : State) (es : List Entry) (resume : Resume) : Built :=
  let now := es.take 4
  { data := now.flatMap s.entryBytes, last := es.length ≤ 4,
    resume := (now.getLast?.map (fun e => Resume.entry e.onset e.station)).getD resume, free := 0 }

/-- A segment of records; the trigger-table entries follow in segments of their own (R204). -/
def State.buildRecords (s : State) (rs : List EventRec) (resume : Resume) : Built :=
  let now := fitRecords 77 rs
  { data := s.recordBytes s.freeDrawn now, last := rs.length ≤ now.length && s.cu.entries.isEmpty,
    resume := (now.getLast?.map (fun r => Resume.record r.earliest r.id)).getD resume, free := now.length }

/-- The records after a table position (R204). -/
def State.recordsAfter (s : State) (earliest : StationTime) (id : Option EventId) : List EventRec :=
  s.cu.events.filter (fun r => earliest < r.earliest || (earliest == r.earliest && !idLe r.id id))

/-- The entries after a table position (R204). -/
def State.entriesAfter (s : State) (onset : StationTime) (station : Nat) : List Entry :=
  s.cu.entries.filter (fun e => onset < e.onset || (onset == e.onset && station < e.station))

/-- An EVENTS segment from a resume point (R204). Where only one of the two tables is empty no empty segment is sent for it
(log entry 61, DESIGN CHOICE). -/
def State.buildEvents (s : State) (resume : Resume) : Built :=
  match resume with
  | .entry onset station => s.buildEntries (s.entriesAfter onset station) resume
  | .record earliest id =>
    let rs := s.recordsAfter earliest id
    if rs.isEmpty then s.buildEntries s.cu.entries resume else s.buildRecords rs resume
  | _ => if s.cu.events.isEmpty then s.buildEntries s.cu.entries resume else s.buildRecords s.cu.events resume

/-- The counters of a COUNTERS segment: 38, 38 and 26 (R204). -/
def countersOf (segment : Nat) (xs : List Nat) : List Nat := (xs.drop (38 * segment)).take 38

/-- A COUNTERS segment (R204). -/
def State.buildCounters (s : State) (segment : Nat) : Built :=
  { data := (countersOf segment s.counters.toList).flatMap (be 2), last := 2 ≤ segment, resume := .counters (segment + 1), free := 0 }

/-- The clear option: the counters of a built segment become 0, and with them the id-conflict flag (R204, R38). -/
def clearCounters (segment : Nat) (s : State) : State :=
  let s := s.setCounters (s.counters.mapIdx (fun i n => if i / 38 = segment then 0 else n))
  if segment = 0 then s.setLc { s.lc with idConflict := false } else s

/-- The segment number a COUNTERS request has come to. -/
def Resume.segment : Resume → Nat
  | .counters k => k
  | _ => 0

/-- The next segment of a request as it is built now (R203, R204). -/
def State.build (s : State) (q : ServiceReq) : Built :=
  match q.code with
  | 1 => match q.resume with
    | .status g off => s.buildStatus g off
    | _ => s.buildStatus 0 0
  | 2 => match q.resume with
    | .peers id => s.buildPeers id
    | _ => s.buildPeers 0
  | 3 => s.buildEvents q.resume
  | 4 => s.buildCounters q.resume.segment
  | _ => { data := [], last := true, resume := .start, free := 0 }

/-- A request code is known (R203). -/
def knownCode (code : Nat) : Bool := 1 ≤ code && code ≤ 5

/-- The body of a SERVICE REPORT segment (section 2.10, R203). -/
def segmentBody (code segment : Nat) (b : Built) : List Byte :=
  be 1 code ++ be 1 (segment % 128 + 128 * b.last.toNat) ++ be 1 (!knownCode code).toNat ++ b.data

/-! ## The pending request (R203, R205) -/

/-- The pending request ends; a RESTART request then restarts the station (R203, R205). -/
def csEnd (s : State) : State :=
  match s.cs.pending with
  | none => s
  | some q =>
    let s := s.setCs { s.cs with pending := none }
    if q.code = 5 then restart s else s

/-- The next segment of the pending request is built and requested of LC; where LC drops it at once the request ends (R203,
R39). So it ends, and no dropped report is counted, also where a segment in flight at a SHELTER entry completes in FINAL BEACON and
R41 drops the next, of which R203 does not say what becomes (log entry 80, DESIGN CHOICE). -/
def csNext (s : State) : State :=
  match s.cs.pending with
  | none => s
  | some q =>
    let b := s.build q
    let t := if q.code = 4 && q.argument % 2 = 1 then clearCounters q.resume.segment s else s
    let t := t.setFreeDrawn (t.freeDrawn + b.free)
    let q' := { q with nextSegment := (q.nextSegment + 1) % 128, resume := b.resume, held := false }
    let t := t.setCs { t.cs with pending := some q' }
    if t.lcTakes then
      t.setSlots { t.lc.slots with
        report := some { moment := t.now, body := segmentBody q.code q.nextSegment b, last := b.last } }
    else csEnd t

/-- A SERVICE REQUEST handed on by LC (R203); captured in DORMANT it is held. Its segments are numbered from 0 (log entry 67, DESIGN
CHOICE). -/
def csTake (code argument : Nat) (s : State) : State :=
  let s := bumpIf s.cs.pending.isSome .requestsReplaced (bump .requestsTaken s)
  let s := bumpIf (!knownCode code) .unknownRequests s
  let q : ServiceReq := { code, argument, nextSegment := 0, resume := .start, held := s.dormant }
  let s := (forgetReportInFlight s).setCs { s.cs with pending := some q }
  if s.dormant then s else csNext s

/-- Completion of a report segment (R203, R205). -/
def csCompleted (current last : Bool) (s : State) : State :=
  if current then (if last then csEnd s else csNext s) else s

/-- A segment is dropped at its staleness limit (R203, R205). -/
def csDropped (s : State) : State := csEnd (bump .reportsDropped s)

/-- A held request is dropped without a report (R203). -/
def csDropHeld (s : State) : State :=
  if s.cs.pending.any (fun q => q.held) then s.setCs { s.cs with pending := none } else s

/-- The wake completes: a held request's first segment is built and requested (R203). -/
def csReleaseHeld (s : State) : State := if s.cs.pending.any (fun q => q.held) then csNext s else s

end Sys2Proof.Machine
end

