-- ==== Sys2Proof/Machine/Access.lean ====
section
/-! DEFINITION. Access to the medium and transmission (R21 to R34): guard, backoff, the arbiter, the building of frames, the
stamp point. -/
namespace Sys2Proof.Machine

/-! ## Building a frame (R30) -/

/-- The muster condition (R193). -/
def State.musterCondition (s : State) : Bool := s.awakeCount < s.cs.image.mWatch + 1 && s.dormantPresent

/-- A BEACON of a marking is a muster beacon: an ordinary beacon in ACTIVE or in ECONOMY, WATCHING, under the condition (R193,
R186). -/
def State.isMuster (s : State) (mark : BeaconMark) : Bool :=
  mark == .ordinary && (s.mc.standing == .active || s.mc.standing == .watching) && s.musterCondition

/-- The mode a BEACON announces (R30, R186, R194). -/
def State.announcedMode (s : State) : BeaconMark → OpMode
  | .entry => .dormant
  | .final => .shelter
  | .ordinary => s.mc.standing.mode.getD .active

/-- The interval code a BEACON announces (R35, R186, R194). -/
def State.announcedCode (s : State) (mark : BeaconMark) : Nat :=
  match s.announcedMode mark with
  | .active | .economy => s.cs.image.b
  | .dormant | .shelter => s.cs.image.b + 4

/-- A BEACON body built from the values standing now; its transmit stamp is filled at the stamp point (R30, R106). -/
def State.beaconBody (s : State) (mark : BeaconMark) : BeaconBody :=
  { stamp := 0, quality := s.tb.quality, distance := s.tb.distance, mode := s.announcedMode mark, cls := s.bm.cls,
    code := s.announcedCode mark, trig := s.td.state, lastOnset := s.td.lastOnset, peak := s.td.peak, unset := s.tb.unset }

/-- The EVENT DECLARATION body of a record (R31). -/
def EventRec.body (r : EventRec) : DeclBody :=
  { id := r.id.getD { origin := 0, seq := 0 }, update := r.update, earliest := r.earliest,
    parts := r.parts.map (fun p => { station := p.station, offset := r.offset p, peak := p.peak }) }

/-- A transmission starts: LK_TXEN rises, the header takes the own sequence number, a becomes 0 (R21, R23, R27, R30, R33). -/
def beginTx (owner : TxOwner) (kind : FrameKind) (target : Nat) (wake muster : Bool) (body : List Byte) (s : State) : State :=
  s.setLc { s.lc with
    tx := some
      { owner := owner, wake := wake, body := body, stamp := none,
        header := headerBytes kind s.ownId target wake muster s.cs.defaulted s.lc.idConflict body.length s.lc.ownSeq }
    ownSeq := (s.lc.ownSeq + 1) % 256, access := .idle, busy := false, attempt := 0 }

/-- The start of a declaration frame: the record's carried update number is set (R31, R130). -/
def startDeclaration (r : EventRec) (s : State) : State :=
  let s := updRec r.rid (fun x => { x with carried := some r.update }) (s.setSlots { s.lc.slots with declaration := none })
  beginTx (.declaration r.rid r.update) .declaration 0 s.dormantPresent false (declBytes r.body) s

/-- The start of a notice frame (R26, R30). -/
def startNotice (q : NoticeReq) (s : State) : State :=
  beginTx (.notice q.notice.kind q.moment) .notice 0 (q.notice.kind == .onset && s.dormantPresent) false (noticeBytes q.notice)
    (s.setSlots { s.lc.slots with notice := none })

/-- The start of a reply frame; t3 is filled at the stamp point. -/
def startReply (q : ReplyReq) (s : State) : State :=
  beginTx .reply .reply q.target false false (timeBytes q.t1 ++ timeBytes q.t2.time ++ be 7 0)
    (s.setSlots { s.lc.slots with reply := none })

/-- The start of a probe frame; t1 is filled at the stamp point. -/
def startProbe (q : ProbeReq) (s : State) : State :=
  beginTx (.probe q.target) .probe q.target false false (be 7 0) (s.setSlots { s.lc.slots with probe := none })

/-- The start of a BEACON: the muster test, the wake preamble, and the beacon timer restarted (R193, R26, R35); the limit of the
final beacon no longer runs once it has started (R194). -/
def startBeacon (q : BeaconReq) (s : State) : State :=
  let muster := s.isMuster q.mark
  let s := bumpIf muster .musterBeacons (s.setSlots { s.lc.slots with beacon := none })
  let s := beaconTimerRestart (beginTx (.beacon q.mark) .beacon 0 (muster && s.dormantPresent) muster
    (beaconBytes (s.beaconBody q.mark)) s)
  if q.mark == .final then s.setMc { s.mc with finalLimit := none } else s

/-- The start of a report segment, targeted at the terminal (R203). -/
def startReport (q : ReportReq) (s : State) : State :=
  beginTx (.report true q.last) .serviceReport 15 false false q.body (s.setSlots { s.lc.slots with report := none })

/-- The arbiter below the declaration slot: the filled slot of highest priority (R30). -/
def arbitrateRest (s : State) : State :=
  match s.lc.slots.notice, s.lc.slots.reply, s.lc.slots.probe, s.lc.slots.beacon, s.lc.slots.report with
  | some q, _, _, _, _ => startNotice q s
  | none, some q, _, _, _ => startReply q s
  | none, none, some q, _, _ => startProbe q s
  | none, none, none, some q, _ => startBeacon q s
  | none, none, none, none, some q => startReport q s
  | none, none, none, none, none => s.setLc { s.lc with access := .idle, busy := false, attempt := 0 }

/-- The arbiter (R30): a declaration slot whose builder finds nothing is emptied, and the next filled slot is taken (R31). -/
def startTransmission (s : State) : State :=
  match s.lc.slots.declaration, s.owing with
  | some _, some r => startDeclaration r s
  | some _, none => arbitrateRest (s.setSlots { s.lc.slots with declaration := none })
  | none, _ => arbitrateRest s

/-! ## Guard and backoff (R32, R33) -/

/-- LC may start a transmission in this state (R21, R34, R41, R189, R190). -/
def State.canTransmit (s : State) : Bool :=
  s.lc.tx.isNone && s.oscReady && !s.listenOnly &&
    (s.awake || s.mc.standing == .asleep || s.mc.standing == .waking || s.mc.standing == .finalBeacon)

/-- The quiet time has reached n bit periods at the configured rate (R21, R32). -/
def State.quietFor (s : State) (n : Nat) : Bool :=
  !s.pins.lkCd && s.lc.tx.isNone && n * 1048576 ≤ since s.now s.lc.quietSince * linkRate s.cs.image.linkCode

/-- GUARD is entered: a quiet medium starts the transmission at once, a busy one leads to backoff (R32). -/
def enterGuard (s : State) : State :=
  if s.pins.lkCd then s.setLc { s.lc with access := .guard, busy := true }
  else if s.quietFor 32 then startTransmission s
  else s.setLc { s.lc with access := .guard, busy := false }

/-- LC follows its slots: with every slot empty it is IDLE and a is 0; with a slot filled in IDLE it goes to GUARD (R32). -/
def lcKick (s : State) : State :=
  if s.lc.slots.allEmpty then s.setLc { s.lc with access := .idle, busy := false, attempt := 0 }
  else if s.lc.access == .idle && s.canTransmit then enterGuard s
  else s

/-- The medium has been found busy: a backoff count is drawn (R33). -/
def drawBackoff (s : State) : State :=
  let n := min (s.lc.attempt + 1) 5
  let g := randomDraw s.lc.random
  bump .busyDeferrals (s.setLc { s.lc with
    random := g, access := .backoff (g.toNat % 2 ^ n), attempt := min 4 (s.lc.attempt + 1), busy := false })

/-- LK_CD rises while LC waits: the medium is busy (R32, R33). -/
def carrierRise (s : State) : State :=
  if s.lc.tx.isNone && s.lc.access != .idle then s.setLc { s.lc with busy := true } else s

/-! ## The stamp point (R22) -/

/-- Bytes of a body replaced from an offset on. -/
def patch (bs : List Byte) (i : Nat) (xs : List Byte) : List Byte := bs.take i ++ xs ++ bs.drop (i + xs.length)

/-- The body with its transmit-stamp fields filled (R22). -/
def TxFrame.filled (f : TxFrame) (t : StationTime) : List Byte :=
  match f.owner with
  | .beacon _ | .probe _ => patch f.body 0 (timeBytes t)
  | .reply => patch f.body 14 (timeBytes t)
  | .declaration _ _ | .notice _ _ | .report _ _ => f.body

/-- The last bit of the sync word leaves (R22, R34). -/
def stampFrame (f : TxFrame) (s : State) : State :=
  let st : Stamp := { time := s.tb.time, moment := s.now }
  let s := s.setLc { s.lc with tx := some { f with stamp := some st, body := f.filled st.time } }
  match f.owner with
  | .probe target => tauProbeStamped target st s
  | .declaration _ _ | .notice _ _ | .reply | .beacon _ | .report _ _ => s

/-- The random source is seeded at the end of START, and after POWER-ON the own sequence number is the low 8 bits of the first
draw (R27, R28). -/
def seedRandom (s : State) : State :=
  let x := BitVec.ofNat 16 (s.ownId * 4096) ^^^ s.tb.elapsed.setWidth 16
  let g := if x = 0 then 1 else x
  if s.lc.seqDrawn then s.setLc { s.lc with random := g }
  else
    let g' := randomDraw g
    s.setLc { s.lc with random := g', ownSeq := g'.toNat % 256, seqDrawn := true }

/-- The beacon timer's first delay at the end of START (R35). -/
def firstBeaconDelay (s : State) : State :=
  if s.listenOnly then s
  else
    let g := randomDraw s.lc.random
    let delay := secs (1 + g.toNat % 2 ^ s.cs.image.b)
    s.setLc { s.lc with random := g, beaconTimer := s.startTimer delay }

end Sys2Proof.Machine
end

