-- ==== Sys2Proof/Machine/BatteryCare.lean ====
section
/-! DEFINITION. The Battery Monitor (chapter 9): polls, readings and stale counts, the charge accumulator, the class, and the
charge enable. -/
namespace Sys2Proof.Machine

/-! ## Class (R161, R166, R167) -/

/-- The band of a figure (R166). -/
def bandOf (n : Int) : BatClass := if 50 ≤ n then .good else if 25 ≤ n then .lean else if 10 ≤ n then .low else .critical

/-- A class change is reported to HC, UC and MC (R167, R178, R142, R184). -/
def classChanged (s : State) : State :=
  let s := tellMode (forceByAllowance (bump .classChanges s))
  if s.mc.standing.inStart then s else ucHealth s

/-- The class becomes c, reported where it changes (R167). -/
def setClass (c : BatClass) (s : State) : State :=
  if s.bm.cls == c then s else classChanged (s.setBm { s.bm with cls := c })

/-- The figure the class follows: SOC while anchored, the voltage estimate while unanchored (R166). -/
def State.classFigure (s : State) : Int := if s.bm.anchored then s.bm.soc else s.estimateOf (s.bm.v.getD 0)

/-- The candidate of a good poll (R166). -/
def State.candidate (s : State) : BatClass :=
  if s.bm.v.getD 0 ≤ s.cs.image.vCutoff then .critical else bandOf s.classFigure

/-- The best class whose lower bound plus 5 the figure reaches (R167). -/
def hysteresisClass (n : Int) : Option BatClass :=
  if 55 ≤ n then some .good else if 30 ≤ n then some .lean else if 15 ≤ n then some .low else none

/-- The class after a good poll; the first since POWER-ON takes the candidate directly (R167). -/
def nextClass (cls candidate : BatClass) (figure : Int) (firstPoll : Bool) : BatClass :=
  if firstPoll then candidate
  else if cls.code < candidate.code then candidate
  else if candidate.code < cls.code then
    match hysteresisClass figure with
    | some c => if c.code < cls.code then c else cls
    | none => cls
  else cls

/-! ## Stale counts (R161, R162) -/

/-- A failed, rejected or overrun battery poll (R161). -/
def batteryMissed (s : State) : State :=
  let n := min 65535 (s.bm.staleCount + 1)
  let s := s.setBm { s.bm with
    staleCount := n, stale := s.bm.stale || decide (3 ≤ n), chargeEn := s.bm.chargeEn && decide (n < 3) }
  if n = 10 ∧ (s.bm.cls = .good ∨ s.bm.cls = .lean) then setClass .low (bump .forcedClasses s) else s

/-- A failed, overrun or implausible result of a temperature sensor (R162). -/
def sensorMissed (x : TempSensor) (s : State) : State :=
  match x with
  | .a =>
    let n := min 65535 (s.bm.staleCountA + 1)
    s.setBm { s.bm with staleCountA := n, staleA := s.bm.staleA || decide (3 ≤ n) }
  | .b =>
    let n := min 65535 (s.bm.staleCountB + 1)
    s.setBm { s.bm with staleCountB := n, staleB := s.bm.staleB || decide (3 ≤ n) }

/-! ## Polls (R158, R159) -/

/-- The poll period of the mode (section 9.1). -/
def State.pollPeriod (s : State) : Option Nat :=
  match s.mc.standing.mode with
  | some .active => some (secs 10)
  | some .economy => some (secs 30)
  | some .dormant => some (secs 120)
  | some .shelter => some (secs 600)
  | none => none

/-- The failure counter of a temperature sensor. -/
def sensorFailures : TempSensor → Counter
  | .a => .failuresA
  | .b => .failuresB

/-- The overrun of a temperature sensor at a poll: a missed result that raises the sensor's failure counter (R159, R162). -/
def sensorOverrun (x : TempSensor) (s : State) : State := sensorMissed x (bump (sensorFailures x) s)

/-- One device of a poll: requested, or counted as an overrun (R159). -/
def pollDevice (u : TwUser) (missed : State → State) (s : State) : State :=
  if s.twm.busyFor u then missed (bump .pollOverruns s) else twRequest u s

/-- The user of a temperature sensor. -/
def sensorUser : TempSensor → TwUser
  | .a => .tempA
  | .b => .tempB

/-- A poll: the three transactions are requested, the timer restarts with the period of the mode, and in DORMANT and SHELTER
the poll joins the brief-run users (R158, R159, R189). -/
def makePoll (s : State) : State :=
  let s := pollDevice .battery batteryMissed s
  let s := pollDevice .tempA (sensorOverrun .a) s
  let s := pollDevice .tempB (sensorOverrun .b) s
  let s := s.setBm { s.bm with
    lastPoll := some s.now, pollTimer := s.pollPeriod.map (fun p => { start := s.now, period := p }) }
  if s.dormant || s.mc.standing.inShelter then s.setMc { s.mc with users := { s.mc.users with poll := true } } else s

/-- The mode has changed: the next poll falls due one new period after the last was made, at once where that has passed
(R158). -/
def pollModeChange (s : State) : State :=
  match s.pollPeriod, s.bm.lastPoll with
  | some p, some t =>
    if p ≤ since s.now t then makePoll s else s.setBm { s.bm with pollTimer := some { start := t, period := p } }
  | some p, none => s.setBm { s.bm with pollTimer := s.startTimer p }
  | none, _ => s.setBm { s.bm with pollTimer := none }

/-- The poll timer starts at the end of START with the period of the mode entered (R158). -/
def pollTimerStart (s : State) : State :=
  s.setBm { s.bm with pollTimer := s.pollPeriod.map (fun p => { start := s.now, period := p }) }

/-- A poll leaves the brief-run users when its three transactions have ended (R189). -/
def pollLeaves (s : State) : State :=
  if s.mc.users.poll && !(s.twm.busyFor .battery || s.twm.busyFor .tempA || s.twm.busyFor .tempB) then
    s.setMc { s.mc with users := { s.mc.users with poll := false } }
  else s

/-- The two-wire work of the entry leaves the brief-run users as its transactions end (R189). -/
def entryWorkLeaves (s : State) : State :=
  s.setMc { s.mc with users := { s.mc.users with
    entryWork := s.mc.users.entryWork.filter (fun u => s.twm.working.contains u) } }

/-! ## Readings (R160, R163 to R165, R168) -/

/-- A battery reading: voltage, current, temperature (section 9.2). -/
structure Reading where
  v : Int
  i : Int
  t : Int
deriving DecidableEq, Repr

/-- The reading of a battery transaction's bytes (section 9.2). -/
def readingOf (bs : List Byte) : Reading :=
  { v := num bs 0 2, i := fromBeInt (field bs 2 2), t := fromBeInt (field bs 4 2) }

/-- A temperature is plausible from −600 to +850 tenths (section 9.1). -/
def plausibleTemp (t : Int) : Bool := -600 ≤ t && t ≤ 850

/-- A battery reading is plausible (R160). -/
def Reading.plausible (r : Reading) : Bool := 1000 ≤ r.v && r.v ≤ 60000 && plausibleTemp r.t

/-- Δt in whole seconds; at the first good poll there is no reference, and Δt is 0 (R163). -/
def State.deltaT (s : State) : Nat := (s.bm.eRef.map (fun e => since s.now e / 1048576)).getD 0

/-- The reference after a good poll (R163). -/
def State.nextRef (s : State) : Elapsed :=
  match s.bm.eRef with
  | some e => e + BitVec.ofNat 48 (s.deltaT * 1048576)
  | none => s.now

/-- The charge of an interval (R164). -/
def chargeOf (i : Int) (dt : Nat) : Int := if 0 < i then i * dt * 15 / 16 else i * dt

/-- The anchors (R165 step 4): the count's new value where one applies, with its counter. -/
def State.anchor (s : State) (r : Reading) : Option (Int × Counter) :=
  if (s.cs.image.vFull : Int) ≤ r.v ∧ 0 ≤ r.i ∧ r.i ≤ s.cs.image.iTaper then some (s.qcap, .fullAnchors)
  else if r.v ≤ s.cs.image.vEmpty then some (0, .emptyAnchors)
  else none

/-- The charge-enable state after a good poll (R168). -/
def chargeNext (on : Bool) (tCmin tCmax t : Int) : Bool :=
  if on then !(t < tCmin || tCmax < t) else decide (tCmin + 10 ≤ t ∧ t ≤ tCmax - 10)

/-- A good poll, in the order of R165; the reading makes the overtemperature test for HTR_B (R174) after its seven steps
(log entry 58). -/
def goodPoll (r : Reading) (s : State) : State :=
  let first := s.bm.eRef.isNone
  let q := clampInt (s.bm.q + chargeOf r.i s.deltaT) 0 s.qcap
  let s := s.setBm { s.bm with
    eRef := some s.nextRef, staleCount := 0, stale := false, v := some r.v, i := some r.i, temp := some r.t, q := q }
  let s := match s.anchor r with
    | some (q, c) => bump c (s.setBm { s.bm with q := q, anchored := true })
    | none => s
  let s := s.setBm { s.bm with soc := s.bm.q * 100 / s.qcap }
  let s := setClass (nextClass s.bm.cls s.candidate s.classFigure first) s
  let s := s.setBm { s.bm with chargeEn := chargeNext s.bm.chargeEn s.cs.image.tCmin s.cs.image.tCmax r.t }
  overtempTest .b r.t s

/-- A battery result (R160). -/
def bmBattery (r : TwEnd 6) (s : State) : State :=
  match r with
  | .complete v =>
    let x := readingOf v.toList
    if x.plausible then goodPoll x s else batteryMissed (bump .batteryRejects s)
  | .nack | .timeout | .busStuck => batteryMissed (bump .batteryFailures s)

/-- The value of a temperature sensor in tenths (R162). -/
def tempTenths (bs : List Byte) : Int := fromBeInt (field bs 0 2) * 10 / 16

/-- A plausible value replaces the sensor's held value; temperature A then makes the overtemperature test for HTR_S (R162,
R174). -/
def sensorGood (x : TempSensor) (t : Int) (s : State) : State :=
  match x with
  | .a => overtempTest .s t (s.setBm { s.bm with tempA := some t, staleCountA := 0, staleA := false })
  | .b => s.setBm { s.bm with tempB := some t, staleCountB := 0, staleB := false }

/-- A temperature sensor's result (R162). -/
def bmTemperature (x : TempSensor) (r : TwEnd 2) (s : State) : State :=
  match r with
  | .complete v =>
    if plausibleTemp (tempTenths v.toList) then sensorGood x (tempTenths v.toList) s
    else sensorMissed x (bump (match x with | .a => .rejectsA | .b => .rejectsB) s)
  | .nack | .timeout | .busStuck => sensorMissed x (bump (sensorFailures x) s)

end Sys2Proof.Machine
end

