-- ==== Sys2Proof/Machine/Modes.lean ====
section
/-! DEFINITION. The Mode Controller (chapter 11): selection, DORMANT entry, brief runs, waking, SHELTER and the end of START,
with what each change of mode does in the blocks; and the settling of a step. -/
namespace Sys2Proof.Machine

/-! ## Selection (R184, R185) -/

/-- The dormancy conditions (R185). -/
def State.dormancyConditions (s : State) : Bool :=
  !s.openEvent && !s.td.active && s.uc.allEmpty && s.mc.wakeHold.isNone && s.cs.image.mWatch ≤ s.watchCount && !s.listenOnly

/-- In DORMANT only conditions 1 and 3 are evaluated again (R185). -/
def State.staysDormant (s : State) : Bool := !s.openEvent && s.uc.allEmpty

/-- The wanted mode (R184). -/
def State.wantedMode (s : State) : OpMode :=
  match s.bm.cls with
  | .good => .active
  | .lean => .economy
  | .low => if (if s.dormant then s.staysDormant else s.dormancyConditions) then .dormant else .economy
  | .critical => .shelter

def setStanding (x : Standing) (s : State) : State := s.setMc { s.mc with standing := x }

/-! ## Oscillator (R188, R189) -/

/-- The brief-run users are empty (R189). -/
def BriefUsers.isEmpty (u : BriefUsers) : Bool := u.beacon.isNone && !u.poll && !u.final && u.entryWork.isEmpty

/-- The oscillator runs while the source is not SLOW or a brief run holds it; it stops otherwise (R3, R188, R189). -/
def syncOsc (s : State) : State :=
  if s.tb.source != .slow || !s.mc.users.isEmpty then
    (if s.mc.osc.isNone then s.setMc { s.mc with osc := some 0, handed := false } else s)
  else s.setMc { s.mc with osc := none, handed := false }

/-- The two-wire work that stands at an entry to DORMANT or SHELTER joins the brief-run users (R189). -/
def joinEntryWork (s : State) : State :=
  s.setMc { s.mc with users := { s.mc.users with entryWork := s.twm.working } }

/-! ## Changes between ACTIVE and ECONOMY (R184) -/

/-- The wake hold starts from zero (R192). -/
def wakeHoldStart (s : State) : State := s.setMc { s.mc with wakeHold := s.startTimer (secs s.cs.image.wakeHold) }

/-- A change between ACTIVE and ECONOMY: the poll period changes and an open calibration window is discarded (R184). -/
def changeAwake (x : Standing) (s : State) : State := calModeChange (pollModeChange (setStanding x s))

/-! ## Entry to the awake modes (R191, R195, R196) -/

/-- The receiver runs (R41). -/
def receiverOn (s : State) : State :=
  match s.lc.rx with
  | .off => s.setLc { s.lc with rx := .hunting }
  | _ => s

/-- The blocks take the entry to ACTIVE or ECONOMY from START, DORMANT or SHELTER, each by its own chapter (R191). -/
def blocksWake (s : State) : State :=
  tdStart (siStart (tauStart (rmuWake (ptResume (receiverOn (calModeChange s))))))

/-- Entry to ECONOMY, WATCHING from DORMANT or SHELTER: the wake hold starts, and MC evaluates the mode (R191, R195). The set of
brief-run users empties with the mode (log entry 65, DESIGN CHOICE). -/
def enterWatching (s : State) : State :=
  let s := setStanding .watching { s with mc := { s.mc with capture := none, finalLimit := none, users := .empty } }
  tellMode (csReleaseHeld (pollModeChange (beaconTimerRestart (blocksWake (wakeHoldStart s)))))

/-- The wake completes (R191). -/
def wakeComplete (s : State) : State := enterWatching s

/-- The rising ends (R195). -/
def risingComplete (s : State) : State := bump .shelterExits (enterWatching s)

/-! ## Leaving the awake modes (R188, R194) -/

/-- The blocks that stop alike at entry to DORMANT and to SHELTER, the new standing having been set. -/
def blocksSleep (s : State) : State :=
  joinEntryWork (calModeChange (siStop (tauStop (rmuSleep (tdStop s)))))

/-- Completion of the entry beacon while ENTERING: DORMANT, ASLEEP (R188). A waiting beacon joins the brief-run users; every
other slot is emptied, and a removed report segment is told to CS last (R41). -/
def dormantEntry (s : State) : State :=
  let s := bump .dormantEntries (setStanding .asleep s)
  let s := cuClear (blocksSleep (runSlow s))
  let report := s.lc.slots.report.isSome
  let s := (s.setSlots { Slots.empty with beacon := s.lc.slots.beacon }).setLc
    { s.lc with rx := .off, slots := { Slots.empty with beacon := s.lc.slots.beacon } }
  let s := if s.lc.slots.beacon.isSome then
      s.setMc { s.mc with users := { s.mc.users with beacon := some s.now } } else s
  let s := pollModeChange (forceByAllowance (ucModeOff (ptHold (beaconTimerRestart s))))
  if report then csEnd s else s

/-! ## DORMANT entry and its abandonment (R186, R187) -/

/-- An entry begins (R186). -/
def beginEntry (s : State) : State := bump .dormantEntriesBegun (fillBeacon .entry (setStanding .entering s))

/-- A marking is taken off a waiting beacon. -/
def unmarkBeacon (s : State) : State :=
  s.setSlots { s.lc.slots with beacon := s.lc.slots.beacon.map (fun q => { q with mark := .ordinary }) }

/-- The entry beacon is on the medium. -/
def State.entryOnMedium (s : State) : Bool :=
  s.lc.tx.any (fun f => f.owner == .beacon .entry)

/-- An entry is abandoned (R187): a waiting entry beacon becomes an ordinary one; one on the medium runs to its end as an
ordinary one, and an ordinary beacon is requested at once. -/
def abandonEntry (s : State) : State :=
  if s.mc.standing == .entering then
    let s := bump .entriesAbandoned (setStanding .watching s)
    if s.entryOnMedium then
      requestBeacon (s.setLc { s.lc with tx := s.lc.tx.map (fun f => { f with owner := .beacon .ordinary }) })
    else unmarkBeacon s
  else s

/-! ## Waking (R190, R191) -/

/-- A local wake (R191): on a source that is FAST still it completes at once (log entry 12). -/
def localWake (s : State) : State :=
  match s.mc.standing with
  | .asleep =>
    let s := bump .localWakes (runFast (setStanding .waking s))
    if s.tb.source == .fast then wakeComplete s else s
  | .capturing => bump .localWakes (setStanding .waking s)
  | _ => s

/-- A false wake: in CAPTURING the station returns to ASLEEP; a local wake requested meanwhile stands, and with the fast source
steady it completes now (R190, R191). -/
def falseWake (s : State) : State :=
  let s := csDropHeld (bump .falseWakes (s.setMc { s.mc with capture := none }))
  if s.mc.standing == .capturing then
    let s := runSlow (setStanding .asleep s)
    s.setLc { s.lc with rx := .off }
  else if s.mc.standing == .waking && s.tb.source == .fast then wakeComplete s
  else s

/-- A frame accepted with its wake flag set ends the capture and completes the wake (R190, R191). -/
def patternWake (s : State) : State := wakeComplete (bump .patternWakes (s.setMc { s.mc with capture := none }))

/-! ## SHELTER (R194, R195) -/

/-- A rising begins (R195); on a source that is FAST still it ends at once (log entry 12). -/
def rise (s : State) : State :=
  let s := runFast (setStanding .rising s)
  if s.tb.source == .fast then risingComplete s else s

/-- The final beacon has ended: SHELTERED; LC empties its slots and stops, and MC takes the evaluation (R194, R41). -/
def becomeSheltered (s : State) : State :=
  let report := s.lc.slots.report.isSome
  let s := (setStanding .sheltered s).setLc { s.lc with slots := .empty, rx := .off, beaconTimer := none }
  let s := s.setMc { s.mc with finalLimit := none, users := { s.mc.users with beacon := none, final := false } }
  let s := tellMode (runSlow s)
  if report then csEnd s else s

/-- The blocks take the entry to SHELTER, and the final beacon is requested; at a listen-only station it is dropped at once
(R194). -/
def shelterEntry (s : State) : State :=
  let fromDormant := s.dormant
  let s := ptResume s
  let s := bump .shelterEntries (setStanding .finalBeacon s)
  let s := if fromDormant then runSlow s else s
  let s := s.setMc { s.mc with wakeHold := none, capture := none }
  let s := cuShelter (blocksSleep s)
  let s := s.setLc { s.lc with rx := .off, beaconTimer := none }
  let s := pollModeChange (forceByAllowance (ucModeOff (csDropHeld s)))
  if s.listenOnly then becomeSheltered s
  else
    let s := s.setSlots { s.lc.slots with beacon := some { moment := s.now, mark := .final } }
    s.setMc { s.mc with
      finalLimit := s.startTimer (secs 10)
      users := { s.mc.users with beacon := none, final := fromDormant } }

/-- A rising is abandoned (R195). -/
def abandonRising (s : State) : State := runSlow (setStanding .sheltered s)

/-! ## Evaluation (R184) -/

/-- Wanted DORMANT in ECONOMY, WATCHING: the entry begins unless the detector is hot (R185, R186). -/
def tryEntry (s : State) : State := if s.hot then s else beginEntry s

/-- The mode is evaluated (R184). -/
def evaluateMode (s : State) : State :=
  match s.mc.standing, s.wantedMode with
  | .crystalWait, _ | .loading, _ | .firstPoll, _ => s
  | .active, .active => s
  | .active, .economy => changeAwake .watching s
  | .active, .dormant => tryEntry (changeAwake .watching s)
  | .active, .shelter => shelterEntry s
  | .watching, .active => changeAwake .active s
  | .watching, .economy => s
  | .watching, .dormant => tryEntry s
  | .watching, .shelter => shelterEntry s
  | .entering, .active => changeAwake .active (abandonEntry s)
  | .entering, .economy => abandonEntry s
  | .entering, .dormant => s
  | .entering, .shelter => shelterEntry (abandonEntry s)
  | .asleep, .active | .asleep, .economy | .capturing, .active | .capturing, .economy | .waking, .active | .waking, .economy =>
    localWake s
  | .asleep, .dormant | .capturing, .dormant | .waking, .dormant => s
  | .asleep, .shelter | .capturing, .shelter | .waking, .shelter => shelterEntry s
  | .finalBeacon, _ => s
  | .sheltered, .shelter => s
  | .sheltered, .active | .sheltered, .economy | .sheltered, .dormant => rise s
  | .rising, .shelter => abandonRising s
  | .rising, .active | .rising, .economy | .rising, .dormant => s

/-! ## The end of START (R196) -/

/-- The end of START is taken with the mode selected from the class (R196). In SHELTER the entry is taken with it, and the
beacon timer does not start (R194). -/
def endOfStart (s : State) : State :=
  let s := trimTimerStart (seedRandom s)
  if s.bm.cls == .critical then ucHealth (pollTimerStart (shelterEntry s))
  else
    let s := setStanding (if s.bm.cls == .good then .active else .watching) s
    ucHealth (pollTimerStart (firstBeaconDelay (blocksWake s)))

/-! ## Completion of a BEACON (R186 to R189, R194) -/

/-- MC takes the completion of a BEACON (R34): an entry beacon while ENTERING enters DORMANT, the final beacon ends, and a
beacon of a brief run leaves its users. -/
def beaconComplete (mark : BeaconMark) (s : State) : State :=
  match mark with
  | .entry => if s.mc.standing == .entering then dormantEntry s else s
  | .final => if s.mc.standing == .finalBeacon then becomeSheltered s else s
  | .ordinary =>
    if s.lc.slots.beacon.isNone then s.setMc { s.mc with users := { s.mc.users with beacon := none } } else s

/-! ## Settling of a step -/

/-- The events reported to MC are taken: an abandoning event first, then an evaluation (R184, R187; log entry 11). -/
def mcSettleOnce (s : State) : State :=
  let abandon := s.mc.abandonDue
  let eval := s.mc.evalDue
  if abandon || eval then
    let s := s.setMc { s.mc with abandonDue := false, evalDue := false }
    let s := if abandon then abandonEntry s else s
    if eval then evaluateMode s else s
  else s

/-- The reports to MC are taken until none stands. One evaluation gives rise to at most two more that move the station, and four
rounds take them all, so that none stands when the step ends (log entry 11). -/
def mcSettle (s : State) : State :=
  let s := mcSettleOnce (mcSettleOnce (mcSettleOnce (mcSettleOnce s)))
  s.setMc { s.mc with abandonDue := false, evalDue := false }

/-- The end of a step: MC takes its reports, and the modem, the oscillator, the Two-Wire Master and the Link Controller follow
the state as it then stands. -/
def finish (s : State) : State := lcKick (twKick (syncOsc (modemKick (mcSettle s))))

end Sys2Proof.Machine
end

