-- ==== Sys2Proof/Machine/Reception.lean ====
section
/-! DEFINITION. Reception (R36 to R40): the judging of a complete frame, its handing on, and the end of a capture by it. -/
namespace Sys2Proof.Machine

/-- The outcome of the tests of R37. -/
inductive Judged where
  /-- discarded, counted under a reason -/
  | discarded (reason : Counter)
  /-- discarded under R38 -/
  | conflict
  /-- ignored under R39 -/
  | ignored
  | accepted (kind : FrameKind) (body : Body)
deriving DecidableEq, Repr

/-- A complete frame as received: its header, and the body, the CRC and the check field after it (section 2.2). -/
structure RxFrame where
  hdr : Header
  rest : List Byte
deriving DecidableEq, Repr

def RxFrame.body (f : RxFrame) : List Byte := f.rest.take f.hdr.length.toNat
def RxFrame.crc (f : RxFrame) : List Byte := field f.rest f.hdr.length.toNat 2
def RxFrame.check (f : RxFrame) : List Byte := field f.rest (f.hdr.length.toNat + 2) 4

/-- The CRC matches (R24). -/
def RxFrame.crcGood (f : RxFrame) : Bool := crcBytes (f.hdr.bytes ++ f.body) == f.crc

/-- Test 5 of R37: the sender does not fit the kind. -/
def senderWrong (sender : Nat) (kind : FrameKind) : Bool :=
  sender == 0 || (sender == 15) != (kind == .serviceRequest)

/-- The last sequence accepted from a sender (R37). -/
def State.lastSequence (s : State) (sender : Nat) : Option Nat :=
  if sender = 15 then s.lc.terminalSeq else (s.peer sender).map (fun r => r.lastSeq)

/-- A complete frame is judged: the first test that fails decides (R37). -/
def State.judge (s : State) (f : RxFrame) : Judged :=
  if !f.crcGood then .discarded .discardCrc
  else if !s.listenOnly && f.hdr.sender == s.ownId then .conflict
  else if f.hdr.target ≠ 0 ∧ f.hdr.target ≠ s.ownId then .ignored
  else match frameKindOf f.hdr.kindCode with
    | none => .discarded .discardKind
    | some kind =>
      if senderWrong f.hdr.sender kind then .discarded .discardSender
      else match readBody kind f.hdr.target f.body with
        | none => .discarded .discardMalformed
        | some body =>
          if s.lastSequence f.hdr.sender == some f.hdr.sequence.toNat then .discarded .discardRepeat
          else .accepted kind body

/-- What PT takes of an accepted frame's header (R40 step 1). -/
def RxFrame.facts (f : RxFrame) (stamp : RxStamp) (kind : FrameKind) : HeaderFacts :=
  { sender := f.hdr.sender, seq := f.hdr.sequence.toNat, moment := stamp.moment,
    errors := checkErrors f.hdr.sender f.hdr.sequence.toNat f.check, isBeacon := kind == .beacon }

/-- A muster heard while the station is awake abandons an entry and starts the wake hold afresh (R54, R193). -/
def musterHeard (s : State) : State := if s.awake then alarmMode (wakeHoldStart s) else s

/-- A BEACON body reaches its owners (R40, R46, R66, R118). -/
def deliverBeacon (sender : Nat) (stamp : RxStamp) (muster : Bool) (b : BeaconBody) (s : State) : State :=
  let before := (s.peer sender).bind (fun r => r.trig)
  let ended := (before == some .on || before == some .hold) && !(b.trig == .on || b.trig == .hold)
  let s := tauBeacon sender b.stamp stamp (ptBeacon sender b s)
  cuBeacon sender b ended (if muster then musterHeard s else s)

/-- The body of an accepted frame goes to its owner (R40 step 2). -/
def deliver (f : RxFrame) (stamp : RxStamp) (body : Body) (s : State) : State :=
  match body with
  | .beacon b => deliverBeacon f.hdr.sender stamp f.hdr.muster b s
  | .notice n => cuNotice f.hdr.sender n (ptNotice f.hdr.sender n s)
  | .declaration d => cuDeclaration f.hdr.sender d s
  | .probe t1 => tauProbe f.hdr.sender t1 stamp s
  | .reply b => tauReply f.hdr.sender b stamp s
  | .request q => csTake q.code q.argument (s.setLc { s.lc with terminalSeq := some f.hdr.sequence.toNat })
  | .report => s

/-- An accepted frame is counted and handed on (R40). -/
def acceptFrame (f : RxFrame) (stamp : RxStamp) (kind : FrameKind) (body : Body) (s : State) : State :=
  let s := bump .framesAccepted s
  deliver f stamp body (if f.hdr.sender = 15 then s else ptTake (f.facts stamp kind) s)

/-- The end of a judged frame under a running capture: an accepted frame with its wake flag set completes the wake, any other is
a false wake; what the frame reported to MC is taken first (R190; log entry 11). -/
def endCapture (woken : Bool) (s : State) : State :=
  if s.mc.capture.isSome then
    let s := mcSettle s
    if s.mc.capture.isSome then (if woken then patternWake s else falseWake s) else s
  else s

/-- The outcome of a complete frame (R37 to R40, R190). -/
def takeFrame (f : RxFrame) (stamp : RxStamp) (s : State) : State :=
  match s.judge f with
  | .discarded reason => endCapture false (bump reason s)
  | .conflict => endCapture false (bump .idConflicts (s.setLc { s.lc with idConflict := true }))
  | .ignored => endCapture false s
  | .accepted kind body => endCapture f.hdr.wake (acceptFrame f stamp kind body s)

/-- The last bit of a frame's check field has been taken: the frame is judged, and the receiver returns to the hunt (R36, R37).
Without a header taken, with a frame of the station's own on the medium or with another length the line cannot have given this
frame (log entry 2). -/
def receiveFrame (rest : List Byte) (s : State) : State :=
  match s.lc.rx, s.lc.tx with
  | .body stamp hdr, none =>
    if rest.length = hdr.length.toNat + 6 then
      finish (takeFrame { hdr, rest } stamp (s.setLc { s.lc with rx := .hunting }))
    else s
  | _, _ => s

end Sys2Proof.Machine
end

