-- ==== Sys2Proof/Machine/StartCommands.lean ====
section
/-! DEFINITION. The commands of power, reset and START (R196, R198 to R200, R205). -/
namespace Sys2Proof.Machine

/-- POWER_ON: every block takes its POWER-ON values; the levels on the input lines and the commands that wait are not the part's
(log entries 1 and 4). -/
def execPowerOn (s : State) : Host.Outcome State Fault Refusal :=
  .next { State.reset with pending := s.pending, pins := s.pins }

/-- RESET_N_LOW: the pin has been low for 1 ms; the part is held in RESTART (R205). -/
def execResetNLow (s : State) : Host.Outcome State Fault Refusal :=
  let s := restartValues s
  .next (finish (s.setMc { s.mc with held := true }))

/-- RESET_N_RISE: START begins again at LOADING, or the crystal wait of a POWER-ON runs on (R205, R196). -/
def execResetNRise (s : State) : Host.Outcome State Fault Refusal :=
  .next (
    if s.mc.held then
      let s := s.setMc { s.mc with held := false }
      finish (if s.mc.standing == .loading then enterLoading s else s)
    else s)

/-- CRYSTAL_WAIT_END: after 16,384 slow cycles the Timebase begins to count, and START goes on at LOADING; while RESET_N holds
the part there, LOADING waits for its rise (R196, R205). -/
def execCrystalWaitEnd (s : State) : Host.Outcome State Fault Refusal :=
  .next (
    if s.mc.standing == .crystalWait && 16384 ≤ s.mc.crystal then
      let s := setStanding .loading (s.setTb { s.tb with counting := true })
      finish (if s.mc.held then s else enterLoading s)
    else s)

/-- The load has ended: the block is judged, the charge formed at the first image, and the first poll made (R199, R196). -/
def loadEnds (r : TwEnd 64) (s : State) : State :=
  makePoll (setStanding .firstPoll (formCharge (csTakeBlock r s)))

/-- CONFIG_LOAD_END: the loader's transaction ends; one whose result is no longer wanted is only ended (R199, R202). -/
def execConfigLoadEnd (r : TwEnd 64) (s : State) : Host.Outcome State Fault Refusal :=
  .next (
    match s.twEnding .loader r with
    | none => s
    | some b =>
      let s := twEnd r s
      finish (if b.wanted && s.mc.standing == .loading then loadEnds r s else s))

end Sys2Proof.Machine
end

