-- ==== Sys2Proof/Machine/TimeCommands.lean ====
section
/-! DEFINITION. The commands of station time and the reference (chapter 1). -/
namespace Sys2Proof.Machine

/-- The lines without a row of their own are sampled (log entry 4); a rise of UP_RDY has its own command, so only its fall is
taken here. -/
def sampleLines (l : Lines) (s : State) : State :=
  twSclSampled (s.setPins { s.pins with
    straps := l.straps, chgAvl := l.chgAvl, upRdy := s.pins.upRdy && l.upRdy, scl := l.scl, sda := l.sda })

/-- NOMINAL_TICK: one nominal tick of the fast oscillator as the clock source (R3); the on-times run with the elapsed count
(R181). -/
def execNominalTick (lines : Lines) (s : State) : Host.Outcome State Fault Refusal :=
  .next (
    if s.tb.counting && s.tb.source == .fast then
      let s := sampleLines lines s
      (s.setTb s.tb.fastTick).setHc (s.hc.run 1)
    else s)

/-- A slow cycle in CRYSTAL WAIT is counted (R196). -/
def countCrystal (s : State) : State :=
  if s.mc.standing == .crystalWait then s.setMc { s.mc with crystal := min 16384 (s.mc.crystal + 1) } else s

/-- The Timebase runs on the slow crystal in SLOW and WARMING; in WARMING the cycle is counted (R3, R5, R181). -/
def slowAdvance (s : State) : State :=
  if s.tb.counting && s.tb.source != .fast then
    let t := s.tb.slowTick
    let t := if t.source == .warming then { t with warmUp := min 256 (t.warmUp + 1) } else t
    (s.setTb t).setHc (s.hc.run 32)
  else s

/-- The slow cycles of a running oscillator are counted to 256 (R189). -/
def countOsc (s : State) : State := s.setMc { s.mc with osc := s.mc.osc.map (fun n => min 256 (n + 1)) }

/-- The calibration window at a slow-cycle boundary: an expired period opens it, and it is discarded at once where the
pending-step flag is found set; an open one counts the cycle (R6, R7). -/
def calBoundary (s : State) : State :=
  if s.tb.calOpening then
    let s := s.setTb { s.tb with calOpening := false, calWindow := some { cycles := 0, m := 0 } }
    if s.tb.pendingStep.isSome then calDiscard s else s
  else s.setTb { s.tb with calWindow := s.tb.calWindow.map (fun w => { w with cycles := min 32768 (w.cycles + 1) }) }

/-- SLOW_CYCLE: one cycle of the slow crystal, with its boundary at the end (R3, R5, R6, R189, R196). -/
def execSlowCycle (lines : Lines) (s : State) : Host.Outcome State Fault Refusal :=
  .next (calBoundary (countOsc (slowAdvance (countCrystal (sampleLines lines s)))))

/-- SECOND_BOUNDARY: the oldest second boundary reported is taken by the Sample Interface and the Heater Controller (R1, R80,
R174). -/
def execSecondBoundary (s : State) : Host.Outcome State Fault Refusal :=
  .next (
    match s.tb.boundaries with
    | [] => s
    | sec :: rest =>
      finish (heaterBoundary sec .s (heaterBoundary sec .b (siBoundary sec (s.setTb { s.tb with boundaries := rest })))))

/-- ELAPSED_SECOND: the time quality grows (R9). -/
def execElapsedSecond (s : State) : Host.Outcome State Fault Refusal :=
  .next (
    if 0 < s.tb.elapsedSeconds then
      s.setTb { s.tb with
        elapsedSeconds := s.tb.elapsedSeconds - 1, quality := min 16777215 (s.tb.quality + s.qualityGrowth), steered := false }
    else s)

/-- MC takes fast steady (R190, R191, R195, R196). -/
def fastSteadyStanding (s : State) : State :=
  match s.mc.standing with
  | .loading => if s.mc.held then s else twRequest .loader s
  | .capturing => receiverOn s
  | .waking => if s.mc.capture.isSome then receiverOn s else wakeComplete s
  | .rising => risingComplete s
  | .crystalWait | .firstPoll | .active | .watching | .entering | .asleep | .finalBeacon | .sheltered => s

/-- A steering instant that waited for the fast source is taken (R68). -/
def steerWaited (s : State) : State := if s.tau.steerWaiting && s.awake then steer s else s

/-- FAST_STEADY: the warm-up of 256 slow cycles has ended, the source is FAST, and MC is told (R3). -/
def execFastSteady (s : State) : Host.Outcome State Fault Refusal :=
  .next (
    if s.tb.source == .warming && 256 ≤ s.tb.warmUp && !s.tb.slowAsked then
      let s := (s.setTb { s.tb with source := .fast }).setMc { s.mc with handed := true }
      finish (steerWaited (fastSteadyStanding (calRestart s)))
    else s)

/-- The station stands where its source is to be FAST (the table of section 11.8, R190, R191, R194 to R196): awake, in START from
LOADING on, in a capture, a wake or a rising, or with a final beacon that needs no brief run. -/
def ModeCtl.wantsFast (m : ModeCtl) : Bool :=
  match m.standing with
  | .loading | .firstPoll | .active | .watching | .entering | .capturing | .waking | .rising => true
  | .finalBeacon => !m.users.final
  | .crystalWait | .asleep | .sheltered => false

/-- Where the station wants the fast source, MC requests run on fast (DEDUCED, log entry 12). -/
def fastWanted (s : State) : State := if s.mc.wantsFast then runFast s else s

/-- SOURCE_BECOMES_SLOW: a run on slow takes effect at the slow-cycle boundary; an open calibration window is discarded, and the
oscillator stops unless a brief run holds it (R3, R7, R188). A station that has since come to want the fast source requests it again
(log entry 12). -/
def execSourceBecomesSlow (s : State) : Host.Outcome State Fault Refusal :=
  .next (
    if s.tb.slowAsked then
      finish (fastWanted (calRestart (calDiscard (s.setTb { s.tb with source := .slow, slowAsked := false, warmUp := 0 }))))
    else s)

/-- CALIBRATION_PERIOD_EXPIRY: the window opens at the next slow-cycle boundary (R6). -/
def execCalibrationPeriodExpiry (s : State) : Host.Outcome State Fault Refusal :=
  .next (if timerDue s.tb.calTimer s.now then s.setTb { s.tb with calTimer := none, calOpening := true } else s)

/-- CALIBRATION_WINDOW_CLOSE: after 32,768 slow cycles C_slow is filtered, and the period starts again (R6). -/
def execCalibrationWindowClose (s : State) : Host.Outcome State Fault Refusal :=
  .next (
    match s.tb.calWindow with
    | some w =>
      if 32768 ≤ w.cycles then
        calRestart (s.setTb { s.tb with cSlow := calFilter s.tb.cSlow w.m, calWindow := none })
      else s
    | none => s)

/-- MARK_EDGE (R15). -/
def execMarkEdge (s : State) : Host.Outcome State Fault Refusal := .next (finish (rmuEdge s))

/-- MARK_LABEL_READ_END: the label read ends; one whose mark is closed already goes to no one (R15, R16, R201). -/
def execMarkLabelReadEnd (r : TwEnd 5) (s : State) : Host.Outcome State Fault Refusal :=
  .next (
    match s.twEnding .label r with
    | none => s
    | some b =>
      let s := twEnd r s
      finish (entryWorkLeaves (if b.wanted then rmuReadEnd r s else s)))

/-- MARK_EXPECTATION_EXPIRY (R17). -/
def execMarkExpectationExpiry (s : State) : Host.Outcome State Fault Refusal := .next (rmuExpectation s)

/-- REFERENCE_LOSS_EXPIRY: ACQUIRING and HOLDOVER go to ABSENT (R18). -/
def execReferenceLossExpiry (s : State) : Host.Outcome State Fault Refusal :=
  .next (
    if timerDue s.rmu.lossTimer s.now && (s.rmu.state == .acquiring || s.rmu.state == .holdover) then rmuAbsent s else s)

end Sys2Proof.Machine
end

