-- ==== Sys2Proof/Machine/LinkCommands.lean ====
section
/-! DEFINITION. The commands of access, transmission and the line of the array link (chapter 2). -/
namespace Sys2Proof.Machine

/-- GUARD_COMPLETE: the quiet time has reached 32 bit periods in GUARD, and the transmission starts (R32, R30). -/
def execGuardComplete (s : State) : Host.Outcome State Fault Refusal :=
  .next (
    if s.lc.access == .guard && !s.lc.busy && s.canTransmit && s.quietFor 32 then finish (startTransmission s) else s)

/-- CARRIER_BUSY: LC has found the medium busy and draws a backoff count (R33). -/
def execCarrierBusy (s : State) : Host.Outcome State Fault Refusal :=
  .next (if s.lc.busy && s.lc.access != .idle then drawBackoff s else s)

/-- BACKOFF_COMPLETE: 32 bit periods of quiet and the backoff slots of 64 bit periods each have run (R33). -/
def execBackoffComplete (s : State) : Host.Outcome State Fault Refusal :=
  .next (
    match s.lc.access with
    | .backoff n =>
      if !s.lc.busy && s.canTransmit && s.quietFor (32 + 64 * n) then finish (startTransmission s) else s
    | .idle | .guard => s)

/-- STAMP_POINT: the last bit of the sync word leaves (R22, R34). -/
def execStampPoint (s : State) : Host.Outcome State Fault Refusal :=
  .next (
    match s.lc.tx with
    | some f => if f.stamp.isNone then stampFrame f s else s
    | none => s)

/-- Completion is reported to the requester of the frame (R34). An ONSET notice is outstanding until its own completion: that of
an older ONSET frame leaves a newer request outstanding (R103). -/
def reportCompletion (owner : TxOwner) (s : State) : State :=
  match owner with
  | .declaration rid update => cuDeclarationSent rid update s
  | .notice .onset moment => if s.td.outstanding == some moment then s.setTd { s.td with outstanding := none } else s
  | .notice .finish _ => s
  | .reply => s
  | .probe _ => s
  | .beacon mark => beaconComplete mark s
  | .report current last => csCompleted current last s

/-- TRANSMISSION_END: the last bit of the check field leaves (R34); quiet time counts from here (R32). -/
def execTransmissionEnd (s : State) : Host.Outcome State Fault Refusal :=
  .next (
    match s.lc.tx with
    | some f =>
      if f.stamp.isSome then
        finish (reportCompletion f.owner (bump .framesSent (s.setLc { s.lc with tx := none, quietSince := s.now })))
      else s
    | none => s)

/-- A waiting TRIGGER NOTICE is dropped; a dropped ONSET is outstanding no longer (R29, R103). -/
def dropNotice (q : NoticeReq) (s : State) : State :=
  let s := bump .staleDrops (s.setSlots { s.lc.slots with notice := none })
  if q.notice.kind == .onset then s.setTd { s.td with outstanding := none } else s

/-- The request of a kind that has passed its staleness limit is dropped (R29, section 2.5). -/
def staleDrop (kind : StaleKind) (s : State) : State :=
  match kind with
  | .triggerNotice =>
    match s.lc.slots.notice with
    | some q => if secs 2 ≤ since s.now q.moment then dropNotice q s else s
    | none => s
  | .rangeReply =>
    match s.lc.slots.reply with
    | some q =>
      if millis 400 ≤ since s.now q.t2.moment then bump .staleDrops (s.setSlots { s.lc.slots with reply := none }) else s
    | none => s
  | .rangeProbe =>
    match s.lc.slots.probe with
    | some q =>
      if millis 500 ≤ since s.now q.moment then tauNotSent (bump .staleDrops (s.setSlots { s.lc.slots with probe := none }))
      else s
    | none => s
  | .serviceReport =>
    match s.lc.slots.report with
    | some q =>
      if secs 5 ≤ since s.now q.moment then csDropped (bump .staleDrops (s.setSlots { s.lc.slots with report := none })) else s
    | none => s

/-- REQUEST_STALE_DROP (R29). -/
def execRequestStaleDrop (kind : StaleKind) (s : State) : Host.Outcome State Fault Refusal := .next (finish (staleDrop kind s))

/-- BEACON_TIMER_EXPIRY: LC fills the BEACON slot and restarts the timer; a marked beacon that waits stays (R35). -/
def execBeaconTimerExpiry (s : State) : Host.Outcome State Fault Refusal :=
  .next (
    if timerDue s.lc.beaconTimer s.now then
      let waits := s.lc.slots.beacon.any (fun q => q.mark != .ordinary)
      finish (beaconTimerRestart (if waits then s else requestBeacon s))
    else s)

/-- SYNC_WORD_TAKEN: the receiver takes the receive stamp (R36, R22). -/
def execSyncWordTaken (s : State) : Host.Outcome State Fault Refusal :=
  .next (
    match s.lc.rx, s.lc.tx with
    | .hunting, none =>
      s.setLc { s.lc with rx := .header { time := s.tb.time, moment := s.now, fast := s.tb.source == .fast } }
    | _, _ => s)

/-- HEADER_TAKEN: a length above 80 discards the frame (R36). -/
def execHeaderTaken (kindSender targetFlags length sequence : Byte) (s : State) : Host.Outcome State Fault Refusal :=
  .next (
    match s.lc.rx, s.lc.tx with
    | .header stamp, none =>
      if 80 < length.toNat then bump .discardLength (s.setLc { s.lc with rx := .hunting })
      else s.setLc { s.lc with rx := .body stamp { kindSender, targetFlags, length, sequence } }
    | _, _ => s)

/-- The receiver is reading a frame (R36). -/
def Rx.reading : Rx → Bool
  | .header _ | .body _ _ => true
  | .off | .hunting => false

/-- FRAME_TRUNCATED: LK_CD has fallen inside a frame (R36); a captured frame is then not accepted (R190). -/
def execFrameTruncated (s : State) : Host.Outcome State Fault Refusal :=
  .next (
    if s.lc.rx.reading && s.lc.tx.isNone && !s.pins.lkCd then
      finish (endCapture false (bump .discardCrc (s.setLc { s.lc with rx := .hunting })))
    else s)

/-- CARRIER_DETECT_CHANGE: LK_CD rises or falls (R32). -/
def execCarrierDetectChange (high : Bool) (s : State) : Host.Outcome State Fault Refusal :=
  .next (
    if s.pins.lkCd == high then s
    else
      let s := s.setPins { s.pins with lkCd := high }
      if high then carrierRise s else s.setLc { s.lc with quietSince := s.now })

end Sys2Proof.Machine
end

