-- ==== Sys2Proof/Machine/FrameCommands.lean ====
section
/-! DEFINITION. The commands of a complete frame. The bytes of the frame decide what is taken, by R37 and R40, whichever of these
rows brings them (log entry 13). -/
namespace Sys2Proof.Machine

/-- FRAME_DISCARDED: a frame that fails a test of R37. -/
def execFrameDiscarded (rest : List Byte) (s : State) : Host.Outcome State Fault Refusal := .next (receiveFrame rest s)

/-- BEACON_RECEIVED: an accepted BEACON (R46, R66, R118). -/
def execBeaconReceived (rest : List Byte) (s : State) : Host.Outcome State Fault Refusal := .next (receiveFrame rest s)

/-- TRIGGER_NOTICE_RECEIVED: an accepted TRIGGER NOTICE (R47, R117). -/
def execTriggerNoticeReceived (rest : List Byte) (s : State) : Host.Outcome State Fault Refusal := .next (receiveFrame rest s)

/-- EVENT_DECLARATION_RECEIVED: an accepted EVENT DECLARATION (R131). -/
def execEventDeclarationReceived (rest : List Byte) (s : State) : Host.Outcome State Fault Refusal := .next (receiveFrame rest s)

/-- RANGE_PROBE_RECEIVED: an accepted RANGE PROBE (R61). -/
def execRangeProbeReceived (rest : List Byte) (s : State) : Host.Outcome State Fault Refusal := .next (receiveFrame rest s)

/-- RANGE_REPLY_RECEIVED: an accepted RANGE REPLY (R63). -/
def execRangeReplyReceived (rest : List Byte) (s : State) : Host.Outcome State Fault Refusal := .next (receiveFrame rest s)

/-- SERVICE_REPORT_RECEIVED: an accepted SERVICE REPORT (R40). -/
def execServiceReportReceived (rest : List Byte) (s : State) : Host.Outcome State Fault Refusal := .next (receiveFrame rest s)

/-- SERVICE_STATUS: a STATUS request (R203, R204). -/
def execServiceStatus (rest : List Byte) (s : State) : Host.Outcome State Fault Refusal := .next (receiveFrame rest s)

/-- SERVICE_PEERS: a PEERS request (R203, R204). -/
def execServicePeers (rest : List Byte) (s : State) : Host.Outcome State Fault Refusal := .next (receiveFrame rest s)

/-- SERVICE_EVENTS: an EVENTS request (R203, R204). -/
def execServiceEvents (rest : List Byte) (s : State) : Host.Outcome State Fault Refusal := .next (receiveFrame rest s)

/-- SERVICE_COUNTERS: a COUNTERS request (R203, R204). -/
def execServiceCounters (rest : List Byte) (s : State) : Host.Outcome State Fault Refusal := .next (receiveFrame rest s)

/-- SERVICE_RESTART: a RESTART request (R203, R205). -/
def execServiceRestart (rest : List Byte) (s : State) : Host.Outcome State Fault Refusal := .next (receiveFrame rest s)

/-- SERVICE_UNKNOWN: a request of an unknown code (R203). -/
def execServiceUnknown (rest : List Byte) (s : State) : Host.Outcome State Fault Refusal := .next (receiveFrame rest s)

end Sys2Proof.Machine
end

