-- ==== Sys2Proof/Machine/PeerCommands.lean ====
section
/-! DEFINITION. The commands of the Peer Table and of Time Agreement (chapters 3 and 4). -/
namespace Sys2Proof.Machine

/-- A record is removed, and the removal reported to TAU and CU (R51). -/
def expirePeer (id : Nat) (s : State) : State :=
  cuPeerRemoved id (tauPeerRemoved id (dropPeer id (bump .peerExpiries s)))

/-- PEER_RECORD_EXPIRY (R51). -/
def execPeerRecordExpiry (id : Nat) (s : State) : Host.Outcome State Fault Refusal :=
  .next (if (s.peer id).any s.expired then finish (expirePeer id s) else s)

/-- PROBE_TARGET_CHOICE (R59). -/
def execProbeTargetChoice (s : State) : Host.Outcome State Fault Refusal := .next (finish (tauChoose s))

/-- PROBE_TIMEOUT: 500 ms after the choice the exchange ends unanswered (R64). -/
def execProbeTimeout (s : State) : Host.Outcome State Fault Refusal :=
  .next (
    if s.tau.probe.any (fun p => decide (millis 500 ≤ since s.now p.chosenAt)) then finish (tauUnanswered s) else s)

/-- RANGE_AGE_STALE: a RANGED record whose range age has reached 4096 s (R58). -/
def execRangeAgeStale (id : Nat) (s : State) : Host.Outcome State Fault Refusal :=
  .next (
    if (s.peer id).any (fun r => r.ranging == .ranged && (s.rangeAge r).any (fun t => decide (secs 4096 ≤ t))) then
      updPeer id (fun r => { r with ranging := .stale }) s
    else s)

/-- UNREACHABLE_HOLD_END: an UNREACHABLE record whose range age has reached 1024 s (R58). -/
def execUnreachableHoldEnd (id : Nat) (s : State) : Host.Outcome State Fault Refusal :=
  .next (
    if (s.peer id).any (fun r => r.ranging == .unreachable && (s.rangeAge r).any (fun t => decide (secs 1024 ≤ t))) then
      updPeer id (fun r => { r with ranging := .unranged, attempts := 0, rangeTime := none }) s
    else s)

/-- STEERING_INSTANT: the steering interval timer expires; on a source that is not FAST the instant waits (R68). -/
def execSteeringInstant (s : State) : Host.Outcome State Fault Refusal :=
  .next (
    if s.awake && timerDue s.tau.steerTimer s.now then
      (if s.tb.source == .fast then finish (steer s) else s.setTau { s.tau with steerWaiting := true })
    else s)

end Sys2Proof.Machine
end

