-- ==== Sys2Proof/Machine/SampleCommands.lean ====
section
/-! DEFINITION. The commands of the Sample Interface and the Trigger Detector (chapters 5 and 6). -/
namespace Sys2Proof.Machine

/-- One rising edge of DIG_CLK (R77, R78): in OFF the port is not taken (R88); a framed bit begins a new set; an unframed one joins
the set in progress, and is taken into no set where none is; the 80th bit completes the set, and what follows on it is done then. -/
def takeBit (s : State) (e : PortEdge) : State :=
  if s.si.grid == .off then s
  else if e.frm then startSet e.bit s
  else if s.si.inSet then
    let s := addBit e.bit s
    if s.si.bitCount == 80 then finish (takeSet s) else s
  else s

/-- A run of edges, one after the other, at the station time of the command (R77; log entry 43). -/
def takeBits (edges : List PortEdge) (s : State) : State := edges.foldl takeBit s

/-- SAMPLE_SET_COMPLETE: a run of edges up to the 80th bit of a set (R77, R82). -/
def execSampleSetComplete (edges : List PortEdge) (s : State) : Host.Outcome State Fault Refusal := .next (takeBits edges s)

/-- PARTIAL_SET: a run of edges, and the framed one that ends a set in progress as partial and begins the new set (R78). -/
def execPartialSet (taken : List PortEdge) (first : Bool) (s : State) : Host.Outcome State Fault Refusal :=
  .next (takeBit (takeBits taken s) { bit := first, frm := true })

/-- DIG_SYNC_FALL: 1024 ticks of elapsed count after the boundary (R80). -/
def execDigSyncFall (s : State) : Host.Outcome State Fault Refusal :=
  .next (
    if s.si.digSync.any (fun t => decide (1024 ≤ since s.now t)) then s.setSi { s.si with digSync := none } else s)

/-- MISSING_SAMPLE: station time has passed the expected slot's window (R85). -/
def execMissingSample (s : State) : Host.Outcome State Fault Refusal := .next (closeOneWindow s)

/-- HOLD_TIMER_EXPIRY (R102). -/
def execHoldTimerExpiry (s : State) : Host.Outcome State Fault Refusal :=
  .next (if s.td.state == .hold && timerDue s.td.holdTimer s.now then finish (tdHoldExpiry s) else s)

/-- OVERLONG_EXPIRY (R104). -/
def execOverlongExpiry (s : State) : Host.Outcome State Fault Refusal :=
  .next (if s.td.state == .on && timerDue s.td.overTimer s.now then tdOverlong s else s)

/-- TRIM_DECAY_EXPIRY: the trim falls by 4, and the timer restarts (R109). -/
def execTrimDecayExpiry (s : State) : Host.Outcome State Fault Refusal :=
  .next (
    if timerDue s.td.trimTimer s.now then trimTimerStart (s.setTd { s.td with trim := s.td.trim - 4 }) else s)

end Sys2Proof.Machine
end

