-- ==== Sys2Proof/Machine/EventCommands.lean ====
section
/-! DEFINITION. The commands of the Coincidence Unit (chapter 7). -/
namespace Sys2Proof.Machine

/-- ENTRY_RETENTION_EXPIRY: unbound entries whose onset is older than retention are removed (R120). -/
def execEntryRetentionExpiry (s : State) : Host.Outcome State Fault Refusal := .next (finish (retentionSweep s))

/-- The first HOLDOFF record in table order whose holdoff expiry is reached (R127). -/
def State.holdoffDue (s : State) : Option EventRec :=
  s.cu.events.find? (fun r => r.state == .holdoff && timerDue r.holdoff s.now)

/-- HOLDOFF_EXPIRY (R128). -/
def execHoldoffExpiry (s : State) : Host.Outcome State Fault Refusal :=
  .next (
    match s.holdoffDue with
    | some r => finish (holdoffExpire r.rid s)
    | none => s)

/-- EVENT_CLOSE_TEST: the test at the close-pending time and at every elapsed second after it (R136). -/
def execEventCloseTest (s : State) : Host.Outcome State Fault Refusal := .next (finish (closeTest (fun _ => true) s))

/-- A live record whose age has reached the maximum life (R137). -/
def State.lifeOver (s : State) (r : EventRec) : Bool := r.state.live && secs s.cs.image.maxLife ≤ since s.now r.opened

/-- MAXIMUM_LIFE_EXPIRY (R137). -/
def execMaximumLifeExpiry (s : State) : Host.Outcome State Fault Refusal := .next (finish (closeWhere s.lifeOver s))

/-- RECORD_LINGER_END (R124). -/
def execRecordLingerEnd (s : State) : Host.Outcome State Fault Refusal := .next (finish (lingerSweep s))

end Sys2Proof.Machine
end

