-- ==== Sys2Proof/Machine/UplinkCommands.lean ====
section
/-! DEFINITION. The commands of the Uplink Controller (chapter 8). -/
namespace Sys2Proof.Machine

/-- HEALTH_TIMER_EXPIRY: a HEALTH alert is raised, and the timer starts again (R142). -/
def execHealthTimerExpiry (s : State) : Host.Outcome State Fault Refusal :=
  .next (if timerDue s.uc.healthTimer s.now then finish (ucHealth s) else s)

/-- RETRY_WAIT_END: the first alert in queue order whose retry wait has run becomes READY (R152). -/
def execRetryWaitEnd (s : State) : Host.Outcome State Fault Refusal :=
  .next (
    match s.uc.queue.find? (fun a => a.turn == .retry && timerDue a.retryWait s.now) with
    | some a => finish (putAlert a { a with turn := .ready, retryWait := none } s)
    | none => s)

/-- MODEM_WARM_UP_EXPIRY (R147). -/
def execModemWarmUpExpiry (s : State) : Host.Outcome State Fault Refusal :=
  .next (if s.uc.modem == .warmUp && timerDue s.uc.modemTimer s.now then finish (modemNext s) else s)

/-- POWER_CYCLE_END: 2 s without power are over; UP_PWR rises and the warm-up starts (R147). -/
def execPowerCycleEnd (s : State) : Host.Outcome State Fault Refusal :=
  .next (
    if s.uc.modem == .powerCycle && timerDue s.uc.modemTimer s.now then
      setModem .warmUp (s.startTimer (secs s.cs.image.modemWarmUp)) s
    else s)

/-- POWER_DOWN_DELAY_EXPIRY: the queue has been empty for 30 s in IDLE, and UP_PWR drops (R147). -/
def execPowerDownDelayExpiry (s : State) : Host.Outcome State Fault Refusal :=
  .next (
    if s.uc.modem == .idle && s.uc.queue.isEmpty && timerDue s.uc.modemTimer s.now then setModem .off none s else s)

/-- UP_RDY_RISE: in READY-WAIT the head's transfer starts (R147). -/
def execUpRdyRise (s : State) : Host.Outcome State Fault Refusal :=
  let s := s.setPins { s.pins with upRdy := true }
  .next (if s.uc.modem == .readyWait then finish (ucStart s) else s)

/-- The first busy timeout power-cycles the modem (R148). -/
def powerCycle (s : State) : State :=
  bump .powerCycles (setModem .powerCycle (s.startTimer (secs 2)) (s.setUc { s.uc with busyCount := 1 }))

/-- The second busy timeout in a row fails one attempt of the head (R148). -/
def busyFails (s : State) : State :=
  let s := s.setUc { s.uc with busyCount := 0 }
  modemNext (match s.uc.head with
    | some a => failAttempt a s
    | none => s)

/-- BUSY_LIMIT_EXPIRY (R148). -/
def execBusyLimitExpiry (s : State) : Host.Outcome State Fault Refusal :=
  .next (
    if s.uc.modem == .readyWait && timerDue s.uc.modemTimer s.now then
      let s := bump .busyTimeouts s
      finish (if s.uc.busyCount = 0 then powerCycle s else lingerSweep (busyFails s))
    else s)

/-- SEGMENT_FETCH: the next segment of the chain is composed, or the transfer is cut (R150, R151). -/
def execSegmentFetch (s : State) : Host.Outcome State Fault Refusal :=
  .next (
    match s.uc.modem, s.uc.transfer with
    | .sending, some t => if t.cut.isNone && t.fetched < t.segments then ucFetch t s else s
    | _, _ => s)

/-- MESSAGE_SUM_SENT: the last bit of the sum; the modem waits for a reply, 2 s at most (R147, R152). -/
def execMessageSumSent (s : State) : Host.Outcome State Fault Refusal :=
  .next (
    match s.uc.modem, s.uc.transfer, s.uc.inTransfer with
    | .sending, some t, some a =>
      if t.cut.isNone && t.fetched == t.segments then
        ucSync (setModem .awaiting (s.startTimer (secs 2)) (setQueue (s.uc.queue.replace a { a with turn := .awaiting }) s))
      else s
    | _, _, _ => s)

/-- CAN_SENT: the last bit of a CAN (R147, R151, R153). -/
def execCanSent (s : State) : Host.Outcome State Fault Refusal :=
  .next (
    match s.uc.modem, s.uc.transfer.bind (fun t => t.cut), s.uc.inTransfer with
    | .sending, some c, some a => finish (lingerSweep (endAwaiting (endCut c a s)))
    | _, _, _ => s)

/-- UPLINK_REPLY: ACK and NAK are taken in AWAITING, any other byte is ignored (R152). -/
def execUplinkReply (byte : Byte) (s : State) : Host.Outcome State Fault Refusal :=
  .next (
    match s.uc.modem, s.uc.transfer, s.uc.inTransfer with
    | .awaiting, some t, some a =>
      if byte = 0x06#8 then finish (lingerSweep (endAwaiting (ackAlert a t s)))
      else if byte = 0x15#8 then finish (lingerSweep (endAwaiting (nakAlert a (bump .naks s))))
      else s
    | _, _, _ => s)

/-- REPLY_LIMIT_EXPIRY (R152). -/
def execReplyLimitExpiry (s : State) : Host.Outcome State Fault Refusal :=
  .next (
    match s.uc.modem, s.uc.inTransfer with
    | .awaiting, some a =>
      if timerDue s.uc.modemTimer s.now then
        finish (lingerSweep (endAwaiting (nakAlert a (bump .replyTimeouts s))))
      else s
    | _, _ => s)

end Sys2Proof.Machine
end

