-- ==== Sys2Proof/Machine/CareCommands.lean ====
section
/-! DEFINITION. The commands of the Battery Monitor and of the Mode Controller (chapters 9 and 11). -/
namespace Sys2Proof.Machine

/-- BATTERY_POLL: the poll timer expires (R158, R159). -/
def execBatteryPoll (s : State) : Host.Outcome State Fault Refusal :=
  .next (if timerDue s.bm.pollTimer s.now then finish (makePoll s) else s)

/-- The end of the battery transaction of a poll is taken; MC evaluates the mode, and in FIRST POLL START ends (R160, R184,
R196). -/
def batteryEnds (r : TwEnd 6) (s : State) : State :=
  let s := tellMode (bmBattery r s)
  if s.mc.standing == .firstPoll then endOfStart s else s

/-- BATTERY_RESULT: the battery transaction ends; one whose result is no longer wanted is only ended (R165, R202). -/
def execBatteryResult (r : TwEnd 6) (s : State) : Host.Outcome State Fault Refusal :=
  .next (
    match s.twEnding .battery r with
    | none => s
    | some b =>
      let s := twEnd r s
      finish (entryWorkLeaves (pollLeaves (if b.wanted then batteryEnds r s else s))))

/-- TEMPERATURE_RESULT (R162). -/
def execTemperatureResult (sensor : TempSensor) (r : TwEnd 2) (s : State) : Host.Outcome State Fault Refusal :=
  .next (
    match s.twEnding (sensorUser sensor) r with
    | none => s
    | some b =>
      let s := twEnd r s
      finish (entryWorkLeaves (pollLeaves (if b.wanted then bmTemperature sensor r s else s))))

/-- BRIEF_RUN_READY: 256 slow cycles of the oscillator have run, and MC hands it to its users (R189). -/
def execBriefRunReady (s : State) : Host.Outcome State Fault Refusal :=
  .next (
    if !s.mc.users.isEmpty && s.mc.osc.any (fun n => decide (256 ≤ n)) && !s.mc.handed then
      finish (s.setMc { s.mc with handed := true })
    else s)

/-- BRIEF_RUN_BEACON_SKIP: a beacon that has not started 4 s after it joined the users is withdrawn (R189). -/
def execBriefRunBeaconSkip (s : State) : Host.Outcome State Fault Refusal :=
  .next (
    if s.mc.users.beacon.any (fun t => decide (secs 4 ≤ since s.now t)) && s.lc.slots.beacon.any (fun q => q.mark != .final) then
      let s := s.setSlots { s.lc.slots with beacon := none }
      finish (bump .skippedBeacons (s.setMc { s.mc with users := { s.mc.users with beacon := none } }))
    else s)

/-- The wake-pattern watch runs (R190). -/
def State.watches (s : State) : Bool := s.mc.standing == .asleep && s.lc.tx.isNone

/-- A wake pattern is detected: CAPTURING, run on fast, and the capture limit of 200 ms (R190); on a source that is FAST still the
receiver hunts at once (log entry 12). -/
def beginCapture (s : State) : State :=
  let s := runFast (s.setMc { s.mc with standing := .capturing, capture := s.startTimer (millis 200) })
  if s.tb.source == .fast then receiverOn s else s

/-- WAKE_PATTERN_DETECT (R190). -/
def execWakePatternDetect (s : State) : Host.Outcome State Fault Refusal :=
  .next (if s.watches then finish (beginCapture s) else s)

/-- CAPTURE_LIMIT_EXPIRY: a false wake (R190). -/
def execCaptureLimitExpiry (s : State) : Host.Outcome State Fault Refusal :=
  .next (if timerDue s.mc.capture s.now then finish (falseWake s) else s)

/-- WAKE_HOLD_EXPIRY: MC evaluates the mode (R192). -/
def execWakeHoldExpiry (s : State) : Host.Outcome State Fault Refusal :=
  .next (if timerDue s.mc.wakeHold s.now then finish (tellMode (s.setMc { s.mc with wakeHold := none })) else s)

/-- FINAL_BEACON_TIMEOUT: 10 s have passed without the start of the final beacon; it is withdrawn (R194). -/
def execFinalBeaconTimeout (s : State) : Host.Outcome State Fault Refusal :=
  .next (
    if s.mc.standing == .finalBeacon && timerDue s.mc.finalLimit s.now then
      finish (becomeSheltered (bump .finalBeaconsAbandoned (s.setSlots { s.lc.slots with beacon := none })))
    else s)

end Sys2Proof.Machine
end

