-- ==== Sys2Proof/Machine/Dispatch.lean ====
section
/-! DEFINITION. The dispatch: one arm per command. -/
namespace Sys2Proof.Machine

/-- The effect of a command on everything but the queue of waiting commands. -/
def exec (i : Instr) (s : State) : Host.Outcome State Fault Refusal :=
  match i with
  | .powerOn => Sys2Proof.Machine.execPowerOn s
  | .resetNLow => Sys2Proof.Machine.execResetNLow s
  | .resetNRise => Sys2Proof.Machine.execResetNRise s
  | .crystalWaitEnd => Sys2Proof.Machine.execCrystalWaitEnd s
  | .configLoadEnd r => Sys2Proof.Machine.execConfigLoadEnd r s
  | .nominalTick lines => Sys2Proof.Machine.execNominalTick lines s
  | .slowCycle lines => Sys2Proof.Machine.execSlowCycle lines s
  | .secondBoundary => Sys2Proof.Machine.execSecondBoundary s
  | .elapsedSecond => Sys2Proof.Machine.execElapsedSecond s
  | .fastSteady => Sys2Proof.Machine.execFastSteady s
  | .sourceBecomesSlow => Sys2Proof.Machine.execSourceBecomesSlow s
  | .calibrationPeriodExpiry => Sys2Proof.Machine.execCalibrationPeriodExpiry s
  | .calibrationWindowClose => Sys2Proof.Machine.execCalibrationWindowClose s
  | .markEdge => Sys2Proof.Machine.execMarkEdge s
  | .markLabelReadEnd r => Sys2Proof.Machine.execMarkLabelReadEnd r s
  | .markExpectationExpiry => Sys2Proof.Machine.execMarkExpectationExpiry s
  | .referenceLossExpiry => Sys2Proof.Machine.execReferenceLossExpiry s
  | .guardComplete => Sys2Proof.Machine.execGuardComplete s
  | .carrierBusy => Sys2Proof.Machine.execCarrierBusy s
  | .backoffComplete => Sys2Proof.Machine.execBackoffComplete s
  | .stampPoint => Sys2Proof.Machine.execStampPoint s
  | .transmissionEnd => Sys2Proof.Machine.execTransmissionEnd s
  | .requestStaleDrop kind => Sys2Proof.Machine.execRequestStaleDrop kind s
  | .beaconTimerExpiry => Sys2Proof.Machine.execBeaconTimerExpiry s
  | .syncWordTaken => Sys2Proof.Machine.execSyncWordTaken s
  | .headerTaken kindSender targetFlags length sequence => Sys2Proof.Machine.execHeaderTaken kindSender targetFlags length sequence s
  | .frameTruncated => Sys2Proof.Machine.execFrameTruncated s
  | .frameDiscarded rest => Sys2Proof.Machine.execFrameDiscarded rest s
  | .beaconReceived rest => Sys2Proof.Machine.execBeaconReceived rest s
  | .triggerNoticeReceived rest => Sys2Proof.Machine.execTriggerNoticeReceived rest s
  | .eventDeclarationReceived rest => Sys2Proof.Machine.execEventDeclarationReceived rest s
  | .rangeProbeReceived rest => Sys2Proof.Machine.execRangeProbeReceived rest s
  | .rangeReplyReceived rest => Sys2Proof.Machine.execRangeReplyReceived rest s
  | .serviceReportReceived rest => Sys2Proof.Machine.execServiceReportReceived rest s
  | .peerRecordExpiry id => Sys2Proof.Machine.execPeerRecordExpiry id s
  | .probeTargetChoice => Sys2Proof.Machine.execProbeTargetChoice s
  | .probeTimeout => Sys2Proof.Machine.execProbeTimeout s
  | .rangeAgeStale id => Sys2Proof.Machine.execRangeAgeStale id s
  | .unreachableHoldEnd id => Sys2Proof.Machine.execUnreachableHoldEnd id s
  | .steeringInstant => Sys2Proof.Machine.execSteeringInstant s
  | .sampleSetComplete edges => Sys2Proof.Machine.execSampleSetComplete edges s
  | .partialSet taken first => Sys2Proof.Machine.execPartialSet taken first s
  | .digSyncFall => Sys2Proof.Machine.execDigSyncFall s
  | .missingSample => Sys2Proof.Machine.execMissingSample s
  | .holdTimerExpiry => Sys2Proof.Machine.execHoldTimerExpiry s
  | .overlongExpiry => Sys2Proof.Machine.execOverlongExpiry s
  | .trimDecayExpiry => Sys2Proof.Machine.execTrimDecayExpiry s
  | .entryRetentionExpiry => Sys2Proof.Machine.execEntryRetentionExpiry s
  | .holdoffExpiry => Sys2Proof.Machine.execHoldoffExpiry s
  | .eventCloseTest => Sys2Proof.Machine.execEventCloseTest s
  | .maximumLifeExpiry => Sys2Proof.Machine.execMaximumLifeExpiry s
  | .recordLingerEnd => Sys2Proof.Machine.execRecordLingerEnd s
  | .healthTimerExpiry => Sys2Proof.Machine.execHealthTimerExpiry s
  | .retryWaitEnd => Sys2Proof.Machine.execRetryWaitEnd s
  | .modemWarmUpExpiry => Sys2Proof.Machine.execModemWarmUpExpiry s
  | .powerCycleEnd => Sys2Proof.Machine.execPowerCycleEnd s
  | .powerDownDelayExpiry => Sys2Proof.Machine.execPowerDownDelayExpiry s
  | .upRdyRise => Sys2Proof.Machine.execUpRdyRise s
  | .busyLimitExpiry => Sys2Proof.Machine.execBusyLimitExpiry s
  | .segmentFetch => Sys2Proof.Machine.execSegmentFetch s
  | .messageSumSent => Sys2Proof.Machine.execMessageSumSent s
  | .canSent => Sys2Proof.Machine.execCanSent s
  | .uplinkReply byte => Sys2Proof.Machine.execUplinkReply byte s
  | .replyLimitExpiry => Sys2Proof.Machine.execReplyLimitExpiry s
  | .batteryPoll => Sys2Proof.Machine.execBatteryPoll s
  | .batteryResult r => Sys2Proof.Machine.execBatteryResult r s
  | .temperatureResult sensor r => Sys2Proof.Machine.execTemperatureResult sensor r s
  | .briefRunReady => Sys2Proof.Machine.execBriefRunReady s
  | .briefRunBeaconSkip => Sys2Proof.Machine.execBriefRunBeaconSkip s
  | .wakePatternDetect => Sys2Proof.Machine.execWakePatternDetect s
  | .captureLimitExpiry => Sys2Proof.Machine.execCaptureLimitExpiry s
  | .wakeHoldExpiry => Sys2Proof.Machine.execWakeHoldExpiry s
  | .finalBeaconTimeout => Sys2Proof.Machine.execFinalBeaconTimeout s
  | .serviceStatus rest => Sys2Proof.Machine.execServiceStatus rest s
  | .servicePeers rest => Sys2Proof.Machine.execServicePeers rest s
  | .serviceEvents rest => Sys2Proof.Machine.execServiceEvents rest s
  | .serviceCounters rest => Sys2Proof.Machine.execServiceCounters rest s
  | .serviceRestart rest => Sys2Proof.Machine.execServiceRestart rest s
  | .serviceUnknown rest => Sys2Proof.Machine.execServiceUnknown rest s
  | .carrierDetectChange high => Sys2Proof.Machine.execCarrierDetectChange high s

end Sys2Proof.Machine
end

