-- ==== Sys2Proof/Safety.lean ====
section
/-! DEFINITION. What a sound state of the part is: the invariants of the spec that every step keeps, and the states in which no
follow-up of a command is due. -/
namespace Sys2Proof.Machine

/-! ## Nothing is due -/

/-- No event reported to the Mode Controller waits: every step ends so (log entry 11). -/
def State.Settled (s : State) : Prop := s.mc.evalDue = false ∧ s.mc.abandonDue = false

/-- The Uplink Controller's modem stands where its queue puts it (R147). -/
def State.ModemRests (s : State) : Prop :=
  (s.awake = false ∨ s.cs.image.uplink = false) ∨
  (match s.uc.modem with
   | .off => s.uc.queue = []
   | .idle => s.uc.head = none ∧ (s.uc.queue = [] ↔ s.uc.modemTimer.isSome)
   | .readyWait => s.uc.head.isSome
   | .warmUp | .powerCycle | .sending | .awaiting => True)

/-- The fast oscillator runs exactly while the source is not SLOW or a brief run holds it (R3, R189). -/
def State.OscRests (s : State) : Prop :=
  if s.tb.source ≠ .slow ∨ s.mc.users.isEmpty = false then s.mc.osc.isSome else s.mc.osc = none ∧ s.mc.handed = false

/-- No two-wire transaction can start (R201). -/
def State.BusRests (s : State) : Prop := s.twm.bus.isSome ∨ s.mc.handed = false ∨ s.twm.firstFull = none

/-- The Link Controller is IDLE with every slot empty, or waits for the medium or for its oscillator (R32). -/
def State.LinkRests (s : State) : Prop :=
  if s.lc.slots.allEmpty then s.lc.access = .idle ∧ s.lc.busy = false ∧ s.lc.attempt = 0
  else s.lc.access ≠ .idle ∨ s.canTransmit = false

/-- No follow-up of a command is due: the modem, the oscillator, the two-wire bus and the link stand as the state puts them. -/
structure State.Rested (s : State) : Prop where
  settled : s.Settled
  modem : s.ModemRests
  osc : s.OscRests
  bus : s.BusRests
  link : s.LinkRests

/-- The station is in ACTIVE with class GOOD, and nothing waits to be reported: whatever a command then reports to the Mode
Controller, the mode stays (R184). -/
structure State.Steady (s : State) : Prop where
  settled : s.Settled
  active : s.mc.standing = .active
  good : s.bm.cls = .good

/-- A complete frame is at the receiver: its header was taken, the bytes after it are `rest`, the station itself is not sending
and no capture runs (R36, R37). -/
structure State.Receives (s : State) (stamp : RxStamp) (hdr : Header) (rest : List Byte) : Prop where
  taken : s.lc.rx = .body stamp hdr
  silent : s.lc.tx = none
  whole : rest.length = hdr.length.toNat + 6
  free : s.mc.capture = none

/-- The transaction of a user is on the bus, its result wanted, the free-bus check passed, at once or behind a recovery (R201,
R202). -/
def State.onBus (s : State) (u : TwUser) : Prop :=
  s.twm.bus = some { user := u, wanted := true, check := .clear } ∨
  s.twm.bus = some { user := u, wanted := true, check := .recovered }

/-- The end r may be that of the user's transaction on the bus: bus-stuck comes only behind a recovery (R202 step 1). -/
def State.onBusFor {n : Nat} (s : State) (u : TwUser) (r : TwEnd n) : Prop :=
  s.onBus u ∧ (r = .busStuck → s.twm.bus = some { user := u, wanted := true, check := .recovered })

/-- A run of edges of DIG_CLK completes a set of these ten bytes with its last edge: the whole set, from its framed first bit on, or
the rest of one in progress (R77). -/
def State.Completes (s : State) (edges : List PortEdge) (set : Vector Byte 10) : Prop :=
  let bits := set.toList.flatMap bitsOf
  (edges.map PortEdge.frm = true :: List.replicate 79 false ∧ edges.map PortEdge.bit = bits) ∨
  (1 ≤ s.si.bitCount ∧ s.si.bitCount ≤ 79 ∧ s.si.buffer.length = s.si.bitCount ∧
    edges.map PortEdge.frm = List.replicate (80 - s.si.bitCount) false ∧ s.si.buffer ++ edges.map PortEdge.bit = bits)

/-! ## Invariants -/

/-- Every counter is at most 65,535 (00_scope.md section 5.5). -/
def State.CountersBounded (s : State) : Prop := ∀ c : Counter, s.count c ≤ 65535

/-- The ranges of the Timebase: station time (R1), the fraction accumulator (R3), the base rate (R4), the slow calibration word
(R6), the distance (R8) and the time quality (R9). -/
structure Timebase.InRange (t : Timebase) : Prop where
  time : t.time ≤ maxTime
  frac : t.frac < 4294967296
  rBaseLow : -rateLimit ≤ t.rBase
  rBaseHigh : t.rBase ≤ rateLimit
  cSlowLow : -858993 ≤ t.cSlow
  cSlowHigh : t.cSlow ≤ 858993
  distance : t.distance ≤ 15
  quality : t.quality ≤ 16777215

/-- A peer record's check-error ring: at most 16 counts, with their sum and their number beside it (R48). -/
def PeerRecord.RingSound (r : PeerRecord) : Prop :=
  r.ring.length ≤ 16 ∧ r.ringSum = r.ring.sum ∧ r.counted = r.ring.length

/-- The Peer Table: stations 1 to 14, one record each, in ascending order of id, each with a sound ring (R43, R48). -/
def State.PeersSound (s : State) : Prop :=
  (s.peers.map (fun r => r.id)).Pairwise (fun a b => a < b) ∧
  ∀ r ∈ s.peers, 1 ≤ r.id ∧ r.id ≤ 14 ∧ r.RingSound

/-- The tables of fixed size: 24 trigger-table entries, 8 event records, 8 alerts (sections 7.2, 7.3, 8.2). -/
def State.TablesBounded (s : State) : Prop :=
  s.cu.entries.length ≤ 24 ∧ s.cu.events.length ≤ 8 ∧ s.uc.queue.length ≤ 8

/-- The law of R184 on modes: outside START the mode is SHELTER whenever the class is CRITICAL; and the station is asleep in
DORMANT, captures there, or is on its way there, only while the class is LOW, the event table holds no HOLDOFF or live record and
the uplink queue is empty. -/
structure State.ModeLaw (s : State) : Prop where
  settled : s.Settled
  shelter : s.bm.cls = .critical → s.mc.standing.inStart = true ∨ s.mc.standing.inShelter = true
  asleep : s.mc.standing = .asleep ∨ s.mc.standing = .capturing ∨ s.mc.standing = .entering →
    s.bm.cls = .low ∧ s.openEvent = false ∧ s.uc.queue = []

end Sys2Proof.Machine
end

