-- ==== Sys2Proof/Certificates/Slice0/Obligations.lean ====
section
/-! DEFINITION. The statements about the FHL-740 for the provers. In each, `t` is the state after the command; a statement over
every state also holds in states that no run reaches. An expiry may be taken whenever its period has run (log entry 3); the premises
`Settled` and `Rested` speak of marks and follow-ups that are the model's own (log entry 11), and record keys, waiting boundaries and
waiting elapsed seconds are its own fields (log entry 44). -/
section
open Sys2Proof Sys2Proof.Machine

/-! ## The machine as a whole -/

/-- A step runs the command at the front of the queue on the state with the queue's rest; on an empty queue the part idles (log
entry 1, the model's own queue). -/
def Obligations.StepRunsTheFrontCommand : Prop :=
  (∀ (c : Instr) (rest : List Instr) (s : State), s.pending = c :: rest → step s = exec c (s.setPending rest)) ∧
  (∀ s : State, s.pending = [] → step s = .next s)

/-- POWER-ON (R14, R20, R42, R57, R75, R89, R111, R140, R156, R169, R183, R197, R202): the values listed here, which the spec
gives, whatever stood before. The values the spec does not give (log entry 6) are not claimed; that the waiting commands and the
levels on the input lines stand as they did is the model's own (log entries 1 and 4). -/
def Obligations.PowerOnSetsTheResetValues : Prop :=
  ∀ s : State, ∃ t, exec .powerOn s = .next t ∧
    (t.tb.time = 0 ∧ t.tb.elapsed = 0 ∧ t.tb.source = .slow ∧ t.tb.frac = 0 ∧ t.tb.rBase = 0 ∧ t.tb.rPhase = 0 ∧
      t.tb.pendingStep = none ∧ t.tb.cSlow = 0 ∧ t.tb.calTimer = none ∧ t.tb.calWindow = none ∧ t.tb.quality = 16777215 ∧
      t.tb.distance = 15 ∧ t.tb.unset = true ∧ t.tb.counting = false) ∧
    (t.rmu.state = .absent ∧ t.rmu.good = 0 ∧ t.rmu.bad = 0 ∧ t.rmu.prev = none ∧ t.rmu.openMark = none ∧ t.rmu.offsets = [] ∧
      t.rmu.expectation = none ∧ t.rmu.lossTimer = none) ∧
    (t.lc.slots = Slots.empty ∧ t.lc.tx = none ∧ t.lc.access = .idle ∧ t.lc.attempt = 0 ∧ t.lc.terminalSeq = none ∧
      t.lc.beaconTimer = none ∧ t.lc.idConflict = false) ∧
    (t.peers = [] ∧ t.tau.probe = none ∧ t.tau.rest = none ∧ t.tau.steerTimer = none ∧ t.tau.lastExchange = none ∧
      t.tau.lastInstant = none) ∧
    (t.si.grid = .off ∧ t.si.slot = none ∧ t.si.faultHeld = false ∧ t.si.digSync = none ∧ t.si.lastHanded = none) ∧
    (t.td.state = .stopped ∧ t.td.lastOnset = none ∧ t.td.peak = 0 ∧ t.td.mask = none ∧ t.td.trim = 0 ∧ t.td.trimTimer = none) ∧
    (t.cu.entries = [] ∧ t.cu.events = [] ∧ t.cu.ownEventSeq = 0 ∧ t.uc.queue = [] ∧ t.uc.stacked = [] ∧ t.uc.modem = .off) ∧
    (t.bm.v = none ∧ t.bm.i = none ∧ t.bm.temp = none ∧ t.bm.anchored = false ∧ t.bm.eRef = none ∧ t.bm.soc = 50 ∧
      t.bm.cls = .low ∧ t.bm.staleCount = 0 ∧ t.bm.staleCountA = 0 ∧ t.bm.staleCountB = 0 ∧ t.bm.stale = true ∧
      t.bm.staleA = true ∧ t.bm.staleB = true ∧ t.bm.chargeEn = false) ∧
    (∀ h : HeaterId, (t.heater h).output = false ∧ (t.heater h).level = .off ∧ (t.heater h).edge = none ∧
      (t.heater h).pos = none ∧ (t.heater h).onTime = 0) ∧
    (t.mc.standing = .crystalWait ∧ t.mc.wakeHold = none ∧ t.mc.capture = none ∧ t.mc.users = .empty ∧ t.twm.bus = none ∧
      t.twm.firstFull = none ∧ t.cs.pending = none) ∧
    (∀ c : Counter, t.count c = 0) ∧ t.pending = s.pending ∧ t.pins = s.pins

/-- The elapsed count moves only with the two ticks and at POWER-ON; station time moves only with the two ticks, at POWER-ON and
at the steering instants, which may step it, and a tick moves it forward, by 2 or by 33 ticks at most; and no command touches the
queue of waiting commands (R1, R2, R3, R5; log entry 1). -/
def Obligations.TimeMovesOnlyWithItsTicks : Prop :=
  ∀ (c : Instr) (s t : State), exec c s = .next t →
    t.pending = s.pending ∧
    ((c ≠ .powerOn ∧ (∀ l, c ≠ .nominalTick l) ∧ ∀ l, c ≠ .slowCycle l) → t.tb.elapsed = s.tb.elapsed) ∧
    ((c ≠ .powerOn ∧ c ≠ .steeringInstant ∧ c ≠ .fastSteady ∧ (∀ l, c ≠ .nominalTick l) ∧ ∀ l, c ≠ .slowCycle l) →
      t.tb.time = s.tb.time) ∧
    ((∃ l, c = .nominalTick l) → s.tb.time ≤ maxTime → s.tb.time ≤ t.tb.time ∧ t.tb.time ≤ s.tb.time + 2) ∧
    ((∃ l, c = .slowCycle l) → s.tb.time ≤ maxTime → s.tb.time ≤ t.tb.time ∧ t.tb.time ≤ s.tb.time + 33)

/-! ## Invariants -/

/-- The reset state meets every invariant below (R9, R14, R57, R140, R184; the values the model chose lie in them too, log entry
6). -/
def Obligations.InvariantsHoldAtReset : Prop :=
  State.reset.CountersBounded ∧ State.reset.tb.InRange ∧ State.reset.PeersSound ∧ State.reset.TablesBounded ∧ State.reset.ModeLaw

/-- Every counter saturates at 65,535 (00_scope.md section 5.5). -/
def Obligations.StepKeepsCountersBounded : Prop :=
  ∀ s t : State, s.CountersBounded → step s = .next t → t.CountersBounded

/-- Station time, the fraction accumulator, the base rate, the slow calibration word, the distance and the quality keep their
ranges (R1, R3, R4, R6, R8, R9). -/
def Obligations.StepKeepsTimebaseInRange : Prop :=
  ∀ s t : State, s.tb.InRange → step s = .next t → t.tb.InRange

/-- The Peer Table holds one record for each station from 1 to 14 at most, in ascending order, with sound rings (R43, R48). -/
def Obligations.StepKeepsPeersSound : Prop :=
  ∀ s t : State, s.PeersSound → step s = .next t → t.PeersSound

/-- The trigger table never holds more than 24 entries, the event table and the uplink queue never more than 8 (R114, R122,
R143). -/
def Obligations.StepKeepsTablesBounded : Prop :=
  ∀ s t : State, s.TablesBounded → step s = .next t → t.TablesBounded

/-- The law on modes of R184: outside START a class of CRITICAL means SHELTER, and the station sleeps only with the class LOW,
no open event and an empty uplink queue. That no report to the Mode Controller waits after a step is part of it and the model's
own (log entry 11). -/
def Obligations.StepKeepsModeLaw : Prop :=
  ∀ s t : State, s.ModeLaw → step s = .next t → t.ModeLaw

/-! ## The wires -/

/-- The check field (R25): 32 bits, from a seed that is not 0 for any sender from 1 on; the first 15 are the seed 256 × sender +
sequence from its bit 14 down to its bit 0; every later bit is the XOR of the two bits 15 and 14 places before it; and the error
count of a received field is the number of differing bits. -/
def Obligations.CheckFieldFollowsItsGenerator : Prop :=
  ∀ sender seq : Nat, sender ≤ 15 → seq ≤ 255 →
    (checkField sender seq).length = 32 ∧ (1 ≤ sender → BitVec.ofNat 15 (256 * sender + seq) ≠ 0) ∧
    (∀ j, j < 15 → (checkField sender seq)[j]? = some ((256 * sender + seq).testBit (14 - j))) ∧
    (∀ j, j < 17 → ∃ a b, (checkField sender seq)[j]? = some a ∧ (checkField sender seq)[j + 1]? = some b ∧
      (checkField sender seq)[j + 15]? = some (a.xor b)) ∧
    (∀ received : List Byte, received.length = 4 →
      checkErrors sender seq received =
        ((List.range 32).filter (fun j => (checkField sender seq)[j]? != (received.flatMap bitsOf)[j]?)).length)

/-- The CRC (R24): it starts at FFFFH and takes the bytes one after the other, each most significant bit first; a bit moves
every place up by one and, where it differs from the top bit, is taken into places 0, 5 and 12 (polynomial 1021H). The result
goes out behind header and body with its most significant byte first, without inversion, and a received frame passes exactly
where the two bytes behind its body are those of the CRC over its header and body. A frame that carries its own CRC after its
bytes leaves the register at 0, and a frame of which one byte was changed does not pass. -/
def Obligations.CrcClosesOnItsOwnFrame : Prop :=
  (crc16 [] = 0xFFFF#16 ∧
    (∀ (bs : List Byte) (x : Byte), crc16 (bs ++ [x]) =
      [7, 6, 5, 4, 3, 2, 1, 0].foldl (fun c i => crcBit c (x.getLsbD i)) (crc16 bs)) ∧
    (∀ (c : BitVec 16) (b : Bool) (i : Nat), i < 16 → (crcBit c b).getLsbD i =
      ((decide (0 < i) && c.getLsbD (i - 1)).xor
        (((c.getLsbD 15).xor b) && (decide (i = 0) || decide (i = 5) || decide (i = 12)))))) ∧
  ((∀ b : Byte, bitsOf b = [7, 6, 5, 4, 3, 2, 1, 0].map (fun i => b.getLsbD i)) ∧
    (∀ bs : List Byte, crcBytes bs = [(crc16 bs).extractLsb' 8 8, (crc16 bs).extractLsb' 0 8]) ∧
    (∀ (f : TxFrame) (rate : Nat), ∃ before behind : List Bool, behind.length = 32 ∧
      f.lineBits rate = before ++ (f.header ++ f.body ++ crcBytes (f.header ++ f.body)).flatMap bitsOf ++ behind) ∧
    (∀ (h : Header) (body : List Byte) (x y : Byte) (behind : List Byte), body.length = h.length.toNat →
      (RxFrame.crcGood { hdr := h, rest := body ++ [x, y] ++ behind } = true ↔
        [x, y] = crcBytes ([h.kindSender, h.targetFlags, h.length, h.sequence] ++ body)))) ∧
  (∀ bs : List Byte, crc16 (bs ++ crcBytes bs) = 0#16) ∧
  (∀ (as bs : List Byte) (x y : Byte), x ≠ y → crc16 (as ++ [x] ++ bs) ≠ crc16 (as ++ [y] ++ bs))

/-- The bodies of the seven kinds read back as written, every field at every value of its range, a declaration with every count
of participants from 1 to 14; a SERVICE REPORT's body is not read beyond its form, in which the status is OK or UNKNOWN
(section 2.10, R37, R203). Which fields the form test takes is log entry 46. The bits of a frame on LK_TXD (section 2.2, R21, R24,
R25, R26): 16 ms of the pattern 1100 where it goes out behind a wake preamble, 24 bits of 1010, the sync word B4E3H, the header, the
body and the CRC, each byte most significant bit first, and the check field of the header's sender and sequence. That they are a
function of the frame is log entry 39, the place of the sender in the first byte log entry 8. The form test (R37): a body of bytes
`y` is taken exactly where its length, its target and each of its fields stand in the ranges written here, of section 2.10; one
byte, one step or one byte of length outside any of them refuses it. -/
def Obligations.BodiesReadBack : Prop :=
  (∀ (f : TxFrame) (rate : Nat) (a b l q : Byte), f.header = [a, b, l, q] →
    (let groups := match rate with | 0 => 39 | 1 => 77 | _ => 154
     let wake : List Bool := (List.range (4 * groups)).map (fun i => decide (i % 4 < 2))
     f.lineBits rate = (if f.wake = true then wake else []) ++
       ([0xAA#8, 0xAA#8, 0xAA#8, 0xB4#8, 0xE3#8, a, b, l, q] ++ f.body ++ crcBytes (f.header ++ f.body)).flatMap bitsOf ++
       checkField (a.toNat / 16) q.toNat)) ∧
  ((∀ (target t1 : Nat), target ≠ 0 → t1 ≤ maxTime → readBody .probe target (timeBytes t1) = some (.probe t1)) ∧
   (∀ (target : Nat) (q : RequestBody), target ≠ 0 → q.code ≤ 255 → q.argument ≤ 255 →
     readBody .serviceRequest target [BitVec.ofNat 8 q.code, BitVec.ofNat 8 q.argument] = some (.request q)) ∧
   (∀ (target : Nat) (code seg status : Byte) (data : List Byte), target ≠ 0 → data.length ≤ 77 →
     readBody .serviceReport target ([code, seg, status] ++ data) = if status.toNat ≤ 1 then some .report else none)) ∧
  ((∀ b : BeaconBody, b.stamp ≤ maxTime → b.quality < 2 ^ 24 → b.distance ≤ 15 → 2 ≤ b.code → b.code ≤ 10 → b.peak ≤ 255 →
     (∀ o, b.lastOnset = some o → o ≤ maxTime) → (beaconBytes b).length = 24 ∧ readBeacon (beaconBytes b) = some b) ∧
   (∀ n : Notice, n.onset ≤ maxTime → 1 ≤ n.mask → n.mask ≤ 7 → n.peak ≤ 255 → n.duration ≤ 65535 →
     (noticeBytes n).length = 12 ∧ readNotice (noticeBytes n) = some n) ∧
   (∀ r : ReplyBody, r.t1 ≤ maxTime → r.t2 ≤ maxTime → r.t3 ≤ maxTime →
     readReply (timeBytes r.t1 ++ timeBytes r.t2 ++ timeBytes r.t3) = some r)) ∧
  (∀ d : DeclBody, 1 ≤ d.id.origin → d.id.origin ≤ 14 → d.id.seq ≤ 255 → d.update ≤ 3 → d.earliest ≤ maxTime →
     1 ≤ d.parts.length → d.parts.length ≤ 14 → (d.parts.map DeclPart.station).Nodup →
     (∀ p ∈ d.parts, 1 ≤ p.station ∧ p.station ≤ 14 ∧ p.offset ≤ 65535 ∧ p.peak ≤ 255) →
     (declBytes d).length = 11 + 4 * d.parts.length ∧ readDecl (declBytes d) = some d) ∧
  (∀ (target : Nat) (body : List Byte),
    (let y (i : Nat) : Nat := (body[i]?.map BitVec.toNat).getD 0
     let ticks (i : Nat) : Nat := 65536 * y (i + 4) + 256 * y (i + 5) + y (i + 6)
     let taken (kind : FrameKind) : Prop := (readBody kind target body).isSome
     (taken .beacon ↔ target = 0 ∧ body.length = 24 ∧ ticks 0 ≤ 1048575 ∧ y 10 ≤ 15 ∧ 1 ≤ y 11 ∧ y 11 ≤ 4 ∧ y 12 ≤ 3 ∧
       2 ≤ y 13 ∧ y 13 ≤ 10 ∧ y 14 ≤ 4 ∧ (ticks 15 ≤ 1048575 ∨ ticks 15 = 0xFFFFFF)) ∧
     (taken .notice ↔ target = 0 ∧ body.length = 12 ∧ ticks 0 ≤ 1048575 ∧ y 7 ≤ 1 ∧ 1 ≤ y 8 ∧ y 8 ≤ 7) ∧
     (taken .declaration ↔ target = 0 ∧ body.length = 11 + 4 * y 10 ∧ 1 ≤ y 0 ∧ y 0 ≤ 14 ∧ y 2 ≤ 3 ∧ ticks 3 ≤ 1048575 ∧
       1 ≤ y 10 ∧ y 10 ≤ 14 ∧ (∀ i, i < y 10 → 1 ≤ y (11 + 4 * i) ∧ y (11 + 4 * i) ≤ 14) ∧
       (∀ i j, i < j → j < y 10 → y (11 + 4 * i) ≠ y (11 + 4 * j))) ∧
     (taken .probe ↔ target ≠ 0 ∧ body.length = 7 ∧ ticks 0 ≤ 1048575) ∧
     (taken .reply ↔ target ≠ 0 ∧ body.length = 21 ∧ ticks 0 ≤ 1048575 ∧ ticks 7 ≤ 1048575 ∧ ticks 14 ≤ 1048575) ∧
     (taken .serviceRequest ↔ target ≠ 0 ∧ body.length = 2) ∧
     (taken .serviceReport ↔ target ≠ 0 ∧ 3 ≤ body.length ∧ body.length ≤ 80 ∧ y 2 ≤ 1)))

/-- The image of any block (R200): each field lies in the range of the table, a dependent one in the range its own clamped
neighbour gives it; a field whose bytes lie in its range is taken as they stand, one below or above it takes the nearest legal
value (`rows`: the value taken, the block's own, the lowest and the highest legal one); the fields that every value suits are
taken as they stand; and the clamped flag is set exactly where some field was outside its range. -/
def Obligations.ImageOfAnyBlockIsLegal : Prop :=
  ∀ (b : List Byte) (i : Image), i = (imageOf b).1 →
    (i.linkCode ≤ 2 ∧ i.sampleCode ≤ 2 ∧ i.uplinkCode ≤ 2 ∧ 2 ≤ i.b ∧ i.b ≤ 6 ∧ 4 ≤ i.k ∧ i.k ≤ 8 ∧ 14 ≤ i.p ∧ i.p ≤ 20) ∧
    (i.eGood ≤ i.ePoor ∧ i.ePoor ≤ 255 ∧ i.latency ≤ 262143 ∧ i.bSync ≤ 1023 ∧ 1 ≤ i.mask ∧ i.mask ≤ 7 ∧ 1 ≤ i.vote ∧ i.vote ≤ 3) ∧
    (6 ≤ i.h ∧ i.h ≤ 14 ∧ 1 ≤ i.aS ∧ i.aS ≤ 6 ∧ 5 ≤ i.aL ∧ i.aS + 3 ≤ i.aL ∧ i.aL ≤ 12 ∧ i.floor ≤ 65535) ∧
    (24 ≤ i.rOn ∧ i.rOn ≤ 255 ∧ 16 ≤ i.rOff ∧ i.rOff < i.rOn ∧ 16 ≤ i.rQuiet ∧ i.rQuiet ≤ i.rOn ∧ i.hold ≤ 30 ∧
      10 ≤ i.tMax ∧ i.tMax ≤ 600) ∧
    (1 ≤ i.wc ∧ i.wc ≤ 60 ∧ 2 ≤ i.quorum ∧ i.quorum ≤ 14 ∧ 1 ≤ i.mWatch ∧ i.mWatch ≤ 13 ∧ 100 ≤ i.holdoffSlot ∧
      i.holdoffSlot ≤ 1000 ∧ 5 ≤ i.closeDelay ∧ i.closeDelay ≤ 120 ∧ 60 ≤ i.maxLife ∧ i.maxLife ≤ 1800) ∧
    (5 ≤ i.modemWarmUp ∧ i.modemWarmUp ≤ 120 ∧ 1 ≤ i.healthHours ∧ i.healthHours ≤ 24 ∧ 1 ≤ i.capacity ∧ i.capacity ≤ 1000) ∧
    (3000 ≤ i.vFull ∧ i.vFull ≤ 60000 ∧ 2000 ≤ i.vEmpty ∧ i.vEmpty < i.vFull ∧ 1000 ≤ i.vCutoff ∧ i.vCutoff < i.vEmpty ∧
      i.iTaper ≤ 5000) ∧
    (-300 ≤ i.tCmin ∧ i.tCmin ≤ 300 ∧ i.tCmin + 20 ≤ i.tCmax ∧ i.tCmax ≤ 600 ∧ -300 ≤ i.batterySet ∧ i.batterySet ≤ 300 ∧
      -300 ≤ i.chargeSet ∧ i.chargeSet ≤ 300 ∧ -300 ≤ i.sensorSet ∧ i.sensorSet ≤ 300) ∧
    (i.deferB ≤ 60 ∧ i.deferS ≤ 60 ∧ i.blanking ≤ 255 ∧ 60 ≤ i.wakeHold ∧ i.wakeHold ≤ 900 ∧
      8 ≤ i.batteryAddr ∧ i.batteryAddr ≤ 119 ∧ 8 ≤ i.sensorAAddr ∧ i.sensorAAddr ≤ 119 ∧ 8 ≤ i.sensorBAddr ∧
      i.sensorBAddr ≤ 119 ∧ 8 ≤ i.receiverAddr ∧ i.receiverAddr ≤ 119) ∧
    (i.ind0 ≤ 15 ∧ i.ind1 ≤ 15 ∧ i.ind2 ≤ 15 ∧ i.ind3 ≤ 15) ∧
    (let row (v x lo hi : Int) : Int × Int × Int × Int := (v, x, lo, hi)
     let rows : List (Int × Int × Int × Int) :=
       [row i.linkCode (num b 1 1 / 4 % 4) 0 2, row i.sampleCode (num b 1 1 / 16 % 4) 0 2,
        row i.uplinkCode (num b 1 1 / 64 % 4) 0 2, row i.b (num b 2 1 % 16) 2 6, row i.k (num b 2 1 / 16) 4 8,
        row i.p (num b 3 1) 14 20, row i.eGood (num b 4 1) 0 255, row i.ePoor (num b 5 1) i.eGood 255,
        row i.latency (num b 6 3) 0 262143, row i.bSync (num b 9 2) 0 1023, row i.mask (num b 11 1 % 16) 1 7,
        row i.vote (num b 11 1 / 16) 1 3, row i.h (num b 12 1 % 16) 6 14, row i.aS (num b 12 1 / 16) 1 6,
        row i.aL (num b 13 1) (max 5 (i.aS + 3)) 12, row i.rOn (num b 16 1) 24 255, row i.rOff (num b 17 1) 16 (i.rOn - 1),
        row i.rQuiet (num b 18 1) 16 i.rOn, row i.hold (num b 19 1) 0 30, row i.tMax (num b 20 2) 10 600,
        row i.wc (num b 22 1) 1 60, row i.quorum (num b 23 1 % 16) 2 14, row i.mWatch (num b 23 1 / 16) 1 13,
        row i.holdoffSlot (num b 24 2) 100 1000, row i.closeDelay (num b 26 1) 5 120, row i.maxLife (num b 27 2) 60 1800,
        row i.modemWarmUp (num b 29 1) 5 120, row i.healthHours (num b 30 1) 1 24, row i.capacity (num b 31 2) 1 1000,
        row i.vFull (num b 33 2) 3000 60000, row i.vEmpty (num b 35 2) 2000 (i.vFull - 1),
        row i.vCutoff (num b 37 2) 1000 (i.vEmpty - 1), row i.iTaper (num b 39 2) 0 5000,
        row i.tCmin (fromBeInt (field b 41 2)) (-300) 300, row i.tCmax (fromBeInt (field b 43 2)) (i.tCmin + 20) 600,
        row i.batterySet (fromBeInt (field b 45 2)) (-300) 300, row i.chargeSet (fromBeInt (field b 47 2)) (-300) 300,
        row i.sensorSet (fromBeInt (field b 49 2)) (-300) 300, row i.deferB (num b 51 1) 0 60, row i.deferS (num b 52 1) 0 60,
        row i.wakeHold (num b 54 2) 60 900, row i.batteryAddr (num b 56 1) 8 119, row i.sensorAAddr (num b 57 1) 8 119,
        row i.sensorBAddr (num b 58 1) 8 119, row i.receiverAddr (num b 59 1) 8 119]
     (∀ r ∈ rows,
       (r.2.1 < r.2.2.1 → r.1 = r.2.2.1) ∧ (r.2.2.2 < r.2.1 → r.1 = r.2.2.2) ∧
       (r.2.2.1 ≤ r.2.1 ∧ r.2.1 ≤ r.2.2.2 → r.1 = r.2.1)) ∧
     ((imageOf b).2 = true ↔ ∃ r ∈ rows, r.2.1 < r.2.2.1 ∨ r.2.2.2 < r.2.1)) ∧
    (i.receiver = decide (num b 1 1 % 2 = 1) ∧ i.uplink = decide (num b 1 1 / 2 % 2 = 1) ∧ i.floor = num b 14 2 ∧
      i.blanking = num b 53 1 ∧ i.ind0 = num b 60 1 % 16 ∧ i.ind1 = num b 60 1 / 16 ∧ i.ind2 = num b 61 1 % 16 ∧
      i.ind3 = num b 61 1 / 16)

/-! ## Resets and START -/

/-- RESET_N held low (R205): the part is held in RESTART, with every output low; the Timebase's counts, R_base, C_slow, the
quality and the unset flag, the battery's readings and count, the trimmed sequence numbers and every counter but that of a
discarded window are kept; tables, slots, queues and timers are those of RESTART (R14, R20, R42, R57, R111, R140, R156, R169).
The model's own: what goes on while held (log entry 15), the waiting commands and the input lines as they stood (1, 4), the moment
of the last poll absent (29), the old image in force until the next load (42), the mark of a steering kept (45), a calibration window
that waits for its boundary dropped (68). -/
def Obligations.ResetNLowHoldsTheRestartValues : Prop :=
  ∀ s : State, ∃ t, exec .resetNLow s = .next t ∧ t.mc.held = true ∧
    t.outputs = { lkTxen := false, digSync := false, upPwr := false, htrB := false, htrS := false, chargeEn := false,
                  ind := [false, false, false, false] } ∧
    t.mc.standing = (if s.mc.standing = .crystalWait then .crystalWait else .loading) ∧
    t.tb = { s.tb with
      rPhase := 0, pendingStep := none, calTimer := none, calOpening := false, calWindow := none, slowAsked := false
      distance := if s.tb.distance = 0 then 1 else s.tb.distance } ∧
    t.rmu = Rmu.reset ∧ t.peers = [] ∧ t.lc.slots = Slots.empty ∧ t.lc.tx = none ∧ t.lc.rx = .off ∧ t.lc.ownSeq = s.lc.ownSeq ∧
    t.lc.idConflict = s.lc.idConflict ∧ t.lc.terminalSeq = none ∧ t.lc.beaconTimer = none ∧
    t.tau.probe = none ∧ t.tau.steerTimer = none ∧ t.tau.lastInstant = s.tau.lastInstant ∧
    t.si.grid = .off ∧ t.si.faultHeld = s.si.faultHeld ∧ t.td.state = .stopped ∧ t.td.trim = 0 ∧ t.td.lastOnset = none ∧
    t.cu = { s.cu with entries := [], events := [] } ∧ t.uc = Uplink.reset ∧
    t.bm = { s.bm with chargeEn := false, pollTimer := none, lastPoll := none } ∧
    (∀ h : HeaterId, (t.heater h).onTime = (s.heater h).onTime ∧ (t.heater h).level = .off ∧ (t.heater h).pos = none) ∧
    t.cs = { s.cs with pending := none } ∧ (∀ c : Counter, c ≠ .calibrationDiscards → t.count c = s.count c) ∧
    t.pins = s.pins ∧ t.pending = s.pending

/-- The rise of RESET_N and the end of the crystal wait (R196, R198, R199, R205): LOADING samples the straps and asks for the
fast source; with the source on its way it waits, and on a source that is FAST the load is requested at once; a rise in the crystal
wait goes on waiting; while RESET_N holds the part the end of the wait only starts the Timebase; and a rise with nothing held
changes nothing. What goes on while held is log entry 15, that the old image stays in force through LOADING log entry 42. -/
def Obligations.StartGoesOnToLoading : Prop :=
  (∀ s : State, s.mc.held = true → s.mc.standing = .loading → s.tb.source = .slow →
    ∃ t, exec .resetNRise s = .next t ∧ t.mc.held = false ∧ t.mc.standing = .loading ∧
      t.cs = { s.cs with stationId := s.pins.straps.toNat } ∧
      t.tb = { s.tb with source := .warming, warmUp := 0 } ∧ t.mc.osc.isSome ∧
      t.rmu = s.rmu ∧ t.peers = s.peers ∧ t.cu = s.cu ∧ t.bm = s.bm ∧ t.hc = s.hc ∧ t.td = s.td ∧ t.si = s.si) ∧
  (∀ s : State, s.mc.held = true → s.mc.standing = .loading → s.tb.source ≠ .slow →
    ∃ t, exec .resetNRise s = .next t ∧ t.mc.held = false ∧ t.mc.standing = .loading ∧
      t.cs = { s.cs with stationId := s.pins.straps.toNat } ∧ t.tb = s.tb ∧ (s.tb.source = .fast → t.twm.busyFor .loader) ∧
      t.rmu = s.rmu ∧ t.peers = s.peers ∧ t.cu = s.cu ∧ t.bm = s.bm ∧ t.hc = s.hc ∧ t.td = s.td ∧ t.si = s.si) ∧
  (∀ s : State, s.mc.held = true → s.mc.standing = .crystalWait →
    ∃ t, exec .resetNRise s = .next t ∧ t.mc.held = false ∧ t.mc.standing = .crystalWait ∧ t.cs = s.cs ∧ t.tb = s.tb ∧
      t.rmu = s.rmu ∧ t.peers = s.peers ∧ t.cu = s.cu ∧ t.bm = s.bm ∧ t.hc = s.hc ∧ t.td = s.td ∧ t.si = s.si) ∧
  (∀ s : State, s.mc.held = false → exec .resetNRise s = .next s) ∧
  (∀ s : State, s.mc.standing = .crystalWait → s.mc.crystal = 16384 → s.mc.held = false → s.tb.source = .slow →
    ∃ t, exec .crystalWaitEnd s = .next t ∧ t.mc.standing = .loading ∧
      t.cs = { s.cs with stationId := s.pins.straps.toNat } ∧
      t.tb = { s.tb with counting := true, source := .warming, warmUp := 0 } ∧
      t.rmu = s.rmu ∧ t.peers = s.peers ∧ t.cu = s.cu ∧ t.bm = s.bm ∧ t.hc = s.hc ∧ t.td = s.td ∧ t.si = s.si) ∧
  (∀ s : State, s.mc.standing = .crystalWait → s.mc.crystal = 16384 → s.mc.held = true →
    ∃ t, exec .crystalWaitEnd s = .next t ∧ t.mc.standing = .loading ∧ t.mc.held = true ∧ t.cs = s.cs ∧
      t.tb = { s.tb with counting := true })

/-- The end of the load (R199, R200, R196, R24): a block passes exactly where its byte 0 is A7H and its last two bytes are the CRC
of the 62 before them; one that passes is taken clamped, any other end sets every default and is
counted; either way the first poll is made. The end of that poll's battery transaction, good or not, ends START (R196): the mode
is that of the class then held, LOW giving ECONOMY while the Peer Table is empty; the random source is seeded from the id and the
elapsed count, after POWER-ON its first draw gives the own sequence number, and the next the first beacon delay (R27, R28, R35; the
order of the two draws is log entry 17); the poll timer, the trim timer, the HEALTH timer, the steering timer and the calibration
period start, HEALTH is raised, the detector settles, the grid is UNALIGNED and unframed and the receiver hunts; with the class
CRITICAL the entry to SHELTER is taken with it, stated on a busy medium, and the beacon timer does not start (R194). From the end of
the load until the next reset each indicator line shows the signal that its selection in the image names, and before it is low
(R206; that the levels are read off the state is log entry 39). -/
def Obligations.ConfigLoadTakesTheBlockOrTheDefaults : Prop :=
  (∀ s : State,
    (let pins := s.outputs
     let shown : Prop := s.mc.held = false ∧ s.mc.standing ≠ .crystalWait ∧ s.mc.standing ≠ .loading
     let signal (code : Nat) : Prop := match code with
       | 1 => s.td.state = .on ∨ s.td.state = .hold
       | 2 => ∃ r ∈ s.cu.events, r.state = .declared ∨ r.state = .adopted
       | 3 => s.rmu.state = .locked
       | 4 => s.tb.quality ≤ 1048
       | 5 => s.bm.cls = .low ∨ s.bm.cls = .critical
       | 6 => pins.htrB = true
       | 7 => pins.htrS = true
       | 8 => pins.chargeEn = true
       | 9 => pins.upPwr = true
       | 10 => pins.lkTxen = true
       | 11 => s.pins.lkCd = true
       | 12 => s.mc.standing.mode = some .dormant
       | 13 => s.cs.defaulted = true
       | 14 => s.lc.idConflict = true
       | 15 => s.si.grid = .fault ∨ (s.si.grid = .unaligned ∧ s.si.faultHeld = true)
       | _ => False
     let shows (level : Bool) (code : Nat) : Prop := level = true ↔ shown ∧ signal code
     ∃ a b c d, pins.ind = [a, b, c, d] ∧ shows a s.cs.image.ind0 ∧ shows b s.cs.image.ind1 ∧ shows c s.cs.image.ind2 ∧
       shows d s.cs.image.ind3)) ∧
  (∀ b : List Byte, b.length = 64 → (blockGood b = true ↔ b.take 1 = [0xA7#8] ∧ b.drop 62 = crcBytes (b.take 62))) ∧
  (∀ (s : State) (v : Vector Byte 64), s.onBus .loader → s.mc.standing = .loading → blockGood v.toList = true →
    ∃ t, exec (.configLoadEnd (.complete v)) s = .next t ∧
      t.cs = { s.cs with image := (imageOf v.toList).1, defaulted := false, clamped := (imageOf v.toList).2 } ∧
      t.count .loadDefaults = s.count .loadDefaults ∧ t.mc.standing = .firstPoll ∧ t.bm.lastPoll = some s.now ∧
      t.twm.busyFor .battery ∧ t.twm.busyFor .tempA ∧ t.twm.busyFor .tempB ∧ t.tb = s.tb ∧ t.peers = s.peers ∧ t.cu = s.cu) ∧
  (∀ (s : State) (r : TwEnd 64), s.onBusFor .loader r → s.mc.standing = .loading →
    (∀ v, r = .complete v → blockGood v.toList = false) →
    ∃ t, exec (.configLoadEnd r) s = .next t ∧
      t.cs = { s.cs with image := Image.default, defaulted := true, clamped := false } ∧
      t.count .loadDefaults = min (s.count .loadDefaults + 1) 65535 ∧ t.mc.standing = .firstPoll ∧
      t.bm.lastPoll = some s.now ∧ t.twm.busyFor .battery ∧ t.twm.busyFor .tempA ∧ t.twm.busyFor .tempB ∧ t.tb = s.tb) ∧
  (∀ (s : State) (r : TwEnd 6), s.Settled → s.onBusFor .battery r → s.mc.standing = .firstPoll →
    (let c := (bmBattery r s).bm.cls
     let seed := BitVec.ofNat 16 (s.cs.stationId * 4096) ^^^ BitVec.ofNat 16 s.now.toNat
     let g := if seed = 0 then 1 else seed
     let g1 := if s.lc.seqDrawn then g else randomDraw g
     let g2 := randomDraw g1
     let health : Option Timer :=
       if s.cs.image.uplink then some { start := s.now, period := secs (3600 * s.cs.image.healthHours) } else none
     (c ≠ .critical → (c = .low → s.peers = [] ∧ 1 ≤ s.cs.image.mWatch) → s.lc.slots.allEmpty = true →
       ∃ t, exec (.batteryResult r) s = .next t ∧ t.bm.cls = c ∧ t.mc.standing = (if c = .good then .active else .watching) ∧
         t.mc.wakeHold = s.mc.wakeHold ∧ t.lc.ownSeq = (if s.lc.seqDrawn then s.lc.ownSeq else g1.toNat % 256) ∧
         t.lc.seqDrawn = true ∧ (s.listenOnly = true → t.lc.random = g1) ∧
         (s.listenOnly = false → t.lc.random = g2 ∧
           t.lc.beaconTimer = some { start := s.now, period := secs (1 + g2.toNat % 2 ^ s.cs.image.b) }) ∧
         (s.lc.rx = .off → t.lc.rx = .hunting) ∧
         t.bm.pollTimer = some { start := s.now, period := secs (if c = .good then 10 else 30) } ∧
         t.td.state = .settling ∧ t.td.trimTimer = some { start := s.now, period := secs 3600 } ∧
         t.si = { s.si with grid := .unaligned, slot := none, bitCount := 0, buffer := [] } ∧
         t.tau.steerTimer = some { start := s.now, period := secs (2 ^ s.cs.image.k) } ∧
         (s.rmu.sleeping = false → t.rmu = s.rmu) ∧ t.uc.healthTimer = health ∧
         (s.cs.image.uplink = true → s.uc.modem = .off → s.uc.queue = [] → s.uc.stacked = [] →
           (c = .low → t.uc.queue = [] ∧ t.count .healthDrops = min (s.count .healthDrops + 1) 65535) ∧
           (c ≠ .low → t.uc.modem = .warmUp ∧ t.uc.queue =
             [{ kind := .health, rid := none, id := none, update := 0, enqueued := s.now, attempts := 0, turn := .ready
                retryWait := none, withdrawn := false }])) ∧
         (s.tb.source = .fast → t.tb.calTimer = some { start := s.now, period := secs 64 }) ∧
         t.tb.time = s.tb.time ∧ t.tb.elapsed = s.tb.elapsed ∧ t.tb.source = s.tb.source) ∧
     (c = .critical → s.listenOnly = false → s.pins.lkCd = true →
       (∀ m, s.bm.lastPoll = some m → since s.now m < secs 600) → s.lc.slots.report = none →
       ∃ t, exec (.batteryResult r) s = .next t ∧ t.bm.cls = .critical ∧ t.mc.standing = .finalBeacon ∧
         t.lc.slots.beacon = some { moment := s.now, mark := .final } ∧ t.lc.beaconTimer = none ∧
         t.lc.ownSeq = (if s.lc.seqDrawn then s.lc.ownSeq else g1.toNat % 256) ∧ t.lc.random = g1 ∧
         t.mc.finalLimit = some { start := s.now, period := secs 10 } ∧
         t.count .shelterEntries = min (s.count .shelterEntries + 1) 65535 ∧
         t.bm.pollTimer = some { start := s.now, period := secs 600 } ∧ t.td.state = .stopped ∧
         t.td.trimTimer = some { start := s.now, period := secs 3600 } ∧ t.si.grid = .off ∧ t.rmu.sleeping = true ∧
         t.hc.b.output = false ∧ t.hc.s.output = false ∧ t.uc.modem = .off ∧ t.uc.healthTimer = health ∧
         (s.cs.image.uplink = true → t.count .healthDrops = min (s.count .healthDrops + 1) 65535) ∧
         t.tb.time = s.tb.time ∧ t.tb.elapsed = s.tb.elapsed ∧ t.tb.source = s.tb.source)))

/-! ## Station time (chapter 1) -/

/-- A nominal tick in FAST (R1, R2, R3, R4, R6, R181): the applied rate word, the drive of a pending step or the clamped sum of
base and phase rate, is added to the fraction; a carry gives two ticks, a borrow none, and station time is held at its end; the
elapsed count takes one, and where it reaches a multiple of 2^20 an elapsed second has passed; an open calibration window that
is not yet full counts the ticks of station time; a heater that is on adds the tick to its on-time. The lists of reported
boundaries and seconds are the model's own (log entry 44), and so is that a tick brings the levels of the lines without a row
of their own (log entry 4). -/
def Obligations.NominalTickCarriesTheFraction : Prop :=
  ∀ (s : State) (l : Lines), s.tb.counting = true → s.tb.source = .fast → s.tb.frac < 2 ^ 32 → s.tb.time ≤ maxTime →
    ∃ t, exec (.nominalTick l) s = .next t ∧ t.tb.elapsed = s.tb.elapsed + 1 ∧
      (let rate : Int := match s.tb.pendingStep with
         | some .plus => 214748
         | some .minus => -214748
         | none => max (-214748) (min 214748 (s.tb.rBase + s.tb.rPhase))
       let f : Int := s.tb.frac + rate
       (2 ^ 32 ≤ f → t.tb.time = min (s.tb.time + 2) maxTime ∧ (t.tb.frac : Int) = f - 2 ^ 32) ∧
       (f < 0 → t.tb.time = s.tb.time ∧ (t.tb.frac : Int) = f + 2 ^ 32) ∧
       (0 ≤ f ∧ f < 2 ^ 32 → t.tb.time = min (s.tb.time + 1) maxTime ∧ (t.tb.frac : Int) = f)) ∧
      t.tb.boundaries = s.tb.boundaries ++ (if secPart t.tb.time = secPart s.tb.time then [] else [secPart t.tb.time]) ∧
      t.tb.elapsedSeconds = s.tb.elapsedSeconds + (if s.tb.elapsed.toNat % 1048576 = 1048575 then 1 else 0) ∧
      t.tb.calWindow = s.tb.calWindow.map (fun w =>
        { w with m := if w.cycles < 32768 then w.m + (t.tb.time - s.tb.time) else w.m }) ∧
      t.tb = { s.tb with
        time := t.tb.time, frac := t.tb.frac, elapsed := t.tb.elapsed, boundaries := t.tb.boundaries
        calWindow := t.tb.calWindow, elapsedSeconds := t.tb.elapsedSeconds } ∧
      (∀ h : HeaterId, t.heater h = (let x := s.heater h
        if x.output then { x with onTime := min 65535 (x.onTime + (x.onFrac + 1) / 1048576), onFrac := (x.onFrac + 1) % 1048576 }
        else x)) ∧
      t.pins.straps = l.straps ∧ t.pins.chgAvl = l.chgAvl ∧ t.rmu = s.rmu ∧ t.lc = s.lc ∧ t.peers = s.peers ∧
      t.tau = s.tau ∧ t.si = s.si ∧ t.td = s.td ∧ t.cu = s.cu ∧ t.uc = s.uc ∧ t.bm = s.bm ∧ t.mc = s.mc ∧ t.cs = s.cs

/-- A slow cycle in SLOW or WARMING (R5, R1, R2, R3, R181): 32 × C_slow is taken off the fraction, a carry gives 33 ticks, a
borrow 31, and station time is held at its end; the elapsed count takes 32; in WARMING the cycle is counted to 256. In FAST it
moves no time. Its boundary opens a calibration window where the period has expired, which a pending step discards at once, and
an open window counts its cycles to 32,768 (R6, R7). Before the Timebase has begun to count, a slow cycle moves no time and no count
of it, and in CRYSTAL WAIT it is counted to 16,384 (R2, R196). The lists of reported boundaries and seconds, and that the cycle brings
the lines' levels, are the model's own (log entries 44 and 4). -/
def Obligations.SlowCycleCarriesTheFraction : Prop :=
  (∀ (s : State) (l : Lines), s.tb.counting = true → s.tb.source ≠ .fast → s.tb.time ≤ maxTime →
    ∃ t, exec (.slowCycle l) s = .next t ∧ t.tb.elapsed = s.tb.elapsed + 32 ∧
      (let f : Int := s.tb.frac - 32 * s.tb.cSlow
       (2 ^ 32 ≤ f → t.tb.time = min (s.tb.time + 33) maxTime ∧ (t.tb.frac : Int) = f - 2 ^ 32) ∧
       (-(2 ^ 32) ≤ f ∧ f < 0 → t.tb.time = min (s.tb.time + 31) maxTime ∧ (t.tb.frac : Int) = f + 2 ^ 32) ∧
       (0 ≤ f ∧ f < 2 ^ 32 → t.tb.time = min (s.tb.time + 32) maxTime ∧ (t.tb.frac : Int) = f)) ∧
      t.tb.boundaries = s.tb.boundaries ++ (if secPart t.tb.time = secPart s.tb.time then [] else [secPart t.tb.time]) ∧
      t.tb.elapsedSeconds = s.tb.elapsedSeconds + (if s.tb.elapsed.toNat % 1048576 + 32 < 1048576 then 0 else 1) ∧
      t.tb.warmUp = (if s.tb.source = .warming then min 256 (s.tb.warmUp + 1) else s.tb.warmUp) ∧
      (s.tb.calOpening = false → t.tb.calOpening = false ∧ t.tb.calWindow = s.tb.calWindow.map (fun w =>
        { cycles := min 32768 (w.cycles + 1), m := if w.cycles < 32768 then w.m + (t.tb.time - s.tb.time) else w.m })) ∧
      t.tb.source = s.tb.source ∧ t.tb.rBase = s.tb.rBase ∧ t.tb.rPhase = s.tb.rPhase ∧ t.tb.pendingStep = s.tb.pendingStep ∧
      t.tb.cSlow = s.tb.cSlow ∧ t.tb.quality = s.tb.quality ∧ t.tb.distance = s.tb.distance ∧
      (∀ h : HeaterId, t.heater h = (let x := s.heater h
        if x.output then { x with onTime := min 65535 (x.onTime + (x.onFrac + 32) / 1048576), onFrac := (x.onFrac + 32) % 1048576 }
        else x)) ∧
      t.rmu = s.rmu ∧ t.lc = s.lc ∧ t.peers = s.peers ∧ t.tau = s.tau ∧ t.si = s.si ∧ t.td = s.td ∧
      t.cu = s.cu ∧ t.uc = s.uc ∧ t.bm = s.bm ∧ t.cs = s.cs) ∧
  (∀ (s : State) (l : Lines), s.tb.source = .fast →
    ∃ t, exec (.slowCycle l) s = .next t ∧
      (s.tb.calOpening = false → t.tb = { s.tb with
        calWindow := s.tb.calWindow.map (fun w => { w with cycles := min 32768 (w.cycles + 1) }) }) ∧
      (s.tb.calOpening = true → s.tb.pendingStep = none →
        t.tb = { s.tb with calOpening := false, calWindow := some { cycles := 0, m := 0 } }) ∧
      (s.tb.calOpening = true → s.tb.pendingStep.isSome →
        t.tb = { s.tb with
          calOpening := false, calWindow := none
          calTimer := if s.mc.standing.awake then some { start := s.now, period := secs 64 } else none } ∧
        t.count .calibrationDiscards = min (s.count .calibrationDiscards + 1) 65535) ∧
      t.mc.osc = s.mc.osc.map (fun n => min 256 (n + 1)) ∧ t.mc.standing = s.mc.standing ∧ t.hc = s.hc ∧ t.rmu = s.rmu ∧
      t.lc = s.lc ∧ t.peers = s.peers ∧ t.tau = s.tau ∧ t.si = s.si ∧ t.td = s.td ∧ t.cu = s.cu ∧ t.uc = s.uc ∧ t.bm = s.bm ∧
      t.cs = s.cs) ∧
  (∀ (s : State) (l : Lines), s.tb.counting = false →
    ∃ t, exec (.slowCycle l) s = .next t ∧
      t.mc.crystal = (if s.mc.standing = .crystalWait then min 16384 (s.mc.crystal + 1) else s.mc.crystal) ∧
      t.mc.standing = s.mc.standing ∧ t.mc.held = s.mc.held ∧ t.mc.osc = s.mc.osc.map (fun n => min 256 (n + 1)) ∧
      t.tb.counting = false ∧ t.tb.time = s.tb.time ∧ t.tb.elapsed = s.tb.elapsed ∧ t.tb.frac = s.tb.frac ∧
      t.tb.source = s.tb.source ∧ t.tb.warmUp = s.tb.warmUp ∧ t.tb.boundaries = s.tb.boundaries ∧
      t.tb.elapsedSeconds = s.tb.elapsedSeconds ∧ (s.tb.calOpening = false → s.tb.calWindow = none → t.tb = s.tb) ∧
      t.pins.straps = l.straps ∧ t.hc = s.hc ∧ t.rmu = s.rmu ∧ t.lc = s.lc ∧ t.peers = s.peers ∧ t.tau = s.tau ∧ t.si = s.si ∧
      t.td = s.td ∧ t.cu = s.cu ∧ t.uc = s.uc ∧ t.bm = s.bm ∧ t.cs = s.cs)

/-- A second boundary (R80, R81, R174, R172): DIG_SYNC rises; in UNALIGNED the pulse arms the grid at sample 0 of the second,
in FAULT where the fault is held; a second that is a multiple of 12 starts both heaters' frames at the level of R172, another
moves their position on. DIG_SYNC drops 1024 ticks of elapsed count after its rise, not before. The demand of R172 over the
deficit of R171, with a stale temperature 1/4 for HTR_B and OFF for HTR_S, the caps of R173 (`none` is START) and the lower of
two levels by their on-slots. The first pulse after a step asks a running detector for blanking of B_sync samples on every
channel that runs (R86, R97); with no heater edge about, no other pulse asks for any. The list of boundaries is the model's own
(log entry 44). -/
def Obligations.SecondBoundaryArmsTheGridAndTheFrames : Prop :=
  (∀ (s : State) (sec : Nat) (rest : List Nat), s.Rested → s.mc.standing.inStart = false → s.tb.boundaries = sec :: rest →
     ∃ t, exec .secondBoundary s = .next t ∧ t.tb = { s.tb with boundaries := rest } ∧
       t.si = (if s.si.grid = .unaligned then
           { s.si with
             digSync := some s.now, grid := if s.si.faultHeld then .fault else .tracking
             slot := some { sec := sec, index := 0 }, faultRun := 0, goodRun := 0, realign := false }
         else { s.si with digSync := some s.now, realign := false }) ∧
       (s.td.state = .stopped → t.td = s.td) ∧
       (s.td.state ≠ .stopped → s.si.realign = true → (s.td.z.state ≠ .stopped → s.cs.image.bSync ≤ t.td.z.blank) ∧
         (s.td.n.state ≠ .stopped → s.cs.image.bSync ≤ t.td.n.blank) ∧ (s.td.e.state ≠ .stopped → s.cs.image.bSync ≤ t.td.e.blank)) ∧
       (s.td.state ≠ .stopped → sec % 12 ≠ 0 → (∀ h : HeaterId, (s.heater h).output = false ∧ (s.heater h).edge = none) →
         (let asked (c : Channel) : Channel :=
            if s.si.realign = true ∧ c.state ≠ .stopped then { c with blank := max c.blank s.cs.image.bSync } else c
          t.td = { s.td with z := asked s.td.z, n := asked s.td.n, e := asked s.td.e })) ∧
       (sec % 12 = 0 → ∀ h : HeaterId, (t.heater h).pos = some 0 ∧
         (t.heater h).level = (s.demand h).lower ((classCap h s.bm.cls).lower (modeCap h s.mc.standing.mode))) ∧
       (sec % 12 ≠ 0 → ∀ h : HeaterId, (t.heater h).pos = (s.heater h).pos.map (· + 1) ∧ (t.heater h).level = (s.heater h).level) ∧
       t.rmu = s.rmu ∧ t.lc = s.lc ∧ t.peers = s.peers ∧ t.tau = s.tau ∧ t.cu = s.cu ∧ t.uc = s.uc ∧ t.bm = s.bm ∧ t.mc = s.mc ∧
       t.twm = s.twm ∧ t.cs = s.cs ∧ t.pins = s.pins) ∧
  (∀ (s : State) (m : Elapsed), s.si.digSync = some m →
     (1024 ≤ since s.now m → ∃ t, exec .digSyncFall s = .next t ∧ t.outputs.digSync = false ∧ t = s.setSi { s.si with digSync := none }) ∧
     (since s.now m < 1024 → s.outputs.digSync = true ∧ exec .digSyncFall s = .next s)) ∧
  (∀ (s : State) (h : HeaterId),
    (let setpoint : Int := match h with
       | .b => if s.pins.chgAvl then s.cs.image.chargeSet else s.cs.image.batterySet
       | .s => s.cs.image.sensorSet
     let (reading, stale) := match h with | .b => (s.bm.temp, s.bm.stale) | .s => (s.bm.tempA, s.bm.staleA)
     let is (b x : Level) : Prop := s.demand h = match h with | .b => b | .s => x
     (stale = true → is .quarter .off) ∧
     (stale = false → ∀ temperature, reading = some temperature →
       (let deficit := setpoint - temperature
        (deficit ≤ 0 → is .off .off) ∧ (1 ≤ deficit → deficit ≤ 5 → is .quarter .quarter) ∧
        (6 ≤ deficit → deficit ≤ 10 → is .quarter .third) ∧ (11 ≤ deficit → deficit ≤ 20 → is .quarter .half) ∧
        (21 ≤ deficit → deficit ≤ 50 → is .third .full) ∧ (51 ≤ deficit → deficit ≤ 100 → is .half .full) ∧
        (101 ≤ deficit → is .full .full))))) ∧
  (([BatClass.good, .lean, .low, .critical].map (fun c => (classCap .b c, classCap .s c)) =
      [(.full, .full), (.half, .quarter), (.quarter, .off), (.off, .off)]) ∧
    ([some OpMode.active, some .economy, some .dormant, some .shelter, none].map (fun m => (modeCap .b m, modeCap .s m)) =
      [(.full, .full), (.full, .full), (.quarter, .off), (.off, .off), (.off, .off)]) ∧
    ([Level.off, .quarter, .third, .half, .full].map Level.onSlots = [0, 3, 4, 6, 12]) ∧
    ∀ a b : Level, (a.lower b).onSlots = min a.onSlots b.onSlots)

/-- The heaters at a slot boundary outside START (R172, R174, R175, R176, R177, R179; the demand and the caps are those that
`Obligations.SecondBoundaryArmsTheGridAndTheFrames` states), each heater by its own record `x`, defer limit and
counters. At a frame start the level is chosen anew: an edge it calls for falls due, a pending OFF the new level does not want is
merged, a pending ON is cancelled, any other pending edge is examined. Inside the frame an ON pending at the OFF point is cancelled,
a heater that is on there falls due to go OFF, and a pending edge is examined. An edge falls due: taken with hot false or a limit of
0, else it waits. A pending edge, its deferral one higher, is taken with hot false or at the limit, which is counted. -/
def Obligations.FrameStartTakesOrDefersTheEdge : Prop :=
  ∀ (s : State) (sec : Nat) (rest : List Nat) (h : HeaterId), s.Rested → s.mc.standing.inStart = false →
    s.tb.boundaries = sec :: rest →
    ∃ t, exec .secondBoundary s = .next t ∧
      (let x := s.heater h
       let y := t.heater h
       let limit := match h with | .b => s.cs.image.deferB | .s => s.cs.image.deferS
       let d := min 60 (x.deferral + 1)
       let rises (k : HeaterCount) : Prop := t.count (heaterCounter h k) = min (s.count (heaterCounter h k) + 1) 65535
       let stands (k : HeaterCount) : Prop := t.count (heaterCounter h k) = s.count (heaterCounter h k)
       let taken (e : Edge) : Prop := y.output = decide (e = .on) ∧ y.edge = none ∧ rises .taken ∧ (e = .off → y.carried = none) ∧
         (s.td.state ≠ .stopped →
           (s.td.z.state ≠ .stopped → s.cs.image.blanking ≤ t.td.z.blank) ∧
           (s.td.n.state ≠ .stopped → s.cs.image.blanking ≤ t.td.n.blank) ∧
           (s.td.e.state ≠ .stopped → s.cs.image.blanking ≤ t.td.e.blank))
       let waits (e : Edge) (n : Nat) : Prop := y.output = x.output ∧ y.edge = some e ∧ y.deferral = n ∧ stands .taken
       let due (e : Edge) (n : Nat) : Prop :=
         (s.hot = false ∨ limit = 0 → taken e ∧ stands .deferred) ∧ (s.hot = true → limit ≠ 0 → waits e n ∧ rises .deferred)
       let examined (e : Edge) : Prop := (s.hot = false → taken e ∧ stands .limit) ∧
         (s.hot = true → limit ≤ d → taken e ∧ rises .limit) ∧ (s.hot = true → d < limit → waits e d ∧ stands .limit)
       let cancelled : Prop := y.output = x.output ∧ y.edge = none ∧ rises .cancelled ∧ stands .taken
       let atOff : Prop := (x.level = .quarter ∧ x.pos = some 2) ∨ (x.level = .third ∧ x.pos = some 3) ∨
         (x.level = .half ∧ x.pos = some 5)
       (sec % 12 = 0 → y.pos = some 0 ∧
         y.level = (s.demand h).lower ((classCap h s.bm.cls).lower (modeCap h s.mc.standing.mode)) ∧
         (x.edge = none → x.output = false → y.level ≠ .off → due .on 0) ∧
         (x.edge = none → x.output = true → y.level = .off → due .off (x.carried.getD 0)) ∧
         (x.edge = none → (x.output = true ↔ y.level ≠ .off) → y.output = x.output ∧ y.edge = none ∧ stands .taken) ∧
         (x.edge = some .off → y.level ≠ .off → y.output = x.output ∧ y.edge = none ∧ y.carried = some d ∧ rises .merged ∧
           stands .taken) ∧
         (x.edge = some .off → y.level = .off → examined .off) ∧
         (x.edge = some .on → y.level ≠ .off → examined .on) ∧
         (x.edge = some .on → y.level = .off → cancelled)) ∧
       (sec % 12 ≠ 0 → y.pos = x.pos.map (· + 1) ∧ y.level = x.level ∧
         (atOff → x.edge = none → x.output = true → due .off (x.carried.getD 0)) ∧
         (atOff → x.edge = some .on → cancelled) ∧
         (∀ e, x.edge = some e → ¬ (atOff ∧ e = .on) → examined e) ∧
         (x.edge = none → ¬ (atOff ∧ x.output = true) → y.output = x.output ∧ y.edge = none ∧ stands .taken)))

/-- An elapsed second (R9): the quality grows by 1 awake, by 0 where a steering has just set it, by 16 otherwise, and is held.
The two marks it reads are the model's own (log entries 44, 45). -/
def Obligations.ElapsedSecondGrowsTheQuality : Prop :=
  ∀ s : State, 0 < s.tb.elapsedSeconds →
    exec .elapsedSecond s = .next (s.setTb { s.tb with
      elapsedSeconds := s.tb.elapsedSeconds - 1, steered := false
      quality := min 16777215 (s.tb.quality +
        (if s.mc.standing.mode = some .active ∨ s.mc.standing.mode = some .economy then (if s.tb.steered then 0 else 1) else 16)) })

/-- Fast steady (R3, R191, R195, R196, R190): the source becomes FAST; a waking station without a capture and a rising one enter
ECONOMY, WATCHING with the wake hold running, in LOADING the block is requested, in CAPTURING the receiver hunts. That a calibration
window waiting for its boundary is dropped is log entry 68. -/
def Obligations.FastSteadyCompletesWhatWaited : Prop :=
  ∀ s : State, s.Settled → s.tb.source = .warming → s.tb.warmUp = 256 → s.tb.slowAsked = false →
    ∃ t, exec .fastSteady s = .next t ∧
      (s.cs.pending = none → s.bm.cls = .lean ∨ s.bm.cls = .low →
        (s.mc.standing = .waking ∧ s.mc.capture = none) ∨ s.mc.standing = .rising →
        t.tb.source = .fast ∧ t.mc.standing = .watching ∧ t.mc.wakeHold = some { start := s.now, period := secs s.cs.image.wakeHold } ∧
        t.td.state = .settling ∧ t.si.grid = .unaligned ∧ t.rmu.sleeping = false ∧
        (s.mc.standing = .rising → t.count .shelterExits = min (s.count .shelterExits + 1) 65535)) ∧
      (s.mc.standing = .loading → s.mc.held = false →
        t.tb = { s.tb with source := .fast, calTimer := none, calOpening := false } ∧ t.mc.standing = .loading ∧ t.twm.busyFor .loader) ∧
      (s.mc.standing = .capturing → s.lc.rx = .off →
        t.tb = { s.tb with source := .fast, calTimer := none, calOpening := false } ∧ t.mc.standing = .capturing ∧ t.lc.rx = .hunting)

/-- Calibration (R6, R7, R3, R189): the expired period opens a window at the next boundary; after 32,768 slow cycles C_slow
takes a quarter of the gap to (1,048,576 − m) × 4096, held at its limits, and the period starts again where it runs; where the
source of a sleeping or sheltered station becomes SLOW an open window is discarded and counted, the period stops, and the
oscillator stops where no brief run holds it. A station that has come to want the fast source meanwhile requests it again: WARMING
from its first cycle, the oscillator running on (log entry 12). That a window waiting for its boundary is dropped with them is log
entry 68. -/
def Obligations.CalibrationFiltersTheWindow : Prop :=
  (∀ s : State, s.Settled → s.tb.slowAsked = true → (s.mc.standing = .asleep ∨ s.mc.standing = .sheltered) →
     ∃ t, exec .sourceBecomesSlow s = .next t ∧
       t.tb = { s.tb with
         source := .slow, slowAsked := false, warmUp := 0, calTimer := none, calOpening := false, calWindow := none } ∧
       (s.mc.users.isEmpty = true → t.mc.osc = none ∧ t.mc.handed = false) ∧
       (s.tb.calWindow.isSome → t.count .calibrationDiscards = min (s.count .calibrationDiscards + 1) 65535) ∧
       t.mc.standing = s.mc.standing ∧ t.rmu = s.rmu ∧ t.peers = s.peers ∧ t.tau = s.tau ∧ t.si = s.si ∧ t.td = s.td ∧ t.cu.entries = s.cu.entries ∧
       t.bm = s.bm ∧ t.hc = s.hc ∧ t.cs = s.cs) ∧
  (∀ s : State, s.Settled → s.tb.slowAsked = true →
     s.mc.standing = .waking ∨ s.mc.standing = .capturing ∨ s.mc.standing = .watching ∨ s.mc.standing = .active ∨
       s.mc.standing = .rising ∨ s.mc.standing = .loading →
     ∃ t, exec .sourceBecomesSlow s = .next t ∧
       t.tb = { s.tb with
         source := .warming, slowAsked := false, warmUp := 0, calTimer := none, calOpening := false, calWindow := none } ∧
       t.mc.osc.isSome ∧ (s.mc.osc.isSome → t.mc.osc = s.mc.osc) ∧
       (s.tb.calWindow.isSome → t.count .calibrationDiscards = min (s.count .calibrationDiscards + 1) 65535) ∧
       t.mc.standing = s.mc.standing ∧ t.rmu = s.rmu ∧ t.peers = s.peers ∧ t.bm = s.bm ∧ t.hc = s.hc ∧ t.cs = s.cs) ∧
  (∀ s : State, timerDue s.tb.calTimer s.now = true →
    exec .calibrationPeriodExpiry s = .next (s.setTb { s.tb with calTimer := none, calOpening := true })) ∧
  (∀ (s : State) (w : CalWindow), s.tb.calWindow = some w → w.cycles = 32768 →
    ∃ c : Int, (let x := s.tb.cSlow + ((1048576 - (w.m : Int)) * 4096 - s.tb.cSlow) / 4
        (x < -858993 → c = -858993) ∧ (858993 < x → c = 858993) ∧ (-858993 ≤ x ∧ x ≤ 858993 → c = x)) ∧
      exec .calibrationWindowClose s = .next (s.setTb { s.tb with
        cSlow := c, calWindow := none, calOpening := false
        calTimer := if s.mc.standing.awake ∧ s.tb.source = .fast then some { start := s.now, period := secs 64 } else none }))

/-- A MARK edge (R15, R17, R18). On the fast source it is stamped, arms the expectation and requests the label. One that comes while
a mark is still open ends that mark as MISSING, whose read goes to no one, the new read running after it where it is on the bus.
On another source the edge is not stamped and takes MISSING at once, an open mark having taken its own. A MISSING verdict is counted;
in ACQUIRING and HOLDOVER it makes G 0; in LOCKED it is the first or second of B, or the third, which unlocks; in ABSENT it
changes nothing. Without a receiver, outside ACTIVE and ECONOMY, and asleep, the edge is ignored. A mark that did not come is
MISSING and the expectation is armed one second on; the third in a row in LOCKED gives HOLDOVER; the loss timer gives ABSENT. -/
def Obligations.MarkEdgesAndTimersMoveTheReference : Prop :=
  (∀ s : State, s.Rested →
    (let started : Option Timer := some { start := s.now, period := secs 60 }
     let unlocked : Timebase := { s.tb with distance := if s.tb.distance = 0 then 1 else s.tb.distance }
     let takes : Prop := s.cs.image.receiver = true ∧ s.awake = true ∧ s.rmu.sleeping = false
     let rest (t : State) : Prop := t.lc = s.lc ∧ t.peers = s.peers ∧ t.tau = s.tau ∧ t.si = s.si ∧ t.td = s.td ∧ t.cu = s.cu ∧
       t.uc = s.uc ∧ t.bm = s.bm ∧ t.hc = s.hc ∧ t.mc = s.mc ∧ t.cs = s.cs ∧ t.pins = s.pins
     let missed (n : Nat) (t : State) : Prop := t.count .missingMarks = min (s.count .missingMarks + n) 65535 ∧
       (s.rmu.state = .absent → t.rmu.state = .absent ∧ t.tb = s.tb) ∧
       ((s.rmu.state = .acquiring ∨ s.rmu.state = .holdover) → t.rmu.state = s.rmu.state ∧ t.rmu.good = 0 ∧ t.tb = s.tb) ∧
       (s.rmu.state = .locked → s.rmu.bad + n ≤ 2 →
         t.rmu.state = .locked ∧ t.rmu.bad = s.rmu.bad + n ∧ t.rmu.offsets = s.rmu.offsets ∧ t.tb = s.tb) ∧
       (s.rmu.state = .locked → s.rmu.bad ≤ 2 → 3 ≤ s.rmu.bad + n →
         t.rmu.state = .holdover ∧ t.rmu.offsets = [] ∧ t.rmu.good = 0 ∧ t.rmu.lossTimer = started ∧ t.tb = unlocked)
     (takes → s.tb.source = .fast → s.rmu.openMark = none →
       ∃ t, exec .markEdge s = .next t ∧
         t.rmu = { s.rmu with
           openMark := some { stamp := s.tb.time, edge := s.now }
           expectation := some { due := s.now + 1049576, live := true } } ∧ t.twm.busyFor .label ∧ t.tb = s.tb ∧ rest t) ∧
     (∀ m, takes → s.tb.source = .fast → s.rmu.openMark = some m →
       ∃ t, exec .markEdge s = .next t ∧ t.rmu.openMark = some { stamp := s.tb.time, edge := s.now } ∧
         t.rmu.expectation = some { due := s.now + 1049576, live := true } ∧ t.rmu.prev = s.rmu.prev ∧ missed 1 t ∧
         t.twm.busyFor .label ∧
         (∀ x, s.twm.bus = some x → t.twm.label = some { wanted := true } ∧
           t.twm.bus = some (if x.user = .label then { x with wanted := false } else x)) ∧ rest t) ∧
     (takes → s.tb.source ≠ .fast → s.rmu.openMark = none →
       (s.rmu.state = .absent → exec .markEdge s = .next (bump .missingMarks s)) ∧
       ((s.rmu.state = .acquiring ∨ s.rmu.state = .holdover) →
         exec .markEdge s = .next (bump .missingMarks (s.setRmu { s.rmu with good := 0 }))) ∧
       (s.rmu.state = .locked → s.rmu.bad ≤ 1 →
         exec .markEdge s = .next (bump .missingMarks (s.setRmu { s.rmu with bad := s.rmu.bad + 1 }))) ∧
       (s.rmu.state = .locked → s.rmu.bad = 2 →
         exec .markEdge s = .next (bump .missingMarks ((s.setRmu { s.rmu with
           state := .holdover, good := 0, bad := 3, offsets := [], lossTimer := started
           expectation := s.rmu.expectation.map (fun e => { e with live := false }) }).setTb unlocked)))) ∧
     (∀ m, takes → s.tb.source ≠ .fast → s.rmu.openMark = some m →
       ∃ t, exec .markEdge s = .next t ∧ t.rmu.openMark = none ∧ t.rmu.prev = s.rmu.prev ∧ missed 2 t ∧
         t.twm.busyFor .label = false ∧ rest t) ∧
     (¬ takes → exec .markEdge s = .next s))) ∧
  ((∀ (s : State) (e : Expectation), s.rmu.expectation = some e → e.live = true → s.rmu.sleeping = false → reached s.now e.due = true →
     ((s.rmu.state = .acquiring ∨ s.rmu.state = .holdover) →
       exec .markExpectationExpiry s = .next (bump .missingMarks (s.setRmu { s.rmu with
         good := 0, expectation := some { due := e.due + 1048576, live := true } }))) ∧
     (s.rmu.state = .locked → s.rmu.bad = 2 →
       exec .markExpectationExpiry s = .next (bump .missingMarks ((s.setRmu { s.rmu with
         state := .holdover, good := 0, bad := 3, offsets := [], lossTimer := some { start := s.now, period := secs 60 }
         expectation := some { due := e.due + 1048576, live := true } }).setTb
           { s.tb with distance := if s.tb.distance = 0 then 1 else s.tb.distance })))) ∧
   (∀ s : State, timerDue s.rmu.lossTimer s.now = true → (s.rmu.state = .acquiring ∨ s.rmu.state = .holdover) →
     exec .referenceLossExpiry s = .next (s.setRmu { s.rmu with
       state := .absent, prev := none, expectation := none, lossTimer := none })))

/-- The end of an open mark's label read (R15, R16, R18, R8). A read that completes within 500 ms of the edge makes the mark
the previous one, whatever its verdict. It is GOOD with the valid flag set, the label one above the previous label and the
stamp 1,047,576 to 1,049,576 ticks on; FIRST with the flag set and no previous mark; BAD otherwise: by its label, by its
interval, by a clear flag. GOOD in ACQUIRING and HOLDOVER counts G and locks at 4, with its offset and distance 0; in LOCKED
the offset is kept, three at most; in ABSENT it acquires, as FIRST does. FIRST ends a run of good or of bad marks. BAD is
counted: it ends the good run, and the third in LOCKED unlocks. A read that fails, or completes later, is MISSING: counted, it
moves the state as BAD does and leaves the previous mark. That the label's first byte is its most significant one is log entry 71. -/
def Obligations.LabelReadJudgesTheMark : Prop :=
  ∀ (s : State) (m : OpenMark), s.Settled → s.rmu.openMark = some m →
    (let started : Option Timer := some { start := s.now, period := secs 60 }
     let acquiring (t : State) : Prop := t.rmu.state = .acquiring ∧ t.rmu.good = 0 ∧ t.rmu.lossTimer = started ∧ t.tb = s.tb
     let stays (t : State) : Prop := t.rmu.state = s.rmu.state ∧ t.rmu.lossTimer = s.rmu.lossTimer ∧ t.tb = s.tb
     let adverse (t : State) : Prop :=
       (s.rmu.state = .absent → stays t) ∧
       ((s.rmu.state = .acquiring ∨ s.rmu.state = .holdover) → stays t ∧ t.rmu.good = 0) ∧
       (s.rmu.state = .locked → s.rmu.bad ≤ 1 → stays t ∧ t.rmu.bad = s.rmu.bad + 1 ∧ t.rmu.offsets = s.rmu.offsets) ∧
       (s.rmu.state = .locked → s.rmu.bad = 2 → t.rmu.state = .holdover ∧ t.rmu.offsets = [] ∧ t.rmu.good = 0 ∧
         t.rmu.lossTimer = started ∧ t.tb = { s.tb with distance := if s.tb.distance = 0 then 1 else s.tb.distance })
     (∀ v : Vector Byte 5, s.onBus .label → since s.now m.edge ≤ 524288 →
       ∃ t, exec (.markLabelReadEnd (.complete v)) s = .next t ∧ t.rmu.openMark = none ∧
         (let label : Nat := num v.toList 0 4
          let valid : Bool := num v.toList 4 1 % 2 = 1
          let good : Prop := valid = true ∧ ∃ p, s.rmu.prev = some p ∧
            label = p.label + 1 ∧ 1047576 ≤ m.stamp - p.stamp ∧ m.stamp - p.stamp ≤ 1049576
          let first : Prop := valid = true ∧ s.rmu.prev = none
          let o : Int := (label : Int) * 1048576 - m.stamp
          t.rmu.prev = some { stamp := m.stamp, label := label, valid := valid } ∧
          t.count .missingMarks = s.count .missingMarks ∧
          (good →
            t.count .badMarks = s.count .badMarks ∧
            (s.rmu.state = .absent → acquiring t) ∧
            ((s.rmu.state = .acquiring ∨ s.rmu.state = .holdover) → s.rmu.good = 3 →
              t.rmu.state = .locked ∧ t.rmu.offsets = [o] ∧ t.rmu.bad = 0 ∧ t.rmu.lossTimer = none ∧
              t.tb = { s.tb with distance := 0 }) ∧
            ((s.rmu.state = .acquiring ∨ s.rmu.state = .holdover) → s.rmu.good < 3 →
              t.rmu.state = s.rmu.state ∧ t.rmu.good = s.rmu.good + 1 ∧ t.rmu.lossTimer = started ∧ t.tb = s.tb) ∧
            (s.rmu.state = .locked → s.rmu.offsets.length ≤ 3 → stays t ∧ t.rmu.bad = 0 ∧
              t.rmu.offsets = (if s.rmu.offsets.length = 3 then s.rmu.offsets.tail else s.rmu.offsets) ++ [o])) ∧
          (first →
            t.count .badMarks = s.count .badMarks ∧
            (s.rmu.state = .absent → acquiring t) ∧
            ((s.rmu.state = .acquiring ∨ s.rmu.state = .holdover) → stays t ∧ t.rmu.good = 0) ∧
            (s.rmu.state = .locked → stays t ∧ t.rmu.bad = 0 ∧ t.rmu.offsets = s.rmu.offsets)) ∧
          (¬ good → ¬ first → t.count .badMarks = min (s.count .badMarks + 1) 65535 ∧ adverse t))) ∧
     (∀ r : TwEnd 5, s.onBusFor .label r → ((∃ v, r = .complete v) → 524288 < since s.now m.edge) →
       ∃ t, exec (.markLabelReadEnd r) s = .next t ∧ t.rmu.openMark = none ∧ t.rmu.prev = s.rmu.prev ∧
         t.count .missingMarks = min (s.count .missingMarks + 1) 65535 ∧ t.count .badMarks = s.count .badMarks ∧ adverse t))

/-! ## The array link (chapter 2) -/

/-- Backoff (R33): each time the medium is found busy a count below 2^n, n = min(a + 1, 5), is drawn, a rises to 4 at most and
the deferral is counted; a rise of LK_CD in the wait makes the medium busy again; after the quiet time and the count the
transmission starts, not before. The draw's direction of shift is log entry 9; the mark busy between the rise and the draw, which
is a command of its own, is log entry 16. -/
def Obligations.BackoffDrawsAndCounts : Prop :=
  (∀ s : State, s.lc.busy = true → s.lc.access ≠ .idle →
    ∃ r, r < 2 ^ min (s.lc.attempt + 1) 5 ∧ r = (randomDraw s.lc.random).toNat % 2 ^ min (s.lc.attempt + 1) 5 ∧
      exec .carrierBusy s = .next (bump .busyDeferrals (s.setLc { s.lc with
        random := randomDraw s.lc.random, access := .backoff r, attempt := min 4 (s.lc.attempt + 1), busy := false }))) ∧
  (∀ s : State, s.pins.lkCd = false → s.lc.tx = none → s.lc.access ≠ .idle →
    exec (.carrierDetectChange true) s =
      .next ((s.setPins { s.pins with lkCd := true }).setLc { s.lc with busy := true })) ∧
  (∀ s : State, s.pins.lkCd = true →
    exec (.carrierDetectChange false) s =
      .next ((s.setPins { s.pins with lkCd := false }).setLc { s.lc with quietSince := s.now })) ∧
  (∀ (s : State) (n : Nat), s.Settled → s.lc.access = .backoff n → s.lc.busy = false → s.canTransmit = true → s.pins.lkCd = false →
    (32 + 64 * n) * 1048576 ≤ since s.now s.lc.quietSince * linkRate s.cs.image.linkCode →
    ((s.lc.slots.declaration.isSome ∧ s.owing.isSome) ∨ s.lc.slots.notice.isSome ∨ s.lc.slots.reply.isSome ∨
      s.lc.slots.probe.isSome ∨ s.lc.slots.beacon.isSome ∨ s.lc.slots.report.isSome) →
    ∃ t, exec .backoffComplete s = .next t ∧ t.lc.tx.isSome ∧ t.lc.access = .idle ∧ t.lc.attempt = 0 ∧ t.lc.busy = false) ∧
  (∀ (s : State) (n : Nat), s.lc.access = .backoff n →
    (s.pins.lkCd = true ∨ since s.now s.lc.quietSince * linkRate s.cs.image.linkCode < (32 + 64 * n) * 1048576) →
    exec .backoffComplete s = .next s)

/-- The arbiter (R30, R27, R23, R26, R31, R193): after 32 bit periods of quiet in GUARD the filled slot of highest priority is
sent and emptied, a declaration slot without an owing record being passed over. Its frame carries the kind and the own id, the
target and the flags wake, muster, defaulted and id-conflict-seen, the body's length and the own sequence number, which rises
by one modulo 256. The wake preamble stands before a declaration, an ONSET notice and a muster beacon while a peer is DORMANT.
The first-named field of a header byte lies in its low half by log entry 8; that quiet time is counted from elapsed 0 at first
is log entry 16. -/
def Obligations.GuardEndsInTheHighestPriority : Prop :=
  ∀ s : State, s.Settled → s.lc.access = .guard → s.lc.busy = false → s.canTransmit = true → s.pins.lkCd = false →
    32 * 1048576 ≤ since s.now s.lc.quietSince * linkRate s.cs.image.linkCode →
    ∃ t, exec .guardComplete s = .next t ∧
      (let asleep : Bool := s.peers.any (fun r => r.mode == some .dormant)
       let awake : Nat := 1 + s.peers.countP (fun r => r.mode == some .active || r.mode == some .economy)
       let sent (f : TxFrame) (owner : TxOwner) (kind target : Nat) (wake muster : Bool) (body : List Byte) : Prop :=
         t.lc.tx = some f ∧ f.owner = owner ∧ f.wake = wake ∧ f.body = body ∧ f.stamp = none ∧
         f.header = [BitVec.ofNat 8 (kind + 16 * s.ownId),
           BitVec.ofNat 8 (target + (if wake then 16 else 0) + (if muster then 32 else 0) + (if s.cs.defaulted then 64 else 0) +
             (if s.lc.idConflict then 128 else 0)),
           BitVec.ofNat 8 body.length, BitVec.ofNat 8 s.lc.ownSeq] ∧
         t.lc.ownSeq = (s.lc.ownSeq + 1) % 256 ∧ t.lc.access = .idle ∧ t.lc.attempt = 0 ∧ t.tb = s.tb ∧ t.peers = s.peers ∧
         t.count .musterBeacons = if muster then min (s.count .musterBeacons + 1) 65535 else s.count .musterBeacons
       let declared : Prop := s.lc.slots.declaration.isSome ∧ s.owing.isSome
       (∀ r, s.lc.slots.declaration.isSome → s.owing = some r →
         (∃ f, sent f (.declaration r.rid r.update) 3 0 asleep false (declBytes r.body)) ∧
         t.lc.slots = { s.lc.slots with declaration := none }) ∧
       (¬ declared →
         (let passed : Slots := { s.lc.slots with declaration := none }
          (∀ q, passed.notice = some q →
            (∃ f, sent f (.notice q.notice.kind q.moment) 2 0 (q.notice.kind == .onset && asleep) false (noticeBytes q.notice)) ∧
            t.lc.slots = { passed with notice := none }) ∧
          (passed.notice = none →
            (∀ q, passed.reply = some q →
              (∃ f, sent f .reply 5 q.target false false (timeBytes q.t1 ++ timeBytes q.t2.time ++ List.replicate 7 0#8)) ∧
              t.lc.slots = { passed with reply := none }) ∧
            (passed.reply = none →
              (∀ q, passed.probe = some q →
                (∃ f, sent f (.probe q.target) 4 q.target false false (List.replicate 7 0#8)) ∧
                t.lc.slots = { passed with probe := none }) ∧
              (passed.probe = none →
                (∀ q, passed.beacon = some q →
                  (let muster : Bool := q.mark == .ordinary && (s.mc.standing == .active || s.mc.standing == .watching) &&
                     decide (awake < s.cs.image.mWatch + 1) && asleep
                   let mode : OpMode := match q.mark with
                     | .entry => .dormant | .final => .shelter | .ordinary => s.mc.standing.mode.getD .active
                   (∃ f, sent f (.beacon q.mark) 1 0 muster muster (beaconBytes
                     { stamp := 0, quality := s.tb.quality, distance := s.tb.distance, mode := mode, cls := s.bm.cls
                       code := if mode = .active ∨ mode = .economy then s.cs.image.b else s.cs.image.b + 4, trig := s.td.state
                       lastOnset := s.td.lastOnset, peak := s.td.peak, unset := s.tb.unset })) ∧
                   t.lc.slots = { passed with beacon := none })) ∧
                (passed.beacon = none →
                  (∀ q, passed.report = some q →
                    (∃ f, sent f (.report true q.last) 7 15 false false q.body) ∧ t.lc.slots = { passed with report := none }) ∧
                  (passed.report = none → t.lc.tx = none ∧ t.lc.slots = Slots.empty ∧ t.lc.access = .idle ∧
                    t.lc.attempt = 0 ∧ t.lc.ownSeq = s.lc.ownSeq))))))))

/-- The stamp point (R22): the frame takes station time and the elapsed count; a BEACON and a PROBE carry it in their first
seven bytes, a REPLY in its bytes 14 to 20, no other kind in its body; the open exchange takes t1. -/
def Obligations.StampPointFillsTheStamp : Prop :=
  ∀ (s : State) (f : TxFrame), s.lc.tx = some f → f.stamp = none →
    ∃ t, exec .stampPoint s = .next t ∧
      (∀ mark, f.owner = .beacon mark → t = s.setLc { s.lc with tx := some { f with
        stamp := some { time := s.tb.time, moment := s.now }, body := timeBytes s.tb.time ++ f.body.drop 7 } }) ∧
      (f.owner = .reply → t = s.setLc { s.lc with tx := some { f with
        stamp := some { time := s.tb.time, moment := s.now }
        body := f.body.take 14 ++ timeBytes s.tb.time ++ f.body.drop 21 } }) ∧
      (∀ target, f.owner = .probe target →
        t = (s.setLc { s.lc with tx := some { f with
          stamp := some { time := s.tb.time, moment := s.now }, body := timeBytes s.tb.time ++ f.body.drop 7 } }).setTau
            { s.tau with probe := s.tau.probe.map (fun p =>
              if p.target = target then { p with t1 := some { time := s.tb.time, moment := s.now } } else p) }) ∧
      ((∃ rid u, f.owner = .declaration rid u) ∨ (∃ k m, f.owner = .notice k m) ∨ (∃ c l, f.owner = .report c l) →
        t = s.setLc { s.lc with tx := some { f with stamp := some { time := s.tb.time, moment := s.now } } })

/-- The end of a transmission (R34, R32, R103, R130): LK_TXEN drops, the frame is counted, quiet time runs from here; the ONSET
whose own frame ends is outstanding no longer, a newer one that waits stays so; a declaration whose update number the record
still has is owed no longer, one overtaken stays owed. A BEACON outside the entry and the final beacon's wait (R30, R186, R194;
see `Obligations.BeaconCompletionPutsTheStationToSleep` for those) only leaves the brief run's users (R189). A report segment
(R203, R204, R205): after the last one the request ends, and a RESTART is carried out; after another the next is built from the
state as it then stands and requested, where LC takes it, COUNTERS with the second 38 counters and the last 26; that of a
replaced request builds nothing. The free byte of an EVENTS record in it is log entry 40, an EVENTS report's empty table log
entry 61, an old image in force until the next load log entry 42, the last poll's moment at RESTART log entry 29, a waiting
calibration window dropped there log entry 68, and the order of the Two-Wire Master's four counters log entry 70. -/
def Obligations.TransmissionEndReportsCompletion : Prop :=
  (∀ (s : State) (f : TxFrame), s.Settled → s.lc.tx = some f → f.stamp.isSome →
     ((∃ k m, f.owner = .notice k m) ∨ f.owner = .reply ∨ (∃ x, f.owner = .probe x) ∨ (∃ x u, f.owner = .declaration x u)) →
     ∃ t, exec .transmissionEnd s = .next t ∧ t.lc.tx = none ∧ t.lc.quietSince = s.now ∧
       t.count .framesSent = min (s.count .framesSent + 1) 65535 ∧
       (∀ m, f.owner = .notice .onset m → t.td = { s.td with
         outstanding := if s.td.outstanding = some m then none else s.td.outstanding }) ∧
       ((∀ m, f.owner ≠ .notice .onset m) → t.td = s.td) ∧
       (∀ x u, f.owner = .declaration x u → (s.cu.events.map (fun r => r.rid)).Nodup →
         ∀ r ∈ s.cu.events, r.rid = x → r.state = .declared →
           ∃ r' ∈ t.cu.events, r'.rid = x ∧ r'.state = .declared ∧ r'.carried = none ∧ r'.update = r.update ∧ r'.parts = r.parts ∧
             r'.declOwed = (r.declOwed && decide (r.update ≠ u))) ∧
       t.tb = s.tb ∧ t.rmu = s.rmu ∧ t.peers = s.peers ∧ t.tau = s.tau ∧ t.si = s.si ∧ t.bm = s.bm ∧ t.hc = s.hc ∧ t.cs = s.cs ∧
       t.cu.entries = s.cu.entries) ∧
  (∀ (s : State) (f : TxFrame) (mark : BeaconMark), s.Rested → s.lc.tx = some f → f.stamp.isSome → f.owner = .beacon mark →
    (mark = .entry → s.mc.standing ≠ .entering) → (mark = .final → s.mc.standing ≠ .finalBeacon) →
    ∃ t, exec .transmissionEnd s = .next t ∧ t.lc.tx = none ∧ t.lc.quietSince = s.now ∧ t.lc.slots = s.lc.slots ∧
      t.count .framesSent = min (s.count .framesSent + 1) 65535 ∧ t.mc.standing = s.mc.standing ∧
      t.mc.users = (if mark = .ordinary ∧ s.lc.slots.beacon = none then { s.mc.users with beacon := none } else s.mc.users) ∧
      (s.tb.source = .slow → t.mc.users = BriefUsers.empty → t.mc.osc = none) ∧
      t.tb = s.tb ∧ t.rmu = s.rmu ∧ t.peers = s.peers ∧ t.tau = s.tau ∧ t.si = s.si ∧ t.td = s.td ∧ t.cu = s.cu ∧ t.bm = s.bm ∧
      t.hc = s.hc ∧ t.cs = s.cs) ∧
  (∀ (s : State) (f : TxFrame) (current last : Bool), s.Settled → s.lc.tx = some f → f.stamp.isSome → f.owner = .report current last →
    ∃ t, exec .transmissionEnd s = .next t ∧ t.lc.tx = none ∧
      (current = false ∨ s.cs.pending = none → t.cs = s.cs ∧ t.lc.slots = s.lc.slots ∧ t.td = s.td ∧
        t.count .framesSent = min (s.count .framesSent + 1) 65535) ∧
      (∀ q, current = true → s.cs.pending = some q →
        (last = true → q.code ≠ 5 → t.cs = { s.cs with pending := none } ∧ t.lc.slots = s.lc.slots ∧
          t.mc.standing = s.mc.standing ∧ t.count .framesSent = min (s.count .framesSent + 1) 65535) ∧
        (last = true → q.code = 5 → s.awake = true → s.tb.source = .fast →
          t.cs = { s.cs with pending := none, stationId := s.pins.straps.toNat } ∧ t.mc.standing = .loading ∧ t.mc.held = false ∧
          t.twm.busyFor .loader = true ∧ t.lc.slots = Slots.empty ∧ t.lc.rx = .off ∧ t.lc.ownSeq = s.lc.ownSeq ∧
          t.lc.terminalSeq = none ∧ t.peers = [] ∧ t.rmu = Rmu.reset ∧ t.uc = Uplink.reset ∧ t.td.state = .stopped ∧
          t.si.grid = .off ∧ t.cu = { s.cu with entries := [], events := [] } ∧
          t.tb = { s.tb with
            rPhase := 0, pendingStep := none, calTimer := none, calOpening := false, calWindow := none, slowAsked := false
            distance := if s.tb.distance = 0 then 1 else s.tb.distance } ∧
          t.outputs.htrB = false ∧ t.outputs.htrS = false ∧ t.outputs.chargeEn = false ∧ t.outputs.upPwr = false ∧
          (∀ c : Counter, c ≠ .calibrationDiscards → c ≠ .framesSent → (c = .busRecoveries → s.pins.sda = true) →
            t.count c = s.count c)) ∧
        (last = false → s.Rested → s.awake = true → s.listenOnly = false →
          (let sent : State := bump .framesSent (s.setLc { s.lc with tx := none, quietSince := s.now })
           let values (ks : List Counter) : List Byte :=
             ks.flatMap (fun k => [BitVec.ofNat 8 (sent.count k / 256), BitVec.ofNat 8 (sent.count k)])
           let second : List Counter := [.holdoffsDissolved, .adoptions, .conflictsWon, .conflictsLost, .declarationsIgnored,
             .participantsLeftOut, .eventTableOverflow, .acknowledgedAlerts, .naks, .replyTimeouts, .failedAlerts, .healthDrops,
             .healthEvictions, .stacks, .restartsOnChange, .withdrawalsInTransfer, .busyTimeouts, .powerCycles, .batteryFailures,
             .batteryRejects, .pollOverruns, .failuresA, .rejectsA, .failuresB, .rejectsB, .forcedClasses, .classChanges,
             .fullAnchors, .emptyAnchors, .edgesTakenB, .edgesDeferredB, .limitTakesB, .onsCancelledB, .offsMergedB,
             .offForcingsB, .overtempCutsB, .edgesTakenS, .edgesDeferredS]
           let third : List Counter := [.limitTakesS, .onsCancelledS, .offsMergedS, .offForcingsS, .overtempCutsS, .frameCuts,
             .dormantEntriesBegun, .dormantEntries, .entriesAbandoned, .skippedBeacons, .patternWakes, .falseWakes, .localWakes,
             .musterBeacons, .shelterEntries, .finalBeaconsAbandoned, .shelterExits, .busRecoveries, .busStucks, .twNacks,
             .stretchTimeouts, .loadDefaults, .requestsTaken, .requestsReplaced, .unknownRequests, .reportsDropped]
           let b := sent.build q
           let y : ReportReq :=
             { moment := s.now, last := b.last
               body := [BitVec.ofNat 8 q.code, BitVec.ofNat 8 (q.nextSegment % 128 + if b.last then 128 else 0),
                 if 1 ≤ q.code ∧ q.code ≤ 5 then 0x00#8 else 0x01#8] ++ b.data }
           let q' : ServiceReq := { q with nextSegment := (q.nextSegment + 1) % 128, resume := b.resume, held := false }
           (q.code = 4 → (q.resume = .counters 1 → b.data = values second ∧ b.last = false) ∧
             (q.resume = .counters 2 → b.data = values third ∧ b.last = true)) ∧
           t.lc.slots = { s.lc.slots with report := some y } ∧ t.cs = { s.cs with pending := some q' } ∧
           t.mc.standing = s.mc.standing ∧
           (∀ c : Counter, t.count c =
             if q.code = 4 ∧ q.argument % 2 = 1 ∧ c.idx.val / 38 = q.resume.segment then 0 else sent.count c))) ∧
        (last = false → q.code ≠ 5 → s.awake = false ∨ s.listenOnly = true →
          t.cs = { s.cs with pending := none } ∧ t.lc.slots = s.lc.slots)))

/-- The completion of the entry beacon while ENTERING is the entry to DORMANT (R188); that of the final beacon ends SHELTER's
first sub-state (R194). A beacon that waits at the entry stays, and joins the brief run's users (log entry 18). The entry forces
HTR_S off, whatever stood pending, and leaves HTR_B alone (R173, R178); the deferral it leaves is log entry 59. And the entry to
SHELTER (R194), by a good poll that takes the class to CRITICAL or finds it there, from an awake mode or DORMANT, on a busy medium:
the final beacon is requested with its limit of 10 s, on a brief run from DORMANT (R189), and at a listen-only station it is dropped
at once (R39); an entry to DORMANT is abandoned first (R187), a capture or a wake is ended; the detector and the sample interface
stop (R110, R88), the trigger table is cleared, the HOLDOFF records are removed and the live ones closed (R139), the modem goes off
and the queue is kept (R155), both heaters are forced off (R178), the RMU sleeps (R19), Time Agreement stops (R74), the beacon
timer and the wake hold stop, and the next poll falls due 600 s after the last (R158). -/
def Obligations.BeaconCompletionPutsTheStationToSleep : Prop :=
  (∀ (s : State) (f : TxFrame), s.lc.tx = some f → f.stamp.isSome → f.owner = .beacon .entry → s.mc.standing = .entering →
    s.bm.cls = .low → s.td.active = false → s.uc.queue = [] → s.uc.stacked = [] → s.openEvent = false → s.tb.source = .fast →
    s.lc.slots.report = none →
    ∃ t, exec .transmissionEnd s = .next t ∧ t.mc.standing = .asleep ∧
      t.count .dormantEntries = min (s.count .dormantEntries + 1) 65535 ∧ t.td.state = .stopped ∧ t.si.grid = .off ∧
      t.rmu.state = .holdover ∧ t.rmu.sleeping = true ∧ t.tau.steerTimer = none ∧ t.tau.probe = none ∧ t.uc.modem = .off ∧
      t.cu.entries = [] ∧ t.lc.rx = .off ∧ t.tb.slowAsked = true ∧ t.tb.time = s.tb.time ∧ t.tb.elapsed = s.tb.elapsed ∧
      t.lc.slots = { Slots.empty with beacon := s.lc.slots.beacon } ∧ t.hc.s.output = false ∧
      t.mc.users.beacon = (if s.lc.slots.beacon.isSome then some s.now else s.mc.users.beacon) ∧
      t.hc = { s.hc with s := { s.hc.s with output := false, edge := none, deferral := 0, carried := none, level := .off } } ∧
      (∀ c, c = .offForcingsS ∨ c = .edgesTakenS →
        t.count c = if s.hc.s.output then min (s.count c + 1) 65535 else s.count c) ∧
      (∀ r ∈ t.peers, r.heldAge.isSome ∧ r.sample = none)) ∧
  (∀ (s : State) (f : TxFrame), s.lc.tx = some f → f.stamp.isSome → f.owner = .beacon .final → s.mc.standing = .finalBeacon →
    s.bm.cls = .critical → s.lc.slots.report = none →
    ∃ t, exec .transmissionEnd s = .next t ∧ t.mc.standing = .sheltered ∧ t.lc.slots = Slots.empty ∧ t.lc.rx = .off ∧
      t.lc.beaconTimer = none ∧ t.mc.finalLimit = none ∧ (s.tb.source ≠ .slow → t.tb.slowAsked = true) ∧ t.peers = s.peers) ∧
  (∀ (s : State) (v : Vector Byte 6) (x : Reading), s.Settled → s.pins.lkCd = true → s.onBus .battery →
    x = readingOf v.toList → 1000 ≤ x.v → x.v ≤ 60000 → -600 ≤ x.t → x.t ≤ 850 →
    (∀ m, s.bm.lastPoll = some m → since s.now m < secs 10) → (goodPoll x s).bm.cls = .critical →
    s.mc.standing.awake = true ∨ s.mc.standing.inDormant = true → s.lc.slots.report = none →
    ∃ t, exec (.batteryResult (.complete v)) s = .next t ∧
      t.count .shelterEntries = min (s.count .shelterEntries + 1) 65535 ∧
      t.count .entriesAbandoned = (if s.mc.standing = .entering then min (s.count .entriesAbandoned + 1) 65535
        else s.count .entriesAbandoned) ∧
      (s.listenOnly = false → t.mc.standing = .finalBeacon ∧ t.lc.slots.beacon = some { moment := s.now, mark := .final } ∧
        t.mc.finalLimit = some { start := s.now, period := secs 10 } ∧ t.mc.users.beacon = none ∧
        (s.mc.standing.awake = true → t.mc.users.final = false ∧ t.tb.source = s.tb.source ∧ t.tb.slowAsked = s.tb.slowAsked) ∧
        (s.mc.standing.inDormant = true → t.mc.users.final = true ∧ t.mc.osc.isSome ∧
          (s.tb.source ≠ .slow → t.tb.slowAsked = true))) ∧
      (s.listenOnly = true → t.mc.standing = .sheltered ∧ t.lc.slots = Slots.empty ∧ t.mc.finalLimit = none ∧
        (s.tb.source ≠ .slow → t.tb.slowAsked = true)) ∧
      t.mc.wakeHold = none ∧ t.mc.capture = none ∧ t.lc.rx = .off ∧ t.lc.beaconTimer = none ∧
      t.td.state = .stopped ∧ t.td.z.state = .stopped ∧ t.td.n.state = .stopped ∧ t.td.e.state = .stopped ∧
      t.si = { s.si with grid := .off, slot := none, bitCount := 0, buffer := [], faultRun := 0, goodRun := 0 } ∧
      t.cu.entries = [] ∧ (∀ r ∈ t.cu.events, r.state = .closed ∨ r.state = .merged) ∧
      (s.td.active = false → ∀ r ∈ s.cu.events, r.state ≠ .holdoff →
        ∃ r' ∈ t.cu.events, r'.rid = r.rid ∧ r'.state = (if r.state = .merged then .merged else .closed)) ∧
      t.uc.modem = .off ∧ t.uc.transfer = none ∧
      (s.td.active = false → s.uc.inTransfer = none → t.uc.queue = s.uc.queue ∧ t.uc.stacked = s.uc.stacked) ∧
      (∀ h : HeaterId, (t.heater h).output = false ∧ (t.heater h).level = .off ∧ (t.heater h).edge = none ∧
        (t.heater h).onTime = (s.heater h).onTime) ∧
      t.rmu.state = .holdover ∧ t.rmu.sleeping = true ∧ t.rmu.offsets = [] ∧ t.rmu.openMark = none ∧
      t.tb.distance = (if s.tb.distance = 0 then 1 else s.tb.distance) ∧ t.tb.calWindow = none ∧ t.tb.calTimer = none ∧
      t.tau.probe = none ∧ t.tau.steerTimer = none ∧ (∀ r ∈ t.peers, r.heldAge = none ∧ r.sample = none) ∧
      t.bm = { (goodPoll x s).bm with
        pollTimer := some { start := s.bm.lastPoll.getD s.now, period := secs 600 } } ∧
      t.tb.time = s.tb.time ∧ t.tb.elapsed = s.tb.elapsed)

/-- A request whose staleness limit passes while it waits is dropped and counted (R29): a notice after 2 s, an ONSET being
outstanding no longer; a reply 400 ms after t2; a probe after 500 ms, its exchange ending unanswered (R64); a report after 5 s,
the pending request ending with it (R203). Before its limit a request stays. -/
def Obligations.StaleRequestsAreDropped : Prop :=
  (∀ (s : State) (q : NoticeReq), s.Rested → s.lc.slots.notice = some q →
    (secs 2 ≤ since s.now q.moment →
      ∃ t, exec (.requestStaleDrop .triggerNotice) s = .next t ∧ t.lc.slots = { s.lc.slots with notice := none } ∧
        t.count .staleDrops = min (s.count .staleDrops + 1) 65535 ∧
        t.td = { s.td with outstanding := if q.notice.kind = .onset then none else s.td.outstanding }) ∧
    (since s.now q.moment < secs 2 → exec (.requestStaleDrop .triggerNotice) s = .next s)) ∧
  (∀ (s : State) (q : ReplyReq), s.Rested → s.lc.slots.reply = some q →
    (millis 400 ≤ since s.now q.t2.moment →
      ∃ t, exec (.requestStaleDrop .rangeReply) s = .next t ∧ t.lc.slots = { s.lc.slots with reply := none } ∧
        t.count .staleDrops = min (s.count .staleDrops + 1) 65535 ∧ t.tau = s.tau ∧ t.td = s.td) ∧
    (since s.now q.t2.moment < millis 400 → exec (.requestStaleDrop .rangeReply) s = .next s)) ∧
  (∀ (s : State) (q : ProbeReq), s.Rested → s.lc.slots.probe = some q →
    (∀ p, s.tau.probe = some p → s.awake = true → millis 500 ≤ since s.now q.moment →
      ∃ t, exec (.requestStaleDrop .rangeProbe) s = .next t ∧ t.lc.slots = { s.lc.slots with probe := none } ∧
        t.count .staleDrops = min (s.count .staleDrops + 1) 65535 ∧
        t.count .unansweredProbes = min (s.count .unansweredProbes + 1) 65535 ∧ t.tau.probe = none ∧
        t.tau.rest = some { start := s.now, period := secs 1 }) ∧
    (since s.now q.moment < millis 500 → exec (.requestStaleDrop .rangeProbe) s = .next s)) ∧
  (∀ (s : State) (q : ReportReq), s.Rested → s.lc.slots.report = some q →
    (∀ x, s.cs.pending = some x → x.code ≠ 5 → secs 5 ≤ since s.now q.moment →
      ∃ t, exec (.requestStaleDrop .serviceReport) s = .next t ∧ t.lc.slots = { s.lc.slots with report := none } ∧
        t.count .staleDrops = min (s.count .staleDrops + 1) 65535 ∧
        t.count .reportsDropped = min (s.count .reportsDropped + 1) 65535 ∧ t.cs = { s.cs with pending := none }) ∧
    (since s.now q.moment < secs 5 → exec (.requestStaleDrop .serviceReport) s = .next s))

/-- The beacon timer expires on a busy medium (R35): the BEACON slot takes an ordinary request and the timer starts again with
the mode's period, 2^b s awake and 16 × 2^b s in DORMANT; a marked beacon that waits stays as it is. -/
def Obligations.BeaconTimerFillsTheSlot : Prop :=
  ∀ s : State, s.Settled → timerDue s.lc.beaconTimer s.now = true → s.listenOnly = false → s.pins.lkCd = true →
    (s.awake = true ∨ s.dormant = true) →
    ∃ t, exec .beaconTimerExpiry s = .next t ∧
      t.lc.beaconTimer = some
        { start := s.now, period := if s.dormant then secs (16 * 2 ^ s.cs.image.b) else secs (2 ^ s.cs.image.b) } ∧
      ((∀ q, s.lc.slots.beacon = some q → q.mark = .ordinary) →
        t.lc.slots = { s.lc.slots with beacon := some { moment := s.now, mark := .ordinary } } ∧
        (s.dormant = true → t.mc.users.beacon = some s.now)) ∧
      (∀ q, s.lc.slots.beacon = some q → q.mark ≠ .ordinary → t.lc.slots = s.lc.slots) ∧
      t.tb = s.tb ∧ t.peers = s.peers ∧ t.td = s.td ∧ t.cu.entries = s.cu.entries ∧ t.bm = s.bm ∧ t.hc = s.hc ∧ t.cs = s.cs

/-- The receiver (R36, R22): the sync word gives the receive stamp; a header with a length above 80 discards the frame and is
counted, another is read on; a fall of LK_CD inside a frame discards it under CRC. That a header discarded in a capture leaves the
capture open is log entry 14. -/
def Obligations.ReceiverReadsOneFrame : Prop :=
  (∀ s : State, s.lc.rx = .hunting → s.lc.tx = none →
    exec .syncWordTaken s = .next (s.setLc { s.lc with
      rx := .header { time := s.tb.time, moment := s.now, fast := decide (s.tb.source = .fast) } })) ∧
  (∀ (s : State) (stamp : RxStamp) (a b l q : Byte), s.lc.rx = .header stamp → s.lc.tx = none →
    (80 < l.toNat → exec (.headerTaken a b l q) s = .next (bump .discardLength (s.setLc { s.lc with rx := .hunting }))) ∧
    (l.toNat ≤ 80 → exec (.headerTaken a b l q) s =
      .next (s.setLc { s.lc with rx := .body stamp { kindSender := a, targetFlags := b, length := l, sequence := q } }))) ∧
  (∀ s : State, s.Rested → s.lc.rx.reading = true → s.lc.tx = none → s.pins.lkCd = false → s.mc.capture = none →
    exec .frameTruncated s = .next (bump .discardCrc (s.setLc { s.lc with rx := .hunting })))

/-- A complete frame that is not accepted (R37, R38, R39): the tests stand in the order of R37, the first that fails decides,
one counter rises at most, and nothing else changes but the hunt, and with the own id as sender the id-conflict flag. The
header's half-bytes lie by log entry 8, the form test is that of log entry 46, and the bytes decide, whichever frame row brings them
(log entry 13). -/
def Obligations.DiscardedFramesChangeOnlyTheirCounter : Prop :=
  ∀ (s : State) (stamp : RxStamp) (hdr : Header) (rest : List Byte), s.Receives stamp hdr rest → s.Rested →
    (let f : RxFrame := { hdr := hdr, rest := rest }
     let h := s.setLc { s.lc with rx := .hunting }
     (crcBytes (hdr.bytes ++ f.body) ≠ f.crc → exec (.frameDiscarded rest) s = .next (bump .discardCrc h)) ∧
     (crcBytes (hdr.bytes ++ f.body) = f.crc →
       (s.listenOnly = false → hdr.sender = s.ownId →
         exec (.frameDiscarded rest) s =
           .next (bump .idConflicts (s.setLc { s.lc with rx := .hunting, idConflict := true }))) ∧
       ((s.listenOnly = true ∨ hdr.sender ≠ s.ownId) →
         (hdr.target ≠ 0 → hdr.target ≠ s.ownId → exec (.frameDiscarded rest) s = .next h) ∧
         ((hdr.target = 0 ∨ hdr.target = s.ownId) →
           (frameKindOf hdr.kindCode = none → exec (.frameDiscarded rest) s = .next (bump .discardKind h)) ∧
           (∀ kind, frameKindOf hdr.kindCode = some kind →
             ((hdr.sender = 0 ∨ (hdr.sender = 15 ∧ kind ≠ .serviceRequest) ∨ (hdr.sender ≠ 15 ∧ kind = .serviceRequest)) →
               exec (.frameDiscarded rest) s = .next (bump .discardSender h)) ∧
             (hdr.sender ≠ 0 → (hdr.sender = 15 ↔ kind = .serviceRequest) →
               (readBody kind hdr.target f.body = none →
                 exec (.frameDiscarded rest) s = .next (bump .discardMalformed h)) ∧
               (∀ body, readBody kind hdr.target f.body = some body →
                 s.lastSequence hdr.sender = some hdr.sequence.toNat →
                 exec (.frameDiscarded rest) s = .next (bump .discardRepeat h))))))))

/-! ## Accepted frames (chapters 2, 3, 4, 7, 12) -/

/-- An accepted BEACON (R40, R44, R45, R46, R48, R49): it is counted, its sender's record is created or updated with its
announcements, and no other record changes; an existing record's ring takes the check error count, the sixteenth before it
leaving, and the link grade is judged again from the fourth frame on; with no event record, no last onset and no muster nothing
else does. A last onset (R118): where no entry of the sender lies within W_c of it, it is admitted without mask and end under
the beacon's peak ratio, one older than retention being counted as stale, and an arrival that is inserted is counted as
recovered; an entry near it keeps the table as it is; so does an arrival at a table full of entries bound to live records,
which is counted: that it is discarded there also where it would fit a live record is the model's (log entry 20). A muster
heard awake (R54, R192, R193) starts the wake hold afresh, and in ENTERING abandons the entry (R187). The records that hold the
sender (R136, R137), in ACTIVE with class GOOD on a busy medium with UP_RDY low: a beacon that ends its trigger renews their
last END, and those whose stations all stand OFF and whose close delay has passed are closed. -/
def Obligations.BeaconWritesItsSendersRecord : Prop :=
  ∀ (s : State) (stamp : RxStamp) (hdr : Header) (rest : List Byte) (b : BeaconBody),
    s.Receives stamp hdr rest → s.Settled → s.judge { hdr := hdr, rest := rest } = .accepted .beacon (.beacon b) →
    (s.cu.events = [] → b.lastOnset = none → hdr.muster = false →
      ∃ t r, exec (.beaconReceived rest) s = .next t ∧ t.peer hdr.sender = some r ∧ t.lc.rx = .hunting ∧
        t.count .framesAccepted = min (s.count .framesAccepted + 1) 65535 ∧
        r.mode = some b.mode ∧ r.cls = some b.cls ∧ r.code = some b.code ∧ r.distance = some b.distance ∧
        r.quality = some b.quality ∧ r.unset = some b.unset ∧ r.trig = some b.trig ∧ r.lastOnset = none ∧
        r.lastHeard = stamp.moment ∧ r.lastSeq = hdr.sequence.toNat ∧
        (s.peer hdr.sender = none → r.ranging = .unranged ∧ r.delay = none ∧ r.attempts = 0 ∧ r.grade = .marginal ∧ r.counted = 1 ∧
          r.ring = [checkErrors hdr.sender hdr.sequence.toNat (RxFrame.check { hdr := hdr, rest := rest })]) ∧
        (∀ r0, s.peer hdr.sender = some r0 → r.ranging = r0.ranging ∧ r.delay = r0.delay ∧
          (s.awake = true → s.listenOnly = false → ∀ d, r0.delay = some d → r.sample = some ((b.stamp : Int) + d - stamp.time)) ∧
          (r0.RingSound →
            r.ring = (if r0.ring.length = 16 then r0.ring.tail else r0.ring) ++
              [checkErrors hdr.sender hdr.sequence.toNat (RxFrame.check { hdr := hdr, rest := rest })] ∧
            r.ringSum = r.ring.sum ∧ r.counted = min (r0.counted + 1) 16 ∧
            r.grade = (if r.counted ≤ 3 then .marginal else if r.ringSum ≤ s.cs.image.eGood then .good
              else if r.ringSum ≤ s.cs.image.ePoor then .marginal else .poor))) ∧
        (∀ id, id ≠ hdr.sender → t.peer id = s.peer id) ∧
        t.tb = s.tb ∧ t.rmu = s.rmu ∧ t.tau = s.tau ∧ t.si = s.si ∧ t.td = s.td ∧ t.cu = s.cu ∧ t.bm = s.bm ∧ t.hc = s.hc ∧ t.cs = s.cs) ∧
    (∀ o, s.cu.events = [] → hdr.muster = false → b.lastOnset = some o → (∀ e ∈ s.cu.entries, e.own = false) →
      ∃ t r, exec (.beaconReceived rest) s = .next t ∧ t.peer hdr.sender = some r ∧ r.lastOnset = some o ∧
        (let x : Entry := { station := hdr.sender, onset := o, mask := none, peak := b.peak, endAt := none, bound := none, own := false,
                            confirmed := false }
         let known : Prop := ∃ e ∈ s.cu.entries, e.station = hdr.sender ∧ timeGap e.onset o ≤ secs s.cs.image.wc
         let stale : Prop := o + secs s.cs.image.wc + secs 30 < s.tb.time
         (known → t.cu = s.cu ∧ t.count .recoveredEntries = s.count .recoveredEntries ∧
           t.count .staleEntries = s.count .staleEntries) ∧
         (¬ known → stale → t.cu = s.cu ∧ t.count .recoveredEntries = s.count .recoveredEntries ∧
           t.count .staleEntries = min (s.count .staleEntries + 1) 65535) ∧
         (¬ known → ¬ stale → s.cu.entries.length < 24 →
           (∀ e, e ∈ t.cu.entries ↔ e ∈ s.cu.entries ∨ e = x) ∧ t.cu.events = [] ∧
           t.count .recoveredEntries = min (s.count .recoveredEntries + 1) 65535) ∧
         (¬ known → ¬ stale → s.cu.entries.length = 24 → (∀ v, s.cu.entries.find? (fun e => e.bound.isNone) = some v →
           (∀ e, e ∈ t.cu.entries ↔ e ∈ s.cu.entries.erase v ∨ e = x) ∧ t.cu.events = [] ∧
           t.count .recoveredEntries = min (s.count .recoveredEntries + 1) 65535 ∧
           t.count .triggerTableOverflow = min (s.count .triggerTableOverflow + 1) 65535)) ∧
         (¬ known → ¬ stale → s.cu.entries.length = 24 → (∀ e ∈ s.cu.entries, e.bound.isSome) →
           t.cu = s.cu ∧ t.count .recoveredEntries = s.count .recoveredEntries ∧
           t.count .triggerTableOverflow = min (s.count .triggerTableOverflow + 1) 65535)) ∧
        t.tb = s.tb ∧ t.rmu = s.rmu ∧ t.tau = s.tau ∧ t.td = s.td ∧ t.bm = s.bm ∧ t.hc = s.hc ∧ t.cs = s.cs) ∧
    (s.cu.events = [] → b.lastOnset = none → hdr.muster = true → s.pins.lkCd = true →
      ∃ t, exec (.beaconReceived rest) s = .next t ∧ t.cu = s.cu ∧
        (s.awake = true → t.mc.wakeHold = some { start := s.now, period := secs s.cs.image.wakeHold }) ∧
        (s.awake = false → t.mc.wakeHold = s.mc.wakeHold) ∧
        (s.mc.standing ≠ .entering → t.mc.standing = s.mc.standing ∧ t.lc.slots = s.lc.slots ∧
          t.count .entriesAbandoned = s.count .entriesAbandoned) ∧
        (s.mc.standing = .entering → t.mc.standing = .watching ∧
          t.count .entriesAbandoned = min (s.count .entriesAbandoned + 1) 65535 ∧
          t.lc.slots = { s.lc.slots with beacon := s.lc.slots.beacon.map (fun q => { q with mark := .ordinary }) }) ∧
        t.tb = s.tb ∧ t.td = s.td ∧ t.bm = s.bm ∧ t.hc = s.hc ∧ t.cs = s.cs) ∧
    (∀ o, s.mc.standing = .active → s.bm.cls = .good → s.pins.lkCd = true → s.pins.upRdy = false → hdr.muster = false →
      b.lastOnset = some o → s.tb.time ≤ o + secs s.cs.image.wc + secs 30 →
      (∀ e ∈ s.cu.entries, e.bound.isSome ∧ (e.station = hdr.sender → secs s.cs.image.wc < timeGap e.onset o)) →
      (∀ r ∈ s.cu.events, r.state ≠ .holdoff ∧ ∀ p ∈ r.parts, p.station ≠ hdr.sender) → s.cu.entries.length = 24 →
      ∃ t, exec (.beaconReceived rest) s = .next t ∧ t.cu = s.cu ∧ t.mc.standing = .active ∧
        t.count .recoveredEntries = s.count .recoveredEntries ∧ t.count .staleEntries = s.count .staleEntries ∧
        t.count .triggerTableOverflow = min (s.count .triggerTableOverflow + 1) 65535 ∧ t.tb = s.tb ∧ t.td = s.td) ∧
    (s.mc.standing = .active → s.bm.cls = .good → s.pins.lkCd = true → s.pins.upRdy = false → b.lastOnset = none →
      ∃ t, exec (.beaconReceived rest) s = .next t ∧ t.mc.standing = .active ∧
        t.mc.wakeHold = (if hdr.muster then some { start := s.now, period := secs s.cs.image.wakeHold } else s.mc.wakeHold) ∧
        (let high (x : Option TrigState) : Bool := x == some .on || x == some .hold
         let ended : Bool := (s.peer hdr.sender).any (fun r => high r.trig) && !high (some b.trig)
         let off (p : Part) : Bool :=
           if p.station = s.ownId then !high (some s.td.state) else if p.station = hdr.sender then !high (some b.trig)
           else !(s.peer p.station).any (fun x => high x.trig)
         t.cu = { s.cu with events := s.cu.events.map (fun r =>
           if r.parts.any (fun p => p.station == hdr.sender) then
             (let renewed := if r.state.open && ended then { r with lastEnd := s.now } else r
              if r.state.live && r.parts.all off && decide (secs s.cs.image.closeDelay ≤ since s.now renewed.lastEnd) then
                { renewed with state := .closed, finished := some s.now, declOwed := false }
              else renewed)
           else r) }) ∧
        t.tb = s.tb ∧ t.rmu = s.rmu ∧ t.td = s.td ∧ t.bm = s.bm ∧ t.hc = s.hc ∧ t.cs = s.cs)

/-- An accepted TRIGGER NOTICE (R47, R115, R117): the sender's trigger word is written, and its onset `x` is admitted. Without
an event record and without an own entry: one older than retention is counted as stale; one within W_c of the unbound entry of
its station merges into it; any other is inserted, the table having room. A full table (R119, R108) gives up its first unbound
entry, an own unconfirmed one being reported, and with none unbound the arrival is discarded; each is counted. Quorum (R126 to
R128), here of two stations, in ACTIVE with class GOOD at a station without an uplink: beside an own unbound entry within W_c
the notice makes a HOLDOFF record of both, of the own rank; with rank 0 it is declared at once. A late participant (R135): an
onset that fits the only record joins it, a DECLARED one then owing an update by the owing rule. At a station with an uplink,
with UP_RDY low (R142 to R146), the update of a DECLARED record raises nothing while its report alert is in transfer, folds
into the alert that waits or into the stacked entry, or becomes an UPDATE of a delivered record, an EVENT of another, in its
place in the queue or stacked, the record then being QUEUED or STACKED where no other alert or stacked entry names it (as of a
DECLARED record none does, which gets no RETRACT by R153 and R154). Record keys are the model's own (log entry 44). -/
def Obligations.NoticeEntersTheTriggerTable : Prop :=
  ∀ (s : State) (stamp : RxStamp) (hdr : Header) (rest : List Byte) (n : Notice),
    s.Receives stamp hdr rest → s.Settled → s.judge { hdr := hdr, rest := rest } = .accepted .notice (.notice n) →
    (let endAt := if n.kind = .finish then some (n.onset + n.duration * 1048576 / 10) else none
     let x : Entry := { station := hdr.sender, onset := n.onset, mask := some n.mask, peak := n.peak, endAt := endAt, bound := none,
                        own := false, confirmed := false }
     let part : Part := { station := hdr.sender, onset := n.onset, peak := n.peak }
     let stale : Prop := n.onset + secs s.cs.image.wc + secs 30 < s.tb.time
     let apart : Prop := ∀ e ∈ s.cu.entries, e.station = hdr.sender → secs s.cs.image.wc < timeGap e.onset n.onset
     let heard (t : State) : Prop := (∃ r, t.peer hdr.sender = some r ∧
         r.trig = some (if n.kind = .onset then .on else .off) ∧ r.lastOnset = some n.onset) ∧
       t.count .framesAccepted = min (s.count .framesAccepted + 1) 65535 ∧
       t.tb = s.tb ∧ t.rmu = s.rmu ∧ t.tau = s.tau ∧ t.bm = s.bm ∧ t.hc = s.hc ∧ t.cs = s.cs ∧ t.mc.standing = s.mc.standing
     (s.cu.events = [] → (∀ e ∈ s.cu.entries, e.own = false) →
       ∃ t, exec (.triggerNoticeReceived rest) s = .next t ∧ heard t ∧ t.cu.events = [] ∧ t.td = s.td ∧
         (stale → t.cu = s.cu ∧ t.count .staleEntries = min (s.count .staleEntries + 1) 65535) ∧
         (¬ stale →
           (s.cu.entries = [] → t.cu.entries = [x]) ∧
           (apart → s.cu.entries.length < 24 → ∀ e, e ∈ t.cu.entries ↔ e ∈ s.cu.entries ∨ e = x) ∧
           (∀ e, s.cu.entries = [e] → e.station = hdr.sender → timeGap e.onset n.onset ≤ secs s.cs.image.wc → e.bound = none →
             e.mask = none → t.cu.entries = [{ e with
               onset := min e.onset n.onset, peak := max e.peak n.peak, mask := some n.mask, endAt := endAt }]))) ∧
     (s.cu.events = [] → ¬ stale → apart → s.cu.entries.length = 24 →
       (∀ v, s.cu.entries.find? (fun e => e.bound.isNone) = some v → (∀ e ∈ s.cu.entries.erase v, e.own = false) →
         ∃ t, exec (.triggerNoticeReceived rest) s = .next t ∧ heard t ∧ t.cu.events = [] ∧
           (∀ e, e ∈ t.cu.entries ↔ e ∈ s.cu.entries.erase v ∨ e = x) ∧
           t.count .triggerTableOverflow = min (s.count .triggerTableOverflow + 1) 65535 ∧
           (v.own = false ∨ v.confirmed = true → t.td = s.td) ∧
           (v.own = true → v.confirmed = false →
             t.td = { s.td with
               trim := min 64 (s.td.trim + 4), trimTimer := some { start := s.now, period := secs 3600 } } ∧
             t.count .unconfirmedTriggers = min (s.count .unconfirmedTriggers + 1) 65535)) ∧
       ((∀ e ∈ s.cu.entries, e.bound.isSome) →
         ∃ t, exec (.triggerNoticeReceived rest) s = .next t ∧ heard t ∧ t.cu = s.cu ∧ t.td = s.td ∧
           t.count .triggerTableOverflow = min (s.count .triggerTableOverflow + 1) 65535)) ∧
     (∀ e, s.mc.standing = .active → s.bm.cls = .good → s.cs.image.uplink = false → s.pins.lkCd = true → s.listenOnly = false →
       s.ownId ≤ 14 → 1 ≤ s.cs.image.closeDelay → s.cs.image.quorum = 2 → s.cu.events = [] → s.cu.entries = [e] → e.own = true →
       e.station = s.ownId → e.bound = none → timeGap e.onset n.onset ≤ secs s.cs.image.wc → ¬ stale →
       ∃ t r, exec (.triggerNoticeReceived rest) s = .next t ∧ heard t ∧ t.td = s.td ∧ t.cu.events = [r] ∧
         t.count .quorums = min (s.count .quorums + 1) 65535 ∧ r.earliest = min e.onset n.onset ∧
         (∀ p, p ∈ r.parts ↔ p = part ∨ p = { station := s.ownId, onset := e.onset, peak := e.peak }) ∧
         r.update = 0 ∧ r.uplink = .none ∧ r.opened = s.now ∧ r.lastEnd = s.now ∧
         (let first : Prop := e.onset < n.onset ∨ (e.onset = n.onset ∧ s.ownId < hdr.sender)
          (first → r.state = .declared ∧ r.id = some { origin := s.ownId, seq := s.cu.ownEventSeq } ∧ r.declOwed = true ∧
            r.holdoff = none ∧ t.cu.ownEventSeq = (s.cu.ownEventSeq + 1) % 256 ∧ t.lc.slots.declaration.isSome ∧
            t.count .declarations = min (s.count .declarations + 1) 65535 ∧
            (∀ y, y ∈ t.cu.entries ↔ y = { x with bound := some r.rid, confirmed := true } ∨
              y = { e with bound := some r.rid, confirmed := true })) ∧
          (¬ first → r.state = .holdoff ∧ r.id = none ∧ r.declOwed = false ∧
            r.holdoff = some { start := s.now, period := millis s.cs.image.holdoffSlot } ∧
            t.cu.ownEventSeq = s.cu.ownEventSeq ∧ t.count .declarations = s.count .declarations ∧
            (∀ y, y ∈ t.cu.entries ↔ y = { x with bound := some r.rid } ∨ y = { e with bound := some r.rid })))) ∧
     (∀ r, s.cs.image.uplink = false → s.pins.lkCd = true → s.awake = true → s.listenOnly = false → n.kind = .onset → ¬ stale →
       s.cu.entries = [] → s.cu.events = [r] → r.state.open = true →
       (∀ p ∈ r.parts, p.station ≠ hdr.sender ∧ timeGap p.onset n.onset ≤ secs s.cs.image.wc) →
       ∃ t r', exec (.triggerNoticeReceived rest) s = .next t ∧ heard t ∧ t.td = s.td ∧ t.cu.events = [r'] ∧
         t.cu.entries = [{ x with bound := some r.rid, confirmed := r.state.live }] ∧
         (∀ p, p ∈ r'.parts ↔ p ∈ r.parts ∨ p = part) ∧ (∀ p ∈ r'.parts, r'.earliest ≤ p.onset) ∧
         r'.rid = r.rid ∧ r'.state = r.state ∧ r'.id = r.id ∧
         (r.state ≠ .declared → r'.update = r.update ∧ r'.declOwed = r.declOwed) ∧
         (r.state = .declared →
           (r.declOwed = true → r.carried = none → r'.update = r.update ∧ r'.declOwed = true) ∧
           (r.declOwed = false ∨ r.carried.isSome →
             (r.update < 3 → r'.update = r.update + 1 ∧ r'.declOwed = true) ∧
             (3 ≤ r.update → r'.update = r.update ∧ r'.declOwed = r.declOwed)) ∧
           (r'.declOwed = true → t.lc.slots.declaration.isSome))) ∧
     (∀ r, s.mc.standing = .active → s.bm.cls = .good → s.cs.image.uplink = true → s.pins.lkCd = true → s.pins.upRdy = false →
       s.listenOnly = false → s.uc.healthDue = false → n.kind = .onset → ¬ stale → s.cu.entries = [] → s.cu.events = [r] →
       r.state = .declared → r.declOwed = false ∨ r.carried.isSome → r.update ≤ 2 →
       (∀ p ∈ r.parts, p.station ≠ hdr.sender ∧ timeGap p.onset n.onset ≤ secs s.cs.image.wc) →
       (let report (k : AlertKind) : Bool := k == .event || k == .update
        let mine (a : Alert) : Bool := a.rid == some r.rid && report a.kind
        let waits (a : Alert) : Bool := mine a && (a.turn == .ready || a.turn == .retry)
        let kind : AlertKind := if r.delivered then .update else .event
        let alert : Alert := { kind := kind, rid := some r.rid, id := r.id, update := r.update + 1, enqueued := s.now, attempts := 0,
                               turn := .ready, retryWait := none, withdrawn := false }
        let before (a : Alert) : Bool := if r.delivered then a.kind != .health else a.kind == .event
        let unnamed : Prop := (∀ a ∈ s.uc.queue, a.rid ≠ some r.rid) ∧ ∀ z ∈ s.uc.stacked, z.rid ≠ r.rid
        ∃ t r', exec (.triggerNoticeReceived rest) s = .next t ∧ heard t ∧ t.td = s.td ∧ t.cu.events = [r'] ∧ r'.rid = r.rid ∧
          r'.update = r.update + 1 ∧ r'.declOwed = true ∧ t.lc.slots.declaration.isSome ∧
          (s.uc.queue.any (fun a => mine a && !waits a) = true →
            t.uc.queue = s.uc.queue ∧ t.uc.stacked = s.uc.stacked ∧ r'.owedUplink = r.owedUplink) ∧
          (s.uc.queue.any (fun a => mine a && !waits a) = false → s.uc.queue.any waits = true →
            t.uc.queue = s.uc.queue.map (fun a => if waits a then { a with update := r.update + 1 } else a) ∧
            t.uc.stacked = s.uc.stacked) ∧
          (s.uc.queue.any mine = false → s.uc.stacked.any (fun z => z.rid == r.rid && report z.kind) = true →
            t.uc.queue = s.uc.queue ∧ t.uc.stacked = s.uc.stacked ∧ r'.owedUplink = some (r.update + 1)) ∧
          (s.uc.queue.any mine = false → s.uc.stacked.any (fun z => z.rid == r.rid && report z.kind) = false →
            (∀ a ∈ s.uc.queue, a.id ≠ r.id ∨ a.update ≠ r.update + 1) →
            (s.uc.queue.length ≤ 7 →
              t.uc.queue = s.uc.queue.takeWhile before ++ [alert] ++ s.uc.queue.dropWhile before ∧
              t.uc.stacked = s.uc.stacked ∧ (unnamed → r'.uplink = .queued)) ∧
            (8 ≤ s.uc.queue.length → (∀ a ∈ s.uc.queue, a.kind ≠ .health) →
              t.uc.queue = s.uc.queue ∧ t.uc.stacked = s.uc.stacked ++ [{ kind := kind, rid := r.rid, retracts := none }] ∧
              r'.owedUplink = some (r.update + 1) ∧ t.count .stacks = min (s.count .stacks + 1) 65535 ∧
              (unnamed → r'.uplink = .stacked))))))

/-- An accepted EVENT DECLARATION (R123, R125, R131 to R135) in ACTIVE with class GOOD at a station without an uplink. Under
another station's id it is ignored and counted. Without a record of its id near it and none near its time: adopted as a record
that owes nothing; one older than the maximum life is ignored there, and only there: near a HOLDOFF or live record its age does not
matter (log entry 21); a full event table gives up its first removable CLOSED record, else its first removable MERGED one, with the entries bound
to it, and with none the declaration is dropped. Against the only record: of its id, an update; HOLDOFF, that record is
adopted; own DECLARED, the conflict rule, by which the loser is folded into a new record of its opened time or the winner owes
an update by the owing rule; ADOPTED, the id of the winner. Its participants are merged wherever all onsets lie within W_c. At
a station with an uplink, with UP_RDY low (R138, R142 to R146, R153): a record adopted raises its EVENT, which takes its place
in the queue or, with the queue full of others' reports, is stacked; an update of the ADOPTED record raises an UPDATE where the
record was delivered, else an EVENT, folds into the alert that waits, and raises nothing while one is in transfer; a lost
conflict leaves the EVENT of the new record, and a RETRACT of the loser's id where that was delivered. Record keys are the
model's own (log entry 44). -/
def Obligations.DeclarationIsAdopted : Prop :=
  (∀ (s : State) (stamp : RxStamp) (hdr : Header) (rest : List Byte) (d : DeclBody),
    s.Receives stamp hdr rest → s.Steady → s.cs.image.uplink = false → s.pins.lkCd = true →
    s.judge { hdr := hdr, rest := rest } = .accepted .declaration (.declaration d) →
    ∃ t, exec (.eventDeclarationReceived rest) s = .next t ∧ t.mc.standing = .active ∧
      (d.id.origin ≠ hdr.sender →
        t.cu = s.cu ∧ t.count .declarationsIgnored = min (s.count .declarationsIgnored + 1) 65535) ∧
      (d.id.origin = hdr.sender → s.cu.events = [] → s.tb.time ≤ d.earliest + secs s.cs.image.maxLife →
        ∃ r, t.cu.events = [r] ∧ r.id = some d.id ∧ r.state = .adopted ∧ r.update = d.update ∧ r.declOwed = false ∧
          r.opened = s.now ∧ r.lastEnd = s.now ∧ r.mergedInto = none ∧
          t.count .adoptions = min (s.count .adoptions + 1) 65535 ∧
          ((∀ p ∈ d.parts, ∀ q ∈ d.parts,
              timeGap (rebuildOnset d.earliest p.offset) (rebuildOnset d.earliest q.offset) ≤ secs s.cs.image.wc) →
            ∀ p ∈ d.parts, ∃ x ∈ r.parts, x.station = p.station ∧ x.onset = rebuildOnset d.earliest p.offset ∧ p.peak ≤ x.peak)) ∧
      (d.id.origin = hdr.sender → d.earliest + secs s.cs.image.maxLife < s.tb.time →
        (∀ r ∈ s.cu.events, secs s.cs.image.wc < timeGap r.earliest d.earliest ∨ (r.id ≠ some d.id ∧ r.state.open = false)) →
        t.cu = s.cu ∧ t.count .declarationsIgnored = min (s.count .declarationsIgnored + 1) 65535) ∧
      (d.id.origin = hdr.sender → s.tb.time ≤ d.earliest + secs s.cs.image.maxLife → s.cu.events.length = 8 →
        (∀ r ∈ s.cu.events, r.rid ≠ s.cu.nextRid ∧ r.id ≠ some d.id ∧
          (r.state.open = true → secs s.cs.image.wc < timeGap r.earliest d.earliest)) →
        (let idle (r : EventRec) : Bool := r.uplink == .none || r.uplink == .sent || r.uplink == .withdrawn || r.uplink == .failed
         let victim := (s.cu.events.find? (fun r => r.state == .closed && idle r)).or
           (s.cu.events.find? (fun r => r.state == .merged && idle r))
         (∀ v, victim = some v →
           (∀ r ∈ s.cu.events, r.rid ≠ v.rid → r ∈ t.cu.events) ∧
           (∀ r ∈ t.cu.events, r.rid ≠ s.cu.nextRid → r ∈ s.cu.events ∧ r.rid ≠ v.rid) ∧
           (∃ r ∈ t.cu.events, r.rid = s.cu.nextRid ∧ r.state = .adopted ∧ r.id = some d.id ∧ r.update = d.update) ∧
           (∀ e ∈ t.cu.entries, e.bound ≠ some v.rid) ∧ t.count .adoptions = min (s.count .adoptions + 1) 65535) ∧
         (victim = none → t.cu = s.cu ∧ t.count .eventTableOverflow = min (s.count .eventTableOverflow + 1) 65535))) ∧
      (∀ x, d.id.origin = hdr.sender → s.cu.events = [x] →
        timeGap x.earliest d.earliest ≤ secs s.cs.image.wc → x.rid ≠ s.cu.nextRid → s.uc.stacked = [] → s.listenOnly = false →
        (let near (a b : StationTime) : Prop := timeGap a b ≤ secs s.cs.image.wc
         let at_ (p : DeclPart) : StationTime := rebuildOnset d.earliest p.offset
         let fits : Prop := (∀ p ∈ d.parts, ∀ q ∈ d.parts, near (at_ p) (at_ q)) ∧
           (∀ p ∈ d.parts, ∀ y ∈ x.parts, near (at_ p) y.onset ∧ near y.onset (at_ p)) ∧
           (∀ y ∈ x.parts, ∀ z ∈ x.parts, near y.onset z.onset)
         let merged (r : EventRec) : Prop := (fits → ∀ p ∈ d.parts, ∃ y ∈ r.parts, y.station = p.station ∧ p.peak ≤ y.peak)
         let wins : Prop := d.earliest < x.earliest ∨ (d.earliest = x.earliest ∧ ∀ i, x.id = some i →
           d.id.origin < i.origin ∨ (d.id.origin = i.origin ∧ d.id.seq < i.seq))
         (x.id = some d.id → (∀ e ∈ s.cu.entries, e.bound.isSome) →
           ∃ r, t.cu.events = [r] ∧ r.rid = x.rid ∧ r.state = x.state ∧ r.id = x.id ∧ r.update = max x.update d.update ∧
             r.declOwed = x.declOwed ∧ r.opened = x.opened ∧ merged r) ∧
         (x.id ≠ some d.id → x.state = .holdoff →
           ∃ r, t.cu.events = [r] ∧ r.rid = x.rid ∧ r.state = .adopted ∧ r.id = some d.id ∧ r.update = d.update ∧
             r.holdoff = none ∧ r.declOwed = x.declOwed ∧ merged r ∧ t.count .adoptions = min (s.count .adoptions + 1) 65535 ∧
             (∀ e ∈ s.cu.entries, e.bound = some x.rid → { e with confirmed := true } ∈ t.cu.entries)) ∧
         (x.id ≠ some d.id → x.state = .declared → wins →
           ∃ r, (∀ y, y ∈ t.cu.events ↔ y = r ∨ y = { x with
               state := .merged, mergedInto := some d.id, finished := some s.now, declOwed := false }) ∧
             r.rid = s.cu.nextRid ∧ r.state = .adopted ∧ r.id = some d.id ∧ r.update = d.update ∧ r.declOwed = false ∧
             r.opened = x.opened ∧ merged r ∧
             (fits → ∀ p ∈ x.parts, 1 ≤ p.station → p.station ≤ 14 → ∃ y ∈ r.parts, y.station = p.station ∧ p.peak ≤ y.peak) ∧
             (∀ e ∈ s.cu.entries, e.bound = some x.rid → { e with bound := some r.rid, confirmed := true } ∈ t.cu.entries) ∧
             t.count .conflictsLost = min (s.count .conflictsLost + 1) 65535) ∧
         (x.id ≠ some d.id → x.state = .declared → ¬ wins → (∀ e ∈ s.cu.entries, e.bound.isSome) →
           ∃ r, t.cu.events = [r] ∧ r.rid = x.rid ∧ r.state = .declared ∧ r.id = x.id ∧ merged r ∧
             (x.declOwed = true → x.carried = none → r.update = x.update ∧ r.declOwed = true) ∧
             (x.declOwed = false ∨ x.carried.isSome →
               (x.update < 3 → r.update = x.update + 1 ∧ r.declOwed = true) ∧
               (3 ≤ x.update → r.update = x.update ∧ r.declOwed = x.declOwed)) ∧
             (r.declOwed = true → t.lc.slots.declaration.isSome) ∧
             t.count .conflictsWon = min (s.count .conflictsWon + 1) 65535) ∧
         (x.id ≠ some d.id → x.state = .adopted →
           ∃ r, t.cu.events = [r] ∧ r.rid = x.rid ∧ r.state = .adopted ∧ r.declOwed = x.declOwed ∧ merged r ∧
             (wins → r.id = some d.id ∧ r.update = d.update) ∧ (¬ wins → r.id = x.id ∧ r.update = x.update))))) ∧
  (∀ (s : State) (stamp : RxStamp) (hdr : Header) (rest : List Byte) (d : DeclBody),
    s.Receives stamp hdr rest → s.Steady → s.cs.image.uplink = true → s.pins.lkCd = true → s.pins.upRdy = false →
    s.uc.healthDue = false → s.judge { hdr := hdr, rest := rest } = .accepted .declaration (.declaration d) →
    d.id.origin = hdr.sender →
    (let alert (kind : AlertKind) (rid : Nat) (id : Option EventId) (update : Nat) : Alert :=
       { kind := kind, rid := some rid, id := id, update := update, enqueued := s.now, attempts := 0, turn := .ready,
         retryWait := none, withdrawn := false }
     let behind (p : Alert → Bool) (a : Alert) (t : State) : Prop :=
       t.uc.queue = s.uc.queue.takeWhile p ++ [a] ++ s.uc.queue.dropWhile p ∧ t.uc.stacked = s.uc.stacked
     let piled (kind : AlertKind) (rid : Nat) (t : State) : Prop :=
       t.uc.queue = s.uc.queue ∧ t.uc.stacked = s.uc.stacked ++ [{ kind := kind, rid := rid, retracts := none }] ∧
       t.count .stacks = min (s.count .stacks + 1) 65535
     let full : Prop := 8 ≤ s.uc.queue.length ∧ ∀ a ∈ s.uc.queue, a.kind ≠ .health
     let free (rid : Nat) : Prop :=
       (∀ a ∈ s.uc.queue, a.rid ≠ some rid ∧ a.id ≠ some d.id) ∧ ∀ z ∈ s.uc.stacked, z.rid ≠ rid
     let event (t : State) (r : EventRec) : Prop :=
       (s.uc.queue.length ≤ 7 → behind (fun a => a.kind == .event) (alert .event r.rid (some d.id) d.update) t ∧ r.uplink = .queued) ∧
       (full → piled .event r.rid t ∧ r.uplink = .stacked ∧ r.owedUplink = some d.update)
     (s.cu.events = [] → s.tb.time ≤ d.earliest + secs s.cs.image.maxLife → free s.cu.nextRid →
       ∃ t r, exec (.eventDeclarationReceived rest) s = .next t ∧ t.cu.events = [r] ∧ r.rid = s.cu.nextRid ∧ r.state = .adopted ∧
         r.id = some d.id ∧ r.update = d.update ∧ r.delivered = false ∧ event t r) ∧
     (∀ x, s.cu.events = [x] → timeGap x.earliest d.earliest ≤ secs s.cs.image.wc → x.rid ≠ s.cu.nextRid → s.listenOnly = false →
       (x.id ≠ some d.id → x.state = .holdoff → free x.rid →
         ∃ t r, exec (.eventDeclarationReceived rest) s = .next t ∧ t.cu.events = [r] ∧ r.rid = x.rid ∧ r.state = .adopted ∧
           r.id = some d.id ∧ r.update = d.update ∧ event t r) ∧
       (x.id = some d.id → x.state = .adopted → x.update < d.update →
         (let mine (a : Alert) : Bool := a.rid == some x.rid && (a.kind == .event || a.kind == .update)
          let waits (a : Alert) : Bool := mine a && (a.turn == .ready || a.turn == .retry)
          ∃ t r, exec (.eventDeclarationReceived rest) s = .next t ∧ t.cu.events = [r] ∧ r.rid = x.rid ∧ r.update = d.update ∧
            (s.uc.queue.any (fun a => mine a && !waits a) = true → t.uc.queue = s.uc.queue ∧ t.uc.stacked = s.uc.stacked) ∧
            (s.uc.queue.any (fun a => mine a && !waits a) = false → s.uc.queue.any waits = true →
              t.uc.queue = s.uc.queue.map (fun a => if waits a then { a with update := d.update } else a) ∧
              t.uc.stacked = s.uc.stacked) ∧
            (free x.rid → s.uc.queue.length ≤ 7 → r.uplink = .queued ∧
              (x.delivered = true → behind (fun a => a.kind != .health) (alert .update x.rid (some d.id) d.update) t) ∧
              (x.delivered = false → behind (fun a => a.kind == .event) (alert .event x.rid (some d.id) d.update) t)) ∧
            (free x.rid → full →
              piled (if x.delivered then .update else .event) x.rid t ∧ r.owedUplink = some d.update))) ∧
       (x.id ≠ some d.id → x.state = .declared → d.earliest < x.earliest → s.uc.queue = [] → s.uc.stacked = [] →
         ∃ t r, exec (.eventDeclarationReceived rest) s = .next t ∧ r ∈ t.cu.events ∧ r.rid = s.cu.nextRid ∧ r.state = .adopted ∧
           r.id = some d.id ∧ r.uplink = .queued ∧
           t.uc.queue = alert .event r.rid (some d.id) d.update ::
             (if x.delivered then [alert .retract x.rid x.id 0] else [])))))

/-- An accepted RANGE PROBE (R61) with its receive stamp on the fast source is answered: the REPLY slot takes t1 and t2. With
the source not FAST it is not. A SERVICE REPORT (R40) goes to no owner. -/
def Obligations.ProbeIsAnsweredAndReportsAreNot : Prop :=
  ∀ (s : State) (stamp : RxStamp) (hdr : Header) (rest : List Byte), s.Receives stamp hdr rest → s.Settled → s.pins.lkCd = true →
    (∀ t1, s.judge { hdr := hdr, rest := rest } = .accepted .probe (.probe t1) → s.awake = true → s.listenOnly = false →
      ∃ t, exec (.rangeProbeReceived rest) s = .next t ∧
        t.lc.slots = (if stamp.fast then { s.lc.slots with
            reply := some
              { moment := s.now, target := hdr.sender, t1 := t1, t2 := { time := stamp.time, moment := stamp.moment } } }
          else s.lc.slots) ∧
        t.count .framesAccepted = min (s.count .framesAccepted + 1) 65535 ∧ t.tau = s.tau ∧ t.tb = s.tb ∧ t.cu.entries = s.cu.entries ∧ t.cs = s.cs) ∧
    (s.judge { hdr := hdr, rest := rest } = .accepted .serviceReport .report →
      ∃ t r, exec (.serviceReportReceived rest) s = .next t ∧ t.peer hdr.sender = some r ∧ t.lc.slots = s.lc.slots ∧
        r.lastSeq = hdr.sequence.toNat ∧ r.lastHeard = stamp.moment ∧ r.isAwake = true ∧
        t.count .framesAccepted = min (s.count .framesAccepted + 1) 65535 ∧ t.tau = s.tau ∧ t.tb = s.tb ∧ t.cu.entries = s.cu.entries ∧ t.cs = s.cs)

/-- An accepted RANGE REPLY (R63): from the target with the exchange's own t1 and a turnaround of 0 to 471,859 ticks it measures
the delay floor(((t4 − t1) − (t3 − t2)) / 2), clamped to 0..65,535, and the offset, and ends the exchange; another turnaround is
an anomaly that leaves the exchange open; a reply to no exchange is late. -/
def Obligations.ReplyMeasuresTheDelay : Prop :=
  ∀ (s : State) (stamp : RxStamp) (hdr : Header) (rest : List Byte) (b : ReplyBody), s.Receives stamp hdr rest → s.Settled →
    s.pins.lkCd = true → s.judge { hdr := hdr, rest := rest } = .accepted .reply (.reply b) →
    ∃ t, exec (.rangeReplyReceived rest) s = .next t ∧
      (s.tau.probe = none → t.tau = s.tau ∧ t.count .lateReplies = min (s.count .lateReplies + 1) 65535) ∧
      (∀ p x, s.tau.probe = some p → p.target = hdr.sender → p.t1 = some x → x.time = b.t1 →
        (let turn : Int := (b.t3 : Int) - b.t2
         let raw : Int := (((stamp.time : Int) - b.t1) - turn) / 2
         let d : Nat := if raw < 0 then 0 else if 65535 < raw then 65535 else raw.toNat
         (0 ≤ turn → turn ≤ 471859 →
           ∃ r, t.peer hdr.sender = some r ∧ r.ranging = .ranged ∧ r.delay = some d ∧ r.rangeTime = some stamp.moment ∧
             r.attempts = 0 ∧ t.tau.probe = none ∧ t.tau.rest = some { start := s.now, period := secs 1 } ∧
             t.tau.lastExchange = some
               { peer := hdr.sender, delay := d, offset := (((b.t2 : Int) - b.t1) + (b.t3 - stamp.time)) / 2 } ∧
             t.lc.slots = { s.lc.slots with probe := none } ∧
             t.count .rangingAnomalies = (if raw < 0 ∨ 65535 < raw then min (s.count .rangingAnomalies + 1) 65535
               else s.count .rangingAnomalies)) ∧
         (turn < 0 ∨ 471859 < turn →
           t.tau = s.tau ∧ t.count .rangingAnomalies = min (s.count .rangingAnomalies + 1) 65535))) ∧
      t.tb = s.tb ∧ t.rmu = s.rmu ∧ t.td = s.td ∧ t.cu.entries = s.cu.entries ∧ t.bm = s.bm ∧ t.hc = s.hc ∧ t.cs = s.cs

/-- A SERVICE REQUEST at an awake station that sends (R203, R204), whichever of the six rows brings it: it becomes the pending
request in place of another, and its first segment is requested at once; RESTART and an unknown code are answered with one
empty segment flagged last, the unknown one with status UNKNOWN. The data of the first segment: STATUS the group of CS; PEERS
the records of the two lowest ids (R56); EVENTS the only record, its last byte a free value, or without a record four unbound
entries (R140); COUNTERS the first 38 counters as they stood, the frame itself accepted, which the clear option then clears.
That the bytes decide, whichever row brings them, is log entry 13; that an offset is rounded down from the onset held log entry 72; that segments are numbered from 0 log entry 67; the absence
codes are log entry 37, the numbers of values without a code log entry 41, the count of participants, its place and the free
byte log entry 40, no empty segment for the one table that is empty log entry 61. -/
def Obligations.ServiceRequestIsAnsweredAtOnce : Prop :=
  ∀ (s : State) (stamp : RxStamp) (hdr : Header) (rest : List Byte) (q : RequestBody) (c : Instr), s.Receives stamp hdr rest →
    s.Settled → s.pins.lkCd = true → s.awake = true → s.listenOnly = false →
    s.judge { hdr := hdr, rest := rest } = .accepted .serviceRequest (.request q) →
    c = .serviceStatus rest ∨ c = .servicePeers rest ∨ c = .serviceEvents rest ∨ c = .serviceCounters rest ∨
      c = .serviceRestart rest ∨ c = .serviceUnknown rest →
    ∃ t x y, exec c s = .next t ∧ t.cs.pending = some x ∧ t.lc.slots.report = some y ∧ x.code = q.code ∧ x.argument = q.argument ∧ x.nextSegment = 1 ∧
      x.held = false ∧ t.lc.terminalSeq = some hdr.sequence.toNat ∧ t.peers = s.peers ∧
      t.count .requestsTaken = min (s.count .requestsTaken + 1) 65535 ∧
      (s.cs.pending.isSome → t.count .requestsReplaced = min (s.count .requestsReplaced + 1) 65535) ∧
      t.lc.slots = { s.lc.slots with report := some y } ∧ y.moment = s.now ∧
      (q.code = 5 → y.body = [0x05#8, 0x80#8, 0x00#8] ∧ y.last = true) ∧
      (q.code = 0 ∨ 6 ≤ q.code → y.body = [BitVec.ofNat 8 q.code, 0x80#8, 0x01#8] ∧ y.last = true ∧
        t.count .unknownRequests = min (s.count .unknownRequests + 1) 65535) ∧
      (1 ≤ q.code ∧ q.code ≤ 4 →
        y.body.take 3 = [BitVec.ofNat 8 q.code, if y.last then 0x80#8 else 0x00#8, 0x00#8]) ∧
      (let bytes (k n : Nat) : List Byte := (List.range k).map (fun i => BitVec.ofNat 8 (n / 256 ^ (k - 1 - i)))
       let opt (k : Nat) (x : Option Nat) : List Byte := (x.map (bytes k)).getD (List.replicate k 0xFF#8)
       let time (x : StationTime) : List Byte := bytes 4 (x / 1048576) ++ bytes 3 (x % 1048576)
       let timeOpt (x : Option StationTime) : List Byte := (x.map time).getD (List.replicate 7 0xFF#8)
       let seconds (ticks : Nat) : Nat := min 65535 (ticks / 1048576)
       let id (x : Option EventId) : List Byte :=
         (x.map (fun i => bytes 1 i.origin ++ bytes 1 i.seq)).getD [0xFF#8, 0xFF#8]
       let first : List Counter := [.stepsApplied, .calibrationDiscards, .badMarks, .missingMarks, .framesSent, .framesAccepted,
         .discardLength, .discardCrc, .discardKind, .discardSender, .discardMalformed, .discardRepeat, .idConflicts, .staleDrops,
         .busyDeferrals, .peerExpiries, .unansweredProbes, .lateReplies, .rangingAnomalies, .voidedExchanges, .holdovers,
         .hinderedSteps, .partialSets, .timingFaults, .missingSamples, .unalignedSets, .overloadedSets, .faultEntries, .triggers,
         .retriggers, .onsetNoticesReplaced, .overlongReleases, .unconfirmedTriggers, .staleEntries, .recoveredEntries,
         .triggerTableOverflow, .quorums, .declarations]
       let peer (r : PeerRecord) : List Byte :=
         bytes 1 r.id ++ bytes 2 (seconds (r.heldAge.getD (since s.now r.lastHeard))) ++ opt 1 r.code ++
         opt 1 (if r.code.isSome then
           r.mode.map (fun m => match m with | .active => 1 | .economy => 2 | .dormant => 3 | .shelter => 4) else none) ++
         opt 1 (r.cls.map (fun c => match c with | .good => 0 | .lean => 1 | .low => 2 | .critical => 3)) ++
         opt 1 r.distance ++ opt 3 r.quality ++ opt 1 (r.unset.map Bool.toNat) ++
         opt 1 (r.trig.map (fun x => match x with | .stopped => 0 | .settling => 1 | .off => 2 | .on => 3 | .hold => 4)) ++
         timeOpt r.lastOnset ++
         bytes 1 (match r.ranging with | .unranged => 0 | .probing => 1 | .ranged => 2 | .stale => 3 | .unreachable => 4) ++
         opt 2 r.delay ++ opt 2 (r.rangeTime.map (fun m => seconds (since s.now m))) ++
         bytes 1 (match r.grade with | .good => 0 | .marginal => 1 | .poor => 2) ++ bytes 1 r.counted ++ bytes 2 r.ringSum ++
         bytes 1 r.lastSeq
       (q.code = 1 → y.last = false ∧ y.body.drop 3 = bytes 1 s.ownId ++ bytes 1 s.cs.defaulted.toNat ++
         bytes 1 s.cs.clamped.toNat ++ bytes 1 s.lc.idConflict.toNat ++ bytes 1 s.cs.image.ind0 ++ bytes 1 s.cs.image.ind1 ++
         bytes 1 s.cs.image.ind2 ++ bytes 1 s.cs.image.ind3) ∧
       (q.code = 2 → (∀ r ∈ s.peers, 1 ≤ r.id) → (y.last = true ↔ s.peers.length ≤ 2) ∧
         y.body.drop 3 = (s.peers.take 2).flatMap peer) ∧
       (∀ r, q.code = 3 → s.cu.events = [r] → r.parts.length ≤ 14 → (y.last = true ↔ s.cu.entries = []) ∧
         ∃ spare, y.body.drop 3 = id r.id ++
           bytes 1 (match r.state with | .holdoff => 0 | .declared => 1 | .adopted => 2 | .merged => 3 | .closed => 4) ++
           time r.earliest ++ bytes 1 r.parts.length ++
           r.parts.flatMap (fun p =>
             bytes 1 p.station ++ bytes 2 ((p.onset - r.earliest) * 1000 / 1048576) ++ bytes 1 p.peak) ++
           bytes 1 ((r.parts.map Part.peak).foldl max 0) ++ bytes 1 r.update ++ bytes 1 r.declOwed.toNat ++ id r.mergedInto ++
           bytes 1 (match r.uplink with
             | .none => 0 | .queued => 1 | .stacked => 2 | .sending => 3 | .awaiting => 4 | .sent => 5 | .withdrawn => 6
             | .failed => 7) ++
           bytes 2 (seconds (since s.now r.opened)) ++ [spare]) ∧
       (q.code = 3 → s.cu.events = [] → (∀ e ∈ s.cu.entries, e.bound = none) → (y.last = true ↔ s.cu.entries.length ≤ 4) ∧
         y.body.drop 3 = (s.cu.entries.take 4).flatMap (fun e => bytes 1 e.station ++ time e.onset ++ timeOpt e.endAt ++
           bytes 2 0xFFFF ++ bytes 1 e.own.toNat ++ opt 1 e.mask)) ∧
       (q.code = 4 → y.last = false ∧ y.body.drop 3 = first.flatMap (fun k =>
           bytes 2 (if k = .framesAccepted then min (s.count k + 1) 65535 else s.count k)) ∧
         (q.argument % 2 = 1 → t.lc.idConflict = false ∧ ∀ k ∈ first, t.count k = 0) ∧
         (q.argument % 2 = 0 → t.lc.idConflict = s.lc.idConflict ∧ ∀ k ∈ first, k ≠ .framesAccepted → t.count k = s.count k))) ∧
      t.tb = s.tb ∧ t.rmu = s.rmu ∧ t.tau = s.tau ∧ t.td = s.td ∧ t.cu.entries = s.cu.entries ∧ t.bm = s.bm ∧ t.hc = s.hc

/-! ## The Peer Table and Time Agreement (chapters 3 and 4) -/

/-- A record whose age has passed its freshness limit is removed and counted (R51, R50); an open exchange with it is voided
(R65). The premise of an empty event table keeps closures (R136) out. -/
def Obligations.ExpiredPeerIsRemoved : Prop :=
  ∀ (s : State) (id : Nat) (r : PeerRecord), s.Settled → s.cu.events = [] → s.peer id = some r → s.mc.standing.inDormant = false →
    secs (4 * 2 ^ (r.code.getD s.cs.image.b)) < s.peerAge r →
    ∃ t, exec (.peerRecordExpiry id) s = .next t ∧ t.peers = s.peers.filter (fun x => x.id ≠ id) ∧
      t.count .peerExpiries = min (s.count .peerExpiries + 1) 65535 ∧
      (∀ p, s.tau.probe = some p → p.target = id →
        t.tau.probe = none ∧ t.tau.rest = some { start := s.now, period := secs 1 } ∧
        t.count .voidedExchanges = min (s.count .voidedExchanges + 1) 65535 ∧
        t.count .unansweredProbes = s.count .unansweredProbes) ∧
      ((∀ p, s.tau.probe = some p → p.target ≠ id) → t.tau = s.tau) ∧
      t.tb = s.tb ∧ t.rmu = s.rmu ∧ t.td = s.td ∧ t.cu = s.cu ∧ t.bm = s.bm ∧ t.hc = s.hc ∧ t.cs = s.cs

/-- The ages of a range (R58): a RANGED record at 4096 s becomes STALE and keeps its delay; an UNREACHABLE one at 1024 s becomes
UNRANGED with no attempts and no range time; before its age neither changes. -/
def Obligations.RangeAgesMoveTheRecord : Prop :=
  ∀ (s : State) (id : Nat) (r : PeerRecord) (m : Elapsed), s.peer id = some r → r.rangeTime = some m →
    (r.ranging = .ranged → secs 4096 ≤ since s.now m →
      ∃ t, exec (.rangeAgeStale id) s = .next t ∧ t.peer id = some { r with ranging := .stale } ∧
        (∀ x, x ≠ id → t.peer x = s.peer x) ∧ t = s.setPeers t.peers) ∧
    (r.ranging = .unreachable → secs 1024 ≤ since s.now m →
      ∃ t, exec (.unreachableHoldEnd id) s = .next t ∧
        t.peer id = some { r with ranging := .unranged, attempts := 0, rangeTime := none } ∧
        (∀ x, x ≠ id → t.peer x = s.peer x) ∧ t = s.setPeers t.peers) ∧
    ((r.ranging ≠ .ranged ∨ since s.now m < secs 4096) → exec (.rangeAgeStale id) s = .next s) ∧
    ((r.ranging ≠ .unreachable ∨ since s.now m < secs 1024) → exec (.unreachableHoldEnd id) s = .next s)

/-- The choice of a probe target (R59): an awake record of grade GOOD, UNRANGED or STALE, of which none has an older range, a
record without a range time being the oldest and the lower id deciding between equals, is PROBING, and the probe is requested;
without such a record, or where one of the other conditions fails, nothing changes. The probe timeout (R64, R58): 500 ms after
the choice the exchange ends unanswered; the target goes back to its prior state with one more attempt, and at the third it is
UNREACHABLE without a delay. -/
def Obligations.ProbesGoOutAndTimeOut : Prop :=
  (∀ r : PeerRecord, r.choosable = true ↔
    (r.mode = some .active ∨ r.mode = some .economy) ∧ r.grade = .good ∧ (r.ranging = .unranged ∨ r.ranging = .stale)) ∧
  ((∀ s : State, s.Settled → s.pins.lkCd = true → s.tau.probe = none → (∀ x, s.tau.rest = some x → x.due s.now = true) →
     s.awake = true → s.tb.source = .fast → s.listenOnly = false → s.peers.any PeerRecord.choosable = true →
     ∃ t r, exec .probeTargetChoice s = .next t ∧ r ∈ s.peers ∧ r.isAwake = true ∧ r.grade = .good ∧
       (r.ranging = .unranged ∨ r.ranging = .stale) ∧
       (∀ x ∈ s.peers, x.choosable = true →
         (r.rangeTime = none → x.rangeTime = none → r.id ≤ x.id) ∧
         (∀ m, r.rangeTime = some m → ∃ k, x.rangeTime = some k ∧
           (since s.now k < since s.now m ∨ (since s.now k = since s.now m ∧ r.id ≤ x.id)))) ∧
       t.tau = { s.tau with
         probe := some { target := r.id, prior := r.ranging, chosenAt := s.now, t1 := none }, rest := none } ∧
       t.lc.slots = { s.lc.slots with probe := some { moment := s.now, target := r.id } } ∧
       (∀ x ∈ t.peers, x.id = r.id → x.ranging = .probing) ∧ (∀ id, id ≠ r.id → t.peer id = s.peer id) ∧
       t.tb = s.tb ∧ t.cu.entries = s.cu.entries ∧ t.td = s.td) ∧
   (∀ s : State, s.Rested → (s.peers.any PeerRecord.choosable = false ∨ s.tau.probe.isSome ∨ s.awake = false ∨
       s.tb.source ≠ .fast ∨ s.listenOnly = true ∨ ∃ x, s.tau.rest = some x ∧ x.due s.now = false) →
     exec .probeTargetChoice s = .next s)) ∧
  (∀ (s : State) (p : ProbeSlot) (r : PeerRecord), s.Rested → s.tau.probe = some p → s.peer p.target = some r →
     (millis 500 ≤ since s.now p.chosenAt →
       ∃ t, exec .probeTimeout s = .next t ∧
         t.peer p.target = some (if r.attempts + 1 < 3 then { r with attempts := r.attempts + 1, ranging := p.prior }
           else { r with attempts := r.attempts + 1, ranging := .unreachable, delay := none, rangeTime := some s.now }) ∧
         (∀ id, id ≠ p.target → t.peer id = s.peer id) ∧
         t.tau = { s.tau with probe := none, rest := some { start := s.now, period := secs 1 } } ∧
         t.count .unansweredProbes = min (s.count .unansweredProbes + 1) 65535 ∧
         t.lc.slots = { s.lc.slots with probe := none } ∧ t.tb = s.tb ∧ t.cu = s.cu ∧ t.td = s.td) ∧
     (since s.now p.chosenAt < millis 500 → exec .probeTimeout s = .next s))

/-- A steering instant (R68 to R73, R9, R10, R12): on a source that is not FAST it waits. Else the offset O decides: below 2^p it
slews, from 2^p on it steps, which cuts the heaters' frames (R180), or is hindered: not while unset, else while the trigger is ON or
HOLD, an event stands open or a transfer is SENDING. Against a locked
receiver the set is its one to three kept offsets, and a step moves them by −O (R17); with the receiver not locked, the sources are
the eligible samples (R67) of the least announced distance g, with the own clock among them where g is 15. O is the median of the
set; without a source R_phase is 0, the distance 15, and the rest stays. The quality and the distance are written by R73. That the
cut drops the carried count first is log entry 31; the mark `steered` is log entry 45; that the last-results record counts the kept
offsets of a reference is log entry 74. -/
def Obligations.SteeringInstantDecides : Prop :=
  (∀ s : State, s.hindered = true ↔
    (s.tb.unset = false ∧
     ((s.td.state = .on ∨ s.td.state = .hold) ∨
      (∃ r ∈ s.cu.events, r.state = .holdoff ∨ r.state = .declared ∨ r.state = .adopted) ∨ s.uc.modem = .sending))) ∧
  (∀ (s : State) (r : PeerRecord), s.eligible r = true ↔
    (r.isAwake = true ∧ r.grade = .good ∧
     (r.ranging = .ranged ∨ r.ranging = .stale ∨
       (r.ranging = .probing ∧ ∃ p, s.tau.probe = some p ∧ p.target = r.id ∧ p.prior = .stale)) ∧
     (r.unset = some false ∨
       (s.tb.unset = true ∧ (∀ x ∈ s.peers, x.unset ≠ some false) ∧ r.unset = some true)) ∧
     ∃ o, r.sample = some o ∧ (s.tb.unset = false → o.natAbs < 1073741824))) ∧
  (∀ s : State, s.Settled → s.awake = true → timerDue s.tau.steerTimer s.now = true →
    (s.tb.source ≠ .fast → exec .steeringInstant s = .next (s.setTau { s.tau with steerWaiting := true })) ∧
    (s.tb.source = .fast → ∃ t, exec .steeringInstant s = .next t ∧ t.tb.elapsed = s.tb.elapsed ∧ t.tb.cSlow = s.tb.cSlow ∧
      t.tau.steerTimer = some { start := s.now, period := secs (2 ^ s.cs.image.k) } ∧ t.tau.steerWaiting = false ∧
      (∀ r ∈ t.peers, r.sample = none) ∧
      (let median (xs : List Int) : Int :=
         if xs.length % 2 = 1 then xs.getD (xs.length / 2) 0
         else (xs.getD (xs.length / 2 - 1) 0 + xs.getD (xs.length / 2) 0) / 2
       let decided (o : Int) : Prop :=
         (o.natAbs < 2 ^ s.cs.image.p →
           t.tb.time = s.tb.time ∧ t.tb.rBase = clampInt (s.tb.rBase + o * 2 ^ (10 - s.cs.image.k)) (-214748) 214748 ∧
           t.tb.rPhase = o * 2 ^ (11 - s.cs.image.k) ∧ t.tb.pendingStep = none ∧ t.hc = s.hc ∧
           t.tau.lastInstant.map (fun x => x.outcome) = some .slew) ∧
         (2 ^ s.cs.image.p ≤ o.natAbs →
           (s.hindered = false →
             (t.tb.time : Int) = clampInt (s.tb.time + o) 0 maxTime ∧ t.tb.rBase = s.tb.rBase ∧ t.tb.rPhase = 0 ∧
             t.tb.pendingStep = none ∧ t.count .stepsApplied = min (s.count .stepsApplied + 1) 65535 ∧ t.tau.probe = none ∧
             t.tau.lastInstant.map (fun x => x.outcome) = some .step ∧
             (s.tb.time + o ≤ maxTime → 0 ≤ s.tb.time + o →
               t.td.lastOnset = none ∧ (s.si.grid = .tracking → t.si.grid = .unaligned) ∧
               t.count .frameCuts = min (s.count .frameCuts + 1) 65535 ∧
               t.hc.b.pos = none ∧ t.hc.s.pos = none ∧
               ∀ h : HeaterId,
                 (let x := s.heater h
                  let y := t.heater h
                  let limit := match h with | .b => s.cs.image.deferB | .s => s.cs.image.deferS
                  let rises (k : HeaterCount) : Prop := t.count (heaterCounter h k) = min (s.count (heaterCounter h k) + 1) 65535
                  let stands (k : HeaterCount) : Prop := t.count (heaterCounter h k) = s.count (heaterCounter h k)
                  y.level = .off ∧ y.carried = none ∧ y.onTime = x.onTime ∧ y.onFrac = x.onFrac ∧ stands .cancelled ∧
                  (x.edge = some .off → y.edge = some .off ∧ y.output = x.output ∧ y.deferral = x.deferral ∧ stands .taken) ∧
                  (x.edge ≠ some .off → x.output = false → y.edge = none ∧ y.output = false ∧ stands .taken) ∧
                  (x.edge ≠ some .off → x.output = true →
                    (s.hot = false ∨ limit = 0 → y.edge = none ∧ y.output = false ∧ rises .taken ∧ stands .deferred) ∧
                    (s.hot = true → limit ≠ 0 →
                      y.edge = some .off ∧ y.output = true ∧ y.deferral = 0 ∧ rises .deferred ∧ stands .taken))))) ∧
           (s.hindered = true →
             t.tb.time = s.tb.time ∧ t.tb.rBase = s.tb.rBase ∧ t.tb.pendingStep = some (if 0 ≤ o then .plus else .minus) ∧
             t.tau.lastInstant.map (fun x => x.outcome) = some .hindered ∧ t.hc = s.hc ∧
             t.count .hinderedSteps = min (s.count .hinderedSteps + 1) 65535))
       (∀ offsets : List Int, s.rmu.state = .locked → 1 ≤ s.rmu.offsets.length → s.rmu.offsets.length ≤ 3 →
         offsets.Perm s.rmu.offsets → offsets.Pairwise (fun a b => a ≤ b) →
         (let o := median offsets
          t.tb.quality = min (o.natAbs + 2) 16777215 ∧ t.tb.distance = 0 ∧ t.tb.unset = false ∧ decided o ∧
          t.tau.lastInstant.map (fun x => (x.offset, x.source, x.count, x.g)) =
            some (some o, .reference, s.rmu.offsets.length, none) ∧
          (2 ^ s.cs.image.p ≤ o.natAbs → s.hindered = false → s.tb.time + o ≤ maxTime → 0 ≤ s.tb.time + o →
            t.rmu.offsets = s.rmu.offsets.map (fun x => x - o)))) ∧
       (∀ (g : Nat) (offsets : List Int) (best : Nat), s.rmu.state ≠ .locked → g ≤ 15 →
         (∃ r ∈ s.peers, s.eligible r = true ∧ r.distance = some g) →
         (∀ r ∈ s.peers, s.eligible r = true → g ≤ r.distance.getD 0) →
         (let near : List PeerRecord := s.peers.filter (fun r => s.eligible r && r.distance == some g)
          let sources : List (Int × Nat) := near.map (fun r => (r.sample.getD 0, r.quality.getD 0)) ++
            (if g = 15 then [(0, s.tb.quality)] else [])
          let o := median offsets
          let hindered : Prop := 2 ^ s.cs.image.p ≤ o.natAbs ∧ s.hindered = true
          offsets.Perm (sources.map (fun x => x.1)) → offsets.Pairwise (fun a b => a ≤ b) →
          (∃ x ∈ sources, x.2 = best) → (∀ x ∈ sources, best ≤ x.2) →
            decided o ∧ t.tb.unset = false ∧ t.tb.distance = min 15 (g + 1) ∧
            (¬ hindered → (t.tb.quality : Int) = min (best + (offsets.getLastD 0 - offsets.headD 0) / 2 + 1) 16777215) ∧
            (hindered →
              (t.tb.quality : Int) = min (best + (offsets.getLastD 0 - offsets.headD 0) / 2 + 1 + o.natAbs) 16777215) ∧
            t.tau.lastInstant.map (fun x => (x.offset, x.source, x.count, x.g)) =
              some (some o, if g = 15 then .freeRun else .peers, offsets.length, some g)))) ∧
      (s.rmu.state ≠ .locked → (∀ r ∈ s.peers, s.eligible r = false) →
        t.tb = { s.tb with rPhase := 0, pendingStep := none, distance := 15 } ∧
        t.count .holdovers = min (s.count .holdovers + 1) 65535 ∧ t.rmu = s.rmu ∧
        t.tau.lastInstant.map (fun x => x.outcome) = some .holdover)))

/-! ## Samples and triggers (chapters 5 and 6) -/

/-- The ten bytes of a set (R79, section 5.2): Z, N and E in three bytes each, most significant first, in two's complement, and the
status byte with the overload flags of Z, N and E and the calibration-active flag from bit 0 up, its bits 4 to 7 ignored. A complete
set against the grid (R81 to R84, R79), in ACTIVE with class GOOD, its 80 bits brought in one run of edges from the framed first bit
on or the last of them behind those already in the buffer (R77; a framed first bit cuts a set in progress, which is counted, R78;
runs of edges are log entry 43): in OFF the port is not taken; in UNALIGNED the set is counted as unaligned; with the expected
slot's window open and not closed it is on-grid, is stamped and, in TRACKING or as the second of a run in FAULT, handed on; before the window it is a timing fault, the third of a run giving FAULT. A set that completes when the windows of the
expected slot, and of others behind it, have ended first closes them in ascending order, each slot counted missing and the good
run of FAULT made 0 (R85), and is judged against the first slot whose window has not ended; that all of them close in one step is
log entry 34. A set handed on to a running detector (R87, R90, R94, R97 to R101) passes each channel through `Channel.take`, whose arithmetic
`Obligations.TriggerTimersEndTheTrigger` states, under the effective ratios and after the blanking of a calibration-active set;
then the channels that are ON vote: the vote ends the settling, starts the trigger with its entry and its notice, widens its
mask and peak, turns it to HOLD (OFF where H is 0), or retriggers it. That its notice stands in the slot is stated on a busy
medium, that the event tables stay with UP_RDY low too; the latency and the quorum lie in the ranges of R200
(`Obligations.ImageOfAnyBlockIsLegal`). -/
def Obligations.SetsAreJudgedAgainstTheGrid : Prop :=
  (∀ set : Vector Byte 10,
    (let y (i : Nat) : Nat := (set.toList.getD i 0).toNat
     let value (i : Nat) : Int :=
       ((65536 * y i + 256 * y (i + 1) + y (i + 2) : Nat) : Int) - (if 128 ≤ y i then 16777216 else 0)
     let flag (i : Nat) : Bool := y 9 / 2 ^ i % 2 = 1
     decodeSet set.toList = { z := value 0, n := value 3, e := value 6, overZ := flag 0, overN := flag 1, overE := flag 2,
                              calibration := flag 3 })) ∧
  (∀ (s : State) (set : Vector Byte 10) (edges : List PortEdge), s.Steady →
    (s.si.grid = .off → exec (.sampleSetComplete edges) s = .next s) ∧
    (s.si.grid ≠ .off → s.Completes edges set → ∃ t, exec (.sampleSetComplete edges) s = .next t ∧ t.si.bitCount = 80 ∧
      t.si.buffer = set.toList.flatMap bitsOf ∧
      t.count .partialSets = (if (edges.map PortEdge.frm).head? = some true ∧ 1 ≤ s.si.bitCount ∧ s.si.bitCount ≤ 79
        then min (s.count .partialSets + 1) 65535 else s.count .partialSets) ∧
      t.mc.standing = .active ∧ t.tb = s.tb ∧ t.rmu = s.rmu ∧ t.bm = s.bm ∧ t.hc = s.hc ∧
      t.count .overloadedSets = (if (set.toList.getD 9 0).toNat % 8 = 0 then s.count .overloadedSets
        else min (s.count .overloadedSets + 1) 65535) ∧
      (s.si.grid = .unaligned → t.count .unalignedSets = min (s.count .unalignedSets + 1) 65535 ∧ t.td = s.td ∧
        t.si.grid = .unaligned ∧ t.si.faultRun = s.si.faultRun) ∧
      (∀ g0 g, s.si.grid ≠ .unaligned → s.si.slot = some g0 →
        (let rate := sampleRate s.cs.image.sampleCode
         let number (x : GridSlot) : Nat := x.sec * rate + x.index
         let expected (x : GridSlot) : Nat := x.sec * 1048576 + x.index * 1048576 / rate + s.cs.image.latency
         let e := expected g
         let tol := 1048576 / (8 * rate)
         let goodRun := if s.si.grid = .fault ∧ g ≠ g0 then 0 else s.si.goodRun
         (g = g0 ∨ (g0.index < rate ∧ g.index < rate ∧ number g0 < number g ∧
           ∀ x : GridSlot, x.index < rate → number g0 ≤ number x → number x < number g → expected x + tol < s.tb.time)) →
         s.tb.time ≤ e + tol →
         t.count .missingSamples = (if g = g0 then s.count .missingSamples
           else min (s.count .missingSamples + (number g - number g0)) 65535) ∧
         (e ≤ s.tb.time + tol →
           t.si.faultRun = 0 ∧
           t.si.slot = some (if g.index + 1 < rate then { sec := g.sec, index := g.index + 1 } else { sec := g.sec + 1, index := 0 }) ∧
           t.count .timingFaults = s.count .timingFaults ∧
           (s.si.grid = .tracking → t.si.grid = .tracking ∧ t.si.lastHanded = some (g.sec * 1048576 + g.index * 1048576 / rate)) ∧
           (s.si.grid = .fault → goodRun = 0 → t.si.grid = .fault ∧ t.si.goodRun = 1 ∧ t.td = s.td ∧
             t.si.lastHanded = s.si.lastHanded) ∧
           (s.si.grid = .fault → goodRun = 1 → t.si.grid = .tracking ∧ t.si.faultHeld = false ∧
             t.si.lastHanded = some (g.sec * 1048576 + g.index * 1048576 / rate)) ∧
           (s.si.grid = .tracking ∨ goodRun = 1 →
             (s.td.state = .stopped → t.td = s.td) ∧
             (s.td.state ≠ .stopped →
               (let grid := g.sec * 1048576 + g.index * 1048576 / rate
                let w := decodeSet set.toList
                let rOn := min 255 (s.cs.image.rOn + s.td.trim)
                let cfg : ChanCfg := { h := s.cs.image.h, aS := s.cs.image.aS, aL := s.cs.image.aL, floor := s.cs.image.floor
                                       rOn := rOn, rOff := min (rOn - 1) (s.cs.image.rOff + s.td.trim)
                                       rQuiet := min rOn (s.cs.image.rQuiet + s.td.trim) }
                let before (c : Channel) : Channel :=
                  if w.calibration ∧ c.state ≠ .stopped then { c with blank := max c.blank 1 } else c
                let on (c : Channel) : Nat := if c.state = .on then 1 else 0
                let high (c : Channel) : Nat := if c.state = .on then c.ratio else 0
                let fresh (b c : Channel) : Nat := if (b.state = .quiet ∨ b.state = .on) ∧ (before b).blank = 0 then high c else 0
                let k := min s.cs.image.vote s.enabledCount
                let vote := on t.td.z + on t.td.n + on t.td.e
                let mask := on t.td.z + 2 * on t.td.n + 4 * on t.td.e
                let running : Prop := t.td.onset = s.td.onset ∧ t.td.lastOnset = s.td.lastOnset ∧
                  t.td.mask = some (s.td.mask.getD 0 ||| mask) ∧
                  t.td.peak = max s.td.peak (max (fresh s.td.z t.td.z) (max (fresh s.td.n t.td.n) (fresh s.td.e t.td.e)))
                let unchanged : Prop := t.td.onset = s.td.onset ∧ t.td.lastOnset = s.td.lastOnset ∧ t.td.mask = s.td.mask ∧
                  t.td.peak = s.td.peak ∧ t.count .triggers = s.count .triggers ∧
                  (s.pins.lkCd = true → s.pins.upRdy = false → t.cu = s.cu)
                t.td.z = ((before s.td.z).take cfg s.td.overlong w.z w.overZ).1 ∧
                t.td.n = ((before s.td.n).take cfg s.td.overlong w.n w.overN).1 ∧
                t.td.e = ((before s.td.e).take cfg s.td.overlong w.e w.overE).1 ∧ t.td.lastSet = some grid ∧
                (s.td.state = .settling → unchanged ∧
                  t.td.state = (if t.td.z.state = .settling ∨ t.td.n.state = .settling ∨ t.td.e.state = .settling then .settling
                    else .off)) ∧
                (s.td.state = .off → vote < k → unchanged ∧ t.td.state = .off) ∧
                (s.td.state = .off → k ≤ vote →
                  t.td.state = .on ∧ t.td.onset = some grid ∧ t.td.lastOnset = some grid ∧ t.td.mask = some mask ∧
                  t.td.peak = max (high t.td.z) (max (high t.td.n) (high t.td.e)) ∧ t.td.void = false ∧ t.td.endAt = none ∧
                  t.td.overlong = false ∧ t.td.overTimer = some { start := s.now, period := secs s.cs.image.tMax } ∧
                  t.td.outstanding = some s.now ∧ t.count .triggers = min (s.count .triggers + 1) 65535 ∧
                  (s.pins.lkCd = true → s.listenOnly = false → t.lc.slots.notice = some { moment := s.now, notice :=
                    { kind := .onset, onset := grid, mask := mask, peak := t.td.peak, duration := 0 } }) ∧
                  (s.cu.entries = [] → s.cu.events = [] → 2 ≤ s.cs.image.quorum → s.cs.image.latency ≤ 262143 → t.cu.entries =
                    [{ station := s.ownId, onset := grid, mask := some mask, peak := t.td.peak, endAt := none, bound := none,
                       own := true, confirmed := false }])) ∧
                (s.td.state = .on → running ∧
                  (k ≤ vote → t.td.state = .on ∧ t.td.endAt = s.td.endAt ∧ t.td.overTimer = s.td.overTimer ∧
                    t.td.overlong = s.td.overlong) ∧
                  (vote < k → t.td.overTimer = none ∧ t.td.overlong = false ∧
                    (s.cs.image.hold ≠ 0 → t.td.state = .hold ∧ t.td.endAt = some grid ∧
                      t.td.holdTimer = some { start := s.now, period := secs s.cs.image.hold }) ∧
                    (s.cs.image.hold = 0 → t.td.state = .off ∧ t.td.endAt = none ∧ t.td.holdTimer = none))) ∧
                (s.td.state = .hold → running ∧
                  (k ≤ vote → t.td.state = .on ∧ t.td.endAt = none ∧ t.td.holdTimer = none ∧
                    t.td.overTimer = some { start := s.now, period := secs s.cs.image.tMax } ∧
                    t.count .retriggers = min (s.count .retriggers + 1) 65535 ∧
                    (s.pins.lkCd = true → s.pins.upRdy = false → t.cu = s.cu) ∧
                    (s.pins.lkCd = true → t.lc.slots.notice = s.lc.slots.notice)) ∧
                  (vote < k → t.td.state = .hold ∧ t.td.endAt = s.td.endAt ∧ t.td.holdTimer = s.td.holdTimer)))))) ∧
         (s.tb.time + tol < e →
           t.count .timingFaults = min (s.count .timingFaults + 1) 65535 ∧ t.si.slot = some g ∧ t.td = s.td ∧
           (s.si.grid = .tracking → s.si.faultRun < 2 → t.si.grid = .tracking ∧ t.si.faultRun = s.si.faultRun + 1) ∧
           (s.si.grid = .tracking → s.si.faultRun = 2 → t.si.grid = .fault ∧ t.si.faultHeld = true ∧ t.si.goodRun = 0 ∧
             t.count .faultEntries = min (s.count .faultEntries + 1) 65535) ∧
           (s.si.grid = .fault → t.si.grid = .fault ∧ t.si.goodRun = 0))))))

/-- The port is framed by position alone (R77, R78). At one edge of DIG_CLK with SI taking the port: a framed bit begins a new set,
and a set in progress, with 1 to 79 of its bits taken, is discarded as partial and counted; an unframed bit joins the set in progress,
the 80th of which `Obligations.SetsAreJudgedAgainstTheGrid` states; before the first framed bit and after the 80th it is taken into
no set; nothing else changes, so no slot, no fault and no run does. In OFF no edge is taken (R88). A run of edges is its edges one
after the other, a PARTIAL_SET ends with a framed edge, and the edges, not the row that brings them, decide (log entry 43). The slot
of a partial set becomes a missing sample at the close of the window (R85); SI starts unframed with an empty buffer, and a set in progress when the port stops being
taken is discarded without a count (R88). -/
def Obligations.PartialSetIsDiscarded : Prop :=
  (∀ (s : State) (e : PortEdge),
    (let gives (t : State) : Prop :=
       exec (.sampleSetComplete [e]) s = .next t ∧ (e.frm = true → exec (.partialSet [] e.bit) s = .next t)
     let inSet : Prop := 1 ≤ s.si.bitCount ∧ s.si.bitCount ≤ 79
     let fresh := s.setSi { s.si with bitCount := 1, buffer := [e.bit] }
     (s.si.grid = .off → gives s) ∧
     (s.si.grid ≠ .off → e.frm = true → inSet → gives (bump .partialSets fresh)) ∧
     (s.si.grid ≠ .off → e.frm = true → ¬ inSet → gives fresh) ∧
     (s.si.grid ≠ .off → e.frm = false → 1 ≤ s.si.bitCount → s.si.bitCount < 79 →
       gives (s.setSi { s.si with bitCount := s.si.bitCount + 1, buffer := s.si.buffer ++ [e.bit] })) ∧
     (s.si.grid ≠ .off → e.frm = false → ¬ inSet → gives s))) ∧
  (∀ (s : State) (a b : List PortEdge) (first : Bool), ∃ t, exec (.sampleSetComplete a) s = .next t ∧
    exec (.sampleSetComplete (a ++ b)) s = exec (.sampleSetComplete b) t ∧
    exec (.partialSet a first) s = exec (.partialSet [] first) t) ∧
  (∀ (s : State) (g : GridSlot), s.si.slot = some g →
    (let rate := sampleRate s.cs.image.sampleCode
     let close := g.sec * 1048576 + g.index * 1048576 / rate + s.cs.image.latency + 1048576 / (8 * rate)
     (close < s.tb.time → ∃ t, exec .missingSample s = .next t ∧
       t.count .missingSamples = min (s.count .missingSamples + 1) 65535 ∧
       t.si = { s.si with
         slot := some (if g.index + 1 < rate then { sec := g.sec, index := g.index + 1 } else { sec := g.sec + 1, index := 0 })
         goodRun := if s.si.grid = .fault then 0 else s.si.goodRun } ∧
       t = (s.setSi t.si).setCounters t.counters) ∧
     (s.tb.time ≤ close → exec .missingSample s = .next s))) ∧
  (∀ s : State, (siStop s).si.grid = .off ∧ (siStop s).si.bitCount = 0 ∧ (siStop s).si.buffer = [] ∧
    (siStop s).counters = s.counters ∧ (siStart s).si.bitCount = 0 ∧ (siStart s).si.buffer = [])

/-- One sample through a channel that is not STOPPED (R91 to R96): the first initialises it; the mean, the averages and the blanking
count follow the sample; a SETTLING channel counts down, a held one keeps its standing, another compares. And the hold and overlong
timers of a trigger (R102, R103, R104), in ACTIVE with class GOOD on a busy medium with UP_RDY low:
the hold's expiry turns the trigger OFF and, unless it is void, requests an END notice with its duration, replacing an ONSET
that still waits; the overlong expiry sets the flag and is counted. -/
def Obligations.TriggerTimersEndTheTrigger : Prop :=
  (∀ (cfg : ChanCfg) (overlong : Bool) (c : Channel) (x : Int) (ovl : Bool), c.state ≠ .stopped →
    (let m0 := if c.init then c.m else 256 * x
     let s0 := if c.init then c.s else 0
     let l0 := if c.init then c.l else 0
     let m1 := if ovl then m0 else m0 + (x * 256 - m0) / 2 ^ cfg.h
     let d : Int := if ovl then 8388607 else x - m1 / 256
     let held : Prop := 0 < c.blank
     let v : Int := if held then l0 / 256 else min (d.natAbs : Int) 8388607
     let s1 := s0 + (v * 256 - s0) / 2 ^ cfg.aS
     let l1 := max (if c.state = .on ∧ overlong = false then l0 else l0 + (v * 256 - l0) / 2 ^ cfg.aL) (256 * (cfg.floor : Int))
     let y := (c.take cfg overlong x ovl).1
     y.init = true ∧ y.m = m1 ∧ y.s = s1 ∧ y.l = l1 ∧ y.blank = c.blank - 1 ∧
     (c.state = .settling → y.settle = c.settle - 1 ∧ y.warm = c.warm ∧ y.ratio = c.ratio ∧
       y.state = (if c.settle ≤ 1 then .quiet else .settling)) ∧
     (c.state ≠ .settling → y.settle = c.settle ∧
       (held → y.state = c.state ∧ y.warm = c.warm ∧ y.ratio = c.ratio) ∧
       (¬ held → (y.state = .on ∨ y.state = .quiet) ∧
         (c.state = .quiet → (y.state = .on ↔ l1 * cfg.rOn ≤ s1 * 16)) ∧
         (c.state = .on → (y.state = .on ↔ l1 * cfg.rOff ≤ s1 * 16)) ∧
         (y.warm = true ↔ l1 * cfg.rQuiet ≤ s1 * 16) ∧
         (y.state = .on → (y.ratio : Int) = if l1 = 0 then 255 else min 255 (s1 * 16 / l1)) ∧
         (y.state = .quiet → y.ratio = c.ratio))))) ∧
  (∀ (s : State) (o e : StationTime), s.Steady → s.td.state = .hold → timerDue s.td.holdTimer s.now = true → s.td.onset = some o →
    s.td.endAt = some e → s.pins.lkCd = true → s.pins.upRdy = false → s.listenOnly = false → o ≤ e →
    ∃ t, exec .holdTimerExpiry s = .next t ∧ t.td.state = .off ∧ t.td.holdTimer = none ∧ t.td.endAt = none ∧
      t.td.onset = some o ∧ t.td.lastOnset = s.td.lastOnset ∧
      (s.td.void = false → t.lc.slots.notice = some { moment := s.now, notice :=
        { kind := .finish, onset := o, mask := s.td.mask.getD 0, peak := s.td.peak
          duration := min ((e - o) * 10 / 1048576) 65535 } } ∧
        (∀ q, s.td.outstanding.isSome → s.lc.slots.notice = some q → q.notice.kind = .onset →
          t.td.outstanding = none ∧ t.count .onsetNoticesReplaced = min (s.count .onsetNoticesReplaced + 1) 65535)) ∧
      (s.td.void = true → t.lc.slots = s.lc.slots ∧ t.cu = s.cu)) ∧
  (∀ s : State, s.td.state = .on → timerDue s.td.overTimer s.now = true →
    exec .overlongExpiry s = .next (bump .overlongReleases (s.setTd { s.td with overlong := true, overTimer := none })))

/-! ## Coincidence (chapter 7) -/

/-- Retention (R120, R108), with UP_RDY low and a busy medium, so that no transfer and no transmission starts: exactly the
unbound entries whose onset is older than W_c + 30 s leave; each own unconfirmed one is reported, which raises the trim by 4 and
the counter by one. The trim (R108, R109): at each expiry of the decay timer it falls by 4, held at 0, and the timer starts
again from zero; an unconfirmed report raises it by 4, held at 64, is counted, and restarts the timer, whichever of the two
comes first. -/
def Obligations.RetentionAndDecayMoveTheTrim : Prop :=
  (∀ s : State, s.Settled → s.pins.lkCd = true → s.pins.upRdy = false → s.td.trim ≤ 64 → s.count .unconfirmedTriggers ≤ 65535 →
     ∃ t, exec .entryRetentionExpiry s = .next t ∧
       (let old (e : Entry) : Prop := e.bound = none ∧ e.onset + secs s.cs.image.wc + secs 30 < s.tb.time
        let n := s.cu.entries.countP (fun e => e.bound.isNone && decide (e.onset + secs s.cs.image.wc + secs 30 < s.tb.time) &&
          e.own && !e.confirmed)
        (∀ e, e ∈ t.cu.entries ↔ e ∈ s.cu.entries ∧ ¬ old e) ∧
        t.td.trim = min 64 (s.td.trim + 4 * n) ∧ t.count .unconfirmedTriggers = min 65535 (s.count .unconfirmedTriggers + n)) ∧
       t.cu.events = s.cu.events ∧ t.cu.ownEventSeq = s.cu.ownEventSeq ∧ t.td.state = s.td.state ∧ t.tb = s.tb ∧ t.peers = s.peers ∧
       t.bm = s.bm) ∧
  ((∀ s : State, timerDue s.td.trimTimer s.now = true →
     exec .trimDecayExpiry s = .next (s.setTd { s.td with
       trim := if s.td.trim < 4 then 0 else s.td.trim - 4, trimTimer := some { start := s.now, period := secs 3600 } })) ∧
   (∀ s : State, (tdUnconfirmed s).td = { s.td with
       trim := min 64 (s.td.trim + 4), trimTimer := some { start := s.now, period := secs 3600 } } ∧
     (tdUnconfirmed s).count .unconfirmedTriggers = min (s.count .unconfirmedTriggers + 1) 65535 ∧
     exec .trimDecayExpiry (tdUnconfirmed s) = .next (tdUnconfirmed s)))

/-- The holdoff expiry (R128, R130) of the only record, in ACTIVE with class GOOD: it becomes DECLARED under the own id and the
own event sequence, which rises by one modulo 256, and owes a declaration; its entries are confirmed; the standing request
waits. Beside a live record within W_c it is dissolved instead (R128, R135, R120): its entries, and no others, are offered to that
record, and any unbound entry past retention is removed. At a station with an uplink, with UP_RDY low (R138, R142 to R145), the
declared record's EVENT takes its place in the uplink queue behind the EVENTs there; a full queue gives up its waiting HEALTH alert
for it, or the EVENT is stacked. -/
def Obligations.HoldoffEndsInADeclaration : Prop :=
  (∀ (s : State) (r : EventRec), s.Steady → s.pins.lkCd = true → s.listenOnly = false → s.cs.image.uplink = false →
    s.cu.events = [r] → r.state = .holdoff → timerDue r.holdoff s.now = true →
    ∃ t, exec .holdoffExpiry s = .next t ∧
      t.cu.events = [{ r with
        state := .declared, id := some { origin := s.ownId, seq := s.cu.ownEventSeq }, declOwed := true, holdoff := none }] ∧
      t.cu.ownEventSeq = (s.cu.ownEventSeq + 1) % 256 ∧ t.count .declarations = min (s.count .declarations + 1) 65535 ∧
      (∀ e, e ∈ t.cu.entries ↔ ∃ x ∈ s.cu.entries, e = if x.bound = some r.rid then { x with confirmed := true } else x) ∧
      t.lc.slots.declaration.isSome ∧ t.mc.standing = .active ∧ t.tb = s.tb ∧ t.td = s.td ∧ t.peers = s.peers ∧ t.bm = s.bm) ∧
  (∀ (s : State) (r x : EventRec), s.Steady → s.pins.lkCd = true → s.listenOnly = false → s.cs.image.uplink = false →
    s.cu.events = [r, x] ∨ s.cu.events = [x, r] → r.rid ≠ x.rid → r.state = .holdoff → timerDue r.holdoff s.now = true →
    x.state = .declared ∨ x.state = .adopted → timeGap x.earliest r.earliest ≤ secs s.cs.image.wc →
    ∃ t y, exec .holdoffExpiry s = .next t ∧ t.cu.events = [y] ∧ y.rid = x.rid ∧ y.state = x.state ∧ y.id = x.id ∧
      (∀ p ∈ x.parts, p ∈ y.parts) ∧ t.cu.ownEventSeq = s.cu.ownEventSeq ∧
      t.count .holdoffsDissolved = min (s.count .holdoffsDissolved + 1) 65535 ∧ t.count .declarations = s.count .declarations ∧
      (∀ e ∈ s.cu.entries,
        (let stale : Prop := e.onset + secs s.cs.image.wc + secs 30 < s.tb.time
         (e.bound = none → (e ∈ t.cu.entries ↔ ¬ stale)) ∧
         (e.bound = some x.rid → e ∈ t.cu.entries) ∧
         (e.bound = some r.rid → { e with bound := some x.rid, confirmed := true } ∈ t.cu.entries ∨
           if stale then { e with bound := none } ∉ t.cu.entries else { e with bound := none } ∈ t.cu.entries))) ∧
      t.mc.standing = .active ∧ t.tb = s.tb ∧ t.peers = s.peers ∧ t.bm = s.bm) ∧
  (∀ (s : State) (r : EventRec), s.Steady → s.pins.lkCd = true → s.pins.upRdy = false → s.listenOnly = false →
    s.cs.image.uplink = true → s.uc.healthDue = false → s.cu.events = [r] → r.state = .holdoff → timerDue r.holdoff s.now = true →
    (∀ a ∈ s.uc.queue, a.rid ≠ some r.rid ∧ a.id ≠ some { origin := s.ownId, seq := s.cu.ownEventSeq }) →
    (∀ z ∈ s.uc.stacked, z.rid ≠ r.rid) →
    (let id : EventId := { origin := s.ownId, seq := s.cu.ownEventSeq }
     let alert : Alert := { kind := .event, rid := some r.rid, id := some id, update := r.update, enqueued := s.now, attempts := 0,
                            turn := .ready, retryWait := none, withdrawn := false }
     let placed (q : List Alert) : List Alert :=
       q.takeWhile (fun a => a.kind == .event) ++ [alert] ++ q.dropWhile (fun a => a.kind == .event)
     let gives (a : Alert) : Bool := a.kind == .health && (a.turn == .ready || a.turn == .retry)
     let y : EventRec := { r with state := .declared, id := some id, declOwed := true, holdoff := none }
     ∃ t, exec .holdoffExpiry s = .next t ∧ t.mc.standing = .active ∧ t.lc.slots.declaration.isSome ∧
       t.cu.ownEventSeq = (s.cu.ownEventSeq + 1) % 256 ∧ t.tb = s.tb ∧ t.td = s.td ∧ t.peers = s.peers ∧ t.bm = s.bm ∧
       (s.uc.queue.length ≤ 7 → t.uc.queue = placed s.uc.queue ∧ t.uc.stacked = s.uc.stacked ∧
         t.cu.events = [{ y with uplink := .queued }]) ∧
       (8 ≤ s.uc.queue.length → s.uc.queue.any gives = true →
         t.uc.queue = placed (s.uc.queue.filter (fun a => !gives a)) ∧ t.uc.stacked = s.uc.stacked ∧
         t.cu.events = [{ y with uplink := .queued }] ∧
         t.count .healthEvictions = min (s.count .healthEvictions + 1) 65535) ∧
       (8 ≤ s.uc.queue.length → s.uc.queue.any gives = false →
         t.uc.queue = s.uc.queue ∧ t.uc.stacked = s.uc.stacked ++ [{ kind := .event, rid := r.rid, retracts := none }] ∧
         t.cu.events = [{ y with uplink := .stacked, owedUplink := some r.update }] ∧
         t.count .stacks = min (s.count .stacks + 1) 65535)))

/-- Closure (R136, R137), in ACTIVE with class GOOD on a busy medium with UP_RDY low: the test closes exactly the live records
whose stations all stand OFF and whose close delay has passed since the last END, the maximum life exactly those whose age has
reached it; a closed record is finished now and owes nothing. The linger (R124, R120): exactly the CLOSED and MERGED records
with nothing left on the uplink and W_c + 30 s past their finished time are removed, each with the entries bound to it; a record
the uplink still carries stays. -/
def Obligations.ClosureAndLingerEndTheRecords : Prop :=
  (∀ s : State, s.Steady → s.pins.lkCd = true → s.pins.upRdy = false →
     (∃ t, exec .eventCloseTest s = .next t ∧
       t.cu = { s.cu with events := s.cu.events.map (fun r =>
         if r.state.live &&
             r.parts.all (fun p => if p.station = s.ownId then !(s.td.state == .on || s.td.state == .hold) else
               !((s.peer p.station).any (fun x => x.trig == some .on || x.trig == some .hold))) &&
             decide (secs s.cs.image.closeDelay ≤ since s.now r.lastEnd)
           then { r with state := .closed, finished := some s.now, declOwed := false } else r) } ∧
       t.mc.standing = .active ∧ t.tb = s.tb ∧ t.td = s.td ∧ t.peers = s.peers ∧ t.bm = s.bm) ∧
     (∃ t, exec .maximumLifeExpiry s = .next t ∧
       t.cu = { s.cu with events := s.cu.events.map (fun r =>
         if r.state.live && decide (secs s.cs.image.maxLife ≤ since s.now r.opened)
           then { r with state := .closed, finished := some s.now, declOwed := false } else r) } ∧
       t.mc.standing = .active ∧ t.tb = s.tb ∧ t.td = s.td ∧ t.peers = s.peers ∧ t.bm = s.bm)) ∧
  (∀ s : State, s.Steady → s.pins.lkCd = true → s.pins.upRdy = false → (s.cu.events.map (fun r => r.rid)).Nodup →
     ∃ t, exec .recordLingerEnd s = .next t ∧
       (let gone (r : EventRec) : Prop := (r.state = .closed ∨ r.state = .merged) ∧
           (r.uplink = .none ∨ r.uplink = .sent ∨ r.uplink = .withdrawn ∨ r.uplink = .failed) ∧
           ∃ m, r.finished = some m ∧ secs s.cs.image.wc + secs 30 ≤ since s.now m
        (∀ r, r ∈ t.cu.events ↔ r ∈ s.cu.events ∧ ¬ gone r) ∧
        (∀ e, e ∈ t.cu.entries ↔ e ∈ s.cu.entries ∧ ¬ ∃ r ∈ s.cu.events, gone r ∧ e.bound = some r.rid)) ∧
       t.mc.standing = .active ∧ t.tb = s.tb ∧ t.td = s.td ∧ t.peers = s.peers ∧ t.bm = s.bm)

/-! ## The uplink (chapter 8) -/

/-- The timers of the uplink (R142, R144, R147, R152): the HEALTH interval raises one HEALTH alert, or drops it with the class
LOW or CRITICAL, and starts again; a retry wait makes its alert READY; warm-up goes to READY-WAIT with a head and to IDLE
without; after the off time the modem warms up again; after 30 s of an empty queue it is powered down. -/
def Obligations.UplinkTimersMoveTheModem : Prop :=
  (∀ s : State, s.Steady → s.cs.image.uplink = true → timerDue s.uc.healthTimer s.now = true → s.uc.queue = [] → s.uc.modem = .off →
    ∃ t, exec .healthTimerExpiry s = .next t ∧
      t.uc.queue = [{ kind := .health, rid := none, id := none, update := 0, enqueued := s.now, attempts := 0, turn := .ready,
                      retryWait := none, withdrawn := false }] ∧
      t.uc.healthTimer = some { start := s.now, period := secs (3600 * s.cs.image.healthHours) } ∧
      t.uc.modem = .warmUp ∧ t.uc.modemTimer = some { start := s.now, period := secs s.cs.image.modemWarmUp } ∧
      t.outputs.upPwr = true ∧ t.mc.standing = .active) ∧
  (∀ s : State, s.Rested → s.cs.image.uplink = true → timerDue s.uc.healthTimer s.now = true → (s.bm.cls = .low ∨ s.bm.cls = .critical) →
    exec .healthTimerExpiry s = .next (bump .healthDrops (s.setUc { s.uc with
      healthTimer := some { start := s.now, period := secs (3600 * s.cs.image.healthHours) } }))) ∧
  (∀ (s : State) (a : Alert) (w : Timer), s.Settled → s.uc.queue = [a] → a.turn = .retry → a.retryWait = some w → w.due s.now = true →
    s.uc.modem = .warmUp →
    ∃ t, exec .retryWaitEnd s = .next t ∧ t.uc = { s.uc with queue := [{ a with turn := .ready, retryWait := none }] } ∧
      t.tb = s.tb ∧ t.bm = s.bm ∧ t.mc.standing = s.mc.standing) ∧
  (∀ s : State, s.Settled → s.awake = true → s.cs.image.uplink = true → s.uc.modem = .warmUp → timerDue s.uc.modemTimer s.now = true →
    s.pins.upRdy = false →
    ∃ t, exec .modemWarmUpExpiry s = .next t ∧
      t.uc = { s.uc with
        modem := if s.uc.head.isSome then .readyWait else .idle
        modemTimer := if s.uc.head.isSome then some { start := s.now, period := secs 60 }
          else if s.uc.queue = [] then some { start := s.now, period := secs 30 } else none } ∧
      t.tb = s.tb ∧ t.bm = s.bm ∧ t.mc.standing = s.mc.standing) ∧
  (∀ s : State, s.uc.modem = .powerCycle → timerDue s.uc.modemTimer s.now = true →
    exec .powerCycleEnd s = .next (s.setUc { s.uc with
      modem := .warmUp, modemTimer := some { start := s.now, period := secs s.cs.image.modemWarmUp } })) ∧
  (∀ s : State, s.uc.modem = .idle → s.uc.queue = [] → timerDue s.uc.modemTimer s.now = true →
    exec .powerDownDelayExpiry s = .next (s.setUc { s.uc with modem := .off, modemTimer := none }))

/-- A transfer (R147, R149, R150, R151): UP_RDY starts the head's with a HEADER stamped with the record's update number; each
fetch adds the next segment as its owner stands, or cuts the transfer where the record's id, update number or count has changed;
after the sum the modem waits 2 s for a reply. On the line (R149, R151, R153, R157) stand SOH, the length byte and the payload,
then CAN where the transfer is cut, and the two bytes of the sum where every segment is fetched (log entries 39 and 55). A fetch
notes its moment, the bytes left of the segment before, 7 at most, and its own (log entry 55). The offset of a participant is rounded
down from the onset the record holds, a rebuilt one too (R113; log entry 72). The 24 bytes of a HEALTH segment
(R149), in which an absent temperature is -32,768 and an absent voltage or current 0 (R162). -/
def Obligations.TransferSendsTheChain : Prop :=
  (∀ x : Transfer,
    (let l := match x.kind with | .event => 22 + 4 * x.count | .update => 22 + 4 * x.count | .retract => 14 | .health => 36
     let sum := (x.payload.map (fun b => b.toNat)).sum
     let start := [0x01#8, BitVec.ofNat 8 l] ++ x.payload
     (x.cut.isSome → x.line = start ++ [0x18#8]) ∧
     (x.cut = none → x.fetched < x.segments → x.line = start) ∧
     (x.cut = none → x.fetched = x.segments → x.line = start ++ [BitVec.ofNat 8 (sum / 256), BitVec.ofNat 8 sum]))) ∧
  (∀ s : State, (s.uc.transfer = none → s.uplinkLine = []) ∧ ∀ x, s.uc.transfer = some x → s.uplinkLine = x.line) ∧
  (∀ (s : State) (a : Alert), s.Settled → s.uc.modem = .readyWait → s.uc.head = some a →
    ∃ t x, exec .upRdyRise s = .next t ∧ t.uc.transfer = some x ∧ t.pins = { s.pins with upRdy := true } ∧
      t.uc.modem = .sending ∧ t.uc.modemTimer = none ∧ t.uc.busyCount = 0 ∧ x.kind = a.kind ∧ x.rid = a.rid ∧ x.id = a.id ∧
      x.fetched = 0 ∧ x.cut = none ∧ x.last = none ∧
      (∃ y ∈ t.uc.queue, y = { a with turn := .sending, update := x.update }) ∧
      x.payload = [BitVec.ofNat 8 (match a.kind with | .event => 1 | .retract => 2 | .update => 3 | .health => 4),
          BitVec.ofNat 8 s.ownId, BitVec.ofNat 8 (a.id.elim 0 EventId.origin), BitVec.ofNat 8 (a.id.elim 0 EventId.seq),
          BitVec.ofNat 8 x.update] ++ timeBytes s.tb.time ∧
      ((a.kind = .health ∨ a.kind = .retract) → x.update = 0 ∧ x.segments = 1) ∧
      (∀ k r, (a.kind = .event ∨ a.kind = .update) → a.rid = some k → s.rec? k = some r →
        x.update = r.update ∧ x.count = r.parts.length ∧ x.segments = r.parts.length + 1) ∧ t.tb = s.tb ∧ t.bm = s.bm) ∧
  (∀ s : State, s.uc.modem ≠ .readyWait → exec .upRdyRise s = .next (s.setPins { s.pins with upRdy := true })) ∧
  (∀ r : EventRec,
    eventHead r = timeBytes r.earliest ++ [BitVec.ofNat 8 r.parts.length, BitVec.ofNat 8 ((r.parts.map Part.peak).foldl max 0),
      BitVec.ofNat 8 (match r.state with | .declared => 1 | .adopted => 2 | _ => 3)] ∧
    (∀ i p, r.parts[i]? = some p → (let ms := (p.onset - r.earliest) * 1000 / 1048576
      partSegment r i = [BitVec.ofNat 8 p.station, BitVec.ofNat 8 (ms / 256), BitVec.ofNat 8 ms, BitVec.ofNat 8 p.peak]))) ∧
  (∀ (s : State) (mode : OpMode), s.mc.standing.mode = some mode →
    (let byte (n : Nat) : Byte := BitVec.ofNat 8 n
     let two (n : Int) : List Byte := [BitVec.ofInt 8 (n / 256), BitVec.ofInt 8 n]
     let bit (p : Prop) [Decidable p] (n : Nat) : Nat := if p then n else 0
     s.healthSegment = [byte (match mode with | .active => 1 | .economy => 2 | .dormant => 3 | .shelter => 4),
         byte (match s.bm.cls with | .good => 0 | .lean => 1 | .low => 2 | .critical => 3), BitVec.ofInt 8 s.bm.soc,
         byte (bit (s.bm.anchored = true) 1 + bit (s.bm.stale = true) 2 + bit (s.bm.chargeEn = true) 4 + bit (s.pins.chgAvl = true) 8 +
           bit (s.rmu.state = .locked) 16 + bit (s.cs.defaulted = true) 32)] ++
       two (s.bm.v.getD 0) ++ two (max (-32768) (min 32767 (s.bm.i.getD 0))) ++ two (s.bm.temp.getD (-32768)) ++
       two (s.bm.tempA.getD (-32768)) ++ two (s.bm.tempB.getD (-32768)) ++ two s.hc.b.onTime ++ two s.hc.s.onTime ++
       [byte (s.tb.quality / 65536), byte (s.tb.quality / 256), byte s.tb.quality, byte s.tb.distance, byte s.peers.length,
         byte s.uc.queue.length])) ∧
  (∀ (s : State) (x : Transfer), s.uc.modem = .sending → s.uc.transfer = some x → x.cut = none → x.fetched < x.segments →
    (let fetch (bytes : List Byte) (size : Nat) : Transfer :=
       { x with fetched := x.fetched + 1, payload := x.payload ++ bytes,
                last := some { moment := s.now, size := size, left := (match x.last with | none => 7 | some f => min 7 f.size) } }
     let gives (y : Transfer) : Prop := exec .segmentFetch s = .next (s.setUc { s.uc with transfer := some y })
     (∀ k r, (x.kind = .event ∨ x.kind = .update) → x.rid = some k → s.rec? k = some r →
      ((r.id = x.id ∧ r.update = x.update ∧ r.parts.length = x.count) →
        gives (if x.fetched = 0 then fetch (eventHead r) 10 else fetch (partSegment r (x.fetched - 1)) 4)) ∧
      ((r.id ≠ x.id ∨ r.update ≠ x.update ∨ r.parts.length ≠ x.count) →
        gives { x with cut := some .change })) ∧
     (∀ k r, x.kind = .retract → x.rid = some k → s.rec? k = some r →
      (let winner := if r.state = .merged then r.mergedInto else r.id
       gives (fetch [BitVec.ofNat 8 (winner.elim 0 EventId.origin), BitVec.ofNat 8 (winner.elim 0 EventId.seq)] 2))) ∧
     (x.kind = .health →
       gives { fetch s.healthSegment 24 with onTimes := some (s.hc.b.onTime, s.hc.s.onTime) }))) ∧
  (∀ (s : State) (x : Transfer) (a : Alert), s.uc.modem = .sending → s.uc.transfer = some x → x.cut = none → x.fetched = x.segments →
    s.uc.queue = [a] → a.turn = .sending →
    ∃ t, exec .messageSumSent s = .next t ∧
      t.uc = { s.uc with
        modem := .awaiting, modemTimer := some { start := s.now, period := secs 2 }, queue := [{ a with turn := .awaiting }] } ∧
      t.tb = s.tb ∧ t.bm = s.bm ∧ t.mc = s.mc ∧ t.lc = s.lc)

/-- The reply to the only alert, in ACTIVE with class GOOD and nothing stacked (R152, R146, R181): an ACK takes it out as SENT,
a HEALTH alert's on-times being taken off and a report's record being delivered; a NAK or the reply limit fails one attempt,
below 5 with a retry wait of 30 s, at 5 as FAILED; any other byte is ignored. For the report of the only record, with UP_RDY
low: an ACK under an id the record has left behind leaves an EVENT under its id and a RETRACT of the former one (R154); a NAK or
the reply limit there leaves the alert as an EVENT under the new id or, at the fifth attempt, FAILED, and of a delivered record a
RETRACT of the former id, the flag being cleared (what the fifth attempt leaves is log entry 79); an ACK
of a withdrawn alert leaves a RETRACT (R153). That the NAK of a withdrawn alert of a record delivered before leaves a RETRACT then,
and that of another record nothing, is the model's (log entry 28; of AWAITING R153 names the ACK). A HEALTH alert that leaves
a queue of eight, or a shorter one, behind others that wait, as SENT or as FAILED, makes room for the only stacked entry, which
enters in its place under its record's owed update number (R145). -/
def Obligations.ReplySettlesTheAlert : Prop :=
  (∀ (s : State) (x : Transfer) (a : Alert), s.Steady → s.cs.image.uplink = true → s.pins.lkCd = true → s.uc.modem = .awaiting →
    s.uc.transfer = some x → s.uc.queue = [a] → a.turn = .awaiting → s.uc.stacked = [] → s.uc.healthDue = false →
    (∀ b : Byte, b ≠ 0x06#8 → b ≠ 0x15#8 → exec (.uplinkReply b) s = .next s) ∧
    (a.kind = .health → a.rid = none → a.withdrawn = false →
      (∀ p q, x.onTimes = some (p, q) → ∃ t, exec (.uplinkReply 0x06#8) s = .next t ∧ t.uc.queue = [] ∧ t.uc.transfer = none ∧
        t.uc.modem = .idle ∧ t.uc.modemTimer = some { start := s.now, period := secs 30 } ∧
        t.hc.b.onTime = s.hc.b.onTime - p ∧ t.hc.s.onTime = s.hc.s.onTime - q ∧
        t.count .acknowledgedAlerts = min (s.count .acknowledgedAlerts + 1) 65535 ∧ t.mc.standing = .active) ∧
      (∃ t, exec (.uplinkReply 0x15#8) s = .next t ∧ t.count .naks = min (s.count .naks + 1) 65535 ∧ t.uc.transfer = none ∧
        t.uc.modem = .idle ∧
        (a.attempts < 4 → t.uc.queue = [{ a with
          attempts := a.attempts + 1, turn := .retry, retryWait := some { start := s.now, period := secs 30 } }]) ∧
        (a.attempts = 4 → t.uc.queue = [] ∧ t.count .failedAlerts = min (s.count .failedAlerts + 1) 65535)) ∧
      (timerDue s.uc.modemTimer s.now = true → ∃ t, exec .replyLimitExpiry s = .next t ∧
        t.count .replyTimeouts = min (s.count .replyTimeouts + 1) 65535 ∧ t.uc.transfer = none ∧ t.uc.modem = .idle ∧
        (a.attempts < 4 → t.uc.queue = [{ a with
          attempts := a.attempts + 1, turn := .retry, retryWait := some { start := s.now, period := secs 30 } }]) ∧
        (a.attempts = 4 → t.uc.queue = [] ∧ t.count .failedAlerts = min (s.count .failedAlerts + 1) 65535))) ∧
    (∀ r, (a.kind = .event ∨ a.kind = .update) → a.rid = some r.rid → s.cu.events = [r] → r.state.live = true → a.id = r.id →
      a.withdrawn = false → r.update = x.update →
      ∃ t, exec (.uplinkReply 0x06#8) s = .next t ∧ t.uc.queue = [] ∧ t.uc.modem = .idle ∧
        t.cu.events = [{ r with delivered := true, uplink := .sent }] ∧
        t.count .acknowledgedAlerts = min (s.count .acknowledgedAlerts + 1) 65535)) ∧
  (∀ (s : State) (x : Transfer) (a : Alert) (r : EventRec), s.Steady → s.cs.image.uplink = true → s.pins.lkCd = true →
    s.pins.upRdy = false → s.uc.modem = .awaiting → s.uc.transfer = some x → s.uc.queue = [a] → a.turn = .awaiting →
    s.uc.stacked = [] → (a.kind = .event ∨ a.kind = .update) → a.rid = some r.rid → s.cu.events = [r] →
    (let fresh (kind : AlertKind) (id : Option EventId) (update : Nat) : Alert :=
       { kind := kind, rid := some r.rid, id := id, update := update, enqueued := s.now, attempts := 0, turn := .ready,
         retryWait := none, withdrawn := false }
     (a.withdrawn = false → r.state.live = true → a.id ≠ r.id →
       ∃ t, exec (.uplinkReply 0x06#8) s = .next t ∧ t.uc.queue = [fresh .event r.id r.update, fresh .retract a.id 0] ∧
         t.cu.events = [{ r with delivered := false, uplink := .queued }] ∧ t.uc.modem = .readyWait ∧
         t.uc.modemTimer = some { start := s.now, period := secs 60 } ∧ t.uc.transfer = none ∧
         t.count .acknowledgedAlerts = min (s.count .acknowledgedAlerts + 1) 65535) ∧
     (a.withdrawn = false → r.state.live = true → a.id ≠ r.id → ∀ c k, (c = .uplinkReply 0x15#8 ∧ k = Counter.naks) ∨
       (c = .replyLimitExpiry ∧ k = .replyTimeouts ∧ timerDue s.uc.modemTimer s.now = true) →
       ∃ t, exec c s = .next t ∧ t.count k = min (s.count k + 1) 65535 ∧ t.uc.transfer = none ∧
         (let retract := if r.delivered then [fresh .retract a.id 0] else []
          (a.attempts < 4 → t.uc.queue = { a with
              kind := .event, id := r.id, attempts := a.attempts + 1, turn := .retry
              retryWait := some { start := s.now, period := secs 30 } } :: retract ∧
            t.cu.events = [{ r with delivered := false, uplink := .queued }]) ∧
          (a.attempts = 4 → t.uc.queue = retract ∧ t.count .failedAlerts = min (s.count .failedAlerts + 1) 65535 ∧
            t.cu.events = [{ r with delivered := false, uplink := if r.delivered then .queued else .failed }]))) ∧
     (a.withdrawn = true → r.state = .merged → a.id = r.id →
       (∃ t, exec (.uplinkReply 0x06#8) s = .next t ∧ t.uc.queue = [fresh .retract r.id 0] ∧
         t.cu.events = [{ r with delivered := true, uplink := .queued }] ∧ t.uc.modem = .readyWait ∧
         t.count .acknowledgedAlerts = min (s.count .acknowledgedAlerts + 1) 65535) ∧
       (∃ t, exec (.uplinkReply 0x15#8) s = .next t ∧ t.uc.queue = (if r.delivered then [fresh .retract r.id 0] else []) ∧
         t.count .naks = min (s.count .naks + 1) 65535 ∧ t.count .failedAlerts = s.count .failedAlerts ∧
         (r.delivered = true → t.cu.events = [{ r with uplink := .queued }]))))) ∧
  (∀ (s : State) (x : Transfer) (a : Alert) (others : List Alert) (z : Stacked) (r : EventRec) (byte : Byte), s.Steady →
    s.cs.image.uplink = true → s.pins.lkCd = true → s.pins.upRdy = false → s.uc.modem = .awaiting → s.uc.transfer = some x →
    s.uc.queue = others ++ [a] → others.length ≤ 7 → (∀ y ∈ others, y.turn = .ready ∨ y.turn = .retry) → a.turn = .awaiting →
    a.kind = .health → a.rid = none → a.withdrawn = false → s.uc.healthDue = false → s.uc.stacked = [z] → z.rid = r.rid →
    r ∈ s.cu.events → (s.cu.events.map EventRec.rid).Nodup → r.state.live = true ∨ (z.kind = .retract ∧ r.state = .merged) →
    byte = 0x06#8 ∨ (byte = 0x15#8 ∧ a.attempts = 4) →
    ∃ t b r', exec (.uplinkReply byte) s = .next t ∧ t.uc.stacked = [] ∧ t.uc.transfer = none ∧ t.uc.modem = .readyWait ∧
      b.rid = some r.rid ∧ b.enqueued = s.now ∧ b.attempts = 0 ∧ b.turn = .ready ∧ b.withdrawn = false ∧
      (let before (y : Alert) : Bool := match b.kind with
         | .event => y.kind == .event
         | .retract => y.kind == .event || y.kind == .retract
         | .update => y.kind != .health
         | .health => true
       t.uc.queue = others.takeWhile before ++ [b] ++ others.dropWhile before) ∧
      r' ∈ t.cu.events ∧ r'.uplink = .queued ∧
      (z.kind = .event ∨ z.kind = .update →
        b.kind = (if r.delivered then .update else .event) ∧ b.id = r.id ∧ b.update = r.owedUplink.getD r.update ∧
        r' = { r with owedUplink := none, uplink := .queued }) ∧
      (z.kind = .retract → b.kind = .retract ∧ b.id = z.retracts ∧ b.update = 0 ∧ r' = { r with uplink := .queued }) ∧
      (byte = 0x06#8 → t.count .acknowledgedAlerts = min (s.count .acknowledgedAlerts + 1) 65535) ∧
      (byte = 0x15#8 → t.count .failedAlerts = min (s.count .failedAlerts + 1) 65535))

/-- A CAN sent after a change puts the alert back to READY with its attempts and enqueue time (R151), after a withdrawal it
takes the alert out (R153); one whose record has a new id goes back as an EVENT under it (R154; its kind is log entry 73); the
busy limit power-cycles the modem once, and at its second in a row fails one attempt of the head (R148). A withdrawal report (R153) takes a waiting report alert out as WITHDRAWN, followed by a RETRACT of a delivered
record, cuts one in SENDING and marks one in AWAITING; a change-of-id report (R154) gives a waiting report alert the new id, a
delivered record's as an EVENT beside a RETRACT of the former id, raises that EVENT where none waits, and leaves an AWAITING
alert to its reply. Both are stated of the operations, for the only record and at most one alert. The restart is counted when
the CAN has been sent (log entry 25); a withdrawal cuts the transfer also while its sum is on the line (log entry 54) and in
place of a cut on change (log entry 56); a segment fetched and not yet current, by the bytes of 10 bit periods that were left
before it, is not sent (log entry 55). -/
def Obligations.CutsAndBusyLimitsReturnTheAlert : Prop :=
  (∀ (s : State) (a : Alert) (r : EventRec), s.cs.image.uplink = true → s.uc.stacked = [] → s.cu.events = [r] →
    (a.kind = .event ∨ a.kind = .update) → a.rid = some r.rid →
    (let fresh (kind : AlertKind) (id : Option EventId) (update : Nat) : Alert :=
       { kind := kind, rid := some r.rid, id := id, update := update, enqueued := s.now, attempts := 0, turn := .ready,
         retryWait := none, withdrawn := false }
     let t := ucWithdraw r.rid s
     (s.uc.queue = [a] → a.turn = .ready ∨ a.turn = .retry →
       (r.delivered = false → t.uc.queue = [] ∧ t.cu.events = [{ r with uplink := .withdrawn, owedUplink := none }]) ∧
       (r.delivered = true → t.uc.queue = [fresh .retract r.id 0] ∧
         t.cu.events = [{ r with uplink := .queued, owedUplink := none }])) ∧
     (s.uc.queue = [a] → a.turn = .sending → ∀ x, s.uc.transfer = some x →
       (let rate := match s.cs.image.uplinkCode with | 0 => 9600 | 1 => 19200 | _ => 57600
        let ahead (f : Fetch) : Prop := since s.now f.moment * rate < f.left * 10 * 1048576
        (x.cut = none → ∀ f, x.last = some f → ahead f → t.uc = { s.uc with transfer := some { x with
          cut := some .withdrawal, fetched := x.fetched - 1, payload := x.payload.take (x.payload.length - f.size) } }) ∧
        ((x.cut.isSome ∨ ∀ f, x.last = some f → ¬ ahead f) →
          t.uc = { s.uc with transfer := some { x with cut := some .withdrawal } }))) ∧
     (s.uc.queue = [a] → a.turn = .awaiting → t.uc = { s.uc with queue := [{ a with withdrawn := true }] }) ∧
     (s.uc.queue = [] → r.delivered = true → t.uc.queue = [fresh .retract r.id 0]) ∧
     (∀ former : Option EventId,
       (let t := ucChangeId r.rid former s
        (s.uc.queue = [a] → a.turn = .awaiting → t = s) ∧
        (s.uc.queue = [a] → a.turn = .ready ∨ a.turn = .retry →
          (r.delivered = false → t.uc = { s.uc with queue := [{ a with id := r.id }] } ∧ t.cu = s.cu) ∧
          (r.delivered = true → t.cu.events = [{ r with delivered := false, uplink := .queued }] ∧
            t.uc.queue = [{ a with id := r.id, kind := .event }, fresh .retract former 0])) ∧
        (s.uc.queue = [a] → a.turn = .sending →
          (r.delivered = false → t.uc = s.uc) ∧
          (r.delivered = true → (∀ b, b ∈ t.uc.queue ↔ b = a ∨ b = fresh .retract former 0) ∧
            ∃ r', t.cu.events = [r'] ∧ r'.delivered = false)) ∧
        (s.uc.queue = [] → r.delivered = true →
          t.uc.queue = [fresh .event r.id r.update, fresh .retract former 0] ∧
          t.cu.events = [{ r with delivered := false, uplink := .queued }]))))) ∧
  (∀ (s : State) (x : Transfer) (a : Alert) (r : EventRec), s.Steady → s.cs.image.uplink = true → s.pins.lkCd = true →
    s.pins.upRdy = false → s.uc.modem = .sending → s.uc.transfer = some x → s.uc.queue = [a] → s.uc.stacked = [] →
    a.turn = .sending → (a.kind = .event ∨ a.kind = .update) → a.rid = some r.rid → s.cu.events = [r] →
    (x.cut = some .change → a.id = r.id ∨ r.delivered = false → ∃ t, exec .canSent s = .next t ∧
      t.uc.queue = [{ a with turn := .ready, withdrawn := false, id := r.id, kind := if a.id = r.id then a.kind else .event }] ∧
      t.uc.transfer = none ∧ t.uc.modem = .readyWait ∧ t.uc.modemTimer = some { start := s.now, period := secs 60 } ∧
      t.count .restartsOnChange = min (s.count .restartsOnChange + 1) 65535) ∧
    (x.cut = some .withdrawal → r.delivered = false → ∃ t, exec .canSent s = .next t ∧ t.uc.queue = [] ∧ t.uc.transfer = none ∧
      t.uc.modem = .idle ∧ t.uc.modemTimer = some { start := s.now, period := secs 30 } ∧
      t.count .withdrawalsInTransfer = min (s.count .withdrawalsInTransfer + 1) 65535)) ∧
  (∀ s : State, s.Settled → s.uc.modem = .readyWait → timerDue s.uc.modemTimer s.now = true → s.uc.busyCount = 0 →
    ∃ t, exec .busyLimitExpiry s = .next t ∧
      t.uc = { s.uc with modem := .powerCycle, modemTimer := some { start := s.now, period := secs 2 }, busyCount := 1 } ∧
      t.outputs.upPwr = false ∧ t.count .busyTimeouts = min (s.count .busyTimeouts + 1) 65535 ∧
      t.count .powerCycles = min (s.count .powerCycles + 1) 65535 ∧ t.tb = s.tb ∧ t.bm = s.bm) ∧
  (∀ (s : State) (a : Alert), s.Steady → s.cs.image.uplink = true → s.pins.lkCd = true → s.uc.modem = .readyWait →
    timerDue s.uc.modemTimer s.now = true → s.uc.busyCount = 1 → s.uc.queue = [a] → a.turn = .ready → a.kind = .health →
    a.rid = none → a.attempts < 4 →
    ∃ t, exec .busyLimitExpiry s = .next t ∧
      t.uc.queue = [{ a with
        attempts := a.attempts + 1, turn := .retry, retryWait := some { start := s.now, period := secs 30 } }] ∧
      t.uc.busyCount = 0 ∧ t.uc.modem = .idle ∧ t.outputs.upPwr = true ∧
      t.count .busyTimeouts = min (s.count .busyTimeouts + 1) 65535 ∧ t.count .powerCycles = s.count .powerCycles)

/-! ## Battery and heaters (chapters 9 and 10) -/

/-- A poll (R158, R159, R189): with no former transaction standing the three devices are requested, the timer starts with the
mode's period of 10, 30, 120 or 600 s, and in DORMANT and SHELTER the poll joins the brief-run users; a battery transaction that
still stands makes its part an overrun, short of the tenth in a row, which may change the class (R161). What counts as an
overrun is log entry 29. -/
def Obligations.PollRequestsTheThreeDevices : Prop :=
  ∀ (s : State) (m : OpMode), s.Settled → timerDue s.bm.pollTimer s.now = true → s.mc.standing.mode = some m →
    s.twm.busyFor .tempA = false → s.twm.busyFor .tempB = false → (s.twm.busyFor .battery = true → s.bm.staleCount < 9) →
    ∃ t, exec .batteryPoll s = .next t ∧ t.twm.busyFor .battery = true ∧ t.twm.busyFor .tempA = true ∧ t.twm.busyFor .tempB = true ∧
      t.bm.pollTimer = some
        { start := s.now, period := secs (match m with | .active => 10 | .economy => 30 | .dormant => 120 | .shelter => 600) } ∧
      t.bm.lastPoll = some s.now ∧ ((m = .dormant ∨ m = .shelter) → t.mc.users.poll = true) ∧
      (s.twm.busyFor .battery = false → t.bm.staleCount = s.bm.staleCount ∧ t.count .pollOverruns = s.count .pollOverruns) ∧
      (s.twm.busyFor .battery = true → t.bm.staleCount = s.bm.staleCount + 1 ∧
        t.count .pollOverruns = min (s.count .pollOverruns + 1) 65535)

/-- What a good poll does to the Battery Monitor, for every battery, class and mode (R163 to R168): at the first since POWER-ON
there is no reference, the interval is 0 and the class takes the candidate directly; the charge is counted and clamped; a full
anchor, else an empty one, sets the count, the flag and its counter; SOC follows the count; the candidate is CRITICAL at the cutoff,
and else follows SOC while anchored and the voltage estimate while unanchored through the bands of R166; and a class that changes is
counted. A good poll, on a busy medium with UP_RDY low, of an anchored battery that leaves the class GOOD (R160, R163 to R165, R168):
Δt in whole seconds with the rest carried, the charge at 15/16, clamped to [0, Qcap], a full anchor where it stands, SOC, and
the charge enable by the temperature window, the overtemperature test of HTR_B last (R174, which
`Obligations.FailuresAndTemperaturesAreCounted` states; log entry 58); and the class rule of R167 over all classes and figures. -/
def Obligations.GoodPollCountsTheCharge : Prop :=
  (∀ (s : State) (x : Reading),
    (let t := goodPoll x s
     let i := s.cs.image
     let dt : Nat := match s.bm.eRef with
       | some e => since s.now e / 1048576
       | none => 0
     let cap : Int := i.capacity * 3600000
     let counted : Int := max 0 (min cap (s.bm.q + (if 0 < x.i then x.i * dt * 15 / 16 else x.i * dt)))
     let full : Prop := (i.vFull : Int) ≤ x.v ∧ 0 ≤ x.i ∧ x.i ≤ i.iTaper
     let empty : Prop := ¬ full ∧ x.v ≤ i.vEmpty
     let estimate : Int := max 0 (min 100 ((x.v - i.vEmpty) * 100 / ((i.vFull : Int) - i.vEmpty)))
     let figure : Int := if t.bm.anchored then t.bm.soc else estimate
     let candidate : BatClass :=
       if x.v ≤ i.vCutoff then .critical else if 50 ≤ figure then .good else if 25 ≤ figure then .lean
       else if 10 ≤ figure then .low else .critical
     t.bm.v = some x.v ∧ t.bm.i = some x.i ∧ t.bm.temp = some x.t ∧ t.bm.staleCount = 0 ∧ t.bm.stale = false ∧
     (∀ e, s.bm.eRef = some e → t.bm.eRef = some (e + BitVec.ofNat 48 (dt * 1048576))) ∧
     (s.bm.eRef = none → t.bm.eRef = some s.now) ∧
     (full → t.bm.q = cap ∧ t.bm.anchored = true ∧ t.count .fullAnchors = min (s.count .fullAnchors + 1) 65535 ∧
       t.count .emptyAnchors = s.count .emptyAnchors) ∧
     (empty → t.bm.q = 0 ∧ t.bm.anchored = true ∧ t.count .emptyAnchors = min (s.count .emptyAnchors + 1) 65535 ∧
       t.count .fullAnchors = s.count .fullAnchors) ∧
     (¬ full → ¬ empty → t.bm.q = counted ∧ t.bm.anchored = s.bm.anchored ∧ t.count .fullAnchors = s.count .fullAnchors ∧
       t.count .emptyAnchors = s.count .emptyAnchors) ∧
     t.bm.soc = t.bm.q * 100 / cap ∧ t.bm.cls = nextClass s.bm.cls candidate figure s.bm.eRef.isNone ∧
     t.count .classChanges = (if t.bm.cls = s.bm.cls then s.count .classChanges else min (s.count .classChanges + 1) 65535) ∧
     t.bm.chargeEn = (if s.bm.chargeEn then decide (i.tCmin ≤ x.t ∧ x.t ≤ i.tCmax)
       else decide (i.tCmin + 10 ≤ x.t ∧ x.t ≤ i.tCmax - 10)) ∧
     t.bm = { s.bm with
       v := t.bm.v, i := t.bm.i, temp := t.bm.temp, q := t.bm.q, anchored := t.bm.anchored, eRef := t.bm.eRef, soc := t.bm.soc
       cls := t.bm.cls, staleCount := 0, stale := false, chargeEn := t.bm.chargeEn } ∧
     t.tb = s.tb ∧ t.rmu = s.rmu ∧ t.peers = s.peers ∧ t.si = s.si ∧ t.twm = s.twm ∧ t.cs = s.cs ∧
     t.mc.standing = s.mc.standing)) ∧
  (∀ (s : State) (v : Vector Byte 6) (e : Elapsed) (x : Reading), s.Steady → s.pins.lkCd = true → s.pins.upRdy = false →
    s.onBus .battery → s.bm.eRef = some e →
    x = readingOf v.toList → 1000 ≤ x.v → x.v ≤ 60000 → -600 ≤ x.t → x.t ≤ 850 → s.bm.anchored = true → 1 ≤ s.cs.image.capacity →
    s.cs.image.vCutoff < s.cs.image.vEmpty → (s.cs.image.vEmpty : Int) < x.v →
    (let dt := since s.now e / 1048576
     let cap : Int := s.cs.image.capacity * 3600000
     let q := clampInt (s.bm.q + (if 0 < x.i then x.i * dt * 15 / 16 else x.i * dt)) 0 cap
     let full : Prop := (s.cs.image.vFull : Int) ≤ x.v ∧ 0 ≤ x.i ∧ x.i ≤ s.cs.image.iTaper
     (full ∨ 50 ≤ q * 100 / cap) →
     ∃ t, exec (.batteryResult (.complete v)) s = .next t ∧ t.bm.v = some x.v ∧ t.bm.i = some x.i ∧ t.bm.temp = some x.t ∧
       t.bm.staleCount = 0 ∧ t.bm.stale = false ∧ t.bm.eRef = some (e + BitVec.ofNat 48 (dt * 1048576)) ∧ t.bm.anchored = true ∧
       (full → t.bm.q = cap ∧ t.bm.soc = 100 ∧ t.count .fullAnchors = min (s.count .fullAnchors + 1) 65535) ∧
       (¬ full → t.bm.q = q ∧ t.bm.soc = q * 100 / cap ∧ t.count .fullAnchors = s.count .fullAnchors) ∧
       t.bm.cls = .good ∧ t.count .classChanges = s.count .classChanges ∧ t.mc.standing = .active ∧
       t.bm.chargeEn = (if s.bm.chargeEn then decide (s.cs.image.tCmin ≤ x.t ∧ x.t ≤ s.cs.image.tCmax)
         else decide (s.cs.image.tCmin + 10 ≤ x.t ∧ x.t ≤ s.cs.image.tCmax - 10)) ∧
       t.tb = s.tb ∧ t.rmu = s.rmu ∧ t.peers = s.peers ∧ t.cu = s.cu ∧ t.hc = (overtempTest .b x.t s).hc)) ∧
  (∀ (c d : BatClass) (n : Int), nextClass c d n true = d ∧
    (c.code < d.code → nextClass c d n false = d) ∧ nextClass c c n false = c ∧
    (d.code < c.code →
      (55 ≤ n → nextClass c d n false = .good) ∧
      (30 ≤ n → n < 55 → nextClass c d n false = if c = .low ∨ c = .critical then .lean else c) ∧
      (15 ≤ n → n < 30 → nextClass c d n false = if c = .critical then .low else c) ∧
      (n < 15 → nextClass c d n false = c)))

/-- A failed battery poll in ACTIVE on a busy medium with UP_RDY low, and the results of a temperature sensor (R160, R161,
R162, R168, R202): a failure holds the values, counts, and at 3 in a row sets the stale flag and drops CHARGE_EN; a plausible
temperature, floor(raw × 10 / 16), replaces the held one and clears the count, an implausible one is rejected; temperature A
then makes the overtemperature test of HTR_S. That test (R174), for either heater: a reading at least 10 tenths above the
setpoint in force ends the frame's heating where it is not over: the level becomes OFF, a pending ON is cancelled, and a heater
that is on falls due to go OFF, taken or deferred by R175; each is counted. A rejected battery reading counts as a failed one
does, by its own counter, and the tenth such poll in a row forces the class of a GOOD battery to LOW, which takes HTR_S off,
its edge blanking a running detector (R178, R179); bus-stuck ends a transaction only behind a recovery, and before TW_SCL has
risen only the timeout does (log entry 33); a failed sensor result holds the value and counts. The deferral left without a
pending edge is log entry 59; that a heater that is on with an OFF pending only takes the level OFF, its OFF not falling due
again, is log entry 32. -/
def Obligations.FailuresAndTemperaturesAreCounted : Prop :=
  (∀ (s : State) (h : HeaterId) (reading : Int),
    (let t := overtempTest h reading s
     let x := s.heater h
     let y := t.heater h
     let limit := match h with | .b => s.cs.image.deferB | .s => s.cs.image.deferS
     let setpoint : Int := match h with
       | .b => if s.pins.chgAvl then s.cs.image.chargeSet else s.cs.image.batterySet
       | .s => s.cs.image.sensorSet
     let rises (k : HeaterCount) : Prop := t.count (heaterCounter h k) = min (s.count (heaterCounter h k) + 1) 65535
     let stands (k : HeaterCount) : Prop := t.count (heaterCounter h k) = s.count (heaterCounter h k)
     let past (n : Nat) : Prop := ∃ p, x.pos = some p ∧ n ≤ p
     let ended : Prop := x.level = .off ∨ (x.level = .quarter ∧ past 3) ∨ (x.level = .third ∧ past 4) ∨ (x.level = .half ∧ past 6)
     (reading < setpoint + 10 ∨ ended → t = s) ∧
     (setpoint + 10 ≤ reading → ¬ ended →
       y.level = .off ∧ y.pos = x.pos ∧ y.onTime = x.onTime ∧ rises .overtemp ∧
       (x.edge = some .on → rises .cancelled) ∧ (x.edge ≠ some .on → stands .cancelled) ∧
       (x.output = false → y.output = false ∧ stands .taken ∧ stands .deferred ∧
         y.edge = (if x.edge = some .on then none else x.edge)) ∧
       (x.output = true → x.edge = some .off → y = { x with level := .off } ∧ stands .taken ∧ stands .deferred) ∧
       (x.output = true → x.edge ≠ some .off →
         (s.hot = false ∨ limit = 0 → y.output = false ∧ y.edge = none ∧ y.carried = none ∧ rises .taken ∧ stands .deferred) ∧
         (s.hot = true → limit ≠ 0 →
           y.output = true ∧ y.edge = some .off ∧ y.deferral = x.carried.getD 0 ∧ rises .deferred ∧ stands .taken)) ∧
       (∀ k : HeaterId, k ≠ h → t.heater k = s.heater k)))) ∧
  (∀ (s : State) (r : TwEnd 6), s.Steady → s.pins.lkCd = true → s.pins.upRdy = false → s.onBusFor .battery r →
    (∀ v, r ≠ .complete v) → s.bm.staleCount < 9 →
    ∃ t, exec (.batteryResult r) s = .next t ∧
      t.bm = { s.bm with
        staleCount := s.bm.staleCount + 1, stale := s.bm.stale || decide (2 ≤ s.bm.staleCount)
        chargeEn := s.bm.chargeEn && decide (s.bm.staleCount < 2) } ∧
      t.count .batteryFailures = min (s.count .batteryFailures + 1) 65535 ∧
      (r = .nack → t.count .twNacks = min (s.count .twNacks + 1) 65535) ∧
      (r = .timeout → t.count .stretchTimeouts = min (s.count .stretchTimeouts + 1) 65535) ∧
      (r = .busStuck → t.count .busStucks = min (s.count .busStucks + 1) 65535) ∧
      t.mc.standing = .active ∧ t.tb = s.tb ∧ t.hc = s.hc ∧ t.cu = s.cu) ∧
  (∀ (s : State) (v : Vector Byte 2), s.Settled →
    (let x := fromBeInt v.toList * 10 / 16
     (s.onBus .tempA → -600 ≤ x → x ≤ 850 → ∃ t, exec (.temperatureResult .a (.complete v)) s = .next t ∧
       t.bm = { s.bm with tempA := some x, staleCountA := 0, staleA := false } ∧ t.hc.b = s.hc.b ∧ t.tb = s.tb ∧
       t.hc = (overtempTest .s x s).hc ∧
       ∀ k, t.count (heaterCounter .s k) = (overtempTest .s x s).count (heaterCounter .s k)) ∧
     (s.onBus .tempB → -600 ≤ x → x ≤ 850 → ∃ t, exec (.temperatureResult .b (.complete v)) s = .next t ∧
       t.bm = { s.bm with tempB := some x, staleCountB := 0, staleB := false } ∧ t.hc = s.hc ∧ t.tb = s.tb) ∧
     (s.onBus .tempA → x < -600 ∨ 850 < x → s.bm.staleCountA < 65535 →
       ∃ t, exec (.temperatureResult .a (.complete v)) s = .next t ∧
       t.bm = { s.bm with staleCountA := s.bm.staleCountA + 1, staleA := s.bm.staleA || decide (2 ≤ s.bm.staleCountA) } ∧
       t.count .rejectsA = min (s.count .rejectsA + 1) 65535 ∧ t.hc = s.hc ∧ t.tb = s.tb))) ∧
  (∀ (s : State) (v : Vector Byte 6) (x : Reading), s.Steady → s.pins.lkCd = true → s.pins.upRdy = false → s.onBus .battery →
    x = readingOf v.toList → x.v < 1000 ∨ 60000 < x.v ∨ x.t < -600 ∨ 850 < x.t → s.bm.staleCount < 9 →
    ∃ t, exec (.batteryResult (.complete v)) s = .next t ∧
      t.bm = { s.bm with
        staleCount := s.bm.staleCount + 1, stale := s.bm.stale || decide (2 ≤ s.bm.staleCount)
        chargeEn := s.bm.chargeEn && decide (s.bm.staleCount < 2) } ∧
      t.count .batteryRejects = min (s.count .batteryRejects + 1) 65535 ∧ t.count .batteryFailures = s.count .batteryFailures ∧
      t.mc.standing = .active ∧ t.tb = s.tb ∧ t.hc = s.hc ∧ t.cu = s.cu) ∧
  (∀ (s : State) (r : TwEnd 6), s.Steady → s.pins.lkCd = true → s.pins.upRdy = false → s.onBusFor .battery r →
    s.twm.battery = none → (∀ v, r ≠ .complete v) → s.bm.staleCount = 9 →
    ∃ t, exec (.batteryResult r) s = .next t ∧ t.bm.cls = .low ∧ t.bm.staleCount = 10 ∧ t.bm.stale = true ∧ t.bm.chargeEn = false ∧
      t.bm.v = s.bm.v ∧ t.bm.i = s.bm.i ∧ t.bm.temp = s.bm.temp ∧ t.bm.q = s.bm.q ∧ t.bm.eRef = s.bm.eRef ∧
      t.count .forcedClasses = min (s.count .forcedClasses + 1) 65535 ∧
      t.count .classChanges = min (s.count .classChanges + 1) 65535 ∧ (t.mc.standing = .watching ∨ t.mc.standing = .entering) ∧
      t.hc.s.output = false ∧ t.hc.s.level = .off ∧ t.tb.time = s.tb.time ∧ t.cu = s.cu ∧
      (let blanked (c : Channel) : Channel :=
         if c.state = .stopped then c else { c with blank := max c.blank s.cs.image.blanking }
       t.td = if s.hc.s.output = true ∧ s.td.state ≠ .stopped then
         { s.td with z := blanked s.td.z, n := blanked s.td.n, e := blanked s.td.e } else s.td)) ∧
  (∀ (s : State) (wanted : Bool) (c : TwCheck), s.twm.bus = some { user := .battery, wanted := wanted, check := c } →
    (c = .clear → exec (.batteryResult .busStuck) s = .next s) ∧
    (∀ r, c = .waiting → r ≠ .timeout → exec (.batteryResult r) s = .next s)) ∧
  (∀ (s : State) (r : TwEnd 2), s.Settled → (∀ v, r ≠ .complete v) →
    (s.onBusFor .tempA r → ∃ t, exec (.temperatureResult .a r) s = .next t ∧
      t.bm = { s.bm with
        staleCountA := min 65535 (s.bm.staleCountA + 1)
        staleA := s.bm.staleA || decide (3 ≤ min 65535 (s.bm.staleCountA + 1)) } ∧
      t.count .failuresA = min (s.count .failuresA + 1) 65535 ∧ t.count .rejectsA = s.count .rejectsA ∧ t.hc = s.hc ∧ t.tb = s.tb) ∧
    (s.onBusFor .tempB r → ∃ t, exec (.temperatureResult .b r) s = .next t ∧
      t.bm = { s.bm with
        staleCountB := min 65535 (s.bm.staleCountB + 1)
        staleB := s.bm.staleB || decide (3 ≤ min 65535 (s.bm.staleCountB + 1)) } ∧
      t.count .failuresB = min (s.count .failuresB + 1) 65535 ∧ t.count .rejectsB = s.count .rejectsB ∧ t.hc = s.hc ∧ t.tb = s.tb))

/-! ## Modes (chapter 11) -/

/-- A brief run (R189): 256 slow cycles after its start the oscillator is handed over, and the first full two-wire place starts
with the free-bus check of R202: with TW_SCL low it waits, with TW_SDA low it sends a recovery, which is counted;
a beacon 4 s in the set without a start is withdrawn, leaves the set and is counted, the final beacon apart. And a capture from its
wake pattern to its limit (R190, R191): the pattern in ASLEEP asks for the fast source for 200 ms; the limit is a false wake, which
drops a held request (R203) and leads back to ASLEEP with run on slow, or, where a local wake was requested, on to the end of the
warm-up; where that has ended the wake completes, in ECONOMY with the class LEAN or LOW and on to ACTIVE with the class GOOD, its wake
hold running. A source that is not SLOW at the pattern, or FAST still, is log entry 12; the false wake in WAKING is log entry 18. -/
def Obligations.BriefRunServesItsUsers : Prop :=
  (∀ s : State, s.Settled → s.mc.users.isEmpty = false → s.mc.osc = some 256 → s.mc.handed = false →
    ∃ t, exec .briefRunReady s = .next t ∧ t.mc.handed = true ∧ t.mc.standing = s.mc.standing ∧ t.mc.users = s.mc.users ∧
      (∀ u, s.twm.bus = none → s.twm.firstFull = some u → ∃ b, t.twm.bus = some b ∧ b.user = u ∧ t.twm.place u = none ∧
        b.check = (if s.pins.scl = false then .waiting else if s.pins.sda = true then .clear else .recovered) ∧
        t.count .busRecoveries = (if s.pins.scl = true ∧ s.pins.sda = false then min (s.count .busRecoveries + 1) 65535
          else s.count .busRecoveries)) ∧
      t.tb = s.tb ∧ t.bm = s.bm ∧ t.peers = s.peers) ∧
  (∀ (s : State) (m : Elapsed) (q : BeaconReq), s.Rested → s.mc.users.beacon = some m → s.lc.slots.beacon = some q →
    q.mark ≠ .final →
    (secs 4 ≤ since s.now m → ∃ t, exec .briefRunBeaconSkip s = .next t ∧ t.lc.slots = { s.lc.slots with beacon := none } ∧
      t.mc.users = { s.mc.users with beacon := none } ∧ t.count .skippedBeacons = min (s.count .skippedBeacons + 1) 65535 ∧
      t.mc.standing = s.mc.standing ∧ t.tb = s.tb) ∧
    (since s.now m < secs 4 → exec .briefRunBeaconSkip s = .next s)) ∧
  (∀ s : State, s.Settled → s.mc.standing = .asleep → s.lc.tx = none →
    ∃ t, exec .wakePatternDetect s = .next t ∧ t.mc.standing = .capturing ∧
      t.mc.capture = some { start := s.now, period := 209715 } ∧ t.mc.osc.isSome ∧
      t.tb = (if s.tb.source = .slow then { s.tb with source := .warming, warmUp := 0 } else s.tb) ∧
      (s.tb.source = .fast → s.lc.rx = .off → t.lc.rx = .hunting) ∧ (s.tb.source ≠ .fast → t.lc.rx = s.lc.rx) ∧
      t.td = s.td ∧ t.hc = s.hc ∧ t.peers = s.peers ∧ t.bm = s.bm ∧ t.cu = s.cu ∧ t.cs = s.cs) ∧
  (∀ s : State, s.Settled → timerDue s.mc.capture s.now = true →
    ∃ t, exec .captureLimitExpiry s = .next t ∧ t.mc.capture = none ∧
      t.count .falseWakes = min (s.count .falseWakes + 1) 65535 ∧
      (∀ x, s.cs.pending = some x → x.held = true → t.cs.pending = none) ∧
      (s.mc.standing = .capturing → t.mc.standing = .asleep ∧ t.lc.rx = .off ∧
        t.tb = (if s.tb.source = .slow then s.tb else { s.tb with slowAsked := true }) ∧
        t.td = s.td ∧ t.hc = s.hc ∧ t.peers = s.peers ∧ t.bm = s.bm) ∧
      (s.mc.standing = .waking → s.tb.source ≠ .fast → t.mc.standing = .waking ∧ t.tb = s.tb ∧
        t.td = s.td ∧ t.hc = s.hc ∧ t.peers = s.peers ∧ t.bm = s.bm) ∧
      (s.mc.standing = .waking → s.tb.source = .fast → s.bm.cls ≠ .critical →
        t.mc.wakeHold = some { start := s.now, period := secs s.cs.image.wakeHold } ∧
        (s.bm.cls ≠ .good → t.mc.standing = .watching) ∧
        (s.bm.cls = .good → s.twm.busyFor .battery = false → t.mc.standing = .active) ∧
        t.td.state = .settling ∧ t.si.grid = .unaligned ∧ t.tb.time = s.tb.time))

/-- The end of a capture by its frame (R190, R191, R36 to R40), whose receiver read it behind the wake pattern, at a station that is
not listen-only (R185) and holds no earlier request. A frame of any kind accepted with its wake flag set is handed on while the mode
is DORMANT and completes the wake: ECONOMY with the class LEAN or LOW, on to ACTIVE with the class GOOD, the wake hold running
(R192) and the blocks started. Its sender's record holds the age 0 and every other its held age, from which the ages resume (R50).
A BEACON writes its announcements; its last onset and a captured ONSET or END notice enter the emptied trigger table (R139, R115,
R118); a declaration makes an ADOPTED record, and at an uplink station its EVENT, which request a local wake (R191, R155); a
SERVICE REQUEST is held and its first segment is built at the wake (R203); a probe is not answered and a reply is late (R74, R63). A
frame accepted without the flag is handed on too, and one not accepted is counted; both, and a frame cut short (R36), are false
wakes: CAPTURING returns to ASLEEP, and a held request is dropped; but a local wake, one of the frame's own record among them,
makes the wake certain, which completes on the fast source. The poll that the wake may make at once can count as missed, and its
stale count then forces a class GOOD to LOW (R158, R159, R161), so ACTIVE is stated with no battery transaction of an earlier poll
left. That what the frame reported is taken before the wake
flag is log entry 11, the false wake in WAKING log entry 18, record keys log entry 44; the form test of the frame is log entry 46. -/
def Obligations.CaptureWakesOrSleepsAgain : Prop :=
  ∀ s : State, s.Settled → s.mc.standing = .capturing ∨ s.mc.standing = .waking → s.mc.capture.isSome → s.lc.tx = none →
    s.listenOnly = false → s.bm.cls ≠ .critical → (∀ x, s.cs.pending = some x → x.held = false) →
    (let rises (k : Counter) (t : State) : Prop := t.count k = min (s.count k + 1) 65535
     let started (n : Nat) : Option Timer := some { start := s.now, period := secs n }
     let wakes (t : State) : Prop :=
       t.mc.capture = none ∧ t.mc.wakeHold = started s.cs.image.wakeHold ∧
       (s.bm.cls ≠ .good → t.mc.standing = .watching) ∧
       (s.bm.cls = .good → s.twm.busyFor .battery = false → t.mc.standing = .active) ∧
       t.td.state = .settling ∧ t.si.grid = .unaligned ∧ t.tau.steerTimer = started (2 ^ s.cs.image.k) ∧
       t.lc.beaconTimer = started (2 ^ s.cs.image.b) ∧
       (s.rmu.sleeping = true → t.rmu.sleeping = false ∧ t.rmu.state = if s.cs.image.receiver then .acquiring else .absent) ∧
       t.tb.time = s.tb.time ∧ t.tb.elapsed = s.tb.elapsed
     let falls (t : State) : Prop :=
       t.mc.capture = none ∧ rises .falseWakes t ∧
       (s.mc.standing = .capturing → t.mc.standing = .asleep ∧ t.lc.rx = .off ∧
         t.tb = (if s.tb.source = .slow then s.tb else { s.tb with slowAsked := true }) ∧
         t.td = s.td ∧ t.si = s.si ∧ t.rmu = s.rmu ∧ t.bm = s.bm ∧ t.hc = s.hc) ∧
       (s.mc.standing = .waking → s.tb.source ≠ .fast → t.mc.standing = .waking) ∧
       (s.mc.standing = .waking → s.tb.source = .fast → wakes t)
     let resumed (r : PeerRecord) : PeerRecord := match r.heldAge with
       | some a => { r with lastHeard := s.now - BitVec.ofNat 48 a, heldAge := none }
       | none => r
     let idle : Prop := ∀ r ∈ s.cu.events, r.state.open = false
     (∀ (stamp : RxStamp) (hdr : Header) (rest : List Byte), s.lc.rx = .body stamp hdr → rest.length = hdr.length.toNat + 6 →
       (let verdict := s.judge { hdr := hdr, rest := rest }
        let row (b : Body) : Instr := match b with
          | .beacon _ => .beaconReceived rest
          | .notice _ => .triggerNoticeReceived rest
          | .declaration _ => .eventDeclarationReceived rest
          | .probe _ => .rangeProbeReceived rest
          | .reply _ => .rangeReplyReceived rest
          | .report => .serviceReportReceived rest
          | .request q => match q.code with
            | 1 => .serviceStatus rest
            | 2 => .servicePeers rest
            | 3 => .serviceEvents rest
            | 4 => .serviceCounters rest
            | 5 => .serviceRestart rest
            | _ => .serviceUnknown rest
        let clears (b : Body) : Prop := ∃ q, b = .request q ∧ q.code = 4 ∧ q.argument % 2 = 1
        let admitted (x : Entry) (t : State) : Prop := s.cu.entries = [] → idle →
          (s.tb.time ≤ x.onset + secs s.cs.image.wc + secs 30 → t.cu.entries = [x]) ∧
          (x.onset + secs s.cs.image.wc + secs 30 < s.tb.time → t.cu.entries = [] ∧ rises .staleEntries t) ∧
          (s.uc.modem = .off → t.cu.events = s.cu.events)
        let arrives (onset : StationTime) (mask : Option Nat) (peak : Nat) (endAt : Option StationTime) : Entry :=
          { station := hdr.sender, onset := onset, mask := mask, peak := peak, endAt := endAt, bound := none, own := false,
            confirmed := false }
        let adoptable (d : DeclBody) : Prop := d.id.origin = hdr.sender ∧ s.tb.time ≤ d.earliest + secs s.cs.image.maxLife ∧
          s.cu.entries = [] ∧ s.cu.events.length < 8 ∧
          ∀ r ∈ s.cu.events, r.state.open = false ∧ r.id ≠ some d.id ∧ r.rid ≠ s.cu.nextRid
        let adopts (d : DeclBody) (t : State) : Prop :=
          (∃ r ∈ t.cu.events, r.rid = s.cu.nextRid ∧ r.state = .adopted ∧ r.id = some d.id ∧ r.update = d.update ∧
            r.declOwed = false ∧ r.opened = s.now ∧ r.lastEnd = s.now) ∧ rises .adoptions t ∧
          (s.mc.standing = .capturing → rises .localWakes t) ∧
          (s.cs.image.uplink = true → s.uc.modem = .off → s.uc.queue = [] → s.uc.stacked = [] → t.uc.queue = [
            { kind := .event, rid := some s.cu.nextRid, id := some d.id, update := d.update, enqueued := s.now, attempts := 0,
              turn := .ready, retryWait := none, withdrawn := false }])
        (∀ kind b, verdict = .accepted kind b → hdr.wake = true →
          ∃ t, exec (row b) s = .next t ∧ wakes t ∧ rises .patternWakes t ∧ (¬ clears b → rises .framesAccepted t) ∧
            (∀ id, id ≠ hdr.sender → t.peer id = (s.peer id).map resumed) ∧
            (hdr.sender ≠ 15 → ∃ r, t.peer hdr.sender = some r ∧ r.heldAge = none ∧ r.lastHeard = s.now ∧
              r.lastSeq = hdr.sequence.toNat ∧
              (∀ x, b = .beacon x → r.mode = some x.mode ∧ r.cls = some x.cls ∧ r.code = some x.code ∧ r.trig = some x.trig ∧
                r.lastOnset = x.lastOnset) ∧
              (∀ n, b = .notice n → r.isAwake = true ∧ r.trig = some (if n.kind = .onset then .on else .off) ∧
                r.lastOnset = some n.onset)) ∧
            (∀ x o, b = .beacon x → x.lastOnset = some o → admitted (arrives o none x.peak none) t) ∧
            (∀ n, b = .notice n → admitted (arrives n.onset (some n.mask) n.peak
              (if n.kind = .finish then some (n.onset + n.duration * 1048576 / 10) else none)) t) ∧
            (∀ d, b = .declaration d → adoptable d → adopts d t ∧
              (s.cs.image.uplink = true → s.uc.modem = .off → s.uc.queue = [] → s.uc.stacked = [] → t.uc.modem = .warmUp)) ∧
            (∀ x, b = .probe x → s.pins.lkCd = true → t.lc.slots = s.lc.slots) ∧
            (∀ x, b = .reply x → s.tau.probe = none → rises .lateReplies t) ∧
            (∀ q, b = .request q → s.pins.lkCd = true → rises .requestsTaken t ∧
              t.lc.terminalSeq = some hdr.sequence.toNat ∧
              ∃ x y, t.cs.pending = some x ∧ x.code = q.code ∧ x.argument = q.argument ∧ x.nextSegment = 1 ∧ x.held = false ∧
                t.lc.slots = { s.lc.slots with report := some y } ∧ y.moment = s.now ∧
                y.body.take 3 = [BitVec.ofNat 8 q.code, if y.last then 0x80#8 else 0x00#8,
                  if 1 ≤ q.code ∧ q.code ≤ 5 then 0x00#8 else 0x01#8])) ∧
        (∀ kind b, verdict = .accepted kind b → hdr.wake = false → idle → (∀ e ∈ s.cu.entries, e.own = false) →
          ∃ t, exec (row b) s = .next t ∧
            rises .framesAccepted t ∧ ((∀ d, b ≠ .declaration d) → falls t) ∧
            (s.mc.standing = .capturing → (∀ d, b ≠ .declaration d) →
              (∀ id, id ≠ hdr.sender → t.peer id = s.peer id) ∧
              (hdr.sender ≠ 15 → ∃ r, t.peer hdr.sender = some r ∧ r.heldAge = some 0 ∧ r.lastHeard = stamp.moment ∧
                r.lastSeq = hdr.sequence.toNat)) ∧
            (∀ q, b = .request q → t.cs.pending = none) ∧
            (∀ d, b = .declaration d → adoptable d → adopts d t ∧ t.mc.capture = none ∧ rises .falseWakes t ∧
              (s.tb.source ≠ .fast → t.mc.standing = .waking) ∧ (s.tb.source = .fast → wakes t))) ∧
        ((∀ kind b, verdict ≠ .accepted kind b) → ∃ t, exec (.frameDiscarded rest) s = .next t ∧ falls t ∧
          (s.mc.standing = .capturing → t.peers = s.peers) ∧ (∀ k, verdict = .discarded k → rises k t) ∧
          (verdict = .conflict → rises .idConflicts t ∧ t.lc.idConflict = true)))) ∧
     (s.lc.rx.reading = true → s.pins.lkCd = false → ∃ t, exec .frameTruncated s = .next t ∧ falls t ∧ rises .discardCrc t ∧
       (s.mc.standing = .capturing → t.peers = s.peers)))

/-- The wake hold's expiry on a busy medium evaluates the mode (R192, R184 to R186): with the class LOW and the dormancy
conditions holding a DORMANT entry begins with its entry beacon, with the detector hot it does not; with the class LEAN the
station stays. The end of a good poll evaluates the mode on the class it leaves (R184), on a busy medium: between ACTIVE and ECONOMY
the change is taken at once, with the poll period and the calibration period anew and an open calibration window discarded (R6, R7,
R158; that one whose period has expired goes with it is log entry 68); an entry to DORMANT is abandoned (R187); a better class than
LOW in DORMANT is a local wake (R191), LOW keeps it there; a class other than CRITICAL in SHELTERED begins a rising, and CRITICAL in
RISING abandons it (R195). And 10 s without the start of the final beacon make the station SHELTERED (R194). -/
def Obligations.HoldsEndInAnEvaluation : Prop :=
  (∀ s : State, s.Settled → s.mc.standing = .watching → timerDue s.mc.wakeHold s.now = true → s.pins.lkCd = true →
    (s.bm.cls = .lean → ∃ t, exec .wakeHoldExpiry s = .next t ∧ t.mc.standing = .watching ∧ t.mc.wakeHold = none ∧
      t.lc.slots = s.lc.slots ∧ t.count .dormantEntriesBegun = s.count .dormantEntriesBegun) ∧
    (s.bm.cls = .low → s.openEvent = false → s.td.active = false → s.uc.queue = [] → s.uc.stacked = [] →
      s.cs.image.mWatch ≤ s.watchCount → s.listenOnly = false →
      ∃ t, exec .wakeHoldExpiry s = .next t ∧ t.mc.wakeHold = none ∧
        (s.hot = false → t.mc.standing = .entering ∧ t.lc.slots.beacon = some { moment := s.now, mark := .entry } ∧
          t.count .dormantEntriesBegun = min (s.count .dormantEntriesBegun + 1) 65535) ∧
        (s.hot = true → t.mc.standing = .watching ∧ t.lc.slots = s.lc.slots))) ∧
  (∀ (s : State) (v : Vector Byte 6) (x : Reading), s.Settled → s.pins.lkCd = true → s.onBus .battery →
    x = readingOf v.toList → 1000 ≤ x.v → x.v ≤ 60000 → -600 ≤ x.t → x.t ≤ 850 →
    (∀ m, s.bm.lastPoll = some m → since s.now m < secs 10) →
    (let c := (goodPoll x s).bm.cls
     let here := s.mc.standing
     let polls (t : State) (n : Nat) : Prop := t.bm = { (goodPoll x s).bm with
       pollTimer := some { start := s.bm.lastPoll.getD s.now, period := secs n } }
     let stays (t : State) : Prop := t.mc.standing = here ∧ t.bm = (goodPoll x s).bm ∧ t.tb = s.tb
     let recalibrates (t : State) : Prop :=
       t.tb = { s.tb with
         calWindow := none, calOpening := false
         calTimer := if s.tb.source = .fast then some { start := s.now, period := secs 64 } else none } ∧
       t.count .calibrationDiscards =
         if s.tb.calWindow.isSome then min (s.count .calibrationDiscards + 1) 65535 else s.count .calibrationDiscards
     let abandons (t : State) : Prop := t.count .entriesAbandoned = min (s.count .entriesAbandoned + 1) 65535
     ((c = .good ∧ (here = .watching ∨ here = .entering)) ∨ (c = .lean ∧ here = .active) →
       ∃ t, exec (.batteryResult (.complete v)) s = .next t ∧ t.mc.standing = (if c = .good then .active else .watching) ∧
         polls t (if c = .good then 10 else 30) ∧ recalibrates t ∧ (here = .entering → abandons t)) ∧
     (c = .lean → here = .entering → ∃ t, exec (.batteryResult (.complete v)) s = .next t ∧ t.mc.standing = .watching ∧
       t.bm = (goodPoll x s).bm ∧ abandons t ∧ t.tb = s.tb) ∧
     ((c = .good ∧ here = .active) ∨ (c = .lean ∧ here = .watching) ∨ (c = .critical ∧ here = .sheltered) ∨
       (c ≠ .critical ∧ here = .rising) ∨
       (c = .low ∧ here = .asleep ∧ s.openEvent = false ∧ s.uc.queue = [] ∧ s.uc.stacked = []) →
       ∃ t, exec (.batteryResult (.complete v)) s = .next t ∧ stays t) ∧
     (c = .low → here = .active → ∃ t, exec (.batteryResult (.complete v)) s = .next t ∧ polls t 30 ∧ recalibrates t ∧
       (t.mc.standing = .watching ∨ t.mc.standing = .entering)) ∧
     (c = .good ∨ c = .lean → here = .asleep → s.tb.source = .slow →
       ∃ t, exec (.batteryResult (.complete v)) s = .next t ∧ t.mc.standing = .waking ∧ t.bm = (goodPoll x s).bm ∧
         t.tb = { s.tb with source := .warming, warmUp := 0 } ∧ t.mc.osc.isSome ∧
         t.count .localWakes = min (s.count .localWakes + 1) 65535) ∧
     (c = .good ∨ c = .lean → here = .capturing →
       ∃ t, exec (.batteryResult (.complete v)) s = .next t ∧ t.mc.standing = .waking ∧ t.mc.capture = s.mc.capture ∧
         t.bm = (goodPoll x s).bm ∧ t.tb = s.tb ∧ t.count .localWakes = min (s.count .localWakes + 1) 65535) ∧
     (c ≠ .critical → here = .sheltered → s.tb.source = .slow →
       ∃ t, exec (.batteryResult (.complete v)) s = .next t ∧ t.mc.standing = .rising ∧ t.bm = (goodPoll x s).bm ∧
         t.tb = { s.tb with source := .warming, warmUp := 0 } ∧ t.mc.osc.isSome ∧
         t.count .shelterExits = s.count .shelterExits) ∧
     (c = .critical → here = .rising → s.tb.source = .warming →
       ∃ t, exec (.batteryResult (.complete v)) s = .next t ∧ t.mc.standing = .sheltered ∧ t.bm = (goodPoll x s).bm ∧
         t.tb = { s.tb with slowAsked := true }))) ∧
  (∀ s : State, s.mc.standing = .finalBeacon → timerDue s.mc.finalLimit s.now = true → s.bm.cls = .critical →
    s.lc.slots.report = none →
    ∃ t, exec .finalBeaconTimeout s = .next t ∧ t.mc.standing = .sheltered ∧ t.mc.finalLimit = none ∧
      t.lc.slots = Slots.empty ∧ t.lc.rx = .off ∧ t.lc.beaconTimer = none ∧
      t.count .finalBeaconsAbandoned = min (s.count .finalBeaconsAbandoned + 1) 65535 ∧
      (s.tb.source ≠ .slow → t.tb.slowAsked = true) ∧ t.peers = s.peers ∧ t.cu = s.cu)
end
end

