-- ==== Sys2Proof/Laws/State.lean ====
section
/-! SUPPORT. What each named update of State leaves and sets, field by field. -/
namespace Sys2Proof.Machine

/-! ## setPending -/

@[simp] theorem setPending_pending (s : State) (x : List Instr) : (s.setPending x).pending = x := rfl
@[simp] theorem setPending_pins (s : State) (x : List Instr) : (s.setPending x).pins = s.pins := rfl
@[simp] theorem setPending_tb (s : State) (x : List Instr) : (s.setPending x).tb = s.tb := rfl
@[simp] theorem setPending_rmu (s : State) (x : List Instr) : (s.setPending x).rmu = s.rmu := rfl
@[simp] theorem setPending_lc (s : State) (x : List Instr) : (s.setPending x).lc = s.lc := rfl
@[simp] theorem setPending_peers (s : State) (x : List Instr) : (s.setPending x).peers = s.peers := rfl
@[simp] theorem setPending_tau (s : State) (x : List Instr) : (s.setPending x).tau = s.tau := rfl
@[simp] theorem setPending_si (s : State) (x : List Instr) : (s.setPending x).si = s.si := rfl
@[simp] theorem setPending_td (s : State) (x : List Instr) : (s.setPending x).td = s.td := rfl
@[simp] theorem setPending_cu (s : State) (x : List Instr) : (s.setPending x).cu = s.cu := rfl
@[simp] theorem setPending_uc (s : State) (x : List Instr) : (s.setPending x).uc = s.uc := rfl
@[simp] theorem setPending_bm (s : State) (x : List Instr) : (s.setPending x).bm = s.bm := rfl
@[simp] theorem setPending_hc (s : State) (x : List Instr) : (s.setPending x).hc = s.hc := rfl
@[simp] theorem setPending_mc (s : State) (x : List Instr) : (s.setPending x).mc = s.mc := rfl
@[simp] theorem setPending_twm (s : State) (x : List Instr) : (s.setPending x).twm = s.twm := rfl
@[simp] theorem setPending_cs (s : State) (x : List Instr) : (s.setPending x).cs = s.cs := rfl
@[simp] theorem setPending_counters (s : State) (x : List Instr) : (s.setPending x).counters = s.counters := rfl
@[simp] theorem setPending_freeDrawn (s : State) (x : List Instr) : (s.setPending x).freeDrawn = s.freeDrawn := rfl

/-! ## setPins -/

@[simp] theorem setPins_pending (s : State) (x : Pins) : (s.setPins x).pending = s.pending := rfl
@[simp] theorem setPins_pins (s : State) (x : Pins) : (s.setPins x).pins = x := rfl
@[simp] theorem setPins_tb (s : State) (x : Pins) : (s.setPins x).tb = s.tb := rfl
@[simp] theorem setPins_rmu (s : State) (x : Pins) : (s.setPins x).rmu = s.rmu := rfl
@[simp] theorem setPins_lc (s : State) (x : Pins) : (s.setPins x).lc = s.lc := rfl
@[simp] theorem setPins_peers (s : State) (x : Pins) : (s.setPins x).peers = s.peers := rfl
@[simp] theorem setPins_tau (s : State) (x : Pins) : (s.setPins x).tau = s.tau := rfl
@[simp] theorem setPins_si (s : State) (x : Pins) : (s.setPins x).si = s.si := rfl
@[simp] theorem setPins_td (s : State) (x : Pins) : (s.setPins x).td = s.td := rfl
@[simp] theorem setPins_cu (s : State) (x : Pins) : (s.setPins x).cu = s.cu := rfl
@[simp] theorem setPins_uc (s : State) (x : Pins) : (s.setPins x).uc = s.uc := rfl
@[simp] theorem setPins_bm (s : State) (x : Pins) : (s.setPins x).bm = s.bm := rfl
@[simp] theorem setPins_hc (s : State) (x : Pins) : (s.setPins x).hc = s.hc := rfl
@[simp] theorem setPins_mc (s : State) (x : Pins) : (s.setPins x).mc = s.mc := rfl
@[simp] theorem setPins_twm (s : State) (x : Pins) : (s.setPins x).twm = s.twm := rfl
@[simp] theorem setPins_cs (s : State) (x : Pins) : (s.setPins x).cs = s.cs := rfl
@[simp] theorem setPins_counters (s : State) (x : Pins) : (s.setPins x).counters = s.counters := rfl
@[simp] theorem setPins_freeDrawn (s : State) (x : Pins) : (s.setPins x).freeDrawn = s.freeDrawn := rfl

/-! ## setTb -/

@[simp] theorem setTb_pending (s : State) (x : Timebase) : (s.setTb x).pending = s.pending := rfl
@[simp] theorem setTb_pins (s : State) (x : Timebase) : (s.setTb x).pins = s.pins := rfl
@[simp] theorem setTb_tb (s : State) (x : Timebase) : (s.setTb x).tb = x := rfl
@[simp] theorem setTb_rmu (s : State) (x : Timebase) : (s.setTb x).rmu = s.rmu := rfl
@[simp] theorem setTb_lc (s : State) (x : Timebase) : (s.setTb x).lc = s.lc := rfl
@[simp] theorem setTb_peers (s : State) (x : Timebase) : (s.setTb x).peers = s.peers := rfl
@[simp] theorem setTb_tau (s : State) (x : Timebase) : (s.setTb x).tau = s.tau := rfl
@[simp] theorem setTb_si (s : State) (x : Timebase) : (s.setTb x).si = s.si := rfl
@[simp] theorem setTb_td (s : State) (x : Timebase) : (s.setTb x).td = s.td := rfl
@[simp] theorem setTb_cu (s : State) (x : Timebase) : (s.setTb x).cu = s.cu := rfl
@[simp] theorem setTb_uc (s : State) (x : Timebase) : (s.setTb x).uc = s.uc := rfl
@[simp] theorem setTb_bm (s : State) (x : Timebase) : (s.setTb x).bm = s.bm := rfl
@[simp] theorem setTb_hc (s : State) (x : Timebase) : (s.setTb x).hc = s.hc := rfl
@[simp] theorem setTb_mc (s : State) (x : Timebase) : (s.setTb x).mc = s.mc := rfl
@[simp] theorem setTb_twm (s : State) (x : Timebase) : (s.setTb x).twm = s.twm := rfl
@[simp] theorem setTb_cs (s : State) (x : Timebase) : (s.setTb x).cs = s.cs := rfl
@[simp] theorem setTb_counters (s : State) (x : Timebase) : (s.setTb x).counters = s.counters := rfl
@[simp] theorem setTb_freeDrawn (s : State) (x : Timebase) : (s.setTb x).freeDrawn = s.freeDrawn := rfl

/-! ## setRmu -/

@[simp] theorem setRmu_pending (s : State) (x : Rmu) : (s.setRmu x).pending = s.pending := rfl
@[simp] theorem setRmu_pins (s : State) (x : Rmu) : (s.setRmu x).pins = s.pins := rfl
@[simp] theorem setRmu_tb (s : State) (x : Rmu) : (s.setRmu x).tb = s.tb := rfl
@[simp] theorem setRmu_rmu (s : State) (x : Rmu) : (s.setRmu x).rmu = x := rfl
@[simp] theorem setRmu_lc (s : State) (x : Rmu) : (s.setRmu x).lc = s.lc := rfl
@[simp] theorem setRmu_peers (s : State) (x : Rmu) : (s.setRmu x).peers = s.peers := rfl
@[simp] theorem setRmu_tau (s : State) (x : Rmu) : (s.setRmu x).tau = s.tau := rfl
@[simp] theorem setRmu_si (s : State) (x : Rmu) : (s.setRmu x).si = s.si := rfl
@[simp] theorem setRmu_td (s : State) (x : Rmu) : (s.setRmu x).td = s.td := rfl
@[simp] theorem setRmu_cu (s : State) (x : Rmu) : (s.setRmu x).cu = s.cu := rfl
@[simp] theorem setRmu_uc (s : State) (x : Rmu) : (s.setRmu x).uc = s.uc := rfl
@[simp] theorem setRmu_bm (s : State) (x : Rmu) : (s.setRmu x).bm = s.bm := rfl
@[simp] theorem setRmu_hc (s : State) (x : Rmu) : (s.setRmu x).hc = s.hc := rfl
@[simp] theorem setRmu_mc (s : State) (x : Rmu) : (s.setRmu x).mc = s.mc := rfl
@[simp] theorem setRmu_twm (s : State) (x : Rmu) : (s.setRmu x).twm = s.twm := rfl
@[simp] theorem setRmu_cs (s : State) (x : Rmu) : (s.setRmu x).cs = s.cs := rfl
@[simp] theorem setRmu_counters (s : State) (x : Rmu) : (s.setRmu x).counters = s.counters := rfl
@[simp] theorem setRmu_freeDrawn (s : State) (x : Rmu) : (s.setRmu x).freeDrawn = s.freeDrawn := rfl

/-! ## setLc -/

@[simp] theorem setLc_pending (s : State) (x : Link) : (s.setLc x).pending = s.pending := rfl
@[simp] theorem setLc_pins (s : State) (x : Link) : (s.setLc x).pins = s.pins := rfl
@[simp] theorem setLc_tb (s : State) (x : Link) : (s.setLc x).tb = s.tb := rfl
@[simp] theorem setLc_rmu (s : State) (x : Link) : (s.setLc x).rmu = s.rmu := rfl
@[simp] theorem setLc_lc (s : State) (x : Link) : (s.setLc x).lc = x := rfl
@[simp] theorem setLc_peers (s : State) (x : Link) : (s.setLc x).peers = s.peers := rfl
@[simp] theorem setLc_tau (s : State) (x : Link) : (s.setLc x).tau = s.tau := rfl
@[simp] theorem setLc_si (s : State) (x : Link) : (s.setLc x).si = s.si := rfl
@[simp] theorem setLc_td (s : State) (x : Link) : (s.setLc x).td = s.td := rfl
@[simp] theorem setLc_cu (s : State) (x : Link) : (s.setLc x).cu = s.cu := rfl
@[simp] theorem setLc_uc (s : State) (x : Link) : (s.setLc x).uc = s.uc := rfl
@[simp] theorem setLc_bm (s : State) (x : Link) : (s.setLc x).bm = s.bm := rfl
@[simp] theorem setLc_hc (s : State) (x : Link) : (s.setLc x).hc = s.hc := rfl
@[simp] theorem setLc_mc (s : State) (x : Link) : (s.setLc x).mc = s.mc := rfl
@[simp] theorem setLc_twm (s : State) (x : Link) : (s.setLc x).twm = s.twm := rfl
@[simp] theorem setLc_cs (s : State) (x : Link) : (s.setLc x).cs = s.cs := rfl
@[simp] theorem setLc_counters (s : State) (x : Link) : (s.setLc x).counters = s.counters := rfl
@[simp] theorem setLc_freeDrawn (s : State) (x : Link) : (s.setLc x).freeDrawn = s.freeDrawn := rfl

/-! ## setPeers -/

@[simp] theorem setPeers_pending (s : State) (x : List PeerRecord) : (s.setPeers x).pending = s.pending := rfl
@[simp] theorem setPeers_pins (s : State) (x : List PeerRecord) : (s.setPeers x).pins = s.pins := rfl
@[simp] theorem setPeers_tb (s : State) (x : List PeerRecord) : (s.setPeers x).tb = s.tb := rfl
@[simp] theorem setPeers_rmu (s : State) (x : List PeerRecord) : (s.setPeers x).rmu = s.rmu := rfl
@[simp] theorem setPeers_lc (s : State) (x : List PeerRecord) : (s.setPeers x).lc = s.lc := rfl
@[simp] theorem setPeers_peers (s : State) (x : List PeerRecord) : (s.setPeers x).peers = x := rfl
@[simp] theorem setPeers_tau (s : State) (x : List PeerRecord) : (s.setPeers x).tau = s.tau := rfl
@[simp] theorem setPeers_si (s : State) (x : List PeerRecord) : (s.setPeers x).si = s.si := rfl
@[simp] theorem setPeers_td (s : State) (x : List PeerRecord) : (s.setPeers x).td = s.td := rfl
@[simp] theorem setPeers_cu (s : State) (x : List PeerRecord) : (s.setPeers x).cu = s.cu := rfl
@[simp] theorem setPeers_uc (s : State) (x : List PeerRecord) : (s.setPeers x).uc = s.uc := rfl
@[simp] theorem setPeers_bm (s : State) (x : List PeerRecord) : (s.setPeers x).bm = s.bm := rfl
@[simp] theorem setPeers_hc (s : State) (x : List PeerRecord) : (s.setPeers x).hc = s.hc := rfl
@[simp] theorem setPeers_mc (s : State) (x : List PeerRecord) : (s.setPeers x).mc = s.mc := rfl
@[simp] theorem setPeers_twm (s : State) (x : List PeerRecord) : (s.setPeers x).twm = s.twm := rfl
@[simp] theorem setPeers_cs (s : State) (x : List PeerRecord) : (s.setPeers x).cs = s.cs := rfl
@[simp] theorem setPeers_counters (s : State) (x : List PeerRecord) : (s.setPeers x).counters = s.counters := rfl
@[simp] theorem setPeers_freeDrawn (s : State) (x : List PeerRecord) : (s.setPeers x).freeDrawn = s.freeDrawn := rfl

/-! ## setTau -/

@[simp] theorem setTau_pending (s : State) (x : Agreement) : (s.setTau x).pending = s.pending := rfl
@[simp] theorem setTau_pins (s : State) (x : Agreement) : (s.setTau x).pins = s.pins := rfl
@[simp] theorem setTau_tb (s : State) (x : Agreement) : (s.setTau x).tb = s.tb := rfl
@[simp] theorem setTau_rmu (s : State) (x : Agreement) : (s.setTau x).rmu = s.rmu := rfl
@[simp] theorem setTau_lc (s : State) (x : Agreement) : (s.setTau x).lc = s.lc := rfl
@[simp] theorem setTau_peers (s : State) (x : Agreement) : (s.setTau x).peers = s.peers := rfl
@[simp] theorem setTau_tau (s : State) (x : Agreement) : (s.setTau x).tau = x := rfl
@[simp] theorem setTau_si (s : State) (x : Agreement) : (s.setTau x).si = s.si := rfl
@[simp] theorem setTau_td (s : State) (x : Agreement) : (s.setTau x).td = s.td := rfl
@[simp] theorem setTau_cu (s : State) (x : Agreement) : (s.setTau x).cu = s.cu := rfl
@[simp] theorem setTau_uc (s : State) (x : Agreement) : (s.setTau x).uc = s.uc := rfl
@[simp] theorem setTau_bm (s : State) (x : Agreement) : (s.setTau x).bm = s.bm := rfl
@[simp] theorem setTau_hc (s : State) (x : Agreement) : (s.setTau x).hc = s.hc := rfl
@[simp] theorem setTau_mc (s : State) (x : Agreement) : (s.setTau x).mc = s.mc := rfl
@[simp] theorem setTau_twm (s : State) (x : Agreement) : (s.setTau x).twm = s.twm := rfl
@[simp] theorem setTau_cs (s : State) (x : Agreement) : (s.setTau x).cs = s.cs := rfl
@[simp] theorem setTau_counters (s : State) (x : Agreement) : (s.setTau x).counters = s.counters := rfl
@[simp] theorem setTau_freeDrawn (s : State) (x : Agreement) : (s.setTau x).freeDrawn = s.freeDrawn := rfl

/-! ## setSi -/

@[simp] theorem setSi_pending (s : State) (x : SampleIf) : (s.setSi x).pending = s.pending := rfl
@[simp] theorem setSi_pins (s : State) (x : SampleIf) : (s.setSi x).pins = s.pins := rfl
@[simp] theorem setSi_tb (s : State) (x : SampleIf) : (s.setSi x).tb = s.tb := rfl
@[simp] theorem setSi_rmu (s : State) (x : SampleIf) : (s.setSi x).rmu = s.rmu := rfl
@[simp] theorem setSi_lc (s : State) (x : SampleIf) : (s.setSi x).lc = s.lc := rfl
@[simp] theorem setSi_peers (s : State) (x : SampleIf) : (s.setSi x).peers = s.peers := rfl
@[simp] theorem setSi_tau (s : State) (x : SampleIf) : (s.setSi x).tau = s.tau := rfl
@[simp] theorem setSi_si (s : State) (x : SampleIf) : (s.setSi x).si = x := rfl
@[simp] theorem setSi_td (s : State) (x : SampleIf) : (s.setSi x).td = s.td := rfl
@[simp] theorem setSi_cu (s : State) (x : SampleIf) : (s.setSi x).cu = s.cu := rfl
@[simp] theorem setSi_uc (s : State) (x : SampleIf) : (s.setSi x).uc = s.uc := rfl
@[simp] theorem setSi_bm (s : State) (x : SampleIf) : (s.setSi x).bm = s.bm := rfl
@[simp] theorem setSi_hc (s : State) (x : SampleIf) : (s.setSi x).hc = s.hc := rfl
@[simp] theorem setSi_mc (s : State) (x : SampleIf) : (s.setSi x).mc = s.mc := rfl
@[simp] theorem setSi_twm (s : State) (x : SampleIf) : (s.setSi x).twm = s.twm := rfl
@[simp] theorem setSi_cs (s : State) (x : SampleIf) : (s.setSi x).cs = s.cs := rfl
@[simp] theorem setSi_counters (s : State) (x : SampleIf) : (s.setSi x).counters = s.counters := rfl
@[simp] theorem setSi_freeDrawn (s : State) (x : SampleIf) : (s.setSi x).freeDrawn = s.freeDrawn := rfl

/-! ## setTd -/

@[simp] theorem setTd_pending (s : State) (x : Trigger) : (s.setTd x).pending = s.pending := rfl
@[simp] theorem setTd_pins (s : State) (x : Trigger) : (s.setTd x).pins = s.pins := rfl
@[simp] theorem setTd_tb (s : State) (x : Trigger) : (s.setTd x).tb = s.tb := rfl
@[simp] theorem setTd_rmu (s : State) (x : Trigger) : (s.setTd x).rmu = s.rmu := rfl
@[simp] theorem setTd_lc (s : State) (x : Trigger) : (s.setTd x).lc = s.lc := rfl
@[simp] theorem setTd_peers (s : State) (x : Trigger) : (s.setTd x).peers = s.peers := rfl
@[simp] theorem setTd_tau (s : State) (x : Trigger) : (s.setTd x).tau = s.tau := rfl
@[simp] theorem setTd_si (s : State) (x : Trigger) : (s.setTd x).si = s.si := rfl
@[simp] theorem setTd_td (s : State) (x : Trigger) : (s.setTd x).td = x := rfl
@[simp] theorem setTd_cu (s : State) (x : Trigger) : (s.setTd x).cu = s.cu := rfl
@[simp] theorem setTd_uc (s : State) (x : Trigger) : (s.setTd x).uc = s.uc := rfl
@[simp] theorem setTd_bm (s : State) (x : Trigger) : (s.setTd x).bm = s.bm := rfl
@[simp] theorem setTd_hc (s : State) (x : Trigger) : (s.setTd x).hc = s.hc := rfl
@[simp] theorem setTd_mc (s : State) (x : Trigger) : (s.setTd x).mc = s.mc := rfl
@[simp] theorem setTd_twm (s : State) (x : Trigger) : (s.setTd x).twm = s.twm := rfl
@[simp] theorem setTd_cs (s : State) (x : Trigger) : (s.setTd x).cs = s.cs := rfl
@[simp] theorem setTd_counters (s : State) (x : Trigger) : (s.setTd x).counters = s.counters := rfl
@[simp] theorem setTd_freeDrawn (s : State) (x : Trigger) : (s.setTd x).freeDrawn = s.freeDrawn := rfl

/-! ## setCu -/

@[simp] theorem setCu_pending (s : State) (x : Coincidence) : (s.setCu x).pending = s.pending := rfl
@[simp] theorem setCu_pins (s : State) (x : Coincidence) : (s.setCu x).pins = s.pins := rfl
@[simp] theorem setCu_tb (s : State) (x : Coincidence) : (s.setCu x).tb = s.tb := rfl
@[simp] theorem setCu_rmu (s : State) (x : Coincidence) : (s.setCu x).rmu = s.rmu := rfl
@[simp] theorem setCu_lc (s : State) (x : Coincidence) : (s.setCu x).lc = s.lc := rfl
@[simp] theorem setCu_peers (s : State) (x : Coincidence) : (s.setCu x).peers = s.peers := rfl
@[simp] theorem setCu_tau (s : State) (x : Coincidence) : (s.setCu x).tau = s.tau := rfl
@[simp] theorem setCu_si (s : State) (x : Coincidence) : (s.setCu x).si = s.si := rfl
@[simp] theorem setCu_td (s : State) (x : Coincidence) : (s.setCu x).td = s.td := rfl
@[simp] theorem setCu_cu (s : State) (x : Coincidence) : (s.setCu x).cu = x := rfl
@[simp] theorem setCu_uc (s : State) (x : Coincidence) : (s.setCu x).uc = s.uc := rfl
@[simp] theorem setCu_bm (s : State) (x : Coincidence) : (s.setCu x).bm = s.bm := rfl
@[simp] theorem setCu_hc (s : State) (x : Coincidence) : (s.setCu x).hc = s.hc := rfl
@[simp] theorem setCu_mc (s : State) (x : Coincidence) : (s.setCu x).mc = s.mc := rfl
@[simp] theorem setCu_twm (s : State) (x : Coincidence) : (s.setCu x).twm = s.twm := rfl
@[simp] theorem setCu_cs (s : State) (x : Coincidence) : (s.setCu x).cs = s.cs := rfl
@[simp] theorem setCu_counters (s : State) (x : Coincidence) : (s.setCu x).counters = s.counters := rfl
@[simp] theorem setCu_freeDrawn (s : State) (x : Coincidence) : (s.setCu x).freeDrawn = s.freeDrawn := rfl

/-! ## setUc -/

@[simp] theorem setUc_pending (s : State) (x : Uplink) : (s.setUc x).pending = s.pending := rfl
@[simp] theorem setUc_pins (s : State) (x : Uplink) : (s.setUc x).pins = s.pins := rfl
@[simp] theorem setUc_tb (s : State) (x : Uplink) : (s.setUc x).tb = s.tb := rfl
@[simp] theorem setUc_rmu (s : State) (x : Uplink) : (s.setUc x).rmu = s.rmu := rfl
@[simp] theorem setUc_lc (s : State) (x : Uplink) : (s.setUc x).lc = s.lc := rfl
@[simp] theorem setUc_peers (s : State) (x : Uplink) : (s.setUc x).peers = s.peers := rfl
@[simp] theorem setUc_tau (s : State) (x : Uplink) : (s.setUc x).tau = s.tau := rfl
@[simp] theorem setUc_si (s : State) (x : Uplink) : (s.setUc x).si = s.si := rfl
@[simp] theorem setUc_td (s : State) (x : Uplink) : (s.setUc x).td = s.td := rfl
@[simp] theorem setUc_cu (s : State) (x : Uplink) : (s.setUc x).cu = s.cu := rfl
@[simp] theorem setUc_uc (s : State) (x : Uplink) : (s.setUc x).uc = x := rfl
@[simp] theorem setUc_bm (s : State) (x : Uplink) : (s.setUc x).bm = s.bm := rfl
@[simp] theorem setUc_hc (s : State) (x : Uplink) : (s.setUc x).hc = s.hc := rfl
@[simp] theorem setUc_mc (s : State) (x : Uplink) : (s.setUc x).mc = s.mc := rfl
@[simp] theorem setUc_twm (s : State) (x : Uplink) : (s.setUc x).twm = s.twm := rfl
@[simp] theorem setUc_cs (s : State) (x : Uplink) : (s.setUc x).cs = s.cs := rfl
@[simp] theorem setUc_counters (s : State) (x : Uplink) : (s.setUc x).counters = s.counters := rfl
@[simp] theorem setUc_freeDrawn (s : State) (x : Uplink) : (s.setUc x).freeDrawn = s.freeDrawn := rfl

/-! ## setBm -/

@[simp] theorem setBm_pending (s : State) (x : Battery) : (s.setBm x).pending = s.pending := rfl
@[simp] theorem setBm_pins (s : State) (x : Battery) : (s.setBm x).pins = s.pins := rfl
@[simp] theorem setBm_tb (s : State) (x : Battery) : (s.setBm x).tb = s.tb := rfl
@[simp] theorem setBm_rmu (s : State) (x : Battery) : (s.setBm x).rmu = s.rmu := rfl
@[simp] theorem setBm_lc (s : State) (x : Battery) : (s.setBm x).lc = s.lc := rfl
@[simp] theorem setBm_peers (s : State) (x : Battery) : (s.setBm x).peers = s.peers := rfl
@[simp] theorem setBm_tau (s : State) (x : Battery) : (s.setBm x).tau = s.tau := rfl
@[simp] theorem setBm_si (s : State) (x : Battery) : (s.setBm x).si = s.si := rfl
@[simp] theorem setBm_td (s : State) (x : Battery) : (s.setBm x).td = s.td := rfl
@[simp] theorem setBm_cu (s : State) (x : Battery) : (s.setBm x).cu = s.cu := rfl
@[simp] theorem setBm_uc (s : State) (x : Battery) : (s.setBm x).uc = s.uc := rfl
@[simp] theorem setBm_bm (s : State) (x : Battery) : (s.setBm x).bm = x := rfl
@[simp] theorem setBm_hc (s : State) (x : Battery) : (s.setBm x).hc = s.hc := rfl
@[simp] theorem setBm_mc (s : State) (x : Battery) : (s.setBm x).mc = s.mc := rfl
@[simp] theorem setBm_twm (s : State) (x : Battery) : (s.setBm x).twm = s.twm := rfl
@[simp] theorem setBm_cs (s : State) (x : Battery) : (s.setBm x).cs = s.cs := rfl
@[simp] theorem setBm_counters (s : State) (x : Battery) : (s.setBm x).counters = s.counters := rfl
@[simp] theorem setBm_freeDrawn (s : State) (x : Battery) : (s.setBm x).freeDrawn = s.freeDrawn := rfl

/-! ## setHc -/

@[simp] theorem setHc_pending (s : State) (x : Heaters) : (s.setHc x).pending = s.pending := rfl
@[simp] theorem setHc_pins (s : State) (x : Heaters) : (s.setHc x).pins = s.pins := rfl
@[simp] theorem setHc_tb (s : State) (x : Heaters) : (s.setHc x).tb = s.tb := rfl
@[simp] theorem setHc_rmu (s : State) (x : Heaters) : (s.setHc x).rmu = s.rmu := rfl
@[simp] theorem setHc_lc (s : State) (x : Heaters) : (s.setHc x).lc = s.lc := rfl
@[simp] theorem setHc_peers (s : State) (x : Heaters) : (s.setHc x).peers = s.peers := rfl
@[simp] theorem setHc_tau (s : State) (x : Heaters) : (s.setHc x).tau = s.tau := rfl
@[simp] theorem setHc_si (s : State) (x : Heaters) : (s.setHc x).si = s.si := rfl
@[simp] theorem setHc_td (s : State) (x : Heaters) : (s.setHc x).td = s.td := rfl
@[simp] theorem setHc_cu (s : State) (x : Heaters) : (s.setHc x).cu = s.cu := rfl
@[simp] theorem setHc_uc (s : State) (x : Heaters) : (s.setHc x).uc = s.uc := rfl
@[simp] theorem setHc_bm (s : State) (x : Heaters) : (s.setHc x).bm = s.bm := rfl
@[simp] theorem setHc_hc (s : State) (x : Heaters) : (s.setHc x).hc = x := rfl
@[simp] theorem setHc_mc (s : State) (x : Heaters) : (s.setHc x).mc = s.mc := rfl
@[simp] theorem setHc_twm (s : State) (x : Heaters) : (s.setHc x).twm = s.twm := rfl
@[simp] theorem setHc_cs (s : State) (x : Heaters) : (s.setHc x).cs = s.cs := rfl
@[simp] theorem setHc_counters (s : State) (x : Heaters) : (s.setHc x).counters = s.counters := rfl
@[simp] theorem setHc_freeDrawn (s : State) (x : Heaters) : (s.setHc x).freeDrawn = s.freeDrawn := rfl

/-! ## setMc -/

@[simp] theorem setMc_pending (s : State) (x : ModeCtl) : (s.setMc x).pending = s.pending := rfl
@[simp] theorem setMc_pins (s : State) (x : ModeCtl) : (s.setMc x).pins = s.pins := rfl
@[simp] theorem setMc_tb (s : State) (x : ModeCtl) : (s.setMc x).tb = s.tb := rfl
@[simp] theorem setMc_rmu (s : State) (x : ModeCtl) : (s.setMc x).rmu = s.rmu := rfl
@[simp] theorem setMc_lc (s : State) (x : ModeCtl) : (s.setMc x).lc = s.lc := rfl
@[simp] theorem setMc_peers (s : State) (x : ModeCtl) : (s.setMc x).peers = s.peers := rfl
@[simp] theorem setMc_tau (s : State) (x : ModeCtl) : (s.setMc x).tau = s.tau := rfl
@[simp] theorem setMc_si (s : State) (x : ModeCtl) : (s.setMc x).si = s.si := rfl
@[simp] theorem setMc_td (s : State) (x : ModeCtl) : (s.setMc x).td = s.td := rfl
@[simp] theorem setMc_cu (s : State) (x : ModeCtl) : (s.setMc x).cu = s.cu := rfl
@[simp] theorem setMc_uc (s : State) (x : ModeCtl) : (s.setMc x).uc = s.uc := rfl
@[simp] theorem setMc_bm (s : State) (x : ModeCtl) : (s.setMc x).bm = s.bm := rfl
@[simp] theorem setMc_hc (s : State) (x : ModeCtl) : (s.setMc x).hc = s.hc := rfl
@[simp] theorem setMc_mc (s : State) (x : ModeCtl) : (s.setMc x).mc = x := rfl
@[simp] theorem setMc_twm (s : State) (x : ModeCtl) : (s.setMc x).twm = s.twm := rfl
@[simp] theorem setMc_cs (s : State) (x : ModeCtl) : (s.setMc x).cs = s.cs := rfl
@[simp] theorem setMc_counters (s : State) (x : ModeCtl) : (s.setMc x).counters = s.counters := rfl
@[simp] theorem setMc_freeDrawn (s : State) (x : ModeCtl) : (s.setMc x).freeDrawn = s.freeDrawn := rfl

/-! ## setTwm -/

@[simp] theorem setTwm_pending (s : State) (x : TwoWire) : (s.setTwm x).pending = s.pending := rfl
@[simp] theorem setTwm_pins (s : State) (x : TwoWire) : (s.setTwm x).pins = s.pins := rfl
@[simp] theorem setTwm_tb (s : State) (x : TwoWire) : (s.setTwm x).tb = s.tb := rfl
@[simp] theorem setTwm_rmu (s : State) (x : TwoWire) : (s.setTwm x).rmu = s.rmu := rfl
@[simp] theorem setTwm_lc (s : State) (x : TwoWire) : (s.setTwm x).lc = s.lc := rfl
@[simp] theorem setTwm_peers (s : State) (x : TwoWire) : (s.setTwm x).peers = s.peers := rfl
@[simp] theorem setTwm_tau (s : State) (x : TwoWire) : (s.setTwm x).tau = s.tau := rfl
@[simp] theorem setTwm_si (s : State) (x : TwoWire) : (s.setTwm x).si = s.si := rfl
@[simp] theorem setTwm_td (s : State) (x : TwoWire) : (s.setTwm x).td = s.td := rfl
@[simp] theorem setTwm_cu (s : State) (x : TwoWire) : (s.setTwm x).cu = s.cu := rfl
@[simp] theorem setTwm_uc (s : State) (x : TwoWire) : (s.setTwm x).uc = s.uc := rfl
@[simp] theorem setTwm_bm (s : State) (x : TwoWire) : (s.setTwm x).bm = s.bm := rfl
@[simp] theorem setTwm_hc (s : State) (x : TwoWire) : (s.setTwm x).hc = s.hc := rfl
@[simp] theorem setTwm_mc (s : State) (x : TwoWire) : (s.setTwm x).mc = s.mc := rfl
@[simp] theorem setTwm_twm (s : State) (x : TwoWire) : (s.setTwm x).twm = x := rfl
@[simp] theorem setTwm_cs (s : State) (x : TwoWire) : (s.setTwm x).cs = s.cs := rfl
@[simp] theorem setTwm_counters (s : State) (x : TwoWire) : (s.setTwm x).counters = s.counters := rfl
@[simp] theorem setTwm_freeDrawn (s : State) (x : TwoWire) : (s.setTwm x).freeDrawn = s.freeDrawn := rfl

/-! ## setCs -/

@[simp] theorem setCs_pending (s : State) (x : Service) : (s.setCs x).pending = s.pending := rfl
@[simp] theorem setCs_pins (s : State) (x : Service) : (s.setCs x).pins = s.pins := rfl
@[simp] theorem setCs_tb (s : State) (x : Service) : (s.setCs x).tb = s.tb := rfl
@[simp] theorem setCs_rmu (s : State) (x : Service) : (s.setCs x).rmu = s.rmu := rfl
@[simp] theorem setCs_lc (s : State) (x : Service) : (s.setCs x).lc = s.lc := rfl
@[simp] theorem setCs_peers (s : State) (x : Service) : (s.setCs x).peers = s.peers := rfl
@[simp] theorem setCs_tau (s : State) (x : Service) : (s.setCs x).tau = s.tau := rfl
@[simp] theorem setCs_si (s : State) (x : Service) : (s.setCs x).si = s.si := rfl
@[simp] theorem setCs_td (s : State) (x : Service) : (s.setCs x).td = s.td := rfl
@[simp] theorem setCs_cu (s : State) (x : Service) : (s.setCs x).cu = s.cu := rfl
@[simp] theorem setCs_uc (s : State) (x : Service) : (s.setCs x).uc = s.uc := rfl
@[simp] theorem setCs_bm (s : State) (x : Service) : (s.setCs x).bm = s.bm := rfl
@[simp] theorem setCs_hc (s : State) (x : Service) : (s.setCs x).hc = s.hc := rfl
@[simp] theorem setCs_mc (s : State) (x : Service) : (s.setCs x).mc = s.mc := rfl
@[simp] theorem setCs_twm (s : State) (x : Service) : (s.setCs x).twm = s.twm := rfl
@[simp] theorem setCs_cs (s : State) (x : Service) : (s.setCs x).cs = x := rfl
@[simp] theorem setCs_counters (s : State) (x : Service) : (s.setCs x).counters = s.counters := rfl
@[simp] theorem setCs_freeDrawn (s : State) (x : Service) : (s.setCs x).freeDrawn = s.freeDrawn := rfl

/-! ## setCounters -/

@[simp] theorem setCounters_pending (s : State) (x : Vector Nat 102) : (s.setCounters x).pending = s.pending := rfl
@[simp] theorem setCounters_pins (s : State) (x : Vector Nat 102) : (s.setCounters x).pins = s.pins := rfl
@[simp] theorem setCounters_tb (s : State) (x : Vector Nat 102) : (s.setCounters x).tb = s.tb := rfl
@[simp] theorem setCounters_rmu (s : State) (x : Vector Nat 102) : (s.setCounters x).rmu = s.rmu := rfl
@[simp] theorem setCounters_lc (s : State) (x : Vector Nat 102) : (s.setCounters x).lc = s.lc := rfl
@[simp] theorem setCounters_peers (s : State) (x : Vector Nat 102) : (s.setCounters x).peers = s.peers := rfl
@[simp] theorem setCounters_tau (s : State) (x : Vector Nat 102) : (s.setCounters x).tau = s.tau := rfl
@[simp] theorem setCounters_si (s : State) (x : Vector Nat 102) : (s.setCounters x).si = s.si := rfl
@[simp] theorem setCounters_td (s : State) (x : Vector Nat 102) : (s.setCounters x).td = s.td := rfl
@[simp] theorem setCounters_cu (s : State) (x : Vector Nat 102) : (s.setCounters x).cu = s.cu := rfl
@[simp] theorem setCounters_uc (s : State) (x : Vector Nat 102) : (s.setCounters x).uc = s.uc := rfl
@[simp] theorem setCounters_bm (s : State) (x : Vector Nat 102) : (s.setCounters x).bm = s.bm := rfl
@[simp] theorem setCounters_hc (s : State) (x : Vector Nat 102) : (s.setCounters x).hc = s.hc := rfl
@[simp] theorem setCounters_mc (s : State) (x : Vector Nat 102) : (s.setCounters x).mc = s.mc := rfl
@[simp] theorem setCounters_twm (s : State) (x : Vector Nat 102) : (s.setCounters x).twm = s.twm := rfl
@[simp] theorem setCounters_cs (s : State) (x : Vector Nat 102) : (s.setCounters x).cs = s.cs := rfl
@[simp] theorem setCounters_counters (s : State) (x : Vector Nat 102) : (s.setCounters x).counters = x := rfl
@[simp] theorem setCounters_freeDrawn (s : State) (x : Vector Nat 102) : (s.setCounters x).freeDrawn = s.freeDrawn := rfl

/-! ## setFreeDrawn -/

@[simp] theorem setFreeDrawn_pending (s : State) (x : Nat) : (s.setFreeDrawn x).pending = s.pending := rfl
@[simp] theorem setFreeDrawn_pins (s : State) (x : Nat) : (s.setFreeDrawn x).pins = s.pins := rfl
@[simp] theorem setFreeDrawn_tb (s : State) (x : Nat) : (s.setFreeDrawn x).tb = s.tb := rfl
@[simp] theorem setFreeDrawn_rmu (s : State) (x : Nat) : (s.setFreeDrawn x).rmu = s.rmu := rfl
@[simp] theorem setFreeDrawn_lc (s : State) (x : Nat) : (s.setFreeDrawn x).lc = s.lc := rfl
@[simp] theorem setFreeDrawn_peers (s : State) (x : Nat) : (s.setFreeDrawn x).peers = s.peers := rfl
@[simp] theorem setFreeDrawn_tau (s : State) (x : Nat) : (s.setFreeDrawn x).tau = s.tau := rfl
@[simp] theorem setFreeDrawn_si (s : State) (x : Nat) : (s.setFreeDrawn x).si = s.si := rfl
@[simp] theorem setFreeDrawn_td (s : State) (x : Nat) : (s.setFreeDrawn x).td = s.td := rfl
@[simp] theorem setFreeDrawn_cu (s : State) (x : Nat) : (s.setFreeDrawn x).cu = s.cu := rfl
@[simp] theorem setFreeDrawn_uc (s : State) (x : Nat) : (s.setFreeDrawn x).uc = s.uc := rfl
@[simp] theorem setFreeDrawn_bm (s : State) (x : Nat) : (s.setFreeDrawn x).bm = s.bm := rfl
@[simp] theorem setFreeDrawn_hc (s : State) (x : Nat) : (s.setFreeDrawn x).hc = s.hc := rfl
@[simp] theorem setFreeDrawn_mc (s : State) (x : Nat) : (s.setFreeDrawn x).mc = s.mc := rfl
@[simp] theorem setFreeDrawn_twm (s : State) (x : Nat) : (s.setFreeDrawn x).twm = s.twm := rfl
@[simp] theorem setFreeDrawn_cs (s : State) (x : Nat) : (s.setFreeDrawn x).cs = s.cs := rfl
@[simp] theorem setFreeDrawn_counters (s : State) (x : Nat) : (s.setFreeDrawn x).counters = s.counters := rfl
@[simp] theorem setFreeDrawn_freeDrawn (s : State) (x : Nat) : (s.setFreeDrawn x).freeDrawn = x := rfl

end Sys2Proof.Machine
end

