-- ==== Sys2Proof/Laws/Frames.lean ====
section
/-! SUPPORT. What each shared operation leaves as it was: one lemma per operation, naming every part of the state it never
touches. -/
namespace Sys2Proof.Machine

/-- A fold whose steps keep a reading of the state keeps it. -/
theorem foldl_keeps {α β γ : Type} (f : β → α → β) (p : β → γ) (h : ∀ b a, p (f b a) = p b) (xs : List α) (b : β) :
    p (xs.foldl f b) = p b := by
  induction xs generalizing b with
  | nil => rfl
  | cons x xs ih => simp [ih, h]

@[simp] theorem setSlots_leaves (s : State) (x : Slots) :
    (s.setSlots x).pending = s.pending ∧ (s.setSlots x).pins = s.pins ∧ (s.setSlots x).tb = s.tb ∧
    (s.setSlots x).rmu = s.rmu ∧ (s.setSlots x).peers = s.peers ∧ (s.setSlots x).tau = s.tau ∧
    (s.setSlots x).si = s.si ∧ (s.setSlots x).td = s.td ∧ (s.setSlots x).cu = s.cu ∧ (s.setSlots x).uc = s.uc ∧
    (s.setSlots x).bm = s.bm ∧ (s.setSlots x).hc = s.hc ∧ (s.setSlots x).mc = s.mc ∧ (s.setSlots x).twm = s.twm ∧
    (s.setSlots x).cs = s.cs ∧ (s.setSlots x).counters = s.counters ∧ (s.setSlots x).freeDrawn = s.freeDrawn := by
  simp [State.setSlots]

@[simp] theorem bump_leaves (c : Counter) (s : State) :
    (bump c s).pending = s.pending ∧ (bump c s).pins = s.pins ∧ (bump c s).tb = s.tb ∧ (bump c s).rmu = s.rmu ∧
    (bump c s).lc = s.lc ∧ (bump c s).peers = s.peers ∧ (bump c s).tau = s.tau ∧ (bump c s).si = s.si ∧
    (bump c s).td = s.td ∧ (bump c s).cu = s.cu ∧ (bump c s).uc = s.uc ∧ (bump c s).bm = s.bm ∧ (bump c s).hc = s.hc ∧
    (bump c s).mc = s.mc ∧ (bump c s).twm = s.twm ∧ (bump c s).cs = s.cs ∧ (bump c s).freeDrawn = s.freeDrawn := by
  simp only [bump]; (repeat' split) <;> simp

@[simp] theorem bumpBy_leaves (c : Counter) (n : Nat) (s : State) :
    (bumpBy c n s).pending = s.pending ∧ (bumpBy c n s).pins = s.pins ∧ (bumpBy c n s).tb = s.tb ∧
    (bumpBy c n s).rmu = s.rmu ∧ (bumpBy c n s).lc = s.lc ∧ (bumpBy c n s).peers = s.peers ∧ (bumpBy c n s).tau = s.tau ∧
    (bumpBy c n s).si = s.si ∧ (bumpBy c n s).td = s.td ∧ (bumpBy c n s).cu = s.cu ∧ (bumpBy c n s).uc = s.uc ∧
    (bumpBy c n s).bm = s.bm ∧ (bumpBy c n s).hc = s.hc ∧ (bumpBy c n s).mc = s.mc ∧ (bumpBy c n s).twm = s.twm ∧
    (bumpBy c n s).cs = s.cs ∧ (bumpBy c n s).freeDrawn = s.freeDrawn := by
  simp only [bumpBy]; (repeat' split) <;> simp

@[simp] theorem bumpIf_leaves (b : Bool) (c : Counter) (s : State) :
    (bumpIf b c s).pending = s.pending ∧ (bumpIf b c s).pins = s.pins ∧ (bumpIf b c s).tb = s.tb ∧
    (bumpIf b c s).rmu = s.rmu ∧ (bumpIf b c s).lc = s.lc ∧ (bumpIf b c s).peers = s.peers ∧ (bumpIf b c s).tau = s.tau ∧
    (bumpIf b c s).si = s.si ∧ (bumpIf b c s).td = s.td ∧ (bumpIf b c s).cu = s.cu ∧ (bumpIf b c s).uc = s.uc ∧
    (bumpIf b c s).bm = s.bm ∧ (bumpIf b c s).hc = s.hc ∧ (bumpIf b c s).mc = s.mc ∧ (bumpIf b c s).twm = s.twm ∧
    (bumpIf b c s).cs = s.cs ∧ (bumpIf b c s).freeDrawn = s.freeDrawn := by
  simp only [bumpIf]; (repeat' split) <;> simp

@[simp] theorem tellMode_leaves (s : State) :
    (tellMode s).pending = s.pending ∧ (tellMode s).pins = s.pins ∧ (tellMode s).tb = s.tb ∧ (tellMode s).rmu = s.rmu ∧
    (tellMode s).lc = s.lc ∧ (tellMode s).peers = s.peers ∧ (tellMode s).tau = s.tau ∧ (tellMode s).si = s.si ∧
    (tellMode s).td = s.td ∧ (tellMode s).cu = s.cu ∧ (tellMode s).uc = s.uc ∧ (tellMode s).bm = s.bm ∧
    (tellMode s).hc = s.hc ∧ (tellMode s).twm = s.twm ∧ (tellMode s).cs = s.cs ∧ (tellMode s).counters = s.counters ∧
    (tellMode s).freeDrawn = s.freeDrawn := by
  simp only [tellMode]; (repeat' split) <;> simp

@[simp] theorem alarmMode_leaves (s : State) :
    (alarmMode s).pending = s.pending ∧ (alarmMode s).pins = s.pins ∧ (alarmMode s).tb = s.tb ∧ (alarmMode s).rmu = s.rmu ∧
    (alarmMode s).lc = s.lc ∧ (alarmMode s).peers = s.peers ∧ (alarmMode s).tau = s.tau ∧ (alarmMode s).si = s.si ∧
    (alarmMode s).td = s.td ∧ (alarmMode s).cu = s.cu ∧ (alarmMode s).uc = s.uc ∧ (alarmMode s).bm = s.bm ∧
    (alarmMode s).hc = s.hc ∧ (alarmMode s).twm = s.twm ∧ (alarmMode s).cs = s.cs ∧ (alarmMode s).counters = s.counters ∧
    (alarmMode s).freeDrawn = s.freeDrawn := by
  simp only [alarmMode]; (repeat' split) <;> simp

@[simp] theorem calRestart_leaves (s : State) :
    (calRestart s).pending = s.pending ∧ (calRestart s).pins = s.pins ∧ (calRestart s).rmu = s.rmu ∧
    (calRestart s).lc = s.lc ∧ (calRestart s).peers = s.peers ∧ (calRestart s).tau = s.tau ∧ (calRestart s).si = s.si ∧
    (calRestart s).td = s.td ∧ (calRestart s).cu = s.cu ∧ (calRestart s).uc = s.uc ∧ (calRestart s).bm = s.bm ∧
    (calRestart s).hc = s.hc ∧ (calRestart s).mc = s.mc ∧ (calRestart s).twm = s.twm ∧ (calRestart s).cs = s.cs ∧
    (calRestart s).counters = s.counters ∧ (calRestart s).freeDrawn = s.freeDrawn := by
  simp only [calRestart]; (repeat' split) <;> simp

@[simp] theorem calDiscard_leaves (s : State) :
    (calDiscard s).pending = s.pending ∧ (calDiscard s).pins = s.pins ∧ (calDiscard s).rmu = s.rmu ∧
    (calDiscard s).lc = s.lc ∧ (calDiscard s).peers = s.peers ∧ (calDiscard s).tau = s.tau ∧ (calDiscard s).si = s.si ∧
    (calDiscard s).td = s.td ∧ (calDiscard s).cu = s.cu ∧ (calDiscard s).uc = s.uc ∧ (calDiscard s).bm = s.bm ∧
    (calDiscard s).hc = s.hc ∧ (calDiscard s).mc = s.mc ∧ (calDiscard s).twm = s.twm ∧ (calDiscard s).cs = s.cs ∧
    (calDiscard s).freeDrawn = s.freeDrawn := by
  simp only [calDiscard]; (repeat' split) <;> simp

@[simp] theorem calModeChange_leaves (s : State) :
    (calModeChange s).pending = s.pending ∧ (calModeChange s).pins = s.pins ∧ (calModeChange s).rmu = s.rmu ∧
    (calModeChange s).lc = s.lc ∧ (calModeChange s).peers = s.peers ∧ (calModeChange s).tau = s.tau ∧
    (calModeChange s).si = s.si ∧ (calModeChange s).td = s.td ∧ (calModeChange s).cu = s.cu ∧ (calModeChange s).uc = s.uc ∧
    (calModeChange s).bm = s.bm ∧ (calModeChange s).hc = s.hc ∧ (calModeChange s).mc = s.mc ∧
    (calModeChange s).twm = s.twm ∧ (calModeChange s).cs = s.cs ∧ (calModeChange s).freeDrawn = s.freeDrawn := by
  simp only [calModeChange]; (repeat' split) <;> simp

@[simp] theorem runFast_leaves (s : State) :
    (runFast s).pending = s.pending ∧ (runFast s).pins = s.pins ∧ (runFast s).rmu = s.rmu ∧ (runFast s).lc = s.lc ∧
    (runFast s).peers = s.peers ∧ (runFast s).tau = s.tau ∧ (runFast s).si = s.si ∧ (runFast s).td = s.td ∧
    (runFast s).cu = s.cu ∧ (runFast s).uc = s.uc ∧ (runFast s).bm = s.bm ∧ (runFast s).hc = s.hc ∧ (runFast s).mc = s.mc ∧
    (runFast s).twm = s.twm ∧ (runFast s).cs = s.cs ∧ (runFast s).counters = s.counters ∧
    (runFast s).freeDrawn = s.freeDrawn := by
  simp only [runFast]; (repeat' split) <;> simp

@[simp] theorem runSlow_leaves (s : State) :
    (runSlow s).pending = s.pending ∧ (runSlow s).pins = s.pins ∧ (runSlow s).rmu = s.rmu ∧ (runSlow s).lc = s.lc ∧
    (runSlow s).peers = s.peers ∧ (runSlow s).tau = s.tau ∧ (runSlow s).si = s.si ∧ (runSlow s).td = s.td ∧
    (runSlow s).cu = s.cu ∧ (runSlow s).uc = s.uc ∧ (runSlow s).bm = s.bm ∧ (runSlow s).hc = s.hc ∧ (runSlow s).mc = s.mc ∧
    (runSlow s).twm = s.twm ∧ (runSlow s).cs = s.cs ∧ (runSlow s).counters = s.counters ∧
    (runSlow s).freeDrawn = s.freeDrawn := by
  simp only [runSlow]; (repeat' split) <;> simp

@[simp] theorem distanceUnlocked_leaves (s : State) :
    (distanceUnlocked s).pending = s.pending ∧ (distanceUnlocked s).pins = s.pins ∧ (distanceUnlocked s).rmu = s.rmu ∧
    (distanceUnlocked s).lc = s.lc ∧ (distanceUnlocked s).peers = s.peers ∧ (distanceUnlocked s).tau = s.tau ∧
    (distanceUnlocked s).si = s.si ∧ (distanceUnlocked s).td = s.td ∧ (distanceUnlocked s).cu = s.cu ∧
    (distanceUnlocked s).uc = s.uc ∧ (distanceUnlocked s).bm = s.bm ∧ (distanceUnlocked s).hc = s.hc ∧
    (distanceUnlocked s).mc = s.mc ∧ (distanceUnlocked s).twm = s.twm ∧ (distanceUnlocked s).cs = s.cs ∧
    (distanceUnlocked s).counters = s.counters ∧ (distanceUnlocked s).freeDrawn = s.freeDrawn := by
  simp only [distanceUnlocked]; (repeat' split) <;> simp

@[simp] theorem tbStep_leaves (n : Int) (s : State) :
    (tbStep n s).pending = s.pending ∧ (tbStep n s).pins = s.pins ∧ (tbStep n s).rmu = s.rmu ∧ (tbStep n s).lc = s.lc ∧
    (tbStep n s).peers = s.peers ∧ (tbStep n s).tau = s.tau ∧ (tbStep n s).si = s.si ∧ (tbStep n s).td = s.td ∧
    (tbStep n s).cu = s.cu ∧ (tbStep n s).uc = s.uc ∧ (tbStep n s).bm = s.bm ∧ (tbStep n s).hc = s.hc ∧
    (tbStep n s).mc = s.mc ∧ (tbStep n s).twm = s.twm ∧ (tbStep n s).cs = s.cs ∧ (tbStep n s).freeDrawn = s.freeDrawn := by
  simp only [tbStep]; (repeat' split) <;> simp

@[simp] theorem twRequest_leaves (u : TwUser) (s : State) :
    (twRequest u s).pending = s.pending ∧ (twRequest u s).pins = s.pins ∧ (twRequest u s).tb = s.tb ∧
    (twRequest u s).rmu = s.rmu ∧ (twRequest u s).lc = s.lc ∧ (twRequest u s).peers = s.peers ∧
    (twRequest u s).tau = s.tau ∧ (twRequest u s).si = s.si ∧ (twRequest u s).td = s.td ∧ (twRequest u s).cu = s.cu ∧
    (twRequest u s).uc = s.uc ∧ (twRequest u s).bm = s.bm ∧ (twRequest u s).hc = s.hc ∧ (twRequest u s).mc = s.mc ∧
    (twRequest u s).cs = s.cs ∧ (twRequest u s).counters = s.counters ∧ (twRequest u s).freeDrawn = s.freeDrawn := by
  simp only [twRequest]; (repeat' split) <;> simp

@[simp] theorem freeBusCheck_leaves (s : State) :
    (freeBusCheck s).pending = s.pending ∧ (freeBusCheck s).pins = s.pins ∧ (freeBusCheck s).tb = s.tb ∧
    (freeBusCheck s).rmu = s.rmu ∧ (freeBusCheck s).lc = s.lc ∧ (freeBusCheck s).peers = s.peers ∧
    (freeBusCheck s).tau = s.tau ∧ (freeBusCheck s).si = s.si ∧ (freeBusCheck s).td = s.td ∧ (freeBusCheck s).cu = s.cu ∧
    (freeBusCheck s).uc = s.uc ∧ (freeBusCheck s).bm = s.bm ∧ (freeBusCheck s).hc = s.hc ∧ (freeBusCheck s).mc = s.mc ∧
    (freeBusCheck s).cs = s.cs ∧ (freeBusCheck s).freeDrawn = s.freeDrawn := by
  simp only [freeBusCheck]; (repeat' split) <;> simp

@[simp] theorem twStart_leaves (u : TwUser) (s : State) :
    (twStart u s).pending = s.pending ∧ (twStart u s).pins = s.pins ∧ (twStart u s).tb = s.tb ∧ (twStart u s).rmu = s.rmu ∧
    (twStart u s).lc = s.lc ∧ (twStart u s).peers = s.peers ∧ (twStart u s).tau = s.tau ∧ (twStart u s).si = s.si ∧
    (twStart u s).td = s.td ∧ (twStart u s).cu = s.cu ∧ (twStart u s).uc = s.uc ∧ (twStart u s).bm = s.bm ∧
    (twStart u s).hc = s.hc ∧ (twStart u s).mc = s.mc ∧ (twStart u s).cs = s.cs ∧ (twStart u s).freeDrawn = s.freeDrawn := by
  simp only [twStart]; (repeat' split) <;> simp

@[simp] theorem twKick_leaves (s : State) :
    (twKick s).pending = s.pending ∧ (twKick s).pins = s.pins ∧ (twKick s).tb = s.tb ∧ (twKick s).rmu = s.rmu ∧
    (twKick s).lc = s.lc ∧ (twKick s).peers = s.peers ∧ (twKick s).tau = s.tau ∧ (twKick s).si = s.si ∧
    (twKick s).td = s.td ∧ (twKick s).cu = s.cu ∧ (twKick s).uc = s.uc ∧ (twKick s).bm = s.bm ∧ (twKick s).hc = s.hc ∧
    (twKick s).mc = s.mc ∧ (twKick s).cs = s.cs ∧ (twKick s).freeDrawn = s.freeDrawn := by
  simp only [twKick]; (repeat' split) <;> simp

@[simp] theorem twSclSampled_leaves (s : State) :
    (twSclSampled s).pending = s.pending ∧ (twSclSampled s).pins = s.pins ∧ (twSclSampled s).tb = s.tb ∧
    (twSclSampled s).rmu = s.rmu ∧ (twSclSampled s).lc = s.lc ∧ (twSclSampled s).peers = s.peers ∧
    (twSclSampled s).tau = s.tau ∧ (twSclSampled s).si = s.si ∧ (twSclSampled s).td = s.td ∧ (twSclSampled s).cu = s.cu ∧
    (twSclSampled s).uc = s.uc ∧ (twSclSampled s).bm = s.bm ∧ (twSclSampled s).hc = s.hc ∧ (twSclSampled s).mc = s.mc ∧
    (twSclSampled s).cs = s.cs ∧ (twSclSampled s).freeDrawn = s.freeDrawn := by
  simp only [twSclSampled]; (repeat' split) <;> simp

@[simp] theorem twCountEnd_leaves {n : Nat} (r : TwEnd n) (s : State) :
    (twCountEnd r s).pending = s.pending ∧ (twCountEnd r s).pins = s.pins ∧ (twCountEnd r s).tb = s.tb ∧
    (twCountEnd r s).rmu = s.rmu ∧ (twCountEnd r s).lc = s.lc ∧ (twCountEnd r s).peers = s.peers ∧
    (twCountEnd r s).tau = s.tau ∧ (twCountEnd r s).si = s.si ∧ (twCountEnd r s).td = s.td ∧ (twCountEnd r s).cu = s.cu ∧
    (twCountEnd r s).uc = s.uc ∧ (twCountEnd r s).bm = s.bm ∧ (twCountEnd r s).hc = s.hc ∧ (twCountEnd r s).mc = s.mc ∧
    (twCountEnd r s).twm = s.twm ∧ (twCountEnd r s).cs = s.cs ∧ (twCountEnd r s).freeDrawn = s.freeDrawn := by
  simp only [twCountEnd]; (repeat' split) <;> simp

@[simp] theorem twEnd_leaves {n : Nat} (r : TwEnd n) (s : State) :
    (twEnd r s).pending = s.pending ∧ (twEnd r s).pins = s.pins ∧ (twEnd r s).tb = s.tb ∧ (twEnd r s).rmu = s.rmu ∧
    (twEnd r s).lc = s.lc ∧ (twEnd r s).peers = s.peers ∧ (twEnd r s).tau = s.tau ∧ (twEnd r s).si = s.si ∧
    (twEnd r s).td = s.td ∧ (twEnd r s).cu = s.cu ∧ (twEnd r s).uc = s.uc ∧ (twEnd r s).bm = s.bm ∧ (twEnd r s).hc = s.hc ∧
    (twEnd r s).mc = s.mc ∧ (twEnd r s).cs = s.cs ∧ (twEnd r s).freeDrawn = s.freeDrawn := by
  simp only [twEnd]; (repeat' split) <;> simp

@[simp] theorem twDiscard_leaves (u : TwUser) (s : State) :
    (twDiscard u s).pending = s.pending ∧ (twDiscard u s).pins = s.pins ∧ (twDiscard u s).tb = s.tb ∧
    (twDiscard u s).rmu = s.rmu ∧ (twDiscard u s).lc = s.lc ∧ (twDiscard u s).peers = s.peers ∧
    (twDiscard u s).tau = s.tau ∧ (twDiscard u s).si = s.si ∧ (twDiscard u s).td = s.td ∧ (twDiscard u s).cu = s.cu ∧
    (twDiscard u s).uc = s.uc ∧ (twDiscard u s).bm = s.bm ∧ (twDiscard u s).hc = s.hc ∧ (twDiscard u s).mc = s.mc ∧
    (twDiscard u s).cs = s.cs ∧ (twDiscard u s).counters = s.counters ∧ (twDiscard u s).freeDrawn = s.freeDrawn := by
  simp only [twDiscard]; (repeat' split) <;> simp

@[simp] theorem requestNotice_leaves (n : Notice) (s : State) :
    (requestNotice n s).pending = s.pending ∧ (requestNotice n s).pins = s.pins ∧ (requestNotice n s).tb = s.tb ∧
    (requestNotice n s).rmu = s.rmu ∧ (requestNotice n s).peers = s.peers ∧ (requestNotice n s).tau = s.tau ∧
    (requestNotice n s).si = s.si ∧ (requestNotice n s).td = s.td ∧ (requestNotice n s).cu = s.cu ∧
    (requestNotice n s).uc = s.uc ∧ (requestNotice n s).bm = s.bm ∧ (requestNotice n s).hc = s.hc ∧
    (requestNotice n s).mc = s.mc ∧ (requestNotice n s).twm = s.twm ∧ (requestNotice n s).cs = s.cs ∧
    (requestNotice n s).counters = s.counters ∧ (requestNotice n s).freeDrawn = s.freeDrawn := by
  simp only [requestNotice]; (repeat' split) <;> simp

@[simp] theorem requestReply_leaves (target : Nat) (t1 : StationTime) (t2 : Stamp) (s : State) :
    (requestReply target t1 t2 s).pending = s.pending ∧ (requestReply target t1 t2 s).pins = s.pins ∧
    (requestReply target t1 t2 s).tb = s.tb ∧ (requestReply target t1 t2 s).rmu = s.rmu ∧
    (requestReply target t1 t2 s).peers = s.peers ∧ (requestReply target t1 t2 s).tau = s.tau ∧
    (requestReply target t1 t2 s).si = s.si ∧ (requestReply target t1 t2 s).td = s.td ∧
    (requestReply target t1 t2 s).cu = s.cu ∧ (requestReply target t1 t2 s).uc = s.uc ∧
    (requestReply target t1 t2 s).bm = s.bm ∧ (requestReply target t1 t2 s).hc = s.hc ∧
    (requestReply target t1 t2 s).mc = s.mc ∧ (requestReply target t1 t2 s).twm = s.twm ∧
    (requestReply target t1 t2 s).cs = s.cs ∧ (requestReply target t1 t2 s).counters = s.counters ∧
    (requestReply target t1 t2 s).freeDrawn = s.freeDrawn := by
  simp only [requestReply]; (repeat' split) <;> simp

@[simp] theorem requestProbe_leaves (target : Nat) (s : State) :
    (requestProbe target s).pending = s.pending ∧ (requestProbe target s).pins = s.pins ∧
    (requestProbe target s).tb = s.tb ∧ (requestProbe target s).rmu = s.rmu ∧ (requestProbe target s).peers = s.peers ∧
    (requestProbe target s).tau = s.tau ∧ (requestProbe target s).si = s.si ∧ (requestProbe target s).td = s.td ∧
    (requestProbe target s).cu = s.cu ∧ (requestProbe target s).uc = s.uc ∧ (requestProbe target s).bm = s.bm ∧
    (requestProbe target s).hc = s.hc ∧ (requestProbe target s).mc = s.mc ∧ (requestProbe target s).twm = s.twm ∧
    (requestProbe target s).cs = s.cs ∧ (requestProbe target s).counters = s.counters ∧
    (requestProbe target s).freeDrawn = s.freeDrawn := by
  simp only [requestProbe]; (repeat' split) <;> simp

@[simp] theorem requestDeclaration_leaves (s : State) :
    (requestDeclaration s).pending = s.pending ∧ (requestDeclaration s).pins = s.pins ∧ (requestDeclaration s).tb = s.tb ∧
    (requestDeclaration s).rmu = s.rmu ∧ (requestDeclaration s).peers = s.peers ∧ (requestDeclaration s).tau = s.tau ∧
    (requestDeclaration s).si = s.si ∧ (requestDeclaration s).td = s.td ∧ (requestDeclaration s).cu = s.cu ∧
    (requestDeclaration s).uc = s.uc ∧ (requestDeclaration s).bm = s.bm ∧ (requestDeclaration s).hc = s.hc ∧
    (requestDeclaration s).mc = s.mc ∧ (requestDeclaration s).twm = s.twm ∧ (requestDeclaration s).cs = s.cs ∧
    (requestDeclaration s).counters = s.counters ∧ (requestDeclaration s).freeDrawn = s.freeDrawn := by
  simp only [requestDeclaration]; (repeat' split) <;> simp

@[simp] theorem fillBeacon_leaves (mark : BeaconMark) (s : State) :
    (fillBeacon mark s).pending = s.pending ∧ (fillBeacon mark s).pins = s.pins ∧ (fillBeacon mark s).tb = s.tb ∧
    (fillBeacon mark s).rmu = s.rmu ∧ (fillBeacon mark s).peers = s.peers ∧ (fillBeacon mark s).tau = s.tau ∧
    (fillBeacon mark s).si = s.si ∧ (fillBeacon mark s).td = s.td ∧ (fillBeacon mark s).cu = s.cu ∧
    (fillBeacon mark s).uc = s.uc ∧ (fillBeacon mark s).bm = s.bm ∧ (fillBeacon mark s).hc = s.hc ∧
    (fillBeacon mark s).twm = s.twm ∧ (fillBeacon mark s).cs = s.cs ∧ (fillBeacon mark s).counters = s.counters ∧
    (fillBeacon mark s).freeDrawn = s.freeDrawn := by
  simp only [fillBeacon]; (repeat' split) <;> simp

@[simp] theorem requestBeacon_leaves (s : State) :
    (requestBeacon s).pending = s.pending ∧ (requestBeacon s).pins = s.pins ∧ (requestBeacon s).tb = s.tb ∧
    (requestBeacon s).rmu = s.rmu ∧ (requestBeacon s).peers = s.peers ∧ (requestBeacon s).tau = s.tau ∧
    (requestBeacon s).si = s.si ∧ (requestBeacon s).td = s.td ∧ (requestBeacon s).cu = s.cu ∧ (requestBeacon s).uc = s.uc ∧
    (requestBeacon s).bm = s.bm ∧ (requestBeacon s).hc = s.hc ∧ (requestBeacon s).twm = s.twm ∧
    (requestBeacon s).cs = s.cs ∧ (requestBeacon s).counters = s.counters ∧ (requestBeacon s).freeDrawn = s.freeDrawn := by
  simp only [requestBeacon]; (repeat' split) <;> simp

@[simp] theorem forgetProbeInFlight_leaves (s : State) :
    (forgetProbeInFlight s).pending = s.pending ∧ (forgetProbeInFlight s).pins = s.pins ∧
    (forgetProbeInFlight s).tb = s.tb ∧ (forgetProbeInFlight s).rmu = s.rmu ∧ (forgetProbeInFlight s).peers = s.peers ∧
    (forgetProbeInFlight s).tau = s.tau ∧ (forgetProbeInFlight s).si = s.si ∧ (forgetProbeInFlight s).td = s.td ∧
    (forgetProbeInFlight s).cu = s.cu ∧ (forgetProbeInFlight s).uc = s.uc ∧ (forgetProbeInFlight s).bm = s.bm ∧
    (forgetProbeInFlight s).hc = s.hc ∧ (forgetProbeInFlight s).mc = s.mc ∧ (forgetProbeInFlight s).twm = s.twm ∧
    (forgetProbeInFlight s).cs = s.cs ∧ (forgetProbeInFlight s).counters = s.counters ∧
    (forgetProbeInFlight s).freeDrawn = s.freeDrawn := by
  simp only [forgetProbeInFlight]; (repeat' split) <;> simp

@[simp] theorem forgetReportInFlight_leaves (s : State) :
    (forgetReportInFlight s).pending = s.pending ∧ (forgetReportInFlight s).pins = s.pins ∧
    (forgetReportInFlight s).tb = s.tb ∧ (forgetReportInFlight s).rmu = s.rmu ∧ (forgetReportInFlight s).peers = s.peers ∧
    (forgetReportInFlight s).tau = s.tau ∧ (forgetReportInFlight s).si = s.si ∧ (forgetReportInFlight s).td = s.td ∧
    (forgetReportInFlight s).cu = s.cu ∧ (forgetReportInFlight s).uc = s.uc ∧ (forgetReportInFlight s).bm = s.bm ∧
    (forgetReportInFlight s).hc = s.hc ∧ (forgetReportInFlight s).mc = s.mc ∧ (forgetReportInFlight s).twm = s.twm ∧
    (forgetReportInFlight s).cs = s.cs ∧ (forgetReportInFlight s).counters = s.counters ∧
    (forgetReportInFlight s).freeDrawn = s.freeDrawn := by
  simp only [forgetReportInFlight]; (repeat' split) <;> simp

@[simp] theorem beaconTimerRestart_leaves (s : State) :
    (beaconTimerRestart s).pending = s.pending ∧ (beaconTimerRestart s).pins = s.pins ∧ (beaconTimerRestart s).tb = s.tb ∧
    (beaconTimerRestart s).rmu = s.rmu ∧ (beaconTimerRestart s).peers = s.peers ∧ (beaconTimerRestart s).tau = s.tau ∧
    (beaconTimerRestart s).si = s.si ∧ (beaconTimerRestart s).td = s.td ∧ (beaconTimerRestart s).cu = s.cu ∧
    (beaconTimerRestart s).uc = s.uc ∧ (beaconTimerRestart s).bm = s.bm ∧ (beaconTimerRestart s).hc = s.hc ∧
    (beaconTimerRestart s).mc = s.mc ∧ (beaconTimerRestart s).twm = s.twm ∧ (beaconTimerRestart s).cs = s.cs ∧
    (beaconTimerRestart s).counters = s.counters ∧ (beaconTimerRestart s).freeDrawn = s.freeDrawn := by
  simp only [beaconTimerRestart]; (repeat' split) <;> simp

@[simp] theorem requestBlanking_leaves (n : Nat) (s : State) :
    (requestBlanking n s).pending = s.pending ∧ (requestBlanking n s).pins = s.pins ∧ (requestBlanking n s).tb = s.tb ∧
    (requestBlanking n s).rmu = s.rmu ∧ (requestBlanking n s).lc = s.lc ∧ (requestBlanking n s).peers = s.peers ∧
    (requestBlanking n s).tau = s.tau ∧ (requestBlanking n s).si = s.si ∧ (requestBlanking n s).cu = s.cu ∧
    (requestBlanking n s).uc = s.uc ∧ (requestBlanking n s).bm = s.bm ∧ (requestBlanking n s).hc = s.hc ∧
    (requestBlanking n s).mc = s.mc ∧ (requestBlanking n s).twm = s.twm ∧ (requestBlanking n s).cs = s.cs ∧
    (requestBlanking n s).counters = s.counters ∧ (requestBlanking n s).freeDrawn = s.freeDrawn := by
  simp only [requestBlanking]; (repeat' split) <;> simp

@[simp] theorem tdReport_leaves (before after : State) :
    (tdReport before after).pending = after.pending ∧ (tdReport before after).pins = after.pins ∧
    (tdReport before after).tb = after.tb ∧ (tdReport before after).rmu = after.rmu ∧
    (tdReport before after).lc = after.lc ∧ (tdReport before after).peers = after.peers ∧
    (tdReport before after).tau = after.tau ∧ (tdReport before after).si = after.si ∧
    (tdReport before after).td = after.td ∧ (tdReport before after).cu = after.cu ∧ (tdReport before after).uc = after.uc ∧
    (tdReport before after).bm = after.bm ∧ (tdReport before after).hc = after.hc ∧
    (tdReport before after).twm = after.twm ∧ (tdReport before after).cs = after.cs ∧
    (tdReport before after).counters = after.counters ∧ (tdReport before after).freeDrawn = after.freeDrawn := by
  simp only [tdReport]; (repeat' split) <;> simp

@[simp] theorem trimTimerStart_leaves (s : State) :
    (trimTimerStart s).pending = s.pending ∧ (trimTimerStart s).pins = s.pins ∧ (trimTimerStart s).tb = s.tb ∧
    (trimTimerStart s).rmu = s.rmu ∧ (trimTimerStart s).lc = s.lc ∧ (trimTimerStart s).peers = s.peers ∧
    (trimTimerStart s).tau = s.tau ∧ (trimTimerStart s).si = s.si ∧ (trimTimerStart s).cu = s.cu ∧
    (trimTimerStart s).uc = s.uc ∧ (trimTimerStart s).bm = s.bm ∧ (trimTimerStart s).hc = s.hc ∧
    (trimTimerStart s).mc = s.mc ∧ (trimTimerStart s).twm = s.twm ∧ (trimTimerStart s).cs = s.cs ∧
    (trimTimerStart s).counters = s.counters ∧ (trimTimerStart s).freeDrawn = s.freeDrawn := by
  simp only [trimTimerStart]; (repeat' split) <;> simp

@[simp] theorem tdUnconfirmed_leaves (s : State) :
    (tdUnconfirmed s).pending = s.pending ∧ (tdUnconfirmed s).pins = s.pins ∧ (tdUnconfirmed s).tb = s.tb ∧
    (tdUnconfirmed s).rmu = s.rmu ∧ (tdUnconfirmed s).lc = s.lc ∧ (tdUnconfirmed s).peers = s.peers ∧
    (tdUnconfirmed s).tau = s.tau ∧ (tdUnconfirmed s).si = s.si ∧ (tdUnconfirmed s).cu = s.cu ∧
    (tdUnconfirmed s).uc = s.uc ∧ (tdUnconfirmed s).bm = s.bm ∧ (tdUnconfirmed s).hc = s.hc ∧ (tdUnconfirmed s).mc = s.mc ∧
    (tdUnconfirmed s).twm = s.twm ∧ (tdUnconfirmed s).cs = s.cs ∧ (tdUnconfirmed s).freeDrawn = s.freeDrawn := by
  simp only [tdUnconfirmed]; (repeat' split) <;> simp

@[simp] theorem tdUnconfirmedIf_leaves (b : Bool) (s : State) :
    (tdUnconfirmedIf b s).pending = s.pending ∧ (tdUnconfirmedIf b s).pins = s.pins ∧ (tdUnconfirmedIf b s).tb = s.tb ∧
    (tdUnconfirmedIf b s).rmu = s.rmu ∧ (tdUnconfirmedIf b s).lc = s.lc ∧ (tdUnconfirmedIf b s).peers = s.peers ∧
    (tdUnconfirmedIf b s).tau = s.tau ∧ (tdUnconfirmedIf b s).si = s.si ∧ (tdUnconfirmedIf b s).cu = s.cu ∧
    (tdUnconfirmedIf b s).uc = s.uc ∧ (tdUnconfirmedIf b s).bm = s.bm ∧ (tdUnconfirmedIf b s).hc = s.hc ∧
    (tdUnconfirmedIf b s).mc = s.mc ∧ (tdUnconfirmedIf b s).twm = s.twm ∧ (tdUnconfirmedIf b s).cs = s.cs ∧
    (tdUnconfirmedIf b s).freeDrawn = s.freeDrawn := by
  simp only [tdUnconfirmedIf]; (repeat' split) <;> simp

@[simp] theorem requestEnd_leaves (onset : StationTime) (mask peak duration : Nat) (s : State) :
    (requestEnd onset mask peak duration s).pending = s.pending ∧ (requestEnd onset mask peak duration s).pins = s.pins ∧
    (requestEnd onset mask peak duration s).tb = s.tb ∧ (requestEnd onset mask peak duration s).rmu = s.rmu ∧
    (requestEnd onset mask peak duration s).peers = s.peers ∧ (requestEnd onset mask peak duration s).tau = s.tau ∧
    (requestEnd onset mask peak duration s).si = s.si ∧ (requestEnd onset mask peak duration s).cu = s.cu ∧
    (requestEnd onset mask peak duration s).uc = s.uc ∧ (requestEnd onset mask peak duration s).bm = s.bm ∧
    (requestEnd onset mask peak duration s).hc = s.hc ∧ (requestEnd onset mask peak duration s).mc = s.mc ∧
    (requestEnd onset mask peak duration s).twm = s.twm ∧ (requestEnd onset mask peak duration s).cs = s.cs ∧
    (requestEnd onset mask peak duration s).freeDrawn = s.freeDrawn := by
  simp only [requestEnd]; (repeat' split) <;> simp

@[simp] theorem tdStep_leaves (s : State) :
    (tdStep s).pending = s.pending ∧ (tdStep s).pins = s.pins ∧ (tdStep s).tb = s.tb ∧ (tdStep s).rmu = s.rmu ∧
    (tdStep s).peers = s.peers ∧ (tdStep s).tau = s.tau ∧ (tdStep s).si = s.si ∧ (tdStep s).cu = s.cu ∧
    (tdStep s).uc = s.uc ∧ (tdStep s).bm = s.bm ∧ (tdStep s).hc = s.hc ∧ (tdStep s).mc = s.mc ∧ (tdStep s).twm = s.twm ∧
    (tdStep s).cs = s.cs ∧ (tdStep s).counters = s.counters ∧ (tdStep s).freeDrawn = s.freeDrawn := by
  simp only [tdStep]; (repeat' split) <;> simp

@[simp] theorem setHeater_leaves (h : HeaterId) (x : Heater) (s : State) :
    (setHeater h x s).pending = s.pending ∧ (setHeater h x s).pins = s.pins ∧ (setHeater h x s).tb = s.tb ∧
    (setHeater h x s).rmu = s.rmu ∧ (setHeater h x s).lc = s.lc ∧ (setHeater h x s).peers = s.peers ∧
    (setHeater h x s).tau = s.tau ∧ (setHeater h x s).si = s.si ∧ (setHeater h x s).td = s.td ∧
    (setHeater h x s).cu = s.cu ∧ (setHeater h x s).uc = s.uc ∧ (setHeater h x s).bm = s.bm ∧ (setHeater h x s).mc = s.mc ∧
    (setHeater h x s).twm = s.twm ∧ (setHeater h x s).cs = s.cs ∧ (setHeater h x s).counters = s.counters ∧
    (setHeater h x s).freeDrawn = s.freeDrawn := by
  simp only [setHeater]; (repeat' split) <;> simp

@[simp] theorem takeEdge_leaves (h : HeaterId) (e : Edge) (s : State) :
    (takeEdge h e s).pending = s.pending ∧ (takeEdge h e s).pins = s.pins ∧ (takeEdge h e s).tb = s.tb ∧
    (takeEdge h e s).rmu = s.rmu ∧ (takeEdge h e s).lc = s.lc ∧ (takeEdge h e s).peers = s.peers ∧
    (takeEdge h e s).tau = s.tau ∧ (takeEdge h e s).si = s.si ∧ (takeEdge h e s).cu = s.cu ∧ (takeEdge h e s).uc = s.uc ∧
    (takeEdge h e s).bm = s.bm ∧ (takeEdge h e s).mc = s.mc ∧ (takeEdge h e s).twm = s.twm ∧ (takeEdge h e s).cs = s.cs ∧
    (takeEdge h e s).freeDrawn = s.freeDrawn := by
  simp only [takeEdge]; (repeat' split) <;> simp

@[simp] theorem edgeDue_leaves (h : HeaterId) (e : Edge) (s : State) :
    (edgeDue h e s).pending = s.pending ∧ (edgeDue h e s).pins = s.pins ∧ (edgeDue h e s).tb = s.tb ∧
    (edgeDue h e s).rmu = s.rmu ∧ (edgeDue h e s).lc = s.lc ∧ (edgeDue h e s).peers = s.peers ∧
    (edgeDue h e s).tau = s.tau ∧ (edgeDue h e s).si = s.si ∧ (edgeDue h e s).cu = s.cu ∧ (edgeDue h e s).uc = s.uc ∧
    (edgeDue h e s).bm = s.bm ∧ (edgeDue h e s).mc = s.mc ∧ (edgeDue h e s).twm = s.twm ∧ (edgeDue h e s).cs = s.cs ∧
    (edgeDue h e s).freeDrawn = s.freeDrawn := by
  simp only [edgeDue]; (repeat' split) <;> simp

@[simp] theorem examineEdge_leaves (h : HeaterId) (s : State) :
    (examineEdge h s).pending = s.pending ∧ (examineEdge h s).pins = s.pins ∧ (examineEdge h s).tb = s.tb ∧
    (examineEdge h s).rmu = s.rmu ∧ (examineEdge h s).lc = s.lc ∧ (examineEdge h s).peers = s.peers ∧
    (examineEdge h s).tau = s.tau ∧ (examineEdge h s).si = s.si ∧ (examineEdge h s).cu = s.cu ∧
    (examineEdge h s).uc = s.uc ∧ (examineEdge h s).bm = s.bm ∧ (examineEdge h s).mc = s.mc ∧
    (examineEdge h s).twm = s.twm ∧ (examineEdge h s).cs = s.cs ∧ (examineEdge h s).freeDrawn = s.freeDrawn := by
  simp only [examineEdge]; (repeat' split) <;> simp

@[simp] theorem cancelOn_leaves (h : HeaterId) (s : State) :
    (cancelOn h s).pending = s.pending ∧ (cancelOn h s).pins = s.pins ∧ (cancelOn h s).tb = s.tb ∧
    (cancelOn h s).rmu = s.rmu ∧ (cancelOn h s).lc = s.lc ∧ (cancelOn h s).peers = s.peers ∧ (cancelOn h s).tau = s.tau ∧
    (cancelOn h s).si = s.si ∧ (cancelOn h s).td = s.td ∧ (cancelOn h s).cu = s.cu ∧ (cancelOn h s).uc = s.uc ∧
    (cancelOn h s).bm = s.bm ∧ (cancelOn h s).mc = s.mc ∧ (cancelOn h s).twm = s.twm ∧ (cancelOn h s).cs = s.cs ∧
    (cancelOn h s).freeDrawn = s.freeDrawn := by
  simp only [cancelOn]; (repeat' split) <;> simp

@[simp] theorem frameStart_leaves (h : HeaterId) (s : State) :
    (frameStart h s).pending = s.pending ∧ (frameStart h s).pins = s.pins ∧ (frameStart h s).tb = s.tb ∧
    (frameStart h s).rmu = s.rmu ∧ (frameStart h s).lc = s.lc ∧ (frameStart h s).peers = s.peers ∧
    (frameStart h s).tau = s.tau ∧ (frameStart h s).si = s.si ∧ (frameStart h s).cu = s.cu ∧ (frameStart h s).uc = s.uc ∧
    (frameStart h s).bm = s.bm ∧ (frameStart h s).mc = s.mc ∧ (frameStart h s).twm = s.twm ∧ (frameStart h s).cs = s.cs ∧
    (frameStart h s).freeDrawn = s.freeDrawn := by
  simp only [frameStart]; (repeat' split) <;> simp

@[simp] theorem slotBoundary_leaves (h : HeaterId) (s : State) :
    (slotBoundary h s).pending = s.pending ∧ (slotBoundary h s).pins = s.pins ∧ (slotBoundary h s).tb = s.tb ∧
    (slotBoundary h s).rmu = s.rmu ∧ (slotBoundary h s).lc = s.lc ∧ (slotBoundary h s).peers = s.peers ∧
    (slotBoundary h s).tau = s.tau ∧ (slotBoundary h s).si = s.si ∧ (slotBoundary h s).cu = s.cu ∧
    (slotBoundary h s).uc = s.uc ∧ (slotBoundary h s).bm = s.bm ∧ (slotBoundary h s).mc = s.mc ∧
    (slotBoundary h s).twm = s.twm ∧ (slotBoundary h s).cs = s.cs ∧ (slotBoundary h s).freeDrawn = s.freeDrawn := by
  simp only [slotBoundary]; (repeat' split) <;> simp

@[simp] theorem heaterBoundary_leaves (sec : Nat) (h : HeaterId) (s : State) :
    (heaterBoundary sec h s).pending = s.pending ∧ (heaterBoundary sec h s).pins = s.pins ∧
    (heaterBoundary sec h s).tb = s.tb ∧ (heaterBoundary sec h s).rmu = s.rmu ∧ (heaterBoundary sec h s).lc = s.lc ∧
    (heaterBoundary sec h s).peers = s.peers ∧ (heaterBoundary sec h s).tau = s.tau ∧ (heaterBoundary sec h s).si = s.si ∧
    (heaterBoundary sec h s).cu = s.cu ∧ (heaterBoundary sec h s).uc = s.uc ∧ (heaterBoundary sec h s).bm = s.bm ∧
    (heaterBoundary sec h s).mc = s.mc ∧ (heaterBoundary sec h s).twm = s.twm ∧ (heaterBoundary sec h s).cs = s.cs ∧
    (heaterBoundary sec h s).freeDrawn = s.freeDrawn := by
  simp only [heaterBoundary]; (repeat' split) <;> simp

@[simp] theorem overtempTest_leaves (h : HeaterId) (reading : Int) (s : State) :
    (overtempTest h reading s).pending = s.pending ∧ (overtempTest h reading s).pins = s.pins ∧
    (overtempTest h reading s).tb = s.tb ∧ (overtempTest h reading s).rmu = s.rmu ∧ (overtempTest h reading s).lc = s.lc ∧
    (overtempTest h reading s).peers = s.peers ∧ (overtempTest h reading s).tau = s.tau ∧
    (overtempTest h reading s).si = s.si ∧ (overtempTest h reading s).cu = s.cu ∧ (overtempTest h reading s).uc = s.uc ∧
    (overtempTest h reading s).bm = s.bm ∧ (overtempTest h reading s).mc = s.mc ∧ (overtempTest h reading s).twm = s.twm ∧
    (overtempTest h reading s).cs = s.cs ∧ (overtempTest h reading s).freeDrawn = s.freeDrawn := by
  simp only [overtempTest]; (repeat' split) <;> simp

@[simp] theorem offForce_leaves (h : HeaterId) (s : State) :
    (offForce h s).pending = s.pending ∧ (offForce h s).pins = s.pins ∧ (offForce h s).tb = s.tb ∧
    (offForce h s).rmu = s.rmu ∧ (offForce h s).lc = s.lc ∧ (offForce h s).peers = s.peers ∧ (offForce h s).tau = s.tau ∧
    (offForce h s).si = s.si ∧ (offForce h s).cu = s.cu ∧ (offForce h s).uc = s.uc ∧ (offForce h s).bm = s.bm ∧
    (offForce h s).mc = s.mc ∧ (offForce h s).twm = s.twm ∧ (offForce h s).cs = s.cs ∧
    (offForce h s).freeDrawn = s.freeDrawn := by
  simp only [offForce]; (repeat' split) <;> simp

@[simp] theorem forceByAllowance_leaves (s : State) :
    (forceByAllowance s).pending = s.pending ∧ (forceByAllowance s).pins = s.pins ∧ (forceByAllowance s).tb = s.tb ∧
    (forceByAllowance s).rmu = s.rmu ∧ (forceByAllowance s).lc = s.lc ∧ (forceByAllowance s).peers = s.peers ∧
    (forceByAllowance s).tau = s.tau ∧ (forceByAllowance s).si = s.si ∧ (forceByAllowance s).cu = s.cu ∧
    (forceByAllowance s).uc = s.uc ∧ (forceByAllowance s).bm = s.bm ∧ (forceByAllowance s).mc = s.mc ∧
    (forceByAllowance s).twm = s.twm ∧ (forceByAllowance s).cs = s.cs ∧ (forceByAllowance s).freeDrawn = s.freeDrawn := by
  simp only [forceByAllowance]; (repeat' split) <;> simp

@[simp] theorem cutFrame_leaves (h : HeaterId) (s : State) :
    (cutFrame h s).pending = s.pending ∧ (cutFrame h s).pins = s.pins ∧ (cutFrame h s).tb = s.tb ∧
    (cutFrame h s).rmu = s.rmu ∧ (cutFrame h s).lc = s.lc ∧ (cutFrame h s).peers = s.peers ∧ (cutFrame h s).tau = s.tau ∧
    (cutFrame h s).si = s.si ∧ (cutFrame h s).cu = s.cu ∧ (cutFrame h s).uc = s.uc ∧ (cutFrame h s).bm = s.bm ∧
    (cutFrame h s).mc = s.mc ∧ (cutFrame h s).twm = s.twm ∧ (cutFrame h s).cs = s.cs ∧
    (cutFrame h s).freeDrawn = s.freeDrawn := by
  simp only [cutFrame]; (repeat' split) <;> simp

@[simp] theorem hcStep_leaves (s : State) :
    (hcStep s).pending = s.pending ∧ (hcStep s).pins = s.pins ∧ (hcStep s).tb = s.tb ∧ (hcStep s).rmu = s.rmu ∧
    (hcStep s).lc = s.lc ∧ (hcStep s).peers = s.peers ∧ (hcStep s).tau = s.tau ∧ (hcStep s).si = s.si ∧
    (hcStep s).cu = s.cu ∧ (hcStep s).uc = s.uc ∧ (hcStep s).bm = s.bm ∧ (hcStep s).mc = s.mc ∧ (hcStep s).twm = s.twm ∧
    (hcStep s).cs = s.cs ∧ (hcStep s).freeDrawn = s.freeDrawn := by
  simp only [hcStep]; (repeat' split) <;> simp

@[simp] theorem takeOnTimes_leaves (b t : Nat) (s : State) :
    (takeOnTimes b t s).pending = s.pending ∧ (takeOnTimes b t s).pins = s.pins ∧ (takeOnTimes b t s).tb = s.tb ∧
    (takeOnTimes b t s).rmu = s.rmu ∧ (takeOnTimes b t s).lc = s.lc ∧ (takeOnTimes b t s).peers = s.peers ∧
    (takeOnTimes b t s).tau = s.tau ∧ (takeOnTimes b t s).si = s.si ∧ (takeOnTimes b t s).td = s.td ∧
    (takeOnTimes b t s).cu = s.cu ∧ (takeOnTimes b t s).uc = s.uc ∧ (takeOnTimes b t s).bm = s.bm ∧
    (takeOnTimes b t s).mc = s.mc ∧ (takeOnTimes b t s).twm = s.twm ∧ (takeOnTimes b t s).cs = s.cs ∧
    (takeOnTimes b t s).counters = s.counters ∧ (takeOnTimes b t s).freeDrawn = s.freeDrawn := by
  simp only [takeOnTimes]; (repeat' split) <;> simp

@[simp] theorem setEvents_leaves (xs : List EventRec) (s : State) :
    (setEvents xs s).pending = s.pending ∧ (setEvents xs s).pins = s.pins ∧ (setEvents xs s).tb = s.tb ∧
    (setEvents xs s).rmu = s.rmu ∧ (setEvents xs s).lc = s.lc ∧ (setEvents xs s).peers = s.peers ∧
    (setEvents xs s).tau = s.tau ∧ (setEvents xs s).si = s.si ∧ (setEvents xs s).td = s.td ∧ (setEvents xs s).uc = s.uc ∧
    (setEvents xs s).bm = s.bm ∧ (setEvents xs s).hc = s.hc ∧ (setEvents xs s).mc = s.mc ∧ (setEvents xs s).twm = s.twm ∧
    (setEvents xs s).cs = s.cs ∧ (setEvents xs s).counters = s.counters ∧ (setEvents xs s).freeDrawn = s.freeDrawn := by
  simp only [setEvents]; (repeat' split) <;> simp

@[simp] theorem updRec_leaves (rid : Nat) (f : EventRec → EventRec) (s : State) :
    (updRec rid f s).pending = s.pending ∧ (updRec rid f s).pins = s.pins ∧ (updRec rid f s).tb = s.tb ∧
    (updRec rid f s).rmu = s.rmu ∧ (updRec rid f s).lc = s.lc ∧ (updRec rid f s).peers = s.peers ∧
    (updRec rid f s).tau = s.tau ∧ (updRec rid f s).si = s.si ∧ (updRec rid f s).td = s.td ∧ (updRec rid f s).uc = s.uc ∧
    (updRec rid f s).bm = s.bm ∧ (updRec rid f s).hc = s.hc ∧ (updRec rid f s).mc = s.mc ∧ (updRec rid f s).twm = s.twm ∧
    (updRec rid f s).cs = s.cs ∧ (updRec rid f s).counters = s.counters ∧ (updRec rid f s).freeDrawn = s.freeDrawn := by
  simp only [updRec]; (repeat' split) <;> simp

@[simp] theorem setEntries_leaves (xs : List Entry) (s : State) :
    (setEntries xs s).pending = s.pending ∧ (setEntries xs s).pins = s.pins ∧ (setEntries xs s).tb = s.tb ∧
    (setEntries xs s).rmu = s.rmu ∧ (setEntries xs s).lc = s.lc ∧ (setEntries xs s).peers = s.peers ∧
    (setEntries xs s).tau = s.tau ∧ (setEntries xs s).si = s.si ∧ (setEntries xs s).td = s.td ∧
    (setEntries xs s).uc = s.uc ∧ (setEntries xs s).bm = s.bm ∧ (setEntries xs s).hc = s.hc ∧ (setEntries xs s).mc = s.mc ∧
    (setEntries xs s).twm = s.twm ∧ (setEntries xs s).cs = s.cs ∧ (setEntries xs s).counters = s.counters ∧
    (setEntries xs s).freeDrawn = s.freeDrawn := by
  simp only [setEntries]; (repeat' split) <;> simp

@[simp] theorem ucSync_leaves (s : State) :
    (ucSync s).pending = s.pending ∧ (ucSync s).pins = s.pins ∧ (ucSync s).tb = s.tb ∧ (ucSync s).rmu = s.rmu ∧
    (ucSync s).lc = s.lc ∧ (ucSync s).peers = s.peers ∧ (ucSync s).tau = s.tau ∧ (ucSync s).si = s.si ∧
    (ucSync s).td = s.td ∧ (ucSync s).uc = s.uc ∧ (ucSync s).bm = s.bm ∧ (ucSync s).hc = s.hc ∧ (ucSync s).mc = s.mc ∧
    (ucSync s).twm = s.twm ∧ (ucSync s).cs = s.cs ∧ (ucSync s).counters = s.counters ∧ (ucSync s).freeDrawn = s.freeDrawn := by
  simp only [ucSync]; (repeat' split) <;> simp

@[simp] theorem ucLeft_leaves (rid : Option Nat) (how : UplinkState) (s : State) :
    (ucLeft rid how s).pending = s.pending ∧ (ucLeft rid how s).pins = s.pins ∧ (ucLeft rid how s).tb = s.tb ∧
    (ucLeft rid how s).rmu = s.rmu ∧ (ucLeft rid how s).lc = s.lc ∧ (ucLeft rid how s).peers = s.peers ∧
    (ucLeft rid how s).tau = s.tau ∧ (ucLeft rid how s).si = s.si ∧ (ucLeft rid how s).td = s.td ∧
    (ucLeft rid how s).uc = s.uc ∧ (ucLeft rid how s).bm = s.bm ∧ (ucLeft rid how s).hc = s.hc ∧
    (ucLeft rid how s).mc = s.mc ∧ (ucLeft rid how s).twm = s.twm ∧ (ucLeft rid how s).cs = s.cs ∧
    (ucLeft rid how s).counters = s.counters ∧ (ucLeft rid how s).freeDrawn = s.freeDrawn := by
  simp only [ucLeft]; (repeat' split) <;> simp

@[simp] theorem ucReportEmpty_leaves (before after : State) :
    (ucReportEmpty before after).pending = after.pending ∧ (ucReportEmpty before after).pins = after.pins ∧
    (ucReportEmpty before after).tb = after.tb ∧ (ucReportEmpty before after).rmu = after.rmu ∧
    (ucReportEmpty before after).lc = after.lc ∧ (ucReportEmpty before after).peers = after.peers ∧
    (ucReportEmpty before after).tau = after.tau ∧ (ucReportEmpty before after).si = after.si ∧
    (ucReportEmpty before after).td = after.td ∧ (ucReportEmpty before after).cu = after.cu ∧
    (ucReportEmpty before after).uc = after.uc ∧ (ucReportEmpty before after).bm = after.bm ∧
    (ucReportEmpty before after).hc = after.hc ∧ (ucReportEmpty before after).twm = after.twm ∧
    (ucReportEmpty before after).cs = after.cs ∧ (ucReportEmpty before after).counters = after.counters ∧
    (ucReportEmpty before after).freeDrawn = after.freeDrawn := by
  simp only [ucReportEmpty]; (repeat' split) <;> simp

@[simp] theorem setQueue_leaves (q : List Alert) (s : State) :
    (setQueue q s).pending = s.pending ∧ (setQueue q s).pins = s.pins ∧ (setQueue q s).tb = s.tb ∧
    (setQueue q s).rmu = s.rmu ∧ (setQueue q s).lc = s.lc ∧ (setQueue q s).peers = s.peers ∧ (setQueue q s).tau = s.tau ∧
    (setQueue q s).si = s.si ∧ (setQueue q s).td = s.td ∧ (setQueue q s).cu = s.cu ∧ (setQueue q s).bm = s.bm ∧
    (setQueue q s).hc = s.hc ∧ (setQueue q s).mc = s.mc ∧ (setQueue q s).twm = s.twm ∧ (setQueue q s).cs = s.cs ∧
    (setQueue q s).counters = s.counters ∧ (setQueue q s).freeDrawn = s.freeDrawn := by
  simp only [setQueue]; (repeat' split) <;> simp

@[simp] theorem setStacked_leaves (q : List Stacked) (s : State) :
    (setStacked q s).pending = s.pending ∧ (setStacked q s).pins = s.pins ∧ (setStacked q s).tb = s.tb ∧
    (setStacked q s).rmu = s.rmu ∧ (setStacked q s).lc = s.lc ∧ (setStacked q s).peers = s.peers ∧
    (setStacked q s).tau = s.tau ∧ (setStacked q s).si = s.si ∧ (setStacked q s).td = s.td ∧ (setStacked q s).cu = s.cu ∧
    (setStacked q s).bm = s.bm ∧ (setStacked q s).hc = s.hc ∧ (setStacked q s).mc = s.mc ∧ (setStacked q s).twm = s.twm ∧
    (setStacked q s).cs = s.cs ∧ (setStacked q s).counters = s.counters ∧ (setStacked q s).freeDrawn = s.freeDrawn := by
  simp only [setStacked]; (repeat' split) <;> simp

@[simp] theorem ucInsert_leaves (kind : AlertKind) (rid : Option Nat) (id : Option EventId) (update : Nat) (s : State) :
    (ucInsert kind rid id update s).pending = s.pending ∧ (ucInsert kind rid id update s).pins = s.pins ∧
    (ucInsert kind rid id update s).tb = s.tb ∧ (ucInsert kind rid id update s).rmu = s.rmu ∧
    (ucInsert kind rid id update s).lc = s.lc ∧ (ucInsert kind rid id update s).peers = s.peers ∧
    (ucInsert kind rid id update s).tau = s.tau ∧ (ucInsert kind rid id update s).si = s.si ∧
    (ucInsert kind rid id update s).td = s.td ∧ (ucInsert kind rid id update s).bm = s.bm ∧
    (ucInsert kind rid id update s).hc = s.hc ∧ (ucInsert kind rid id update s).twm = s.twm ∧
    (ucInsert kind rid id update s).cs = s.cs ∧ (ucInsert kind rid id update s).counters = s.counters ∧
    (ucInsert kind rid id update s).freeDrawn = s.freeDrawn := by
  simp only [ucInsert]; (repeat' split) <;> simp

@[simp] theorem ucStack_leaves (kind : AlertKind) (rid : Nat) (id : Option EventId) (update : Nat) (s : State) :
    (ucStack kind rid id update s).pending = s.pending ∧ (ucStack kind rid id update s).pins = s.pins ∧
    (ucStack kind rid id update s).tb = s.tb ∧ (ucStack kind rid id update s).rmu = s.rmu ∧
    (ucStack kind rid id update s).lc = s.lc ∧ (ucStack kind rid id update s).peers = s.peers ∧
    (ucStack kind rid id update s).tau = s.tau ∧ (ucStack kind rid id update s).si = s.si ∧
    (ucStack kind rid id update s).td = s.td ∧ (ucStack kind rid id update s).bm = s.bm ∧
    (ucStack kind rid id update s).hc = s.hc ∧ (ucStack kind rid id update s).mc = s.mc ∧
    (ucStack kind rid id update s).twm = s.twm ∧ (ucStack kind rid id update s).cs = s.cs ∧
    (ucStack kind rid id update s).freeDrawn = s.freeDrawn := by
  simp only [ucStack]; (repeat' split) <;> simp

@[simp] theorem ucPlaceHealth_leaves (s : State) :
    (ucPlaceHealth s).pending = s.pending ∧ (ucPlaceHealth s).pins = s.pins ∧ (ucPlaceHealth s).tb = s.tb ∧
    (ucPlaceHealth s).rmu = s.rmu ∧ (ucPlaceHealth s).lc = s.lc ∧ (ucPlaceHealth s).peers = s.peers ∧
    (ucPlaceHealth s).tau = s.tau ∧ (ucPlaceHealth s).si = s.si ∧ (ucPlaceHealth s).td = s.td ∧
    (ucPlaceHealth s).bm = s.bm ∧ (ucPlaceHealth s).hc = s.hc ∧ (ucPlaceHealth s).twm = s.twm ∧
    (ucPlaceHealth s).cs = s.cs ∧ (ucPlaceHealth s).freeDrawn = s.freeDrawn := by
  simp only [ucPlaceHealth]; (repeat' split) <;> simp

@[simp] theorem ucRaiseHealth_leaves (s : State) :
    (ucRaiseHealth s).pending = s.pending ∧ (ucRaiseHealth s).pins = s.pins ∧ (ucRaiseHealth s).tb = s.tb ∧
    (ucRaiseHealth s).rmu = s.rmu ∧ (ucRaiseHealth s).lc = s.lc ∧ (ucRaiseHealth s).peers = s.peers ∧
    (ucRaiseHealth s).tau = s.tau ∧ (ucRaiseHealth s).si = s.si ∧ (ucRaiseHealth s).td = s.td ∧
    (ucRaiseHealth s).bm = s.bm ∧ (ucRaiseHealth s).hc = s.hc ∧ (ucRaiseHealth s).twm = s.twm ∧
    (ucRaiseHealth s).cs = s.cs ∧ (ucRaiseHealth s).freeDrawn = s.freeDrawn := by
  simp only [ucRaiseHealth]; (repeat' split) <;> simp

@[simp] theorem ucHealthLeft_leaves (kind : AlertKind) (s : State) :
    (ucHealthLeft kind s).pending = s.pending ∧ (ucHealthLeft kind s).pins = s.pins ∧ (ucHealthLeft kind s).tb = s.tb ∧
    (ucHealthLeft kind s).rmu = s.rmu ∧ (ucHealthLeft kind s).lc = s.lc ∧ (ucHealthLeft kind s).peers = s.peers ∧
    (ucHealthLeft kind s).tau = s.tau ∧ (ucHealthLeft kind s).si = s.si ∧ (ucHealthLeft kind s).td = s.td ∧
    (ucHealthLeft kind s).bm = s.bm ∧ (ucHealthLeft kind s).hc = s.hc ∧ (ucHealthLeft kind s).twm = s.twm ∧
    (ucHealthLeft kind s).cs = s.cs ∧ (ucHealthLeft kind s).freeDrawn = s.freeDrawn := by
  simp only [ucHealthLeft]; (repeat' split) <;> simp

@[simp] theorem ucEvictHealth_leaves (s : State) :
    (ucEvictHealth s).pending = s.pending ∧ (ucEvictHealth s).pins = s.pins ∧ (ucEvictHealth s).tb = s.tb ∧
    (ucEvictHealth s).rmu = s.rmu ∧ (ucEvictHealth s).lc = s.lc ∧ (ucEvictHealth s).peers = s.peers ∧
    (ucEvictHealth s).tau = s.tau ∧ (ucEvictHealth s).si = s.si ∧ (ucEvictHealth s).td = s.td ∧
    (ucEvictHealth s).cu = s.cu ∧ (ucEvictHealth s).bm = s.bm ∧ (ucEvictHealth s).hc = s.hc ∧ (ucEvictHealth s).mc = s.mc ∧
    (ucEvictHealth s).twm = s.twm ∧ (ucEvictHealth s).cs = s.cs ∧ (ucEvictHealth s).freeDrawn = s.freeDrawn := by
  simp only [ucEvictHealth]; (repeat' split) <;> simp

@[simp] theorem ucPlace_leaves (kind : AlertKind) (rid : Nat) (id : Option EventId) (update : Nat) (s : State) :
    (ucPlace kind rid id update s).pending = s.pending ∧ (ucPlace kind rid id update s).pins = s.pins ∧
    (ucPlace kind rid id update s).tb = s.tb ∧ (ucPlace kind rid id update s).rmu = s.rmu ∧
    (ucPlace kind rid id update s).lc = s.lc ∧ (ucPlace kind rid id update s).peers = s.peers ∧
    (ucPlace kind rid id update s).tau = s.tau ∧ (ucPlace kind rid id update s).si = s.si ∧
    (ucPlace kind rid id update s).td = s.td ∧ (ucPlace kind rid id update s).bm = s.bm ∧
    (ucPlace kind rid id update s).hc = s.hc ∧ (ucPlace kind rid id update s).twm = s.twm ∧
    (ucPlace kind rid id update s).cs = s.cs ∧ (ucPlace kind rid id update s).freeDrawn = s.freeDrawn := by
  simp only [ucPlace]; (repeat' split) <;> simp

@[simp] theorem ucRaiseRetract_leaves (rid : Nat) (id : Option EventId) (s : State) :
    (ucRaiseRetract rid id s).pending = s.pending ∧ (ucRaiseRetract rid id s).pins = s.pins ∧
    (ucRaiseRetract rid id s).tb = s.tb ∧ (ucRaiseRetract rid id s).rmu = s.rmu ∧ (ucRaiseRetract rid id s).lc = s.lc ∧
    (ucRaiseRetract rid id s).peers = s.peers ∧ (ucRaiseRetract rid id s).tau = s.tau ∧
    (ucRaiseRetract rid id s).si = s.si ∧ (ucRaiseRetract rid id s).td = s.td ∧ (ucRaiseRetract rid id s).bm = s.bm ∧
    (ucRaiseRetract rid id s).hc = s.hc ∧ (ucRaiseRetract rid id s).twm = s.twm ∧ (ucRaiseRetract rid id s).cs = s.cs ∧
    (ucRaiseRetract rid id s).freeDrawn = s.freeDrawn := by
  simp only [ucRaiseRetract]; (repeat' split) <;> simp

@[simp] theorem ucRaiseReport_leaves (kind : AlertKind) (rid : Nat) (s : State) :
    (ucRaiseReport kind rid s).pending = s.pending ∧ (ucRaiseReport kind rid s).pins = s.pins ∧
    (ucRaiseReport kind rid s).tb = s.tb ∧ (ucRaiseReport kind rid s).rmu = s.rmu ∧ (ucRaiseReport kind rid s).lc = s.lc ∧
    (ucRaiseReport kind rid s).peers = s.peers ∧ (ucRaiseReport kind rid s).tau = s.tau ∧
    (ucRaiseReport kind rid s).si = s.si ∧ (ucRaiseReport kind rid s).td = s.td ∧ (ucRaiseReport kind rid s).bm = s.bm ∧
    (ucRaiseReport kind rid s).hc = s.hc ∧ (ucRaiseReport kind rid s).twm = s.twm ∧ (ucRaiseReport kind rid s).cs = s.cs ∧
    (ucRaiseReport kind rid s).freeDrawn = s.freeDrawn := by
  simp only [ucRaiseReport]; (repeat' split) <;> simp

@[simp] theorem ucPromoteOne_leaves (s : State) :
    (ucPromoteOne s).pending = s.pending ∧ (ucPromoteOne s).pins = s.pins ∧ (ucPromoteOne s).tb = s.tb ∧
    (ucPromoteOne s).rmu = s.rmu ∧ (ucPromoteOne s).lc = s.lc ∧ (ucPromoteOne s).peers = s.peers ∧
    (ucPromoteOne s).tau = s.tau ∧ (ucPromoteOne s).si = s.si ∧ (ucPromoteOne s).td = s.td ∧ (ucPromoteOne s).bm = s.bm ∧
    (ucPromoteOne s).hc = s.hc ∧ (ucPromoteOne s).twm = s.twm ∧ (ucPromoteOne s).cs = s.cs ∧
    (ucPromoteOne s).counters = s.counters ∧ (ucPromoteOne s).freeDrawn = s.freeDrawn := by
  simp only [ucPromoteOne]; (repeat' split) <;> simp

@[simp] theorem ucPromote_leaves (s : State) :
    (ucPromote s).pending = s.pending ∧ (ucPromote s).pins = s.pins ∧ (ucPromote s).tb = s.tb ∧ (ucPromote s).rmu = s.rmu ∧
    (ucPromote s).lc = s.lc ∧ (ucPromote s).peers = s.peers ∧ (ucPromote s).tau = s.tau ∧ (ucPromote s).si = s.si ∧
    (ucPromote s).td = s.td ∧ (ucPromote s).bm = s.bm ∧ (ucPromote s).hc = s.hc ∧ (ucPromote s).twm = s.twm ∧
    (ucPromote s).cs = s.cs ∧ (ucPromote s).counters = s.counters ∧ (ucPromote s).freeDrawn = s.freeDrawn := by
  unfold ucPromote
  generalize List.range 8 = xs
  induction xs generalizing s with
  | nil => simp
  | cons x xs ih => simp [ih]

@[simp] theorem ucLeave_leaves (a : Alert) (how : UplinkState) (s : State) :
    (ucLeave a how s).pending = s.pending ∧ (ucLeave a how s).pins = s.pins ∧ (ucLeave a how s).tb = s.tb ∧
    (ucLeave a how s).rmu = s.rmu ∧ (ucLeave a how s).lc = s.lc ∧ (ucLeave a how s).peers = s.peers ∧
    (ucLeave a how s).tau = s.tau ∧ (ucLeave a how s).si = s.si ∧ (ucLeave a how s).td = s.td ∧
    (ucLeave a how s).bm = s.bm ∧ (ucLeave a how s).hc = s.hc ∧ (ucLeave a how s).twm = s.twm ∧
    (ucLeave a how s).cs = s.cs ∧ (ucLeave a how s).freeDrawn = s.freeDrawn := by
  simp only [ucLeave]; (repeat' split) <;> simp

@[simp] theorem ucNewEvent_leaves (rid : Nat) (s : State) :
    (ucNewEvent rid s).pending = s.pending ∧ (ucNewEvent rid s).pins = s.pins ∧ (ucNewEvent rid s).tb = s.tb ∧
    (ucNewEvent rid s).rmu = s.rmu ∧ (ucNewEvent rid s).lc = s.lc ∧ (ucNewEvent rid s).peers = s.peers ∧
    (ucNewEvent rid s).tau = s.tau ∧ (ucNewEvent rid s).si = s.si ∧ (ucNewEvent rid s).td = s.td ∧
    (ucNewEvent rid s).bm = s.bm ∧ (ucNewEvent rid s).hc = s.hc ∧ (ucNewEvent rid s).twm = s.twm ∧
    (ucNewEvent rid s).cs = s.cs ∧ (ucNewEvent rid s).freeDrawn = s.freeDrawn := by
  simp only [ucNewEvent]; (repeat' split) <;> simp

@[simp] theorem ucUpdate_leaves (rid : Nat) (s : State) :
    (ucUpdate rid s).pending = s.pending ∧ (ucUpdate rid s).pins = s.pins ∧ (ucUpdate rid s).tb = s.tb ∧
    (ucUpdate rid s).rmu = s.rmu ∧ (ucUpdate rid s).lc = s.lc ∧ (ucUpdate rid s).peers = s.peers ∧
    (ucUpdate rid s).tau = s.tau ∧ (ucUpdate rid s).si = s.si ∧ (ucUpdate rid s).td = s.td ∧ (ucUpdate rid s).bm = s.bm ∧
    (ucUpdate rid s).hc = s.hc ∧ (ucUpdate rid s).twm = s.twm ∧ (ucUpdate rid s).cs = s.cs ∧
    (ucUpdate rid s).freeDrawn = s.freeDrawn := by
  simp only [ucUpdate]; (repeat' split) <;> simp

@[simp] theorem ucRetractWithdrawn_leaves (rid : Nat) (s : State) :
    (ucRetractWithdrawn rid s).pending = s.pending ∧ (ucRetractWithdrawn rid s).pins = s.pins ∧
    (ucRetractWithdrawn rid s).tb = s.tb ∧ (ucRetractWithdrawn rid s).rmu = s.rmu ∧ (ucRetractWithdrawn rid s).lc = s.lc ∧
    (ucRetractWithdrawn rid s).peers = s.peers ∧ (ucRetractWithdrawn rid s).tau = s.tau ∧
    (ucRetractWithdrawn rid s).si = s.si ∧ (ucRetractWithdrawn rid s).td = s.td ∧ (ucRetractWithdrawn rid s).bm = s.bm ∧
    (ucRetractWithdrawn rid s).hc = s.hc ∧ (ucRetractWithdrawn rid s).twm = s.twm ∧ (ucRetractWithdrawn rid s).cs = s.cs ∧
    (ucRetractWithdrawn rid s).freeDrawn = s.freeDrawn := by
  simp only [ucRetractWithdrawn]; (repeat' split) <;> simp

@[simp] theorem ucWithdraw_leaves (rid : Nat) (s : State) :
    (ucWithdraw rid s).pending = s.pending ∧ (ucWithdraw rid s).pins = s.pins ∧ (ucWithdraw rid s).tb = s.tb ∧
    (ucWithdraw rid s).rmu = s.rmu ∧ (ucWithdraw rid s).lc = s.lc ∧ (ucWithdraw rid s).peers = s.peers ∧
    (ucWithdraw rid s).tau = s.tau ∧ (ucWithdraw rid s).si = s.si ∧ (ucWithdraw rid s).td = s.td ∧
    (ucWithdraw rid s).bm = s.bm ∧ (ucWithdraw rid s).hc = s.hc ∧ (ucWithdraw rid s).twm = s.twm ∧
    (ucWithdraw rid s).cs = s.cs ∧ (ucWithdraw rid s).freeDrawn = s.freeDrawn := by
  simp only [ucWithdraw]; (repeat' split) <;> simp

@[simp] theorem ucChangeId_leaves (rid : Nat) (former : Option EventId) (s : State) :
    (ucChangeId rid former s).pending = s.pending ∧ (ucChangeId rid former s).pins = s.pins ∧
    (ucChangeId rid former s).tb = s.tb ∧ (ucChangeId rid former s).rmu = s.rmu ∧ (ucChangeId rid former s).lc = s.lc ∧
    (ucChangeId rid former s).peers = s.peers ∧ (ucChangeId rid former s).tau = s.tau ∧
    (ucChangeId rid former s).si = s.si ∧ (ucChangeId rid former s).td = s.td ∧ (ucChangeId rid former s).bm = s.bm ∧
    (ucChangeId rid former s).hc = s.hc ∧ (ucChangeId rid former s).twm = s.twm ∧ (ucChangeId rid former s).cs = s.cs ∧
    (ucChangeId rid former s).freeDrawn = s.freeDrawn := by
  simp only [ucChangeId]; (repeat' split) <;> simp

@[simp] theorem setModem_leaves (m : Modem) (timer : Option Timer) (s : State) :
    (setModem m timer s).pending = s.pending ∧ (setModem m timer s).pins = s.pins ∧ (setModem m timer s).tb = s.tb ∧
    (setModem m timer s).rmu = s.rmu ∧ (setModem m timer s).lc = s.lc ∧ (setModem m timer s).peers = s.peers ∧
    (setModem m timer s).tau = s.tau ∧ (setModem m timer s).si = s.si ∧ (setModem m timer s).td = s.td ∧
    (setModem m timer s).cu = s.cu ∧ (setModem m timer s).bm = s.bm ∧ (setModem m timer s).hc = s.hc ∧
    (setModem m timer s).mc = s.mc ∧ (setModem m timer s).twm = s.twm ∧ (setModem m timer s).cs = s.cs ∧
    (setModem m timer s).counters = s.counters ∧ (setModem m timer s).freeDrawn = s.freeDrawn := by
  simp only [setModem]; (repeat' split) <;> simp

@[simp] theorem ucStart_leaves (s : State) :
    (ucStart s).pending = s.pending ∧ (ucStart s).pins = s.pins ∧ (ucStart s).tb = s.tb ∧ (ucStart s).rmu = s.rmu ∧
    (ucStart s).lc = s.lc ∧ (ucStart s).peers = s.peers ∧ (ucStart s).tau = s.tau ∧ (ucStart s).si = s.si ∧
    (ucStart s).td = s.td ∧ (ucStart s).bm = s.bm ∧ (ucStart s).hc = s.hc ∧ (ucStart s).mc = s.mc ∧
    (ucStart s).twm = s.twm ∧ (ucStart s).cs = s.cs ∧ (ucStart s).counters = s.counters ∧
    (ucStart s).freeDrawn = s.freeDrawn := by
  simp only [ucStart]; (repeat' split) <;> simp

@[simp] theorem enterReadyWait_leaves (s : State) :
    (enterReadyWait s).pending = s.pending ∧ (enterReadyWait s).pins = s.pins ∧ (enterReadyWait s).tb = s.tb ∧
    (enterReadyWait s).rmu = s.rmu ∧ (enterReadyWait s).lc = s.lc ∧ (enterReadyWait s).peers = s.peers ∧
    (enterReadyWait s).tau = s.tau ∧ (enterReadyWait s).si = s.si ∧ (enterReadyWait s).td = s.td ∧
    (enterReadyWait s).bm = s.bm ∧ (enterReadyWait s).hc = s.hc ∧ (enterReadyWait s).mc = s.mc ∧
    (enterReadyWait s).twm = s.twm ∧ (enterReadyWait s).cs = s.cs ∧ (enterReadyWait s).counters = s.counters ∧
    (enterReadyWait s).freeDrawn = s.freeDrawn := by
  simp only [enterReadyWait]; (repeat' split) <;> simp

@[simp] theorem enterIdle_leaves (s : State) :
    (enterIdle s).pending = s.pending ∧ (enterIdle s).pins = s.pins ∧ (enterIdle s).tb = s.tb ∧ (enterIdle s).rmu = s.rmu ∧
    (enterIdle s).lc = s.lc ∧ (enterIdle s).peers = s.peers ∧ (enterIdle s).tau = s.tau ∧ (enterIdle s).si = s.si ∧
    (enterIdle s).td = s.td ∧ (enterIdle s).cu = s.cu ∧ (enterIdle s).bm = s.bm ∧ (enterIdle s).hc = s.hc ∧
    (enterIdle s).mc = s.mc ∧ (enterIdle s).twm = s.twm ∧ (enterIdle s).cs = s.cs ∧ (enterIdle s).counters = s.counters ∧
    (enterIdle s).freeDrawn = s.freeDrawn := by
  simp only [enterIdle]; (repeat' split) <;> simp

@[simp] theorem modemNext_leaves (s : State) :
    (modemNext s).pending = s.pending ∧ (modemNext s).pins = s.pins ∧ (modemNext s).tb = s.tb ∧ (modemNext s).rmu = s.rmu ∧
    (modemNext s).lc = s.lc ∧ (modemNext s).peers = s.peers ∧ (modemNext s).tau = s.tau ∧ (modemNext s).si = s.si ∧
    (modemNext s).td = s.td ∧ (modemNext s).bm = s.bm ∧ (modemNext s).hc = s.hc ∧ (modemNext s).mc = s.mc ∧
    (modemNext s).twm = s.twm ∧ (modemNext s).cs = s.cs ∧ (modemNext s).counters = s.counters ∧
    (modemNext s).freeDrawn = s.freeDrawn := by
  simp only [modemNext]; (repeat' split) <;> simp

@[simp] theorem modemKick_leaves (s : State) :
    (modemKick s).pending = s.pending ∧ (modemKick s).pins = s.pins ∧ (modemKick s).tb = s.tb ∧ (modemKick s).rmu = s.rmu ∧
    (modemKick s).lc = s.lc ∧ (modemKick s).peers = s.peers ∧ (modemKick s).tau = s.tau ∧ (modemKick s).si = s.si ∧
    (modemKick s).td = s.td ∧ (modemKick s).bm = s.bm ∧ (modemKick s).hc = s.hc ∧ (modemKick s).mc = s.mc ∧
    (modemKick s).twm = s.twm ∧ (modemKick s).cs = s.cs ∧ (modemKick s).counters = s.counters ∧
    (modemKick s).freeDrawn = s.freeDrawn := by
  simp only [modemKick]; (repeat' split) <;> simp

@[simp] theorem retractFormer_leaves (a : Alert) (s : State) :
    (retractFormer a s).pending = s.pending ∧ (retractFormer a s).pins = s.pins ∧ (retractFormer a s).tb = s.tb ∧
    (retractFormer a s).rmu = s.rmu ∧ (retractFormer a s).lc = s.lc ∧ (retractFormer a s).peers = s.peers ∧
    (retractFormer a s).tau = s.tau ∧ (retractFormer a s).si = s.si ∧ (retractFormer a s).td = s.td ∧
    (retractFormer a s).bm = s.bm ∧ (retractFormer a s).hc = s.hc ∧ (retractFormer a s).twm = s.twm ∧
    (retractFormer a s).cs = s.cs ∧ (retractFormer a s).freeDrawn = s.freeDrawn := by
  simp only [retractFormer]; (repeat' split) <;> simp

@[simp] theorem putAlert_leaves (old new : Alert) (s : State) :
    (putAlert old new s).pending = s.pending ∧ (putAlert old new s).pins = s.pins ∧ (putAlert old new s).tb = s.tb ∧
    (putAlert old new s).rmu = s.rmu ∧ (putAlert old new s).lc = s.lc ∧ (putAlert old new s).peers = s.peers ∧
    (putAlert old new s).tau = s.tau ∧ (putAlert old new s).si = s.si ∧ (putAlert old new s).td = s.td ∧
    (putAlert old new s).bm = s.bm ∧ (putAlert old new s).hc = s.hc ∧ (putAlert old new s).mc = s.mc ∧
    (putAlert old new s).twm = s.twm ∧ (putAlert old new s).cs = s.cs ∧ (putAlert old new s).counters = s.counters ∧
    (putAlert old new s).freeDrawn = s.freeDrawn := by
  simp only [putAlert]; (repeat' split) <;> simp

@[simp] theorem failAttempt_leaves (a : Alert) (s : State) :
    (failAttempt a s).pending = s.pending ∧ (failAttempt a s).pins = s.pins ∧ (failAttempt a s).tb = s.tb ∧
    (failAttempt a s).rmu = s.rmu ∧ (failAttempt a s).lc = s.lc ∧ (failAttempt a s).peers = s.peers ∧
    (failAttempt a s).tau = s.tau ∧ (failAttempt a s).si = s.si ∧ (failAttempt a s).td = s.td ∧
    (failAttempt a s).bm = s.bm ∧ (failAttempt a s).hc = s.hc ∧ (failAttempt a s).twm = s.twm ∧
    (failAttempt a s).cs = s.cs ∧ (failAttempt a s).freeDrawn = s.freeDrawn := by
  simp only [failAttempt]; (repeat' split) <;> simp

@[simp] theorem returnAlert_leaves (a : Alert) (s : State) :
    (returnAlert a s).pending = s.pending ∧ (returnAlert a s).pins = s.pins ∧ (returnAlert a s).tb = s.tb ∧
    (returnAlert a s).rmu = s.rmu ∧ (returnAlert a s).lc = s.lc ∧ (returnAlert a s).peers = s.peers ∧
    (returnAlert a s).tau = s.tau ∧ (returnAlert a s).si = s.si ∧ (returnAlert a s).td = s.td ∧
    (returnAlert a s).bm = s.bm ∧ (returnAlert a s).hc = s.hc ∧ (returnAlert a s).twm = s.twm ∧
    (returnAlert a s).cs = s.cs ∧ (returnAlert a s).freeDrawn = s.freeDrawn := by
  simp only [returnAlert]; (repeat' split) <;> simp

@[simp] theorem leaveWithdrawn_leaves (a : Alert) (s : State) :
    (leaveWithdrawn a s).pending = s.pending ∧ (leaveWithdrawn a s).pins = s.pins ∧ (leaveWithdrawn a s).tb = s.tb ∧
    (leaveWithdrawn a s).rmu = s.rmu ∧ (leaveWithdrawn a s).lc = s.lc ∧ (leaveWithdrawn a s).peers = s.peers ∧
    (leaveWithdrawn a s).tau = s.tau ∧ (leaveWithdrawn a s).si = s.si ∧ (leaveWithdrawn a s).td = s.td ∧
    (leaveWithdrawn a s).bm = s.bm ∧ (leaveWithdrawn a s).hc = s.hc ∧ (leaveWithdrawn a s).twm = s.twm ∧
    (leaveWithdrawn a s).cs = s.cs ∧ (leaveWithdrawn a s).freeDrawn = s.freeDrawn := by
  simp only [leaveWithdrawn]; (repeat' split) <;> simp

@[simp] theorem endCut_leaves (c : Cut) (a : Alert) (s : State) :
    (endCut c a s).pending = s.pending ∧ (endCut c a s).pins = s.pins ∧ (endCut c a s).tb = s.tb ∧
    (endCut c a s).rmu = s.rmu ∧ (endCut c a s).lc = s.lc ∧ (endCut c a s).peers = s.peers ∧ (endCut c a s).tau = s.tau ∧
    (endCut c a s).si = s.si ∧ (endCut c a s).td = s.td ∧ (endCut c a s).bm = s.bm ∧ (endCut c a s).hc = s.hc ∧
    (endCut c a s).twm = s.twm ∧ (endCut c a s).cs = s.cs ∧ (endCut c a s).freeDrawn = s.freeDrawn := by
  simp only [endCut]; (repeat' split) <;> simp

@[simp] theorem ackAlert_leaves (a : Alert) (t : Transfer) (s : State) :
    (ackAlert a t s).pending = s.pending ∧ (ackAlert a t s).pins = s.pins ∧ (ackAlert a t s).tb = s.tb ∧
    (ackAlert a t s).rmu = s.rmu ∧ (ackAlert a t s).lc = s.lc ∧ (ackAlert a t s).peers = s.peers ∧
    (ackAlert a t s).tau = s.tau ∧ (ackAlert a t s).si = s.si ∧ (ackAlert a t s).td = s.td ∧ (ackAlert a t s).bm = s.bm ∧
    (ackAlert a t s).twm = s.twm ∧ (ackAlert a t s).cs = s.cs ∧ (ackAlert a t s).freeDrawn = s.freeDrawn := by
  simp only [ackAlert]; (repeat' split) <;> simp

@[simp] theorem nakAlert_leaves (a : Alert) (s : State) :
    (nakAlert a s).pending = s.pending ∧ (nakAlert a s).pins = s.pins ∧ (nakAlert a s).tb = s.tb ∧
    (nakAlert a s).rmu = s.rmu ∧ (nakAlert a s).lc = s.lc ∧ (nakAlert a s).peers = s.peers ∧ (nakAlert a s).tau = s.tau ∧
    (nakAlert a s).si = s.si ∧ (nakAlert a s).td = s.td ∧ (nakAlert a s).bm = s.bm ∧ (nakAlert a s).hc = s.hc ∧
    (nakAlert a s).twm = s.twm ∧ (nakAlert a s).cs = s.cs ∧ (nakAlert a s).freeDrawn = s.freeDrawn := by
  simp only [nakAlert]; (repeat' split) <;> simp

@[simp] theorem endAwaiting_leaves (s : State) :
    (endAwaiting s).pending = s.pending ∧ (endAwaiting s).pins = s.pins ∧ (endAwaiting s).tb = s.tb ∧
    (endAwaiting s).rmu = s.rmu ∧ (endAwaiting s).lc = s.lc ∧ (endAwaiting s).peers = s.peers ∧
    (endAwaiting s).tau = s.tau ∧ (endAwaiting s).si = s.si ∧ (endAwaiting s).td = s.td ∧ (endAwaiting s).bm = s.bm ∧
    (endAwaiting s).hc = s.hc ∧ (endAwaiting s).mc = s.mc ∧ (endAwaiting s).twm = s.twm ∧ (endAwaiting s).cs = s.cs ∧
    (endAwaiting s).counters = s.counters ∧ (endAwaiting s).freeDrawn = s.freeDrawn := by
  simp only [endAwaiting]; (repeat' split) <;> simp

@[simp] theorem ucModeOff_leaves (s : State) :
    (ucModeOff s).pending = s.pending ∧ (ucModeOff s).pins = s.pins ∧ (ucModeOff s).tb = s.tb ∧ (ucModeOff s).rmu = s.rmu ∧
    (ucModeOff s).lc = s.lc ∧ (ucModeOff s).peers = s.peers ∧ (ucModeOff s).tau = s.tau ∧ (ucModeOff s).si = s.si ∧
    (ucModeOff s).td = s.td ∧ (ucModeOff s).bm = s.bm ∧ (ucModeOff s).hc = s.hc ∧ (ucModeOff s).twm = s.twm ∧
    (ucModeOff s).cs = s.cs ∧ (ucModeOff s).freeDrawn = s.freeDrawn := by
  simp only [ucModeOff]; (repeat' split) <;> simp

@[simp] theorem healthTimerStart_leaves (s : State) :
    (healthTimerStart s).pending = s.pending ∧ (healthTimerStart s).pins = s.pins ∧ (healthTimerStart s).tb = s.tb ∧
    (healthTimerStart s).rmu = s.rmu ∧ (healthTimerStart s).lc = s.lc ∧ (healthTimerStart s).peers = s.peers ∧
    (healthTimerStart s).tau = s.tau ∧ (healthTimerStart s).si = s.si ∧ (healthTimerStart s).td = s.td ∧
    (healthTimerStart s).cu = s.cu ∧ (healthTimerStart s).bm = s.bm ∧ (healthTimerStart s).hc = s.hc ∧
    (healthTimerStart s).mc = s.mc ∧ (healthTimerStart s).twm = s.twm ∧ (healthTimerStart s).cs = s.cs ∧
    (healthTimerStart s).counters = s.counters ∧ (healthTimerStart s).freeDrawn = s.freeDrawn := by
  simp only [healthTimerStart]; (repeat' split) <;> simp

@[simp] theorem ucHealth_leaves (s : State) :
    (ucHealth s).pending = s.pending ∧ (ucHealth s).pins = s.pins ∧ (ucHealth s).tb = s.tb ∧ (ucHealth s).rmu = s.rmu ∧
    (ucHealth s).lc = s.lc ∧ (ucHealth s).peers = s.peers ∧ (ucHealth s).tau = s.tau ∧ (ucHealth s).si = s.si ∧
    (ucHealth s).td = s.td ∧ (ucHealth s).bm = s.bm ∧ (ucHealth s).hc = s.hc ∧ (ucHealth s).twm = s.twm ∧
    (ucHealth s).cs = s.cs ∧ (ucHealth s).freeDrawn = s.freeDrawn := by
  simp only [ucHealth]; (repeat' split) <;> simp

@[simp] theorem ucFetch_leaves (t : Transfer) (s : State) :
    (ucFetch t s).pending = s.pending ∧ (ucFetch t s).pins = s.pins ∧ (ucFetch t s).tb = s.tb ∧ (ucFetch t s).rmu = s.rmu ∧
    (ucFetch t s).lc = s.lc ∧ (ucFetch t s).peers = s.peers ∧ (ucFetch t s).tau = s.tau ∧ (ucFetch t s).si = s.si ∧
    (ucFetch t s).td = s.td ∧ (ucFetch t s).cu = s.cu ∧ (ucFetch t s).bm = s.bm ∧ (ucFetch t s).hc = s.hc ∧
    (ucFetch t s).mc = s.mc ∧ (ucFetch t s).twm = s.twm ∧ (ucFetch t s).cs = s.cs ∧ (ucFetch t s).counters = s.counters ∧
    (ucFetch t s).freeDrawn = s.freeDrawn := by
  simp only [ucFetch]; (repeat' split) <;> simp

@[simp] theorem cuReport_leaves (s : State) :
    (cuReport s).pending = s.pending ∧ (cuReport s).pins = s.pins ∧ (cuReport s).tb = s.tb ∧ (cuReport s).rmu = s.rmu ∧
    (cuReport s).lc = s.lc ∧ (cuReport s).peers = s.peers ∧ (cuReport s).tau = s.tau ∧ (cuReport s).si = s.si ∧
    (cuReport s).td = s.td ∧ (cuReport s).cu = s.cu ∧ (cuReport s).uc = s.uc ∧ (cuReport s).bm = s.bm ∧
    (cuReport s).hc = s.hc ∧ (cuReport s).twm = s.twm ∧ (cuReport s).cs = s.cs ∧ (cuReport s).counters = s.counters ∧
    (cuReport s).freeDrawn = s.freeDrawn := by
  simp only [cuReport]; (repeat' split) <;> simp

@[simp] theorem cuReportOpen_leaves (s : State) :
    (cuReportOpen s).pending = s.pending ∧ (cuReportOpen s).pins = s.pins ∧ (cuReportOpen s).tb = s.tb ∧
    (cuReportOpen s).rmu = s.rmu ∧ (cuReportOpen s).lc = s.lc ∧ (cuReportOpen s).peers = s.peers ∧
    (cuReportOpen s).tau = s.tau ∧ (cuReportOpen s).si = s.si ∧ (cuReportOpen s).td = s.td ∧ (cuReportOpen s).cu = s.cu ∧
    (cuReportOpen s).uc = s.uc ∧ (cuReportOpen s).bm = s.bm ∧ (cuReportOpen s).hc = s.hc ∧ (cuReportOpen s).twm = s.twm ∧
    (cuReportOpen s).cs = s.cs ∧ (cuReportOpen s).counters = s.counters ∧ (cuReportOpen s).freeDrawn = s.freeDrawn := by
  simp only [cuReportOpen]; (repeat' split) <;> simp

@[simp] theorem cuRequest_leaves (s : State) :
    (cuRequest s).pending = s.pending ∧ (cuRequest s).pins = s.pins ∧ (cuRequest s).tb = s.tb ∧ (cuRequest s).rmu = s.rmu ∧
    (cuRequest s).peers = s.peers ∧ (cuRequest s).tau = s.tau ∧ (cuRequest s).si = s.si ∧ (cuRequest s).td = s.td ∧
    (cuRequest s).cu = s.cu ∧ (cuRequest s).uc = s.uc ∧ (cuRequest s).bm = s.bm ∧ (cuRequest s).hc = s.hc ∧
    (cuRequest s).mc = s.mc ∧ (cuRequest s).twm = s.twm ∧ (cuRequest s).cs = s.cs ∧ (cuRequest s).counters = s.counters ∧
    (cuRequest s).freeDrawn = s.freeDrawn := by
  simp only [cuRequest]; (repeat' split) <;> simp

@[simp] theorem mergePart_leaves (rid station : Nat) (onset : StationTime) (peak : Nat) (s : State) :
    (mergePart rid station onset peak s).pending = s.pending ∧ (mergePart rid station onset peak s).pins = s.pins ∧
    (mergePart rid station onset peak s).tb = s.tb ∧ (mergePart rid station onset peak s).rmu = s.rmu ∧
    (mergePart rid station onset peak s).lc = s.lc ∧ (mergePart rid station onset peak s).peers = s.peers ∧
    (mergePart rid station onset peak s).tau = s.tau ∧ (mergePart rid station onset peak s).si = s.si ∧
    (mergePart rid station onset peak s).td = s.td ∧ (mergePart rid station onset peak s).uc = s.uc ∧
    (mergePart rid station onset peak s).bm = s.bm ∧ (mergePart rid station onset peak s).hc = s.hc ∧
    (mergePart rid station onset peak s).mc = s.mc ∧ (mergePart rid station onset peak s).twm = s.twm ∧
    (mergePart rid station onset peak s).cs = s.cs ∧ (mergePart rid station onset peak s).freeDrawn = s.freeDrawn := by
  simp only [mergePart]; (repeat' split) <;> simp

@[simp] theorem mergeDecl_leaves (rid : Nat) (d : DeclBody) (s : State) :
    (mergeDecl rid d s).pending = s.pending ∧ (mergeDecl rid d s).pins = s.pins ∧ (mergeDecl rid d s).tb = s.tb ∧
    (mergeDecl rid d s).rmu = s.rmu ∧ (mergeDecl rid d s).lc = s.lc ∧ (mergeDecl rid d s).peers = s.peers ∧
    (mergeDecl rid d s).tau = s.tau ∧ (mergeDecl rid d s).si = s.si ∧ (mergeDecl rid d s).td = s.td ∧
    (mergeDecl rid d s).uc = s.uc ∧ (mergeDecl rid d s).bm = s.bm ∧ (mergeDecl rid d s).hc = s.hc ∧
    (mergeDecl rid d s).mc = s.mc ∧ (mergeDecl rid d s).twm = s.twm ∧ (mergeDecl rid d s).cs = s.cs ∧
    (mergeDecl rid d s).freeDrawn = s.freeDrawn := by
  unfold mergeDecl
  generalize d.parts = xs
  induction xs generalizing s with
  | nil => simp
  | cons x xs ih => simp [ih]

@[simp] theorem oweUpdate_leaves (rid : Nat) (s : State) :
    (oweUpdate rid s).pending = s.pending ∧ (oweUpdate rid s).pins = s.pins ∧ (oweUpdate rid s).tb = s.tb ∧
    (oweUpdate rid s).rmu = s.rmu ∧ (oweUpdate rid s).lc = s.lc ∧ (oweUpdate rid s).peers = s.peers ∧
    (oweUpdate rid s).tau = s.tau ∧ (oweUpdate rid s).si = s.si ∧ (oweUpdate rid s).td = s.td ∧
    (oweUpdate rid s).bm = s.bm ∧ (oweUpdate rid s).hc = s.hc ∧ (oweUpdate rid s).twm = s.twm ∧
    (oweUpdate rid s).cs = s.cs ∧ (oweUpdate rid s).freeDrawn = s.freeDrawn := by
  simp only [oweUpdate]; (repeat' split) <;> simp

@[simp] theorem joinRecord_leaves (r : EventRec) (f : Fit) (e : Entry) (s : State) :
    (joinRecord r f e s).pending = s.pending ∧ (joinRecord r f e s).pins = s.pins ∧ (joinRecord r f e s).tb = s.tb ∧
    (joinRecord r f e s).rmu = s.rmu ∧ (joinRecord r f e s).lc = s.lc ∧ (joinRecord r f e s).peers = s.peers ∧
    (joinRecord r f e s).tau = s.tau ∧ (joinRecord r f e s).si = s.si ∧ (joinRecord r f e s).td = s.td ∧
    (joinRecord r f e s).bm = s.bm ∧ (joinRecord r f e s).hc = s.hc ∧ (joinRecord r f e s).twm = s.twm ∧
    (joinRecord r f e s).cs = s.cs ∧ (joinRecord r f e s).freeDrawn = s.freeDrawn := by
  simp only [joinRecord]; (repeat' split) <;> simp

@[simp] theorem offerOne_leaves (allow : EventRec → Bool) (s : State) (e : Entry) :
    (offerOne allow s e).pending = s.pending ∧ (offerOne allow s e).pins = s.pins ∧ (offerOne allow s e).tb = s.tb ∧
    (offerOne allow s e).rmu = s.rmu ∧ (offerOne allow s e).lc = s.lc ∧ (offerOne allow s e).peers = s.peers ∧
    (offerOne allow s e).tau = s.tau ∧ (offerOne allow s e).si = s.si ∧ (offerOne allow s e).td = s.td ∧
    (offerOne allow s e).bm = s.bm ∧ (offerOne allow s e).hc = s.hc ∧ (offerOne allow s e).twm = s.twm ∧
    (offerOne allow s e).cs = s.cs ∧ (offerOne allow s e).freeDrawn = s.freeDrawn := by
  simp only [offerOne]; (repeat' split) <;> simp

@[simp] theorem offerEach_leaves (allow : EventRec → Bool) (xs : List Entry) (s : State) :
    (offerEach allow xs s).pending = s.pending ∧ (offerEach allow xs s).pins = s.pins ∧ (offerEach allow xs s).tb = s.tb ∧
    (offerEach allow xs s).rmu = s.rmu ∧ (offerEach allow xs s).lc = s.lc ∧ (offerEach allow xs s).peers = s.peers ∧
    (offerEach allow xs s).tau = s.tau ∧ (offerEach allow xs s).si = s.si ∧ (offerEach allow xs s).td = s.td ∧
    (offerEach allow xs s).bm = s.bm ∧ (offerEach allow xs s).hc = s.hc ∧ (offerEach allow xs s).twm = s.twm ∧
    (offerEach allow xs s).cs = s.cs ∧ (offerEach allow xs s).freeDrawn = s.freeDrawn := by
  unfold offerEach
  induction xs generalizing s with
  | nil => simp
  | cons x xs ih => simp [ih]

@[simp] theorem foldUnconfirmed_leaves (xs : List Entry) (s : State) :
    (xs.foldl (fun s e => tdUnconfirmedIf (e.own && !e.confirmed) s) s).pending = s.pending ∧
    (xs.foldl (fun s e => tdUnconfirmedIf (e.own && !e.confirmed) s) s).pins = s.pins ∧
    (xs.foldl (fun s e => tdUnconfirmedIf (e.own && !e.confirmed) s) s).tb = s.tb ∧
    (xs.foldl (fun s e => tdUnconfirmedIf (e.own && !e.confirmed) s) s).rmu = s.rmu ∧
    (xs.foldl (fun s e => tdUnconfirmedIf (e.own && !e.confirmed) s) s).lc = s.lc ∧
    (xs.foldl (fun s e => tdUnconfirmedIf (e.own && !e.confirmed) s) s).peers = s.peers ∧
    (xs.foldl (fun s e => tdUnconfirmedIf (e.own && !e.confirmed) s) s).tau = s.tau ∧
    (xs.foldl (fun s e => tdUnconfirmedIf (e.own && !e.confirmed) s) s).si = s.si ∧
    (xs.foldl (fun s e => tdUnconfirmedIf (e.own && !e.confirmed) s) s).cu = s.cu ∧
    (xs.foldl (fun s e => tdUnconfirmedIf (e.own && !e.confirmed) s) s).uc = s.uc ∧
    (xs.foldl (fun s e => tdUnconfirmedIf (e.own && !e.confirmed) s) s).bm = s.bm ∧
    (xs.foldl (fun s e => tdUnconfirmedIf (e.own && !e.confirmed) s) s).hc = s.hc ∧
    (xs.foldl (fun s e => tdUnconfirmedIf (e.own && !e.confirmed) s) s).mc = s.mc ∧
    (xs.foldl (fun s e => tdUnconfirmedIf (e.own && !e.confirmed) s) s).twm = s.twm ∧
    (xs.foldl (fun s e => tdUnconfirmedIf (e.own && !e.confirmed) s) s).cs = s.cs ∧
    (xs.foldl (fun s e => tdUnconfirmedIf (e.own && !e.confirmed) s) s).freeDrawn = s.freeDrawn := by
  induction xs generalizing s with
  | nil => simp
  | cons x xs ih => simp [ih]

@[simp] theorem retentionSweep_leaves (s : State) :
    (retentionSweep s).pending = s.pending ∧ (retentionSweep s).pins = s.pins ∧ (retentionSweep s).tb = s.tb ∧
    (retentionSweep s).rmu = s.rmu ∧ (retentionSweep s).lc = s.lc ∧ (retentionSweep s).peers = s.peers ∧
    (retentionSweep s).tau = s.tau ∧ (retentionSweep s).si = s.si ∧ (retentionSweep s).uc = s.uc ∧
    (retentionSweep s).bm = s.bm ∧ (retentionSweep s).hc = s.hc ∧ (retentionSweep s).mc = s.mc ∧
    (retentionSweep s).twm = s.twm ∧ (retentionSweep s).cs = s.cs ∧ (retentionSweep s).freeDrawn = s.freeDrawn := by
  simp only [retentionSweep]; (repeat' split) <;> simp

@[simp] theorem removeRec_leaves (rid : Nat) (s : State) :
    (removeRec rid s).pending = s.pending ∧ (removeRec rid s).pins = s.pins ∧ (removeRec rid s).tb = s.tb ∧
    (removeRec rid s).rmu = s.rmu ∧ (removeRec rid s).lc = s.lc ∧ (removeRec rid s).peers = s.peers ∧
    (removeRec rid s).tau = s.tau ∧ (removeRec rid s).si = s.si ∧ (removeRec rid s).td = s.td ∧
    (removeRec rid s).uc = s.uc ∧ (removeRec rid s).bm = s.bm ∧ (removeRec rid s).hc = s.hc ∧
    (removeRec rid s).twm = s.twm ∧ (removeRec rid s).cs = s.cs ∧ (removeRec rid s).counters = s.counters ∧
    (removeRec rid s).freeDrawn = s.freeDrawn := by
  simp only [removeRec]; (repeat' split) <;> simp

@[simp] theorem freeEntries_leaves (rid : Nat) (s : State) :
    (freeEntries rid s).pending = s.pending ∧ (freeEntries rid s).pins = s.pins ∧ (freeEntries rid s).tb = s.tb ∧
    (freeEntries rid s).rmu = s.rmu ∧ (freeEntries rid s).lc = s.lc ∧ (freeEntries rid s).peers = s.peers ∧
    (freeEntries rid s).tau = s.tau ∧ (freeEntries rid s).si = s.si ∧ (freeEntries rid s).bm = s.bm ∧
    (freeEntries rid s).hc = s.hc ∧ (freeEntries rid s).twm = s.twm ∧ (freeEntries rid s).cs = s.cs ∧
    (freeEntries rid s).freeDrawn = s.freeDrawn := by
  simp only [freeEntries]; (repeat' split) <;> simp

@[simp] theorem insertRec_leaves (r : EventRec) (s : State) :
    (insertRec r s).pending = s.pending ∧ (insertRec r s).pins = s.pins ∧ (insertRec r s).tb = s.tb ∧
    (insertRec r s).rmu = s.rmu ∧ (insertRec r s).lc = s.lc ∧ (insertRec r s).peers = s.peers ∧
    (insertRec r s).tau = s.tau ∧ (insertRec r s).si = s.si ∧ (insertRec r s).td = s.td ∧ (insertRec r s).uc = s.uc ∧
    (insertRec r s).bm = s.bm ∧ (insertRec r s).hc = s.hc ∧ (insertRec r s).mc = s.mc ∧ (insertRec r s).twm = s.twm ∧
    (insertRec r s).cs = s.cs ∧ (insertRec r s).counters = s.counters ∧ (insertRec r s).freeDrawn = s.freeDrawn := by
  simp only [insertRec]; (repeat' split) <;> simp

@[simp] theorem lingerSweep_leaves (s : State) :
    (lingerSweep s).pending = s.pending ∧ (lingerSweep s).pins = s.pins ∧ (lingerSweep s).tb = s.tb ∧
    (lingerSweep s).rmu = s.rmu ∧ (lingerSweep s).lc = s.lc ∧ (lingerSweep s).peers = s.peers ∧
    (lingerSweep s).tau = s.tau ∧ (lingerSweep s).si = s.si ∧ (lingerSweep s).td = s.td ∧ (lingerSweep s).uc = s.uc ∧
    (lingerSweep s).bm = s.bm ∧ (lingerSweep s).hc = s.hc ∧ (lingerSweep s).twm = s.twm ∧ (lingerSweep s).cs = s.cs ∧
    (lingerSweep s).counters = s.counters ∧ (lingerSweep s).freeDrawn = s.freeDrawn := by
  unfold lingerSweep
  generalize s.cu.events.filter s.lingered = xs
  induction xs generalizing s with
  | nil => simp
  | cons x xs ih => simp [ih]

@[simp] theorem confirmEntries_leaves (rid : Nat) (s : State) :
    (confirmEntries rid s).pending = s.pending ∧ (confirmEntries rid s).pins = s.pins ∧ (confirmEntries rid s).tb = s.tb ∧
    (confirmEntries rid s).rmu = s.rmu ∧ (confirmEntries rid s).lc = s.lc ∧ (confirmEntries rid s).peers = s.peers ∧
    (confirmEntries rid s).tau = s.tau ∧ (confirmEntries rid s).si = s.si ∧ (confirmEntries rid s).td = s.td ∧
    (confirmEntries rid s).uc = s.uc ∧ (confirmEntries rid s).bm = s.bm ∧ (confirmEntries rid s).hc = s.hc ∧
    (confirmEntries rid s).mc = s.mc ∧ (confirmEntries rid s).twm = s.twm ∧ (confirmEntries rid s).cs = s.cs ∧
    (confirmEntries rid s).counters = s.counters ∧ (confirmEntries rid s).freeDrawn = s.freeDrawn := by
  simp only [confirmEntries]; (repeat' split) <;> simp

@[simp] theorem declareRec_leaves (rid : Nat) (s : State) :
    (declareRec rid s).pending = s.pending ∧ (declareRec rid s).pins = s.pins ∧ (declareRec rid s).tb = s.tb ∧
    (declareRec rid s).rmu = s.rmu ∧ (declareRec rid s).peers = s.peers ∧ (declareRec rid s).tau = s.tau ∧
    (declareRec rid s).si = s.si ∧ (declareRec rid s).td = s.td ∧ (declareRec rid s).bm = s.bm ∧
    (declareRec rid s).hc = s.hc ∧ (declareRec rid s).twm = s.twm ∧ (declareRec rid s).cs = s.cs ∧
    (declareRec rid s).freeDrawn = s.freeDrawn := by
  simp only [declareRec]; (repeat' split) <;> simp

@[simp] theorem holdoffExpire_leaves (rid : Nat) (s : State) :
    (holdoffExpire rid s).pending = s.pending ∧ (holdoffExpire rid s).pins = s.pins ∧ (holdoffExpire rid s).tb = s.tb ∧
    (holdoffExpire rid s).rmu = s.rmu ∧ (holdoffExpire rid s).peers = s.peers ∧ (holdoffExpire rid s).tau = s.tau ∧
    (holdoffExpire rid s).si = s.si ∧ (holdoffExpire rid s).bm = s.bm ∧ (holdoffExpire rid s).hc = s.hc ∧
    (holdoffExpire rid s).twm = s.twm ∧ (holdoffExpire rid s).cs = s.cs ∧ (holdoffExpire rid s).freeDrawn = s.freeDrawn := by
  simp only [holdoffExpire]; (repeat' split) <;> simp

@[simp] theorem foldMerge_leaves (rid : Nat) (xs : List Entry) (s : State) :
    (xs.foldl (fun s x => mergePart rid x.station x.onset x.peak s) s).pending = s.pending ∧
    (xs.foldl (fun s x => mergePart rid x.station x.onset x.peak s) s).pins = s.pins ∧
    (xs.foldl (fun s x => mergePart rid x.station x.onset x.peak s) s).tb = s.tb ∧
    (xs.foldl (fun s x => mergePart rid x.station x.onset x.peak s) s).rmu = s.rmu ∧
    (xs.foldl (fun s x => mergePart rid x.station x.onset x.peak s) s).lc = s.lc ∧
    (xs.foldl (fun s x => mergePart rid x.station x.onset x.peak s) s).peers = s.peers ∧
    (xs.foldl (fun s x => mergePart rid x.station x.onset x.peak s) s).tau = s.tau ∧
    (xs.foldl (fun s x => mergePart rid x.station x.onset x.peak s) s).si = s.si ∧
    (xs.foldl (fun s x => mergePart rid x.station x.onset x.peak s) s).td = s.td ∧
    (xs.foldl (fun s x => mergePart rid x.station x.onset x.peak s) s).uc = s.uc ∧
    (xs.foldl (fun s x => mergePart rid x.station x.onset x.peak s) s).bm = s.bm ∧
    (xs.foldl (fun s x => mergePart rid x.station x.onset x.peak s) s).hc = s.hc ∧
    (xs.foldl (fun s x => mergePart rid x.station x.onset x.peak s) s).mc = s.mc ∧
    (xs.foldl (fun s x => mergePart rid x.station x.onset x.peak s) s).twm = s.twm ∧
    (xs.foldl (fun s x => mergePart rid x.station x.onset x.peak s) s).cs = s.cs ∧
    (xs.foldl (fun s x => mergePart rid x.station x.onset x.peak s) s).freeDrawn = s.freeDrawn := by
  induction xs generalizing s with
  | nil => simp
  | cons x xs ih => simp [ih]

/-- A place for a record, where there is one, is made in the event table alone, and reported to MC (R125). -/
theorem makePlace_leaves (keep : Option Nat) (s t : State) (h : makePlace keep s = some t) :
    t.pending = s.pending ∧ t.pins = s.pins ∧ t.tb = s.tb ∧ t.rmu = s.rmu ∧ t.lc = s.lc ∧ t.peers = s.peers ∧
    t.tau = s.tau ∧ t.si = s.si ∧ t.td = s.td ∧ t.uc = s.uc ∧ t.bm = s.bm ∧ t.hc = s.hc ∧ t.twm = s.twm ∧ t.cs = s.cs ∧
    t.counters = s.counters ∧ t.freeDrawn = s.freeDrawn := by
  simp only [makePlace] at h
  (repeat' split at h) <;> simp at h <;> subst h <;> simp

@[simp] theorem evalQuorum_leaves (s : State) :
    (evalQuorum s).pending = s.pending ∧ (evalQuorum s).pins = s.pins ∧ (evalQuorum s).tb = s.tb ∧
    (evalQuorum s).rmu = s.rmu ∧ (evalQuorum s).peers = s.peers ∧ (evalQuorum s).tau = s.tau ∧ (evalQuorum s).si = s.si ∧
    (evalQuorum s).bm = s.bm ∧ (evalQuorum s).hc = s.hc ∧ (evalQuorum s).twm = s.twm ∧ (evalQuorum s).cs = s.cs ∧
    (evalQuorum s).freeDrawn = s.freeDrawn := by
  simp only [evalQuorum]
  split
  · simp
  · split
    · simp
    · split
      · simp
      · rename_i t h
        have := makePlace_leaves _ _ _ h
        split <;> simp [this]

@[simp] theorem evict_leaves (e : Entry) (s : State) :
    (evict e s).pending = s.pending ∧ (evict e s).pins = s.pins ∧ (evict e s).tb = s.tb ∧ (evict e s).rmu = s.rmu ∧
    (evict e s).lc = s.lc ∧ (evict e s).peers = s.peers ∧ (evict e s).tau = s.tau ∧ (evict e s).si = s.si ∧
    (evict e s).bm = s.bm ∧ (evict e s).hc = s.hc ∧ (evict e s).twm = s.twm ∧ (evict e s).cs = s.cs ∧
    (evict e s).freeDrawn = s.freeDrawn := by
  simp only [evict]; split <;> simp

@[simp] theorem evictFor_leaves (v : Option Entry) (s : State) :
    (evictFor v s).pending = s.pending ∧ (evictFor v s).pins = s.pins ∧ (evictFor v s).tb = s.tb ∧ (evictFor v s).rmu = s.rmu ∧
    (evictFor v s).lc = s.lc ∧ (evictFor v s).peers = s.peers ∧ (evictFor v s).tau = s.tau ∧ (evictFor v s).si = s.si ∧
    (evictFor v s).bm = s.bm ∧ (evictFor v s).hc = s.hc ∧ (evictFor v s).twm = s.twm ∧ (evictFor v s).cs = s.cs ∧
    (evictFor v s).freeDrawn = s.freeDrawn := by
  cases v <;> simp [evictFor]

@[simp] theorem placeEntry_leaves (e : Entry) (s : State) :
    (placeEntry e s).pending = s.pending ∧ (placeEntry e s).pins = s.pins ∧ (placeEntry e s).tb = s.tb ∧
    (placeEntry e s).rmu = s.rmu ∧ (placeEntry e s).peers = s.peers ∧ (placeEntry e s).tau = s.tau ∧
    (placeEntry e s).si = s.si ∧ (placeEntry e s).bm = s.bm ∧ (placeEntry e s).hc = s.hc ∧ (placeEntry e s).twm = s.twm ∧
    (placeEntry e s).cs = s.cs ∧ (placeEntry e s).freeDrawn = s.freeDrawn := by
  simp only [placeEntry]; (repeat' split) <;> simp

@[simp] theorem renewEnd_leaves (p : EventRec → Bool) (s : State) :
    (renewEnd p s).pending = s.pending ∧ (renewEnd p s).pins = s.pins ∧ (renewEnd p s).tb = s.tb ∧
    (renewEnd p s).rmu = s.rmu ∧ (renewEnd p s).lc = s.lc ∧ (renewEnd p s).peers = s.peers ∧ (renewEnd p s).tau = s.tau ∧
    (renewEnd p s).si = s.si ∧ (renewEnd p s).td = s.td ∧ (renewEnd p s).uc = s.uc ∧ (renewEnd p s).bm = s.bm ∧
    (renewEnd p s).hc = s.hc ∧ (renewEnd p s).mc = s.mc ∧ (renewEnd p s).twm = s.twm ∧ (renewEnd p s).cs = s.cs ∧
    (renewEnd p s).counters = s.counters ∧ (renewEnd p s).freeDrawn = s.freeDrawn := by
  simp only [renewEnd]; (repeat' split) <;> simp

@[simp] theorem mergeEntry_leaves (e x : Entry) (s : State) :
    (mergeEntry e x s).pending = s.pending ∧ (mergeEntry e x s).pins = s.pins ∧ (mergeEntry e x s).tb = s.tb ∧
    (mergeEntry e x s).rmu = s.rmu ∧ (mergeEntry e x s).peers = s.peers ∧ (mergeEntry e x s).tau = s.tau ∧
    (mergeEntry e x s).si = s.si ∧ (mergeEntry e x s).bm = s.bm ∧ (mergeEntry e x s).hc = s.hc ∧
    (mergeEntry e x s).twm = s.twm ∧ (mergeEntry e x s).cs = s.cs ∧ (mergeEntry e x s).freeDrawn = s.freeDrawn := by
  simp only [mergeEntry]; (repeat' split) <;> simp

@[simp] theorem admitOnset_leaves (x : Entry) (s : State) :
    (admitOnset x s).pending = s.pending ∧ (admitOnset x s).pins = s.pins ∧ (admitOnset x s).tb = s.tb ∧
    (admitOnset x s).rmu = s.rmu ∧ (admitOnset x s).peers = s.peers ∧ (admitOnset x s).tau = s.tau ∧
    (admitOnset x s).si = s.si ∧ (admitOnset x s).bm = s.bm ∧ (admitOnset x s).hc = s.hc ∧ (admitOnset x s).twm = s.twm ∧
    (admitOnset x s).cs = s.cs ∧ (admitOnset x s).freeDrawn = s.freeDrawn := by
  simp only [admitOnset]; (repeat' split) <;> simp

@[simp] theorem closeWhere_leaves (p : EventRec → Bool) (s : State) :
    (closeWhere p s).pending = s.pending ∧ (closeWhere p s).pins = s.pins ∧ (closeWhere p s).tb = s.tb ∧
    (closeWhere p s).rmu = s.rmu ∧ (closeWhere p s).lc = s.lc ∧ (closeWhere p s).peers = s.peers ∧
    (closeWhere p s).tau = s.tau ∧ (closeWhere p s).si = s.si ∧ (closeWhere p s).td = s.td ∧ (closeWhere p s).uc = s.uc ∧
    (closeWhere p s).bm = s.bm ∧ (closeWhere p s).hc = s.hc ∧ (closeWhere p s).twm = s.twm ∧ (closeWhere p s).cs = s.cs ∧
    (closeWhere p s).counters = s.counters ∧ (closeWhere p s).freeDrawn = s.freeDrawn := by
  simp only [closeWhere]; (repeat' split) <;> simp

@[simp] theorem closeTest_leaves (p : EventRec → Bool) (s : State) :
    (closeTest p s).pending = s.pending ∧ (closeTest p s).pins = s.pins ∧ (closeTest p s).tb = s.tb ∧
    (closeTest p s).rmu = s.rmu ∧ (closeTest p s).lc = s.lc ∧ (closeTest p s).peers = s.peers ∧
    (closeTest p s).tau = s.tau ∧ (closeTest p s).si = s.si ∧ (closeTest p s).td = s.td ∧ (closeTest p s).uc = s.uc ∧
    (closeTest p s).bm = s.bm ∧ (closeTest p s).hc = s.hc ∧ (closeTest p s).twm = s.twm ∧ (closeTest p s).cs = s.cs ∧
    (closeTest p s).counters = s.counters ∧ (closeTest p s).freeDrawn = s.freeDrawn := by
  simp only [closeTest]; (repeat' split) <;> simp

@[simp] theorem cuOwnOnset_leaves (onset : StationTime) (mask peak : Nat) (s : State) :
    (cuOwnOnset onset mask peak s).pending = s.pending ∧ (cuOwnOnset onset mask peak s).pins = s.pins ∧
    (cuOwnOnset onset mask peak s).tb = s.tb ∧ (cuOwnOnset onset mask peak s).rmu = s.rmu ∧
    (cuOwnOnset onset mask peak s).peers = s.peers ∧ (cuOwnOnset onset mask peak s).tau = s.tau ∧
    (cuOwnOnset onset mask peak s).si = s.si ∧ (cuOwnOnset onset mask peak s).bm = s.bm ∧
    (cuOwnOnset onset mask peak s).hc = s.hc ∧ (cuOwnOnset onset mask peak s).twm = s.twm ∧
    (cuOwnOnset onset mask peak s).cs = s.cs ∧ (cuOwnOnset onset mask peak s).freeDrawn = s.freeDrawn := by
  simp only [cuOwnOnset]; (repeat' split) <;> simp

@[simp] theorem cuOwnEnd_leaves (onset endAt : StationTime) (mask peak : Nat) (s : State) :
    (cuOwnEnd onset endAt mask peak s).pending = s.pending ∧ (cuOwnEnd onset endAt mask peak s).pins = s.pins ∧
    (cuOwnEnd onset endAt mask peak s).tb = s.tb ∧ (cuOwnEnd onset endAt mask peak s).rmu = s.rmu ∧
    (cuOwnEnd onset endAt mask peak s).peers = s.peers ∧ (cuOwnEnd onset endAt mask peak s).tau = s.tau ∧
    (cuOwnEnd onset endAt mask peak s).si = s.si ∧ (cuOwnEnd onset endAt mask peak s).bm = s.bm ∧
    (cuOwnEnd onset endAt mask peak s).hc = s.hc ∧ (cuOwnEnd onset endAt mask peak s).twm = s.twm ∧
    (cuOwnEnd onset endAt mask peak s).cs = s.cs ∧ (cuOwnEnd onset endAt mask peak s).freeDrawn = s.freeDrawn := by
  simp only [cuOwnEnd]; (repeat' split) <;> simp

@[simp] theorem cuNotice_leaves (sender : Nat) (n : Notice) (s : State) :
    (cuNotice sender n s).pending = s.pending ∧ (cuNotice sender n s).pins = s.pins ∧ (cuNotice sender n s).tb = s.tb ∧
    (cuNotice sender n s).rmu = s.rmu ∧ (cuNotice sender n s).peers = s.peers ∧ (cuNotice sender n s).tau = s.tau ∧
    (cuNotice sender n s).si = s.si ∧ (cuNotice sender n s).bm = s.bm ∧ (cuNotice sender n s).hc = s.hc ∧
    (cuNotice sender n s).twm = s.twm ∧ (cuNotice sender n s).cs = s.cs ∧ (cuNotice sender n s).freeDrawn = s.freeDrawn := by
  simp only [cuNotice]; (repeat' split) <;> simp

@[simp] theorem cuBeacon_leaves (sender : Nat) (b : BeaconBody) (ended : Bool) (s : State) :
    (cuBeacon sender b ended s).pending = s.pending ∧ (cuBeacon sender b ended s).pins = s.pins ∧
    (cuBeacon sender b ended s).tb = s.tb ∧ (cuBeacon sender b ended s).rmu = s.rmu ∧
    (cuBeacon sender b ended s).peers = s.peers ∧ (cuBeacon sender b ended s).tau = s.tau ∧
    (cuBeacon sender b ended s).si = s.si ∧ (cuBeacon sender b ended s).bm = s.bm ∧ (cuBeacon sender b ended s).hc = s.hc ∧
    (cuBeacon sender b ended s).twm = s.twm ∧ (cuBeacon sender b ended s).cs = s.cs ∧
    (cuBeacon sender b ended s).freeDrawn = s.freeDrawn := by
  simp only [cuBeacon]; (repeat' split) <;> simp

@[simp] theorem cuPeerRemoved_leaves (id : Nat) (s : State) :
    (cuPeerRemoved id s).pending = s.pending ∧ (cuPeerRemoved id s).pins = s.pins ∧ (cuPeerRemoved id s).tb = s.tb ∧
    (cuPeerRemoved id s).rmu = s.rmu ∧ (cuPeerRemoved id s).lc = s.lc ∧ (cuPeerRemoved id s).peers = s.peers ∧
    (cuPeerRemoved id s).tau = s.tau ∧ (cuPeerRemoved id s).si = s.si ∧ (cuPeerRemoved id s).td = s.td ∧
    (cuPeerRemoved id s).uc = s.uc ∧ (cuPeerRemoved id s).bm = s.bm ∧ (cuPeerRemoved id s).hc = s.hc ∧
    (cuPeerRemoved id s).twm = s.twm ∧ (cuPeerRemoved id s).cs = s.cs ∧ (cuPeerRemoved id s).counters = s.counters ∧
    (cuPeerRemoved id s).freeDrawn = s.freeDrawn := by
  simp only [cuPeerRemoved]; (repeat' split) <;> simp

@[simp] theorem offerTo_leaves (rid : Nat) (s : State) :
    (offerTo rid s).pending = s.pending ∧ (offerTo rid s).pins = s.pins ∧ (offerTo rid s).tb = s.tb ∧
    (offerTo rid s).rmu = s.rmu ∧ (offerTo rid s).lc = s.lc ∧ (offerTo rid s).peers = s.peers ∧
    (offerTo rid s).tau = s.tau ∧ (offerTo rid s).si = s.si ∧ (offerTo rid s).td = s.td ∧ (offerTo rid s).bm = s.bm ∧
    (offerTo rid s).hc = s.hc ∧ (offerTo rid s).twm = s.twm ∧ (offerTo rid s).cs = s.cs ∧
    (offerTo rid s).freeDrawn = s.freeDrawn := by
  simp only [offerTo]; (repeat' split) <;> simp

@[simp] theorem declUpdate_leaves (r : EventRec) (d : DeclBody) (s : State) :
    (declUpdate r d s).pending = s.pending ∧ (declUpdate r d s).pins = s.pins ∧ (declUpdate r d s).tb = s.tb ∧
    (declUpdate r d s).rmu = s.rmu ∧ (declUpdate r d s).lc = s.lc ∧ (declUpdate r d s).peers = s.peers ∧
    (declUpdate r d s).tau = s.tau ∧ (declUpdate r d s).si = s.si ∧ (declUpdate r d s).td = s.td ∧
    (declUpdate r d s).bm = s.bm ∧ (declUpdate r d s).hc = s.hc ∧ (declUpdate r d s).twm = s.twm ∧
    (declUpdate r d s).cs = s.cs ∧ (declUpdate r d s).freeDrawn = s.freeDrawn := by
  simp only [declUpdate]; (repeat' split) <;> simp

@[simp] theorem declAdoptHoldoff_leaves (x : EventRec) (d : DeclBody) (s : State) :
    (declAdoptHoldoff x d s).pending = s.pending ∧ (declAdoptHoldoff x d s).pins = s.pins ∧
    (declAdoptHoldoff x d s).tb = s.tb ∧ (declAdoptHoldoff x d s).rmu = s.rmu ∧ (declAdoptHoldoff x d s).lc = s.lc ∧
    (declAdoptHoldoff x d s).peers = s.peers ∧ (declAdoptHoldoff x d s).tau = s.tau ∧ (declAdoptHoldoff x d s).si = s.si ∧
    (declAdoptHoldoff x d s).td = s.td ∧ (declAdoptHoldoff x d s).bm = s.bm ∧ (declAdoptHoldoff x d s).hc = s.hc ∧
    (declAdoptHoldoff x d s).twm = s.twm ∧ (declAdoptHoldoff x d s).cs = s.cs ∧
    (declAdoptHoldoff x d s).freeDrawn = s.freeDrawn := by
  simp only [declAdoptHoldoff]; (repeat' split) <;> simp

@[simp] theorem declAdoptNew_leaves (d : DeclBody) (s : State) :
    (declAdoptNew d s).pending = s.pending ∧ (declAdoptNew d s).pins = s.pins ∧ (declAdoptNew d s).tb = s.tb ∧
    (declAdoptNew d s).rmu = s.rmu ∧ (declAdoptNew d s).lc = s.lc ∧ (declAdoptNew d s).peers = s.peers ∧
    (declAdoptNew d s).tau = s.tau ∧ (declAdoptNew d s).si = s.si ∧ (declAdoptNew d s).td = s.td ∧
    (declAdoptNew d s).bm = s.bm ∧ (declAdoptNew d s).hc = s.hc ∧ (declAdoptNew d s).twm = s.twm ∧
    (declAdoptNew d s).cs = s.cs ∧ (declAdoptNew d s).freeDrawn = s.freeDrawn := by
  simp only [declAdoptNew]
  split
  · simp
  · rename_i t h
    have := makePlace_leaves _ _ _ h
    simp [this]

@[simp] theorem foldMergeParts_leaves (rid : Nat) (xs : List Part) (s : State) :
    (xs.foldl (fun s p => mergePart rid p.station p.onset p.peak s) s).pending = s.pending ∧
    (xs.foldl (fun s p => mergePart rid p.station p.onset p.peak s) s).pins = s.pins ∧
    (xs.foldl (fun s p => mergePart rid p.station p.onset p.peak s) s).tb = s.tb ∧
    (xs.foldl (fun s p => mergePart rid p.station p.onset p.peak s) s).rmu = s.rmu ∧
    (xs.foldl (fun s p => mergePart rid p.station p.onset p.peak s) s).lc = s.lc ∧
    (xs.foldl (fun s p => mergePart rid p.station p.onset p.peak s) s).peers = s.peers ∧
    (xs.foldl (fun s p => mergePart rid p.station p.onset p.peak s) s).tau = s.tau ∧
    (xs.foldl (fun s p => mergePart rid p.station p.onset p.peak s) s).si = s.si ∧
    (xs.foldl (fun s p => mergePart rid p.station p.onset p.peak s) s).td = s.td ∧
    (xs.foldl (fun s p => mergePart rid p.station p.onset p.peak s) s).uc = s.uc ∧
    (xs.foldl (fun s p => mergePart rid p.station p.onset p.peak s) s).bm = s.bm ∧
    (xs.foldl (fun s p => mergePart rid p.station p.onset p.peak s) s).hc = s.hc ∧
    (xs.foldl (fun s p => mergePart rid p.station p.onset p.peak s) s).mc = s.mc ∧
    (xs.foldl (fun s p => mergePart rid p.station p.onset p.peak s) s).twm = s.twm ∧
    (xs.foldl (fun s p => mergePart rid p.station p.onset p.peak s) s).cs = s.cs ∧
    (xs.foldl (fun s p => mergePart rid p.station p.onset p.peak s) s).freeDrawn = s.freeDrawn := by
  induction xs generalizing s with
  | nil => simp
  | cons x xs ih => simp [ih]

@[simp] theorem conflictLost_leaves (x : EventRec) (d : DeclBody) (s : State) :
    (conflictLost x d s).pending = s.pending ∧ (conflictLost x d s).pins = s.pins ∧ (conflictLost x d s).tb = s.tb ∧
    (conflictLost x d s).rmu = s.rmu ∧ (conflictLost x d s).lc = s.lc ∧ (conflictLost x d s).peers = s.peers ∧
    (conflictLost x d s).tau = s.tau ∧ (conflictLost x d s).si = s.si ∧ (conflictLost x d s).td = s.td ∧
    (conflictLost x d s).bm = s.bm ∧ (conflictLost x d s).hc = s.hc ∧ (conflictLost x d s).twm = s.twm ∧
    (conflictLost x d s).cs = s.cs ∧ (conflictLost x d s).freeDrawn = s.freeDrawn := by
  simp only [conflictLost]
  split
  · simp
  · rename_i t h
    have := makePlace_leaves _ _ _ h
    simp [this]

@[simp] theorem conflictWon_leaves (x : EventRec) (d : DeclBody) (s : State) :
    (conflictWon x d s).pending = s.pending ∧ (conflictWon x d s).pins = s.pins ∧ (conflictWon x d s).tb = s.tb ∧
    (conflictWon x d s).rmu = s.rmu ∧ (conflictWon x d s).lc = s.lc ∧ (conflictWon x d s).peers = s.peers ∧
    (conflictWon x d s).tau = s.tau ∧ (conflictWon x d s).si = s.si ∧ (conflictWon x d s).td = s.td ∧
    (conflictWon x d s).bm = s.bm ∧ (conflictWon x d s).hc = s.hc ∧ (conflictWon x d s).twm = s.twm ∧
    (conflictWon x d s).cs = s.cs ∧ (conflictWon x d s).freeDrawn = s.freeDrawn := by
  simp only [conflictWon]; (repeat' split) <;> simp

@[simp] theorem conflictAdopted_leaves (x : EventRec) (d : DeclBody) (s : State) :
    (conflictAdopted x d s).pending = s.pending ∧ (conflictAdopted x d s).pins = s.pins ∧
    (conflictAdopted x d s).tb = s.tb ∧ (conflictAdopted x d s).rmu = s.rmu ∧ (conflictAdopted x d s).lc = s.lc ∧
    (conflictAdopted x d s).peers = s.peers ∧ (conflictAdopted x d s).tau = s.tau ∧ (conflictAdopted x d s).si = s.si ∧
    (conflictAdopted x d s).td = s.td ∧ (conflictAdopted x d s).bm = s.bm ∧ (conflictAdopted x d s).hc = s.hc ∧
    (conflictAdopted x d s).twm = s.twm ∧ (conflictAdopted x d s).cs = s.cs ∧
    (conflictAdopted x d s).freeDrawn = s.freeDrawn := by
  simp only [conflictAdopted]; (repeat' split) <;> simp

@[simp] theorem declAgainst_leaves (d : DeclBody) (s : State) :
    (declAgainst d s).pending = s.pending ∧ (declAgainst d s).pins = s.pins ∧ (declAgainst d s).tb = s.tb ∧
    (declAgainst d s).rmu = s.rmu ∧ (declAgainst d s).lc = s.lc ∧ (declAgainst d s).peers = s.peers ∧
    (declAgainst d s).tau = s.tau ∧ (declAgainst d s).si = s.si ∧ (declAgainst d s).td = s.td ∧
    (declAgainst d s).bm = s.bm ∧ (declAgainst d s).hc = s.hc ∧ (declAgainst d s).twm = s.twm ∧
    (declAgainst d s).cs = s.cs ∧ (declAgainst d s).freeDrawn = s.freeDrawn := by
  simp only [declAgainst]; (repeat' split) <;> simp

@[simp] theorem cuDeclaration_leaves (sender : Nat) (d : DeclBody) (s : State) :
    (cuDeclaration sender d s).pending = s.pending ∧ (cuDeclaration sender d s).pins = s.pins ∧
    (cuDeclaration sender d s).tb = s.tb ∧ (cuDeclaration sender d s).rmu = s.rmu ∧
    (cuDeclaration sender d s).peers = s.peers ∧ (cuDeclaration sender d s).tau = s.tau ∧
    (cuDeclaration sender d s).si = s.si ∧ (cuDeclaration sender d s).td = s.td ∧ (cuDeclaration sender d s).bm = s.bm ∧
    (cuDeclaration sender d s).hc = s.hc ∧ (cuDeclaration sender d s).twm = s.twm ∧ (cuDeclaration sender d s).cs = s.cs ∧
    (cuDeclaration sender d s).freeDrawn = s.freeDrawn := by
  simp only [cuDeclaration]; (repeat' split) <;> simp

@[simp] theorem cuDeclarationSent_leaves (rid update : Nat) (s : State) :
    (cuDeclarationSent rid update s).pending = s.pending ∧ (cuDeclarationSent rid update s).pins = s.pins ∧
    (cuDeclarationSent rid update s).tb = s.tb ∧ (cuDeclarationSent rid update s).rmu = s.rmu ∧
    (cuDeclarationSent rid update s).peers = s.peers ∧ (cuDeclarationSent rid update s).tau = s.tau ∧
    (cuDeclarationSent rid update s).si = s.si ∧ (cuDeclarationSent rid update s).td = s.td ∧
    (cuDeclarationSent rid update s).uc = s.uc ∧ (cuDeclarationSent rid update s).bm = s.bm ∧
    (cuDeclarationSent rid update s).hc = s.hc ∧ (cuDeclarationSent rid update s).mc = s.mc ∧
    (cuDeclarationSent rid update s).twm = s.twm ∧ (cuDeclarationSent rid update s).cs = s.cs ∧
    (cuDeclarationSent rid update s).counters = s.counters ∧ (cuDeclarationSent rid update s).freeDrawn = s.freeDrawn := by
  simp only [cuDeclarationSent]; (repeat' split) <;> simp

@[simp] theorem cuStep_leaves (s : State) :
    (cuStep s).pending = s.pending ∧ (cuStep s).pins = s.pins ∧ (cuStep s).tb = s.tb ∧ (cuStep s).rmu = s.rmu ∧
    (cuStep s).lc = s.lc ∧ (cuStep s).peers = s.peers ∧ (cuStep s).tau = s.tau ∧ (cuStep s).si = s.si ∧
    (cuStep s).uc = s.uc ∧ (cuStep s).bm = s.bm ∧ (cuStep s).hc = s.hc ∧ (cuStep s).mc = s.mc ∧ (cuStep s).twm = s.twm ∧
    (cuStep s).cs = s.cs ∧ (cuStep s).freeDrawn = s.freeDrawn := by
  simp only [cuStep]; (repeat' split) <;> simp

@[simp] theorem cuClear_leaves (s : State) :
    (cuClear s).pending = s.pending ∧ (cuClear s).pins = s.pins ∧ (cuClear s).tb = s.tb ∧ (cuClear s).rmu = s.rmu ∧
    (cuClear s).lc = s.lc ∧ (cuClear s).peers = s.peers ∧ (cuClear s).tau = s.tau ∧ (cuClear s).si = s.si ∧
    (cuClear s).td = s.td ∧ (cuClear s).uc = s.uc ∧ (cuClear s).bm = s.bm ∧ (cuClear s).hc = s.hc ∧ (cuClear s).mc = s.mc ∧
    (cuClear s).twm = s.twm ∧ (cuClear s).cs = s.cs ∧ (cuClear s).counters = s.counters ∧
    (cuClear s).freeDrawn = s.freeDrawn := by
  simp only [cuClear]; (repeat' split) <;> simp

@[simp] theorem cuShelter_leaves (s : State) :
    (cuShelter s).pending = s.pending ∧ (cuShelter s).pins = s.pins ∧ (cuShelter s).tb = s.tb ∧ (cuShelter s).rmu = s.rmu ∧
    (cuShelter s).lc = s.lc ∧ (cuShelter s).peers = s.peers ∧ (cuShelter s).tau = s.tau ∧ (cuShelter s).si = s.si ∧
    (cuShelter s).td = s.td ∧ (cuShelter s).uc = s.uc ∧ (cuShelter s).bm = s.bm ∧ (cuShelter s).hc = s.hc ∧
    (cuShelter s).twm = s.twm ∧ (cuShelter s).cs = s.cs ∧ (cuShelter s).counters = s.counters ∧
    (cuShelter s).freeDrawn = s.freeDrawn := by
  simp only [cuShelter]; (repeat' split) <;> simp

@[simp] theorem tdOnset_leaves (grid : StationTime) (peak : Nat) (s : State) :
    (tdOnset grid peak s).pending = s.pending ∧ (tdOnset grid peak s).pins = s.pins ∧ (tdOnset grid peak s).tb = s.tb ∧
    (tdOnset grid peak s).rmu = s.rmu ∧ (tdOnset grid peak s).peers = s.peers ∧ (tdOnset grid peak s).tau = s.tau ∧
    (tdOnset grid peak s).si = s.si ∧ (tdOnset grid peak s).bm = s.bm ∧ (tdOnset grid peak s).hc = s.hc ∧
    (tdOnset grid peak s).twm = s.twm ∧ (tdOnset grid peak s).cs = s.cs ∧ (tdOnset grid peak s).freeDrawn = s.freeDrawn := by
  simp only [tdOnset]; (repeat' split) <;> simp

@[simp] theorem tdEndReports_leaves (endAt : StationTime) (s : State) :
    (tdEndReports endAt s).pending = s.pending ∧ (tdEndReports endAt s).pins = s.pins ∧ (tdEndReports endAt s).tb = s.tb ∧
    (tdEndReports endAt s).rmu = s.rmu ∧ (tdEndReports endAt s).peers = s.peers ∧ (tdEndReports endAt s).tau = s.tau ∧
    (tdEndReports endAt s).si = s.si ∧ (tdEndReports endAt s).bm = s.bm ∧ (tdEndReports endAt s).hc = s.hc ∧
    (tdEndReports endAt s).twm = s.twm ∧ (tdEndReports endAt s).cs = s.cs ∧ (tdEndReports endAt s).freeDrawn = s.freeDrawn := by
  simp only [tdEndReports]; (repeat' split) <;> simp

@[simp] theorem tdOff_leaves (s : State) :
    (tdOff s).pending = s.pending ∧ (tdOff s).pins = s.pins ∧ (tdOff s).tb = s.tb ∧ (tdOff s).rmu = s.rmu ∧
    (tdOff s).peers = s.peers ∧ (tdOff s).tau = s.tau ∧ (tdOff s).si = s.si ∧ (tdOff s).bm = s.bm ∧ (tdOff s).hc = s.hc ∧
    (tdOff s).twm = s.twm ∧ (tdOff s).cs = s.cs ∧ (tdOff s).freeDrawn = s.freeDrawn := by
  simp only [tdOff]; (repeat' split) <;> simp

@[simp] theorem tdHold_leaves (grid : StationTime) (s : State) :
    (tdHold grid s).pending = s.pending ∧ (tdHold grid s).pins = s.pins ∧ (tdHold grid s).tb = s.tb ∧
    (tdHold grid s).rmu = s.rmu ∧ (tdHold grid s).peers = s.peers ∧ (tdHold grid s).tau = s.tau ∧
    (tdHold grid s).si = s.si ∧ (tdHold grid s).bm = s.bm ∧ (tdHold grid s).hc = s.hc ∧ (tdHold grid s).twm = s.twm ∧
    (tdHold grid s).cs = s.cs ∧ (tdHold grid s).freeDrawn = s.freeDrawn := by
  simp only [tdHold]; (repeat' split) <;> simp

@[simp] theorem tdRetrigger_leaves (s : State) :
    (tdRetrigger s).pending = s.pending ∧ (tdRetrigger s).pins = s.pins ∧ (tdRetrigger s).tb = s.tb ∧
    (tdRetrigger s).rmu = s.rmu ∧ (tdRetrigger s).lc = s.lc ∧ (tdRetrigger s).peers = s.peers ∧
    (tdRetrigger s).tau = s.tau ∧ (tdRetrigger s).si = s.si ∧ (tdRetrigger s).cu = s.cu ∧ (tdRetrigger s).uc = s.uc ∧
    (tdRetrigger s).bm = s.bm ∧ (tdRetrigger s).hc = s.hc ∧ (tdRetrigger s).mc = s.mc ∧ (tdRetrigger s).twm = s.twm ∧
    (tdRetrigger s).cs = s.cs ∧ (tdRetrigger s).freeDrawn = s.freeDrawn := by
  simp only [tdRetrigger]; (repeat' split) <;> simp

@[simp] theorem tdEvaluate_leaves (grid : StationTime) (compared : Nat) (s : State) :
    (tdEvaluate grid compared s).pending = s.pending ∧ (tdEvaluate grid compared s).pins = s.pins ∧
    (tdEvaluate grid compared s).tb = s.tb ∧ (tdEvaluate grid compared s).rmu = s.rmu ∧
    (tdEvaluate grid compared s).peers = s.peers ∧ (tdEvaluate grid compared s).tau = s.tau ∧
    (tdEvaluate grid compared s).si = s.si ∧ (tdEvaluate grid compared s).bm = s.bm ∧
    (tdEvaluate grid compared s).hc = s.hc ∧ (tdEvaluate grid compared s).twm = s.twm ∧
    (tdEvaluate grid compared s).cs = s.cs ∧ (tdEvaluate grid compared s).freeDrawn = s.freeDrawn := by
  simp only [tdEvaluate]; (repeat' split) <;> simp

@[simp] theorem tdTakeSet_leaves (grid : StationTime) (x : SampleSet) (s : State) :
    (tdTakeSet grid x s).pending = s.pending ∧ (tdTakeSet grid x s).pins = s.pins ∧ (tdTakeSet grid x s).tb = s.tb ∧
    (tdTakeSet grid x s).rmu = s.rmu ∧ (tdTakeSet grid x s).peers = s.peers ∧ (tdTakeSet grid x s).tau = s.tau ∧
    (tdTakeSet grid x s).si = s.si ∧ (tdTakeSet grid x s).bm = s.bm ∧ (tdTakeSet grid x s).hc = s.hc ∧
    (tdTakeSet grid x s).twm = s.twm ∧ (tdTakeSet grid x s).cs = s.cs ∧ (tdTakeSet grid x s).freeDrawn = s.freeDrawn := by
  simp only [tdTakeSet]; (repeat' split) <;> simp

@[simp] theorem tdStart_leaves (s : State) :
    (tdStart s).pending = s.pending ∧ (tdStart s).pins = s.pins ∧ (tdStart s).tb = s.tb ∧ (tdStart s).rmu = s.rmu ∧
    (tdStart s).lc = s.lc ∧ (tdStart s).peers = s.peers ∧ (tdStart s).tau = s.tau ∧ (tdStart s).si = s.si ∧
    (tdStart s).cu = s.cu ∧ (tdStart s).uc = s.uc ∧ (tdStart s).bm = s.bm ∧ (tdStart s).hc = s.hc ∧
    (tdStart s).twm = s.twm ∧ (tdStart s).cs = s.cs ∧ (tdStart s).counters = s.counters ∧
    (tdStart s).freeDrawn = s.freeDrawn := by
  simp only [tdStart]; (repeat' split) <;> simp

@[simp] theorem tdStop_leaves (s : State) :
    (tdStop s).pending = s.pending ∧ (tdStop s).pins = s.pins ∧ (tdStop s).tb = s.tb ∧ (tdStop s).rmu = s.rmu ∧
    (tdStop s).peers = s.peers ∧ (tdStop s).tau = s.tau ∧ (tdStop s).si = s.si ∧ (tdStop s).bm = s.bm ∧
    (tdStop s).hc = s.hc ∧ (tdStop s).twm = s.twm ∧ (tdStop s).cs = s.cs ∧ (tdStop s).freeDrawn = s.freeDrawn := by
  simp only [tdStop]; (repeat' split) <;> simp

@[simp] theorem tdHoldExpiry_leaves (s : State) :
    (tdHoldExpiry s).pending = s.pending ∧ (tdHoldExpiry s).pins = s.pins ∧ (tdHoldExpiry s).tb = s.tb ∧
    (tdHoldExpiry s).rmu = s.rmu ∧ (tdHoldExpiry s).peers = s.peers ∧ (tdHoldExpiry s).tau = s.tau ∧
    (tdHoldExpiry s).si = s.si ∧ (tdHoldExpiry s).bm = s.bm ∧ (tdHoldExpiry s).hc = s.hc ∧ (tdHoldExpiry s).twm = s.twm ∧
    (tdHoldExpiry s).cs = s.cs ∧ (tdHoldExpiry s).freeDrawn = s.freeDrawn := by
  simp only [tdHoldExpiry]; (repeat' split) <;> simp

@[simp] theorem tdOverlong_leaves (s : State) :
    (tdOverlong s).pending = s.pending ∧ (tdOverlong s).pins = s.pins ∧ (tdOverlong s).tb = s.tb ∧
    (tdOverlong s).rmu = s.rmu ∧ (tdOverlong s).lc = s.lc ∧ (tdOverlong s).peers = s.peers ∧ (tdOverlong s).tau = s.tau ∧
    (tdOverlong s).si = s.si ∧ (tdOverlong s).cu = s.cu ∧ (tdOverlong s).uc = s.uc ∧ (tdOverlong s).bm = s.bm ∧
    (tdOverlong s).hc = s.hc ∧ (tdOverlong s).mc = s.mc ∧ (tdOverlong s).twm = s.twm ∧ (tdOverlong s).cs = s.cs ∧
    (tdOverlong s).freeDrawn = s.freeDrawn := by
  simp only [tdOverlong]; (repeat' split) <;> simp

@[simp] theorem rmuMove_leaves (st : RmuState) (cause : Option Elapsed) (s : State) :
    (rmuMove st cause s).pending = s.pending ∧ (rmuMove st cause s).pins = s.pins ∧ (rmuMove st cause s).tb = s.tb ∧
    (rmuMove st cause s).lc = s.lc ∧ (rmuMove st cause s).peers = s.peers ∧ (rmuMove st cause s).tau = s.tau ∧
    (rmuMove st cause s).si = s.si ∧ (rmuMove st cause s).td = s.td ∧ (rmuMove st cause s).cu = s.cu ∧
    (rmuMove st cause s).uc = s.uc ∧ (rmuMove st cause s).bm = s.bm ∧ (rmuMove st cause s).hc = s.hc ∧
    (rmuMove st cause s).mc = s.mc ∧ (rmuMove st cause s).twm = s.twm ∧ (rmuMove st cause s).cs = s.cs ∧
    (rmuMove st cause s).counters = s.counters ∧ (rmuMove st cause s).freeDrawn = s.freeDrawn := by
  simp only [rmuMove]; (repeat' split) <;> simp

@[simp] theorem rmuAcquire_leaves (cause : Option Elapsed) (s : State) :
    (rmuAcquire cause s).pending = s.pending ∧ (rmuAcquire cause s).pins = s.pins ∧ (rmuAcquire cause s).tb = s.tb ∧
    (rmuAcquire cause s).lc = s.lc ∧ (rmuAcquire cause s).peers = s.peers ∧ (rmuAcquire cause s).tau = s.tau ∧
    (rmuAcquire cause s).si = s.si ∧ (rmuAcquire cause s).td = s.td ∧ (rmuAcquire cause s).cu = s.cu ∧
    (rmuAcquire cause s).uc = s.uc ∧ (rmuAcquire cause s).bm = s.bm ∧ (rmuAcquire cause s).hc = s.hc ∧
    (rmuAcquire cause s).mc = s.mc ∧ (rmuAcquire cause s).twm = s.twm ∧ (rmuAcquire cause s).cs = s.cs ∧
    (rmuAcquire cause s).counters = s.counters ∧ (rmuAcquire cause s).freeDrawn = s.freeDrawn := by
  simp only [rmuAcquire]; (repeat' split) <;> simp

@[simp] theorem rmuLock_leaves (offset : Int) (cause : Option Elapsed) (s : State) :
    (rmuLock offset cause s).pending = s.pending ∧ (rmuLock offset cause s).pins = s.pins ∧
    (rmuLock offset cause s).lc = s.lc ∧ (rmuLock offset cause s).peers = s.peers ∧ (rmuLock offset cause s).tau = s.tau ∧
    (rmuLock offset cause s).si = s.si ∧ (rmuLock offset cause s).td = s.td ∧ (rmuLock offset cause s).cu = s.cu ∧
    (rmuLock offset cause s).uc = s.uc ∧ (rmuLock offset cause s).bm = s.bm ∧ (rmuLock offset cause s).hc = s.hc ∧
    (rmuLock offset cause s).mc = s.mc ∧ (rmuLock offset cause s).twm = s.twm ∧ (rmuLock offset cause s).cs = s.cs ∧
    (rmuLock offset cause s).counters = s.counters ∧ (rmuLock offset cause s).freeDrawn = s.freeDrawn := by
  simp only [rmuLock]; (repeat' split) <;> simp

@[simp] theorem rmuUnlock_leaves (cause : Option Elapsed) (s : State) :
    (rmuUnlock cause s).pending = s.pending ∧ (rmuUnlock cause s).pins = s.pins ∧ (rmuUnlock cause s).lc = s.lc ∧
    (rmuUnlock cause s).peers = s.peers ∧ (rmuUnlock cause s).tau = s.tau ∧ (rmuUnlock cause s).si = s.si ∧
    (rmuUnlock cause s).td = s.td ∧ (rmuUnlock cause s).cu = s.cu ∧ (rmuUnlock cause s).uc = s.uc ∧
    (rmuUnlock cause s).bm = s.bm ∧ (rmuUnlock cause s).hc = s.hc ∧ (rmuUnlock cause s).mc = s.mc ∧
    (rmuUnlock cause s).twm = s.twm ∧ (rmuUnlock cause s).cs = s.cs ∧ (rmuUnlock cause s).counters = s.counters ∧
    (rmuUnlock cause s).freeDrawn = s.freeDrawn := by
  simp only [rmuUnlock]; (repeat' split) <;> simp

@[simp] theorem rmuAbsent_leaves (s : State) :
    (rmuAbsent s).pending = s.pending ∧ (rmuAbsent s).pins = s.pins ∧ (rmuAbsent s).tb = s.tb ∧ (rmuAbsent s).lc = s.lc ∧
    (rmuAbsent s).peers = s.peers ∧ (rmuAbsent s).tau = s.tau ∧ (rmuAbsent s).si = s.si ∧ (rmuAbsent s).td = s.td ∧
    (rmuAbsent s).cu = s.cu ∧ (rmuAbsent s).uc = s.uc ∧ (rmuAbsent s).bm = s.bm ∧ (rmuAbsent s).hc = s.hc ∧
    (rmuAbsent s).mc = s.mc ∧ (rmuAbsent s).twm = s.twm ∧ (rmuAbsent s).cs = s.cs ∧ (rmuAbsent s).counters = s.counters ∧
    (rmuAbsent s).freeDrawn = s.freeDrawn := by
  simp only [rmuAbsent]; (repeat' split) <;> simp

@[simp] theorem countVerdict_leaves (v : Verdict) (s : State) :
    (countVerdict v s).pending = s.pending ∧ (countVerdict v s).pins = s.pins ∧ (countVerdict v s).tb = s.tb ∧
    (countVerdict v s).rmu = s.rmu ∧ (countVerdict v s).lc = s.lc ∧ (countVerdict v s).peers = s.peers ∧
    (countVerdict v s).tau = s.tau ∧ (countVerdict v s).si = s.si ∧ (countVerdict v s).td = s.td ∧
    (countVerdict v s).cu = s.cu ∧ (countVerdict v s).uc = s.uc ∧ (countVerdict v s).bm = s.bm ∧
    (countVerdict v s).hc = s.hc ∧ (countVerdict v s).mc = s.mc ∧ (countVerdict v s).twm = s.twm ∧
    (countVerdict v s).cs = s.cs ∧ (countVerdict v s).freeDrawn = s.freeDrawn := by
  simp only [countVerdict]; (repeat' split) <;> simp

@[simp] theorem rmuVerdict_leaves (v : Verdict) (cause : Option Elapsed) (s : State) :
    (rmuVerdict v cause s).pending = s.pending ∧ (rmuVerdict v cause s).pins = s.pins ∧ (rmuVerdict v cause s).lc = s.lc ∧
    (rmuVerdict v cause s).peers = s.peers ∧ (rmuVerdict v cause s).tau = s.tau ∧ (rmuVerdict v cause s).si = s.si ∧
    (rmuVerdict v cause s).td = s.td ∧ (rmuVerdict v cause s).cu = s.cu ∧ (rmuVerdict v cause s).uc = s.uc ∧
    (rmuVerdict v cause s).bm = s.bm ∧ (rmuVerdict v cause s).hc = s.hc ∧ (rmuVerdict v cause s).mc = s.mc ∧
    (rmuVerdict v cause s).twm = s.twm ∧ (rmuVerdict v cause s).cs = s.cs ∧ (rmuVerdict v cause s).freeDrawn = s.freeDrawn := by
  simp only [rmuVerdict]; (repeat' split) <;> simp

@[simp] theorem closeOpenMark_leaves (s : State) :
    (closeOpenMark s).pending = s.pending ∧ (closeOpenMark s).pins = s.pins ∧ (closeOpenMark s).lc = s.lc ∧
    (closeOpenMark s).peers = s.peers ∧ (closeOpenMark s).tau = s.tau ∧ (closeOpenMark s).si = s.si ∧
    (closeOpenMark s).td = s.td ∧ (closeOpenMark s).cu = s.cu ∧ (closeOpenMark s).uc = s.uc ∧ (closeOpenMark s).bm = s.bm ∧
    (closeOpenMark s).hc = s.hc ∧ (closeOpenMark s).mc = s.mc ∧ (closeOpenMark s).cs = s.cs ∧
    (closeOpenMark s).freeDrawn = s.freeDrawn := by
  simp only [closeOpenMark]; (repeat' split) <;> simp

@[simp] theorem rmuEdge_leaves (s : State) :
    (rmuEdge s).pending = s.pending ∧ (rmuEdge s).pins = s.pins ∧ (rmuEdge s).lc = s.lc ∧ (rmuEdge s).peers = s.peers ∧
    (rmuEdge s).tau = s.tau ∧ (rmuEdge s).si = s.si ∧ (rmuEdge s).td = s.td ∧ (rmuEdge s).cu = s.cu ∧
    (rmuEdge s).uc = s.uc ∧ (rmuEdge s).bm = s.bm ∧ (rmuEdge s).hc = s.hc ∧ (rmuEdge s).mc = s.mc ∧ (rmuEdge s).cs = s.cs ∧
    (rmuEdge s).freeDrawn = s.freeDrawn := by
  simp only [rmuEdge]; (repeat' split) <;> simp

@[simp] theorem rmuReadEnd_leaves (r : TwEnd 5) (s : State) :
    (rmuReadEnd r s).pending = s.pending ∧ (rmuReadEnd r s).pins = s.pins ∧ (rmuReadEnd r s).lc = s.lc ∧
    (rmuReadEnd r s).peers = s.peers ∧ (rmuReadEnd r s).tau = s.tau ∧ (rmuReadEnd r s).si = s.si ∧
    (rmuReadEnd r s).td = s.td ∧ (rmuReadEnd r s).cu = s.cu ∧ (rmuReadEnd r s).uc = s.uc ∧ (rmuReadEnd r s).bm = s.bm ∧
    (rmuReadEnd r s).hc = s.hc ∧ (rmuReadEnd r s).mc = s.mc ∧ (rmuReadEnd r s).twm = s.twm ∧ (rmuReadEnd r s).cs = s.cs ∧
    (rmuReadEnd r s).freeDrawn = s.freeDrawn := by
  simp only [rmuReadEnd]; (repeat' split) <;> simp

@[simp] theorem rmuExpectation_leaves (s : State) :
    (rmuExpectation s).pending = s.pending ∧ (rmuExpectation s).pins = s.pins ∧ (rmuExpectation s).lc = s.lc ∧
    (rmuExpectation s).peers = s.peers ∧ (rmuExpectation s).tau = s.tau ∧ (rmuExpectation s).si = s.si ∧
    (rmuExpectation s).td = s.td ∧ (rmuExpectation s).cu = s.cu ∧ (rmuExpectation s).uc = s.uc ∧
    (rmuExpectation s).bm = s.bm ∧ (rmuExpectation s).hc = s.hc ∧ (rmuExpectation s).mc = s.mc ∧
    (rmuExpectation s).twm = s.twm ∧ (rmuExpectation s).cs = s.cs ∧ (rmuExpectation s).freeDrawn = s.freeDrawn := by
  simp only [rmuExpectation]; (repeat' split) <;> simp

@[simp] theorem rmuSleep_leaves (s : State) :
    (rmuSleep s).pending = s.pending ∧ (rmuSleep s).pins = s.pins ∧ (rmuSleep s).lc = s.lc ∧ (rmuSleep s).peers = s.peers ∧
    (rmuSleep s).tau = s.tau ∧ (rmuSleep s).si = s.si ∧ (rmuSleep s).td = s.td ∧ (rmuSleep s).cu = s.cu ∧
    (rmuSleep s).uc = s.uc ∧ (rmuSleep s).bm = s.bm ∧ (rmuSleep s).hc = s.hc ∧ (rmuSleep s).mc = s.mc ∧
    (rmuSleep s).cs = s.cs ∧ (rmuSleep s).freeDrawn = s.freeDrawn := by
  simp only [rmuSleep]; (repeat' split) <;> simp

@[simp] theorem rmuWake_leaves (s : State) :
    (rmuWake s).pending = s.pending ∧ (rmuWake s).pins = s.pins ∧ (rmuWake s).tb = s.tb ∧ (rmuWake s).lc = s.lc ∧
    (rmuWake s).peers = s.peers ∧ (rmuWake s).tau = s.tau ∧ (rmuWake s).si = s.si ∧ (rmuWake s).td = s.td ∧
    (rmuWake s).cu = s.cu ∧ (rmuWake s).uc = s.uc ∧ (rmuWake s).bm = s.bm ∧ (rmuWake s).hc = s.hc ∧ (rmuWake s).mc = s.mc ∧
    (rmuWake s).twm = s.twm ∧ (rmuWake s).cs = s.cs ∧ (rmuWake s).counters = s.counters ∧
    (rmuWake s).freeDrawn = s.freeDrawn := by
  simp only [rmuWake]; (repeat' split) <;> simp

@[simp] theorem rmuStep_leaves (a : Int) (s : State) :
    (rmuStep a s).pending = s.pending ∧ (rmuStep a s).pins = s.pins ∧ (rmuStep a s).tb = s.tb ∧ (rmuStep a s).lc = s.lc ∧
    (rmuStep a s).peers = s.peers ∧ (rmuStep a s).tau = s.tau ∧ (rmuStep a s).si = s.si ∧ (rmuStep a s).td = s.td ∧
    (rmuStep a s).cu = s.cu ∧ (rmuStep a s).uc = s.uc ∧ (rmuStep a s).bm = s.bm ∧ (rmuStep a s).hc = s.hc ∧
    (rmuStep a s).mc = s.mc ∧ (rmuStep a s).twm = s.twm ∧ (rmuStep a s).cs = s.cs ∧ (rmuStep a s).counters = s.counters ∧
    (rmuStep a s).freeDrawn = s.freeDrawn := by
  simp only [rmuStep]; (repeat' split) <;> simp

@[simp] theorem countMissing_leaves (n : Nat) (g : GridSlot) (s : State) :
    (countMissing n g s).pending = s.pending ∧ (countMissing n g s).pins = s.pins ∧ (countMissing n g s).tb = s.tb ∧
    (countMissing n g s).rmu = s.rmu ∧ (countMissing n g s).lc = s.lc ∧ (countMissing n g s).peers = s.peers ∧
    (countMissing n g s).tau = s.tau ∧ (countMissing n g s).td = s.td ∧ (countMissing n g s).cu = s.cu ∧
    (countMissing n g s).uc = s.uc ∧ (countMissing n g s).bm = s.bm ∧ (countMissing n g s).hc = s.hc ∧
    (countMissing n g s).mc = s.mc ∧ (countMissing n g s).twm = s.twm ∧ (countMissing n g s).cs = s.cs ∧
    (countMissing n g s).freeDrawn = s.freeDrawn := by
  simp only [countMissing]; (repeat' split) <;> simp

@[simp] theorem closeWindows_leaves (s : State) :
    (closeWindows s).pending = s.pending ∧ (closeWindows s).pins = s.pins ∧ (closeWindows s).tb = s.tb ∧
    (closeWindows s).rmu = s.rmu ∧ (closeWindows s).lc = s.lc ∧ (closeWindows s).peers = s.peers ∧
    (closeWindows s).tau = s.tau ∧ (closeWindows s).td = s.td ∧ (closeWindows s).cu = s.cu ∧ (closeWindows s).uc = s.uc ∧
    (closeWindows s).bm = s.bm ∧ (closeWindows s).hc = s.hc ∧ (closeWindows s).mc = s.mc ∧ (closeWindows s).twm = s.twm ∧
    (closeWindows s).cs = s.cs ∧ (closeWindows s).freeDrawn = s.freeDrawn := by
  simp only [closeWindows]; (repeat' split) <;> simp

@[simp] theorem closeOneWindow_leaves (s : State) :
    (closeOneWindow s).pending = s.pending ∧ (closeOneWindow s).pins = s.pins ∧ (closeOneWindow s).tb = s.tb ∧
    (closeOneWindow s).rmu = s.rmu ∧ (closeOneWindow s).lc = s.lc ∧ (closeOneWindow s).peers = s.peers ∧
    (closeOneWindow s).tau = s.tau ∧ (closeOneWindow s).td = s.td ∧ (closeOneWindow s).cu = s.cu ∧
    (closeOneWindow s).uc = s.uc ∧ (closeOneWindow s).bm = s.bm ∧ (closeOneWindow s).hc = s.hc ∧
    (closeOneWindow s).mc = s.mc ∧ (closeOneWindow s).twm = s.twm ∧ (closeOneWindow s).cs = s.cs ∧
    (closeOneWindow s).freeDrawn = s.freeDrawn := by
  simp only [closeOneWindow]; (repeat' split) <;> simp

@[simp] theorem handOver_leaves (grid : StationTime) (x : SampleSet) (s : State) :
    (handOver grid x s).pending = s.pending ∧ (handOver grid x s).pins = s.pins ∧ (handOver grid x s).tb = s.tb ∧
    (handOver grid x s).rmu = s.rmu ∧ (handOver grid x s).peers = s.peers ∧ (handOver grid x s).tau = s.tau ∧
    (handOver grid x s).bm = s.bm ∧ (handOver grid x s).hc = s.hc ∧ (handOver grid x s).twm = s.twm ∧
    (handOver grid x s).cs = s.cs ∧ (handOver grid x s).freeDrawn = s.freeDrawn := by
  simp only [handOver]; (repeat' split) <;> simp

@[simp] theorem onGrid_leaves (g : GridSlot) (x : SampleSet) (s : State) :
    (onGrid g x s).pending = s.pending ∧ (onGrid g x s).pins = s.pins ∧ (onGrid g x s).tb = s.tb ∧
    (onGrid g x s).rmu = s.rmu ∧ (onGrid g x s).peers = s.peers ∧ (onGrid g x s).tau = s.tau ∧ (onGrid g x s).bm = s.bm ∧
    (onGrid g x s).hc = s.hc ∧ (onGrid g x s).twm = s.twm ∧ (onGrid g x s).cs = s.cs ∧
    (onGrid g x s).freeDrawn = s.freeDrawn := by
  simp only [onGrid]; (repeat' split) <;> simp

@[simp] theorem offGrid_leaves (s : State) :
    (offGrid s).pending = s.pending ∧ (offGrid s).pins = s.pins ∧ (offGrid s).tb = s.tb ∧ (offGrid s).rmu = s.rmu ∧
    (offGrid s).lc = s.lc ∧ (offGrid s).peers = s.peers ∧ (offGrid s).tau = s.tau ∧ (offGrid s).td = s.td ∧
    (offGrid s).cu = s.cu ∧ (offGrid s).uc = s.uc ∧ (offGrid s).bm = s.bm ∧ (offGrid s).hc = s.hc ∧ (offGrid s).mc = s.mc ∧
    (offGrid s).twm = s.twm ∧ (offGrid s).cs = s.cs ∧ (offGrid s).freeDrawn = s.freeDrawn := by
  simp only [offGrid]; (repeat' split) <;> simp

@[simp] theorem judgeSet_leaves (x : SampleSet) (s : State) :
    (judgeSet x s).pending = s.pending ∧ (judgeSet x s).pins = s.pins ∧ (judgeSet x s).tb = s.tb ∧
    (judgeSet x s).rmu = s.rmu ∧ (judgeSet x s).peers = s.peers ∧ (judgeSet x s).tau = s.tau ∧ (judgeSet x s).bm = s.bm ∧
    (judgeSet x s).hc = s.hc ∧ (judgeSet x s).twm = s.twm ∧ (judgeSet x s).cs = s.cs ∧
    (judgeSet x s).freeDrawn = s.freeDrawn := by
  simp only [judgeSet]; (repeat' split) <;> simp

@[simp] theorem startSet_leaves (bit : Bool) (s : State) :
    (startSet bit s).pending = s.pending ∧ (startSet bit s).pins = s.pins ∧ (startSet bit s).tb = s.tb ∧
    (startSet bit s).rmu = s.rmu ∧ (startSet bit s).lc = s.lc ∧ (startSet bit s).peers = s.peers ∧
    (startSet bit s).tau = s.tau ∧ (startSet bit s).td = s.td ∧ (startSet bit s).cu = s.cu ∧ (startSet bit s).uc = s.uc ∧
    (startSet bit s).bm = s.bm ∧ (startSet bit s).hc = s.hc ∧ (startSet bit s).mc = s.mc ∧ (startSet bit s).twm = s.twm ∧
    (startSet bit s).cs = s.cs ∧ (startSet bit s).freeDrawn = s.freeDrawn := by
  simp only [startSet]; (repeat' split) <;> simp

@[simp] theorem addBit_leaves (bit : Bool) (s : State) :
    (addBit bit s).pending = s.pending ∧ (addBit bit s).pins = s.pins ∧ (addBit bit s).tb = s.tb ∧
    (addBit bit s).rmu = s.rmu ∧ (addBit bit s).lc = s.lc ∧ (addBit bit s).peers = s.peers ∧ (addBit bit s).tau = s.tau ∧
    (addBit bit s).td = s.td ∧ (addBit bit s).cu = s.cu ∧ (addBit bit s).uc = s.uc ∧ (addBit bit s).bm = s.bm ∧
    (addBit bit s).hc = s.hc ∧ (addBit bit s).mc = s.mc ∧ (addBit bit s).twm = s.twm ∧ (addBit bit s).cs = s.cs ∧
    (addBit bit s).counters = s.counters ∧ (addBit bit s).freeDrawn = s.freeDrawn := by
  simp [addBit]

@[simp] theorem takeSet_leaves (s : State) :
    (takeSet s).pending = s.pending ∧ (takeSet s).pins = s.pins ∧ (takeSet s).tb = s.tb ∧
    (takeSet s).rmu = s.rmu ∧ (takeSet s).peers = s.peers ∧ (takeSet s).tau = s.tau ∧
    (takeSet s).bm = s.bm ∧ (takeSet s).hc = s.hc ∧ (takeSet s).twm = s.twm ∧
    (takeSet s).cs = s.cs ∧ (takeSet s).freeDrawn = s.freeDrawn := by
  simp only [takeSet]; (repeat' split) <;> simp

@[simp] theorem siStart_leaves (s : State) :
    (siStart s).pending = s.pending ∧ (siStart s).pins = s.pins ∧ (siStart s).tb = s.tb ∧ (siStart s).rmu = s.rmu ∧
    (siStart s).lc = s.lc ∧ (siStart s).peers = s.peers ∧ (siStart s).tau = s.tau ∧ (siStart s).td = s.td ∧
    (siStart s).cu = s.cu ∧ (siStart s).uc = s.uc ∧ (siStart s).bm = s.bm ∧ (siStart s).hc = s.hc ∧ (siStart s).mc = s.mc ∧
    (siStart s).twm = s.twm ∧ (siStart s).cs = s.cs ∧ (siStart s).counters = s.counters ∧
    (siStart s).freeDrawn = s.freeDrawn := by
  simp only [siStart]; (repeat' split) <;> simp

@[simp] theorem siStop_leaves (s : State) :
    (siStop s).pending = s.pending ∧ (siStop s).pins = s.pins ∧ (siStop s).tb = s.tb ∧ (siStop s).rmu = s.rmu ∧
    (siStop s).lc = s.lc ∧ (siStop s).peers = s.peers ∧ (siStop s).tau = s.tau ∧ (siStop s).td = s.td ∧
    (siStop s).cu = s.cu ∧ (siStop s).uc = s.uc ∧ (siStop s).bm = s.bm ∧ (siStop s).hc = s.hc ∧ (siStop s).mc = s.mc ∧
    (siStop s).twm = s.twm ∧ (siStop s).cs = s.cs ∧ (siStop s).counters = s.counters ∧ (siStop s).freeDrawn = s.freeDrawn := by
  simp only [siStop]; (repeat' split) <;> simp

@[simp] theorem siStep_leaves (s : State) :
    (siStep s).pending = s.pending ∧ (siStep s).pins = s.pins ∧ (siStep s).tb = s.tb ∧ (siStep s).rmu = s.rmu ∧
    (siStep s).lc = s.lc ∧ (siStep s).peers = s.peers ∧ (siStep s).tau = s.tau ∧ (siStep s).td = s.td ∧
    (siStep s).cu = s.cu ∧ (siStep s).uc = s.uc ∧ (siStep s).bm = s.bm ∧ (siStep s).hc = s.hc ∧ (siStep s).mc = s.mc ∧
    (siStep s).twm = s.twm ∧ (siStep s).cs = s.cs ∧ (siStep s).counters = s.counters ∧ (siStep s).freeDrawn = s.freeDrawn := by
  simp only [siStep]; (repeat' split) <;> simp

@[simp] theorem siBoundary_leaves (sec : Nat) (s : State) :
    (siBoundary sec s).pending = s.pending ∧ (siBoundary sec s).pins = s.pins ∧ (siBoundary sec s).tb = s.tb ∧
    (siBoundary sec s).rmu = s.rmu ∧ (siBoundary sec s).lc = s.lc ∧ (siBoundary sec s).peers = s.peers ∧
    (siBoundary sec s).tau = s.tau ∧ (siBoundary sec s).cu = s.cu ∧ (siBoundary sec s).uc = s.uc ∧
    (siBoundary sec s).bm = s.bm ∧ (siBoundary sec s).hc = s.hc ∧ (siBoundary sec s).mc = s.mc ∧
    (siBoundary sec s).twm = s.twm ∧ (siBoundary sec s).cs = s.cs ∧ (siBoundary sec s).counters = s.counters ∧
    (siBoundary sec s).freeDrawn = s.freeDrawn := by
  simp only [siBoundary]; (repeat' split) <;> simp

@[simp] theorem updPeer_leaves (id : Nat) (f : PeerRecord → PeerRecord) (s : State) :
    (updPeer id f s).pending = s.pending ∧ (updPeer id f s).pins = s.pins ∧ (updPeer id f s).tb = s.tb ∧
    (updPeer id f s).rmu = s.rmu ∧ (updPeer id f s).lc = s.lc ∧ (updPeer id f s).tau = s.tau ∧ (updPeer id f s).si = s.si ∧
    (updPeer id f s).td = s.td ∧ (updPeer id f s).cu = s.cu ∧ (updPeer id f s).uc = s.uc ∧ (updPeer id f s).bm = s.bm ∧
    (updPeer id f s).hc = s.hc ∧ (updPeer id f s).mc = s.mc ∧ (updPeer id f s).twm = s.twm ∧ (updPeer id f s).cs = s.cs ∧
    (updPeer id f s).counters = s.counters ∧ (updPeer id f s).freeDrawn = s.freeDrawn := by
  simp only [updPeer]; (repeat' split) <;> simp

@[simp] theorem ptTake_leaves (f : HeaderFacts) (s : State) :
    (ptTake f s).pending = s.pending ∧ (ptTake f s).pins = s.pins ∧ (ptTake f s).tb = s.tb ∧ (ptTake f s).rmu = s.rmu ∧
    (ptTake f s).lc = s.lc ∧ (ptTake f s).tau = s.tau ∧ (ptTake f s).si = s.si ∧ (ptTake f s).td = s.td ∧
    (ptTake f s).cu = s.cu ∧ (ptTake f s).uc = s.uc ∧ (ptTake f s).bm = s.bm ∧ (ptTake f s).hc = s.hc ∧
    (ptTake f s).mc = s.mc ∧ (ptTake f s).twm = s.twm ∧ (ptTake f s).cs = s.cs ∧ (ptTake f s).counters = s.counters ∧
    (ptTake f s).freeDrawn = s.freeDrawn := by
  simp only [ptTake]; (repeat' split) <;> simp

@[simp] theorem ptBeacon_leaves (sender : Nat) (b : BeaconBody) (s : State) :
    (ptBeacon sender b s).pending = s.pending ∧ (ptBeacon sender b s).pins = s.pins ∧ (ptBeacon sender b s).tb = s.tb ∧
    (ptBeacon sender b s).rmu = s.rmu ∧ (ptBeacon sender b s).lc = s.lc ∧ (ptBeacon sender b s).tau = s.tau ∧
    (ptBeacon sender b s).si = s.si ∧ (ptBeacon sender b s).td = s.td ∧ (ptBeacon sender b s).cu = s.cu ∧
    (ptBeacon sender b s).uc = s.uc ∧ (ptBeacon sender b s).bm = s.bm ∧ (ptBeacon sender b s).hc = s.hc ∧
    (ptBeacon sender b s).mc = s.mc ∧ (ptBeacon sender b s).twm = s.twm ∧ (ptBeacon sender b s).cs = s.cs ∧
    (ptBeacon sender b s).counters = s.counters ∧ (ptBeacon sender b s).freeDrawn = s.freeDrawn := by
  simp only [ptBeacon]; (repeat' split) <;> simp

@[simp] theorem ptNotice_leaves (sender : Nat) (n : Notice) (s : State) :
    (ptNotice sender n s).pending = s.pending ∧ (ptNotice sender n s).pins = s.pins ∧ (ptNotice sender n s).tb = s.tb ∧
    (ptNotice sender n s).rmu = s.rmu ∧ (ptNotice sender n s).lc = s.lc ∧ (ptNotice sender n s).tau = s.tau ∧
    (ptNotice sender n s).si = s.si ∧ (ptNotice sender n s).td = s.td ∧ (ptNotice sender n s).cu = s.cu ∧
    (ptNotice sender n s).uc = s.uc ∧ (ptNotice sender n s).bm = s.bm ∧ (ptNotice sender n s).hc = s.hc ∧
    (ptNotice sender n s).mc = s.mc ∧ (ptNotice sender n s).twm = s.twm ∧ (ptNotice sender n s).cs = s.cs ∧
    (ptNotice sender n s).counters = s.counters ∧ (ptNotice sender n s).freeDrawn = s.freeDrawn := by
  simp only [ptNotice]; (repeat' split) <;> simp

@[simp] theorem ptHold_leaves (s : State) :
    (ptHold s).pending = s.pending ∧ (ptHold s).pins = s.pins ∧ (ptHold s).tb = s.tb ∧ (ptHold s).rmu = s.rmu ∧
    (ptHold s).lc = s.lc ∧ (ptHold s).tau = s.tau ∧ (ptHold s).si = s.si ∧ (ptHold s).td = s.td ∧ (ptHold s).cu = s.cu ∧
    (ptHold s).uc = s.uc ∧ (ptHold s).bm = s.bm ∧ (ptHold s).hc = s.hc ∧ (ptHold s).mc = s.mc ∧ (ptHold s).twm = s.twm ∧
    (ptHold s).cs = s.cs ∧ (ptHold s).counters = s.counters ∧ (ptHold s).freeDrawn = s.freeDrawn := by
  simp only [ptHold]; (repeat' split) <;> simp

@[simp] theorem ptResume_leaves (s : State) :
    (ptResume s).pending = s.pending ∧ (ptResume s).pins = s.pins ∧ (ptResume s).tb = s.tb ∧ (ptResume s).rmu = s.rmu ∧
    (ptResume s).lc = s.lc ∧ (ptResume s).tau = s.tau ∧ (ptResume s).si = s.si ∧ (ptResume s).td = s.td ∧
    (ptResume s).cu = s.cu ∧ (ptResume s).uc = s.uc ∧ (ptResume s).bm = s.bm ∧ (ptResume s).hc = s.hc ∧
    (ptResume s).mc = s.mc ∧ (ptResume s).twm = s.twm ∧ (ptResume s).cs = s.cs ∧ (ptResume s).counters = s.counters ∧
    (ptResume s).freeDrawn = s.freeDrawn := by
  simp only [ptResume]; (repeat' split) <;> simp

@[simp] theorem dropPeer_leaves (id : Nat) (s : State) :
    (dropPeer id s).pending = s.pending ∧ (dropPeer id s).pins = s.pins ∧ (dropPeer id s).tb = s.tb ∧
    (dropPeer id s).rmu = s.rmu ∧ (dropPeer id s).lc = s.lc ∧ (dropPeer id s).tau = s.tau ∧ (dropPeer id s).si = s.si ∧
    (dropPeer id s).td = s.td ∧ (dropPeer id s).cu = s.cu ∧ (dropPeer id s).uc = s.uc ∧ (dropPeer id s).bm = s.bm ∧
    (dropPeer id s).hc = s.hc ∧ (dropPeer id s).mc = s.mc ∧ (dropPeer id s).twm = s.twm ∧ (dropPeer id s).cs = s.cs ∧
    (dropPeer id s).counters = s.counters ∧ (dropPeer id s).freeDrawn = s.freeDrawn := by
  simp only [dropPeer]; (repeat' split) <;> simp

@[simp] theorem tauChoose_leaves (s : State) :
    (tauChoose s).pending = s.pending ∧ (tauChoose s).pins = s.pins ∧ (tauChoose s).tb = s.tb ∧ (tauChoose s).rmu = s.rmu ∧
    (tauChoose s).si = s.si ∧ (tauChoose s).td = s.td ∧ (tauChoose s).cu = s.cu ∧ (tauChoose s).uc = s.uc ∧
    (tauChoose s).bm = s.bm ∧ (tauChoose s).hc = s.hc ∧ (tauChoose s).mc = s.mc ∧ (tauChoose s).twm = s.twm ∧
    (tauChoose s).cs = s.cs ∧ (tauChoose s).counters = s.counters ∧ (tauChoose s).freeDrawn = s.freeDrawn := by
  simp only [tauChoose]; (repeat' split) <;> simp

@[simp] theorem endExchange_leaves (s : State) :
    (endExchange s).pending = s.pending ∧ (endExchange s).pins = s.pins ∧ (endExchange s).tb = s.tb ∧
    (endExchange s).rmu = s.rmu ∧ (endExchange s).peers = s.peers ∧ (endExchange s).si = s.si ∧ (endExchange s).td = s.td ∧
    (endExchange s).cu = s.cu ∧ (endExchange s).uc = s.uc ∧ (endExchange s).bm = s.bm ∧ (endExchange s).hc = s.hc ∧
    (endExchange s).mc = s.mc ∧ (endExchange s).twm = s.twm ∧ (endExchange s).cs = s.cs ∧
    (endExchange s).counters = s.counters ∧ (endExchange s).freeDrawn = s.freeDrawn := by
  simp only [endExchange]; (repeat' split) <;> simp

@[simp] theorem tauUnanswered_leaves (s : State) :
    (tauUnanswered s).pending = s.pending ∧ (tauUnanswered s).pins = s.pins ∧ (tauUnanswered s).tb = s.tb ∧
    (tauUnanswered s).rmu = s.rmu ∧ (tauUnanswered s).si = s.si ∧ (tauUnanswered s).td = s.td ∧
    (tauUnanswered s).cu = s.cu ∧ (tauUnanswered s).uc = s.uc ∧ (tauUnanswered s).bm = s.bm ∧ (tauUnanswered s).hc = s.hc ∧
    (tauUnanswered s).mc = s.mc ∧ (tauUnanswered s).twm = s.twm ∧ (tauUnanswered s).cs = s.cs ∧
    (tauUnanswered s).freeDrawn = s.freeDrawn := by
  simp only [tauUnanswered]; (repeat' split) <;> simp

@[simp] theorem tauVoid_leaves (s : State) :
    (tauVoid s).pending = s.pending ∧ (tauVoid s).pins = s.pins ∧ (tauVoid s).tb = s.tb ∧ (tauVoid s).rmu = s.rmu ∧
    (tauVoid s).si = s.si ∧ (tauVoid s).td = s.td ∧ (tauVoid s).cu = s.cu ∧ (tauVoid s).uc = s.uc ∧ (tauVoid s).bm = s.bm ∧
    (tauVoid s).hc = s.hc ∧ (tauVoid s).mc = s.mc ∧ (tauVoid s).twm = s.twm ∧ (tauVoid s).cs = s.cs ∧
    (tauVoid s).freeDrawn = s.freeDrawn := by
  simp only [tauVoid]; (repeat' split) <;> simp

@[simp] theorem tauNotSent_leaves (s : State) :
    (tauNotSent s).pending = s.pending ∧ (tauNotSent s).pins = s.pins ∧ (tauNotSent s).tb = s.tb ∧
    (tauNotSent s).rmu = s.rmu ∧ (tauNotSent s).si = s.si ∧ (tauNotSent s).td = s.td ∧ (tauNotSent s).cu = s.cu ∧
    (tauNotSent s).uc = s.uc ∧ (tauNotSent s).bm = s.bm ∧ (tauNotSent s).hc = s.hc ∧ (tauNotSent s).mc = s.mc ∧
    (tauNotSent s).twm = s.twm ∧ (tauNotSent s).cs = s.cs ∧ (tauNotSent s).freeDrawn = s.freeDrawn := by
  simp only [tauNotSent]; (repeat' split) <;> simp

@[simp] theorem tauProbeStamped_leaves (target : Nat) (t1 : Stamp) (s : State) :
    (tauProbeStamped target t1 s).pending = s.pending ∧ (tauProbeStamped target t1 s).pins = s.pins ∧
    (tauProbeStamped target t1 s).tb = s.tb ∧ (tauProbeStamped target t1 s).rmu = s.rmu ∧
    (tauProbeStamped target t1 s).lc = s.lc ∧ (tauProbeStamped target t1 s).peers = s.peers ∧
    (tauProbeStamped target t1 s).si = s.si ∧ (tauProbeStamped target t1 s).td = s.td ∧
    (tauProbeStamped target t1 s).cu = s.cu ∧ (tauProbeStamped target t1 s).uc = s.uc ∧
    (tauProbeStamped target t1 s).bm = s.bm ∧ (tauProbeStamped target t1 s).hc = s.hc ∧
    (tauProbeStamped target t1 s).mc = s.mc ∧ (tauProbeStamped target t1 s).twm = s.twm ∧
    (tauProbeStamped target t1 s).cs = s.cs ∧ (tauProbeStamped target t1 s).counters = s.counters ∧
    (tauProbeStamped target t1 s).freeDrawn = s.freeDrawn := by
  simp only [tauProbeStamped]; (repeat' split) <;> simp

@[simp] theorem tauProbe_leaves (sender : Nat) (t1 : StationTime) (t2 : RxStamp) (s : State) :
    (tauProbe sender t1 t2 s).pending = s.pending ∧ (tauProbe sender t1 t2 s).pins = s.pins ∧
    (tauProbe sender t1 t2 s).tb = s.tb ∧ (tauProbe sender t1 t2 s).rmu = s.rmu ∧
    (tauProbe sender t1 t2 s).peers = s.peers ∧ (tauProbe sender t1 t2 s).tau = s.tau ∧
    (tauProbe sender t1 t2 s).si = s.si ∧ (tauProbe sender t1 t2 s).td = s.td ∧ (tauProbe sender t1 t2 s).cu = s.cu ∧
    (tauProbe sender t1 t2 s).uc = s.uc ∧ (tauProbe sender t1 t2 s).bm = s.bm ∧ (tauProbe sender t1 t2 s).hc = s.hc ∧
    (tauProbe sender t1 t2 s).mc = s.mc ∧ (tauProbe sender t1 t2 s).twm = s.twm ∧ (tauProbe sender t1 t2 s).cs = s.cs ∧
    (tauProbe sender t1 t2 s).counters = s.counters ∧ (tauProbe sender t1 t2 s).freeDrawn = s.freeDrawn := by
  simp only [tauProbe]; (repeat' split) <;> simp

@[simp] theorem tauReply_leaves (sender : Nat) (b : ReplyBody) (t4 : RxStamp) (s : State) :
    (tauReply sender b t4 s).pending = s.pending ∧ (tauReply sender b t4 s).pins = s.pins ∧
    (tauReply sender b t4 s).tb = s.tb ∧ (tauReply sender b t4 s).rmu = s.rmu ∧ (tauReply sender b t4 s).si = s.si ∧
    (tauReply sender b t4 s).td = s.td ∧ (tauReply sender b t4 s).cu = s.cu ∧ (tauReply sender b t4 s).uc = s.uc ∧
    (tauReply sender b t4 s).bm = s.bm ∧ (tauReply sender b t4 s).hc = s.hc ∧ (tauReply sender b t4 s).mc = s.mc ∧
    (tauReply sender b t4 s).twm = s.twm ∧ (tauReply sender b t4 s).cs = s.cs ∧
    (tauReply sender b t4 s).freeDrawn = s.freeDrawn := by
  simp only [tauReply]; (repeat' split) <;> simp

@[simp] theorem tauPeerRemoved_leaves (id : Nat) (s : State) :
    (tauPeerRemoved id s).pending = s.pending ∧ (tauPeerRemoved id s).pins = s.pins ∧ (tauPeerRemoved id s).tb = s.tb ∧
    (tauPeerRemoved id s).rmu = s.rmu ∧ (tauPeerRemoved id s).si = s.si ∧ (tauPeerRemoved id s).td = s.td ∧
    (tauPeerRemoved id s).cu = s.cu ∧ (tauPeerRemoved id s).uc = s.uc ∧ (tauPeerRemoved id s).bm = s.bm ∧
    (tauPeerRemoved id s).hc = s.hc ∧ (tauPeerRemoved id s).mc = s.mc ∧ (tauPeerRemoved id s).twm = s.twm ∧
    (tauPeerRemoved id s).cs = s.cs ∧ (tauPeerRemoved id s).freeDrawn = s.freeDrawn := by
  simp only [tauPeerRemoved]; (repeat' split) <;> simp

@[simp] theorem tauBeacon_leaves (sender : Nat) (stamp : StationTime) (r : RxStamp) (s : State) :
    (tauBeacon sender stamp r s).pending = s.pending ∧ (tauBeacon sender stamp r s).pins = s.pins ∧
    (tauBeacon sender stamp r s).tb = s.tb ∧ (tauBeacon sender stamp r s).rmu = s.rmu ∧
    (tauBeacon sender stamp r s).lc = s.lc ∧ (tauBeacon sender stamp r s).tau = s.tau ∧
    (tauBeacon sender stamp r s).si = s.si ∧ (tauBeacon sender stamp r s).td = s.td ∧
    (tauBeacon sender stamp r s).cu = s.cu ∧ (tauBeacon sender stamp r s).uc = s.uc ∧
    (tauBeacon sender stamp r s).bm = s.bm ∧ (tauBeacon sender stamp r s).hc = s.hc ∧
    (tauBeacon sender stamp r s).mc = s.mc ∧ (tauBeacon sender stamp r s).twm = s.twm ∧
    (tauBeacon sender stamp r s).cs = s.cs ∧ (tauBeacon sender stamp r s).counters = s.counters ∧
    (tauBeacon sender stamp r s).freeDrawn = s.freeDrawn := by
  simp only [tauBeacon]; (repeat' split) <;> simp

@[simp] theorem clearSamples_leaves (s : State) :
    (clearSamples s).pending = s.pending ∧ (clearSamples s).pins = s.pins ∧ (clearSamples s).tb = s.tb ∧
    (clearSamples s).rmu = s.rmu ∧ (clearSamples s).lc = s.lc ∧ (clearSamples s).tau = s.tau ∧ (clearSamples s).si = s.si ∧
    (clearSamples s).td = s.td ∧ (clearSamples s).cu = s.cu ∧ (clearSamples s).uc = s.uc ∧ (clearSamples s).bm = s.bm ∧
    (clearSamples s).hc = s.hc ∧ (clearSamples s).mc = s.mc ∧ (clearSamples s).twm = s.twm ∧ (clearSamples s).cs = s.cs ∧
    (clearSamples s).counters = s.counters ∧ (clearSamples s).freeDrawn = s.freeDrawn := by
  simp only [clearSamples]; (repeat' split) <;> simp

@[simp] theorem withdrawReply_leaves (s : State) :
    (withdrawReply s).pending = s.pending ∧ (withdrawReply s).pins = s.pins ∧ (withdrawReply s).tb = s.tb ∧
    (withdrawReply s).rmu = s.rmu ∧ (withdrawReply s).peers = s.peers ∧ (withdrawReply s).tau = s.tau ∧
    (withdrawReply s).si = s.si ∧ (withdrawReply s).td = s.td ∧ (withdrawReply s).cu = s.cu ∧ (withdrawReply s).uc = s.uc ∧
    (withdrawReply s).bm = s.bm ∧ (withdrawReply s).hc = s.hc ∧ (withdrawReply s).mc = s.mc ∧
    (withdrawReply s).twm = s.twm ∧ (withdrawReply s).cs = s.cs ∧ (withdrawReply s).counters = s.counters ∧
    (withdrawReply s).freeDrawn = s.freeDrawn := by
  simp only [withdrawReply]; (repeat' split) <;> simp

@[simp] theorem stepNotice_leaves (a : Int) (s : State) :
    (stepNotice a s).pending = s.pending ∧ (stepNotice a s).pins = s.pins ∧ (stepNotice a s).tb = s.tb ∧
    (stepNotice a s).uc = s.uc ∧ (stepNotice a s).bm = s.bm ∧ (stepNotice a s).mc = s.mc ∧ (stepNotice a s).twm = s.twm ∧
    (stepNotice a s).cs = s.cs ∧ (stepNotice a s).freeDrawn = s.freeDrawn := by
  simp only [stepNotice]; (repeat' split) <;> simp

@[simp] theorem applyStep_leaves (n : Int) (s : State) :
    (applyStep n s).pending = s.pending ∧ (applyStep n s).pins = s.pins ∧ (applyStep n s).uc = s.uc ∧
    (applyStep n s).bm = s.bm ∧ (applyStep n s).mc = s.mc ∧ (applyStep n s).twm = s.twm ∧ (applyStep n s).cs = s.cs ∧
    (applyStep n s).freeDrawn = s.freeDrawn := by
  simp only [applyStep]; (repeat' split) <;> simp

@[simp] theorem setDrive_leaves (d : Drive) (s : State) :
    (setDrive d s).pending = s.pending ∧ (setDrive d s).pins = s.pins ∧ (setDrive d s).rmu = s.rmu ∧
    (setDrive d s).lc = s.lc ∧ (setDrive d s).peers = s.peers ∧ (setDrive d s).tau = s.tau ∧ (setDrive d s).si = s.si ∧
    (setDrive d s).td = s.td ∧ (setDrive d s).cu = s.cu ∧ (setDrive d s).uc = s.uc ∧ (setDrive d s).bm = s.bm ∧
    (setDrive d s).hc = s.hc ∧ (setDrive d s).mc = s.mc ∧ (setDrive d s).twm = s.twm ∧ (setDrive d s).cs = s.cs ∧
    (setDrive d s).freeDrawn = s.freeDrawn := by
  simp only [setDrive]; (repeat' split) <;> simp

@[simp] theorem steerOutcome_leaves (x : SourceSet) (out : Outcome4) (s : State) :
    (steerOutcome x out s).pending = s.pending ∧ (steerOutcome x out s).pins = s.pins ∧ (steerOutcome x out s).uc = s.uc ∧
    (steerOutcome x out s).bm = s.bm ∧ (steerOutcome x out s).mc = s.mc ∧ (steerOutcome x out s).twm = s.twm ∧
    (steerOutcome x out s).cs = s.cs ∧ (steerOutcome x out s).freeDrawn = s.freeDrawn := by
  simp only [steerOutcome]; (repeat' split) <;> simp

@[simp] theorem steerWrites_leaves (x : SourceSet) (out : Outcome4) (s : State) :
    (steerWrites x out s).pending = s.pending ∧ (steerWrites x out s).pins = s.pins ∧ (steerWrites x out s).rmu = s.rmu ∧
    (steerWrites x out s).lc = s.lc ∧ (steerWrites x out s).peers = s.peers ∧ (steerWrites x out s).tau = s.tau ∧
    (steerWrites x out s).si = s.si ∧ (steerWrites x out s).td = s.td ∧ (steerWrites x out s).cu = s.cu ∧
    (steerWrites x out s).uc = s.uc ∧ (steerWrites x out s).bm = s.bm ∧ (steerWrites x out s).hc = s.hc ∧
    (steerWrites x out s).mc = s.mc ∧ (steerWrites x out s).twm = s.twm ∧ (steerWrites x out s).cs = s.cs ∧
    (steerWrites x out s).counters = s.counters ∧ (steerWrites x out s).freeDrawn = s.freeDrawn := by
  simp only [steerWrites]; (repeat' split) <;> simp

@[simp] theorem steer_leaves (s : State) :
    (steer s).pending = s.pending ∧ (steer s).pins = s.pins ∧ (steer s).uc = s.uc ∧ (steer s).bm = s.bm ∧
    (steer s).mc = s.mc ∧ (steer s).twm = s.twm ∧ (steer s).cs = s.cs ∧ (steer s).freeDrawn = s.freeDrawn := by
  simp only [steer]; (repeat' split) <;> simp

@[simp] theorem tauStart_leaves (s : State) :
    (tauStart s).pending = s.pending ∧ (tauStart s).pins = s.pins ∧ (tauStart s).tb = s.tb ∧ (tauStart s).rmu = s.rmu ∧
    (tauStart s).lc = s.lc ∧ (tauStart s).peers = s.peers ∧ (tauStart s).si = s.si ∧ (tauStart s).td = s.td ∧
    (tauStart s).cu = s.cu ∧ (tauStart s).uc = s.uc ∧ (tauStart s).bm = s.bm ∧ (tauStart s).hc = s.hc ∧
    (tauStart s).mc = s.mc ∧ (tauStart s).twm = s.twm ∧ (tauStart s).cs = s.cs ∧ (tauStart s).counters = s.counters ∧
    (tauStart s).freeDrawn = s.freeDrawn := by
  simp only [tauStart]; (repeat' split) <;> simp

@[simp] theorem tauStop_leaves (s : State) :
    (tauStop s).pending = s.pending ∧ (tauStop s).pins = s.pins ∧ (tauStop s).tb = s.tb ∧ (tauStop s).rmu = s.rmu ∧
    (tauStop s).si = s.si ∧ (tauStop s).td = s.td ∧ (tauStop s).cu = s.cu ∧ (tauStop s).uc = s.uc ∧ (tauStop s).bm = s.bm ∧
    (tauStop s).hc = s.hc ∧ (tauStop s).mc = s.mc ∧ (tauStop s).twm = s.twm ∧ (tauStop s).cs = s.cs ∧
    (tauStop s).freeDrawn = s.freeDrawn := by
  simp only [tauStop]; (repeat' split) <;> simp

@[simp] theorem restartValues_leaves (s : State) :
    (restartValues s).pending = s.pending ∧ (restartValues s).pins = s.pins ∧ (restartValues s).freeDrawn = s.freeDrawn := by
  simp only [restartValues]; (repeat' split) <;> simp

@[simp] theorem enterLoading_leaves (s : State) :
    (enterLoading s).pending = s.pending ∧ (enterLoading s).pins = s.pins ∧ (enterLoading s).rmu = s.rmu ∧
    (enterLoading s).lc = s.lc ∧ (enterLoading s).peers = s.peers ∧ (enterLoading s).tau = s.tau ∧
    (enterLoading s).si = s.si ∧ (enterLoading s).td = s.td ∧ (enterLoading s).cu = s.cu ∧ (enterLoading s).uc = s.uc ∧
    (enterLoading s).bm = s.bm ∧ (enterLoading s).hc = s.hc ∧ (enterLoading s).counters = s.counters ∧
    (enterLoading s).freeDrawn = s.freeDrawn := by
  simp only [enterLoading]; (repeat' split) <;> simp

@[simp] theorem restart_leaves (s : State) :
    (restart s).pending = s.pending ∧ (restart s).pins = s.pins ∧ (restart s).freeDrawn = s.freeDrawn := by
  simp only [restart]; (repeat' split) <;> simp

@[simp] theorem csTakeBlock_leaves (r : TwEnd 64) (s : State) :
    (csTakeBlock r s).pending = s.pending ∧ (csTakeBlock r s).pins = s.pins ∧ (csTakeBlock r s).tb = s.tb ∧
    (csTakeBlock r s).rmu = s.rmu ∧ (csTakeBlock r s).lc = s.lc ∧ (csTakeBlock r s).peers = s.peers ∧
    (csTakeBlock r s).tau = s.tau ∧ (csTakeBlock r s).si = s.si ∧ (csTakeBlock r s).td = s.td ∧
    (csTakeBlock r s).cu = s.cu ∧ (csTakeBlock r s).uc = s.uc ∧ (csTakeBlock r s).bm = s.bm ∧ (csTakeBlock r s).hc = s.hc ∧
    (csTakeBlock r s).mc = s.mc ∧ (csTakeBlock r s).twm = s.twm ∧ (csTakeBlock r s).freeDrawn = s.freeDrawn := by
  simp only [csTakeBlock]; (repeat' split) <;> simp

@[simp] theorem formCharge_leaves (s : State) :
    (formCharge s).pending = s.pending ∧ (formCharge s).pins = s.pins ∧ (formCharge s).tb = s.tb ∧
    (formCharge s).rmu = s.rmu ∧ (formCharge s).lc = s.lc ∧ (formCharge s).peers = s.peers ∧ (formCharge s).tau = s.tau ∧
    (formCharge s).si = s.si ∧ (formCharge s).td = s.td ∧ (formCharge s).cu = s.cu ∧ (formCharge s).uc = s.uc ∧
    (formCharge s).hc = s.hc ∧ (formCharge s).mc = s.mc ∧ (formCharge s).twm = s.twm ∧ (formCharge s).cs = s.cs ∧
    (formCharge s).counters = s.counters ∧ (formCharge s).freeDrawn = s.freeDrawn := by
  simp only [formCharge]; (repeat' split) <;> simp

@[simp] theorem clearCounters_leaves (segment : Nat) (s : State) :
    (clearCounters segment s).pending = s.pending ∧ (clearCounters segment s).pins = s.pins ∧
    (clearCounters segment s).tb = s.tb ∧ (clearCounters segment s).rmu = s.rmu ∧
    (clearCounters segment s).peers = s.peers ∧ (clearCounters segment s).tau = s.tau ∧
    (clearCounters segment s).si = s.si ∧ (clearCounters segment s).td = s.td ∧ (clearCounters segment s).cu = s.cu ∧
    (clearCounters segment s).uc = s.uc ∧ (clearCounters segment s).bm = s.bm ∧ (clearCounters segment s).hc = s.hc ∧
    (clearCounters segment s).mc = s.mc ∧ (clearCounters segment s).twm = s.twm ∧ (clearCounters segment s).cs = s.cs ∧
    (clearCounters segment s).freeDrawn = s.freeDrawn := by
  simp only [clearCounters]; (repeat' split) <;> simp

@[simp] theorem csEnd_leaves (s : State) :
    (csEnd s).pending = s.pending ∧ (csEnd s).pins = s.pins ∧ (csEnd s).freeDrawn = s.freeDrawn := by
  simp only [csEnd]; (repeat' split) <;> simp

@[simp] theorem csNext_leaves (s : State) :
    (csNext s).pending = s.pending ∧ (csNext s).pins = s.pins := by
  simp only [csNext]; (repeat' split) <;> simp

@[simp] theorem csTake_leaves (code argument : Nat) (s : State) :
    (csTake code argument s).pending = s.pending ∧ (csTake code argument s).pins = s.pins := by
  simp only [csTake]; (repeat' split) <;> simp

@[simp] theorem csCompleted_leaves (current last : Bool) (s : State) :
    (csCompleted current last s).pending = s.pending ∧ (csCompleted current last s).pins = s.pins := by
  simp only [csCompleted]; (repeat' split) <;> simp

@[simp] theorem csDropped_leaves (s : State) :
    (csDropped s).pending = s.pending ∧ (csDropped s).pins = s.pins ∧ (csDropped s).freeDrawn = s.freeDrawn := by
  simp only [csDropped]; (repeat' split) <;> simp

@[simp] theorem csDropHeld_leaves (s : State) :
    (csDropHeld s).pending = s.pending ∧ (csDropHeld s).pins = s.pins ∧ (csDropHeld s).tb = s.tb ∧
    (csDropHeld s).rmu = s.rmu ∧ (csDropHeld s).lc = s.lc ∧ (csDropHeld s).peers = s.peers ∧ (csDropHeld s).tau = s.tau ∧
    (csDropHeld s).si = s.si ∧ (csDropHeld s).td = s.td ∧ (csDropHeld s).cu = s.cu ∧ (csDropHeld s).uc = s.uc ∧
    (csDropHeld s).bm = s.bm ∧ (csDropHeld s).hc = s.hc ∧ (csDropHeld s).mc = s.mc ∧ (csDropHeld s).twm = s.twm ∧
    (csDropHeld s).counters = s.counters ∧ (csDropHeld s).freeDrawn = s.freeDrawn := by
  simp only [csDropHeld]; (repeat' split) <;> simp

@[simp] theorem csReleaseHeld_leaves (s : State) :
    (csReleaseHeld s).pending = s.pending ∧ (csReleaseHeld s).pins = s.pins := by
  simp only [csReleaseHeld]; (repeat' split) <;> simp

@[simp] theorem beginTx_leaves (owner : TxOwner) (kind : FrameKind) (target : Nat) (wake muster : Bool) (body : List Byte) (s : State) :
    (beginTx owner kind target wake muster body s).pending = s.pending ∧
    (beginTx owner kind target wake muster body s).pins = s.pins ∧
    (beginTx owner kind target wake muster body s).tb = s.tb ∧ (beginTx owner kind target wake muster body s).rmu = s.rmu ∧
    (beginTx owner kind target wake muster body s).peers = s.peers ∧
    (beginTx owner kind target wake muster body s).tau = s.tau ∧ (beginTx owner kind target wake muster body s).si = s.si ∧
    (beginTx owner kind target wake muster body s).td = s.td ∧ (beginTx owner kind target wake muster body s).cu = s.cu ∧
    (beginTx owner kind target wake muster body s).uc = s.uc ∧ (beginTx owner kind target wake muster body s).bm = s.bm ∧
    (beginTx owner kind target wake muster body s).hc = s.hc ∧ (beginTx owner kind target wake muster body s).mc = s.mc ∧
    (beginTx owner kind target wake muster body s).twm = s.twm ∧ (beginTx owner kind target wake muster body s).cs = s.cs ∧
    (beginTx owner kind target wake muster body s).counters = s.counters ∧
    (beginTx owner kind target wake muster body s).freeDrawn = s.freeDrawn := by
  simp only [beginTx]; (repeat' split) <;> simp

@[simp] theorem startDeclaration_leaves (r : EventRec) (s : State) :
    (startDeclaration r s).pending = s.pending ∧ (startDeclaration r s).pins = s.pins ∧ (startDeclaration r s).tb = s.tb ∧
    (startDeclaration r s).rmu = s.rmu ∧ (startDeclaration r s).peers = s.peers ∧ (startDeclaration r s).tau = s.tau ∧
    (startDeclaration r s).si = s.si ∧ (startDeclaration r s).td = s.td ∧ (startDeclaration r s).uc = s.uc ∧
    (startDeclaration r s).bm = s.bm ∧ (startDeclaration r s).hc = s.hc ∧ (startDeclaration r s).mc = s.mc ∧
    (startDeclaration r s).twm = s.twm ∧ (startDeclaration r s).cs = s.cs ∧ (startDeclaration r s).counters = s.counters ∧
    (startDeclaration r s).freeDrawn = s.freeDrawn := by
  simp only [startDeclaration]; (repeat' split) <;> simp

@[simp] theorem startNotice_leaves (q : NoticeReq) (s : State) :
    (startNotice q s).pending = s.pending ∧ (startNotice q s).pins = s.pins ∧ (startNotice q s).tb = s.tb ∧
    (startNotice q s).rmu = s.rmu ∧ (startNotice q s).peers = s.peers ∧ (startNotice q s).tau = s.tau ∧
    (startNotice q s).si = s.si ∧ (startNotice q s).td = s.td ∧ (startNotice q s).cu = s.cu ∧ (startNotice q s).uc = s.uc ∧
    (startNotice q s).bm = s.bm ∧ (startNotice q s).hc = s.hc ∧ (startNotice q s).mc = s.mc ∧
    (startNotice q s).twm = s.twm ∧ (startNotice q s).cs = s.cs ∧ (startNotice q s).counters = s.counters ∧
    (startNotice q s).freeDrawn = s.freeDrawn := by
  simp only [startNotice]; (repeat' split) <;> simp

@[simp] theorem startReply_leaves (q : ReplyReq) (s : State) :
    (startReply q s).pending = s.pending ∧ (startReply q s).pins = s.pins ∧ (startReply q s).tb = s.tb ∧
    (startReply q s).rmu = s.rmu ∧ (startReply q s).peers = s.peers ∧ (startReply q s).tau = s.tau ∧
    (startReply q s).si = s.si ∧ (startReply q s).td = s.td ∧ (startReply q s).cu = s.cu ∧ (startReply q s).uc = s.uc ∧
    (startReply q s).bm = s.bm ∧ (startReply q s).hc = s.hc ∧ (startReply q s).mc = s.mc ∧ (startReply q s).twm = s.twm ∧
    (startReply q s).cs = s.cs ∧ (startReply q s).counters = s.counters ∧ (startReply q s).freeDrawn = s.freeDrawn := by
  simp only [startReply]; (repeat' split) <;> simp

@[simp] theorem startProbe_leaves (q : ProbeReq) (s : State) :
    (startProbe q s).pending = s.pending ∧ (startProbe q s).pins = s.pins ∧ (startProbe q s).tb = s.tb ∧
    (startProbe q s).rmu = s.rmu ∧ (startProbe q s).peers = s.peers ∧ (startProbe q s).tau = s.tau ∧
    (startProbe q s).si = s.si ∧ (startProbe q s).td = s.td ∧ (startProbe q s).cu = s.cu ∧ (startProbe q s).uc = s.uc ∧
    (startProbe q s).bm = s.bm ∧ (startProbe q s).hc = s.hc ∧ (startProbe q s).mc = s.mc ∧ (startProbe q s).twm = s.twm ∧
    (startProbe q s).cs = s.cs ∧ (startProbe q s).counters = s.counters ∧ (startProbe q s).freeDrawn = s.freeDrawn := by
  simp only [startProbe]; (repeat' split) <;> simp

@[simp] theorem startBeacon_leaves (q : BeaconReq) (s : State) :
    (startBeacon q s).pending = s.pending ∧ (startBeacon q s).pins = s.pins ∧ (startBeacon q s).tb = s.tb ∧
    (startBeacon q s).rmu = s.rmu ∧ (startBeacon q s).peers = s.peers ∧ (startBeacon q s).tau = s.tau ∧
    (startBeacon q s).si = s.si ∧ (startBeacon q s).td = s.td ∧ (startBeacon q s).cu = s.cu ∧ (startBeacon q s).uc = s.uc ∧
    (startBeacon q s).bm = s.bm ∧ (startBeacon q s).hc = s.hc ∧ (startBeacon q s).twm = s.twm ∧
    (startBeacon q s).cs = s.cs ∧ (startBeacon q s).freeDrawn = s.freeDrawn := by
  simp only [startBeacon]; (repeat' split) <;> simp

@[simp] theorem startReport_leaves (q : ReportReq) (s : State) :
    (startReport q s).pending = s.pending ∧ (startReport q s).pins = s.pins ∧ (startReport q s).tb = s.tb ∧
    (startReport q s).rmu = s.rmu ∧ (startReport q s).peers = s.peers ∧ (startReport q s).tau = s.tau ∧
    (startReport q s).si = s.si ∧ (startReport q s).td = s.td ∧ (startReport q s).cu = s.cu ∧ (startReport q s).uc = s.uc ∧
    (startReport q s).bm = s.bm ∧ (startReport q s).hc = s.hc ∧ (startReport q s).mc = s.mc ∧
    (startReport q s).twm = s.twm ∧ (startReport q s).cs = s.cs ∧ (startReport q s).counters = s.counters ∧
    (startReport q s).freeDrawn = s.freeDrawn := by
  simp only [startReport]; (repeat' split) <;> simp

@[simp] theorem arbitrateRest_leaves (s : State) :
    (arbitrateRest s).pending = s.pending ∧ (arbitrateRest s).pins = s.pins ∧ (arbitrateRest s).tb = s.tb ∧
    (arbitrateRest s).rmu = s.rmu ∧ (arbitrateRest s).peers = s.peers ∧ (arbitrateRest s).tau = s.tau ∧
    (arbitrateRest s).si = s.si ∧ (arbitrateRest s).td = s.td ∧ (arbitrateRest s).cu = s.cu ∧ (arbitrateRest s).uc = s.uc ∧
    (arbitrateRest s).bm = s.bm ∧ (arbitrateRest s).hc = s.hc ∧ (arbitrateRest s).twm = s.twm ∧
    (arbitrateRest s).cs = s.cs ∧ (arbitrateRest s).freeDrawn = s.freeDrawn := by
  simp only [arbitrateRest]; (repeat' split) <;> simp

@[simp] theorem startTransmission_leaves (s : State) :
    (startTransmission s).pending = s.pending ∧ (startTransmission s).pins = s.pins ∧ (startTransmission s).tb = s.tb ∧
    (startTransmission s).rmu = s.rmu ∧ (startTransmission s).peers = s.peers ∧ (startTransmission s).tau = s.tau ∧
    (startTransmission s).si = s.si ∧ (startTransmission s).td = s.td ∧ (startTransmission s).uc = s.uc ∧
    (startTransmission s).bm = s.bm ∧ (startTransmission s).hc = s.hc ∧ (startTransmission s).twm = s.twm ∧
    (startTransmission s).cs = s.cs ∧ (startTransmission s).freeDrawn = s.freeDrawn := by
  simp only [startTransmission]; (repeat' split) <;> simp

@[simp] theorem enterGuard_leaves (s : State) :
    (enterGuard s).pending = s.pending ∧ (enterGuard s).pins = s.pins ∧ (enterGuard s).tb = s.tb ∧
    (enterGuard s).rmu = s.rmu ∧ (enterGuard s).peers = s.peers ∧ (enterGuard s).tau = s.tau ∧ (enterGuard s).si = s.si ∧
    (enterGuard s).td = s.td ∧ (enterGuard s).uc = s.uc ∧ (enterGuard s).bm = s.bm ∧ (enterGuard s).hc = s.hc ∧
    (enterGuard s).twm = s.twm ∧ (enterGuard s).cs = s.cs ∧ (enterGuard s).freeDrawn = s.freeDrawn := by
  simp only [enterGuard]; (repeat' split) <;> simp

@[simp] theorem lcKick_leaves (s : State) :
    (lcKick s).pending = s.pending ∧ (lcKick s).pins = s.pins ∧ (lcKick s).tb = s.tb ∧ (lcKick s).rmu = s.rmu ∧
    (lcKick s).peers = s.peers ∧ (lcKick s).tau = s.tau ∧ (lcKick s).si = s.si ∧ (lcKick s).td = s.td ∧
    (lcKick s).uc = s.uc ∧ (lcKick s).bm = s.bm ∧ (lcKick s).hc = s.hc ∧ (lcKick s).twm = s.twm ∧ (lcKick s).cs = s.cs ∧
    (lcKick s).freeDrawn = s.freeDrawn := by
  simp only [lcKick]; (repeat' split) <;> simp

@[simp] theorem drawBackoff_leaves (s : State) :
    (drawBackoff s).pending = s.pending ∧ (drawBackoff s).pins = s.pins ∧ (drawBackoff s).tb = s.tb ∧
    (drawBackoff s).rmu = s.rmu ∧ (drawBackoff s).peers = s.peers ∧ (drawBackoff s).tau = s.tau ∧
    (drawBackoff s).si = s.si ∧ (drawBackoff s).td = s.td ∧ (drawBackoff s).cu = s.cu ∧ (drawBackoff s).uc = s.uc ∧
    (drawBackoff s).bm = s.bm ∧ (drawBackoff s).hc = s.hc ∧ (drawBackoff s).mc = s.mc ∧ (drawBackoff s).twm = s.twm ∧
    (drawBackoff s).cs = s.cs ∧ (drawBackoff s).freeDrawn = s.freeDrawn := by
  simp only [drawBackoff]; (repeat' split) <;> simp

@[simp] theorem carrierRise_leaves (s : State) :
    (carrierRise s).pending = s.pending ∧ (carrierRise s).pins = s.pins ∧ (carrierRise s).tb = s.tb ∧
    (carrierRise s).rmu = s.rmu ∧ (carrierRise s).peers = s.peers ∧ (carrierRise s).tau = s.tau ∧
    (carrierRise s).si = s.si ∧ (carrierRise s).td = s.td ∧ (carrierRise s).cu = s.cu ∧ (carrierRise s).uc = s.uc ∧
    (carrierRise s).bm = s.bm ∧ (carrierRise s).hc = s.hc ∧ (carrierRise s).mc = s.mc ∧ (carrierRise s).twm = s.twm ∧
    (carrierRise s).cs = s.cs ∧ (carrierRise s).counters = s.counters ∧ (carrierRise s).freeDrawn = s.freeDrawn := by
  simp only [carrierRise]; (repeat' split) <;> simp

@[simp] theorem stampFrame_leaves (f : TxFrame) (s : State) :
    (stampFrame f s).pending = s.pending ∧ (stampFrame f s).pins = s.pins ∧ (stampFrame f s).tb = s.tb ∧
    (stampFrame f s).rmu = s.rmu ∧ (stampFrame f s).peers = s.peers ∧ (stampFrame f s).si = s.si ∧
    (stampFrame f s).td = s.td ∧ (stampFrame f s).cu = s.cu ∧ (stampFrame f s).uc = s.uc ∧ (stampFrame f s).bm = s.bm ∧
    (stampFrame f s).hc = s.hc ∧ (stampFrame f s).mc = s.mc ∧ (stampFrame f s).twm = s.twm ∧ (stampFrame f s).cs = s.cs ∧
    (stampFrame f s).counters = s.counters ∧ (stampFrame f s).freeDrawn = s.freeDrawn := by
  simp only [stampFrame]; (repeat' split) <;> simp

@[simp] theorem seedRandom_leaves (s : State) :
    (seedRandom s).pending = s.pending ∧ (seedRandom s).pins = s.pins ∧ (seedRandom s).tb = s.tb ∧
    (seedRandom s).rmu = s.rmu ∧ (seedRandom s).peers = s.peers ∧ (seedRandom s).tau = s.tau ∧ (seedRandom s).si = s.si ∧
    (seedRandom s).td = s.td ∧ (seedRandom s).cu = s.cu ∧ (seedRandom s).uc = s.uc ∧ (seedRandom s).bm = s.bm ∧
    (seedRandom s).hc = s.hc ∧ (seedRandom s).mc = s.mc ∧ (seedRandom s).twm = s.twm ∧ (seedRandom s).cs = s.cs ∧
    (seedRandom s).counters = s.counters ∧ (seedRandom s).freeDrawn = s.freeDrawn := by
  simp only [seedRandom]; (repeat' split) <;> simp

@[simp] theorem firstBeaconDelay_leaves (s : State) :
    (firstBeaconDelay s).pending = s.pending ∧ (firstBeaconDelay s).pins = s.pins ∧ (firstBeaconDelay s).tb = s.tb ∧
    (firstBeaconDelay s).rmu = s.rmu ∧ (firstBeaconDelay s).peers = s.peers ∧ (firstBeaconDelay s).tau = s.tau ∧
    (firstBeaconDelay s).si = s.si ∧ (firstBeaconDelay s).td = s.td ∧ (firstBeaconDelay s).cu = s.cu ∧
    (firstBeaconDelay s).uc = s.uc ∧ (firstBeaconDelay s).bm = s.bm ∧ (firstBeaconDelay s).hc = s.hc ∧
    (firstBeaconDelay s).mc = s.mc ∧ (firstBeaconDelay s).twm = s.twm ∧ (firstBeaconDelay s).cs = s.cs ∧
    (firstBeaconDelay s).counters = s.counters ∧ (firstBeaconDelay s).freeDrawn = s.freeDrawn := by
  simp only [firstBeaconDelay]; (repeat' split) <;> simp

@[simp] theorem classChanged_leaves (s : State) :
    (classChanged s).pending = s.pending ∧ (classChanged s).pins = s.pins ∧ (classChanged s).tb = s.tb ∧
    (classChanged s).rmu = s.rmu ∧ (classChanged s).lc = s.lc ∧ (classChanged s).peers = s.peers ∧
    (classChanged s).tau = s.tau ∧ (classChanged s).si = s.si ∧ (classChanged s).bm = s.bm ∧ (classChanged s).twm = s.twm ∧
    (classChanged s).cs = s.cs ∧ (classChanged s).freeDrawn = s.freeDrawn := by
  simp only [classChanged]; (repeat' split) <;> simp

@[simp] theorem setClass_leaves (c : BatClass) (s : State) :
    (setClass c s).pending = s.pending ∧ (setClass c s).pins = s.pins ∧ (setClass c s).tb = s.tb ∧
    (setClass c s).rmu = s.rmu ∧ (setClass c s).lc = s.lc ∧ (setClass c s).peers = s.peers ∧ (setClass c s).tau = s.tau ∧
    (setClass c s).si = s.si ∧ (setClass c s).twm = s.twm ∧ (setClass c s).cs = s.cs ∧
    (setClass c s).freeDrawn = s.freeDrawn := by
  simp only [setClass]; (repeat' split) <;> simp

@[simp] theorem batteryMissed_leaves (s : State) :
    (batteryMissed s).pending = s.pending ∧ (batteryMissed s).pins = s.pins ∧ (batteryMissed s).tb = s.tb ∧
    (batteryMissed s).rmu = s.rmu ∧ (batteryMissed s).lc = s.lc ∧ (batteryMissed s).peers = s.peers ∧
    (batteryMissed s).tau = s.tau ∧ (batteryMissed s).si = s.si ∧ (batteryMissed s).twm = s.twm ∧
    (batteryMissed s).cs = s.cs ∧ (batteryMissed s).freeDrawn = s.freeDrawn := by
  simp only [batteryMissed]; (repeat' split) <;> simp

@[simp] theorem sensorMissed_leaves (x : TempSensor) (s : State) :
    (sensorMissed x s).pending = s.pending ∧ (sensorMissed x s).pins = s.pins ∧ (sensorMissed x s).tb = s.tb ∧
    (sensorMissed x s).rmu = s.rmu ∧ (sensorMissed x s).lc = s.lc ∧ (sensorMissed x s).peers = s.peers ∧
    (sensorMissed x s).tau = s.tau ∧ (sensorMissed x s).si = s.si ∧ (sensorMissed x s).td = s.td ∧
    (sensorMissed x s).cu = s.cu ∧ (sensorMissed x s).uc = s.uc ∧ (sensorMissed x s).hc = s.hc ∧
    (sensorMissed x s).mc = s.mc ∧ (sensorMissed x s).twm = s.twm ∧ (sensorMissed x s).cs = s.cs ∧
    (sensorMissed x s).counters = s.counters ∧ (sensorMissed x s).freeDrawn = s.freeDrawn := by
  simp only [sensorMissed]; (repeat' split) <;> simp

@[simp] theorem sensorOverrun_leaves (x : TempSensor) (s : State) :
    (sensorOverrun x s).pending = s.pending ∧ (sensorOverrun x s).pins = s.pins ∧ (sensorOverrun x s).tb = s.tb ∧
    (sensorOverrun x s).rmu = s.rmu ∧ (sensorOverrun x s).lc = s.lc ∧ (sensorOverrun x s).peers = s.peers ∧
    (sensorOverrun x s).tau = s.tau ∧ (sensorOverrun x s).si = s.si ∧ (sensorOverrun x s).td = s.td ∧
    (sensorOverrun x s).cu = s.cu ∧ (sensorOverrun x s).uc = s.uc ∧ (sensorOverrun x s).hc = s.hc ∧
    (sensorOverrun x s).mc = s.mc ∧ (sensorOverrun x s).twm = s.twm ∧ (sensorOverrun x s).cs = s.cs ∧
    (sensorOverrun x s).freeDrawn = s.freeDrawn := by
  simp only [sensorOverrun]; (repeat' split) <;> simp

@[simp] theorem makePoll_leaves (s : State) :
    (makePoll s).pending = s.pending ∧ (makePoll s).pins = s.pins ∧ (makePoll s).tb = s.tb ∧ (makePoll s).rmu = s.rmu ∧
    (makePoll s).lc = s.lc ∧ (makePoll s).peers = s.peers ∧ (makePoll s).tau = s.tau ∧ (makePoll s).si = s.si ∧
    (makePoll s).cs = s.cs ∧ (makePoll s).freeDrawn = s.freeDrawn := by
  simp only [makePoll, pollDevice]
  generalize (State.pollPeriod _) = p
  (repeat' split) <;> simp

@[simp] theorem pollModeChange_leaves (s : State) :
    (pollModeChange s).pending = s.pending ∧ (pollModeChange s).pins = s.pins ∧ (pollModeChange s).tb = s.tb ∧
    (pollModeChange s).rmu = s.rmu ∧ (pollModeChange s).lc = s.lc ∧ (pollModeChange s).peers = s.peers ∧
    (pollModeChange s).tau = s.tau ∧ (pollModeChange s).si = s.si ∧ (pollModeChange s).cs = s.cs ∧
    (pollModeChange s).freeDrawn = s.freeDrawn := by
  simp only [pollModeChange]; (repeat' split) <;> simp

@[simp] theorem pollTimerStart_leaves (s : State) :
    (pollTimerStart s).pending = s.pending ∧ (pollTimerStart s).pins = s.pins ∧ (pollTimerStart s).tb = s.tb ∧
    (pollTimerStart s).rmu = s.rmu ∧ (pollTimerStart s).lc = s.lc ∧ (pollTimerStart s).peers = s.peers ∧
    (pollTimerStart s).tau = s.tau ∧ (pollTimerStart s).si = s.si ∧ (pollTimerStart s).td = s.td ∧
    (pollTimerStart s).cu = s.cu ∧ (pollTimerStart s).uc = s.uc ∧ (pollTimerStart s).hc = s.hc ∧
    (pollTimerStart s).mc = s.mc ∧ (pollTimerStart s).twm = s.twm ∧ (pollTimerStart s).cs = s.cs ∧
    (pollTimerStart s).counters = s.counters ∧ (pollTimerStart s).freeDrawn = s.freeDrawn := by
  simp only [pollTimerStart]; (repeat' split) <;> simp

@[simp] theorem pollLeaves_leaves (s : State) :
    (pollLeaves s).pending = s.pending ∧ (pollLeaves s).pins = s.pins ∧ (pollLeaves s).tb = s.tb ∧
    (pollLeaves s).rmu = s.rmu ∧ (pollLeaves s).lc = s.lc ∧ (pollLeaves s).peers = s.peers ∧ (pollLeaves s).tau = s.tau ∧
    (pollLeaves s).si = s.si ∧ (pollLeaves s).td = s.td ∧ (pollLeaves s).cu = s.cu ∧ (pollLeaves s).uc = s.uc ∧
    (pollLeaves s).bm = s.bm ∧ (pollLeaves s).hc = s.hc ∧ (pollLeaves s).twm = s.twm ∧ (pollLeaves s).cs = s.cs ∧
    (pollLeaves s).counters = s.counters ∧ (pollLeaves s).freeDrawn = s.freeDrawn := by
  simp only [pollLeaves]; (repeat' split) <;> simp

@[simp] theorem entryWorkLeaves_leaves (s : State) :
    (entryWorkLeaves s).pending = s.pending ∧ (entryWorkLeaves s).pins = s.pins ∧ (entryWorkLeaves s).tb = s.tb ∧
    (entryWorkLeaves s).rmu = s.rmu ∧ (entryWorkLeaves s).lc = s.lc ∧ (entryWorkLeaves s).peers = s.peers ∧
    (entryWorkLeaves s).tau = s.tau ∧ (entryWorkLeaves s).si = s.si ∧ (entryWorkLeaves s).td = s.td ∧
    (entryWorkLeaves s).cu = s.cu ∧ (entryWorkLeaves s).uc = s.uc ∧ (entryWorkLeaves s).bm = s.bm ∧
    (entryWorkLeaves s).hc = s.hc ∧ (entryWorkLeaves s).twm = s.twm ∧ (entryWorkLeaves s).cs = s.cs ∧
    (entryWorkLeaves s).counters = s.counters ∧ (entryWorkLeaves s).freeDrawn = s.freeDrawn := by
  simp only [entryWorkLeaves]; (repeat' split) <;> simp

@[simp] theorem goodPoll_leaves (r : Reading) (s : State) :
    (goodPoll r s).pending = s.pending ∧ (goodPoll r s).pins = s.pins ∧ (goodPoll r s).tb = s.tb ∧
    (goodPoll r s).rmu = s.rmu ∧ (goodPoll r s).lc = s.lc ∧ (goodPoll r s).peers = s.peers ∧ (goodPoll r s).tau = s.tau ∧
    (goodPoll r s).si = s.si ∧ (goodPoll r s).twm = s.twm ∧ (goodPoll r s).cs = s.cs ∧
    (goodPoll r s).freeDrawn = s.freeDrawn := by
  simp only [goodPoll]; (repeat' split) <;> simp

@[simp] theorem bmBattery_leaves (r : TwEnd 6) (s : State) :
    (bmBattery r s).pending = s.pending ∧ (bmBattery r s).pins = s.pins ∧ (bmBattery r s).tb = s.tb ∧
    (bmBattery r s).rmu = s.rmu ∧ (bmBattery r s).lc = s.lc ∧ (bmBattery r s).peers = s.peers ∧
    (bmBattery r s).tau = s.tau ∧ (bmBattery r s).si = s.si ∧ (bmBattery r s).twm = s.twm ∧ (bmBattery r s).cs = s.cs ∧
    (bmBattery r s).freeDrawn = s.freeDrawn := by
  simp only [bmBattery]; (repeat' split) <;> simp

@[simp] theorem sensorGood_leaves (x : TempSensor) (t : Int) (s : State) :
    (sensorGood x t s).pending = s.pending ∧ (sensorGood x t s).pins = s.pins ∧ (sensorGood x t s).tb = s.tb ∧
    (sensorGood x t s).rmu = s.rmu ∧ (sensorGood x t s).lc = s.lc ∧ (sensorGood x t s).peers = s.peers ∧
    (sensorGood x t s).tau = s.tau ∧ (sensorGood x t s).si = s.si ∧ (sensorGood x t s).cu = s.cu ∧
    (sensorGood x t s).uc = s.uc ∧ (sensorGood x t s).mc = s.mc ∧ (sensorGood x t s).twm = s.twm ∧
    (sensorGood x t s).cs = s.cs ∧ (sensorGood x t s).freeDrawn = s.freeDrawn := by
  simp only [sensorGood]; (repeat' split) <;> simp

@[simp] theorem bmTemperature_leaves (x : TempSensor) (r : TwEnd 2) (s : State) :
    (bmTemperature x r s).pending = s.pending ∧ (bmTemperature x r s).pins = s.pins ∧ (bmTemperature x r s).tb = s.tb ∧
    (bmTemperature x r s).rmu = s.rmu ∧ (bmTemperature x r s).lc = s.lc ∧ (bmTemperature x r s).peers = s.peers ∧
    (bmTemperature x r s).tau = s.tau ∧ (bmTemperature x r s).si = s.si ∧ (bmTemperature x r s).cu = s.cu ∧
    (bmTemperature x r s).uc = s.uc ∧ (bmTemperature x r s).mc = s.mc ∧ (bmTemperature x r s).twm = s.twm ∧
    (bmTemperature x r s).cs = s.cs ∧ (bmTemperature x r s).freeDrawn = s.freeDrawn := by
  simp only [bmTemperature]; (repeat' split) <;> simp

@[simp] theorem setStanding_leaves (x : Standing) (s : State) :
    (setStanding x s).pending = s.pending ∧ (setStanding x s).pins = s.pins ∧ (setStanding x s).tb = s.tb ∧
    (setStanding x s).rmu = s.rmu ∧ (setStanding x s).lc = s.lc ∧ (setStanding x s).peers = s.peers ∧
    (setStanding x s).tau = s.tau ∧ (setStanding x s).si = s.si ∧ (setStanding x s).td = s.td ∧
    (setStanding x s).cu = s.cu ∧ (setStanding x s).uc = s.uc ∧ (setStanding x s).bm = s.bm ∧ (setStanding x s).hc = s.hc ∧
    (setStanding x s).twm = s.twm ∧ (setStanding x s).cs = s.cs ∧ (setStanding x s).counters = s.counters ∧
    (setStanding x s).freeDrawn = s.freeDrawn := by
  simp only [setStanding]; (repeat' split) <;> simp

@[simp] theorem syncOsc_leaves (s : State) :
    (syncOsc s).pending = s.pending ∧ (syncOsc s).pins = s.pins ∧ (syncOsc s).tb = s.tb ∧ (syncOsc s).rmu = s.rmu ∧
    (syncOsc s).lc = s.lc ∧ (syncOsc s).peers = s.peers ∧ (syncOsc s).tau = s.tau ∧ (syncOsc s).si = s.si ∧
    (syncOsc s).td = s.td ∧ (syncOsc s).cu = s.cu ∧ (syncOsc s).uc = s.uc ∧ (syncOsc s).bm = s.bm ∧ (syncOsc s).hc = s.hc ∧
    (syncOsc s).twm = s.twm ∧ (syncOsc s).cs = s.cs ∧ (syncOsc s).counters = s.counters ∧
    (syncOsc s).freeDrawn = s.freeDrawn := by
  simp only [syncOsc]; (repeat' split) <;> simp

@[simp] theorem joinEntryWork_leaves (s : State) :
    (joinEntryWork s).pending = s.pending ∧ (joinEntryWork s).pins = s.pins ∧ (joinEntryWork s).tb = s.tb ∧
    (joinEntryWork s).rmu = s.rmu ∧ (joinEntryWork s).lc = s.lc ∧ (joinEntryWork s).peers = s.peers ∧
    (joinEntryWork s).tau = s.tau ∧ (joinEntryWork s).si = s.si ∧ (joinEntryWork s).td = s.td ∧
    (joinEntryWork s).cu = s.cu ∧ (joinEntryWork s).uc = s.uc ∧ (joinEntryWork s).bm = s.bm ∧ (joinEntryWork s).hc = s.hc ∧
    (joinEntryWork s).twm = s.twm ∧ (joinEntryWork s).cs = s.cs ∧ (joinEntryWork s).counters = s.counters ∧
    (joinEntryWork s).freeDrawn = s.freeDrawn := by
  simp only [joinEntryWork]; (repeat' split) <;> simp

@[simp] theorem wakeHoldStart_leaves (s : State) :
    (wakeHoldStart s).pending = s.pending ∧ (wakeHoldStart s).pins = s.pins ∧ (wakeHoldStart s).tb = s.tb ∧
    (wakeHoldStart s).rmu = s.rmu ∧ (wakeHoldStart s).lc = s.lc ∧ (wakeHoldStart s).peers = s.peers ∧
    (wakeHoldStart s).tau = s.tau ∧ (wakeHoldStart s).si = s.si ∧ (wakeHoldStart s).td = s.td ∧
    (wakeHoldStart s).cu = s.cu ∧ (wakeHoldStart s).uc = s.uc ∧ (wakeHoldStart s).bm = s.bm ∧ (wakeHoldStart s).hc = s.hc ∧
    (wakeHoldStart s).twm = s.twm ∧ (wakeHoldStart s).cs = s.cs ∧ (wakeHoldStart s).counters = s.counters ∧
    (wakeHoldStart s).freeDrawn = s.freeDrawn := by
  simp only [wakeHoldStart]; (repeat' split) <;> simp

@[simp] theorem changeAwake_leaves (x : Standing) (s : State) :
    (changeAwake x s).pending = s.pending ∧ (changeAwake x s).pins = s.pins ∧ (changeAwake x s).rmu = s.rmu ∧
    (changeAwake x s).lc = s.lc ∧ (changeAwake x s).peers = s.peers ∧ (changeAwake x s).tau = s.tau ∧
    (changeAwake x s).si = s.si ∧ (changeAwake x s).cs = s.cs ∧ (changeAwake x s).freeDrawn = s.freeDrawn := by
  simp only [changeAwake]; (repeat' split) <;> simp

@[simp] theorem receiverOn_leaves (s : State) :
    (receiverOn s).pending = s.pending ∧ (receiverOn s).pins = s.pins ∧ (receiverOn s).tb = s.tb ∧
    (receiverOn s).rmu = s.rmu ∧ (receiverOn s).peers = s.peers ∧ (receiverOn s).tau = s.tau ∧ (receiverOn s).si = s.si ∧
    (receiverOn s).td = s.td ∧ (receiverOn s).cu = s.cu ∧ (receiverOn s).uc = s.uc ∧ (receiverOn s).bm = s.bm ∧
    (receiverOn s).hc = s.hc ∧ (receiverOn s).mc = s.mc ∧ (receiverOn s).twm = s.twm ∧ (receiverOn s).cs = s.cs ∧
    (receiverOn s).counters = s.counters ∧ (receiverOn s).freeDrawn = s.freeDrawn := by
  simp only [receiverOn]; (repeat' split) <;> simp

@[simp] theorem blocksWake_leaves (s : State) :
    (blocksWake s).pending = s.pending ∧ (blocksWake s).pins = s.pins ∧ (blocksWake s).cu = s.cu ∧
    (blocksWake s).uc = s.uc ∧ (blocksWake s).bm = s.bm ∧ (blocksWake s).hc = s.hc ∧ (blocksWake s).twm = s.twm ∧
    (blocksWake s).cs = s.cs ∧ (blocksWake s).freeDrawn = s.freeDrawn := by
  simp only [blocksWake]; (repeat' split) <;> simp

@[simp] theorem enterWatching_leaves (s : State) :
    (enterWatching s).pending = s.pending ∧ (enterWatching s).pins = s.pins := by
  simp only [enterWatching]; (repeat' split) <;> simp

@[simp] theorem wakeComplete_leaves (s : State) :
    (wakeComplete s).pending = s.pending ∧ (wakeComplete s).pins = s.pins := by
  simp only [wakeComplete]; (repeat' split) <;> simp

@[simp] theorem risingComplete_leaves (s : State) :
    (risingComplete s).pending = s.pending ∧ (risingComplete s).pins = s.pins := by
  simp only [risingComplete]; (repeat' split) <;> simp

@[simp] theorem blocksSleep_leaves (s : State) :
    (blocksSleep s).pending = s.pending ∧ (blocksSleep s).pins = s.pins ∧ (blocksSleep s).bm = s.bm ∧
    (blocksSleep s).hc = s.hc ∧ (blocksSleep s).cs = s.cs ∧ (blocksSleep s).freeDrawn = s.freeDrawn := by
  simp only [blocksSleep]; (repeat' split) <;> simp

@[simp] theorem dormantEntry_leaves (s : State) :
    (dormantEntry s).pending = s.pending ∧ (dormantEntry s).pins = s.pins ∧ (dormantEntry s).freeDrawn = s.freeDrawn := by
  simp only [dormantEntry]; (repeat' split) <;> simp

@[simp] theorem beginEntry_leaves (s : State) :
    (beginEntry s).pending = s.pending ∧ (beginEntry s).pins = s.pins ∧ (beginEntry s).tb = s.tb ∧
    (beginEntry s).rmu = s.rmu ∧ (beginEntry s).peers = s.peers ∧ (beginEntry s).tau = s.tau ∧ (beginEntry s).si = s.si ∧
    (beginEntry s).td = s.td ∧ (beginEntry s).cu = s.cu ∧ (beginEntry s).uc = s.uc ∧ (beginEntry s).bm = s.bm ∧
    (beginEntry s).hc = s.hc ∧ (beginEntry s).twm = s.twm ∧ (beginEntry s).cs = s.cs ∧
    (beginEntry s).freeDrawn = s.freeDrawn := by
  simp only [beginEntry]; (repeat' split) <;> simp

@[simp] theorem unmarkBeacon_leaves (s : State) :
    (unmarkBeacon s).pending = s.pending ∧ (unmarkBeacon s).pins = s.pins ∧ (unmarkBeacon s).tb = s.tb ∧
    (unmarkBeacon s).rmu = s.rmu ∧ (unmarkBeacon s).peers = s.peers ∧ (unmarkBeacon s).tau = s.tau ∧
    (unmarkBeacon s).si = s.si ∧ (unmarkBeacon s).td = s.td ∧ (unmarkBeacon s).cu = s.cu ∧ (unmarkBeacon s).uc = s.uc ∧
    (unmarkBeacon s).bm = s.bm ∧ (unmarkBeacon s).hc = s.hc ∧ (unmarkBeacon s).mc = s.mc ∧ (unmarkBeacon s).twm = s.twm ∧
    (unmarkBeacon s).cs = s.cs ∧ (unmarkBeacon s).counters = s.counters ∧ (unmarkBeacon s).freeDrawn = s.freeDrawn := by
  simp only [unmarkBeacon]; (repeat' split) <;> simp

@[simp] theorem abandonEntry_leaves (s : State) :
    (abandonEntry s).pending = s.pending ∧ (abandonEntry s).pins = s.pins ∧ (abandonEntry s).tb = s.tb ∧
    (abandonEntry s).rmu = s.rmu ∧ (abandonEntry s).peers = s.peers ∧ (abandonEntry s).tau = s.tau ∧
    (abandonEntry s).si = s.si ∧ (abandonEntry s).td = s.td ∧ (abandonEntry s).cu = s.cu ∧ (abandonEntry s).uc = s.uc ∧
    (abandonEntry s).bm = s.bm ∧ (abandonEntry s).hc = s.hc ∧ (abandonEntry s).twm = s.twm ∧ (abandonEntry s).cs = s.cs ∧
    (abandonEntry s).freeDrawn = s.freeDrawn := by
  simp only [abandonEntry]; (repeat' split) <;> simp

@[simp] theorem localWake_leaves (s : State) :
    (localWake s).pending = s.pending ∧ (localWake s).pins = s.pins := by
  simp only [localWake]; (repeat' split) <;> simp

@[simp] theorem falseWake_leaves (s : State) :
    (falseWake s).pending = s.pending ∧ (falseWake s).pins = s.pins := by
  simp only [falseWake]; (repeat' split) <;> simp

@[simp] theorem patternWake_leaves (s : State) :
    (patternWake s).pending = s.pending ∧ (patternWake s).pins = s.pins := by
  simp only [patternWake]; (repeat' split) <;> simp

@[simp] theorem rise_leaves (s : State) :
    (rise s).pending = s.pending ∧ (rise s).pins = s.pins := by
  simp only [rise]; (repeat' split) <;> simp

@[simp] theorem becomeSheltered_leaves (s : State) :
    (becomeSheltered s).pending = s.pending ∧ (becomeSheltered s).pins = s.pins ∧
    (becomeSheltered s).freeDrawn = s.freeDrawn := by
  simp only [becomeSheltered]; (repeat' split) <;> simp

@[simp] theorem shelterEntry_leaves (s : State) :
    (shelterEntry s).pending = s.pending ∧ (shelterEntry s).pins = s.pins ∧ (shelterEntry s).freeDrawn = s.freeDrawn := by
  simp only [shelterEntry]; (repeat' split) <;> simp

@[simp] theorem abandonRising_leaves (s : State) :
    (abandonRising s).pending = s.pending ∧ (abandonRising s).pins = s.pins ∧ (abandonRising s).rmu = s.rmu ∧
    (abandonRising s).lc = s.lc ∧ (abandonRising s).peers = s.peers ∧ (abandonRising s).tau = s.tau ∧
    (abandonRising s).si = s.si ∧ (abandonRising s).td = s.td ∧ (abandonRising s).cu = s.cu ∧ (abandonRising s).uc = s.uc ∧
    (abandonRising s).bm = s.bm ∧ (abandonRising s).hc = s.hc ∧ (abandonRising s).twm = s.twm ∧
    (abandonRising s).cs = s.cs ∧ (abandonRising s).counters = s.counters ∧ (abandonRising s).freeDrawn = s.freeDrawn := by
  simp only [abandonRising]; (repeat' split) <;> simp

@[simp] theorem tryEntry_leaves (s : State) :
    (tryEntry s).pending = s.pending ∧ (tryEntry s).pins = s.pins ∧ (tryEntry s).tb = s.tb ∧ (tryEntry s).rmu = s.rmu ∧
    (tryEntry s).peers = s.peers ∧ (tryEntry s).tau = s.tau ∧ (tryEntry s).si = s.si ∧ (tryEntry s).td = s.td ∧
    (tryEntry s).cu = s.cu ∧ (tryEntry s).uc = s.uc ∧ (tryEntry s).bm = s.bm ∧ (tryEntry s).hc = s.hc ∧
    (tryEntry s).twm = s.twm ∧ (tryEntry s).cs = s.cs ∧ (tryEntry s).freeDrawn = s.freeDrawn := by
  simp only [tryEntry]; (repeat' split) <;> simp

@[simp] theorem evaluateMode_leaves (s : State) :
    (evaluateMode s).pending = s.pending ∧ (evaluateMode s).pins = s.pins := by
  simp only [evaluateMode]; (repeat' split) <;> simp

@[simp] theorem endOfStart_leaves (s : State) :
    (endOfStart s).pending = s.pending ∧ (endOfStart s).pins = s.pins ∧ (endOfStart s).freeDrawn = s.freeDrawn := by
  simp only [endOfStart]; (repeat' split) <;> simp

@[simp] theorem beaconComplete_leaves (mark : BeaconMark) (s : State) :
    (beaconComplete mark s).pending = s.pending ∧ (beaconComplete mark s).pins = s.pins ∧
    (beaconComplete mark s).freeDrawn = s.freeDrawn := by
  simp only [beaconComplete]; (repeat' split) <;> simp

@[simp] theorem mcSettleOnce_leaves (s : State) :
    (mcSettleOnce s).pending = s.pending ∧ (mcSettleOnce s).pins = s.pins := by
  simp only [mcSettleOnce]; (repeat' split) <;> simp

@[simp] theorem mcSettle_leaves (s : State) :
    (mcSettle s).pending = s.pending ∧ (mcSettle s).pins = s.pins := by
  simp only [mcSettle]; (repeat' split) <;> simp

@[simp] theorem finish_leaves (s : State) :
    (finish s).pending = s.pending ∧ (finish s).pins = s.pins := by
  simp only [finish]; (repeat' split) <;> simp

@[simp] theorem musterHeard_leaves (s : State) :
    (musterHeard s).pending = s.pending ∧ (musterHeard s).pins = s.pins ∧ (musterHeard s).tb = s.tb ∧
    (musterHeard s).rmu = s.rmu ∧ (musterHeard s).lc = s.lc ∧ (musterHeard s).peers = s.peers ∧
    (musterHeard s).tau = s.tau ∧ (musterHeard s).si = s.si ∧ (musterHeard s).td = s.td ∧ (musterHeard s).cu = s.cu ∧
    (musterHeard s).uc = s.uc ∧ (musterHeard s).bm = s.bm ∧ (musterHeard s).hc = s.hc ∧ (musterHeard s).twm = s.twm ∧
    (musterHeard s).cs = s.cs ∧ (musterHeard s).counters = s.counters ∧ (musterHeard s).freeDrawn = s.freeDrawn := by
  simp only [musterHeard]; (repeat' split) <;> simp

@[simp] theorem deliverBeacon_leaves (sender : Nat) (stamp : RxStamp) (muster : Bool) (b : BeaconBody) (s : State) :
    (deliverBeacon sender stamp muster b s).pending = s.pending ∧ (deliverBeacon sender stamp muster b s).pins = s.pins ∧
    (deliverBeacon sender stamp muster b s).tb = s.tb ∧ (deliverBeacon sender stamp muster b s).rmu = s.rmu ∧
    (deliverBeacon sender stamp muster b s).tau = s.tau ∧ (deliverBeacon sender stamp muster b s).si = s.si ∧
    (deliverBeacon sender stamp muster b s).bm = s.bm ∧ (deliverBeacon sender stamp muster b s).hc = s.hc ∧
    (deliverBeacon sender stamp muster b s).twm = s.twm ∧ (deliverBeacon sender stamp muster b s).cs = s.cs ∧
    (deliverBeacon sender stamp muster b s).freeDrawn = s.freeDrawn := by
  simp only [deliverBeacon]; (repeat' split) <;> simp

@[simp] theorem deliver_leaves (f : RxFrame) (stamp : RxStamp) (body : Body) (s : State) :
    (deliver f stamp body s).pending = s.pending ∧ (deliver f stamp body s).pins = s.pins := by
  simp only [deliver]; (repeat' split) <;> simp

@[simp] theorem acceptFrame_leaves (f : RxFrame) (stamp : RxStamp) (kind : FrameKind) (body : Body) (s : State) :
    (acceptFrame f stamp kind body s).pending = s.pending ∧ (acceptFrame f stamp kind body s).pins = s.pins := by
  simp only [acceptFrame]; (repeat' split) <;> simp

@[simp] theorem endCapture_leaves (woken : Bool) (s : State) :
    (endCapture woken s).pending = s.pending ∧ (endCapture woken s).pins = s.pins := by
  simp only [endCapture]; (repeat' split) <;> simp

@[simp] theorem takeFrame_leaves (f : RxFrame) (stamp : RxStamp) (s : State) :
    (takeFrame f stamp s).pending = s.pending ∧ (takeFrame f stamp s).pins = s.pins := by
  simp only [takeFrame]; (repeat' split) <;> simp

@[simp] theorem receiveFrame_leaves (rest : List Byte) (s : State) :
    (receiveFrame rest s).pending = s.pending ∧ (receiveFrame rest s).pins = s.pins := by
  simp only [receiveFrame]; (repeat' split) <;> simp

@[simp] theorem loadEnds_leaves (r : TwEnd 64) (s : State) :
    (loadEnds r s).pending = s.pending ∧ (loadEnds r s).pins = s.pins ∧ (loadEnds r s).tb = s.tb ∧
    (loadEnds r s).rmu = s.rmu ∧ (loadEnds r s).lc = s.lc ∧ (loadEnds r s).peers = s.peers ∧ (loadEnds r s).tau = s.tau ∧
    (loadEnds r s).si = s.si ∧ (loadEnds r s).freeDrawn = s.freeDrawn := by
  simp only [loadEnds]; (repeat' split) <;> simp

@[simp] theorem sampleLines_leaves (l : Lines) (s : State) :
    (sampleLines l s).pending = s.pending ∧ (sampleLines l s).tb = s.tb ∧ (sampleLines l s).rmu = s.rmu ∧
    (sampleLines l s).lc = s.lc ∧ (sampleLines l s).peers = s.peers ∧ (sampleLines l s).tau = s.tau ∧
    (sampleLines l s).si = s.si ∧ (sampleLines l s).td = s.td ∧ (sampleLines l s).cu = s.cu ∧ (sampleLines l s).uc = s.uc ∧
    (sampleLines l s).bm = s.bm ∧ (sampleLines l s).hc = s.hc ∧ (sampleLines l s).mc = s.mc ∧ (sampleLines l s).cs = s.cs ∧
    (sampleLines l s).freeDrawn = s.freeDrawn := by
  simp only [sampleLines]; (repeat' split) <;> simp

@[simp] theorem countCrystal_leaves (s : State) :
    (countCrystal s).pending = s.pending ∧ (countCrystal s).pins = s.pins ∧ (countCrystal s).tb = s.tb ∧
    (countCrystal s).rmu = s.rmu ∧ (countCrystal s).lc = s.lc ∧ (countCrystal s).peers = s.peers ∧
    (countCrystal s).tau = s.tau ∧ (countCrystal s).si = s.si ∧ (countCrystal s).td = s.td ∧ (countCrystal s).cu = s.cu ∧
    (countCrystal s).uc = s.uc ∧ (countCrystal s).bm = s.bm ∧ (countCrystal s).hc = s.hc ∧ (countCrystal s).twm = s.twm ∧
    (countCrystal s).cs = s.cs ∧ (countCrystal s).counters = s.counters ∧ (countCrystal s).freeDrawn = s.freeDrawn := by
  simp only [countCrystal]; (repeat' split) <;> simp

@[simp] theorem slowAdvance_leaves (s : State) :
    (slowAdvance s).pending = s.pending ∧ (slowAdvance s).pins = s.pins ∧ (slowAdvance s).rmu = s.rmu ∧
    (slowAdvance s).lc = s.lc ∧ (slowAdvance s).peers = s.peers ∧ (slowAdvance s).tau = s.tau ∧ (slowAdvance s).si = s.si ∧
    (slowAdvance s).td = s.td ∧ (slowAdvance s).cu = s.cu ∧ (slowAdvance s).uc = s.uc ∧ (slowAdvance s).bm = s.bm ∧
    (slowAdvance s).mc = s.mc ∧ (slowAdvance s).twm = s.twm ∧ (slowAdvance s).cs = s.cs ∧
    (slowAdvance s).counters = s.counters ∧ (slowAdvance s).freeDrawn = s.freeDrawn := by
  simp only [slowAdvance]; (repeat' split) <;> simp

@[simp] theorem countOsc_leaves (s : State) :
    (countOsc s).pending = s.pending ∧ (countOsc s).pins = s.pins ∧ (countOsc s).tb = s.tb ∧ (countOsc s).rmu = s.rmu ∧
    (countOsc s).lc = s.lc ∧ (countOsc s).peers = s.peers ∧ (countOsc s).tau = s.tau ∧ (countOsc s).si = s.si ∧
    (countOsc s).td = s.td ∧ (countOsc s).cu = s.cu ∧ (countOsc s).uc = s.uc ∧ (countOsc s).bm = s.bm ∧
    (countOsc s).hc = s.hc ∧ (countOsc s).twm = s.twm ∧ (countOsc s).cs = s.cs ∧ (countOsc s).counters = s.counters ∧
    (countOsc s).freeDrawn = s.freeDrawn := by
  simp only [countOsc]; (repeat' split) <;> simp

@[simp] theorem calBoundary_leaves (s : State) :
    (calBoundary s).pending = s.pending ∧ (calBoundary s).pins = s.pins ∧ (calBoundary s).rmu = s.rmu ∧
    (calBoundary s).lc = s.lc ∧ (calBoundary s).peers = s.peers ∧ (calBoundary s).tau = s.tau ∧ (calBoundary s).si = s.si ∧
    (calBoundary s).td = s.td ∧ (calBoundary s).cu = s.cu ∧ (calBoundary s).uc = s.uc ∧ (calBoundary s).bm = s.bm ∧
    (calBoundary s).hc = s.hc ∧ (calBoundary s).mc = s.mc ∧ (calBoundary s).twm = s.twm ∧ (calBoundary s).cs = s.cs ∧
    (calBoundary s).freeDrawn = s.freeDrawn := by
  simp only [calBoundary]; (repeat' split) <;> simp

@[simp] theorem fastSteadyStanding_leaves (s : State) :
    (fastSteadyStanding s).pending = s.pending ∧ (fastSteadyStanding s).pins = s.pins := by
  simp only [fastSteadyStanding]; (repeat' split) <;> simp

@[simp] theorem steerWaited_leaves (s : State) :
    (steerWaited s).pending = s.pending ∧ (steerWaited s).pins = s.pins ∧ (steerWaited s).uc = s.uc ∧
    (steerWaited s).bm = s.bm ∧ (steerWaited s).mc = s.mc ∧ (steerWaited s).twm = s.twm ∧ (steerWaited s).cs = s.cs ∧
    (steerWaited s).freeDrawn = s.freeDrawn := by
  simp only [steerWaited]; (repeat' split) <;> simp

@[simp] theorem fastWanted_leaves (s : State) :
    (fastWanted s).pending = s.pending ∧ (fastWanted s).pins = s.pins ∧ (fastWanted s).rmu = s.rmu ∧
    (fastWanted s).lc = s.lc ∧ (fastWanted s).peers = s.peers ∧ (fastWanted s).tau = s.tau ∧ (fastWanted s).si = s.si ∧
    (fastWanted s).td = s.td ∧ (fastWanted s).cu = s.cu ∧ (fastWanted s).uc = s.uc ∧ (fastWanted s).bm = s.bm ∧
    (fastWanted s).hc = s.hc ∧ (fastWanted s).mc = s.mc ∧ (fastWanted s).twm = s.twm ∧ (fastWanted s).cs = s.cs ∧
    (fastWanted s).counters = s.counters ∧ (fastWanted s).freeDrawn = s.freeDrawn := by
  simp only [fastWanted]; (repeat' split) <;> simp

@[simp] theorem reportCompletion_leaves (owner : TxOwner) (s : State) :
    (reportCompletion owner s).pending = s.pending ∧ (reportCompletion owner s).pins = s.pins := by
  simp only [reportCompletion]; (repeat' split) <;> simp

@[simp] theorem dropNotice_leaves (q : NoticeReq) (s : State) :
    (dropNotice q s).pending = s.pending ∧ (dropNotice q s).pins = s.pins ∧ (dropNotice q s).tb = s.tb ∧
    (dropNotice q s).rmu = s.rmu ∧ (dropNotice q s).peers = s.peers ∧ (dropNotice q s).tau = s.tau ∧
    (dropNotice q s).si = s.si ∧ (dropNotice q s).cu = s.cu ∧ (dropNotice q s).uc = s.uc ∧ (dropNotice q s).bm = s.bm ∧
    (dropNotice q s).hc = s.hc ∧ (dropNotice q s).mc = s.mc ∧ (dropNotice q s).twm = s.twm ∧ (dropNotice q s).cs = s.cs ∧
    (dropNotice q s).freeDrawn = s.freeDrawn := by
  simp only [dropNotice]; (repeat' split) <;> simp

@[simp] theorem staleDrop_leaves (kind : StaleKind) (s : State) :
    (staleDrop kind s).pending = s.pending ∧ (staleDrop kind s).pins = s.pins ∧ (staleDrop kind s).freeDrawn = s.freeDrawn := by
  simp only [staleDrop]; (repeat' split) <;> simp

@[simp] theorem expirePeer_leaves (id : Nat) (s : State) :
    (expirePeer id s).pending = s.pending ∧ (expirePeer id s).pins = s.pins ∧ (expirePeer id s).tb = s.tb ∧
    (expirePeer id s).rmu = s.rmu ∧ (expirePeer id s).si = s.si ∧ (expirePeer id s).td = s.td ∧
    (expirePeer id s).uc = s.uc ∧ (expirePeer id s).bm = s.bm ∧ (expirePeer id s).hc = s.hc ∧
    (expirePeer id s).twm = s.twm ∧ (expirePeer id s).cs = s.cs ∧ (expirePeer id s).freeDrawn = s.freeDrawn := by
  simp only [expirePeer]; (repeat' split) <;> simp

@[simp] theorem powerCycle_leaves (s : State) :
    (powerCycle s).pending = s.pending ∧ (powerCycle s).pins = s.pins ∧ (powerCycle s).tb = s.tb ∧
    (powerCycle s).rmu = s.rmu ∧ (powerCycle s).lc = s.lc ∧ (powerCycle s).peers = s.peers ∧ (powerCycle s).tau = s.tau ∧
    (powerCycle s).si = s.si ∧ (powerCycle s).td = s.td ∧ (powerCycle s).cu = s.cu ∧ (powerCycle s).bm = s.bm ∧
    (powerCycle s).hc = s.hc ∧ (powerCycle s).mc = s.mc ∧ (powerCycle s).twm = s.twm ∧ (powerCycle s).cs = s.cs ∧
    (powerCycle s).freeDrawn = s.freeDrawn := by
  simp only [powerCycle]; (repeat' split) <;> simp

@[simp] theorem busyFails_leaves (s : State) :
    (busyFails s).pending = s.pending ∧ (busyFails s).pins = s.pins ∧ (busyFails s).tb = s.tb ∧ (busyFails s).rmu = s.rmu ∧
    (busyFails s).lc = s.lc ∧ (busyFails s).peers = s.peers ∧ (busyFails s).tau = s.tau ∧ (busyFails s).si = s.si ∧
    (busyFails s).td = s.td ∧ (busyFails s).bm = s.bm ∧ (busyFails s).hc = s.hc ∧ (busyFails s).twm = s.twm ∧
    (busyFails s).cs = s.cs ∧ (busyFails s).freeDrawn = s.freeDrawn := by
  simp only [busyFails]; (repeat' split) <;> simp

@[simp] theorem batteryEnds_leaves (r : TwEnd 6) (s : State) :
    (batteryEnds r s).pending = s.pending ∧ (batteryEnds r s).pins = s.pins ∧ (batteryEnds r s).freeDrawn = s.freeDrawn := by
  simp only [batteryEnds]; (repeat' split) <;> simp

@[simp] theorem beginCapture_leaves (s : State) :
    (beginCapture s).pending = s.pending ∧ (beginCapture s).pins = s.pins ∧ (beginCapture s).rmu = s.rmu ∧
    (beginCapture s).peers = s.peers ∧ (beginCapture s).tau = s.tau ∧ (beginCapture s).si = s.si ∧
    (beginCapture s).td = s.td ∧ (beginCapture s).cu = s.cu ∧ (beginCapture s).uc = s.uc ∧ (beginCapture s).bm = s.bm ∧
    (beginCapture s).hc = s.hc ∧ (beginCapture s).twm = s.twm ∧ (beginCapture s).cs = s.cs ∧
    (beginCapture s).counters = s.counters ∧ (beginCapture s).freeDrawn = s.freeDrawn := by
  simp only [beginCapture]; (repeat' split) <;> simp

end Sys2Proof.Machine
end

