-- ==== Sys2Proof/Laws/Framing.lean ====
section
/-! SUPPORT. The port of the Sample Interface (R77, R78): what one edge of DIG_CLK does, what a run of them does, and that the bits of
a set read back as its ten bytes. -/
namespace Sys2Proof.Machine

/-! ## One edge -/

theorem takeBit_off (s : State) (e : PortEdge) (h : s.si.grid = .off) : takeBit s e = s := by simp [takeBit, h]

theorem takeBit_framed (s : State) (e : PortEdge) (h : s.si.grid ≠ .off) (hf : e.frm = true) :
    takeBit s e = startSet e.bit s := by simp [takeBit, h, hf]

theorem takeBit_unframed (s : State) (e : PortEdge) (hf : e.frm = false) (hi : s.si.inSet = false) : takeBit s e = s := by
  simp [takeBit, hf, hi]

theorem takeBit_inSet (s : State) (e : PortEdge) (h : s.si.grid ≠ .off) (hf : e.frm = false) (h1 : 1 ≤ s.si.bitCount)
    (h2 : s.si.bitCount < 79) : takeBit s e = addBit e.bit s := by
  have hi : s.si.inSet = true := by simp [SampleIf.inSet]; omega
  have : (addBit e.bit s).si.bitCount ≠ 80 := by simp [addBit]; omega
  simp [takeBit, h, hf, hi, this]

theorem takeBit_last (s : State) (e : PortEdge) (h : s.si.grid ≠ .off) (hf : e.frm = false) (h1 : s.si.bitCount = 79) :
    takeBit s e = finish (takeSet (addBit e.bit s)) := by
  have hi : s.si.inSet = true := by simp [SampleIf.inSet, h1]
  have : (addBit e.bit s).si.bitCount = 80 := by simp [addBit, h1]
  simp [takeBit, h, hf, hi, this]

@[simp] theorem startSet_si (b : Bool) (s : State) : (startSet b s).si = { s.si with bitCount := 1, buffer := [b] } := by
  unfold startSet bumpIf; split <;> rfl

@[simp] theorem addBit_si (b : Bool) (s : State) :
    (addBit b s).si = { s.si with bitCount := s.si.bitCount + 1, buffer := s.si.buffer ++ [b] } := rfl

/-! ## A run of edges -/

@[simp] theorem takeBits_nil (s : State) : takeBits [] s = s := rfl

@[simp] theorem takeBits_cons (e : PortEdge) (es : List PortEdge) (s : State) :
    takeBits (e :: es) s = takeBits es (takeBit s e) := rfl

theorem takeBits_append (xs ys : List PortEdge) (s : State) : takeBits (xs ++ ys) s = takeBits ys (takeBits xs s) := by
  simp [takeBits]

theorem takeBits_off (es : List PortEdge) (s : State) (h : s.si.grid = .off) : takeBits es s = s := by
  induction es with
  | nil => rfl
  | cons e es ih => rw [takeBits_cons, takeBit_off s e h, ih]

/-- In an unframed port the bits up to the next framed one are taken into no set (R77). -/
theorem takeBits_unframed (es : List PortEdge) (s : State) (hf : ∀ e ∈ es, e.frm = false) (hi : s.si.inSet = false) :
    takeBits es s = s := by
  induction es with
  | nil => rfl
  | cons e es ih =>
    rw [takeBits_cons, takeBit_unframed s e (hf e (by simp)) hi]
    exact ih (fun x hx => hf x (by simp [hx]))

/-- Unframed bits that do not reach the 80th fill the buffer of the set in progress (R77). -/
theorem takeBits_inSet (es : List PortEdge) (s : State) (h : s.si.grid ≠ .off) (hf : ∀ e ∈ es, e.frm = false)
    (h1 : 1 ≤ s.si.bitCount) (h2 : s.si.bitCount + es.length ≤ 79) :
    takeBits es s = s.setSi { s.si with
      bitCount := s.si.bitCount + es.length, buffer := s.si.buffer ++ es.map PortEdge.bit } := by
  induction es generalizing s with
  | nil => simp [State.setSi]
  | cons e es ih =>
    rw [takeBits_cons, takeBit_inSet s e h (hf e (by simp)) h1 (by simp at h2; omega)]
    rw [ih (addBit e.bit s) (by simpa using h) (fun x hx => hf x (by simp [hx])) (by simp) (by simp at h2 ⊢; omega)]
    simp [addBit, State.setSi, Nat.add_assoc, Nat.add_comm es.length 1]

/-- The run that ends a set in progress leaves it whole in the buffer, and the set is taken (R77, R82). -/
theorem takeBits_rest (es : List PortEdge) (s : State) (h : s.si.grid ≠ .off) (hf : ∀ e ∈ es, e.frm = false)
    (h1 : 1 ≤ s.si.bitCount) (h2 : s.si.bitCount + es.length = 80) (h3 : s.si.bitCount ≤ 79) :
    takeBits es s = finish (takeSet (s.setSi { s.si with bitCount := 80, buffer := s.si.buffer ++ es.map PortEdge.bit })) := by
  obtain ⟨xs, e, rfl⟩ : ∃ xs e, es = xs ++ [e] := by
    rcases List.eq_nil_or_concat es with rfl | ⟨xs, e, rfl⟩
    · simp at h2; omega
    · exact ⟨xs, e, by simp⟩
  simp at h2
  rw [takeBits_append, takeBits_inSet xs s h (fun x hx => hf x (by simp [hx])) h1 (by omega)]
  rw [takeBits_cons, takeBits_nil, takeBit_last _ e (by simpa [State.setSi] using h) (hf e (by simp)) (by simp [State.setSi]; omega)]
  have : s.si.bitCount + xs.length + 1 = 80 := by omega
  simp [addBit, State.setSi, this]

/-! ## The bytes of a set (R79) -/

theorem byteOfBits_bitsOf (b : Byte) : byteOfBits (bitsOf b) = b := by
  revert b; decide

theorem bitsOf_length (b : Byte) : (bitsOf b).length = 8 := rfl

theorem eight_bits_at (bs : List Byte) (i : Nat) (h : i < bs.length) :
    ((bs.flatMap bitsOf).drop (8 * i)).take 8 = bitsOf bs[i] := by
  induction bs generalizing i with
  | nil => simp at h
  | cons b bs ih =>
    cases i with
    | zero => simp [List.take_append, bitsOf_length]
    | succ i =>
      have : 8 * (i + 1) = 8 + 8 * i := by omega
      have h8 : (bitsOf b ++ bs.flatMap bitsOf).drop 8 = bs.flatMap bitsOf := List.drop_left' (bitsOf_length b)
      rw [List.flatMap_cons, this, ← List.drop_drop, h8]
      simpa using ih i (by simpa using h)

/-- The 80 bits of ten bytes read back as the bytes. -/
theorem setBytes_bits (set : Vector Byte 10) : setBytes (set.toList.flatMap bitsOf) = set.toList := by
  apply List.ext_getElem
  · simp [setBytes]
  · intro i h _
    have hi : i < set.toList.length := by simpa [setBytes] using h
    simp only [setBytes, List.getElem_map, List.getElem_range]
    rw [eight_bits_at _ i hi, byteOfBits_bitsOf]

/-! ## A run that completes a set -/

/-- The state at which the set of these bytes is taken: the set is whole in the buffer, and a set that the framed first bit of the run
has cut is counted (R77, R78). -/
def wholeSet (edges : List PortEdge) (set : Vector Byte 10) (s : State) : State :=
  bumpIf ((edges.map PortEdge.frm).head?.getD false && s.si.inSet) .partialSets
    (s.setSi { s.si with bitCount := 80, buffer := set.toList.flatMap bitsOf })

theorem frm_of_replicate {edges : List PortEdge} {n : Nat} (h : edges.map PortEdge.frm = List.replicate n false) :
    edges.length = n ∧ ∀ e ∈ edges, e.frm = false := by
  have := List.eq_replicate_iff.mp h
  exact ⟨by simpa using this.1, fun e he => this.2 _ (List.mem_map_of_mem he)⟩

/-- A run that completes a set takes it (R77, R82). -/
theorem takeBits_completes (edges : List PortEdge) (set : Vector Byte 10) (s : State) (h : s.si.grid ≠ .off)
    (hc : s.Completes edges set) : takeBits edges s = finish (takeSet (wholeSet edges set s)) := by
  rcases hc with ⟨hf, hb⟩ | ⟨h1, h2, h3, hf, hb⟩
  · cases edges with
    | nil => simp at hf
    | cons e es =>
      simp only [List.map_cons, List.cons.injEq] at hf
      obtain ⟨hl, hn⟩ := frm_of_replicate hf.2
      rw [takeBits_cons, takeBit_framed s e h hf.1,
        takeBits_rest es _ (by simpa using h) hn (by simp) (by simp; omega) (by simp)]
      congr 2
      simp only [List.map_cons] at hb
      simp only [wholeSet, startSet, hf.1, List.map_cons, List.head?_cons, Option.getD_some, Bool.true_and, ← hb]
      unfold bumpIf; split <;> simp [bump, State.setSi, State.setCounters, State.count]
  · obtain ⟨hl, hn⟩ := frm_of_replicate hf
    rw [takeBits_rest edges s h hn h1 (by omega) h2, hb]
    have : (edges.map PortEdge.frm).head?.getD false = false := by
      rw [hf]; cases h : 80 - s.si.bitCount <;> simp [List.replicate]
    rw [wholeSet, this]
    rfl

end Sys2Proof.Machine
end

