-- ==== Sys2Proof/Laws/Grid.lean ====
section
/-! SUPPORT. The sample grid (R82, R85): which slot `firstSlotFrom` finds, and what a set that completes after the windows of the
expected slot, and of others behind it, have ended leaves of them. -/
namespace Sys2Proof.Machine

theorem sampleRate_pos (code : Nat) : 0 < sampleRate code := by
  unfold sampleRate; split <;> decide

/-- A slot's offset within its second reaches `r` ticks from the index ⌈r · rate / 2^20⌉ on. -/
theorem reaches_from (rate index r : Nat) (h : 0 < rate) :
    r ≤ index * 1048576 / rate ↔ (r * rate + (tps - 1)) / tps ≤ index := by
  rw [Nat.le_div_iff_mul_le h]
  generalize r * rate = a
  unfold tps
  omega

/-- Slot `i` of second `q`, which for `i` = `rate` is slot 0 of the next. -/
theorem slotAt_number (rate q i : Nat) (h : 0 < rate) (hc : i ≤ rate) :
    (if i < rate then ({ sec := q, index := i } : GridSlot) else { sec := q + 1, index := 0 }).index < rate ∧
    (if i < rate then ({ sec := q, index := i } : GridSlot) else { sec := q + 1, index := 0 }).number rate = q * rate + i := by
  unfold GridSlot.number
  by_cases hi : i < rate
  · rw [if_pos hi]; exact ⟨hi, rfl⟩
  · rw [if_neg hi]; exact ⟨h, by simp only [Nat.succ_mul]; omega⟩

theorem firstSlotFrom_number (rate u : Nat) (h : 0 < rate) :
    (firstSlotFrom rate u).index < rate ∧
    (firstSlotFrom rate u).number rate = u / tps * rate + (u % tps * rate + (tps - 1)) / tps ∧
    (u % tps * rate + (tps - 1)) / tps ≤ rate := by
  have hc : (u % tps * rate + (tps - 1)) / tps ≤ rate := by
    rw [← reaches_from rate rate _ h, Nat.mul_div_cancel_left _ h]
    exact Nat.le_of_lt (Nat.mod_lt u (Nat.two_pow_pos 20))
  obtain ⟨h1, h2⟩ := slotAt_number rate (u / tps) _ h hc
  exact ⟨h1, h2, hc⟩

/-- The slots whose grid time is at least `u` are those from `firstSlotFrom rate u` on. -/
theorem firstSlotFrom_le (rate u : Nat) (h : 0 < rate) (x : GridSlot) (hx : x.index < rate) :
    u ≤ gridTime rate x ↔ (firstSlotFrom rate u).number rate ≤ x.number rate := by
  obtain ⟨-, hn, hc⟩ := firstSlotFrom_number rate u h
  rw [hn]
  have hr := reaches_from rate x.index (u % tps) h
  generalize (u % tps * rate + (tps - 1)) / tps = c at hr hc ⊢
  have hlt : x.index * 1048576 / rate < 1048576 := Nat.div_lt_of_lt_mul (Nat.mul_lt_mul_of_pos_right hx (by decide))
  unfold gridTime GridSlot.number
  generalize x.index * 1048576 / rate = d at hr hlt ⊢
  have hu := Nat.div_add_mod u tps
  have hm : u % tps < tps := Nat.mod_lt _ (by decide)
  rcases Nat.lt_trichotomy x.sec (u / tps) with hs | hs | hs
  · have := Nat.mul_le_mul_right rate (Nat.succ_le_of_lt hs)
    rw [Nat.succ_mul] at this
    unfold tps at *
    constructor <;> intro _ <;> omega
  · rw [hs]
    unfold tps at *
    constructor <;> intro hh
    · have := hr.1 (by omega); omega
    · have := hr.2 (by omega); omega
  · have := Nat.mul_le_mul_right rate (Nat.succ_le_of_lt hs)
    rw [Nat.succ_mul] at this
    unfold tps at *
    constructor <;> intro _ <;> omega

/-- Slots of one number are one slot. -/
theorem slot_of_number (rate : Nat) (a b : GridSlot) (ha : a.index < rate) (hb : b.index < rate)
    (h : a.number rate = b.number rate) : a = b := by
  unfold GridSlot.number at h
  have key (m n : GridSlot) (hn : n.index < rate) (hlt : m.sec < n.sec) (hm : m.index < rate)
      (e : m.sec * rate + m.index = n.sec * rate + n.index) : False := by
    have := Nat.mul_le_mul_right rate (Nat.succ_le_of_lt hlt)
    rw [Nat.succ_mul] at this
    omega
  rcases Nat.lt_trichotomy a.sec b.sec with hs | hs | hs
  · exact (key a b hb hs ha h).elim
  · have hi : a.index = b.index := by rw [hs] at h; omega
    cases a; cases b; simp_all
  · exact (key b a ha hs hb h.symm).elim

/-- While the expected slot's window has not ended, none closes. -/
theorem closeWindows_open (s : State) (g : GridSlot) (hg : s.si.slot = some g) (h : s.windowClosed g = false) :
    closeWindows s = s := by simp [closeWindows, hg, h]

/-- Where the windows of the expected slot and of all others before `g` have ended, and that of `g` has not, closing them counts each
of those slots missing and makes `g` the expected slot (R85). -/
theorem closeWindows_late (s : State) (g0 g : GridSlot) (h0 : s.si.slot = some g0) (hi0 : g0.index < s.rate)
    (hi : g.index < s.rate) (hlt : g0.number s.rate < g.number s.rate)
    (hclosed : ∀ x : GridSlot, x.index < s.rate → g0.number s.rate ≤ x.number s.rate → x.number s.rate < g.number s.rate →
      s.windowClosed x = true)
    (hopen : s.windowClosed g = false) :
    closeWindows s = countMissing (g.number s.rate - g0.number s.rate) g s := by
  have hr : 0 < s.rate := sampleRate_pos _
  have hg0 := hclosed g0 hi0 (Nat.le_refl _) hlt
  have hpos : s.cs.image.latency + tolerance s.rate < s.tb.time := by
    have : @LT.lt Nat _ (gridTime s.rate g0 + s.cs.image.latency + tolerance s.rate) s.tb.time := of_decide_eq_true hg0
    show @LT.lt Nat _ _ _
    omega
  have hw (x : GridSlot) : s.windowClosed x = false ↔
      s.tb.time - (s.cs.image.latency + tolerance s.rate) ≤ gridTime s.rate x := by
    show decide (gridTime s.rate x + s.cs.image.latency + tolerance s.rate < s.tb.time) = false ↔ _
    rw [decide_eq_false_iff_not]
    show ¬ @LT.lt Nat _ _ _ ↔ @LE.le Nat _ _ _
    omega
  obtain ⟨hfi, -, -⟩ := firstSlotFrom_number s.rate (s.tb.time - (s.cs.image.latency + tolerance s.rate)) hr
  have hle := firstSlotFrom_le s.rate (s.tb.time - (s.cs.image.latency + tolerance s.rate)) hr
  simp only [closeWindows, h0, hg0, if_true]
  generalize firstSlotFrom s.rate (s.tb.time - (s.cs.image.latency + tolerance s.rate)) = f at hfi hle
  have h1 : f.number s.rate ≤ g.number s.rate := (hle g hi).1 ((hw g).1 hopen)
  have h2 : ¬ f.number s.rate ≤ g0.number s.rate := fun c => by
    have := (hw g0).2 ((hle g0 hi0).2 c); simp [hg0] at this
  have h3 : f = g := by
    refine slot_of_number s.rate f g hfi hi (Nat.le_antisymm h1 (Nat.le_of_not_lt fun c => ?_))
    have := (hw f).2 ((hle f hfi).2 (Nat.le_refl _))
    simp [hclosed f hfi (by omega) c] at this
  rw [h3]

end Sys2Proof.Machine
end

