-- ==== Sys2Proof/Laws/Settle.lean ====
section
/-! SUPPORT. The end of a step: with nothing reported to the Mode Controller it settles at once, with nothing due it changes
nothing, and every step's end leaves the state settled. -/
namespace Sys2Proof.Machine

/-! ## Settling -/

theorem mcSettleOnce_of_settled (s : State) (h : s.Settled) : mcSettleOnce s = s := by
  simp [mcSettleOnce, h.1, h.2]

theorem mcSettle_of_settled (s : State) (h : s.Settled) : mcSettle s = s := by
  obtain ⟨h1, h2⟩ := h
  have : mcSettleOnce s = s := mcSettleOnce_of_settled s ⟨h1, h2⟩
  simp only [mcSettle, this]
  cases s with
  | mk pending pins tb rmu lc peers tau si td cu uc bm hc mc twm cs counters freeDrawn =>
    cases mc
    simp_all [State.setMc]

/-- Settling ends settled. -/
theorem mcSettle_settled (s : State) : (mcSettle s).Settled := by simp [mcSettle, State.Settled]

/-- With the class GOOD in ACTIVE, whatever was reported leaves the mode as it is (R184). -/
theorem mcSettle_of_steady (s : State) (ha : s.mc.standing = .active) (hg : s.bm.cls = .good) :
    mcSettle s = s.setMc { s.mc with abandonDue := false, evalDue := false } := by
  have once : mcSettleOnce s = s.setMc { s.mc with abandonDue := false, evalDue := false } := by
    have hw : ∀ u : State, u.bm.cls = .good → u.wantedMode = .active := fun u h => by simp [State.wantedMode, h]
    unfold mcSettleOnce
    by_cases h : (s.mc.abandonDue || s.mc.evalDue) = true
    · simp only [h, if_true]
      cases he : s.mc.evalDue <;> cases hb : s.mc.abandonDue <;> simp_all [abandonEntry, evaluateMode]
    · simp only [h]
      cases s with
      | mk pending pins tb rmu lc peers tau si td cu uc bm hc mc twm cs counters freeDrawn =>
        cases mc
        simp_all [State.setMc]
  unfold mcSettle
  rw [once]
  have hs : (s.setMc { s.mc with abandonDue := false, evalDue := false }).Settled := ⟨rfl, rfl⟩
  rw [mcSettleOnce_of_settled _ hs, mcSettleOnce_of_settled _ hs, mcSettleOnce_of_settled _ hs]
  rfl

/-! ## What the follow-ups leave of the Mode Controller's part -/

/-- The follow-ups of a step move the Mode Controller's part only in the oscillator and the limit of the final beacon. -/
structure SameModes (s t : State) : Prop where
  standing : t.mc.standing = s.mc.standing
  crystal : t.mc.crystal = s.mc.crystal
  held : t.mc.held = s.mc.held
  wakeHold : t.mc.wakeHold = s.mc.wakeHold
  capture : t.mc.capture = s.mc.capture
  users : t.mc.users = s.mc.users
  evalDue : t.mc.evalDue = s.mc.evalDue
  abandonDue : t.mc.abandonDue = s.mc.abandonDue

theorem SameModes.refl (s : State) : SameModes s s := ⟨rfl, rfl, rfl, rfl, rfl, rfl, rfl, rfl⟩

theorem SameModes.of_mc_eq {s t : State} (h : t.mc = s.mc) : SameModes s t := by constructor <;> rw [h]

theorem SameModes.trans {s t u : State} (a : SameModes s t) (b : SameModes t u) : SameModes s u :=
  ⟨b.1.trans a.1, b.2.trans a.2, b.3.trans a.3, b.4.trans a.4, b.5.trans a.5, b.6.trans a.6, b.7.trans a.7, b.8.trans a.8⟩

theorem syncOsc_same (s : State) : SameModes s (syncOsc s) := by
  unfold syncOsc
  (repeat' split) <;> constructor <;> simp

theorem startBeacon_same (q : BeaconReq) (s : State) : SameModes s (startBeacon q s) := by
  unfold startBeacon
  dsimp only
  (repeat' split) <;> constructor <;> simp

theorem arbitrateRest_same (s : State) : SameModes s (arbitrateRest s) := by
  unfold arbitrateRest
  (repeat' split)
  all_goals first
    | exact SameModes.of_mc_eq (by simp)
    | exact startBeacon_same _ _

theorem startTransmission_same (s : State) : SameModes s (startTransmission s) := by
  unfold startTransmission
  (repeat' split)
  · exact SameModes.of_mc_eq (by simp)
  · exact SameModes.trans (SameModes.of_mc_eq (by simp)) (arbitrateRest_same _)
  · exact arbitrateRest_same _

theorem lcKick_same (s : State) : SameModes s (lcKick s) := by
  unfold lcKick enterGuard
  (repeat' split)
  all_goals first
    | exact startTransmission_same _
    | exact SameModes.of_mc_eq (by simp)

theorem modemKick_same (s : State) : SameModes s (modemKick s) := SameModes.of_mc_eq (by simp)

theorem twKick_same (s : State) : SameModes s (twKick s) := SameModes.of_mc_eq (by simp)

/-- What the follow-ups leave of the Mode Controller's part. -/
theorem follow_same (s : State) : SameModes s (lcKick (twKick (syncOsc (modemKick s)))) :=
  (((modemKick_same s).trans (syncOsc_same _)).trans (twKick_same _)).trans (lcKick_same _)

/-- The end of a step on a settled state: what it leaves of the Mode Controller. -/
theorem finish_same (s : State) (h : s.Settled) : SameModes s (finish s) := by
  unfold finish
  rw [mcSettle_of_settled s h]
  exact follow_same s

/-- Every step that ends with `finish` ends settled (log entry 11). -/
theorem finish_settled (s : State) : (finish s).Settled := by
  have h := mcSettle_settled s
  have key := follow_same (mcSettle s)
  exact ⟨key.evalDue.trans h.1, key.abandonDue.trans h.2⟩

/-- The end of a step on a settled state leaves these parts as they are. -/
theorem finish_leaves_settled (s : State) (h : s.Settled) :
    (finish s).pending = s.pending ∧ (finish s).pins = s.pins ∧ (finish s).tb = s.tb ∧ (finish s).rmu = s.rmu ∧
    (finish s).peers = s.peers ∧ (finish s).tau = s.tau ∧ (finish s).si = s.si ∧ (finish s).td = s.td ∧
    (finish s).bm = s.bm ∧ (finish s).hc = s.hc ∧ (finish s).cs = s.cs ∧ (finish s).freeDrawn = s.freeDrawn := by
  simp [finish, mcSettle_of_settled s h]

/-! ## Rest -/

theorem modemKick_of_rests (s : State) (h : s.ModemRests) : modemKick s = s := by
  unfold State.ModemRests at h
  unfold modemKick
  rcases h with h | h
  · rcases h with h | h <;> simp [h]
  · split
    · rfl
    · cases hm : s.uc.modem <;> simp only [hm] at h ⊢
      · simp [h]
      · obtain ⟨h1, h2⟩ := h
        cases hq : s.uc.queue with
        | nil => cases ht : s.uc.modemTimer <;> simp_all
        | cons a as =>
          have : s.uc.modemTimer = none := by
            rw [hq] at h2
            cases ht : s.uc.modemTimer <;> simp_all
          have hu : ({ s.uc with modem := Modem.idle, modemTimer := none } : Uplink) = s.uc := by
            cases hc : s.uc; simp_all
          cases s
          simp_all [setModem, State.setUc]
      · simp [h]

theorem syncOsc_of_rests (s : State) (h : s.OscRests) : syncOsc s = s := by
  unfold State.OscRests at h
  unfold syncOsc
  by_cases c : s.tb.source ≠ .slow ∨ s.mc.users.isEmpty = false
  · rw [if_pos c] at h
    have : (s.tb.source != .slow || !s.mc.users.isEmpty) = true := by simpa using c
    rw [if_pos this]
    cases ho : s.mc.osc <;> simp_all
  · rw [if_neg c] at h
    have : ¬ (s.tb.source != .slow || !s.mc.users.isEmpty) = true := by simpa using c
    rw [if_neg this]
    cases s with
    | mk pending pins tb rmu lc peers tau si td cu uc bm hc mc twm cs counters freeDrawn =>
      cases mc
      simp_all [State.setMc]

theorem twKick_of_rests (s : State) (h : s.BusRests) : twKick s = s := by
  unfold State.BusRests at h
  unfold twKick State.oscReady
  rcases h with h | h | h
  · cases hb : s.twm.bus <;> simp_all
  · simp [h]
  · simp [h]

theorem lcKick_of_rests (s : State) (h : s.LinkRests) : lcKick s = s := by
  unfold State.LinkRests at h
  unfold lcKick
  cases hs : s.lc.slots.allEmpty
  · simp only [hs] at h ⊢
    rcases h with h | h <;> simp [h]
  · simp only [hs] at h ⊢
    obtain ⟨h1, h2, h3⟩ := h
    have : ({ s.lc with access := Access.idle, busy := false, attempt := 0 } : Link) = s.lc := by
      cases hc : s.lc; simp_all
    cases s
    simp_all [State.setLc]

/-- Where no follow-up is due, the end of a step changes nothing. -/
theorem finish_of_rested (s : State) (h : s.Rested) : finish s = s := by
  unfold finish
  rw [mcSettle_of_settled s h.settled, modemKick_of_rests s h.modem, syncOsc_of_rests s h.osc, twKick_of_rests s h.bus,
    lcKick_of_rests s h.link]

end Sys2Proof.Machine
end

