-- ==== Sys2Proof/WellFormed.lean ====
section
/-! DEFINITION. Which commands are well formed: the operand values the spec's text allows. -/
namespace Sys2Proof

/-- A frame's rest is the body (0 to 80 bytes), the CRC and the check field (R36). -/
def wfRest (rest : List Byte) : Bool := 6 ≤ rest.length && rest.length ≤ 86

/-- A peer record's key, 1 to 14 (R43). -/
def wfPeer (id : Nat) : Bool := 1 ≤ id && id ≤ 14

/-- Well-formedness of a command's operands. -/
def Instr.wf : Instr → Bool
  | .powerOn | .resetNLow | .resetNRise | .crystalWaitEnd | .configLoadEnd _ | .nominalTick _ | .slowCycle _
  | .secondBoundary | .elapsedSecond | .fastSteady | .sourceBecomesSlow | .calibrationPeriodExpiry
  | .calibrationWindowClose | .markEdge | .markLabelReadEnd _ | .markExpectationExpiry | .referenceLossExpiry
  | .guardComplete | .carrierBusy | .backoffComplete | .stampPoint | .transmissionEnd | .requestStaleDrop _
  | .beaconTimerExpiry | .syncWordTaken | .headerTaken _ _ _ _ | .frameTruncated => true
  | .frameDiscarded rest | .beaconReceived rest | .triggerNoticeReceived rest | .eventDeclarationReceived rest
  | .rangeProbeReceived rest | .rangeReplyReceived rest | .serviceReportReceived rest | .serviceStatus rest
  | .servicePeers rest | .serviceEvents rest | .serviceCounters rest | .serviceRestart rest | .serviceUnknown rest => wfRest rest
  | .peerRecordExpiry id | .rangeAgeStale id | .unreachableHoldEnd id => wfPeer id
  | .sampleSetComplete edges => !edges.isEmpty
  | .partialSet _ _ | .probeTargetChoice | .probeTimeout | .steeringInstant | .digSyncFall | .missingSample
  | .holdTimerExpiry | .overlongExpiry | .trimDecayExpiry | .entryRetentionExpiry | .holdoffExpiry | .eventCloseTest
  | .maximumLifeExpiry | .recordLingerEnd | .healthTimerExpiry | .retryWaitEnd | .modemWarmUpExpiry | .powerCycleEnd
  | .powerDownDelayExpiry | .upRdyRise | .busyLimitExpiry | .segmentFetch | .messageSumSent | .canSent | .uplinkReply _
  | .replyLimitExpiry | .batteryPoll | .batteryResult _ | .temperatureResult _ _ | .briefRunReady | .briefRunBeaconSkip
  | .wakePatternDetect | .captureLimitExpiry | .wakeHoldExpiry | .finalBeaconTimeout | .carrierDetectChange _ => true

end Sys2Proof
end

