-- ==== Sys2Proof/Tests/Slice0.lean ====
section
/-! SUPPORT. Tests: refusals of ill-formed commands, one small step per command with values of the spec, and, for every
statement with hypotheses, states that meet them. -/
namespace Sys2Proof.Tests
open Sys2Proof.Machine

/-! ## Helpers -/

/-- The state after an outcome. -/
def after (o : Host.Outcome State Fault Refusal) : State :=
  match o with
  | .next t => t
  | _ => State.reset

/-- A step of one command. -/
def run (c : Instr) (s : State) : State := after (exec c s)

def settledB (s : State) : Bool := !s.mc.evalDue && !s.mc.abandonDue

theorem settled_of {s : State} (h : settledB s = true) : s.Settled := by
  simpa [settledB, State.Settled] using h

def modemB (s : State) : Bool :=
  !s.awake || !s.cs.image.uplink || (match s.uc.modem with
  | .off => s.uc.queue.isEmpty
  | .idle => s.uc.head.isNone && (s.uc.queue.isEmpty == s.uc.modemTimer.isSome)
  | .readyWait => s.uc.head.isSome
  | .warmUp | .powerCycle | .sending | .awaiting => true)

theorem modem_of {s : State} (h : modemB s = true) : s.ModemRests := by
  unfold modemB at h
  unfold State.ModemRests
  cases ha : s.awake
  · exact .inl (.inl rfl)
  · cases hu : s.cs.image.uplink
    · exact .inl (.inr rfl)
    · right
      rw [ha, hu] at h
      cases hm : s.uc.modem <;> rw [hm] at h <;> cases hq : s.uc.queue <;> simp_all

def restedB (s : State) : Bool :=
  settledB s && modemB s &&
  (if s.tb.source != .slow || !s.mc.users.isEmpty then s.mc.osc.isSome else s.mc.osc.isNone && !s.mc.handed) &&
  (s.twm.bus.isSome || !s.mc.handed || s.twm.firstFull.isNone) &&
  (if s.lc.slots.allEmpty then s.lc.access == .idle && !s.lc.busy && s.lc.attempt == 0
   else s.lc.access != .idle || !s.canTransmit)

theorem rested_of {s : State} (h : restedB s = true) : s.Rested := by
  simp only [restedB, Bool.and_eq_true] at h
  obtain ⟨⟨⟨⟨h1, h2⟩, h3⟩, h4⟩, h5⟩ := h
  refine ⟨settled_of h1, modem_of h2, ?_, ?_, ?_⟩
  · unfold State.OscRests
    by_cases c : s.tb.source ≠ .slow ∨ s.mc.users.isEmpty = false
    · rw [if_pos c]
      have : (s.tb.source != .slow || !s.mc.users.isEmpty) = true := by simpa using c
      rwa [if_pos this] at h3
    · rw [if_neg c]
      have : ¬ (s.tb.source != .slow || !s.mc.users.isEmpty) = true := by simpa using c
      rw [if_neg this] at h3
      simpa using h3
  · unfold State.BusRests
    simp only [Bool.or_eq_true] at h4
    rcases h4 with (h | h) | h
    · exact .inl h
    · exact .inr (.inl (by simpa using h))
    · exact .inr (.inr (by simpa using h))
  · unfold State.LinkRests
    cases hs : s.lc.slots.allEmpty <;> rw [hs] at h5 <;> simpa [and_assoc] using h5

theorem steady_of {s : State} (h : settledB s = true) (ha : s.mc.standing = .active) (hg : s.bm.cls = .good) : s.Steady :=
  ⟨settled_of h, ha, hg⟩

/-- A station of id 3, awake in ACTIVE with class GOOD on the fast source, 100 s after it began to count, at station time
1000 s; nothing waits. -/
def base : State :=
  { State.reset with
    pins := { Pins.reset with straps := 3, lkCd := true }
    tb := { Timebase.reset with counting := true, time := secs 1000, elapsed := 104857600#48, source := .fast, unset := false }
    lc := { Link.reset with rx := .hunting, random := 0xACE1#16 }
    si := { SampleIf.reset with grid := .tracking, slot := some { sec := 1000, index := 0 } }
    td := { Trigger.reset with state := .off }
    bm := { Battery.reset with cls := .good }
    mc := { ModeCtl.reset with standing := .active, crystal := 16384, osc := some 256, handed := true }
    cs := { Service.reset with stationId := 3 } }

theorem base_rested : base.Rested := rested_of (by decide)
theorem base_steady : base.Steady := steady_of (by decide) rfl rfl

/-! ## Helpers for the statements' hypotheses -/

/-- `s` with 79 zero bits of a set taken, and the edge that brings its last. -/
def almost (s : State) : State := s.setSi { s.si with bitCount := 79, buffer := List.replicate 79 false }
def lastEdge : Instr := .sampleSetComplete [{ bit := false, frm := false }]

/-- A timer that is due at `base` to the tick. -/
def dueNow : Option Timer := some { start := 0, period := secs 100 }

/-- A header by its fields. -/
def hdrOf (kind sender target flags len seq : Nat) : Header :=
  { kindSender := BitVec.ofNat 8 (kind + 16 * sender), targetFlags := BitVec.ofNat 8 (target + 16 * flags)
    length := BitVec.ofNat 8 len, sequence := BitVec.ofNat 8 seq }

/-- The bytes after a header: body, CRC, and the check field packed most significant bit first. -/
def restOf (h : Header) (body : List Byte) : List Byte :=
  body ++ crcBytes (h.bytes ++ body) ++ (List.range 4).map fun i =>
    (((checkField h.sender h.sequence.toNat).drop (8 * i)).take 8).foldl
      (fun (a : Byte) b => (a <<< 1) ||| (if b then 1#8 else 0#8)) 0#8

def stampA : RxStamp := { time := secs 1000, moment := 104857600#48, fast := true }

/-- `s` with the header taken by its receiver. -/
def hears (h : Header) (s : State) : State := s.setLc { s.lc with rx := .body stampA h }

theorem receives_of (h : Header) {s : State} {rest : List Byte} (htx : s.lc.tx = none) (hw : rest.length = h.length.toNat + 6)
    (hc : s.mc.capture = none) : (hears h s).Receives stampA h rest := ⟨rfl, htx, hw, hc⟩

/-- A peer of grade GOOD, awake, never ranged. -/
def peerOf (id : Nat) : PeerRecord :=
  { id := id, lastHeard := 104857000#48, heldAge := none, code := some 4, mode := some .active, cls := some .good
    distance := some 1, quality := some 100, unset := some false, trig := some .off, lastOnset := none, sample := none
    ranging := .unranged, delay := none, rangeTime := none, attempts := 0, ring := [0, 0, 0, 0], ringSum := 0, counted := 4
    grade := .good, lastSeq := 9 }

def entryOf (station : Nat) (onset : StationTime) : Entry :=
  { station := station, onset := onset, mask := none, peak := 40, endAt := none, bound := none, own := false, confirmed := false }

def recOf (state : RecState) : EventRec :=
  { rid := 0, id := some { origin := 3, seq := 7 }, state := state, earliest := secs 990
    parts := [{ station := 3, onset := secs 990, peak := 50 }, { station := 5, onset := secs 991, peak := 60 }]
    update := 1, declOwed := false, carried := none, holdoff := none, mergedInto := none, uplink := .none, owedUplink := none
    opened := 94371840#48, lastEnd := 94371840#48, finished := none, delivered := false }

def alertOf (kind : AlertKind) (turn : Turn) : Alert :=
  { kind := kind, rid := if kind = .health then none else some 0, id := if kind = .health then none else some { origin := 3, seq := 7 }
    update := 0, enqueued := 0#48, attempts := 0, turn := turn, retryWait := none, withdrawn := false }

def transferOf (kind : AlertKind) (segments fetched : Nat) (cut : Option Cut) : Transfer :=
  { kind := kind, rid := if kind = .health then none else some 0, id := if kind = .health then none else some { origin := 3, seq := 7 }
    update := 1, count := 2, segments := segments, fetched := fetched, payload := [], last := none, cut := cut, onTimes := none }

def txOf (owner : TxOwner) (body : List Byte) (stamp : Option Stamp) : TxFrame :=
  { owner := owner, wake := false, header := [0x11#8, 0#8, 0#8, 0#8], body := body, stamp := stamp }

def stampB : Option Stamp := some { time := secs 999, moment := 104000000#48 }

def onBusOf (u : TwUser) (s : State) : State := s.setTwm { s.twm with bus := some { user := u, wanted := true, check := .clear } }

/-- The same behind a recovery. -/
def recoveredOf (u : TwUser) (s : State) : State :=
  s.setTwm { s.twm with bus := some { user := u, wanted := true, check := .recovered } }

theorem onBus_of (u : TwUser) (s : State) : (onBusOf u s).onBus u := .inl rfl

theorem onBusFor_of {n : Nat} (u : TwUser) (s : State) (r : TwEnd n) : (recoveredOf u s).onBusFor u r := ⟨.inr rfl, fun _ => rfl⟩
def stands (x : Standing) (s : State) : State := s.setMc { s.mc with standing := x }
def inClass (c : BatClass) (s : State) : State := s.setBm { s.bm with cls := c }
def withImage (f : Image → Image) (s : State) : State := s.setCs { s.cs with image := f s.cs.image }
def withUplink (s : State) : State := withImage (fun i => { i with uplink := true }) s
def withSlots (x : Slots) (s : State) : State := s.setLc { s.lc with slots := x, access := .backoff 0 }
def quietMedium (s : State) : State := s.setPins { s.pins with lkCd := false }

/-! ## States that meet the statements' hypotheses: the machine, the invariants, the wires -/

theorem meets_StepRunsTheFrontCommand :
    (base.setPending [.markEdge, .canSent]).pending = .markEdge :: [.canSent] ∧ base.pending = [] := ⟨rfl, rfl⟩

def linesLow : Lines := { straps := 3, chgAvl := false, upRdy := false, scl := true, sda := true }

theorem meets_TimeMoves :
    (∃ s t : State, exec .markEdge s = .next t ∧ .markEdge ≠ Instr.powerOn ∧ (∀ l, Instr.markEdge ≠ .nominalTick l) ∧
      (∀ l, Instr.markEdge ≠ .slowCycle l) ∧ .markEdge ≠ Instr.steeringInstant ∧ .markEdge ≠ Instr.fastSteady) ∧
    (∃ s t : State, exec (.nominalTick linesLow) s = .next t ∧ s.tb.time ≤ maxTime) ∧
    (∃ s t : State, exec (.slowCycle linesLow) s = .next t ∧ s.tb.time ≤ maxTime) :=
  ⟨⟨base, _, rfl, by decide, fun _ => nofun, fun _ => nofun, by decide, by decide⟩,
   ⟨base.setTb { base.tb with time := maxTime }, _, rfl, by decide⟩,
   ⟨base.setTb { base.tb with time := maxTime, source := .slow }, _, rfl, by decide⟩⟩

def fullState : State :=
  { base.setCounters (Vector.replicate 102 65535) with
    pending := [.carrierBusy]
    tb := { base.tb with
      time := maxTime, frac := 4294967295, rBase := -214748, cSlow := 858993, distance := 15, quality := 16777215 }
    peers := [{ peerOf 1 with ring := List.replicate 16 32, ringSum := 512, counted := 16 }, peerOf 14]
    cu := { base.cu with entries := List.replicate 24 (entryOf 5 0), events := List.replicate 8 (recOf .closed) }
    uc := { base.uc with queue := List.replicate 8 (alertOf .health .ready) } }

theorem meets_StepKeepsCountersBounded : fullState.CountersBounded ∧ ∃ t, step fullState = .next t :=
  ⟨fun c => by cases c <;> decide, _, rfl⟩

theorem meets_StepKeepsTimebaseInRange : fullState.tb.InRange ∧ ∃ t, step fullState = .next t :=
  ⟨⟨by decide, by decide, by decide, by decide, by decide, by decide, by decide, by decide⟩, _, rfl⟩

theorem meets_StepKeepsPeersSound : fullState.PeersSound ∧ ∃ t, step fullState = .next t :=
  ⟨⟨by decide, by
    intro r h
    rcases List.mem_cons.1 h with rfl | h
    · exact ⟨by decide, by decide, by decide, by decide, by decide⟩
    · obtain rfl := List.mem_singleton.1 h
      exact ⟨by decide, by decide, by decide, by decide, by decide⟩⟩, _, rfl⟩

theorem meets_StepKeepsTablesBounded : fullState.TablesBounded ∧ ∃ t, step fullState = .next t :=
  ⟨⟨by decide, by decide, by decide⟩, _, rfl⟩

theorem modeLaw_of {s : State} (h : settledB s = true) (hc : s.bm.cls = .critical → (s.mc.standing.inStart || s.mc.standing.inShelter) = true)
    (ha : s.mc.standing = .asleep ∨ s.mc.standing = .capturing ∨ s.mc.standing = .entering →
      s.bm.cls = .low ∧ s.openEvent = false ∧ s.uc.queue = []) : s.ModeLaw :=
  ⟨settled_of h, fun x => by simpa using hc x, ha⟩

theorem meets_StepKeepsModeLaw :
    (∃ s t : State, s.ModeLaw ∧ s.mc.standing = .asleep ∧ step s = .next t) ∧
    (∃ s t : State, s.ModeLaw ∧ s.bm.cls = .critical ∧ step s = .next t) :=
  ⟨⟨(inClass .low (stands .asleep base)).setPending [.wakePatternDetect], _,
      modeLaw_of (by decide) (by decide) (by decide), rfl, rfl⟩,
   ⟨(inClass .critical (stands .sheltered base)).setPending [.batteryPoll], _,
      modeLaw_of (by decide) (by decide) (by decide), rfl, rfl⟩⟩

theorem meets_CheckField : (15 : Nat) ≤ 15 ∧ (255 : Nat) ≤ 255 ∧ (1 : Nat) ≤ 15 ∧ ([0#8, 1#8, 2#8, 3#8] : List Byte).length = 4 := by decide

theorem meets_CrcCloses : (15 : Nat) < 16 ∧ (0#8 : Byte) ≠ 1#8 ∧ ([0#8, 1#8, 2#8] : List Byte).length = (hdrOf 7 5 3 0 3 9).length.toNat := by
  decide

theorem meets_FrameBits (wake : Bool) : ∃ (f : TxFrame) (a b l q : Byte), f.header = [a, b, l, q] ∧ f.wake = wake :=
  ⟨{ owner := .reply, wake := wake, header := [0#8, 0#8, 0#8, 0#8], body := [], stamp := none }, _, _, _, _, rfl, rfl⟩

theorem meets_BodiesReadBack :
    ((15 : Nat) ≠ 0 ∧ maxTime ≤ maxTime ∧ (255 : Nat) ≤ 255 ∧ (List.replicate 77 0#8 : List Byte).length ≤ 77) ∧
    (∃ b : BeaconBody, b.stamp ≤ maxTime ∧ b.quality < 2 ^ 24 ∧ b.distance ≤ 15 ∧ 2 ≤ b.code ∧ b.code ≤ 10 ∧ b.peak ≤ 255 ∧
      (∀ o, b.lastOnset = some o → o ≤ maxTime)) ∧
    (∃ n : Notice, n.onset ≤ maxTime ∧ 1 ≤ n.mask ∧ n.mask ≤ 7 ∧ n.peak ≤ 255 ∧ n.duration ≤ 65535) ∧
    (∃ r : ReplyBody, r.t1 ≤ maxTime ∧ r.t2 ≤ maxTime ∧ r.t3 ≤ maxTime) ∧
    (∃ d : DeclBody, 1 ≤ d.id.origin ∧ d.id.origin ≤ 14 ∧ d.id.seq ≤ 255 ∧ d.update ≤ 3 ∧ d.earliest ≤ maxTime ∧
      1 ≤ d.parts.length ∧ d.parts.length ≤ 14 ∧ (d.parts.map DeclPart.station).Nodup ∧
      (∀ p ∈ d.parts, 1 ≤ p.station ∧ p.station ≤ 14 ∧ p.offset ≤ 65535 ∧ p.peak ≤ 255)) :=
  ⟨by decide,
   ⟨{ stamp := maxTime, quality := 16777215, distance := 15, mode := .shelter, cls := .critical, code := 10, trig := .hold,
      lastOnset := some maxTime, peak := 255, unset := true }, by decide, by decide, by decide, by decide, by decide, by decide,
      fun o h => by cases h; decide⟩,
   ⟨{ kind := .finish, onset := maxTime, mask := 7, peak := 255, duration := 65535 }, by decide⟩,
   ⟨{ t1 := maxTime, t2 := maxTime, t3 := maxTime }, by decide⟩,
   ⟨{ id := { origin := 14, seq := 255 }, update := 3, earliest := maxTime,
      parts := [{ station := 14, offset := 65535, peak := 255 }, { station := 1, offset := 0, peak := 0 }] }, by decide⟩⟩

/-- Section 2.10: a beacon, a notice and a declaration with one byte at the ends of its field's range, and one step outside. -/
theorem test_form_boundaries :
    (let b : List Byte := [0, 0, 0, 9, 0, 0, 0, 0, 0, 0, 15, 1, 3, 2, 4, 0, 0, 0, 0, 0xFF, 0xFF, 0xFF, 0, 0]
     let n : List Byte := [0, 0, 0, 9, 0x0F, 0xFF, 0xFF, 1, 7, 0, 0, 0]
     let d : List Byte := [14, 0, 3, 0, 0, 0, 9, 0, 0, 0, 2, 1, 0, 0, 0, 14, 0xEA, 0x60, 0]
     (readBody .beacon 0 b).isSome ∧ (readBody .notice 0 n).isSome ∧ (readBody .declaration 0 d).isSome ∧
     (∀ x ∈ [(10, 16#8), (11, 0#8), (11, 5#8), (12, 4#8), (13, 1#8), (13, 11#8), (14, 5#8), (4, 0x10#8), (21, 0xFE#8)],
       readBody .beacon 0 (b.set x.1 x.2) = none) ∧
     (∀ x ∈ [(7, 2#8), (8, 0#8), (8, 8#8), (4, 0x10#8)], readBody .notice 0 (n.set x.1 x.2) = none) ∧
     (∀ x ∈ [(0, 0#8), (0, 15#8), (2, 4#8), (7, 0x10#8), (10, 1#8), (10, 3#8), (11, 0#8), (15, 15#8), (11, 14#8)],
       readBody .declaration 0 (d.set x.1 x.2) = none) ∧
     readBody .beacon 3 b = none ∧ readBody .beacon 0 (b ++ [0]) = none ∧ readBody .probe 0 (b.take 7) = none ∧
     readBody .serviceReport 3 [1, 0x80, 2] = none ∧ readBody .serviceReport 3 [1, 0x80] = none) := by decide

theorem meets_ImageOfAnyBlockIsLegal : ∃ (b : List Byte) (i : Image), i = (imageOf b).1 := ⟨[], _, rfl⟩

/-! ## Resets and START -/

def heldAt (x : Standing) (source : Source) : State :=
  (State.reset.setMc { ModeCtl.reset with standing := x, crystal := 16384, held := true }).setTb { Timebase.reset with source := source }

theorem meets_StartGoesOnToLoading :
    (∀ src, (heldAt .loading src).mc.held = true ∧ (heldAt .loading src).mc.standing = .loading ∧
      (heldAt .loading src).tb.source = src) ∧
    ((heldAt .crystalWait .slow).mc.held = true ∧ (heldAt .crystalWait .slow).mc.standing = .crystalWait ∧
      (heldAt .crystalWait .slow).mc.crystal = 16384) ∧
    (∃ s : State, s.mc.held = false) ∧
    (∃ s : State, s.mc.standing = .crystalWait ∧ s.mc.crystal = 16384 ∧ s.mc.held = false ∧ s.tb.source = .slow) :=
  ⟨fun _ => ⟨rfl, rfl, rfl⟩, ⟨rfl, rfl, rfl⟩, ⟨State.reset, by decide⟩,
   ⟨State.reset.setMc { ModeCtl.reset with crystal := 16384 }, by decide⟩⟩

/-- A block of ones with the layout byte A7H. -/
def blockHead : List Byte := 0xA7#8 :: List.replicate 61 0xFF#8

theorem crcBytes_length (bs : List Byte) : (crcBytes bs).length = 2 := rfl

/-- The same with its own CRC. -/
def goodBlock : Vector Byte 64 := ⟨(blockHead ++ crcBytes blockHead).toArray, by simp [crcBytes_length, blockHead]⟩

theorem goodBlock_good : blockGood goodBlock.toList = true := by
  have h : goodBlock.toList = blockHead ++ crcBytes blockHead := rfl
  have hl : blockHead.length = 62 := by decide
  rw [h, blockGood, field, List.take_left' hl, List.drop_left' hl, List.take_of_length_le (by simp [crcBytes_length])]
  simp [num, field, fromBe, blockHead]

theorem meets_ConfigLoad :
    (∃ s : State, s.onBus .loader ∧ s.mc.standing = .loading ∧ blockGood goodBlock.toList = true) ∧
    (∀ r : TwEnd 64, ∃ s : State, s.onBusFor .loader r ∧ s.mc.standing = .loading) ∧
    (∀ v, (TwEnd.nack : TwEnd 64) = .complete v → blockGood v.toList = false) ∧
    (∃ v : Vector Byte 64, ∀ w, (TwEnd.complete v : TwEnd 64) = .complete w → blockGood w.toList = false) :=
  ⟨⟨onBusOf .loader (stands .loading base), onBus_of .., rfl, goodBlock_good⟩,
   fun r => ⟨recoveredOf .loader (stands .loading base), onBusFor_of .., rfl⟩, nofun,
   ⟨Vector.replicate 64 0#8, fun w h => by cases h; decide⟩⟩

/-- The first poll ends, in a class, at a station of id 3 or a listen-only one, with the uplink configured. -/
def firstPolled (c : BatClass) (id : Nat) (drawn : Bool) : State :=
  let s := withUplink (inClass c (stands .firstPoll base))
  let s := recoveredOf .battery (s.setLc { s.lc with rx := .off, seqDrawn := drawn })
  s.setCs { s.cs with stationId := id }

/-- A failed first poll leaves each class as it stood, and a good one sets it (R196). -/
theorem meets_EndOfStart (c : BatClass) (id : Nat) (hid : id = 3 ∨ id = 15) (drawn : Bool) :
    (let s := firstPolled c id drawn
     s.Settled ∧ s.onBusFor .battery (.nack : TwEnd 6) ∧ s.mc.standing = .firstPoll ∧ (bmBattery .nack s).bm.cls = c ∧
     s.peers = [] ∧ 1 ≤ s.cs.image.mWatch ∧ s.lc.slots.allEmpty = true ∧ s.listenOnly = decide (id = 15) ∧ s.lc.seqDrawn = drawn ∧
     s.lc.rx = .off ∧ s.rmu.sleeping = false ∧ s.cs.image.uplink = true ∧ s.uc.modem = .off ∧ s.uc.queue = [] ∧ s.uc.stacked = [] ∧
     s.tb.source = .fast ∧ s.pins.lkCd = true ∧ s.bm.lastPoll = none ∧ s.lc.slots.report = none) := by
  rcases hid with rfl | rfl <;> cases c <;> cases drawn <;>
    exact ⟨settled_of (by decide), onBusFor_of .., by decide⟩

/-! ## Station time -/

theorem meets_NominalTick :
    (∃ s : State, s.tb.counting = true ∧ s.tb.source = .fast ∧ s.tb.frac < 2 ^ 32 ∧ s.tb.time ≤ maxTime ∧ s.tb.pendingStep = none ∧
      2 ^ 32 ≤ (s.tb.frac : Int) + max (-214748) (min 214748 (s.tb.rBase + s.tb.rPhase)) ∧ s.tb.elapsed.toNat % 1048576 = 1048575) ∧
    (∃ s : State, s.tb.counting = true ∧ s.tb.source = .fast ∧ s.tb.frac < 2 ^ 32 ∧ s.tb.time ≤ maxTime ∧
      s.tb.pendingStep = some .minus ∧ (s.tb.frac : Int) + (-214748) < 0) ∧
    (∃ s : State, s.tb.counting = true ∧ s.tb.source = .fast ∧ s.tb.frac < 2 ^ 32 ∧ s.tb.time ≤ maxTime ∧
      s.tb.pendingStep = some .plus ∧ 0 ≤ (s.tb.frac : Int) + 214748 ∧ (s.tb.frac : Int) + 214748 < 2 ^ 32) :=
  ⟨⟨base.setTb { base.tb with frac := 4294967295, rBase := 1, time := maxTime, elapsed := 1048575#48 }, by decide⟩,
   ⟨base.setTb { base.tb with frac := 214747, pendingStep := some .minus }, by decide⟩,
   ⟨base.setTb { base.tb with frac := 4294752547, pendingStep := some .plus }, by decide⟩⟩

theorem meets_SlowCycle :
    (∃ s : State, s.tb.counting = true ∧ s.tb.source ≠ .fast ∧ s.tb.time ≤ maxTime ∧ 2 ^ 32 ≤ (s.tb.frac : Int) - 32 * s.tb.cSlow ∧
      s.tb.elapsed.toNat % 1048576 + 32 = 1048576) ∧
    (∃ s : State, s.tb.counting = true ∧ s.tb.source ≠ .fast ∧ s.tb.time ≤ maxTime ∧
      -(2 ^ 32) ≤ (s.tb.frac : Int) - 32 * s.tb.cSlow ∧ (s.tb.frac : Int) - 32 * s.tb.cSlow < 0) ∧
    (∃ s : State, s.tb.counting = true ∧ s.tb.source ≠ .fast ∧ s.tb.time ≤ maxTime ∧
      0 ≤ (s.tb.frac : Int) - 32 * s.tb.cSlow ∧ (s.tb.frac : Int) - 32 * s.tb.cSlow < 2 ^ 32 ∧ s.tb.calOpening = false) ∧
    (∀ p : Option Drive, ∃ s : State, s.tb.source = .fast ∧ s.tb.calOpening = true ∧ s.tb.pendingStep = p) ∧
    (∃ s : State, s.tb.source = .fast ∧ s.tb.calOpening = false ∧ s.tb.calWindow = some { cycles := 32767, m := 5 }) ∧
    (∀ n, n = 16383 ∨ n = 16384 → ∃ s : State, s.tb.counting = false ∧ s.mc.standing = .crystalWait ∧ s.mc.crystal = n ∧
      s.tb.calOpening = false ∧ s.tb.calWindow = none) :=
  ⟨⟨base.setTb { base.tb with source := .slow, frac := 4294967264, cSlow := -1, time := maxTime - 33, elapsed := 1048544#48 }, by decide⟩,
   ⟨base.setTb { base.tb with source := .warming, cSlow := 858993 }, by decide⟩,
   ⟨base.setTb { base.tb with source := .slow }, by decide⟩,
   fun p => ⟨base.setTb { base.tb with calOpening := true, pendingStep := p }, rfl, rfl, rfl⟩,
   ⟨base.setTb { base.tb with calWindow := some { cycles := 32767, m := 5 } }, by decide⟩,
   fun n _ => ⟨State.reset.setMc { State.reset.mc with crystal := n }, rfl, rfl, rfl, rfl, rfl⟩⟩

theorem meets_SecondBoundary :
    (∃ s : State, s.Rested ∧ s.mc.standing.inStart = false ∧ s.tb.boundaries = 12 :: [13] ∧ 12 % 12 = 0 ∧ s.si.grid = .unaligned) ∧
    (∃ s : State, s.Rested ∧ s.mc.standing.inStart = false ∧ s.tb.boundaries = 13 :: [] ∧ 13 % 12 ≠ 0) ∧
    (∃ (s : State) (m : Elapsed), s.si.digSync = some m ∧ 1024 ≤ since s.now m) ∧
    (∃ (s : State) (m : Elapsed), s.si.digSync = some m ∧ since s.now m < 1024) :=
  ⟨⟨(base.setTb { base.tb with boundaries := [12, 13] }).setSi { base.si with grid := .unaligned }, rested_of (by decide), by decide⟩,
   ⟨base.setTb { base.tb with boundaries := [13] }, rested_of (by decide), by decide⟩,
   ⟨base.setSi { base.si with digSync := some (base.now - 1024#48) }, _, rfl, by decide⟩,
   ⟨base.setSi { base.si with digSync := some (base.now - 1023#48) }, _, rfl, by decide⟩⟩

/-- A pulse with both heaters idle inside the frame, a step before it or none, the detector running with its channels. -/
theorem meets_SecondBoundary_realign (realign : Bool) :
    (let quiet : Channel := { base.td.z with state := .quiet }
     let s := ((base.setTb { base.tb with boundaries := [13] }).setTd { base.td with z := quiet, n := quiet, e := quiet }).setSi
       { base.si with grid := .unaligned, realign := realign }
     s.Rested ∧ s.mc.standing.inStart = false ∧ s.tb.boundaries = 13 :: [] ∧ 13 % 12 ≠ 0 ∧ s.si.realign = realign ∧
     s.td.state ≠ .stopped ∧ s.td.z.state ≠ .stopped ∧ s.td.n.state ≠ .stopped ∧ s.td.e.state ≠ .stopped ∧
     ∀ h : HeaterId, (s.heater h).output = false ∧ (s.heater h).edge = none) := by
  cases realign <;> refine ⟨rested_of (by decide), by decide, by decide, by decide, by decide, by decide, by decide, by decide, by decide, ?_⟩ <;>
    intro h <;> cases h <;> decide

/-- `base` with both temperatures at `t`, both setpoints 0, stale or not. -/
def warm (t : Int) (stale : Bool) : State :=
  (withImage (fun i => { i with batterySet := 0, sensorSet := 0 }) base).setBm
    { base.bm with temp := some t, tempA := some t, stale := stale, staleA := stale }

/-- Each row of the demand table at its two ends. -/
theorem meets_Demand : ([0, -1, -5, -6, -10, -11, -20, -21, -50, -51, -100, -101].map (fun t => (warm t false).demand .b) =
      [.off, .quarter, .quarter, .quarter, .quarter, .quarter, .quarter, .third, .third, .half, .half, .full]) ∧
    ([0, -1, -5, -6, -10, -11, -20, -21, -50, -51, -100, -101].map (fun t => (warm t false).demand .s) =
      [.off, .quarter, .quarter, .third, .third, .half, .half, .full, .full, .full, .full, .full]) ∧
    (warm (-101) true).bm.stale = true ∧ (warm (-101) true).bm.staleA = true ∧ (warm 0 false).bm.temp = some 0 := by decide

/-- `base` at a boundary, a heater's record being `x`, its temperature cold or not, the detector hot or not. -/
def heating (h : HeaterId) (x : Heater) (sec : Nat) (cold hot : Bool) : State :=
  setHeater h x ((base.setTb { base.tb with boundaries := [sec] }).setBm { base.bm with
    temp := some (if cold then -120 else 500), stale := false, tempA := some (if cold then -12 else 500), staleA := false }
    |>.setTd { base.td with state := if hot then .on else .off })

/-- The clauses differ in the record, which is free here, the level and hot. -/
theorem meets_FrameStart (h : HeaterId) (x : Heater) (sec : Nat) (cold hot : Bool) (hs : sec = 24 ∨ sec = 25) :
    (let s := heating h x sec cold hot
     s.Rested ∧ s.mc.standing.inStart = false ∧ s.tb.boundaries = sec :: [] ∧ s.heater h = x ∧ s.hot = hot ∧
     (s.frameLevel h = .off ↔ cold = false)) := by
  have hh : (heating h x sec cold hot).hot = (heating h .reset sec cold hot).hot := by cases h <;> rfl
  have hl : (heating h x sec cold hot).frameLevel h = (heating h .reset sec cold hot).frameLevel h := by cases h <;> rfl
  dsimp only
  rw [hh, hl]
  rcases hs with rfl | rfl <;> cases h <;> cases cold <;> cases hot <;>
    exact ⟨rested_of rfl, rfl, rfl, rfl, by decide, by decide⟩

theorem meets_ElapsedSecond : ∃ s : State, 0 < s.tb.elapsedSeconds := ⟨base.setTb { base.tb with elapsedSeconds := 1 }, by decide⟩

def warmed (x : Standing) (s : State) : State :=
  stands x (s.setTb { s.tb with source := .warming, warmUp := 256, slowAsked := false })

theorem meets_FastSteady :
    (∃ s : State, s.Settled ∧ s.tb.source = .warming ∧ s.tb.warmUp = 256 ∧ s.tb.slowAsked = false ∧ s.cs.pending = none ∧
      (s.bm.cls = .lean ∨ s.bm.cls = .low) ∧ s.mc.standing = .waking ∧ s.mc.capture = none) ∧
    (∃ s : State, s.Settled ∧ s.tb.source = .warming ∧ s.tb.warmUp = 256 ∧ s.tb.slowAsked = false ∧ s.cs.pending = none ∧
      (s.bm.cls = .lean ∨ s.bm.cls = .low) ∧ s.mc.standing = .rising) ∧
    (∃ s : State, s.Settled ∧ s.tb.source = .warming ∧ s.tb.warmUp = 256 ∧ s.tb.slowAsked = false ∧
      s.mc.standing = .loading ∧ s.mc.held = false) ∧
    (∃ s : State, s.Settled ∧ s.tb.source = .warming ∧ s.tb.warmUp = 256 ∧ s.tb.slowAsked = false ∧
      s.mc.standing = .capturing ∧ s.lc.rx = .off) :=
  ⟨⟨inClass .low (warmed .waking base), settled_of (by decide), by decide⟩,
   ⟨inClass .lean (warmed .rising base), settled_of (by decide), by decide⟩,
   ⟨warmed .loading base, settled_of (by decide), by decide⟩,
   ⟨(warmed .capturing base).setLc Link.reset, settled_of (by decide), by decide⟩⟩

def slowAsked (x : Standing) : State :=
  (stands x base).setTb { base.tb with slowAsked := true, calWindow := some { cycles := 1, m := 32 } }

theorem meets_Calibration :
    (∀ x, x = Standing.asleep ∨ x = .sheltered ∨ x = .waking ∨ x = .capturing ∨ x = .watching ∨ x = .active ∨ x = .rising ∨
        x = .loading →
      (slowAsked x).Settled ∧ (slowAsked x).tb.slowAsked = true ∧ (slowAsked x).mc.standing = x ∧
        (slowAsked x).mc.users.isEmpty = true ∧ (slowAsked x).tb.calWindow.isSome ∧ (slowAsked x).mc.osc.isSome) ∧
    (∃ s : State, timerDue s.tb.calTimer s.now = true) ∧
    (∃ (s : State) (w : CalWindow), s.tb.calWindow = some w ∧ w.cycles = 32768) := by
  refine ⟨?_, ⟨base.setTb { base.tb with calTimer := dueNow }, by decide⟩,
    ⟨base.setTb { base.tb with calWindow := some { cycles := 32768, m := 1048555 } }, _, rfl, rfl⟩⟩
  intro x h
  rcases h with rfl | rfl | rfl | rfl | rfl | rfl | rfl | rfl <;> exact ⟨settled_of (by decide), by decide⟩

/-- `base` with a receiver fitted, its RMU in a state. -/
def marks (x : RmuState) (good bad : Nat) (s : State) : State :=
  withImage (fun i => { i with receiver := true }) (s.setRmu { s.rmu with state := x, good := good, bad := bad })

/-- An edge at a reference in this state, its last mark open or not, the label's read on the bus. -/
def edgeAt (x : RmuState) (bad : Nat) (src : Source) (m : Option OpenMark) : State :=
  let s := marks x 3 bad (base.setTb { base.tb with source := src })
  let s := if src = .slow then s.setMc { s.mc with osc := none, handed := false } else s
  (if m.isSome then onBusOf .label s else s).setRmu { s.rmu with openMark := m }

theorem meets_MarkEdges (x : RmuState) (bad : Nat) (src : Source) (m : Option OpenMark)
    (hm : m = none ∨ m = some { stamp := secs 999, edge := 103809024#48 }) :
    (let s := edgeAt x bad src m
     s.Rested ∧ s.cs.image.receiver = true ∧ s.awake = true ∧ s.rmu.sleeping = false ∧ s.tb.source = src ∧ s.rmu.openMark = m ∧
     s.rmu.state = x ∧ s.rmu.bad = bad ∧ (m.isSome → ∃ u, s.twm.bus = some u ∧ u.user = .label)) := by
  rcases hm with rfl | rfl <;> cases src
  case inl.slow | inl.warming | inl.fast => exact ⟨rested_of rfl, rfl, rfl, rfl, rfl, rfl, rfl, rfl, nofun⟩
  all_goals exact ⟨rested_of rfl, rfl, rfl, rfl, rfl, rfl, rfl, rfl, fun _ => ⟨_, rfl, rfl⟩⟩

/-- The read of the open mark waits behind another user's; and the three cases in which an edge is ignored. -/
theorem meets_MarkEdges_more :
    (∃ u, (edgeAt .locked 0 .fast (some { stamp := secs 999, edge := 103809024#48 })).setTwm
      { base.twm with bus := some { user := .battery, wanted := true, check := .clear }, label := some { wanted := true } } = u ∧
      u.Rested ∧ u.rmu.openMark.isSome ∧ u.twm.busyFor .label = true) ∧
    (∃ s : State, s.Rested ∧ s.cs.image.receiver = false ∧ s.awake = true ∧ s.rmu.sleeping = false) ∧
    (∃ s : State, s.Rested ∧ s.cs.image.receiver = true ∧ s.awake = false ∧ s.rmu.sleeping = false) ∧
    (∃ s : State, s.Rested ∧ s.cs.image.receiver = true ∧ s.awake = true ∧ s.rmu.sleeping = true) :=
  ⟨⟨_, rfl, rested_of (by decide), rfl, rfl⟩, ⟨base, base_rested, rfl, rfl, rfl⟩,
   ⟨marks .holdover 0 0 (stands .sheltered base), rested_of (by decide), rfl, rfl, rfl⟩,
   ⟨marks .acquiring 0 0 (base.setRmu { base.rmu with sleeping := true }), rested_of (by decide), rfl, rfl, rfl⟩⟩

def expecting (s : State) : State := s.setRmu { s.rmu with expectation := some { due := s.now, live := true } }

theorem meets_MarkTimers :
    (∃ (s : State) (e : Expectation), s.rmu.expectation = some e ∧ e.live = true ∧ s.rmu.sleeping = false ∧
      reached s.now e.due = true ∧ (s.rmu.state = .acquiring ∨ s.rmu.state = .holdover)) ∧
    (∃ (s : State) (e : Expectation), s.rmu.expectation = some e ∧ e.live = true ∧ s.rmu.sleeping = false ∧
      reached s.now e.due = true ∧ s.rmu.state = .locked ∧ s.rmu.bad = 2) ∧
    (∃ s : State, timerDue s.rmu.lossTimer s.now = true ∧ (s.rmu.state = .acquiring ∨ s.rmu.state = .holdover)) :=
  ⟨⟨expecting (marks .acquiring 3 0 base), _, rfl, by decide⟩, ⟨expecting (marks .locked 4 2 base), _, rfl, by decide⟩,
   ⟨(marks .holdover 0 0 base).setRmu { base.rmu with state := .holdover, lossTimer := dueNow }, by decide⟩⟩

/-- A label read of label 1001 is on the bus, 524,288 ticks after its edge; the mark before had label `prev`, `gap` ticks
earlier. -/
def labelled (x : RmuState) (good bad : Nat) (offsets : List Int) (prev gap : Nat) : State :=
  onBusOf .label (base.setRmu { base.rmu with
    state := x, good := good, bad := bad, offsets := offsets
    openMark := some { stamp := 1049000000, edge := base.now - 524288#48 }
    prev := some { stamp := 1049000000 - gap, label := prev, valid := true } })

def label1001 : Vector Byte 5 := #v[0x00#8, 0x00#8, 0x03#8, 0xE9#8, 0x01#8]

theorem meets_LabelRead (s : State)
    (hs : s = labelled .acquiring 3 0 [] 1000 1047576 ∨ s = labelled .holdover 2 0 [] 1000 1049576 ∨
      s = labelled .locked 4 1 [5, 6, 7] 1000 1048576 ∨ s = labelled .absent 0 0 [] 1000 1048576) :
    s.Settled ∧ s.onBus .label ∧ ∃ m p, s.rmu.openMark = some m ∧ since s.now m.edge ≤ 524288 ∧ s.rmu.prev = some p ∧
      num label1001.toList 4 1 % 2 = 1 ∧ num label1001.toList 0 4 = p.label + 1 ∧ 1047576 ≤ m.stamp - p.stamp ∧
      m.stamp - p.stamp ≤ 1049576 := by
  rcases hs with rfl | rfl | rfl | rfl <;>
    exact ⟨settled_of (by decide), onBus_of .., _, _, rfl, by decide, rfl, by decide, by decide, by decide, by decide⟩

/-- The first mark, in every state. -/
theorem meets_LabelRead_first (x : RmuState) :
    (let s := labelled x 2 1 [5] 1000 1048576
     let s := s.setRmu { s.rmu with prev := none }
     s.Settled ∧ s.onBus .label ∧ s.rmu.prev = none ∧ s.rmu.state = x ∧ num label1001.toList 4 1 % 2 = 1 ∧
     ∃ m, s.rmu.openMark = some m ∧ since s.now m.edge ≤ 524288) :=
  ⟨settled_of rfl, onBus_of .., rfl, rfl, by decide, _, rfl, by cases x <;> decide⟩

/-- BAD: a label that repeats or skips, an interval one tick short or long, in LOCKED on the third and before; a clear flag. -/
theorem meets_LabelRead_bad (s : State)
    (hs : s = labelled .acquiring 3 0 [] 1001 1048576 ∨ s = labelled .locked 4 2 [1] 999 1048576 ∨
      s = labelled .locked 4 1 [1] 1000 1047575 ∨ s = labelled .holdover 3 0 [] 1000 1049577) :
    (s.Settled ∧ s.onBus .label ∧ ∃ m p, s.rmu.openMark = some m ∧ since s.now m.edge ≤ 524288 ∧ s.rmu.prev = some p ∧
      ¬ (num label1001.toList 0 4 = p.label + 1 ∧ 1047576 ≤ m.stamp - p.stamp ∧ m.stamp - p.stamp ≤ 1049576)) ∧
    num #v[0x00#8, 0x00#8, 0x03#8, 0xE9#8, 0xFE#8].toList 4 1 % 2 ≠ 1 := by
  rcases hs with rfl | rfl | rfl | rfl <;>
    exact ⟨⟨settled_of (by decide), onBus_of .., _, _, rfl, by decide, rfl, by decide⟩, by decide⟩

/-- MISSING: a read that failed, in time or not, and a complete one a tick late. -/
theorem meets_LabelRead_missing (s : State) (r : TwEnd 5)
    (hs : s = recoveredOf .label (labelled .locked 4 2 [1] 1000 1048576) ∧ r ∈ [.nack, .timeout, .busStuck] ∨
      s = (labelled .locked 4 1 [1] 1000 1048576).setTb { base.tb with elapsed := base.now + 1#48 } ∧ r = .complete label1001) :
    s.Settled ∧ s.onBusFor .label r ∧ ∃ m, s.rmu.openMark = some m ∧ ((∃ v, r = .complete v) → 524288 < since s.now m.edge) := by
  rcases hs with ⟨rfl, h⟩ | ⟨rfl, rfl⟩
  · refine ⟨settled_of rfl, onBusFor_of .., _, rfl, ?_⟩
    rintro ⟨v, rfl⟩
    simp at h
  · exact ⟨settled_of rfl, ⟨.inl rfl, nofun⟩, _, rfl, fun _ => by decide⟩

/-! ## The array link -/

theorem meets_Backoff :
    (∃ s : State, s.lc.busy = true ∧ s.lc.access ≠ .idle) ∧
    (∃ s : State, s.pins.lkCd = false ∧ s.lc.tx = none ∧ s.lc.access ≠ .idle) ∧ (∃ s : State, s.pins.lkCd = true) ∧
    (∃ s : State, s.Settled ∧ s.lc.access = .backoff 31 ∧ s.lc.busy = false ∧ s.canTransmit = true ∧ s.pins.lkCd = false ∧
      (32 + 64 * 31) * 1048576 ≤ since s.now s.lc.quietSince * linkRate s.cs.image.linkCode ∧ s.lc.slots.report.isSome) ∧
    (∃ s : State, s.lc.access = .backoff 0 ∧ since s.now s.lc.quietSince * linkRate s.cs.image.linkCode < (32 + 64 * 0) * 1048576) :=
  ⟨⟨base.setLc { base.lc with busy := true, access := .guard }, by decide⟩,
   ⟨quietMedium (base.setLc { base.lc with access := .guard }), by decide⟩, ⟨base, rfl⟩,
   ⟨quietMedium (base.setLc { base.lc with
      access := .backoff 31, slots := { Slots.empty with report := some { moment := base.now, body := [], last := true } } }),
      settled_of (by decide), by decide⟩,
   ⟨quietMedium (base.setLc { base.lc with access := .backoff 0, quietSince := base.now }), by decide⟩⟩

def tx (owner : TxOwner) (stamp : Option Stamp) (s : State) : State := s.setLc { s.lc with tx := some (txOf owner (List.replicate 24 0#8) stamp) }

/-- `base` in GUARD, the medium quiet since long, with slots filled. -/
def guarded (x : Slots) (s : State) : State := quietMedium (s.setLc { s.lc with access := .guard, slots := x })

def noticeReq (k : NoticeKind) (m : Elapsed) : NoticeReq :=
  { moment := m, notice := { kind := k, onset := secs 999, mask := 7, peak := 80, duration := 0 } }
def replyReq (m : Elapsed) : ReplyReq := { moment := m, target := 5, t1 := 100, t2 := { time := 200, moment := m } }
def probeReq (m : Elapsed) : ProbeReq := { moment := m, target := 5 }
def beaconReq (m : Elapsed) (x : BeaconMark) : BeaconReq := { moment := m, mark := x }
def reportReq (m : Elapsed) : ReportReq := { moment := m, body := [1#8, 0x80#8, 0#8], last := true }

/-- Every slot filled, and a record that owes a declaration. -/
def allSlots : Slots :=
  { declaration := some 0#48, notice := some (noticeReq .onset 0#48), reply := some (replyReq 0#48), probe := some (probeReq 0#48)
    beacon := some (beaconReq 0#48 .ordinary), report := some (reportReq 0#48) }

def owes (s : State) : State := s.setCu { s.cu with events := [{ recOf .declared with declOwed := true }], nextRid := 1 }

theorem meets_GuardEnds (x : Slots)
    (hx : x = allSlots ∨ x = { allSlots with declaration := none } ∨ x = { allSlots with declaration := none, notice := none } ∨
      x = { allSlots with declaration := none, notice := none, reply := none } ∨
      x = { Slots.empty with beacon := allSlots.beacon, report := allSlots.report } ∨
      x = { Slots.empty with report := allSlots.report }) :
    (let s := guarded x (owes base)
     s.Settled ∧ s.lc.access = .guard ∧ s.lc.busy = false ∧ s.canTransmit = true ∧ s.pins.lkCd = false ∧
       32 * 1048576 ≤ since s.now s.lc.quietSince * linkRate s.cs.image.linkCode ∧ s.owing.isSome) := by
  rcases hx with rfl | rfl | rfl | rfl | rfl | rfl <;> exact ⟨settled_of (by decide), by decide⟩

theorem meets_StampPoint (o : TxOwner) : (tx o none base).lc.tx = some (txOf o (List.replicate 24 0#8) none) ∧
    (txOf o (List.replicate 24 0#8) none).stamp = none := ⟨rfl, rfl⟩

theorem meets_TransmissionEnd :
    (∃ (s : State) (f : TxFrame), s.Settled ∧ s.lc.tx = some f ∧ f.stamp.isSome ∧ ∃ k m, f.owner = .notice k m) ∧
    (∃ (s : State) (f : TxFrame), s.Settled ∧ s.lc.tx = some f ∧ f.stamp.isSome ∧ f.owner = .reply) ∧
    (∃ (s : State) (f : TxFrame), s.Settled ∧ s.lc.tx = some f ∧ f.stamp.isSome ∧ ∃ x, f.owner = .probe x) ∧
    (∃ (s : State) (f : TxFrame), s.Settled ∧ s.lc.tx = some f ∧ f.stamp.isSome ∧ f.owner = .declaration 0 1 ∧
      (s.cu.events.map (fun r => r.rid)).Nodup ∧ ∃ r ∈ s.cu.events, r.rid = 0 ∧ r.state = .declared) :=
  ⟨⟨tx (.notice .onset 1#48) stampB base, _, settled_of (by decide), rfl, rfl, _, _, rfl⟩,
   ⟨tx .reply stampB base, _, settled_of (by decide), rfl, rfl, rfl⟩,
   ⟨tx (.probe 5) stampB base, _, settled_of (by decide), rfl, rfl, _, rfl⟩,
   ⟨tx (.declaration 0 1) stampB (owes base), _, settled_of (by decide), rfl, rfl, rfl, by decide, by decide⟩⟩

def serviced (code : Nat) (s : State) : State :=
  s.setCs { s.cs with pending := some { code := code, argument := 0, nextSegment := 1, resume := .start, held := false } }

theorem meets_TransmissionEnd_beacon :
    (∃ (s : State) (f : TxFrame), s.Rested ∧ s.lc.tx = some f ∧ f.stamp.isSome ∧ f.owner = .beacon .ordinary ∧ s.tb.source = .slow ∧
      s.mc.users = { BriefUsers.empty with beacon := some 0#48 } ∧ s.lc.slots.beacon = none) ∧
    (∃ (s : State) (f : TxFrame), s.Rested ∧ s.lc.tx = some f ∧ f.stamp.isSome ∧ f.owner = .beacon .entry ∧ s.mc.standing ≠ .entering) ∧
    (∃ (s : State) (f : TxFrame), s.Rested ∧ s.lc.tx = some f ∧ f.stamp.isSome ∧ f.owner = .beacon .final ∧ s.mc.standing ≠ .finalBeacon) :=
  ⟨⟨tx (.beacon .ordinary) stampB (((inClass .low (stands .asleep base)).setMc { base.mc with
      standing := .asleep, users := { BriefUsers.empty with beacon := some 0#48 } }).setTb { base.tb with source := .slow }),
      _, rested_of (by decide), rfl, rfl, rfl, rfl, rfl, rfl⟩,
   ⟨tx (.beacon .entry) stampB base, _, rested_of (by decide), rfl, rfl, rfl, by decide⟩,
   ⟨tx (.beacon .final) stampB base, _, rested_of (by decide), rfl, rfl, rfl, by decide⟩⟩

/-- A report segment of a pending request, of the replaced one, with none pending; awake and asleep. -/
theorem meets_TransmissionEnd_report (current last : Bool) (code : Nat) (x : Standing) (hx : x = .active ∨ x = .asleep) :
    (let s := tx (.report current last) stampB (stands x (serviced code base))
     s.Rested ∧ s.tb.source = .fast ∧ s.listenOnly = false ∧ s.pins.sda = true ∧ (s.awake = true ↔ x = .active) ∧
     (∃ f, s.lc.tx = some f ∧ f.stamp.isSome ∧ f.owner = .report current last) ∧ ∃ q, s.cs.pending = some q ∧ q.code = code) ∧
    base.cs.pending = none := by
  rcases hx with rfl | rfl
  · exact ⟨⟨rested_of rfl, rfl, rfl, rfl, ⟨fun _ => rfl, fun _ => rfl⟩, ⟨_, rfl, rfl, rfl⟩, _, rfl, rfl⟩, rfl⟩
  · exact ⟨⟨rested_of rfl, rfl, rfl, rfl, ⟨nofun, nofun⟩, ⟨_, rfl, rfl, rfl⟩, _, rfl, rfl⟩, rfl⟩

/-- The segment before the second or the third of COUNTERS is complete. -/
theorem meets_TransmissionEnd_counters (j arg : Nat) :
    (let q : ServiceReq := { code := 4, argument := arg, nextSegment := j, resume := .counters j, held := false }
     let s := tx (.report true false) stampB (base.setCs { base.cs with pending := some q })
     s.Rested ∧ s.awake = true ∧ s.listenOnly = false ∧ s.cs.pending = some q ∧
     ∃ f, s.lc.tx = some f ∧ f.stamp.isSome ∧ f.owner = .report true false) :=
  ⟨rested_of rfl, rfl, rfl, rfl, _, rfl, rfl, rfl⟩

theorem meets_BeaconCompletion :
    (∃ (s : State) (f : TxFrame), s.lc.tx = some f ∧ f.stamp.isSome ∧ f.owner = .beacon .entry ∧ s.mc.standing = .entering ∧
      s.bm.cls = .low ∧ s.td.active = false ∧ s.uc.queue = [] ∧ s.uc.stacked = [] ∧ s.openEvent = false ∧ s.tb.source = .fast ∧
      s.lc.slots.report = none ∧ s.lc.slots.beacon.isSome) ∧
    (∃ (s : State) (f : TxFrame), s.lc.tx = some f ∧ f.stamp.isSome ∧ f.owner = .beacon .final ∧ s.mc.standing = .finalBeacon ∧
      s.bm.cls = .critical ∧ s.lc.slots.report = none) :=
  ⟨⟨tx (.beacon .entry) stampB (withSlots { Slots.empty with beacon := some (beaconReq 0#48 .ordinary) }
      (inClass .low (stands .entering base))), _, rfl, by decide⟩,
   ⟨tx (.beacon .final) stampB (inClass .critical (stands .finalBeacon base)), _, rfl, by decide⟩⟩

theorem meets_StaleNotice :
    (∃ (s : State) (q : NoticeReq), s.Rested ∧ s.lc.slots.notice = some q ∧ secs 2 ≤ since s.now q.moment) ∧
    (∃ (s : State) (q : NoticeReq), s.Rested ∧ s.lc.slots.notice = some q ∧ since s.now q.moment < secs 2) :=
  ⟨⟨withSlots { Slots.empty with notice := some (noticeReq .onset (base.now - 2097152#48)) } base, _, rested_of (by decide), rfl, by decide⟩,
   ⟨withSlots { Slots.empty with notice := some (noticeReq .onset (base.now - 2097151#48)) } base, _, rested_of (by decide), rfl, by decide⟩⟩

theorem meets_StaleReply :
    (∃ (s : State) (q : ReplyReq), s.Rested ∧ s.lc.slots.reply = some q ∧ millis 400 ≤ since s.now q.t2.moment) ∧
    (∃ (s : State) (q : ReplyReq), s.Rested ∧ s.lc.slots.reply = some q ∧ since s.now q.t2.moment < millis 400) :=
  ⟨⟨withSlots { Slots.empty with reply := some (replyReq (base.now - 419430#48)) } base, _, rested_of (by decide), rfl, by decide⟩,
   ⟨withSlots { Slots.empty with reply := some (replyReq (base.now - 419429#48)) } base, _, rested_of (by decide), rfl, by decide⟩⟩

def probing (chosen : Elapsed) (s : State) : State :=
  { s with
    tau := { s.tau with probe := some { target := 5, prior := .stale, chosenAt := chosen, t1 := some { time := 7549847200, moment := 0#48 } } }
    peers := [{ peerOf 5 with ranging := .probing, attempts := 2 }] }

theorem meets_StaleProbe : ∃ (s : State) (q : ProbeReq) (p : ProbeSlot), s.Rested ∧ s.lc.slots.probe = some q ∧ s.tau.probe = some p ∧
    s.awake = true ∧ millis 500 ≤ since s.now q.moment :=
  ⟨withSlots { Slots.empty with probe := some (probeReq (base.now - 524288#48)) } (probing 0#48 base), _, _,
    rested_of (by decide), rfl, rfl, by decide⟩

theorem meets_FreshProbeAndReport :
    (∃ (s : State) (q : ProbeReq), s.Rested ∧ s.lc.slots.probe = some q ∧ since s.now q.moment < millis 500) ∧
    (∃ (s : State) (q : ReportReq), s.Rested ∧ s.lc.slots.report = some q ∧ since s.now q.moment < secs 5) :=
  ⟨⟨withSlots { Slots.empty with probe := some (probeReq (base.now - 524287#48)) } base, _, rested_of (by decide), rfl, by decide⟩,
   ⟨withSlots { Slots.empty with report := some (reportReq (base.now - 5242879#48)) } base, _, rested_of (by decide), rfl, by decide⟩⟩

theorem meets_StaleReport : ∃ (s : State) (q : ReportReq) (x : ServiceReq), s.Rested ∧ s.lc.slots.report = some q ∧
    s.cs.pending = some x ∧ x.code ≠ 5 ∧ secs 5 ≤ since s.now q.moment :=
  ⟨withSlots { Slots.empty with report := some (reportReq (base.now - 5242880#48)) } (serviced 1 base), _, _,
    rested_of (by decide), rfl, rfl, by decide⟩

def beaconDue (s : State) : State := s.setLc { s.lc with beaconTimer := dueNow }

theorem meets_BeaconTimer :
    (∃ s : State, s.Settled ∧ timerDue s.lc.beaconTimer s.now = true ∧ s.listenOnly = false ∧ s.pins.lkCd = true ∧
      (s.awake = true ∨ s.dormant = true) ∧ s.dormant = false ∧ s.lc.slots.beacon = none) ∧
    (∃ s : State, s.Settled ∧ timerDue s.lc.beaconTimer s.now = true ∧ s.listenOnly = false ∧ s.pins.lkCd = true ∧
      (s.awake = true ∨ s.dormant = true) ∧ s.dormant = true) ∧
    (∃ (s : State) (q : BeaconReq), s.Settled ∧ timerDue s.lc.beaconTimer s.now = true ∧ s.listenOnly = false ∧ s.pins.lkCd = true ∧
      (s.awake = true ∨ s.dormant = true) ∧ s.lc.slots.beacon = some q ∧ q.mark ≠ .ordinary) :=
  ⟨⟨beaconDue base, settled_of (by decide), by decide⟩,
   ⟨beaconDue (inClass .low (stands .asleep base)), settled_of (by decide), by decide⟩,
   ⟨beaconDue (withSlots { Slots.empty with beacon := some (beaconReq 0#48 .entry) } base), _, settled_of (by decide),
      by decide, by decide, by decide, by decide, rfl, by decide⟩⟩

theorem meets_Receiver :
    (∃ s : State, s.lc.rx = .hunting ∧ s.lc.tx = none) ∧
    (∃ (s : State) (stamp : RxStamp), s.lc.rx = .header stamp ∧ s.lc.tx = none ∧ (80#8 : Byte).toNat ≤ 80 ∧ 80 < (81#8 : Byte).toNat) ∧
    (∃ s : State, s.Rested ∧ s.lc.rx.reading = true ∧ s.lc.tx = none ∧ s.pins.lkCd = false ∧ s.mc.capture = none) :=
  ⟨⟨base, rfl, rfl⟩, ⟨base.setLc { base.lc with rx := .header stampA }, _, rfl, rfl, by decide, by decide⟩,
   ⟨quietMedium (base.setLc { base.lc with rx := .header stampA }), rested_of (by decide), by decide⟩⟩

/-! ## Frames -/

/-- `base` with an uplink fitted, the modem in a state whose timer is due, with a queue and a transfer. -/
def up (x : Modem) (q : List Alert) (t : Option Transfer) : State :=
  (withUplink base).setUc { base.uc with modem := x, modemTimer := dueNow, queue := q, transfer := t, healthTimer := dueNow }

/-- A report of another record. -/
def otherAlert (n : Nat) : Alert := { alertOf .event .ready with rid := some (90 + n), id := some { origin := 9, seq := n } }

/-- Queues without an alert of the record: empty, of 7, full of others' reports, full with a HEALTH alert that waits. -/
def otherQueues : List (List Alert) :=
  [[], (List.range 7).map otherAlert, (List.range 8).map otherAlert, (List.range 7).map otherAlert ++ [alertOf .health .ready]]

theorem crcGood_restOf (h : Header) (body : List Byte) (hl : body.length = h.length.toNat) :
    ({ hdr := h, rest := restOf h body } : RxFrame).body = body ∧
    crcBytes (h.bytes ++ ({ hdr := h, rest := restOf h body } : RxFrame).body) = ({ hdr := h, rest := restOf h body } : RxFrame).crc := by
  have hb : ({ hdr := h, rest := restOf h body } : RxFrame).body = body := by
    simp [RxFrame.body, restOf, List.append_assoc, hl]
  refine ⟨hb, ?_⟩
  rw [hb, RxFrame.crc, restOf, field, List.append_assoc, List.drop_left' hl, List.take_left' (crcBytes_length _)]

theorem restOf_length (h : Header) (body : List Byte) (hl : body.length = h.length.toNat) :
    (restOf h body).length = h.length.toNat + 6 := by
  simp [restOf, crcBytes_length, hl]

/-- A frame whose CRC is its own is judged by the tests that follow the CRC's (R37). -/
theorem judge_restOf (s : State) (h : Header) (body : List Byte) (k : FrameKind) (b : Body) (hl : body.length = h.length.toNat)
    (h1 : (!s.listenOnly && h.sender == s.ownId) = false) (h2 : ¬ (h.target ≠ 0 ∧ h.target ≠ s.ownId))
    (h3 : frameKindOf h.kindCode = some k) (h4 : senderWrong h.sender k = false) (h5 : readBody k h.target body = some b)
    (h6 : (s.lastSequence h.sender == some h.sequence.toNat) = false) :
    s.judge { hdr := h, rest := restOf h body } = .accepted k b := by
  obtain ⟨hb, hc⟩ := crcGood_restOf h body hl
  have hg : ({ hdr := h, rest := restOf h body } : RxFrame).crcGood = true := by simp [RxFrame.crcGood, hc]
  simp [State.judge, hg, h1, h2, h3, h4, h5, h6, hb]

/-- `base` at the end of a frame with this header and body. -/
theorem meets_frame (s : State) (h : Header) (body : List Byte) (k : FrameKind) (b : Body) (hl : body.length = h.length.toNat)
    (htx : s.lc.tx = none) (hcap : s.mc.capture = none)
    (h1 : (!s.listenOnly && h.sender == s.ownId) = false) (h2 : ¬ (h.target ≠ 0 ∧ h.target ≠ s.ownId))
    (h3 : frameKindOf h.kindCode = some k) (h4 : senderWrong h.sender k = false) (h5 : readBody k h.target body = some b)
    (h6 : (s.lastSequence h.sender == some h.sequence.toNat) = false) :
    (hears h s).Receives stampA h (restOf h body) ∧ (hears h s).judge { hdr := h, rest := restOf h body } = .accepted k b :=
  ⟨receives_of h htx (restOf_length h body hl) hcap, judge_restOf (hears h s) h body k b hl h1 h2 h3 h4 h5 h6⟩

theorem meets_Discarded_crc : ∃ (s : State) (h : Header) (rest : List Byte), s.Receives stampA h rest ∧ s.Rested ∧
    crcBytes (h.bytes ++ ({ hdr := h, rest := rest } : RxFrame).body) ≠ ({ hdr := h, rest := rest } : RxFrame).crc :=
  ⟨hears (hdrOf 7 5 0 0 0 1) base, hdrOf 7 5 0 0 0 1, List.replicate 6 0#8, receives_of _ rfl rfl rfl, rested_of (by decide), by decide +kernel⟩

/-- The frames of the other clauses: from the own station; for another; of no kind; from station 0, from the terminal, a request from
a station; a malformed body; a repeat. -/
theorem meets_Discarded (h : Header) (body : List Byte)
    (hx : (h, body) = (hdrOf 1 3 0 0 0 1, []) ∨ (h, body) = (hdrOf 1 5 4 0 0 1, []) ∨ (h, body) = (hdrOf 8 5 0 0 0 1, []) ∨
      (h, body) = (hdrOf 1 0 0 0 0 1, []) ∨ (h, body) = (hdrOf 1 15 0 0 0 1, []) ∨ (h, body) = (hdrOf 6 5 3 0 0 1, []) ∨
      (h, body) = (hdrOf 2 5 0 0 0 1, [])) :
    (hears h base).Receives stampA h (restOf h body) ∧ (hears h base).Rested ∧
    crcBytes (h.bytes ++ ({ hdr := h, rest := restOf h body } : RxFrame).body) = ({ hdr := h, rest := restOf h body } : RxFrame).crc := by
  rcases hx with hx | hx | hx | hx | hx | hx | hx <;> obtain ⟨rfl, rfl⟩ := Prod.mk.inj hx <;>
    exact ⟨receives_of _ rfl (restOf_length _ _ rfl) rfl, rested_of (by decide), (crcGood_restOf _ _ rfl).2⟩

/-- A report from station 5 under the sequence its record has. -/
theorem meets_Discarded_repeat :
    (let h := hdrOf 7 5 3 0 3 9
     let s := hears h { base with peers := [peerOf 5] }
     s.Receives stampA h (restOf h [1#8, 0x80#8, 0#8]) ∧ s.Rested ∧ readBody .serviceReport h.target [1#8, 0x80#8, 0#8] = some .report ∧
     (15 : Nat) ≠ h.sender ∧ s.lastSequence h.sender = some h.sequence.toNat) :=
  ⟨receives_of _ rfl (restOf_length _ _ rfl) rfl, rested_of (by decide), by decide⟩

def body0 : BeaconBody :=
  { stamp := 1048575000, quality := 331, distance := 2, mode := .economy, cls := .lean, code := 4, trig := .off, lastOnset := none
    peak := 0, unset := false }

theorem meets_Beacon (s : State) (hs : s = base ∨ s = { base with peers := [{ peerOf 5 with ranging := .ranged, delay := some 400 }] }) :
    (let h := hdrOf 1 5 0 0 24 10
     let rest := restOf h (beaconBytes body0)
     (hears h s).Receives stampA h rest ∧ (hears h s).judge { hdr := h, rest := rest } = .accepted .beacon (.beacon body0) ∧
     (hears h s).Settled ∧ (hears h s).cu.events = [] ∧ body0.lastOnset = none ∧ h.muster = false ∧ (hears h s).awake = true ∧
     (hears h s).listenOnly = false) := by
  rcases hs with rfl | rfl
  · have m := meets_frame base (hdrOf 1 5 0 0 24 10) (beaconBytes body0) .beacon (.beacon body0) rfl rfl rfl (by decide)
      (by decide) (by decide) (by decide) (by decide) (by decide)
    exact ⟨m.1, m.2, settled_of (by decide), by decide⟩
  · have m := meets_frame { base with peers := [{ peerOf 5 with ranging := .ranged, delay := some 400 }] } (hdrOf 1 5 0 0 24 10)
      (beaconBytes body0) .beacon (.beacon body0) rfl rfl rfl (by decide)
      (by decide) (by decide) (by decide) (by decide) (by decide)
    exact ⟨m.1, m.2, settled_of (by decide), by decide⟩

/-- A record whose ring holds n counts: before the fourth frame, at it, and full. -/
theorem meets_Beacon_ring (n : Nat) (hn : n ≤ 16) :
    (let r0 : PeerRecord := { peerOf 5 with ring := List.replicate n 1, ringSum := n, counted := n }
     let s := { base with peers := [r0] }
     let h := hdrOf 1 5 0 0 24 10
     let rest := restOf h (beaconBytes body0)
     (hears h s).Receives stampA h rest ∧ (hears h s).judge { hdr := h, rest := rest } = .accepted .beacon (.beacon body0) ∧
     (hears h s).Settled ∧ (hears h s).cu.events = [] ∧ h.muster = false ∧ (hears h s).peer 5 = some r0 ∧ r0.RingSound) := by
  have m := meets_frame { base with peers := [{ peerOf 5 with ring := List.replicate n 1, ringSum := n, counted := n }] }
    (hdrOf 1 5 0 0 24 10) (beaconBytes body0) .beacon (.beacon body0) rfl rfl rfl (by rfl) (by simp [hdrOf, Header.target]) (by decide)
    (by decide) (by decide) (by rfl)
  exact ⟨m.1, m.2, settled_of rfl, rfl, rfl, rfl, ⟨by simpa using hn, by simp, by simp⟩⟩

/-- An END notice of an onset `age` ticks old at `base`. -/
def noticeAged (age : Nat) : Notice := { kind := .finish, onset := secs 1000 - age, mask := 7, peak := 80, duration := 28 }

def events (r : EventRec) (s : State) : State := s.setCu { s.cu with events := [r], nextRid := 1 }

def noticeHdr : Header := hdrOf 2 5 0 0 12 10

/-- `base` with these entries. -/
def holds (xs : List Entry) (s : State) : State := s.setCu { s.cu with entries := xs }

/-- The table is full: the own entry of second 970 is the first unbound one, or all are bound. -/
def fullTable (bound : Bool) : State :=
  holds ({ entryOf 3 (secs 970) with own := true, bound := if bound then some 9 else none } ::
    (List.range 23).map (fun i => { entryOf (6 + i % 8) (secs (971 + i)) with bound := if bound then some 9 else none })) base

/-- An own unbound entry of second 961, quorum 2. -/
def ownWaits (onset : StationTime) : State :=
  withImage (fun i => { i with quorum := 2 }) (holds [{ entryOf 3 onset with own := true }] base)

/-- The only record, with stations 3 and 6 in it. -/
def joining (state : RecState) (owed : Bool) (update : Nat) : State :=
  events { recOf state with
    parts := [{ station := 3, onset := secs 960, peak := 50 }, { station := 6, onset := secs 961, peak := 60 }]
    earliest := secs 960, declOwed := owed, update := update } base

/-- A frame whose CRC is its own, at a state that has `base`'s link, modes and station id and no peers. -/
theorem meets_frame_at {s : State} (h : Header) (body : List Byte) (k : FrameKind) (b : Body) (hl : body.length = h.length.toNat)
    (hlc : s.lc = base.lc) (hmc : s.mc = base.mc) (hid : s.cs.stationId = 3) (hp : s.peers = [])
    (h1 : h.sender ≠ 3 ∧ h.sender ≠ 15 ∧ (h.target = 0 ∨ h.target = 3)) (h3 : frameKindOf h.kindCode = some k)
    (h4 : senderWrong h.sender k = false) (h5 : readBody k h.target body = some b) :
    (hears h s).Receives stampA h (restOf h body) ∧ (hears h s).Settled ∧
      (hears h s).judge { hdr := h, rest := restOf h body } = .accepted k b := by
  have ho : (hears h s).ownId = 3 := hid
  refine ⟨receives_of h (by rw [hlc]; rfl) (restOf_length _ _ hl) (by rw [hmc]; rfl), ⟨?_, ?_⟩,
    judge_restOf _ _ _ k b hl ?_ ?_ h3 h4 h5 ?_⟩
  · show s.mc.evalDue = false
    rw [hmc]; rfl
  · show s.mc.abandonDue = false
    rw [hmc]; rfl
  · simp [State.listenOnly, ho, h1.1]
  · rw [ho]; rcases h1.2.2 with h | h <;> omega
  · simp [State.lastSequence, h1.2.1, State.peer, show (hears h s).peers = [] from hp]

/-- A notice of station 5 at any of these states. The boundary of retention is 40 s: 40 s old is fresh, one tick more is stale. -/
theorem meets_Notice (s : State) (age : Nat) (kind : NoticeKind) (hs : s = base ∨ s = holds [entryOf 5 (secs 950)] base ∨
      (∃ b, s = fullTable b) ∨ (∃ o, s = ownWaits o) ∨ ∃ x b u, s = joining x b u) (ha : age = secs 40 ∨ age = secs 40 + 1) :
    (let n := { noticeAged age with kind := kind }
     let rest := restOf noticeHdr (noticeBytes n)
     (hears noticeHdr s).Receives stampA noticeHdr rest ∧ (hears noticeHdr s).Settled ∧
     (hears noticeHdr s).judge { hdr := noticeHdr, rest := rest } = .accepted .notice (.notice n)) ∧
    s.tb.time = secs 1000 ∧ s.cs.image.wc = 10 ∧ (noticeAged (secs 40)).onset + secs 10 + secs 30 = secs 1000 ∧
    (noticeAged (secs 40 + 1)).onset + secs 10 + secs 30 < secs 1000 := by
  constructor
  · rcases ha with rfl | rfl <;> cases kind <;> rcases hs with rfl | rfl | ⟨_, rfl⟩ | ⟨_, rfl⟩ | ⟨_, _, _, rfl⟩ <;>
      exact meets_frame_at noticeHdr _ .notice (.notice _) rfl rfl rfl rfl rfl (by decide) (by decide) (by decide) (by decide)
  · rcases hs with rfl | rfl | ⟨_, rfl⟩ | ⟨_, rfl⟩ | ⟨_, _, _, rfl⟩ <;> exact ⟨rfl, rfl, by decide, by decide⟩

/-- The beacon body with a last onset `age` ticks old at `base`. -/
def bodyAged (age : Nat) : BeaconBody := { body0 with lastOnset := some (secs 1000 - age) }

/-- A full table of station 6, bound or not. -/
def full6 (bound : Bool) : State :=
  holds ((List.range 24).map (fun i => { entryOf 6 (secs (970 + i)) with bound := if bound then some 9 else none })) base

/-- A beacon of station 5 with a last onset 40 s old or one tick more, at a table without, with and with a near entry of station 5,
and at full tables. -/
theorem meets_Beacon_recovery (s : State) (age : Nat) (hs : s = base ∨ s = holds [entryOf 5 (secs 950)] base ∨ ∃ b, s = full6 b)
    (ha : age = secs 40 ∨ age = secs 40 + 1) :
    (let h := hdrOf 1 5 0 0 24 10
     let rest := restOf h (beaconBytes (bodyAged age))
     (hears h s).Receives stampA h rest ∧ (hears h s).Settled ∧
     (hears h s).judge { hdr := h, rest := rest } = .accepted .beacon (.beacon (bodyAged age))) ∧
    s.cu.events = [] ∧ (∀ e ∈ s.cu.entries, e.own = false) := by
  have hr : readBody .beacon (hdrOf 1 5 0 0 24 10).target (beaconBytes (bodyAged age)) = some (.beacon (bodyAged age)) := by
    rcases ha with rfl | rfl <;> decide
  constructor
  · rcases hs with rfl | rfl | ⟨_, rfl⟩ <;>
      exact meets_frame_at _ _ .beacon (.beacon (bodyAged age)) rfl rfl rfl rfl rfl (by decide) (by decide) (by decide) hr
  · rcases hs with rfl | rfl | ⟨b, rfl⟩
    · exact ⟨rfl, by decide⟩
    · exact ⟨rfl, by decide⟩
    · exact ⟨rfl, by cases b <;> decide⟩

theorem meets_Beacon_recovery_tables :
    (hdrOf 1 5 0 0 24 10).muster = false ∧
    (∃ e ∈ (holds [entryOf 5 (secs 950)] base).cu.entries, e.station = 5 ∧ timeGap e.onset (secs 960) ≤ secs base.cs.image.wc) ∧
    (secs 1000 - secs 40) + secs base.cs.image.wc + secs 30 = base.tb.time ∧ (∀ b, (full6 b).cu.entries.length = 24) ∧
    (∃ v, (full6 false).cu.entries.find? (fun e => e.bound.isNone) = some v) ∧ ∀ e ∈ (full6 true).cu.entries, e.bound.isSome :=
  ⟨by decide, ⟨_, List.mem_singleton.2 rfl, rfl, by decide⟩, by decide, fun _ => rfl, ⟨entryOf 6 (secs 970), by decide⟩, by decide⟩

/-- A full table of station 6, bound to a DECLARED record of stations 3 and 6; a last onset 40 s old, which does not fit the record
(its latest onset 11 s on), or fits it (10 s on). -/
theorem meets_Beacon_full (late : Nat) (hl : late = secs 971 ∨ late = secs 970) :
    (let h := hdrOf 1 5 0 0 24 10
     let s := hears h ((full6 true).setCu { (full6 true).cu with events := [{ recOf .declared with
       rid := 9, parts := [{ station := 3, onset := secs 970, peak := 20 }, { station := 6, onset := late, peak := 30 }] }] })
     let rest := restOf h (beaconBytes (bodyAged (secs 40)))
     s.Receives stampA h rest ∧ s.Settled ∧ s.judge { hdr := h, rest := rest } = .accepted .beacon (.beacon (bodyAged (secs 40))) ∧
     s.mc.standing = .active ∧ s.bm.cls = .good ∧ s.pins.lkCd = true ∧ s.pins.upRdy = false ∧ h.muster = false ∧
     s.tb.time ≤ (secs 1000 - secs 40) + secs s.cs.image.wc + secs 30 ∧ s.cu.entries.length = 24 ∧
     (∀ e ∈ s.cu.entries, e.bound.isSome ∧ (e.station = h.sender → secs s.cs.image.wc < timeGap e.onset (secs 1000 - secs 40))) ∧
     ∀ r ∈ s.cu.events, r.state ≠ .holdoff ∧ ∀ p ∈ r.parts, p.station ≠ h.sender) := by
  have m := meets_frame_at (s := (full6 true).setCu { (full6 true).cu with events := [{ recOf .declared with
      rid := 9, parts := [{ station := 3, onset := secs 970, peak := 20 }, { station := 6, onset := late, peak := 30 }] }] })
    (hdrOf 1 5 0 0 24 10) (beaconBytes (bodyAged (secs 40)))
    .beacon (.beacon (bodyAged (secs 40))) rfl rfl rfl rfl rfl (by decide) (by decide) (by decide) (by decide)
  exact ⟨m.1, m.2.1, m.2.2, by rcases hl with rfl | rfl <;> decide⟩

/-- `base` in class LOW with an entry beacon waiting. -/
def enteringAt (x : Standing) : State :=
  withSlots { Slots.empty with beacon := some (beaconReq 0#48 .entry) } (inClass .low (stands x base))

/-- A muster in ENTERING, in WATCHING and asleep. -/
theorem meets_Beacon_muster (x : Standing) (hx : x = .entering ∨ x = .watching ∨ x = .asleep) :
    (let h := hdrOf 1 5 0 2 24 10
     let s := hears h (enteringAt x)
     let rest := restOf h (beaconBytes body0)
     s.Receives stampA h rest ∧ s.Settled ∧ s.judge { hdr := h, rest := rest } = .accepted .beacon (.beacon body0) ∧
     h.muster = true ∧ s.cu.events = [] ∧ s.pins.lkCd = true ∧ s.mc.standing = x ∧ (s.awake = true ↔ x ≠ .asleep)) := by
  have m := meets_frame (enteringAt x) (hdrOf 1 5 0 2 24 10) (beaconBytes body0) .beacon (.beacon body0) rfl rfl rfl rfl
    (by simp [hdrOf, Header.target]) (by decide) (by decide) (by decide) rfl
  refine ⟨m.1, settled_of rfl, m.2, rfl, rfl, rfl, rfl, ?_⟩
  rcases hx with rfl | rfl | rfl <;> decide

/-- The end of station 5's trigger, which a record of stations 3 and 5 names. -/
theorem meets_Beacon_records (x : RecState) :
    (let h := hdrOf 1 5 0 0 24 10
     let s := hears h (events (recOf x) { base with peers := [{ peerOf 5 with trig := some .on }] })
     let rest := restOf h (beaconBytes body0)
     s.Receives stampA h rest ∧ s.Settled ∧ s.judge { hdr := h, rest := rest } = .accepted .beacon (.beacon body0) ∧
     s.mc.standing = .active ∧ s.bm.cls = .good ∧ s.pins.lkCd = true ∧ s.pins.upRdy = false ∧
     (∃ p, s.peer 5 = some p ∧ p.trig = some .on) ∧
     ∃ r ∈ s.cu.events, r.state = x ∧ r.parts.any (fun p => p.station == h.sender) = true) := by
  have m := meets_frame (events (recOf x) { base with peers := [{ peerOf 5 with trig := some .on }] })
    (hdrOf 1 5 0 0 24 10) (beaconBytes body0) .beacon (.beacon body0) rfl rfl rfl (by rfl) (by simp [hdrOf, Header.target]) (by decide)
    (by decide) (by decide) (by rfl)
  exact ⟨m.1, settled_of rfl, m.2, rfl, rfl, rfl, rfl, ⟨_, rfl, rfl⟩, _, List.mem_singleton.2 rfl, rfl, by rfl⟩

theorem meets_Notice_tables :
    (let s := hears noticeHdr base
     s.cu.events = [] ∧ (∀ e ∈ s.cu.entries, e.own = false) ∧ s.cu.entries = [] ∧ s.cu.entries.length < 24 ∧
     ∀ e ∈ s.cu.entries, e.station = noticeHdr.sender → secs s.cs.image.wc < timeGap e.onset (secs 960)) ∧
    (let s := hears noticeHdr (holds [entryOf 5 (secs 950)] base)
     s.cu.events = [] ∧ (∀ e ∈ s.cu.entries, e.own = false) ∧ ∃ e, s.cu.entries = [e] ∧ e.station = noticeHdr.sender ∧
     timeGap e.onset (secs 960) ≤ secs s.cs.image.wc ∧ e.bound = none ∧ e.mask = none) ∧
    (let s := hears noticeHdr (fullTable false)
     s.cu.events = [] ∧ s.cu.entries.length = 24 ∧
     (∀ e ∈ s.cu.entries, e.station = noticeHdr.sender → secs s.cs.image.wc < timeGap e.onset (secs 960)) ∧
     ∃ v, s.cu.entries.find? (fun e => e.bound.isNone) = some v ∧ v.own = true ∧ v.confirmed = false ∧
       ∀ e ∈ s.cu.entries.erase v, e.own = false) ∧
    (let s := hears noticeHdr (fullTable true)
     s.cu.entries.length = 24 ∧ ∀ e ∈ s.cu.entries, e.bound.isSome) := by
  refine ⟨by decide, ⟨rfl, by decide, _, rfl, by decide, by decide, rfl, rfl⟩,
    ⟨rfl, rfl, by decide, { entryOf 3 (secs 970) with own := true }, by decide, rfl, rfl, by decide⟩, rfl, by decide⟩

/-- The own entry first or not, 10 s apart at most. -/
theorem meets_Notice_quorum (o : StationTime) (ho : o = secs 950 ∨ o = secs 960 ∨ o = secs 970) :
    (let s := hears noticeHdr (ownWaits o)
     s.mc.standing = .active ∧ s.bm.cls = .good ∧ s.cs.image.uplink = false ∧ s.pins.lkCd = true ∧ s.listenOnly = false ∧
     s.ownId ≤ 14 ∧ 1 ≤ s.cs.image.closeDelay ∧ s.cs.image.quorum = 2 ∧ s.cu.events = [] ∧
     ∃ e, s.cu.entries = [e] ∧ e.own = true ∧ e.station = s.ownId ∧ e.bound = none ∧ e.onset = o ∧
       timeGap e.onset (secs 960) ≤ secs s.cs.image.wc) := by
  rcases ho with rfl | rfl | rfl <;> exact ⟨rfl, rfl, rfl, rfl, rfl, by decide, by decide, rfl, rfl, _, rfl, rfl, rfl, rfl, rfl, by decide⟩

theorem meets_Notice_late (x : RecState) (hx : x = .holdoff ∨ x = .declared ∨ x = .adopted) (b : Bool) (u : Nat) :
    (let s := hears noticeHdr (joining x b u)
     s.cs.image.uplink = false ∧ s.pins.lkCd = true ∧ s.awake = true ∧ s.listenOnly = false ∧ s.cu.entries = [] ∧
     ∃ r, s.cu.events = [r] ∧ r.state = x ∧ r.state.open = true ∧ r.declOwed = b ∧ r.carried = none ∧ r.update = u ∧
       ∀ p ∈ r.parts, p.station ≠ noticeHdr.sender ∧ timeGap p.onset (secs 960) ≤ secs s.cs.image.wc) := by
  have h : ∀ p ∈ [({ station := 3, onset := secs 960, peak := 50 } : Part), { station := 6, onset := secs 961, peak := 60 }],
      p.station ≠ noticeHdr.sender ∧ timeGap p.onset (secs 960) ≤ secs 10 := by decide
  rcases hx with rfl | rfl | rfl <;> exact ⟨rfl, rfl, rfl, rfl, rfl, _, rfl, rfl, rfl, rfl, rfl, rfl, h⟩

/-- The only record's own queues: its alert waits, or is in transfer, or the record has none. -/
def ownQueues : List (List Alert) := otherQueues ++ [[alertOf .event .retry], [alertOf .update .awaiting, otherAlert 1]]

/-- A late participant of a DECLARED record at a station with an uplink. -/
theorem meets_Notice_uplink (q : List Alert) (hq : q ∈ ownQueues) (delivered : Bool) (u : Nat) (hu : u ≤ 2) (z : List Stacked) :
    (let n := { noticeAged (secs 40) with kind := .onset }
     let rest := restOf noticeHdr (noticeBytes n)
     let s := hears noticeHdr ((events { recOf .declared with
       parts := [{ station := 3, onset := secs 960, peak := 50 }], earliest := secs 960, update := u, delivered := delivered }
       (up .off q none)).setUc { (up .off q none).uc with stacked := z })
     s.Receives stampA noticeHdr rest ∧ s.Settled ∧ s.judge { hdr := noticeHdr, rest := rest } = .accepted .notice (.notice n) ∧
     s.mc.standing = .active ∧ s.bm.cls = .good ∧ s.cs.image.uplink = true ∧ s.pins.lkCd = true ∧ s.pins.upRdy = false ∧
     s.listenOnly = false ∧ s.uc.healthDue = false ∧ s.cu.entries = [] ∧ s.uc.queue = q ∧ s.uc.stacked = z ∧
     s.tb.time = secs 1000 ∧ s.cs.image.wc = 10 ∧ ¬ (secs 960 + secs 10 + secs 30 < secs 1000) ∧
     ∃ r, s.cu.events = [r] ∧ r.state = .declared ∧ r.declOwed = false ∧ r.update ≤ 2 ∧
       r.parts = [{ station := 3, onset := secs 960, peak := 50 }] ∧ timeGap (secs 960) (secs 960) ≤ secs 10 ∧
       (∀ a ∈ q, a.id ≠ r.id ∨ a.update ≠ r.update + 1) ∧ (q ∈ otherQueues → ∀ a ∈ q, a.rid ≠ some r.rid)) := by
  have m := meets_frame_at (s := (events { recOf .declared with
      parts := [{ station := 3, onset := secs 960, peak := 50 }], earliest := secs 960, update := u, delivered := delivered }
      (up .off q none)).setUc { (up .off q none).uc with stacked := z })
    noticeHdr (noticeBytes { noticeAged (secs 40) with kind := .onset }) .notice
    (.notice { noticeAged (secs 40) with kind := .onset }) rfl rfl rfl rfl rfl (by decide) (by decide) (by decide)
    (by decide)
  refine ⟨m.1, m.2.1, m.2.2, rfl, rfl, rfl, rfl, rfl, rfl, rfl, rfl, rfl, rfl, rfl, rfl, by decide, _, rfl, rfl, rfl, hu, rfl, by decide, ?_, ?_⟩
  · have h : ∀ q ∈ ownQueues, ∀ a ∈ q, a.update = 0 := by decide
    exact fun a ha => .inr (by rw [h q hq a ha]; exact (Nat.succ_ne_zero u).symm)
  · have h : ∀ q ∈ otherQueues, ∀ a ∈ q, a.rid ≠ some 0 := by decide
    exact h q

/-- A declaration of station 5, its earliest onset `age` ticks old at `base`. -/
def declAged (origin age : Nat) : DeclBody :=
  { id := { origin := origin, seq := 1 }, update := 0, earliest := secs 1000 - age
    parts := [{ station := 5, offset := 0, peak := 9 }, { station := 3, offset := 10000, peak := 8 }] }

def declHdr : Header := hdrOf 3 5 0 0 19 10

/-- The only record, 9 s before the declaration: of the declaration's id, of a lower one or of a higher one. -/
def against (x : RecState) (id : Option EventId) (earliest : StationTime) (owed : Bool) (update : Nat) : State :=
  events { recOf x with id := id, earliest := earliest, declOwed := owed, update := update
                        parts := [{ station := 3, onset := earliest, peak := 50 }] } base

/-- A full event table, far from the declaration: one record removable, or none. -/
def fullEvents (x : RecState) : State :=
  base.setCu { base.cu with
    events := (List.range 8).map (fun i => { recOf (if i = 4 then x else .declared) with
      rid := i, earliest := secs (100 + 20 * i), id := some { origin := 3, seq := i } })
    nextRid := 8 }

theorem meets_Declaration (s : State) (origin age : Nat) (hs : s = base ∨ (∃ x i e b u, s = against x i e b u) ∨ ∃ x, s = fullEvents x)
    (ha : (origin, age) = (6, 0) ∨ (origin, age) = (5, 0) ∨ (origin, age) = (5, secs 600) ∨ (origin, age) = (5, secs 600 + 1)) :
    (let d := declAged origin age
     let rest := restOf declHdr (declBytes d)
     ((hears declHdr s).Receives stampA declHdr rest ∧ (hears declHdr s).Settled ∧
       (hears declHdr s).judge { hdr := declHdr, rest := rest } = .accepted .declaration (.declaration d)) ∧
     s.mc.standing = .active ∧ s.bm.cls = .good ∧ s.cs.image.uplink = false ∧ s.pins.lkCd = true ∧ s.uc.stacked = [] ∧
     s.tb.time = secs 1000 ∧ s.cs.image.maxLife = 600 ∧
     (∀ p ∈ d.parts, ∀ q ∈ d.parts, timeGap (rebuildOnset d.earliest p.offset) (rebuildOnset d.earliest q.offset) ≤ secs 10)) := by
  rcases ha with ha | ha | ha | ha <;> obtain ⟨rfl, rfl⟩ := Prod.mk.inj ha <;> rcases hs with rfl | ⟨_, _, _, _, _, rfl⟩ | ⟨_, rfl⟩ <;>
    exact ⟨meets_frame_at declHdr _ .declaration (.declaration (declAged _ _)) rfl rfl rfl rfl rfl (by decide) (by decide)
      (by decide) (by decide), rfl, rfl, rfl, rfl, rfl, rfl, rfl, by decide⟩

/-- The same at a station with an uplink, with no record or any one, such as one of second 1001. -/
theorem meets_Declaration_uplink (q : List Alert) (hq : q ∈ otherQueues) (e : Option EventRec) :
    (let d := { declAged 5 0 with update := 2 }
     let rest := restOf declHdr (declBytes d)
     let u := up .off q none
     let s := hears declHdr (u.setCu { u.cu with events := e.toList, nextRid := 1 })
     s.Receives stampA declHdr rest ∧ s.Steady ∧ s.judge { hdr := declHdr, rest := rest } = .accepted .declaration (.declaration d) ∧
     s.cs.image.uplink = true ∧ s.pins.lkCd = true ∧ s.pins.upRdy = false ∧ s.uc.healthDue = false ∧ d.id.origin = declHdr.sender ∧
     s.tb.time = secs 1000 ∧ s.cs.image.maxLife = 600 ∧ secs 1000 ≤ d.earliest + secs 600 ∧ s.listenOnly = false ∧
     s.cu.events = e.toList ∧ s.uc.queue = q ∧
     s.uc.stacked = [] ∧ (∀ a ∈ q, ∀ k < 2, a.rid ≠ some k ∧ a.id ≠ some d.id) ∧ s.cu.nextRid = 1 ∧
     s.cs.image.wc = 10 ∧ timeGap (secs 1001) d.earliest ≤ secs 10 ∧ d.earliest < secs 1001 ∧ (recOf .adopted).update < d.update) := by
  have m := meets_frame_at (s := (up .off q none).setCu { (up .off q none).cu with events := e.toList, nextRid := 1 })
    declHdr (declBytes { declAged 5 0 with update := 2 }) .declaration (.declaration { declAged 5 0 with update := 2 }) rfl rfl rfl rfl rfl (by decide) (by decide) (by decide)
    (by decide)
  refine ⟨m.1, ⟨m.2.1, rfl, rfl⟩, m.2.2, rfl, rfl, rfl, rfl, by decide, rfl, rfl, by decide, rfl, rfl, rfl, rfl, ?_, rfl, rfl, by decide,
    by decide, by decide⟩
  have h : ∀ q ∈ otherQueues, ∀ a ∈ q, ∀ k < 2, a.rid ≠ some k ∧ a.id ≠ some { origin := 5, seq := 1 } := by decide
  exact h q hq

/-- The conflict rule's cases at onset second 1000: an earlier or a later record, and one of the same onset under an id above or
below (5, 1). -/
theorem meets_Declaration_conflict (x : RecState) (i : EventId) (e : StationTime) (b : Bool) (u : Nat)
    (hi : i = { origin := 3, seq := 7 } ∨ i = { origin := 5, seq := 0 } ∨ i = { origin := 5, seq := 2 } ∨ i = { origin := 6, seq := 0 })
    (he : e = secs 999 ∨ e = secs 1000 ∨ e = secs 1001) :
    (let s := against x (some i) e b u
     ∃ r, s.cu.events = [r] ∧ r.state = x ∧ r.id ≠ some (declAged 5 0).id ∧ r.rid ≠ s.cu.nextRid ∧ r.declOwed = b ∧ r.update = u ∧
       r.carried = none ∧ timeGap r.earliest (declAged 5 0).earliest ≤ secs 10 ∧ ∀ a ∈ s.cu.entries, a.bound.isSome) := by
  have h : some i ≠ some (declAged 5 0).id ∧ timeGap e (declAged 5 0).earliest ≤ secs 10 := by
    rcases hi with rfl | rfl | rfl | rfl <;> rcases he with rfl | rfl | rfl <;> decide
  exact ⟨_, rfl, rfl, h.1, Nat.zero_ne_one, rfl, rfl, rfl, h.2, fun a ha => absurd ha List.not_mem_nil⟩

/-- A declaration one tick past the maximum life, near a record of the same second, and near none: W_c and one tick away, or near a
CLOSED record of another id. -/
theorem meets_Declaration_old (x : RecState) (i : EventId) (hi : i ≠ { origin := 5, seq := 1 }) (b : Bool) (u : Nat) :
    (let d := declAged 5 (secs 600 + 1)
     let near (s : State) : Prop := ∃ r, s.cu.events = [r] ∧ r.state = x ∧ r.id ≠ some d.id ∧ r.rid ≠ s.cu.nextRid ∧
       timeGap r.earliest d.earliest ≤ secs s.cs.image.wc
     let none (s : State) : Prop := s.cu.events ≠ [] ∧ ∀ r ∈ s.cu.events,
       secs s.cs.image.wc < timeGap r.earliest d.earliest ∨ (r.id ≠ some d.id ∧ r.state.open = false)
     d.earliest + secs base.cs.image.maxLife < base.tb.time ∧ near (against x (some i) (secs 400) b u) ∧
     none (against x (some i) (secs 410) b u) ∧ none (against .closed (some i) (secs 400) b u)) := by
  have hi' : some i ≠ some (declAged 5 (secs 600 + 1)).id := fun h => hi (Option.some.inj h)
  refine ⟨by decide, ⟨_, rfl, rfl, hi', Nat.zero_ne_one, (by decide : timeGap (secs 400) (secs 400 - 1) ≤ secs 10)⟩,
    ⟨List.cons_ne_nil _ _, fun r hr => ?_⟩, ⟨List.cons_ne_nil _ _, fun r hr => ?_⟩⟩ <;>
    cases List.mem_singleton.mp hr
  · exact .inl (by decide : secs 10 < timeGap (secs 410) (secs 400 - 1))
  · exact .inr ⟨hi', rfl⟩

theorem meets_Declaration_full (x : RecState) (hx : x = .closed ∨ x = .merged ∨ x = .declared) :
    (let s := fullEvents x
     s.cu.events.length = 8 ∧
     (∀ r ∈ s.cu.events, r.rid ≠ s.cu.nextRid ∧ r.id ≠ some (declAged 5 0).id ∧ secs 10 < timeGap r.earliest (declAged 5 0).earliest) ∧
     (x ≠ .declared ↔ (s.cu.events.find? (fun r => r.state == x && x != .declared && r.uplink == .none)).isSome)) := by
  rcases hx with rfl | rfl | rfl <;> decide

theorem meets_Probe :
    (let h := hdrOf 4 5 3 0 7 10
     let rest := restOf h (timeBytes (secs 7200))
     (hears h base).Receives stampA h rest ∧ (hears h base).judge { hdr := h, rest := rest } = .accepted .probe (.probe (secs 7200)) ∧
     (hears h base).Settled ∧ (hears h base).pins.lkCd = true ∧ (hears h base).awake = true ∧ (hears h base).listenOnly = false) ∧
    (let h := hdrOf 7 5 3 0 3 10
     let rest := restOf h [1#8, 0x80#8, 0#8]
     (hears h base).Receives stampA h rest ∧ (hears h base).judge { hdr := h, rest := rest } = .accepted .serviceReport .report) := by
  have m := meets_frame base (hdrOf 4 5 3 0 7 10) (timeBytes (secs 7200)) .probe (.probe (secs 7200)) rfl rfl rfl (by decide)
      (by decide) (by decide) (by decide) (by decide) (by decide)
  exact ⟨⟨m.1, m.2, settled_of (by decide), by decide⟩,
    meets_frame base (hdrOf 7 5 3 0 3 10) [1#8, 0x80#8, 0#8] .serviceReport .report rfl rfl rfl (by decide)
      (by decide) (by decide) (by decide) (by decide) (by decide)⟩

/-- A reply to the exchange of `probing`, with a turnaround `t3 - t2`. -/
def replyBody (t2 t3 : Nat) : ReplyBody := { t1 := 7549847200, t2 := t2, t3 := t3 }
def replyBytes (r : ReplyBody) : List Byte := timeBytes r.t1 ++ timeBytes r.t2 ++ timeBytes r.t3

/-- No exchange; a turnaround of 0, of 471,859, of 471,860 and of -1. -/
theorem meets_Reply (s : State) (t2 t3 : Nat)
    (hs : (s, t2, t3) = (base, 0, 0) ∨ (s, t2, t3) = (probing 0#48 base, 5, 5) ∨ (s, t2, t3) = (probing 0#48 base, 5, 471864) ∨
      (s, t2, t3) = (probing 0#48 base, 5, 471865) ∨ (s, t2, t3) = (probing 0#48 base, 5, 4)) :
    (let h := hdrOf 5 5 3 0 21 10
     let b := replyBody t2 t3
     let rest := restOf h (replyBytes b)
     (hears h s).Receives stampA h rest ∧ (hears h s).judge { hdr := h, rest := rest } = .accepted .reply (.reply b) ∧
     (hears h s).Settled ∧ (hears h s).pins.lkCd = true ∧
     ((hears h s).tau.probe = none ∨ ∃ p x, (hears h s).tau.probe = some p ∧ p.target = h.sender ∧ p.t1 = some x ∧ x.time = b.t1)) := by
  rcases hs with hs | hs | hs | hs | hs <;> obtain ⟨h1, h2⟩ := Prod.mk.inj hs <;> obtain ⟨rfl, rfl⟩ := Prod.mk.inj h2 <;> subst h1 <;>
    refine ⟨(receives_of _ rfl (restOf_length _ _ rfl) rfl), judge_restOf _ _ _ .reply (.reply (replyBody _ _)) rfl (by decide)
      (by decide) (by decide) (by decide) (by decide) (by decide),
      settled_of (by decide), by decide, ?_⟩
  · exact .inl rfl
  all_goals exact .inr ⟨_, _, rfl, by decide, rfl, rfl⟩

/-- The tables of the service reports: three records, a record of 14 participants, five unbound entries. -/
def reported : List State :=
  [{ base with peers := [peerOf 1, { peerOf 2 with code := none, mode := none }, peerOf 9] },
   events { recOf .declared with
     parts := (List.range 14).map fun i => { station := i + 1, onset := secs 990 + 1000 * i, peak := 10 * i } } base,
   holds [entryOf 5 (secs 950), entryOf 6 (secs 951), entryOf 7 (secs 952), entryOf 8 (secs 953), entryOf 9 (secs 954)] base]

/-- A request of the terminal, with and without the clear option. -/
theorem meets_Service (s : State) (code arg : Nat)
    (hc : code = 0 ∨ code = 1 ∨ code = 2 ∨ code = 3 ∨ code = 4 ∨ code = 5 ∨ code = 255) (ha : arg = 0 ∨ arg = 1)
    (hs : s = base ∨ s = serviced 2 base ∨ s ∈ reported) :
    (let h := hdrOf 6 15 3 0 2 10
     let rest := restOf h [BitVec.ofNat 8 code, BitVec.ofNat 8 arg]
     (hears h s).Receives stampA h rest ∧
     (hears h s).judge { hdr := h, rest := rest } = .accepted .serviceRequest (.request { code := code, argument := arg }) ∧
     (hears h s).Settled ∧ (hears h s).pins.lkCd = true ∧ (hears h s).awake = true ∧ (hears h s).listenOnly = false) := by
  have hb : s.lc = base.lc ∧ s.mc = base.mc ∧ s.pins = base.pins ∧ s.cs.stationId = 3 := by
    rcases hs with rfl | rfl | hs
    · exact ⟨rfl, rfl, rfl, rfl⟩
    · exact ⟨rfl, rfl, rfl, rfl⟩
    · simp only [reported, List.mem_cons, List.not_mem_nil, or_false] at hs
      rcases hs with rfl | rfl | rfl <;> exact ⟨rfl, rfl, rfl, rfl⟩
  obtain ⟨hl, hm, hp, hi⟩ := hb
  have ho : (hears (hdrOf 6 15 3 0 2 10) s).ownId = 3 := hi
  have h1 : (hdrOf 6 15 3 0 2 10).sender = 15 := by decide
  have h2 : (hdrOf 6 15 3 0 2 10).target = 3 := by decide
  have h3 : (hears (hdrOf 6 15 3 0 2 10) s).lc.terminalSeq = none := by
    show s.lc.terminalSeq = none
    rw [hl]; rfl
  refine ⟨receives_of _ (by rw [hl]; rfl) (restOf_length _ _ rfl) (by rw [hm]; rfl),
    judge_restOf _ _ _ .serviceRequest _ rfl (by rw [ho, h1]; simp) (by rw [ho, h2]; simp) (by decide)
      (by decide) ?_ ?_, ⟨?_, ?_⟩, ?_, ?_, ?_⟩
  · rcases hc with rfl | rfl | rfl | rfl | rfl | rfl | rfl <;> rcases ha with rfl | rfl <;> decide
  · rw [h1, State.lastSequence, if_pos rfl, h3]; rfl
  · show s.mc.evalDue = false
    rw [hm]; rfl
  · show s.mc.abandonDue = false
    rw [hm]; rfl
  · show s.pins.lkCd = true
    rw [hp]; rfl
  · show s.mc.standing.awake = true
    rw [hm]; rfl
  · simp [State.listenOnly, ho]

/-- What the clauses on the reports' data ask of those tables. -/
theorem meets_Service_tables :
    (∀ s ∈ reported, ∀ r ∈ s.peers, 1 ≤ r.id) ∧ (∃ s ∈ reported, s.peers.length = 3) ∧
    (∃ s ∈ reported, ∃ r, s.cu.events = [r] ∧ r.parts.length = 14) ∧
    (∃ s ∈ reported, s.cu.events = [] ∧ s.cu.entries.length = 5 ∧ ∀ e ∈ s.cu.entries, e.bound = none) :=
  ⟨by decide, by decide, ⟨_, .tail _ (.head _), _, rfl, rfl⟩, ⟨_, .tail _ (.tail _ (.head _)), by decide⟩⟩

/-! ## Peers and Time Agreement -/

/-- A record 64 s and one tick old, with code 4. -/
def agedPeer (id : Nat) : PeerRecord := { peerOf id with lastHeard := base.now - 67108865#48 }

theorem meets_PeerExpiry :
    (∃ (s : State) (r : PeerRecord), s.Settled ∧ s.cu.events = [] ∧ s.peer 5 = some r ∧ s.mc.standing.inDormant = false ∧
      secs (4 * 2 ^ (r.code.getD s.cs.image.b)) < s.peerAge r ∧ ∃ p, s.tau.probe = some p ∧ p.target = 5) ∧
    (∃ (s : State) (r : PeerRecord), s.Settled ∧ s.cu.events = [] ∧ s.peer 5 = some r ∧ s.mc.standing.inDormant = false ∧
      secs (4 * 2 ^ (r.code.getD s.cs.image.b)) < s.peerAge r ∧ ∀ p, s.tau.probe = some p → p.target ≠ 5) :=
  ⟨⟨{ probing 0#48 base with peers := [agedPeer 5, peerOf 6] }, _, settled_of (by decide), rfl, rfl, rfl, by decide, _, rfl, rfl⟩,
   ⟨{ base with peers := [agedPeer 5, peerOf 6] }, _, settled_of (by decide), rfl, rfl, rfl, by decide, fun p h => by cases h⟩⟩

def late : State := base.setTb { base.tb with elapsed := 8589934592#48 }
def rangedAt (x : Ranging) (age : Nat) : PeerRecord :=
  { peerOf 5 with ranging := x, delay := some 400, rangeTime := some (late.now - BitVec.ofNat 48 age) }

theorem meets_RangeAges (x : Ranging) (age : Nat)
    (h : (x, age) = (.ranged, secs 4096) ∨ (x, age) = (.unreachable, secs 1024) ∨ (x, age) = (.ranged, secs 4096 - 1) ∨
      (x, age) = (.unreachable, secs 1024 - 1)) :
    (let s : State := { late with peers := [rangedAt x age] }
     s.peer 5 = some (rangedAt x age) ∧ (rangedAt x age).rangeTime = some (late.now - BitVec.ofNat 48 age) ∧
     since s.now (late.now - BitVec.ofNat 48 age) = age) := by
  rcases h with h | h | h | h <;> obtain ⟨rfl, rfl⟩ := Prod.mk.inj h <;> exact ⟨rfl, rfl, by decide⟩

def choosing : State := { base with peers := [peerOf 5, { peerOf 6 with ranging := .stale, rangeTime := some 0#48 }] }

theorem choosing_rest : choosing.tau.rest = none := rfl

theorem meets_ProbeChoice :
    (∃ s : State, s.Settled ∧ s.pins.lkCd = true ∧ s.tau.probe = none ∧ (∀ x, s.tau.rest = some x → x.due s.now = true) ∧
      s.awake = true ∧ s.tb.source = .fast ∧ s.listenOnly = false ∧ s.peers.any PeerRecord.choosable = true) ∧
    (∃ s : State, s.Rested ∧ s.peers.any PeerRecord.choosable = false) ∧
    (∃ s : State, s.Rested ∧ s.peers.any PeerRecord.choosable = true ∧ s.tau.probe.isSome) ∧
    (∃ s : State, s.Rested ∧ s.peers.any PeerRecord.choosable = true ∧ s.tau.probe = none ∧ s.awake = false) ∧
    (∃ s : State, s.Rested ∧ s.peers.any PeerRecord.choosable = true ∧ s.tau.probe = none ∧ s.awake = true ∧ s.tb.source ≠ .fast) ∧
    (∃ s : State, s.Rested ∧ s.peers.any PeerRecord.choosable = true ∧ s.tau.probe = none ∧ s.awake = true ∧
      ∃ x, s.tau.rest = some x ∧ x.due s.now = false) :=
  ⟨⟨choosing, settled_of (by decide), rfl, rfl, fun x h => (nomatch choosing_rest.symm.trans h), rfl, rfl, rfl, by decide⟩,
   ⟨base, base_rested, rfl⟩,
   ⟨{ probing 0#48 base with peers := [peerOf 5] }, rested_of (by decide), by decide⟩,
   ⟨{ stands .sheltered base with peers := [peerOf 5] }, rested_of (by decide), by decide⟩,
   ⟨{ base.setTb { base.tb with source := .warming } with peers := [peerOf 5] }, rested_of (by decide), by decide⟩,
   ⟨{ base.setTau { base.tau with rest := some { start := base.now - 1048575#48, period := secs 1 } } with peers := [peerOf 5] },
      rested_of (by decide), by decide, rfl, rfl, _, rfl, by decide⟩⟩

theorem meets_ProbeTimeout (chosen : Elapsed) (h : chosen = base.now - 524288#48 ∨ chosen = base.now - 524287#48) :
    (let s := probing chosen base
     s.Rested ∧ ∃ p r, s.tau.probe = some p ∧ s.peer p.target = some r ∧ p.chosenAt = chosen) := by
  rcases h with rfl | rfl <;> exact ⟨rested_of (by decide), _, _, rfl, rfl, rfl⟩

def steering (s : State) : State := s.setTau { s.tau with steerTimer := dueNow }
def locked (offsets : List Int) (s : State) : State := s.setRmu { s.rmu with state := .locked, offsets := offsets }

/-- One to three kept offsets whose median lies one below the step threshold, at it, or past it, on either side. -/
theorem meets_Steering (kept offsets : List Int)
    (h : (kept, offsets) = ([131071], [131071]) ∨ (kept, offsets) = ([-131072], [-131072]) ∨
      (kept, offsets) = ([200093, 200092], [200092, 200093]) ∨ (kept, offsets) = ([-5, 4], [-5, 4]) ∨
      (kept, offsets) = ([200092, 200093, 9], [9, 200092, 200093]) ∨ (kept, offsets) = ([131072, -131071, 131071], [-131071, 131071, 131072]))
    (on : Bool) :
    (let s := (steering (locked kept base)).setTd { base.td with state := if on then .on else .off }
     s.Settled ∧ s.awake = true ∧ timerDue s.tau.steerTimer s.now = true ∧ s.tb.source = .fast ∧ s.rmu.state = .locked ∧
     1 ≤ s.rmu.offsets.length ∧ s.rmu.offsets.length ≤ 3 ∧ offsets.Perm s.rmu.offsets ∧ offsets.Pairwise (fun a b => a ≤ b) ∧
     s.hindered = on ∧ s.si.grid = .tracking ∧ s.cs.image.p = 17 ∧
     ∀ o ∈ offsets, s.tb.time + o ≤ maxTime ∧ 0 ≤ s.tb.time + o) := by
  rcases h with h | h | h | h | h | h <;> obtain ⟨rfl, rfl⟩ := Prod.mk.inj h <;> cases on <;>
    exact ⟨settled_of (by decide), by decide⟩

theorem meets_Steering_more :
    (∃ s : State, s.Settled ∧ s.awake = true ∧ timerDue s.tau.steerTimer s.now = true ∧ s.tb.source ≠ .fast) ∧
    (∃ s : State, s.Settled ∧ s.awake = true ∧ timerDue s.tau.steerTimer s.now = true ∧ s.tb.source = .fast ∧ s.rmu.state ≠ .locked ∧
      s.peers ≠ [] ∧ ∀ r ∈ s.peers, s.eligible r = false) :=
  ⟨⟨steering (base.setTb { base.tb with source := .warming }), settled_of (by decide), by decide⟩,
   ⟨steering { base with peers := [peerOf 5] }, settled_of (by decide), by decide⟩⟩

/-- A peer with a delay and an offset sample. -/
def sampled (id distance quality : Nat) (o : Int) : PeerRecord :=
  { peerOf id with ranging := .ranged, delay := some 400, distance := some distance, quality := some quality, sample := some o }

/-- The spec's example of a slew, two peers that call for a step, and a free run of one peer with the own clock. -/
theorem meets_Steering_peers (peers : List PeerRecord) (g : Nat) (offsets : List Int) (best : Nat)
    (h : (peers, g, offsets, best) =
        ([sampled 5 1 120 2900, sampled 6 1 80 3000, sampled 7 1 95 3400, sampled 8 3 9 9000], 1, [2900, 3000, 3400], 80) ∨
      (peers, g, offsets, best) = ([sampled 2 0 30 399000, sampled 9 0 30 401000], 0, [399000, 401000], 30) ∨
      (peers, g, offsets, best) = ([sampled 2 15 9 (-7)], 15, [-7, 0], 9)) (on : Bool) :
    (let s := steering ({ base with peers := peers }.setTd { base.td with state := if on then .on else .off })
     s.Settled ∧ s.awake = true ∧ timerDue s.tau.steerTimer s.now = true ∧ s.tb.source = .fast ∧ s.rmu.state ≠ .locked ∧ g ≤ 15 ∧
     s.hindered = on ∧ (∃ r ∈ s.peers, s.eligible r = true ∧ r.distance = some g) ∧
     (∀ r ∈ s.peers, s.eligible r = true → g ≤ r.distance.getD 0) ∧
     (let near : List PeerRecord := s.peers.filter (fun r => s.eligible r && r.distance == some g)
      let sources : List (Int × Nat) := near.map (fun r => (r.sample.getD 0, r.quality.getD 0)) ++
        (if g = 15 then [(0, s.tb.quality)] else [])
      offsets.Perm (sources.map (fun x => x.1)) ∧ offsets.Pairwise (fun a b => a ≤ b) ∧
      (∃ x ∈ sources, x.2 = best) ∧ ∀ x ∈ sources, best ≤ x.2)) := by
  rcases h with h | h | h <;> obtain ⟨rfl, h1⟩ := Prod.mk.inj h <;> obtain ⟨rfl, h2⟩ := Prod.mk.inj h1 <;>
    obtain ⟨rfl, rfl⟩ := Prod.mk.inj h2 <;> cases on <;>
    exact ⟨settled_of (by decide), by decide⟩

/-! ## Samples and triggers -/

/-- `base` in a grid state with sample 0 of second 1000 expected, `d` ticks from its time. -/
def sampling (x : Grid) (faultRun goodRun : Nat) (time : Nat) : State :=
  (base.setSi { base.si with grid := x, faultRun := faultRun, goodRun := goodRun }).setTb { base.tb with time := time }

/-- The last bit of a set in progress, and a whole set from its framed first bit on, complete a set; the latter may cut one. -/
theorem meets_Completes (s : State) (n : Nat) :
    (∃ edges, (almost s).Completes edges (Vector.replicate 10 0#8)) ∧
    (∃ edges set, (s.setSi { s.si with bitCount := n }).Completes edges set ∧ (edges.map PortEdge.frm).head? = some true) := by
  refine ⟨⟨[{ bit := false, frm := false }], .inr ⟨(by decide : 1 ≤ 79), (by decide : 79 ≤ 79), rfl, rfl, ?_⟩⟩,
    ⟨{ bit := false, frm := true } :: List.replicate 79 { bit := false, frm := false }, Vector.replicate 10 0#8, .inl ⟨?_, ?_⟩, rfl⟩⟩
  · show List.replicate 79 false ++ [false] = _
    rw [← List.replicate_succ']
    rfl
  · simp
  · simp only [List.map_cons, List.map_replicate]
    rfl

theorem meets_Sets :
    (∃ s : State, s.Steady ∧ s.si.grid = .off) ∧ (∃ s : State, s.Steady ∧ s.si.grid = .unaligned) ∧
    (∀ x g t, x = Grid.tracking ∧ g = 0 ∨ x = .fault ∧ g = 0 ∨ x = .fault ∧ g = 1 → t = secs 1000 - 1310 ∨ t = secs 1000 + 1310 →
      (let s := sampling x 2 g t
       s.Steady ∧ s.si.grid = x ∧ ∃ slot, s.si.slot = some slot ∧
         (let e := slot.sec * 1048576 + slot.index * 1048576 / sampleRate s.cs.image.sampleCode + s.cs.image.latency
          let tol := 1048576 / (8 * sampleRate s.cs.image.sampleCode)
          e ≤ s.tb.time + tol ∧ s.tb.time ≤ e + tol))) ∧
    (∀ x f, x = Grid.tracking ∧ f = 1 ∨ x = .tracking ∧ f = 2 ∨ x = .fault ∧ f = 2 →
      (let s := sampling x f 0 (secs 1000 - 1311)
       s.Steady ∧ s.si.grid = x ∧ s.si.faultRun = f ∧ ∃ slot, s.si.slot = some slot ∧
         s.tb.time + 1048576 / (8 * sampleRate s.cs.image.sampleCode) <
           slot.sec * 1048576 + slot.index * 1048576 / sampleRate s.cs.image.sampleCode + s.cs.image.latency)) := by
  refine ⟨⟨sampling .off 0 0 0, steady_of (by decide) rfl rfl, rfl⟩,
    ⟨sampling .unaligned 0 0 0, steady_of (by decide) rfl rfl, rfl⟩, ?_, ?_⟩
  · intro x g t h ht
    rcases h with ⟨rfl, rfl⟩ | ⟨rfl, rfl⟩ | ⟨rfl, rfl⟩ <;> rcases ht with rfl | rfl <;>
      exact ⟨steady_of (by decide) rfl rfl, rfl, _, rfl, by decide⟩
  · intro x f h
    rcases h with ⟨rfl, rfl⟩ | ⟨rfl, rfl⟩ | ⟨rfl, rfl⟩ <;>
      exact ⟨steady_of (by decide) rfl rfl, rfl, rfl, _, rfl, by decide⟩

/-- A set that completes past the ended windows of the slots from `g0` on, at the rate 100 and the latency 0: one tick past the end
of the last, in the first and the last tick of the next slot's window, and in the last tick before it opens, within a second and
across the end of one. -/
theorem meets_Sets_late (x : Grid) (hx : x = .tracking ∨ x = .fault) (run good time : Nat) (g0 g : GridSlot)
    (h : ((g0, g) = (⟨1000, 0⟩, ⟨1000, 2⟩) ∧ (time = 1048576000 + 11796 ∨ time = 1048576000 + 19660 ∨ time = 1048576000 + 19661 ∨
        time = 1048576000 + 22281)) ∨
      ((g0, g) = (⟨999, 99⟩, ⟨1000, 0⟩) ∧ (time = 1048576000 - 9175 ∨ time = 1048576000 - 1311 ∨ time = 1048576000 - 1310 ∨
        time = 1048576000 + 1310))) :
    (let s := (sampling x run good time).setSi { base.si with grid := x, faultRun := run, goodRun := good, slot := some g0 }
     let expected (y : GridSlot) : Nat := y.sec * 1048576 + y.index * 1048576 / 100
     s.Steady ∧ s.si.grid = x ∧ s.si.slot = some g0 ∧ s.tb.time = time ∧ sampleRate s.cs.image.sampleCode = 100 ∧
     s.cs.image.latency = 0 ∧ 1048576 / (8 * 100) = 1310 ∧ g0.index < 100 ∧ g.index < 100 ∧
     g0.sec * 100 + g0.index < g.sec * 100 + g.index ∧
     (∀ y : GridSlot, y.index < 100 → g0.sec * 100 + g0.index ≤ y.sec * 100 + y.index →
       y.sec * 100 + y.index < g.sec * 100 + g.index → expected y + 1310 < time) ∧ time ≤ expected g + 1310) := by
  rcases h with ⟨h, ht⟩ | ⟨h, ht⟩ <;> obtain ⟨rfl, rfl⟩ := Prod.mk.inj h <;>
    refine ⟨steady_of (by rcases hx with rfl | rfl <;> rfl) rfl rfl, rfl, rfl, rfl, rfl, rfl, by decide, by decide, by decide, by decide, ?_, ?_⟩
  · intro y h1 h2 h3
    have : y.sec = 1000 ∧ y.index ≤ 1 := by dsimp only at h2 h3; omega
    dsimp only; rw [this.1]; omega
  · dsimp only; omega
  · intro y h1 h2 h3
    have : y.sec = 999 ∧ y.index = 99 := by dsimp only at h2 h3; omega
    dsimp only; rw [this.1, this.2]; omega
  · dsimp only; omega

/-- A channel below or above its ratios, the last sample of its settling, or blanked. -/
def channelAt (x : ChanState) (high : Bool) (blank : Nat) : Channel :=
  { state := x, init := true, m := 0, s := if high then 20000000 else 100, l := 30000, warm := false, settle := 1, blank := blank, ratio := 20 }

/-- `sampling` on the grid with a trigger state and its channels, the two thresholds at 2. -/
def voting (x : TrigState) (c : Channel) : State :=
  withImage (fun i => { i with vote := 2, quorum := 2 })
    ((sampling .tracking 0 0 (secs 1000)).setTd { base.td with
      state := x, z := c, n := c, e := c, onset := some (secs 990), mask := some 1, peak := 18 })

/-- Each trigger state meets a set that leaves the vote below its threshold, and one that brings it there. -/
theorem meets_Sets_trigger (x : TrigState) (c : Channel) (above : Bool)
    (h : (c, above) = (channelAt .quiet false 0, false) ∨ (c, above) = (channelAt .quiet true 0, true) ∨
      (c, above) = (channelAt .on true 3, true) ∨ (c, above) = (channelAt .settling true 0, false)) :
    (let s := voting x c
     let t := run lastEdge (almost s)
     s.Steady ∧ s.td.state = x ∧ s.si.grid = .tracking ∧ s.si.slot = some { sec := 1000, index := 0 } ∧
     s.tb.time = 1000 * 1048576 + s.cs.image.latency ∧ s.pins.lkCd = true ∧ s.pins.upRdy = false ∧ s.listenOnly = false ∧
     s.cu.entries = [] ∧ s.cu.events = [] ∧ 2 ≤ s.cs.image.quorum ∧ s.cs.image.latency ≤ 262143 ∧ min s.cs.image.vote s.enabledCount = 2 ∧
     (x ≠ .stopped → t.td.z.state = (if above then .on else .quiet) ∧ t.td.n.state = t.td.z.state ∧ t.td.e.state = t.td.z.state)) := by
  rcases h with h | h | h | h <;> obtain ⟨rfl, rfl⟩ := Prod.mk.inj h <;> cases x <;>
    exact ⟨steady_of (by decide) rfl rfl, by decide⟩

/-- Channels that are initialised or not, blanked or not, in each state. -/
theorem meets_Channel (x : ChanState) (hx : x ≠ .stopped) (high : Bool) (blank : Nat) (init : Bool) :
    ({ channelAt x high blank with init := init } : Channel).state ≠ .stopped := hx

theorem meets_PartialSet :
    (∀ (n : Nat) (f : Bool), ∃ (s : State) (e : PortEdge), s.si.grid ≠ .off ∧ e.frm = f ∧ s.si.bitCount = n) ∧
    (∃ s : State, s.si.grid = .off) ∧
    (∃ (s : State) (g : GridSlot), s.si.slot = some g ∧
      g.sec * 1048576 + g.index * 1048576 / sampleRate s.cs.image.sampleCode + s.cs.image.latency +
        1048576 / (8 * sampleRate s.cs.image.sampleCode) < s.tb.time) ∧
    (∃ (s : State) (g : GridSlot), s.si.slot = some g ∧
      s.tb.time = g.sec * 1048576 + g.index * 1048576 / sampleRate s.cs.image.sampleCode + s.cs.image.latency +
        1048576 / (8 * sampleRate s.cs.image.sampleCode)) :=
  ⟨fun n f => ⟨base.setSi { base.si with bitCount := n }, { bit := true, frm := f }, nofun, rfl, rfl⟩,
   ⟨State.reset, rfl⟩,
   ⟨sampling .tracking 0 0 (secs 1000 + 1311), _, rfl, by decide⟩,
   ⟨sampling .tracking 0 0 (secs 1000 + 1310), _, rfl, by decide⟩⟩

/-- `base` with its trigger in HOLD, the hold due now; the onset notice still waits. -/
def holding (void : Bool) : State :=
  (withSlots { Slots.empty with notice := some (noticeReq .onset base.now) } base).setTd { base.td with
    state := .hold, holdTimer := dueNow, onset := some (secs 996), endAt := some (secs 998), mask := some 7, peak := 80
    void := void, outstanding := some base.now }

theorem meets_TriggerTimers (void : Bool) (q : NoticeReq) (hq : q = noticeReq .onset base.now) :
    (holding void).Steady ∧ (holding void).td.state = .hold ∧ timerDue (holding void).td.holdTimer (holding void).now = true ∧
    (holding void).td.onset = some (secs 996) ∧ (holding void).td.endAt = some (secs 998) ∧ (holding void).pins.lkCd = true ∧
    (holding void).pins.upRdy = false ∧ (holding void).listenOnly = false ∧ secs 996 ≤ secs 998 ∧ (holding void).td.void = void ∧
    (holding void).td.outstanding.isSome ∧ (holding void).lc.slots.notice = some q ∧ q.notice.kind = .onset := by
  subst hq
  cases void <;> exact ⟨steady_of (by decide) rfl rfl, by decide⟩

theorem meets_Overlong : ∃ s : State, s.td.state = .on ∧ timerDue s.td.overTimer s.now = true :=
  ⟨base.setTd { base.td with state := .on, overTimer := dueNow }, by decide⟩

/-! ## Coincidence -/

/-- An old unbound own entry beside one exactly 40 s old. -/
theorem meets_Retention :
    (∃ s : State, s.Settled ∧ s.pins.lkCd = true ∧ s.pins.upRdy = false ∧ s.td.trim ≤ 64 ∧ s.count .unconfirmedTriggers ≤ 65535 ∧
      (∃ e ∈ s.cu.entries, e.own = true ∧ e.bound = none ∧ e.onset + secs s.cs.image.wc + secs 30 < s.tb.time) ∧
      (∃ e ∈ s.cu.entries, e.onset + secs s.cs.image.wc + secs 30 = s.tb.time)) ∧
    (∃ s : State, timerDue s.td.trimTimer s.now = true) :=
  ⟨⟨(base.setCu { base.cu with entries := [{ entryOf 3 (secs 960 - 1) with own := true }, entryOf 5 (secs 960)] }).setTd { base.td with trim := 64 },
      settled_of (by decide), by decide⟩,
   ⟨base.setTd { base.td with trimTimer := dueNow }, by decide⟩⟩

theorem meets_Holdoff : ∃ (s : State) (r : EventRec), s.Steady ∧ s.pins.lkCd = true ∧ s.listenOnly = false ∧ s.cs.image.uplink = false ∧
    s.cu.events = [r] ∧ r.state = .holdoff ∧ timerDue r.holdoff s.now = true :=
  ⟨events { recOf .holdoff with id := none, holdoff := dueNow } base, _, steady_of (by decide) rfl rfl, rfl, rfl, rfl, rfl, rfl, by decide⟩

/-- The same at a station with an uplink, before queues of others. -/
theorem meets_Holdoff_uplink (q : List Alert) (hq : q ∈ otherQueues) :
    (let s := events { recOf .holdoff with id := none, holdoff := dueNow } (up .off q none)
     s.Steady ∧ s.pins.lkCd = true ∧ s.pins.upRdy = false ∧ s.listenOnly = false ∧ s.cs.image.uplink = true ∧
     s.uc.healthDue = false ∧ (∃ r, s.cu.events = [r] ∧ r.state = .holdoff ∧ timerDue r.holdoff s.now = true ∧
       (∀ z ∈ s.uc.stacked, z.rid ≠ r.rid) ∧
       ∀ a ∈ s.uc.queue, a.rid ≠ some r.rid ∧ a.id ≠ some { origin := s.ownId, seq := s.cu.ownEventSeq })) ∧
    (∃ x ∈ otherQueues, 8 ≤ x.length ∧ x.any (fun a => a.kind == .health && (a.turn == .ready || a.turn == .retry)) = true) ∧
    ∃ x ∈ otherQueues, 8 ≤ x.length ∧ ∀ a ∈ x, a.kind ≠ .health := by
  refine ⟨⟨steady_of rfl rfl rfl, rfl, rfl, rfl, rfl, rfl, _, rfl, rfl,
    show timerDue dueNow base.now = true by decide, nofun, ?_⟩, by decide, by decide⟩
  revert q
  show ∀ q ∈ otherQueues, ∀ a ∈ q, _
  decide

/-- A HOLDOFF record due beside a DECLARED one, with an entry of each and an unbound one. -/
theorem meets_Holdoff_dissolved : ∃ (s : State) (r x : EventRec), s.Steady ∧ s.pins.lkCd = true ∧ s.listenOnly = false ∧
    s.cs.image.uplink = false ∧ s.cu.events = [r, x] ∧ r.rid ≠ x.rid ∧ r.state = .holdoff ∧ timerDue r.holdoff s.now = true ∧
    x.state = .declared ∧ timeGap x.earliest r.earliest ≤ secs s.cs.image.wc ∧ (∃ e ∈ s.cu.entries, e.bound = none) ∧
    (∃ e ∈ s.cu.entries, e.bound = some r.rid) ∧ ∃ e ∈ s.cu.entries, e.bound = some x.rid :=
  ⟨base.setCu { base.cu with
      events := [{ recOf .holdoff with id := none, holdoff := dueNow }, { recOf .declared with rid := 1 }], nextRid := 2
      entries := [entryOf 9 (secs 930), { entryOf 5 (secs 990) with bound := some 0 }, { entryOf 4 (secs 991) with bound := some 1 }] },
    _, _, steady_of (by decide) rfl rfl, rfl, rfl, rfl, rfl, by decide⟩

/-- A live record due for closing, and a closed one due for removal. -/
theorem meets_Closure :
    (∃ s : State, s.Steady ∧ s.pins.lkCd = true ∧ s.pins.upRdy = false ∧ ∃ r ∈ s.cu.events, r.state.live = true ∧
      secs s.cs.image.closeDelay ≤ since s.now r.lastEnd) ∧
    (∃ s : State, s.Steady ∧ s.pins.lkCd = true ∧ s.pins.upRdy = false ∧ (s.cu.events.map (fun r => r.rid)).Nodup ∧
      ∃ r ∈ s.cu.events, r.state = .closed ∧ ∃ m, r.finished = some m ∧ secs s.cs.image.wc + secs 30 ≤ since s.now m) :=
  ⟨⟨events { recOf .declared with lastEnd := base.now - 31457280#48 } base, steady_of (by decide) rfl rfl, by decide⟩,
   ⟨events { recOf .closed with finished := some (base.now - 41943040#48) } base, steady_of (by decide) rfl rfl, rfl, rfl, by decide,
      _, List.mem_singleton.2 rfl, rfl, _, rfl, by decide⟩⟩

/-! ## The uplink -/

theorem meets_UplinkTimers :
    (∃ s : State, s.Steady ∧ s.cs.image.uplink = true ∧ timerDue s.uc.healthTimer s.now = true ∧ s.uc.queue = [] ∧ s.uc.modem = .off) ∧
    (∃ s : State, s.Rested ∧ s.cs.image.uplink = true ∧ timerDue s.uc.healthTimer s.now = true ∧ (s.bm.cls = .low ∨ s.bm.cls = .critical)) ∧
    (∃ (s : State) (a : Alert) (w : Timer), s.Settled ∧ s.uc.queue = [a] ∧ a.turn = .retry ∧ a.retryWait = some w ∧ w.due s.now = true ∧
      s.uc.modem = .warmUp) ∧
    (∀ q, q = [] ∨ q = [alertOf .health .ready] ∨ q = [{ alertOf .health .retry with retryWait := dueNow }] →
      (let s := up .warmUp q none
       s.Settled ∧ s.awake = true ∧ s.cs.image.uplink = true ∧ s.uc.modem = .warmUp ∧ timerDue s.uc.modemTimer s.now = true ∧ s.pins.upRdy = false)) ∧
    (∃ s : State, s.uc.modem = .powerCycle ∧ timerDue s.uc.modemTimer s.now = true) ∧
    (∃ s : State, s.uc.modem = .idle ∧ s.uc.queue = [] ∧ timerDue s.uc.modemTimer s.now = true) := by
  refine ⟨⟨up .off [] none, steady_of (by decide) rfl rfl, by decide⟩,
    ⟨inClass .low (up .off [] none), rested_of (by decide), by decide⟩,
    ⟨up .warmUp [{ alertOf .health .retry with retryWait := dueNow }] none, _, _, settled_of (by decide), rfl, rfl, rfl, by decide, rfl⟩,
    ?_, ⟨up .powerCycle [] none, by decide⟩, ⟨up .idle [] none, by decide⟩⟩
  intro q h
  rcases h with rfl | rfl | rfl <;> exact ⟨settled_of (by decide), by decide⟩

theorem meets_Transfer :
    (∃ (s : State) (a : Alert), s.Settled ∧ s.uc.modem = .readyWait ∧ s.uc.head = some a ∧ a.kind = .event ∧ ∃ k r, a.rid = some k ∧ s.rec? k = some r) ∧
    (∃ (s : State) (a : Alert), s.Settled ∧ s.uc.modem = .readyWait ∧ s.uc.head = some a ∧ a.kind = .health) ∧
    (∃ s : State, s.uc.modem ≠ .readyWait) ∧
    (∃ (s : State) (x : Transfer) (k : Nat) (r : EventRec), s.uc.modem = .sending ∧ s.uc.transfer = some x ∧ x.cut = none ∧ x.fetched < x.segments ∧
      x.kind = .event ∧ x.rid = some k ∧ s.rec? k = some r ∧ r.id = x.id ∧ r.update = x.update ∧ r.parts.length = x.count) ∧
    (∃ (s : State) (x : Transfer) (k : Nat) (r : EventRec), s.uc.modem = .sending ∧ s.uc.transfer = some x ∧ x.cut = none ∧ x.fetched < x.segments ∧
      x.kind = .update ∧ x.rid = some k ∧ s.rec? k = some r ∧ r.update ≠ x.update) ∧
    (∃ (s : State) (x : Transfer), s.uc.modem = .sending ∧ s.uc.transfer = some x ∧ x.cut = none ∧ x.fetched < x.segments ∧ x.kind = .health) ∧
    (∃ (s : State) (x : Transfer) (k : Nat) (r : EventRec), s.uc.modem = .sending ∧ s.uc.transfer = some x ∧ x.cut = none ∧ x.fetched < x.segments ∧
      x.kind = .retract ∧ x.rid = some k ∧ s.rec? k = some r ∧ r.state = .merged) ∧
    (∃ (s : State) (x : Transfer) (a : Alert), s.uc.modem = .sending ∧ s.uc.transfer = some x ∧ x.cut = none ∧ x.fetched = x.segments ∧
      s.uc.queue = [a] ∧ a.turn = .sending) :=
  ⟨⟨events (recOf .declared) (up .readyWait [alertOf .event .ready] none), _, settled_of (by decide), rfl, rfl, rfl, _, _, rfl, rfl⟩,
   ⟨up .readyWait [alertOf .health .ready] none, _, settled_of (by decide), rfl, rfl, rfl⟩, ⟨base, by decide⟩,
   ⟨events (recOf .declared) (up .sending [alertOf .event .sending] (some (transferOf .event 3 2 none))), _, _, _, rfl, rfl, rfl, by decide, rfl, rfl, rfl,
      rfl, rfl, rfl⟩,
   ⟨events { recOf .declared with update := 2 } (up .sending [alertOf .update .sending] (some (transferOf .update 3 1 none))), _, _, _, rfl, rfl, rfl,
      by decide, rfl, rfl, rfl, by decide⟩,
   ⟨up .sending [alertOf .health .sending] (some (transferOf .health 1 0 none)), _, rfl, rfl, rfl, by decide, rfl⟩,
   ⟨events { recOf .merged with mergedInto := some { origin := 4, seq := 1 } } (up .sending [alertOf .retract .sending] (some (transferOf .retract 1 0 none))),
      _, _, _, rfl, rfl, rfl, by decide, rfl, rfl, rfl, rfl⟩,
   ⟨up .sending [alertOf .health .sending] (some (transferOf .health 1 1 none)), _, _, rfl, rfl, rfl, rfl, rfl, rfl⟩⟩

/-- A HEALTH alert and its transfer in AWAITING, at its first and at its last attempt. -/
theorem meets_Reply_health (n : Nat) (h : n = 0 ∨ n = 4) :
    (let a := { alertOf .health .awaiting with attempts := n }
     let x := { transferOf .health 1 1 none with onTimes := some (3, 4) }
     let s := up .awaiting [a] (some x)
     s.Steady ∧ s.cs.image.uplink = true ∧ s.pins.lkCd = true ∧ s.uc.modem = .awaiting ∧ s.uc.transfer = some x ∧ s.uc.queue = [a] ∧
     a.turn = .awaiting ∧ s.uc.stacked = [] ∧ s.uc.healthDue = false ∧ a.kind = .health ∧ a.rid = none ∧ a.withdrawn = false ∧
     x.onTimes = some (3, 4) ∧ timerDue s.uc.modemTimer s.now = true) := by
  rcases h with rfl | rfl <;> exact ⟨steady_of (by decide) rfl rfl, by decide⟩

theorem meets_Reply_report :
    (let a := alertOf .event .awaiting
     let x := transferOf .event 3 3 none
     let r := recOf .declared
     let s := events r (up .awaiting [a] (some x))
     s.Steady ∧ s.cs.image.uplink = true ∧ s.pins.lkCd = true ∧ s.uc.modem = .awaiting ∧ s.uc.transfer = some x ∧ s.uc.queue = [a] ∧
     a.turn = .awaiting ∧ s.uc.stacked = [] ∧ s.uc.healthDue = false ∧ a.kind = .event ∧ a.rid = some r.rid ∧ s.cu.events = [r] ∧
     r.state.live = true ∧ a.id = r.id ∧ a.withdrawn = false ∧ r.update = x.update) :=
  ⟨steady_of (by decide) rfl rfl, by decide⟩

/-- The reply to a report whose record has a new id, and to a withdrawn one of a MERGED record. -/
theorem meets_Reply_former (w d : Bool) (n : Nat) (hn : n = 3 ∨ n = 4) :
    (let a := { alertOf .event .awaiting with withdrawn := w, attempts := n }
     let x := transferOf .event 3 3 none
     let r := { recOf (if w then .merged else .adopted) with id := if w then a.id else some { origin := 2, seq := 0 }, delivered := d }
     let s := events r (up .awaiting [a] (some x))
     s.Steady ∧ s.cs.image.uplink = true ∧ s.pins.lkCd = true ∧ s.pins.upRdy = false ∧ s.uc.modem = .awaiting ∧ s.uc.transfer = some x ∧
     s.uc.queue = [a] ∧ a.turn = .awaiting ∧ s.uc.stacked = [] ∧ a.kind = .event ∧ a.rid = some r.rid ∧ s.cu.events = [r] ∧
     r.delivered = d ∧ a.withdrawn = w ∧ a.attempts = n ∧ timerDue s.uc.modemTimer s.now = true ∧
     (w = false → r.state.live = true ∧ a.id ≠ r.id) ∧ (w = true → r.state = .merged ∧ a.id = r.id)) := by
  rcases hn with rfl | rfl <;> cases w <;> cases d <;> exact ⟨steady_of (by decide) rfl rfl, by decide⟩

/-- A HEALTH alert's reply with one entry stacked: behind the alerts of seven other records, or alone. -/
theorem meets_Reply_stacked (z : Stacked) (x : RecState) (d : Bool) (full : Bool)
    (hz : (z, x) = ({ kind := .event, rid := 0, retracts := none }, .declared) ∨
      (z, x) = ({ kind := .retract, rid := 0, retracts := some { origin := 2, seq := 0 } }, .adopted) ∨
      (z, x) = ({ kind := .retract, rid := 0, retracts := some { origin := 3, seq := 7 } }, .merged)) :
    (let a := { alertOf .health .awaiting with attempts := 4 }
     let r := { recOf x with owedUplink := some 2, delivered := d }
     let n := if full then 7 else 0
     let others := (List.range n).map otherAlert
     let s := up .awaiting (others ++ [a]) (some (transferOf .health 1 1 none))
     let s := (s.setUc { s.uc with stacked := [z] }).setCu { s.cu with
       events := r :: (List.range n).map fun i => { recOf .declared with rid := 90 + i, id := some { origin := 9, seq := i } } }
     s.Steady ∧ s.cs.image.uplink = true ∧ s.pins.lkCd = true ∧ s.pins.upRdy = false ∧ s.uc.modem = .awaiting ∧
     s.uc.queue = others ++ [a] ∧ s.uc.transfer = some (transferOf .health 1 1 none) ∧ others.length ≤ 7 ∧
     (full = true → s.uc.queue.length = 8) ∧ (∀ y ∈ others, y.turn = .ready ∨ y.turn = .retry) ∧
     a.turn = .awaiting ∧ a.kind = .health ∧ a.rid = none ∧ a.withdrawn = false ∧ a.attempts = 4 ∧ s.uc.healthDue = false ∧
     s.uc.stacked = [z] ∧ z.rid = r.rid ∧ r ∈ s.cu.events ∧ (s.cu.events.map EventRec.rid).Nodup ∧
     (r.state.live = true ∨ (z.kind = .retract ∧ r.state = .merged))) := by
  rcases hz with hz | hz | hz <;> obtain ⟨rfl, rfl⟩ := Prod.mk.inj hz <;> cases full <;> cases d <;>
    exact ⟨steady_of (by decide) rfl rfl, by decide⟩

/-- A withdrawal or a change of id meets the only alert of the only record, in each turn, and no alert. -/
theorem meets_Withdraw (x : Turn) (d e : Bool) :
    (let a := alertOf .event x
     let r := { recOf .adopted with delivered := d }
     let s := events r (up .sending (if e then [] else [a]) (some (transferOf .event 3 1 none)))
     s.cs.image.uplink = true ∧ s.uc.stacked = [] ∧ s.cu.events = [r] ∧ a.kind = .event ∧ a.rid = some r.rid ∧ a.turn = x ∧
     r.delivered = d ∧ s.uc.queue = (if e then [] else [a])) := by
  cases x <;> cases d <;> cases e <;> decide

/-- A transfer at 19,200 bit/s whose segment was fetched with 7 bytes before it: 3822 ticks later they are on the line yet, 3823
later they have been sent. -/
def fetchedAgo (n : Nat) : Transfer :=
  { transferOf .event 3 2 none with last := some { moment := base.now - BitVec.ofNat 48 n, left := 7, size := 4 } }

theorem meets_Withdraw_ahead :
    (let s := fun n => events (recOf .merged) (up .sending [alertOf .event .sending] (some (fetchedAgo n)))
     (s 3822).uc.transfer = some (fetchedAgo 3822) ∧ (s 3823).cs.image.uplinkCode = 1 ∧
     (∃ f, (fetchedAgo 3822).last = some f ∧ since (s 3822).now f.moment * 19200 < f.left * 10 * 1048576) ∧
     (∀ f, (fetchedAgo 3823).last = some f → ¬ since (s 3823).now f.moment * 19200 < f.left * 10 * 1048576)) :=
  ⟨rfl, rfl, ⟨_, rfl, by decide⟩, fun f h => by cases h; decide⟩

/-- Transfers that are cut, complete, and still to be fetched. -/
theorem meets_Line :
    (transferOf .event 3 1 (some .change)).cut.isSome ∧
    ((transferOf .event 3 1 none).cut = none ∧ (transferOf .event 3 1 none).fetched < (transferOf .event 3 1 none).segments) ∧
    ((transferOf .event 3 3 none).cut = none ∧ (transferOf .event 3 3 none).fetched = (transferOf .event 3 3 none).segments) ∧
    base.uc.transfer = none := by decide

theorem meets_Cut (c : Cut) (k : AlertKind) (hk : k = .event ∨ k = .update) (former : Bool) :
    (let a := { alertOf k .sending with id := if former then some { origin := 9, seq := 9 } else (recOf .declared).id }
     let x := transferOf .event 3 1 (some c)
     let r := recOf .declared
     let s := events r (up .sending [a] (some x))
     s.Steady ∧ s.cs.image.uplink = true ∧ s.pins.lkCd = true ∧ s.pins.upRdy = false ∧ s.uc.modem = .sending ∧ s.uc.transfer = some x ∧
     s.uc.queue = [a] ∧ s.uc.stacked = [] ∧ a.turn = .sending ∧ (a.kind = .event ∨ a.kind = .update) ∧ a.rid = some r.rid ∧
     s.cu.events = [r] ∧ (a.id = r.id ↔ former = false) ∧ x.cut = some c ∧ r.delivered = false) := by
  rcases hk with rfl | rfl <;> cases c <;> cases former <;> exact ⟨steady_of (by decide) rfl rfl, by decide⟩

theorem meets_BusyLimits :
    (∃ s : State, s.Settled ∧ s.uc.modem = .readyWait ∧ timerDue s.uc.modemTimer s.now = true ∧ s.uc.busyCount = 0) ∧
    (∃ (s : State) (a : Alert), s.Steady ∧ s.cs.image.uplink = true ∧ s.pins.lkCd = true ∧ s.uc.modem = .readyWait ∧
      timerDue s.uc.modemTimer s.now = true ∧ s.uc.busyCount = 1 ∧ s.uc.queue = [a] ∧ a.turn = .ready ∧ a.kind = .health ∧ a.rid = none ∧
      a.attempts < 4) :=
  ⟨⟨up .readyWait [alertOf .health .ready] none, settled_of (by decide), by decide⟩,
   ⟨(withUplink base).setUc { base.uc with modem := .readyWait, modemTimer := dueNow, busyCount := 1, queue := [alertOf .health .ready] }, _,
      steady_of (by decide) rfl rfl, rfl, rfl, rfl, by decide, rfl, rfl, rfl, rfl, rfl, by decide⟩⟩

/-! ## Battery, heaters, modes -/

def pollDue (s : State) : State := s.setBm { s.bm with pollTimer := dueNow }

theorem meets_Poll :
    (∃ s : State, s.Settled ∧ timerDue s.bm.pollTimer s.now = true ∧ s.mc.standing.mode = some .active ∧ s.twm.busyFor .tempA = false ∧
      s.twm.busyFor .tempB = false ∧ s.twm.busyFor .battery = false) ∧
    (∃ s : State, s.Settled ∧ timerDue s.bm.pollTimer s.now = true ∧ s.mc.standing.mode = some .shelter ∧ s.twm.busyFor .tempA = false ∧
      s.twm.busyFor .tempB = false ∧ s.twm.busyFor .battery = true ∧ s.bm.staleCount < 9) :=
  ⟨⟨pollDue base, settled_of (by decide), by decide⟩,
   ⟨pollDue (onBusOf .battery (inClass .critical (stands .sheltered base))), settled_of (by decide), by decide⟩⟩

def anchored (q : Int) : State :=
  onBusOf .battery (base.setBm { base.bm with anchored := true, q := q, eRef := some (base.now - 10485760#48) })

/-- 12.6 V, -85 mA, 10 degrees. -/
def batteryFrame : Vector Byte 6 := #v[0x31#8, 0x38#8, 0xFF#8, 0xAB#8, 0x00#8, 0x64#8]
/-- 13.8 V, 200 mA, 10 degrees: full. -/
def fullFrame : Vector Byte 6 := #v[0x35#8, 0xE8#8, 0x00#8, 0xC8#8, 0x00#8, 0x64#8]

theorem meets_GoodPoll (v : Vector Byte 6) (q : Int) (h : (v, q) = (batteryFrame, 180000850) ∨ (v, q) = (fullFrame, 0)) :
    (let s := anchored q
     let x := readingOf v.toList
     s.Steady ∧ s.pins.lkCd = true ∧ s.pins.upRdy = false ∧ s.onBus .battery ∧ s.bm.eRef = some (base.now - 10485760#48) ∧ 1000 ≤ x.v ∧
     x.v ≤ 60000 ∧ -600 ≤ x.t ∧ x.t ≤ 850 ∧ s.bm.anchored = true ∧ 1 ≤ s.cs.image.capacity ∧ s.cs.image.vCutoff < s.cs.image.vEmpty ∧
     (s.cs.image.vEmpty : Int) < x.v ∧
     (((s.cs.image.vFull : Int) ≤ x.v ∧ 0 ≤ x.i ∧ x.i ≤ s.cs.image.iTaper) ∨
      50 ≤ clampInt (s.bm.q + (if 0 < x.i then x.i * 10 * 15 / 16 else x.i * 10)) 0 (s.cs.image.capacity * 3600000) * 100 /
        (s.cs.image.capacity * 3600000 : Int))) := by
  rcases h with h | h <;> obtain ⟨rfl, rfl⟩ := Prod.mk.inj h <;> exact ⟨steady_of (by decide) rfl rfl, by decide, by decide, onBus_of .., rfl, by decide⟩

/-- 10.9 V, below the cutoff; 11.4 V, empty. -/
def cutoffFrame : Vector Byte 6 := #v[0x2A#8, 0x94#8, 0xFF#8, 0xAB#8, 0x00#8, 0x64#8]
def emptyFrame : Vector Byte 6 := #v[0x2C#8, 0x88#8, 0xFF#8, 0xAB#8, 0x00#8, 0x64#8]

/-- A good poll at a full anchor, at the empty one and at none; the first since POWER-ON and a later one. -/
theorem meets_GoodPoll_forms :
    (let i := base.cs.image
     let x := readingOf fullFrame.toList
     let y := readingOf emptyFrame.toList
     let z := readingOf batteryFrame.toList
     base.bm.eRef = none ∧ (anchored 0).bm.eRef.isSome ∧ ((i.vFull : Int) ≤ x.v ∧ 0 ≤ x.i ∧ x.i ≤ i.iTaper) ∧
     (¬ ((i.vFull : Int) ≤ y.v) ∧ y.v ≤ i.vEmpty) ∧ ¬ ((i.vFull : Int) ≤ z.v) ∧ ¬ (z.v ≤ i.vEmpty)) := by decide

/-- `anchored` in a standing and a class, its last poll a tick less than 10 s ago. -/
def polled (x : Standing) (c : BatClass) (q : Int) (source : Source) : State :=
  let s := stands x (inClass c (anchored q))
  (s.setTb { s.tb with source := source }).setBm { s.bm with lastPoll := some (base.now - 10485759#48) }

theorem polled_fresh (x : Standing) (c : BatClass) (q : Int) (source : Source) (m : Elapsed)
    (h : (polled x c q source).bm.lastPoll = some m) : since (polled x c q source).now m < secs 10 := by
  cases h
  show since base.now (base.now - 10485759#48) < secs 10
  decide

/-- Each class that a poll can leave, in each standing in which the evaluation is stated (R184, R191, R195): the charge is 97, 30, 16
or 0 parts in a hundred of the capacity. -/
theorem meets_Evaluation (x : Standing) (source : Source) (c d : BatClass) (q : Int)
    (h : (c, q, d) = (.low, 350000000, .good) ∨ (c, q, d) = (.good, 110000000, .lean) ∨ (c, q, d) = (.low, 60000000, .low) ∨
      (c, q, d) = (.critical, 60000000, .low) ∨ (c, q, d) = (.good, 60000000, .low) ∨ (c, q, d) = (.low, 1000, .critical)) :
    (let s := polled x c q source
     let r := readingOf batteryFrame.toList
     s.Settled ∧ s.pins.lkCd = true ∧ s.onBus .battery ∧ 1000 ≤ r.v ∧ r.v ≤ 60000 ∧ -600 ≤ r.t ∧ r.t ≤ 850 ∧
     (∀ m, s.bm.lastPoll = some m → since s.now m < secs 10) ∧ (goodPoll r s).bm.cls = d ∧ s.mc.standing = x ∧
     s.tb.source = source ∧ s.openEvent = false ∧ s.uc.queue = [] ∧ s.uc.stacked = [] ∧ s.lc.slots.report = none ∧
     s.td.active = false ∧ s.uc.inTransfer = none) := by
  have hm := polled_fresh x c q source
  rcases h with h | h | h | h | h | h <;> obtain ⟨rfl, rfl, rfl⟩ := Prod.mk.inj h |>.imp_right Prod.mk.inj <;>
    cases x <;> cases source <;> exact ⟨settled_of (by decide), rfl, onBus_of .., by decide, by decide, by decide, by decide, hm, by decide⟩

/-- The cutoff takes the class to CRITICAL from every standing of an entry to SHELTER, also at a listen-only station (R166, R194). -/
theorem meets_ShelterEntry (x : Standing) (hx : x.awake = true ∨ x.inDormant = true) (id : Nat) (hid : id = 3 ∨ id = 15) :
    (let s := (polled x .low 350000000 .fast).setCs { base.cs with stationId := id }
     let r := readingOf cutoffFrame.toList
     s.Settled ∧ s.pins.lkCd = true ∧ s.onBus .battery ∧ (∀ m, s.bm.lastPoll = some m → since s.now m < secs 10) ∧
     s.lc.slots.report = none ∧ 1000 ≤ r.v ∧ r.v ≤ 60000 ∧ -600 ≤ r.t ∧ r.t ≤ 850 ∧ (goodPoll r s).bm.cls = .critical ∧ s.listenOnly = decide (id = 15) ∧
     (s.mc.standing.awake = true ∨ s.mc.standing.inDormant = true)) := by
  refine ⟨settled_of rfl, rfl, .inl rfl, polled_fresh x .low 350000000 .fast, rfl, by decide, by decide, by decide, by decide, ?_, ?_, hx⟩ <;>
    rcases hid with rfl | rfl <;> cases x <;> decide

theorem meets_classRule : BatClass.low.code < BatClass.critical.code ∧ BatClass.good.code < BatClass.lean.code ∧ (30 : Int) ≤ 54 ∧ (54 : Int) < 55 ∧
    (15 : Int) ≤ 29 ∧ (29 : Int) < 30 ∧ (14 : Int) < 15 := by decide

theorem meets_Failures (r : TwEnd 6) (h : r = .nack ∨ r = .timeout ∨ r = .busStuck) :
    (let s := recoveredOf .battery (base.setBm { base.bm with staleCount := 8 })
     s.Steady ∧ s.pins.lkCd = true ∧ s.pins.upRdy = false ∧ s.onBusFor .battery r ∧ (∀ v, r ≠ .complete v) ∧ s.bm.staleCount < 9) := by
  rcases h with rfl | rfl | rfl <;>
    exact ⟨steady_of (by decide) rfl rfl, by decide, by decide, onBusFor_of .., (fun _ => nofun), by decide⟩

/-- The tenth failure in a row, HTR_S high or low; a rejected voltage of 999 mV and a rejected temperature of 851 tenths. -/
theorem meets_Failures_more :
    (∀ (r : TwEnd 6) (high : Bool),
      (let s := recoveredOf .battery ((base.setBm { base.bm with staleCount := 9 }).setHc
         { base.hc with s := { base.hc.s with output := high } })
       s.Steady ∧ s.pins.lkCd = true ∧ s.pins.upRdy = false ∧ s.onBusFor .battery r ∧ s.twm.battery = none ∧ s.bm.staleCount = 9 ∧
       s.hc.s.output = high ∧ s.td.state ≠ .stopped)) ∧
    (let s := onBusOf .battery (base.setBm { base.bm with staleCount := 8 })
     s.Steady ∧ s.onBus .battery ∧ s.bm.staleCount < 9) ∧
    (readingOf [0x03#8, 0xE7#8, 0#8, 0#8, 0#8, 0#8]).v < 1000 ∧ 850 < (readingOf [0x30#8, 0#8, 0#8, 0#8, 0x03#8, 0x53#8]).t ∧
    (∀ (u : TwUser) (r : TwEnd 2), u = TwUser.tempA ∨ u = .tempB → (recoveredOf u base).Settled ∧ (recoveredOf u base).onBusFor u r) ∧
    (∀ c : TwCheck, ∃ s : State, s.twm.bus = some { user := .battery, wanted := true, check := c }) := by
  refine ⟨fun r high => ⟨steady_of (by rfl) rfl rfl, rfl, rfl, onBusFor_of .., rfl, rfl, rfl, nofun⟩,
    ⟨steady_of (by decide) rfl rfl, onBus_of .., by decide⟩, by decide, by decide, ?_,
    fun c => ⟨base.setTwm { base.twm with bus := some { user := .battery, wanted := true, check := c } }, rfl⟩⟩
  rintro u r (rfl | rfl) <;> exact ⟨settled_of (by decide), onBusFor_of ..⟩

/-- A heater on or off in slot 2 of a half frame, its edge due, pending or none, the detector hot or not; and one past its OFF
point. -/
theorem meets_Overtemperature (h : HeaterId) (x : Heater) (hot : Bool) (e : Option Edge)
    (hx : x = { base.hc.b with output := e != some .on, edge := e, level := .half, pos := some 2, carried := some 4 }) :
    (let s := (base.setHc { b := x, s := x }).setTd { base.td with state := if hot then .on else .off }
     s.setpoint h + 10 ≤ 400 ∧ s.heater h = x ∧ x.level = .half ∧ x.pos = some 2 ∧ x.edge = e ∧ s.hot = hot ∧ s.cs.image.deferB ≠ 0 ∧
     s.cs.image.deferS ≠ 0) := by
  subst hx
  rcases e with _ | e <;> cases h <;> cases hot <;> try cases e
  all_goals exact ⟨by decide, rfl, rfl, rfl, rfl, by decide⟩

/-- Raw readings of -960 and 1361 sixteenths: the lowest plausible one and the lowest implausible one above. -/
theorem meets_Temperatures :
    (let s := onBusOf .tempA base
     s.Settled ∧ s.onBus .tempA ∧ fromBeInt [0xFC#8, 0x40#8] * 10 / 16 = -600 ∧ 850 < fromBeInt [0x05#8, 0x52#8] * 10 / 16 ∧
     s.bm.staleCountA < 65535) ∧
    (let s := onBusOf .tempB base
     s.Settled ∧ s.onBus .tempB ∧ -600 ≤ fromBeInt [0x01#8, 0x90#8] * 10 / 16 ∧ fromBeInt [0x01#8, 0x90#8] * 10 / 16 ≤ 850) :=
  ⟨⟨settled_of (by decide), onBus_of .., by decide⟩, ⟨settled_of (by decide), onBus_of .., by decide⟩⟩

/-- Asleep with a poll in the brief run. -/
def briefRun (x : BriefUsers) (s : State) : State :=
  (inClass .low s).setMc { s.mc with standing := .asleep, users := x, osc := some 256, handed := false }

theorem meets_BriefRun :
    (∃ (s : State) (u : TwUser), s.Settled ∧ s.mc.users.isEmpty = false ∧ s.mc.osc = some 256 ∧ s.mc.handed = false ∧ s.twm.bus = none ∧
      s.twm.firstFull = some u) ∧
    (∃ (s : State) (m : Elapsed) (q : BeaconReq), s.Rested ∧ s.mc.users.beacon = some m ∧ s.lc.slots.beacon = some q ∧ q.mark ≠ .final ∧
      secs 4 ≤ since s.now m) ∧
    (∃ (s : State) (m : Elapsed) (q : BeaconReq), s.Rested ∧ s.mc.users.beacon = some m ∧ s.lc.slots.beacon = some q ∧ q.mark ≠ .final ∧
      since s.now m < secs 4) :=
  ⟨⟨(briefRun { BriefUsers.empty with poll := true } base).setTwm { base.twm with battery := some { wanted := true } }, _,
      settled_of (by decide), by decide, rfl, rfl, rfl, rfl⟩,
   ⟨withSlots { Slots.empty with beacon := some (beaconReq 0#48 .ordinary) }
      (briefRun { BriefUsers.empty with beacon := some (base.now - 4194304#48) } base), _, _, rested_of (by decide), rfl, rfl, by decide, by decide⟩,
   ⟨withSlots { Slots.empty with beacon := some (beaconReq 0#48 .ordinary) }
      (briefRun { BriefUsers.empty with beacon := some (base.now - 4194303#48) } base), _, _, rested_of (by decide), rfl, rfl, by decide, by decide⟩⟩

/-- `base` capturing in DORMANT with the class LOW. -/
def captures (x : Standing) (s : State) : State := (inClass .low s).setMc { s.mc with standing := x, capture := dueNow }

/-- The same in any class, on any source, the RMU asleep, with a receiver and an uplink or without; two peers, one with a held age. -/
def captured (x : Standing) (c : BatClass) (src : Source) (up : Bool) : State :=
  { withImage (fun i => { i with uplink := up, receiver := up }) ((inClass c (captures x base)).setTb { base.tb with source := src }) with
    peers := [{ peerOf 5 with heldAge := some 1048576 }, { peerOf 6 with heldAge := some 0 }]
    rmu := { base.rmu with sleeping := true } }

theorem meets_Capture (c : BatClass) (src : Source) (up : Bool) :
    (let s := (captured .asleep c src up).setLc { base.lc with rx := .off }
     s.Settled ∧ s.mc.standing = .asleep ∧ s.lc.tx = none ∧ s.tb.source = src ∧ s.lc.rx = .off) ∧
    (∀ (x : Standing) (p : ServiceReq), p.held = true →
      (let s := (captured x c src up).setCs { (captured x c src up).cs with pending := some p }
       s.Settled ∧ timerDue s.mc.capture s.now = true ∧ s.cs.pending = some p ∧ s.mc.standing = x ∧ s.bm.cls = c ∧
       s.tb.source = src ∧ s.twm.busyFor .battery = false)) :=
  ⟨⟨settled_of rfl, rfl, rfl, rfl, rfl⟩, fun _ _ _ => ⟨settled_of rfl, (by decide : timerDue dueNow base.now = true), rfl, rfl, rfl, rfl, rfl⟩⟩

/-- A frame of each kind: its header, body, kind and what the body says. A muster, a fresh and a stale last onset, a fresh and a stale
notice at the boundary of 40 s, a declaration as old as the maximum life, a probe, a reply, a report and every request. -/
def capturedFrames (wake : Bool) : List (Header × List Byte × FrameKind × Body) :=
  let fl (x : Nat) : Nat := x + wake.toNat
  [(hdrOf 1 5 0 (fl 2) 24 10, beaconBytes body0, .beacon, .beacon body0),
   (hdrOf 1 5 0 (fl 0) 24 10, beaconBytes (bodyAged (secs 40)), .beacon, .beacon (bodyAged (secs 40))),
   (hdrOf 1 5 0 (fl 0) 24 10, beaconBytes (bodyAged (secs 40 + 1)), .beacon, .beacon (bodyAged (secs 40 + 1))),
   (hdrOf 2 5 0 (fl 0) 12 10, noticeBytes { noticeAged (secs 40) with kind := .onset }, .notice,
     .notice { noticeAged (secs 40) with kind := .onset }),
   (hdrOf 2 5 0 (fl 0) 12 10, noticeBytes (noticeAged (secs 40 + 1)), .notice, .notice (noticeAged (secs 40 + 1))),
   (hdrOf 3 5 0 (fl 0) 19 10, declBytes (declAged 5 (secs 600)), .declaration, .declaration (declAged 5 (secs 600))),
   (hdrOf 4 5 3 (fl 0) 7 10, timeBytes (secs 999), .probe, .probe (secs 999)),
   (hdrOf 5 5 3 (fl 0) 21 10, replyBytes (replyBody 1048575000 1048576000), .reply, .reply (replyBody 1048575000 1048576000)),
   (hdrOf 7 5 3 (fl 0) 3 10, [1#8, 0x80#8, 0#8], .serviceReport, .report)] ++
  [(0, 0), (1, 0), (2, 0), (3, 0), (4, 0), (4, 1), (5, 0), (255, 0)].map fun x =>
    (hdrOf 6 15 3 (fl 0) 2 10, [BitVec.ofNat 8 x.1, BitVec.ofNat 8 x.2], .serviceRequest, .request { code := x.1, argument := x.2 })

/-- What `judge_restOf` asks of a frame at a station of id 3 whose records of 5 and 6 have the sequence 9. -/
def frameOk (wake : Bool) (f : Header × List Byte × FrameKind × Body) : Bool :=
  f.2.1.length == f.1.length.toNat && f.1.sender != 3 && (f.1.target == 0 || f.1.target == 3) &&
  frameKindOf f.1.kindCode == some f.2.2.1 && !senderWrong f.1.sender f.2.2.1 && readBody f.2.2.1 f.1.target f.2.1 == some f.2.2.2 &&
  f.1.sequence.toNat == 10 && f.1.wake == wake

theorem capturedFrames_ok (wake : Bool) : (capturedFrames wake).all (frameOk wake) = true := by
  cases wake <;> decide +kernel

/-- Each of these frames is accepted in the capture, with its wake flag and without. -/
theorem meets_Capture_frame (x : Standing) (c : BatClass) (src : Source) (up wake : Bool) (h : Header) (body : List Byte) (k : FrameKind)
    (b : Body) (hf : (h, body, k, b) ∈ capturedFrames wake) :
    (let s := hears h (captured x c src up)
     let rest := restOf h body
     s.Settled ∧ s.mc.standing = x ∧ s.mc.capture.isSome ∧ s.lc.tx = none ∧ s.listenOnly = false ∧ s.bm.cls = c ∧ s.tb.source = src ∧
     s.cs.pending = none ∧ s.lc.rx = .body stampA h ∧ rest.length = h.length.toNat + 6 ∧
     s.judge { hdr := h, rest := rest } = .accepted k b ∧ h.wake = wake ∧ s.cu.entries = [] ∧ s.cu.events = [] ∧
     s.uc.modem = .off ∧ s.uc.queue = [] ∧ s.uc.stacked = [] ∧ s.cs.image.uplink = up ∧ s.tau.probe = none ∧ s.pins.lkCd = true ∧
     s.rmu.sleeping = true ∧ s.twm.busyFor .battery = false ∧ s.tb.time = secs 1000 ∧ s.cs.image.wc = 10 ∧ s.cs.image.maxLife = 600) := by
  have hok := List.all_eq_true.1 (capturedFrames_ok wake) _ hf
  simp only [frameOk, Bool.and_eq_true, Bool.or_eq_true, beq_iff_eq, bne_iff_ne, Bool.not_eq_true'] at hok
  obtain ⟨⟨⟨⟨⟨⟨⟨hl, h1⟩, h2⟩, h3⟩, h4⟩, h5⟩, h6⟩, h7⟩ := hok
  have hid : (hears h (captured x c src up)).ownId = 3 := rfl
  have hlo : (hears h (captured x c src up)).listenOnly = false := rfl
  refine ⟨settled_of rfl, rfl, rfl, rfl, rfl, rfl, rfl, rfl, rfl, restOf_length _ _ hl,
    judge_restOf _ _ _ _ _ hl ?_ ?_ h3 h4 h5 ?_, h7, rfl, rfl, rfl, rfl, rfl, rfl, rfl, rfl, rfl, rfl, rfl, rfl, rfl⟩
  · rw [hid, hlo]; simp [h1]
  · rw [hid]; rcases h2 with h | h <;> omega
  · rw [h6]
    have hp : (hears h (captured x c src up)).peers = [{ peerOf 5 with heldAge := some 1048576 }, { peerOf 6 with heldAge := some 0 }] := rfl
    have ht : (hears h (captured x c src up)).lc.terminalSeq = none := rfl
    unfold State.lastSequence State.peer
    rw [hp, ht]
    simp only [List.find?_cons, List.find?_nil]
    (repeat' split) <;> simp [peerOf]

/-- Frames that are not accepted in the capture: of a wrong CRC, from the own station, for another, of no kind, and a repeat; and one
cut short. -/
theorem meets_Capture_refused (x : Standing) (hx : x = .capturing ∨ x = .waking) (h : Header) (rest : List Byte) (j : Judged)
    (hf : (h, rest, j) = (hdrOf 7 5 0 1 0 10, List.replicate 6 0#8, .discarded .discardCrc) ∨
      (h, rest, j) = (hdrOf 1 3 0 1 0 10, restOf (hdrOf 1 3 0 1 0 10) [], .conflict) ∨
      (h, rest, j) = (hdrOf 1 5 4 1 0 10, restOf (hdrOf 1 5 4 1 0 10) [], .ignored) ∨
      (h, rest, j) = (hdrOf 8 5 0 1 0 10, restOf (hdrOf 8 5 0 1 0 10) [], .discarded .discardKind) ∨
      (h, rest, j) = (hdrOf 2 5 0 1 12 9, restOf (hdrOf 2 5 0 1 12 9) (noticeBytes (noticeAged (secs 3))), .discarded .discardRepeat)) :
    (let s := hears h (captured x .low .fast false)
     s.Settled ∧ (s.mc.standing = .capturing ∨ s.mc.standing = .waking) ∧ s.mc.capture.isSome ∧ s.lc.tx = none ∧ s.listenOnly = false ∧
     s.bm.cls ≠ .critical ∧ s.cs.pending = none ∧ s.lc.rx = .body stampA h ∧ rest.length = h.length.toNat + 6 ∧
     s.judge { hdr := h, rest := rest } = j ∧ (quietMedium s).lc.rx.reading = true ∧ (quietMedium s).pins.lkCd = false) := by
  rcases hf with hf | hf | hf | hf | hf <;> obtain ⟨rfl, hf'⟩ := Prod.mk.inj hf <;> obtain ⟨rfl, rfl⟩ := Prod.mk.inj hf' <;>
    refine ⟨settled_of rfl, hx, rfl, rfl, rfl, nofun, rfl, rfl, by decide +kernel, ?_, rfl, rfl⟩ <;>
    rcases hx with rfl | rfl <;> decide +kernel

def watching (c : BatClass) (s : State) : State := (inClass c s).setMc { s.mc with standing := .watching, wakeHold := dueNow }

theorem meets_Holds :
    (∃ s : State, s.Settled ∧ s.mc.standing = .watching ∧ timerDue s.mc.wakeHold s.now = true ∧ s.pins.lkCd = true ∧ s.bm.cls = .lean) ∧
    (∀ x, x = Trigger.reset.z ∨ x = { Trigger.reset.z with warm := true } →
      (let s := ({ watching .low base with peers := [peerOf 1, peerOf 2] } : State).setTd { base.td with z := x }
       s.Settled ∧ s.mc.standing = .watching ∧ timerDue s.mc.wakeHold s.now = true ∧ s.pins.lkCd = true ∧ s.bm.cls = .low ∧
       s.openEvent = false ∧ s.td.active = false ∧ s.uc.queue = [] ∧ s.uc.stacked = [] ∧ s.cs.image.mWatch ≤ s.watchCount ∧
       s.listenOnly = false ∧ s.hot = x.warm)) ∧
    (∃ s : State, s.mc.standing = .finalBeacon ∧ timerDue s.mc.finalLimit s.now = true ∧ s.bm.cls = .critical ∧ s.lc.slots.report = none) := by
  refine ⟨⟨watching .lean base, settled_of (by decide), by decide⟩, ?_,
    ⟨(inClass .critical base).setMc { base.mc with standing := .finalBeacon, finalLimit := dueNow }, by decide⟩⟩
  intro x h
  rcases h with rfl | rfl <;> exact ⟨settled_of (by decide), by decide⟩

/-! ## Ill-formed commands, and words -/

theorem test_wf_refuses_short_rest : (Instr.frameDiscarded (List.replicate 5 0#8)).wf = false ∧
    (Instr.serviceUnknown (List.replicate 5 0#8)).wf = false := by decide
theorem test_wf_refuses_long_rest : (Instr.beaconReceived (List.replicate 87 0#8)).wf = false := by decide
theorem test_wf_takes_rest_bounds : (Instr.beaconReceived (List.replicate 6 0#8)).wf = true ∧
    (Instr.beaconReceived (List.replicate 86 0#8)).wf = true := by decide
theorem test_wf_refuses_peer_0_and_15 : (Instr.peerRecordExpiry 0).wf = false ∧ (Instr.rangeAgeStale 15).wf = false ∧
    (Instr.unreachableHoldEnd 15).wf = false ∧ (Instr.peerRecordExpiry 14).wf = true := by decide
theorem test_wf_refuses_no_edge : (Instr.sampleSetComplete []).wf = false ∧
    (Instr.sampleSetComplete [{ bit := true, frm := true }]).wf = true ∧ (Instr.partialSet [] true).wf = true := by decide
theorem test_no_word_spells_a_command : decodeTableWord 8 0 = none ∧ State.reset.withFetchWord 8 0 = State.reset := by decide

/-! ## Worked examples of the spec -/

/-- Section 1.4, calibration of a fast crystal: three windows of m = 1,048,555. -/
theorem test_calibration_example :
    (run .calibrationWindowClose (base.setTb { base.tb with calWindow := some { cycles := 32768, m := 1048555 } })).tb.cSlow = 21504 ∧
    calFilter 21504 1048555 = 37632 ∧ calFilter 37632 1048555 = 49728 := by decide

/-- Section 1.7, acquiring the reference: edge h locks with 1,048,576 - 848,483 = 200,093. -/
theorem test_reference_locks :
    (let s := run (.markLabelReadEnd (.complete #v[0#8, 0#8, 0x13#8, 0x8F#8, 1#8])) (onBusOf .label (base.setRmu { base.rmu with
      state := .acquiring, good := 3, openMark := some { stamp := 5006 * 1048576 + 848483, edge := base.now }
      prev := some { stamp := 5005 * 1048576 + 848482, label := 5006, valid := true } }))
     s.rmu.state = .locked ∧ s.rmu.offsets = [200093] ∧ s.tb.distance = 0) := by decide

/-- Edge d of the same table: two seconds on, BAD, and it becomes the previous mark. -/
theorem test_reference_bad_mark :
    (let s := run (.markLabelReadEnd (.complete #v[0#8, 0#8, 0x13#8, 0x8B#8, 1#8])) (onBusOf .label (base.setRmu { base.rmu with
      state := .acquiring, good := 0, openMark := some { stamp := 5002 * 1048576 + 848479, edge := base.now }
      prev := some { stamp := 5000 * 1048576 + 848477, label := 5001, valid := true } }))
     s.rmu.state = .acquiring ∧ s.rmu.good = 0 ∧ s.count .badMarks = 1 ∧ s.rmu.prev.map (fun p => p.label) = some 5003) := by
  decide

/-- Section 3.4, a burst of interference: the grades of frames 3 to 6. -/
theorem test_grades : gradeOf 2 16 3 1 = .marginal ∧ gradeOf 2 16 4 1 = .good ∧ gradeOf 2 16 5 13 = .marginal ∧ gradeOf 2 16 6 20 = .poor := by
  decide

/-- Section 3.6, the watch at station 6: watch count 3, awake count 6, dormant present. -/
theorem test_watch_at_station_6 :
    (let peer (id : Nat) (m : OpMode) (c : Option BatClass) : PeerRecord := { peerOf id with mode := some m, cls := c }
     let s := (inClass .low ({ base with peers := [peer 2 .active (some .good), peer 3 .dormant (some .low), peer 4 .economy (some .low),
       peer 9 .economy (some .lean), peer 11 .economy (some .low), peer 12 .economy none] })).setCs { base.cs with stationId := 6 }
     s.watchCount = 3 ∧ s.awakeCount = 6 ∧ s.dormantPresent = true) := by decide

/-- Section 4.2, one exchange: delay 400, offset 5000. -/
theorem test_exchange_example :
    (let b : ReplyBody := { t1 := secs 7200 + 100000, t2 := secs 7200 + 105400, t3 := secs 7200 + 125400 }
     let s := tauReply 8 b { time := secs 7200 + 120800, moment := base.now, fast := true }
       ({ base with
          tau := { base.tau with probe := some { target := 8, prior := .unranged, chosenAt := 0#48, t1 := some { time := b.t1, moment := 0#48 } } }
          peers := [{ peerOf 8 with ranging := .probing }] })
     s.tau.lastExchange = some { peer := 8, delay := 400, offset := 5000 } ∧ (s.peer 8).bind (fun r => r.delay) = some 400) := by decide

/-- Section 4.4, a slew: O = 3000 among three peers of distance 1. -/
theorem test_slew_example :
    (let peer (id q d : Nat) (x : Int) : PeerRecord :=
       { peerOf id with ranging := .ranged, delay := some 400, rangeTime := some base.now, quality := some q, distance := some d, sample := some x }
     let s := run .steeringInstant (steering ({ base with
       tb := { base.tb with rBase := 1000 }, peers := [peer 1 120 1 2900, peer 2 80 1 3000, peer 4 95 1 3400, peer 5 10 3 9000] }))
     s.tb.rBase = 49000 ∧ s.tb.rPhase = 96000 ∧ s.tb.applied = 145000 ∧ s.tb.quality = 331 ∧ s.tb.distance = 2 ∧
     s.peers.all (fun r => r.sample.isNone)) := by decide

/-- Section 4.4, a step held back by an event, instants 1 and 3. -/
theorem test_hindered_step_example :
    (let peer (id : Nat) (x : Int) : PeerRecord :=
       { peerOf id with ranging := .ranged, delay := some 400, rangeTime := some base.now, quality := some 30, distance := some 0, sample := some x }
     let s := steering ({ base with peers := [peer 2 399000, peer 9 401000] })
     let h := run .steeringInstant (s.setTd { s.td with state := .on })
     h.tb.pendingStep = some .plus ∧ h.tb.applied = 214748 ∧ h.tb.quality = 401031 ∧ h.tb.distance = 1 ∧
     (run .steeringInstant (steering ({ base with peers := [peer 2 392290, peer 9 394290] }))).tb.quality = 1031 ∧
     (run .steeringInstant (steering ({ base with peers := [peer 2 392290, peer 9 394290] }))).tb.time = secs 1000 + 393290) := by decide

/-- Section 5.4, a grid in trouble: the window of slot 3 of second 8000 opens at 33,147; set c at 28,000 is off-grid. -/
theorem test_grid_example :
    (let at_ (t : Nat) : State := withImage (fun i => { i with latency := 3000 }) ((base.setSi { (almost base).si with slot := some { sec := 8000, index := 3 } }).setTb
       { base.tb with time := secs 8000 + t })
     let set : Instr := lastEdge
     (run set (at_ 28000)).si.faultRun = 1 ∧ (run set (at_ 33146)).si.faultRun = 1 ∧ (run set (at_ 33147)).si.faultRun = 0 ∧
     (run set (at_ 33147)).si.lastHanded = some (secs 8000 + 31457) ∧ (run .missingSample (at_ 35767)).si.slot = some { sec := 8000, index := 3 } ∧
     (run .missingSample (at_ 35768)).count .missingSamples = 1) := by decide

/-- The same table: where the close of window 2 has not been commanded, the set at 33,147 finds slot 2 missing and is slot 3's. -/
theorem test_late_set :
    (let s := run lastEdge (withImage (fun i => { i with latency := 3000 }) ((base.setSi { (almost base).si with
       slot := some { sec := 8000, index := 2 } }).setTb { base.tb with time := secs 8000 + 33147 }))
     s.count .missingSamples = 1 ∧ s.si.lastHanded = some (secs 8000 + 31457) ∧ s.count .timingFaults = 0) := by decide

/-- Section 5.2: before the first framed bit and after the 80th a bit is taken into no set. -/
theorem test_unframed_bit :
    (run lastEdge base).si = base.si ∧
    (run lastEdge (run lastEdge (almost base))).si = (run lastEdge (almost base)).si ∧ (run lastEdge (almost base)).si.bitCount = 80 := by decide

/-- Section 5.2: a framed bit after 79 bits cuts their set and is the first bit of the next. -/
theorem test_framed_bit_cuts :
    (let t := run (.partialSet [] true) (almost base)
     t.count .partialSets = 1 ∧ t.si.bitCount = 1 ∧ t.si.buffer = [true] ∧ t.si.slot = base.si.slot) := by decide

/-- R131: past the maximum life a declaration near a record loses or wins the conflict by the rule, and near none it is ignored. -/
theorem test_old_declaration :
    (let d := declAged 5 (secs 600 + 1)
     let id : EventId := { origin := 3, seq := 7 }
     let t := cuDeclaration 5 d (against .declared (some id) (secs 400) false 0)
     let u := cuDeclaration 5 d (against .declared (some id) (secs 411) false 0)
     t.count .conflictsLost = 1 ∧ t.count .declarationsIgnored = 0 ∧
     u.count .declarationsIgnored = 1 ∧ u.cu.events.map EventRec.id = [some id]) := by decide

/-- The channel of section 6.12 before sample 1, and a sample of it. -/
def quietChannel : Channel := { Channel.stopped with state := .quiet, init := true, s := 25600, l := 25600 }
def sample (x : Int) (c : Channel) : Channel := (c.take { base.chanCfg with h := 14 } false x false).1

/-- Section 6.12, the rise through the threshold at sample 4. -/
theorem test_channel_rises :
    (let c1 := sample 1000 quietChannel; let c2 := sample 1000 c1; let c3 := sample 1000 c2; let c4 := sample 1000 c3
     (c1.s, c1.l) = (54400, 26500) ∧ (c2.s, c2.l) = (79600, 27396) ∧ (c3.s, c3.l) = (101650, 28288) ∧ (c4.s, c4.l) = (120943, 29177) ∧
     c1.m = 15 ∧ c2.warm = false ∧ c3.warm = true ∧ c3.state = .quiet ∧ c4.state = .on ∧ c4.ratio = 66) := by decide

/-- Section 6.12, the fall: ON at sample 12, QUIET at sample 13, l frozen. -/
theorem test_channel_falls :
    (let c4 : Channel := { quietChannel with state := .on, m := 60, s := 120943, l := 29177, ratio := 66 }
     let step (c : Channel) : Channel := sample 100 c
     let c12 := step (step (step (step (step (step (step (step c4)))))))
     c12.s = 58359 ∧ c12.state = .on ∧ c12.l = 29177 ∧ (step c12).s = 54264 ∧ (step c12).state = .quiet) := by decide

/-- Section 6.13: the END's duration of 28 tenths. -/
theorem test_duration_example :
    (run .holdTimerExpiry (base.setTd { base.td with
      state := .hold, holdTimer := dueNow, onset := some (9100 * 1048576 + 125829), endAt := some (9103 * 1048576), mask := some 7
      peak := 80 })).lc.slots.notice.map (fun q => (q.notice.duration, q.notice.mask)) = some (28, 7) := by decide

/-- R190, R50, R139: an ONSET behind the wake pattern wakes the station, has the age 0 and enters the table. -/
theorem test_captured_onset :
    (let h := hdrOf 2 5 0 1 12 10
     let t := run (.triggerNoticeReceived (restOf h (noticeBytes { noticeAged (secs 3) with kind := .onset })))
       (hears h (captured .capturing .low .fast false))
     t.mc.standing = .watching ∧ (t.peer 5).map (fun r => (r.lastHeard, r.heldAge)) = some (base.now, none) ∧
     t.cu.entries.map (fun e => (e.station, e.onset)) = [(5, secs 997)] ∧ t.count .patternWakes = 1) := by decide +kernel

/-- Section 9.3, counting: -85 mA and +1200 mA over 10 s; 10.3 s count as 10 and the rest is carried. -/
theorem test_charge_example :
    (let s (q : Int) (e : Elapsed) : State := onBusOf .battery (base.setBm { base.bm with anchored := true, q := q, eRef := some e })
     let a := run (.batteryResult (.complete #v[0x31#8, 0x60#8, 0xFF#8, 0xAB#8, 0#8, 0x64#8])) (s 180000000 (base.now - 10485760#48))
     let b := run (.batteryResult (.complete #v[0x32#8, 0x6E#8, 0x04#8, 0xB0#8, 0#8, 0x64#8])) (s 179999150 (base.now - 10800332#48))
     a.bm.q = 179999150 ∧ a.bm.soc = 49 ∧ b.bm.q = 180010400 ∧ b.bm.soc = 50 ∧ b.bm.eRef = some (base.now - 314572#48)) := by decide

/-- Section 9.5, hysteresis on a slow recovery. -/
theorem test_hysteresis_example :
    nextClass .low .lean 26 false = .low ∧ nextClass .low .lean 30 false = .lean ∧ nextClass .lean .good 53 false = .lean ∧
    nextClass .lean .good 55 false = .good ∧ nextClass .good .lean 49 false = .lean ∧ nextClass .lean .critical 8 false = .critical ∧
    nextClass .critical .low 14 false = .critical := by decide

/-- Section 9.8, an unanchored start: the first poll at 12,180 mV gives 32 and LEAN directly. -/
theorem test_unanchored_start :
    (let s := run (.batteryResult (.complete #v[0x2F#8, 0x94#8, 0xFF#8, 0xD8#8, 0xFF#8, 0xB0#8]))
       (onBusOf .battery (base.setBm { Battery.reset with stale := true }))
     s.bm.cls = .lean ∧ s.bm.q = 180000000 ∧ s.bm.temp = some (-80) ∧ s.bm.chargeEn = false ∧ s.bm.anchored = false) := by decide

/-- Section 10.7, two heaters through a trigger: at the frame start hot defers both ONs, with 6 and 3 on-slots. -/
theorem test_heaters_example :
    (let s := run .secondBoundary ((base.setTb { base.tb with boundaries := [10800] }).setTd { base.td with state := .on } |>.setBm { base.bm with
       temp := some (-120), stale := false, tempA := some (-2), staleA := false })
     s.hc.b.level = .half ∧ s.hc.s.level = .quarter ∧ s.hc.b.edge = some .on ∧ s.hc.s.edge = some .on ∧ s.hc.b.output = false ∧
     s.count .edgesDeferredB = 1) := by decide

/-- R25: sender 1, sequence 0 seeds 256, which leaves bit 8 first; sender 0 with sequence 0 would leave zeros. -/
theorem test_check_field_seed : (checkField 1 0).take 15 = [false, false, false, false, false, false, true, false, false, false, false, false, false,
    false, false] := by decide

/-- R149: an ACK is 06H; R152: a NAK at the fifth attempt fails the alert. -/
theorem test_nak_at_the_fifth_attempt :
    (run (.uplinkReply 0x15#8) (up .awaiting [{ alertOf .health .awaiting with attempts := 4 }] (some (transferOf .health 1 1 none)))).count
      .failedAlerts = 1 := by decide

/-- R145: with a queue of eight, the ACK of its HEALTH alert lets the stacked entry in as an EVENT behind the seven older
ones, with the owed update number. -/
theorem test_stacked_takes_the_place :
    (let s := events { recOf .declared with owedUplink := some 2 }
       (up .awaiting ((List.range 7).map otherAlert ++ [alertOf .health .awaiting]) (some (transferOf .health 1 1 none)))
     let t := run (.uplinkReply 0x06#8) (s.setUc { s.uc with stacked := [{ kind := .event, rid := 0, retracts := none }] })
     t.uc.queue.length = 8 ∧ t.uc.stacked = [] ∧ (t.uc.queue.getLast?).map (fun a => (a.kind, a.rid, a.update)) = some (.event, some 0, 2)) := by
  decide

/-- R27: the own sequence number wraps from 255 to 0. -/
theorem test_sequence_wraps :
    (run .guardComplete (guarded { Slots.empty with report := allSlots.report } (base.setLc { base.lc with ownSeq := 255 }))).lc.ownSeq = 0 := by
  decide

/-- R2: the elapsed count wraps to 0. -/
theorem test_elapsed_wraps :
    (run (.nominalTick { straps := 3, chgAvl := false, upRdy := false, scl := true, sda := true })
      (base.setTb { base.tb with elapsed := 281474976710655#48 })).tb.elapsed = 0#48 := by decide

/-- 00_scope.md section 5.5: a counter stays at 65,535. -/
theorem test_counter_saturates :
    (run .carrierBusy ((base.setLc { base.lc with busy := true, access := .guard }).setCounters (Vector.replicate 102 65535))).count
      .busyDeferrals = 65535 := by decide

end Sys2Proof.Tests
end

