-- ==== Sys2Proof/Proofs/ArrayLink.lean ====
section
/-! PROOFS. The array link's two codes (section 2.3): the check field's generator (R25) and the CRC (R24). -/
namespace Sys2Proof.Machine

/-! ## The check field's generator (R25) -/

@[simp] theorem checkBits_length (n : Nat) (g : BitVec 15) : (checkBits n g).length = n := by
  induction n generalizing g with
  | zero => rfl
  | succ n ih => simp [checkBits, ih]

/-- Stage 1 takes stage 15 XOR stage 14; every other stage takes the one before it. -/
theorem checkStep_getLsbD (g : BitVec 15) {i : Nat} (hi : i < 15) :
    (checkStep g).getLsbD i = if i = 0 then (g.getLsbD 14).xor (g.getLsbD 13) else g.getLsbD (i - 1) := by
  have hstage1 (b : Bool) : (if b then 1#15 else 0#15).getLsbD i = (b && decide (i = 0)) := by
    cases b <;> simp [BitVec.getLsbD_one]
  rw [checkStep, BitVec.getLsbD_or, BitVec.getLsbD_shiftLeft, hstage1]
  cases i <;> simp [hi]

/-- After `k` steps the stages from `k` on hold what stood `k` stages before them. -/
theorem checkStep_iterate_getLsbD (g : BitVec 15) {k i : Nat} (hk : k ≤ i) (hi : i < 15) :
    (checkStep^[k] g).getLsbD i = g.getLsbD (i - k) := by
  induction k generalizing i with
  | zero => rfl
  | succ k ih =>
    rw [Function.iterate_succ_apply', checkStep_getLsbD _ hi, if_neg (by omega), ih (by omega) (by omega)]
    congr 1; omega

/-- The j-th output bit is stage 15 after `j` steps. -/
theorem checkBits_getElem? (n : Nat) (g : BitVec 15) {j : Nat} (hj : j < n) :
    (checkBits n g)[j]? = some ((checkStep^[j] g).getLsbD 14) := by
  induction n generalizing g j with
  | zero => omega
  | succ n ih =>
    cases j with
    | zero => rfl
    | succ j => simpa [checkBits] using ih (checkStep g) (by omega)

/-- The first 15 output bits are the seed's, from its highest place down. -/
theorem checkBits_getElem?_seed (n seed : Nat) {j : Nat} (hj : j < 15) (hn : j < n) :
    (checkBits n (BitVec.ofNat 15 seed))[j]? = some (seed.testBit (14 - j)) := by
  rw [checkBits_getElem? n _ hn, checkStep_iterate_getLsbD _ (by omega) (by omega), BitVec.getLsbD_ofNat,
    decide_eq_true (by omega), Bool.true_and]

/-- Fifteen steps on, stage 15 holds what stages 15 and 14 differed by. -/
theorem checkStep_iterate_fifteen (g : BitVec 15) :
    (checkStep^[15] g).getLsbD 14 = (g.getLsbD 14).xor ((checkStep g).getLsbD 14) := by
  rw [Function.iterate_succ_apply, checkStep_iterate_getLsbD _ (by decide) (by decide),
    checkStep_getLsbD g (by decide), checkStep_getLsbD g (by decide)]
  rfl

/-- An output bit is the XOR of the two that are 15 and 14 places before it. -/
theorem checkBits_recurrence (n : Nat) (g : BitVec 15) {j : Nat} (hj : j + 15 < n) :
    ∃ a b, (checkBits n g)[j]? = some a ∧ (checkBits n g)[j + 1]? = some b ∧
      (checkBits n g)[j + 15]? = some (a.xor b) := by
  refine ⟨_, _, checkBits_getElem? n g (by omega), checkBits_getElem? n g (by omega), ?_⟩
  rw [checkBits_getElem? n g hj, Nat.add_comm j 15, Function.iterate_add_apply, checkStep_iterate_fifteen,
    Function.iterate_succ_apply']

/-- The seed 256 × sender + sequence fits 15 bits, so a sender from 1 on leaves it different from 0. -/
theorem checkSeed_ne_zero {sender seq : Nat} (h1 : 1 ≤ sender) (h15 : sender ≤ 15) (hs : seq ≤ 255) :
    BitVec.ofNat 15 (256 * sender + seq) ≠ 0 := by
  intro h
  have hmod : (256 * sender + seq) % 2 ^ 15 = 0 := congrArg BitVec.toNat h
  omega

/-- The positive bits of a XOR of two lists of one length are the places where they differ. -/
theorem count_zipWith_xor (xs ys : List Bool) (h : xs.length = ys.length) :
    (List.zipWith Bool.xor xs ys).count true = ((List.range xs.length).filter fun j => xs[j]? != ys[j]?).length := by
  rw [← List.countP_eq_length_filter]
  induction xs generalizing ys with
  | nil => rfl
  | cons x xs ih =>
    cases ys with
    | nil => simp at h
    | cons y ys =>
      rw [List.length_cons, List.range_succ_eq_map, List.countP_cons, List.countP_map, List.zipWith_cons_cons,
        List.count_cons, ih ys (by simpa using h)]
      congr 1
      cases x <;> cases y <;> rfl

theorem flatMap_bitsOf_length (bs : List Byte) : (bs.flatMap bitsOf).length = 8 * bs.length := by
  simp [List.length_flatMap, bitsOf_length, Nat.mul_comm]

/-- Settles O10. The register's stages after `j` steps say every bit of the field; the count goes along both lists of bits. -/
theorem checkFieldFollowsItsGenerator : Obligations.CheckFieldFollowsItsGenerator := by
  intro sender seq hsender hseq
  refine ⟨checkBits_length _ _, fun h1 => checkSeed_ne_zero h1 hsender hseq,
    fun j hj => checkBits_getElem?_seed _ _ hj (by omega), fun j hj => checkBits_recurrence _ _ (by omega), ?_⟩
  intro received hlen
  have h32 : (checkField sender seq).length = 32 := checkBits_length _ _
  have hbits : (received.flatMap bitsOf).length = 32 := by rw [flatMap_bitsOf_length, hlen]
  rw [checkErrors, count_zipWith_xor _ _ (h32.trans hbits.symm), h32]

/-! ## The CRC register (R24) -/

/-- The polynomial 1021H has its ones at the places 0, 5 and 12. -/
theorem polynomial_getLsbD {i : Nat} (hi : i < 16) :
    (0x1021#16).getLsbD i = (decide (i = 0) || decide (i = 5) || decide (i = 12)) := by
  revert i; decide

/-- A bit moves every place up by one; where it differs from the top bit, the polynomial is added. -/
theorem crcBit_getLsbD (c : BitVec 16) (b : Bool) {i : Nat} (hi : i < 16) :
    (crcBit c b).getLsbD i = ((decide (0 < i) && c.getLsbD (i - 1)).xor
      (((c.getLsbD 15).xor b) && (decide (i = 0) || decide (i = 5) || decide (i = 12)))) := by
  have hshift : (c <<< 1).getLsbD i = (decide (0 < i) && c.getLsbD (i - 1)) := by
    rw [BitVec.getLsbD_shiftLeft]
    cases i <;> simp [hi]
  rw [crcBit, ← polynomial_getLsbD hi, ← hshift]
  cases (c.getLsbD 15).xor b <;> simp

/-- Place 0 shows whether the bit differed from the top one. -/
theorem crcBit_getLsbD_zero (c : BitVec 16) (b : Bool) : (crcBit c b).getLsbD 0 = (c.getLsbD 15).xor b := by
  rw [crcBit_getLsbD c b (by decide)]
  simp

/-- The register fed with its own top bit moves up and nothing else. -/
theorem crcBit_own_top (c : BitVec 16) : crcBit c (c.getLsbD 15) = c <<< 1 := by
  simp [crcBit]

theorem crc16_append (as bs : List Byte) : crc16 (as ++ bs) = (bs.flatMap bitsOf).foldl crcBit (crc16 as) := by
  simp [crc16]

/-! ### A frame behind its own CRC -/

/-- The register fed with its own upper `n` bits, from the top down, has moved up by `n` places. -/
theorem foldl_crcBit_own_bits (c : BitVec 16) {n : Nat} (hn : n ≤ 16) :
    ((List.range n).map fun i => c.getLsbD (15 - i)).foldl crcBit c = c <<< n := by
  induction n with
  | zero => simp
  | succ n ih =>
    have htop : c.getLsbD (15 - n) = (c <<< n).getLsbD 15 := by
      rw [BitVec.getLsbD_shiftLeft, decide_eq_true (by decide), decide_eq_false (by omega), Bool.not_false, Bool.and_self,
        Bool.true_and]
    rw [List.range_succ, List.map_append, List.foldl_append, ih (by omega), List.map_singleton, List.foldl_cons,
      List.foldl_nil, htop, crcBit_own_top, BitVec.shiftLeft_add]

/-- The two bytes sent are the register's upper and lower half. -/
theorem crcBytes_eq (bs : List Byte) : crcBytes bs = [(crc16 bs).extractLsb' 8 8, (crc16 bs).extractLsb' 0 8] := by
  simp [crcBytes, be, BitVec.extractLsb', Nat.shiftRight_eq_div_pow]

/-- On the line the two bytes are the register's bits, from the top down. -/
theorem crcBytes_bits (bs : List Byte) :
    (crcBytes bs).flatMap bitsOf = (List.range 16).map fun i => (crc16 bs).getLsbD (15 - i) := by
  simp [crcBytes_eq, bitsOf, List.range_succ]

theorem crc16_append_crcBytes (bs : List Byte) : crc16 (bs ++ crcBytes bs) = 0#16 := by
  rw [crc16_append, crcBytes_bits, foldl_crcBit_own_bits _ (by decide), BitVec.shiftLeft_eq_zero (by decide)]

/-! ### Two frames that differ -/

/-- Two registers hold the same in the places below `k`. -/
def AgreeBelow (k : Nat) (c c' : BitVec 16) : Prop := ∀ i < k, c.getLsbD i = c'.getLsbD i

theorem agreeBelow_sixteen {c c' : BitVec 16} : AgreeBelow 16 c c' ↔ c = c' :=
  ⟨BitVec.eq_of_getLsbD_eq, fun h _ _ => h ▸ rfl⟩

/-- Registers that agree below `k + 1` after a bit agreed below `k` before it, and their bits differed from their top bits alike. -/
theorem AgreeBelow.of_crcBit {k : Nat} {c c' : BitVec 16} {b b' : Bool} (hk : k < 16)
    (h : AgreeBelow (k + 1) (crcBit c b) (crcBit c' b')) :
    (c.getLsbD 15).xor b = (c'.getLsbD 15).xor b' ∧ AgreeBelow k c c' := by
  have htop : (c.getLsbD 15).xor b = (c'.getLsbD 15).xor b' := by
    simpa only [crcBit_getLsbD_zero] using h 0 (by omega)
  refine ⟨htop, fun i hi => ?_⟩
  have hup := h (i + 1) (by omega)
  rw [crcBit_getLsbD c b (by omega), crcBit_getLsbD c' b' (by omega), htop, Bool.xor_left_inj] at hup
  simpa only [Nat.zero_lt_succ, decide_true, Bool.true_and, Nat.add_sub_cancel] using hup

/-- Registers that agree below `k + n` after `n` bits agreed below `k` before them. -/
theorem AgreeBelow.of_foldl_crcBit {k : Nat} {u u' : List Bool} (hu : u.length = u'.length) (hk : k + u.length ≤ 16)
    {c c' : BitVec 16} (h : AgreeBelow (k + u.length) (u.foldl crcBit c) (u'.foldl crcBit c')) : AgreeBelow k c c' := by
  induction u generalizing k u' c c' with
  | nil =>
    obtain rfl := List.length_eq_zero_iff.mp hu.symm
    exact h
  | cons b u ih =>
    obtain ⟨b', u', rfl⟩ := List.exists_cons_of_length_eq_add_one hu.symm
    rw [List.length_cons, ← Nat.add_assoc, Nat.add_right_comm] at hk h
    have hnext : AgreeBelow (k + 1) (crcBit c b) (crcBit c' b') :=
      ih (Nat.add_right_cancel hu) hk h
    exact (hnext.of_crcBit (by omega)).2

/-- From one register, two runs of up to 16 bits that end alike are the same run: after the first bit that differs the registers
differ in place 0, and what follows moves that difference up but not out. -/
theorem foldl_crcBit_bits_injective (c : BitVec 16) {u u' : List Bool} (hu : u.length = u'.length) (h16 : u.length ≤ 16)
    (h : u.foldl crcBit c = u'.foldl crcBit c) : u = u' := by
  induction u generalizing u' c with
  | nil => exact (List.length_eq_zero_iff.mp hu.symm).symm
  | cons b u ih =>
    obtain ⟨b', u', rfl⟩ := List.exists_cons_of_length_eq_add_one hu.symm
    simp only [List.length_cons, Nat.add_right_cancel_iff] at hu h16
    have hend : AgreeBelow (1 + u.length) (u.foldl crcBit (crcBit c b)) (u'.foldl crcBit (crcBit c b')) :=
      fun i _ => congrArg (BitVec.getLsbD · i) h
    have hb : b = b' := by
      simpa only [crcBit_getLsbD_zero, Bool.xor_right_inj] using
        hend.of_foldl_crcBit hu (by omega) 0 Nat.one_pos
    subst hb
    rw [ih (crcBit c b) hu (by omega) h]

theorem crcBit_injective (b : Bool) : Function.Injective (crcBit · b) := by
  intro c c' h
  obtain ⟨htop, hlow⟩ := AgreeBelow.of_crcBit (k := 15) (by decide) (agreeBelow_sixteen.mpr h)
  refine agreeBelow_sixteen.mp fun i hi => ?_
  rcases Nat.lt_succ_iff_lt_or_eq.mp hi with hi | rfl
  · exact hlow i hi
  · exact Bool.xor_left_inj.mp htop

/-- Registers that differ still differ after the same bits. -/
theorem foldl_crcBit_injective (u : List Bool) : Function.Injective fun c => u.foldl crcBit c := by
  induction u with
  | nil => exact fun _ _ h => h
  | cons b u ih => exact ih.comp (crcBit_injective b)

theorem bitsOf_injective : Function.Injective bitsOf := Function.LeftInverse.injective byteOfBits_bitsOf

theorem crc16_ne_of_byte_ne (as bs : List Byte) {x y : Byte} (h : x ≠ y) :
    crc16 (as ++ [x] ++ bs) ≠ crc16 (as ++ [y] ++ bs) := by
  intro heq
  rw [crc16_append (as ++ [x]), crc16_append (as ++ [y])] at heq
  have hbyte := foldl_crcBit_injective _ heq
  rw [crc16_append as, crc16_append as, List.flatMap_singleton, List.flatMap_singleton] at hbyte
  exact h (bitsOf_injective (foldl_crcBit_bits_injective _ rfl ((bitsOf_length x).trans_le (by decide)) hbyte))

/-! ### The CRC on the line and at the receiver -/

theorem crc16_append_byte (bs : List Byte) (x : Byte) :
    crc16 (bs ++ [x]) = [7, 6, 5, 4, 3, 2, 1, 0].foldl (fun c i => crcBit c (x.getLsbD i)) (crc16 bs) := by
  rw [crc16_append, List.flatMap_singleton, bitsOf, List.foldl_map]

/-- On the line stand the preamble and the sync word, header, body and CRC, and the 32 bits of the check field. -/
theorem lineBits_crc (f : TxFrame) (rate : Nat) : ∃ before behind : List Bool, behind.length = 32 ∧
    f.lineBits rate = before ++ (f.header ++ f.body ++ crcBytes (f.header ++ f.body)).flatMap bitsOf ++ behind := by
  refine ⟨(if f.wake then (List.replicate (wakeGroups rate) [true, true, false, false]).flatten else []) ++
    (List.replicate 12 [true, false]).flatten ++ [0xB4#8, 0xE3#8].flatMap bitsOf,
    checkField (num f.header 0 1 / 16) (num f.header 3 1), checkBits_length _ _, ?_⟩
  simp only [TxFrame.lineBits, List.flatMap_append, List.append_assoc]

/-- The receiver compares the two bytes behind the body with the CRC of header and body. -/
theorem crcGood_iff (h : Header) (body : List Byte) (x y : Byte) (behind : List Byte) (hl : body.length = h.length.toNat) :
    RxFrame.crcGood { hdr := h, rest := body ++ [x, y] ++ behind } = true ↔ [x, y] = crcBytes (h.bytes ++ body) := by
  have hbody : RxFrame.body { hdr := h, rest := body ++ [x, y] ++ behind } = body := by
    rw [RxFrame.body, List.append_assoc, List.take_left' hl]
  have hcrc : RxFrame.crc { hdr := h, rest := body ++ [x, y] ++ behind } = [x, y] := by
    rw [RxFrame.crc, field, List.append_assoc, List.drop_left' hl]; rfl
  rw [RxFrame.crcGood, hbody, hcrc, beq_iff_eq, eq_comm]

/-- Settles O11. Fed with its own bits the register moves up until it is empty; a changed byte leaves a difference that the rest
of its bits cannot move out and that equal bytes behind it keep. -/
theorem crcClosesOnItsOwnFrame : Obligations.CrcClosesOnItsOwnFrame :=
  ⟨⟨rfl, crc16_append_byte, fun c b _ hi => crcBit_getLsbD c b hi⟩,
    ⟨fun _ => rfl, crcBytes_eq, lineBits_crc, crcGood_iff⟩,
    crc16_append_crcBytes, fun as bs _ _ h => crc16_ne_of_byte_ne as bs h⟩

end Sys2Proof.Machine
end

/-! PROOFS. What every operation of the model keeps: the five invariants and the two clocks. The proofs are elaborated one after the
other: in parallel, one text of this size runs out of threads. -/
namespace Sys2Proof.Machine
set_option Elab.async false

/-! ## Lists in order -/

theorem insertBy_perm {α : Type} (le : α → α → Bool) (x : α) (xs : List α) : (insertBy le x xs).Perm (x :: xs) := by
  induction xs with
  | nil => exact .refl _
  | cons y ys ih =>
    unfold insertBy
    split
    · exact (ih.cons y).trans (.swap x y ys)
    · exact .refl _

theorem sortBy_perm {α : Type} (le : α → α → Bool) (xs : List α) : (sortBy le xs).Perm xs := by
  suffices h : ∀ acc, (xs.foldl (fun acc x => insertBy le x acc) acc).Perm (xs ++ acc) by simpa [sortBy] using h []
  induction xs with
  | nil => exact fun acc => .refl _
  | cons x xs ih =>
    exact fun acc => (ih _).trans (((insertBy_perm le x acc).append_left xs).trans List.perm_middle)

@[simp] theorem insertBy_length {α : Type} (le : α → α → Bool) (x : α) (xs : List α) :
    (insertBy le x xs).length = xs.length + 1 := (insertBy_perm le x xs).length_eq

@[simp] theorem sortBy_length {α : Type} (le : α → α → Bool) (xs : List α) : (sortBy le xs).length = xs.length :=
  (sortBy_perm le xs).length_eq

@[simp] theorem mem_sortBy {α : Type} (le : α → α → Bool) (xs : List α) (x : α) : x ∈ sortBy le xs ↔ x ∈ xs :=
  (sortBy_perm le xs).mem_iff

@[simp] theorem sortBy_any {α : Type} (le : α → α → Bool) (xs : List α) (p : α → Bool) :
    (sortBy le xs).any p = xs.any p := (sortBy_perm le xs).any_eq

/-! ## What a step may do to the clocks, the tables and the mode -/

/-- How an operation may move the clocks: not at all, station time by a step (R12), or both by a tick (R3, R5). -/
inductive ClockUse where
  | still | stepped | ticked

/-- The law of R184 alone, whatever still waits to be reported. -/
def State.ModeSafe (s : State) : Prop :=
  (s.bm.cls = .critical → s.mc.standing.inStart = true ∨ s.mc.standing.inShelter = true) ∧
  (s.mc.standing = .asleep ∨ s.mc.standing = .capturing ∨ s.mc.standing = .entering →
    s.bm.cls = .low ∧ s.openEvent = false ∧ s.uc.queue = [])

/-- Within a step the law may be broken only while an evaluation of the mode is due. -/
def State.SafeOrDue (s : State) : Prop := s.mc.evalDue = true ∨ s.ModeSafe

/-- The fixed sizes of the tables, with `n` places in the trigger table. -/
def State.TablesWithin (n : Nat) (s : State) : Prop :=
  s.cu.entries.length ≤ n ∧ s.cu.events.length ≤ 8 ∧ s.uc.queue.length ≤ 8

/-- From `s` to `t` the invariants that do not speak of the mode are kept, and the clocks move at most as `k` says. -/
structure KeepsData (n : Nat) (k : ClockUse) (s t : State) : Prop where
  pending : t.pending = s.pending
  elapsed : k ≠ .ticked → t.tb.elapsed = s.tb.elapsed
  time : k = .still → t.tb.time = s.tb.time
  counters : s.CountersBounded → t.CountersBounded
  range : s.tb.InRange → t.tb.InRange
  peers : s.PeersSound → t.PeersSound
  tables : s.TablesWithin n → t.TablesWithin n

/-- From `s` to `t` every invariant is kept, the law on modes up to an evaluation that is due. -/
structure KeepsLaw (n : Nat) (k : ClockUse) (s t : State) : Prop extends KeepsData n k s t where
  law : s.SafeOrDue → t.SafeOrDue

/-- From `s` to `t` every invariant is kept, the station stands as it stood, and the class does not become CRITICAL. -/
structure Keeps (n : Nat) (k : ClockUse) (s t : State) : Prop extends KeepsLaw n k s t where
  standing : t.mc.standing = s.mc.standing
  critical : t.bm.cls = .critical → s.bm.cls = .critical

theorem KeepsData.refl (n : Nat) (k : ClockUse) (s : State) : KeepsData n k s s :=
  ⟨rfl, fun _ => rfl, fun _ => rfl, id, id, id, id⟩

theorem Keeps.refl (n : Nat) (k : ClockUse) (s : State) : Keeps n k s s := ⟨⟨.refl n k s, id⟩, rfl, id⟩

section
variable {n : Nat} {k : ClockUse} {s t u : State}

theorem KeepsData.trans (h : KeepsData n k s t) (g : KeepsData n k t u) : KeepsData n k s u :=
  ⟨g.pending.trans h.pending, fun hk => (g.elapsed hk).trans (h.elapsed hk), fun hk => (g.time hk).trans (h.time hk),
    g.counters ∘ h.counters, g.range ∘ h.range, g.peers ∘ h.peers, g.tables ∘ h.tables⟩

theorem KeepsLaw.trans (h : KeepsLaw n k s t) (g : KeepsLaw n k t u) : KeepsLaw n k s u :=
  ⟨h.toKeepsData.trans g.toKeepsData, g.law ∘ h.law⟩

theorem Keeps.trans (h : Keeps n k s t) (g : Keeps n k t u) : Keeps n k s u :=
  ⟨h.toKeepsLaw.trans g.toKeepsLaw, g.standing.trans h.standing, h.critical ∘ g.critical⟩

/-- What the mode's law reads has not changed, or has changed only towards it. -/
theorem State.ModeSafe.of_same (h : s.ModeSafe) (hst : t.mc.standing = s.mc.standing) (hcls : t.bm.cls = s.bm.cls)
    (hopen : s.openEvent = false → t.openEvent = false) (hqueue : s.uc.queue = [] → t.uc.queue = []) : t.ModeSafe := by
  obtain ⟨hshelter, hasleep⟩ := h
  unfold State.ModeSafe
  rw [hst, hcls]
  refine ⟨hshelter, fun hs => ?_⟩
  obtain ⟨hlow, hev, hq⟩ := hasleep hs
  exact ⟨hlow, hopen hev, hqueue hq⟩

theorem State.ModeSafe.of_inStart (h : s.mc.standing.inStart = true) : s.ModeSafe :=
  ⟨fun _ => .inl h, fun hs => by rcases hs with hs | hs | hs <;> rw [hs] at h <;> cases h⟩

theorem State.ModeSafe.of_inShelter (h : s.mc.standing.inShelter = true) : s.ModeSafe :=
  ⟨fun _ => .inr h, fun hs => by rcases hs with hs | hs | hs <;> rw [hs] at h <;> cases h⟩

/-- Awake or waking outside ENTERING, with a class better than CRITICAL. -/
theorem State.ModeSafe.of_awake (h : s.mc.standing = .active ∨ s.mc.standing = .watching ∨ s.mc.standing = .waking)
    (hcls : s.bm.cls ≠ .critical) : s.ModeSafe :=
  ⟨fun hc => absurd hc hcls, fun hs => by rcases h with h | h | h <;> rw [h] at hs <;> simp at hs⟩

theorem safeOrDue_of_due (h : s.mc.evalDue = true) : s.SafeOrDue := .inl h

/-- An operation that leaves what the invariants read keeps them all. -/
theorem Keeps.of_eq (h : Keeps n k s t) (hpending : u.pending = t.pending) (htb : u.tb = t.tb) (hcounters : u.counters = t.counters)
    (hpeers : u.peers = t.peers) (hcu : u.cu = t.cu) (huc : u.uc = t.uc) (hbm : u.bm = t.bm) (hmc : u.mc = t.mc) :
    Keeps n k s u := by
  refine h.trans ⟨⟨⟨hpending, fun _ => by rw [htb], fun _ => by rw [htb], fun hc c => ?_, fun hr => by rw [htb]; exact hr, fun hp => ?_,
    fun ht => ?_⟩, fun hl => ?_⟩, by rw [hmc], by rw [hbm]; exact id⟩
  · rw [State.count, hcounters]; exact hc c
  · rw [State.PeersSound, hpeers]; exact hp
  · rw [State.TablesWithin, hcu, huc]; exact ht
  · rcases hl with hl | hl
    · exact .inl (by rw [hmc]; exact hl)
    · exact .inr (hl.of_same (by rw [hmc]) (by rw [hbm]) (by simp only [State.openEvent, hcu]; exact id) (by rw [huc]; exact id))

/-! ## The updates of the state -/

theorem setPins_keeps {x : Pins} (h : Keeps n k s t) : Keeps n k s (t.setPins x) := h.of_eq rfl rfl rfl rfl rfl rfl rfl rfl
theorem setRmu_keeps {x : Rmu} (h : Keeps n k s t) : Keeps n k s (t.setRmu x) := h.of_eq rfl rfl rfl rfl rfl rfl rfl rfl
theorem setLc_keeps {x : Link} (h : Keeps n k s t) : Keeps n k s (t.setLc x) := h.of_eq rfl rfl rfl rfl rfl rfl rfl rfl
theorem setTau_keeps {x : Agreement} (h : Keeps n k s t) : Keeps n k s (t.setTau x) := h.of_eq rfl rfl rfl rfl rfl rfl rfl rfl
theorem setSi_keeps {x : SampleIf} (h : Keeps n k s t) : Keeps n k s (t.setSi x) := h.of_eq rfl rfl rfl rfl rfl rfl rfl rfl
theorem setTd_keeps {x : Trigger} (h : Keeps n k s t) : Keeps n k s (t.setTd x) := h.of_eq rfl rfl rfl rfl rfl rfl rfl rfl
theorem setHc_keeps {x : Heaters} (h : Keeps n k s t) : Keeps n k s (t.setHc x) := h.of_eq rfl rfl rfl rfl rfl rfl rfl rfl
theorem setTwm_keeps {x : TwoWire} (h : Keeps n k s t) : Keeps n k s (t.setTwm x) := h.of_eq rfl rfl rfl rfl rfl rfl rfl rfl
theorem setCs_keeps {x : Service} (h : Keeps n k s t) : Keeps n k s (t.setCs x) := h.of_eq rfl rfl rfl rfl rfl rfl rfl rfl
theorem setFreeDrawn_keeps {x : Nat} (h : Keeps n k s t) : Keeps n k s (t.setFreeDrawn x) :=
  h.of_eq rfl rfl rfl rfl rfl rfl rfl rfl

/-- The Timebase changes within its ranges and moves the clocks as `k` allows. -/
theorem setTb_keeps {x : Timebase} (h : Keeps n k s t) (helapsed : k ≠ .ticked → x.elapsed = t.tb.elapsed)
    (htime : k = .still → x.time = t.tb.time) (hrange : t.tb.InRange → x.InRange) : Keeps n k s (t.setTb x) :=
  h.trans ⟨⟨⟨rfl, helapsed, htime, id, hrange, id, id⟩, id⟩, rfl, id⟩

/-- A change of the Timebase outside what its ranges and the clocks read. -/
theorem setTb_same_keeps {x : Timebase} (h : Keeps n k s t) (helapsed : x.elapsed = t.tb.elapsed := by rfl)
    (htime : x.time = t.tb.time := by rfl) (hfrac : x.frac = t.tb.frac := by rfl) (hbase : x.rBase = t.tb.rBase := by rfl)
    (hslow : x.cSlow = t.tb.cSlow := by rfl) (hdist : x.distance = t.tb.distance := by rfl)
    (hqual : x.quality = t.tb.quality := by rfl) : Keeps n k s (t.setTb x) :=
  setTb_keeps h (fun _ => helapsed) (fun _ => htime) fun r =>
    ⟨htime ▸ r.time, hfrac ▸ r.frac, hbase ▸ r.rBaseLow, hbase ▸ r.rBaseHigh, hslow ▸ r.cSlowLow, hslow ▸ r.cSlowHigh,
      hdist ▸ r.distance, hqual ▸ r.quality⟩

theorem setPeers_keeps {x : List PeerRecord} (h : Keeps n k s t) (hx : t.PeersSound → (t.setPeers x).PeersSound) :
    Keeps n k s (t.setPeers x) :=
  h.trans ⟨⟨⟨rfl, fun _ => rfl, fun _ => rfl, id, id, hx, id⟩, id⟩, rfl, id⟩

theorem setBm_data {x : Battery} (h : KeepsData n k s t) : KeepsData n k s (t.setBm x) :=
  h.trans ⟨rfl, fun _ => rfl, fun _ => rfl, id, id, id, id⟩

theorem setMc_data {x : ModeCtl} (h : KeepsData n k s t) : KeepsData n k s (t.setMc x) :=
  h.trans ⟨rfl, fun _ => rfl, fun _ => rfl, id, id, id, id⟩

theorem peersSound_of_nil (h : s.peers = []) : s.PeersSound := by
  simp [State.PeersSound, h]

theorem tablesWithin_of_nil (hentries : s.cu.entries = []) (hevents : s.cu.events = []) (hqueue : s.uc.queue = []) :
    s.TablesWithin n := by
  rw [State.TablesWithin, hentries, hevents, hqueue]
  exact ⟨Nat.zero_le _, Nat.zero_le _, Nat.zero_le _⟩

/-- The Battery Monitor's part changes beside the class. -/
theorem setBm_keeps {x : Battery} (h : Keeps n k s t) (hcls : x.cls = t.bm.cls := by rfl) : Keeps n k s (t.setBm x) :=
  h.trans ⟨⟨setBm_data (.refl n k t),
    Or.imp_right fun l => l.of_same rfl hcls id id⟩, rfl, fun hc => hcls.symm.trans hc⟩

/-- The Mode Controller's part changes beside the standing and the evaluation that is due. -/
theorem setMc_keeps {x : ModeCtl} (h : Keeps n k s t) (hst : x.standing = t.mc.standing := by rfl)
    (hdue : x.evalDue = t.mc.evalDue := by rfl) : Keeps n k s (t.setMc x) :=
  h.trans ⟨⟨setMc_data (.refl n k t),
    Or.imp hdue.trans fun l => l.of_same hst rfl id id⟩, hst, id⟩

/-- The Coincidence Unit's tables do not grow, and no record opens. -/
theorem setCu_keeps {x : Coincidence} (h : Keeps n k s t) (hentries : x.entries.length ≤ t.cu.entries.length)
    (hevents : x.events.length ≤ t.cu.events.length)
    (hopen : t.openEvent = false → x.events.any (fun r => r.state.open) = false) : Keeps n k s (t.setCu x) :=
  h.trans ⟨⟨⟨rfl, fun _ => rfl, fun _ => rfl, id, id, id,
    fun ⟨he, hv, hq⟩ => ⟨hentries.trans he, hevents.trans hv, hq⟩⟩,
    Or.imp_right fun l => l.of_same rfl rfl hopen id⟩, rfl, id⟩

/-- The Uplink Controller's queue does not grow. -/
theorem setUc_keeps {x : Uplink} (h : Keeps n k s t) (hqueue : x.queue.length ≤ t.uc.queue.length := by exact Nat.le_refl _) :
    Keeps n k s (t.setUc x) :=
  h.trans ⟨⟨⟨rfl, fun _ => rfl, fun _ => rfl, id, id, id, fun ⟨he, hv, hq⟩ => ⟨he, hv, hqueue.trans hq⟩⟩,
    Or.imp_right fun l => l.of_same rfl rfl id fun hq => by
      rw [hq] at hqueue; exact List.length_eq_zero_iff.mp (Nat.le_zero.mp hqueue)⟩, rfl, id⟩

/-! ## Counters and reports -/

/-- A counter is written at 65,535 at most. -/
theorem setCounter_keeps {c : Counter} {m : Nat} (h : Keeps n k s t) :
    Keeps n k s (t.setCounters (t.counters.set c.idx.val (sat16 m) c.idx.isLt)) := by
  refine h.trans ⟨⟨⟨rfl, fun _ => rfl, fun _ => rfl, fun hc c' => ?_, id, id, id⟩, id⟩, rfl, id⟩
  show (t.counters.set c.idx.val (sat16 m) c.idx.isLt)[c'.idx.val] ≤ 65535
  rw [Vector.getElem_set]
  split
  · exact Nat.min_le_right _ _
  · exact hc c'

theorem bump_keeps {c : Counter} (h : Keeps n k s t) : Keeps n k s (bump c t) := setCounter_keeps h
theorem bumpBy_keeps {c : Counter} {m : Nat} (h : Keeps n k s t) : Keeps n k s (bumpBy c m t) := setCounter_keeps h

theorem bumpIf_keeps {b : Bool} {c : Counter} (h : Keeps n k s t) : Keeps n k s (bumpIf b c t) := by
  unfold bumpIf; split
  · exact bump_keeps h
  · exact h

/-- From an operation that leaves the standing and the class, followed by a report to the Mode Controller. -/
theorem tellMode_keeps_of_data (h : KeepsData n k s t) (hst : t.mc.standing = s.mc.standing)
    (hcls : t.bm.cls = .critical → s.bm.cls = .critical) : Keeps n k s (tellMode t) :=
  ⟨⟨setMc_data h, fun _ => safeOrDue_of_due rfl⟩, hst, hcls⟩

theorem tellMode_keeps (h : Keeps n k s t) : Keeps n k s (tellMode t) :=
  tellMode_keeps_of_data h.toKeepsData h.standing h.critical

theorem alarmMode_keeps (h : Keeps n k s t) : Keeps n k s (alarmMode t) := setMc_keeps h

end

end Sys2Proof.Machine

namespace Sys2Proof.Machine
set_option Elab.async false
section
variable {n : Nat} {k : ClockUse} {s t u v : State}

/-- Either branch keeps the invariants. -/
theorem ite_keeps {c : Prop} [Decidable c] (hu : Keeps n k s u) (hv : Keeps n k s v) : Keeps n k s (if c then u else v) := by
  split
  · exact hu
  · exact hv

/-- A fold whose steps keep the invariants keeps them. -/
theorem foldl_keeps_invariants {α : Type} {f : State → α → State} {xs : List α}
    (hf : ∀ {u x}, Keeps n k s u → Keeps n k s (f u x)) (h : Keeps n k s t) : Keeps n k s (xs.foldl f t) := by
  induction xs generalizing t with
  | nil => exact h
  | cons x xs ih => exact ih (hf h)

/-! ## The Timebase -/

theorem calRestart_keeps (h : Keeps n k s t) : Keeps n k s (calRestart t) := setTb_same_keeps h

theorem calDiscard_keeps (h : Keeps n k s t) : Keeps n k s (calDiscard t) :=
  ite_keeps (calRestart_keeps (bump_keeps (setTb_same_keeps h))) h

theorem calModeChange_keeps (h : Keeps n k s t) : Keeps n k s (calModeChange t) := calRestart_keeps (calDiscard_keeps h)

theorem runFast_keeps (h : Keeps n k s t) : Keeps n k s (runFast t) := ite_keeps (setTb_same_keeps h) h

theorem runSlow_keeps (h : Keeps n k s t) : Keeps n k s (runSlow t) := ite_keeps h (setTb_same_keeps h)

theorem distanceUnlocked_keeps (h : Keeps n k s t) : Keeps n k s (distanceUnlocked t) :=
  ite_keeps (setTb_keeps h (fun _ => rfl) (fun _ => rfl) fun r => { r with distance := Nat.one_le_ofNat }) h

theorem clampInt_range {x lo hi : Int} (h : lo ≤ hi) : lo ≤ clampInt x lo hi ∧ clampInt x lo hi ≤ hi := by
  unfold clampInt; split
  · omega
  · split <;> omega

theorem stepTime_le (time : StationTime) (m : Int) : stepTime time m ≤ maxTime :=
  Int.toNat_le.mpr (clampInt_range (by decide)).2

theorem tbStep_keeps {m : Int} (hk : k ≠ .still) (h : Keeps n k s t) : Keeps n k s (tbStep m t) :=
  bump_keeps (calDiscard_keeps (setTb_keeps h (fun _ => rfl) (fun c => absurd c hk)
    fun r => { r with time := stepTime_le _ _ }))

/-! ## The Two-Wire Master -/

theorem twRequest_keeps {x : TwUser} (h : Keeps n k s t) : Keeps n k s (twRequest x t) := setTwm_keeps h

theorem freeBusCheck_keeps (h : Keeps n k s t) : Keeps n k s (freeBusCheck t) := bumpIf_keeps (setTwm_keeps h)

theorem twStart_keeps {x : TwUser} (h : Keeps n k s t) : Keeps n k s (twStart x t) :=
  ite_keeps (freeBusCheck_keeps (setTwm_keeps h)) (setTwm_keeps h)

theorem twKick_keeps (h : Keeps n k s t) : Keeps n k s (twKick t) := by
  unfold twKick
  refine ite_keeps ?_ h
  split
  · exact twStart_keeps h
  · exact h

theorem twSclSampled_keeps (h : Keeps n k s t) : Keeps n k s (twSclSampled t) := by
  unfold twSclSampled
  split
  · exact ite_keeps (freeBusCheck_keeps h) h
  · exact h

theorem twCountEnd_keeps {m : Nat} {r : TwEnd m} (h : Keeps n k s t) : Keeps n k s (twCountEnd r t) := by
  cases r with
  | complete => exact h
  | nack => exact bump_keeps h
  | timeout => exact bump_keeps h
  | busStuck => exact bump_keeps h

theorem twEnd_keeps {m : Nat} {r : TwEnd m} (h : Keeps n k s t) : Keeps n k s (twEnd r t) := twCountEnd_keeps (setTwm_keeps h)

theorem twDiscard_keeps {x : TwUser} (h : Keeps n k s t) : Keeps n k s (twDiscard x t) := setTwm_keeps h

/-! ## The slots -/

theorem setSlots_keeps {x : Slots} (h : Keeps n k s t) : Keeps n k s (t.setSlots x) := setLc_keeps h

theorem requestNotice_keeps {x : Notice} (h : Keeps n k s t) : Keeps n k s (requestNotice x t) := ite_keeps (setSlots_keeps h) h

theorem requestReply_keeps {x : Nat} {t1 : StationTime} {t2 : Stamp} (h : Keeps n k s t) :
    Keeps n k s (requestReply x t1 t2 t) := ite_keeps (setSlots_keeps h) h

theorem requestProbe_keeps {x : Nat} (h : Keeps n k s t) : Keeps n k s (requestProbe x t) := ite_keeps (setSlots_keeps h) h

theorem requestDeclaration_keeps (h : Keeps n k s t) : Keeps n k s (requestDeclaration t) := ite_keeps (setSlots_keeps h) h

theorem fillBeacon_keeps {m : BeaconMark} (h : Keeps n k s t) : Keeps n k s (fillBeacon m t) :=
  ite_keeps (setMc_keeps (setSlots_keeps h)) (setSlots_keeps h)

theorem requestBeacon_keeps (h : Keeps n k s t) : Keeps n k s (requestBeacon t) := ite_keeps (fillBeacon_keeps h) h

theorem forgetProbeInFlight_keeps (h : Keeps n k s t) : Keeps n k s (forgetProbeInFlight t) := setLc_keeps h

theorem forgetReportInFlight_keeps (h : Keeps n k s t) : Keeps n k s (forgetReportInFlight t) := setLc_keeps h

theorem beaconTimerRestart_keeps (h : Keeps n k s t) : Keeps n k s (beaconTimerRestart t) := setLc_keeps h

/-! ## The detector -/

theorem requestBlanking_keeps {m : Nat} (h : Keeps n k s t) : Keeps n k s (requestBlanking m t) := ite_keeps h (setTd_keeps h)

theorem tdReport_keeps {b : State} (h : Keeps n k s t) : Keeps n k s (tdReport b t) :=
  have hstate : Keeps n k s (if b.td.state == t.td.state then t else tellMode t) := ite_keeps h (tellMode_keeps h)
  ite_keeps (alarmMode_keeps hstate) (ite_keeps (tellMode_keeps hstate) hstate)

theorem trimTimerStart_keeps (h : Keeps n k s t) : Keeps n k s (trimTimerStart t) := setTd_keeps h

theorem tdUnconfirmed_keeps (h : Keeps n k s t) : Keeps n k s (tdUnconfirmed t) :=
  bump_keeps (trimTimerStart_keeps (setTd_keeps h))

theorem tdUnconfirmedIf_keeps {b : Bool} (h : Keeps n k s t) : Keeps n k s (tdUnconfirmedIf b t) :=
  ite_keeps (tdUnconfirmed_keeps h) h

theorem requestEnd_keeps {o : StationTime} {m p d : Nat} (h : Keeps n k s t) : Keeps n k s (requestEnd o m p d t) :=
  ite_keeps (bump_keeps (setTd_keeps (requestNotice_keeps h))) (requestNotice_keeps h)

theorem tdStep_keeps (h : Keeps n k s t) : Keeps n k s (tdStep t) := setTd_keeps (ite_keeps (setSlots_keeps h) h)

/-! ## The heaters -/

theorem setHeater_keeps {x : HeaterId} {y : Heater} (h : Keeps n k s t) : Keeps n k s (setHeater x y t) := by
  cases x with
  | b => exact setHc_keeps h
  | s => exact setHc_keeps h

theorem takeEdge_keeps {x : HeaterId} {e : Edge} (h : Keeps n k s t) : Keeps n k s (takeEdge x e t) :=
  bump_keeps (requestBlanking_keeps (setHeater_keeps h))

theorem edgeDue_keeps {x : HeaterId} {e : Edge} (h : Keeps n k s t) : Keeps n k s (edgeDue x e t) :=
  ite_keeps (takeEdge_keeps h) (bump_keeps (setHeater_keeps h))

theorem examineEdge_keeps {x : HeaterId} (h : Keeps n k s t) : Keeps n k s (examineEdge x t) := by
  unfold examineEdge
  dsimp only
  split
  · exact h
  · exact ite_keeps (takeEdge_keeps h) (ite_keeps (bump_keeps (takeEdge_keeps h)) h)

theorem cancelOn_keeps {x : HeaterId} (h : Keeps n k s t) : Keeps n k s (cancelOn x t) := bump_keeps (setHeater_keeps h)

theorem frameStart_keeps {x : HeaterId} (h : Keeps n k s t) : Keeps n k s (frameStart x t) := by
  unfold frameStart
  dsimp only
  split
  · exact ite_keeps (examineEdge_keeps (setHeater_keeps h)) (bump_keeps (setHeater_keeps h))
  · exact ite_keeps (cancelOn_keeps (setHeater_keeps h)) (examineEdge_keeps (setHeater_keeps h))
  · exact ite_keeps (ite_keeps (edgeDue_keeps (setHeater_keeps h)) (setHeater_keeps h))
      (ite_keeps (setHeater_keeps h) (edgeDue_keeps (setHeater_keeps h)))

theorem slotBoundary_keeps {x : HeaterId} (h : Keeps n k s t) : Keeps n k s (slotBoundary x t) := by
  unfold slotBoundary
  refine ite_keeps ?_ (examineEdge_keeps (setHeater_keeps h))
  split
  · exact cancelOn_keeps (setHeater_keeps h)
  · exact examineEdge_keeps (setHeater_keeps h)
  · exact ite_keeps (edgeDue_keeps (setHeater_keeps h)) (setHeater_keeps h)

theorem heaterBoundary_keeps {sec : Nat} {x : HeaterId} (h : Keeps n k s t) : Keeps n k s (heaterBoundary sec x t) :=
  ite_keeps h (ite_keeps (frameStart_keeps h) (slotBoundary_keeps h))

theorem overtempTest_keeps {x : HeaterId} {r : Int} (h : Keeps n k s t) : Keeps n k s (overtempTest x r t) := by
  have hcancel : Keeps n k s (if (t.heater x).edge == some .on then cancelOn x t else t) := ite_keeps (cancelOn_keeps h) h
  exact ite_keeps (bump_keeps (ite_keeps (edgeDue_keeps (setHeater_keeps hcancel)) (setHeater_keeps hcancel))) h

theorem offForce_keeps {x : HeaterId} (h : Keeps n k s t) : Keeps n k s (offForce x t) :=
  ite_keeps (bump_keeps (bump_keeps (requestBlanking_keeps (setHeater_keeps h)))) (setHeater_keeps h)

theorem forceByAllowance_keeps (h : Keeps n k s t) : Keeps n k s (forceByAllowance t) :=
  have hb : Keeps n k s (if t.allowance .b == .off then offForce .b t else t) := ite_keeps (offForce_keeps h) h
  ite_keeps (offForce_keeps hb) hb

theorem cutFrame_keeps {x : HeaterId} (h : Keeps n k s t) : Keeps n k s (cutFrame x t) :=
  ite_keeps (edgeDue_keeps (setHeater_keeps h)) (setHeater_keeps h)

theorem hcStep_keeps (h : Keeps n k s t) : Keeps n k s (hcStep t) := bump_keeps (cutFrame_keeps (cutFrame_keeps h))

theorem takeOnTimes_keeps {b x : Nat} (h : Keeps n k s t) : Keeps n k s (takeOnTimes b x t) := setHc_keeps h

end
end Sys2Proof.Machine

namespace Sys2Proof.Machine
set_option Elab.async false
section
variable {n : Nat} {k : ClockUse} {s t u v : State}

/-! ## Tables and records -/

theorem setEntries_keeps {xs : List Entry} (h : Keeps n k s t) (hlen : xs.length ≤ t.cu.entries.length) :
    Keeps n k s (setEntries xs t) :=
  setCu_keeps h (by simpa using hlen) (Nat.le_refl _) id

/-- The event table takes no more records than it has, and none of them opens. -/
theorem setEvents_keeps {xs : List EventRec} (h : Keeps n k s t) (hlen : xs.length ≤ t.cu.events.length)
    (hopen : t.openEvent = false → xs.any (fun r => r.state.open) = false) : Keeps n k s (setEvents xs t) :=
  setCu_keeps h (Nat.le_refl _) (by simpa using hlen) (by simpa using hopen)

/-- A map that opens no record leaves an event table without open records so. -/
theorem any_open_map {xs : List EventRec} {f : EventRec → EventRec} (hf : ∀ r, (f r).state.open = true → r.state.open = true)
    (h : xs.any (fun r => r.state.open) = false) : (xs.map f).any (fun r => r.state.open) = false := by
  rw [List.any_map, List.any_eq_false]
  exact fun r hr ho => List.any_eq_false.mp h r hr (hf r ho)

theorem any_open_filter {xs : List EventRec} {p : EventRec → Bool} (h : xs.any (fun r => r.state.open) = false) :
    (xs.filter p).any (fun r => r.state.open) = false := by
  rw [List.any_eq_false] at h ⊢
  exact fun r hr => h r (List.mem_of_mem_filter hr)

theorem updRec_keeps {rid : Nat} {f : EventRec → EventRec} (h : Keeps n k s t)
    (hf : ∀ r, (f r).state.open = true → r.state.open = true := by exact fun _ ho => ho) : Keeps n k s (updRec rid f t) :=
  setEvents_keeps h (by simp) (any_open_map fun r => by
    split
    · exact hf r
    · exact id)

/-! ## The uplink: queue and stacked list -/

theorem setQueue_keeps {q : List Alert} (h : Keeps n k s t) (hlen : q.length ≤ t.uc.queue.length) :
    Keeps n k s (setQueue q t) := setUc_keeps h hlen

theorem setStacked_keeps {q : List Stacked} (h : Keeps n k s t) : Keeps n k s (setStacked q t) := setUc_keeps h

theorem setModem_keeps {m : Modem} {x : Option Timer} (h : Keeps n k s t) : Keeps n k s (setModem m x t) := setUc_keeps h

theorem ucSync_keeps (h : Keeps n k s t) : Keeps n k s (ucSync t) :=
  setCu_keeps h (Nat.le_refl _) (by simp) (any_open_map fun _ => id)

theorem ucLeft_keeps {rid : Option Nat} {how : UplinkState} (h : Keeps n k s t) : Keeps n k s (ucLeft rid how t) := by
  cases rid with
  | none => exact h
  | some => exact updRec_keeps h

theorem ucReportEmpty_keeps {b : State} (h : Keeps n k s t) : Keeps n k s (ucReportEmpty b t) := ite_keeps h (tellMode_keeps h)

/-- An alert is inserted where a place is free. -/
theorem ucInsert_keeps {kind : AlertKind} {rid : Option Nat} {i : Option EventId} {m : Nat} (h : Keeps n k s t)
    (hroom : s.TablesWithin n → t.uc.queue.length < 8) : Keeps n k s (ucInsert kind rid i m t) := by
  refine alarmMode_keeps (tellMode_keeps_of_data
    { h.toKeepsData with tables := fun b => ?_ } h.standing h.critical)
  obtain ⟨he, hv, -⟩ := h.tables b
  exact ⟨he, by simpa [ucSync, setQueue, State.setUc] using hv, by simpa [ucSync, setQueue, State.setUc] using hroom b⟩

theorem ucStack_keeps {kind : AlertKind} {rid : Nat} {id : Option EventId} {m : Nat} (h : Keeps n k s t) :
    Keeps n k s (ucStack kind rid id m t) :=
  ite_keeps h (bump_keeps (ucSync_keeps (ite_keeps (updRec_keeps (setStacked_keeps h)) (setStacked_keeps h))))

theorem ucPlaceHealth_keeps (h : Keeps n k s t) : Keeps n k s (ucPlaceHealth t) := by
  unfold ucPlaceHealth
  split
  · exact ucInsert_keeps h fun _ => ‹_›
  · exact bump_keeps h

theorem ucRaiseHealth_keeps (h : Keeps n k s t) : Keeps n k s (ucRaiseHealth t) :=
  ite_keeps h (ite_keeps (bump_keeps h) (ite_keeps h (ite_keeps (setUc_keeps h) (ucPlaceHealth_keeps h))))

theorem ucHealthLeft_keeps {kind : AlertKind} (h : Keeps n k s t) : Keeps n k s (ucHealthLeft kind t) :=
  ite_keeps (ucRaiseHealth_keeps (setUc_keeps h)) h

theorem ucEvictHealth_keeps (h : Keeps n k s t) : Keeps n k s (ucEvictHealth t) :=
  bump_keeps (setQueue_keeps h (List.length_filter_le ..))

/-- A waiting HEALTH alert that makes room leaves a place free. -/
theorem ucEvictHealth_queue_lt (hq : t.uc.queue.length ≤ 8)
    (hany : t.uc.queue.any (fun a => a.kind == .health && !a.turn.inTransfer) = true) :
    (ucEvictHealth t).uc.queue.length < 8 := by
  obtain ⟨a, ha, hp⟩ := List.any_eq_true.mp hany
  have hlt : (t.uc.queue.filter fun a => !(a.kind == .health && !a.turn.inTransfer)).length < t.uc.queue.length :=
    List.length_filter_lt_length_iff_exists.mpr ⟨a, ha, by simpa using hp⟩
  simpa [ucEvictHealth, setQueue] using hlt.trans_le hq

theorem ucPlace_keeps {kind : AlertKind} {rid : Nat} {id : Option EventId} {m : Nat} (h : Keeps n k s t) :
    Keeps n k s (ucPlace kind rid id m t) := by
  unfold ucPlace
  split
  · exact ucInsert_keeps h fun _ => ‹_›
  · split
    · next hany =>
      exact ucHealthLeft_keeps (ucInsert_keeps (ucEvictHealth_keeps h) fun b =>
        have ⟨_, _, hq⟩ := h.tables b
        ucEvictHealth_queue_lt hq hany)
    · exact ucStack_keeps h

theorem ucRaiseRetract_keeps {rid : Nat} {id : Option EventId} (h : Keeps n k s t) : Keeps n k s (ucRaiseRetract rid id t) :=
  ite_keeps h (ucPlace_keeps h)

theorem ucRaiseReport_keeps {kind : AlertKind} {rid : Nat} (h : Keeps n k s t) : Keeps n k s (ucRaiseReport kind rid t) := by
  unfold ucRaiseReport
  split
  · exact h
  · exact ite_keeps (setQueue_keeps h (by simp)) (ite_keeps (updRec_keeps h) (ite_keeps h (ucPlace_keeps h)))

theorem ucPromoteOne_keeps (h : Keeps n k s t) : Keeps n k s (ucPromoteOne t) := by
  unfold ucPromoteOne
  split
  · next hroom =>
    split
    · exact h
    · dsimp only
      split
      · exact ucInsert_keeps (updRec_keeps (setStacked_keeps h)) fun _ => hroom
      · exact ucInsert_keeps (setStacked_keeps h) fun _ => hroom
  · exact h

theorem ucPromote_keeps (h : Keeps n k s t) : Keeps n k s (ucPromote t) := foldl_keeps_invariants ucPromoteOne_keeps h

theorem ucLeave_keeps {a : Alert} {how : UplinkState} (h : Keeps n k s t) : Keeps n k s (ucLeave a how t) :=
  ucHealthLeft_keeps (ucPromote_keeps (ucReportEmpty_keeps (ucSync_keeps (ucLeft_keeps
    (setQueue_keeps h (List.length_erase_le ..))))))

/-! ## The uplink: reports of the Coincidence Unit -/

theorem ucNewEvent_keeps {rid : Nat} (h : Keeps n k s t) : Keeps n k s (ucNewEvent rid t) := ite_keeps (ucRaiseReport_keeps h) h

theorem ucUpdate_keeps {rid : Nat} (h : Keeps n k s t) : Keeps n k s (ucUpdate rid t) := ite_keeps h (ucRaiseReport_keeps h)

theorem ucRetractWithdrawn_keeps {rid : Nat} (h : Keeps n k s t) : Keeps n k s (ucRetractWithdrawn rid t) := by
  unfold ucRetractWithdrawn
  split
  · exact h
  · exact ite_keeps (ucRaiseRetract_keeps h) h

theorem ucWithdraw_keeps {rid : Nat} (h : Keeps n k s t) : Keeps n k s (ucWithdraw rid t) := by
  refine ite_keeps h (ucRetractWithdrawn_keeps (ucReportEmpty_keeps (ucSync_keeps ?_)))
  have hqueue {v : Uplink} (hv : v.queue.length ≤ t.uc.queue.length) : Keeps n k s (t.setUc v) := setUc_keeps h hv
  have hle (p : Alert → Bool) (f : Alert → Alert) : ((t.uc.queue.filter p).map f).length ≤ t.uc.queue.length := by
    simpa using List.length_filter_le p t.uc.queue
  exact ite_keeps (updRec_keeps (hqueue (hle _ _))) (hqueue (hle _ _))

theorem ucChangeId_keeps {rid : Nat} {former : Option EventId} (h : Keeps n k s t) : Keeps n k s (ucChangeId rid former t) := by
  unfold ucChangeId
  split
  · refine ite_keeps h (ite_keeps (setQueue_keeps h (by simp)) ?_)
    extract_lets has q stacked x u v
    have hu : Keeps n k s u := updRec_keeps (setUc_keeps h (by simp [q]))
    have hv : Keeps n k s v := ucRaiseRetract_keeps hu
    exact ite_keeps hv (ucRaiseReport_keeps hv)
  · exact h

/-! ## The modem and the attempts -/

theorem ucStart_keeps (h : Keeps n k s t) : Keeps n k s (ucStart t) := by
  unfold ucStart
  split
  · exact h
  · exact ucSync_keeps (setUc_keeps h (by simp))

theorem enterReadyWait_keeps (h : Keeps n k s t) : Keeps n k s (enterReadyWait t) :=
  ite_keeps (ucStart_keeps (setModem_keeps h)) (setModem_keeps h)

theorem enterIdle_keeps (h : Keeps n k s t) : Keeps n k s (enterIdle t) := setModem_keeps h

theorem modemNext_keeps (h : Keeps n k s t) : Keeps n k s (modemNext t) := ite_keeps (enterReadyWait_keeps h) (enterIdle_keeps h)

theorem modemKick_keeps (h : Keeps n k s t) : Keeps n k s (modemKick t) := by
  unfold modemKick
  refine ite_keeps h ?_
  split
  · exact ite_keeps h (setModem_keeps h)
  · exact ite_keeps (enterReadyWait_keeps h) (ite_keeps (setModem_keeps h) (ite_keeps (setModem_keeps h) h))
  · exact ite_keeps h (enterIdle_keeps h)
  all_goals exact h

theorem retractFormer_keeps {a : Alert} (h : Keeps n k s t) : Keeps n k s (retractFormer a t) := by
  unfold retractFormer
  split
  · exact ite_keeps (ucRaiseRetract_keeps (updRec_keeps h)) h
  · exact h

theorem putAlert_keeps {a b : Alert} (h : Keeps n k s t) : Keeps n k s (putAlert a b t) :=
  ucSync_keeps (setQueue_keeps h (by simp))

theorem failAttempt_keeps {a : Alert} (h : Keeps n k s t) : Keeps n k s (failAttempt a t) :=
  retractFormer_keeps (ite_keeps (putAlert_keeps h) (bump_keeps (ucLeave_keeps h)))

theorem returnAlert_keeps {a : Alert} (h : Keeps n k s t) : Keeps n k s (returnAlert a t) := retractFormer_keeps (putAlert_keeps h)

theorem leaveWithdrawn_keeps {a : Alert} (h : Keeps n k s t) : Keeps n k s (leaveWithdrawn a t) := by
  unfold leaveWithdrawn
  dsimp only
  split
  · exact ucRetractWithdrawn_keeps (ucLeave_keeps h)
  · exact ucLeave_keeps h

theorem endCut_keeps {c : Cut} {a : Alert} (h : Keeps n k s t) : Keeps n k s (endCut c a t) := by
  cases c with
  | withdrawal => exact leaveWithdrawn_keeps (bump_keeps h)
  | change => exact returnAlert_keeps (bump_keeps h)

theorem ackAlert_keeps {a : Alert} {x : Transfer} (h : Keeps n k s t) : Keeps n k s (ackAlert a x t) := by
  unfold ackAlert
  extract_lets r changed s1 s2 s3
  have h1 : Keeps n k s s1 := by
    unfold s1; split
    · exact ite_keeps (updRec_keeps h) h
    · exact h
  have h2 : Keeps n k s s2 := by
    unfold s2; split
    · exact takeOnTimes_keeps h1
    · exact h1
  have h3 : Keeps n k s s3 := bump_keeps (ucLeave_keeps h2)
  split
  · exact h3
  · exact ite_keeps h3 (ite_keeps (ucRetractWithdrawn_keeps h3)
      (ite_keeps (ucRaiseReport_keeps (ucRaiseRetract_keeps h3)) (ite_keeps (ucRaiseReport_keeps h3) h3)))

theorem nakAlert_keeps {a : Alert} (h : Keeps n k s t) : Keeps n k s (nakAlert a t) :=
  ite_keeps (leaveWithdrawn_keeps h) (failAttempt_keeps h)

theorem endAwaiting_keeps (h : Keeps n k s t) : Keeps n k s (endAwaiting t) := modemNext_keeps (setUc_keeps h)

theorem ucModeOff_keeps (h : Keeps n k s t) : Keeps n k s (ucModeOff t) := by
  unfold ucModeOff
  dsimp only
  split
  · exact setUc_keeps h
  · exact ite_keeps (leaveWithdrawn_keeps (bump_keeps (setUc_keeps h)))
      (ite_keeps (leaveWithdrawn_keeps (setUc_keeps h)) (returnAlert_keeps (setUc_keeps h)))

theorem healthTimerStart_keeps (h : Keeps n k s t) : Keeps n k s (healthTimerStart t) := setUc_keeps h

theorem ucHealth_keeps (h : Keeps n k s t) : Keeps n k s (ucHealth t) := healthTimerStart_keeps (ucRaiseHealth_keeps h)

theorem ucFetch_keeps {x : Transfer} (h : Keeps n k s t) : Keeps n k s (ucFetch x t) := ite_keeps (setUc_keeps h) (setUc_keeps h)

end
end Sys2Proof.Machine

namespace Sys2Proof.Machine
set_option Elab.async false

/-! ## The trigger table under the operations of the uplink -/

@[simp] theorem setEvents_entries (xs : List EventRec) (s : State) : (setEvents xs s).cu.entries = s.cu.entries := rfl
@[simp] theorem updRec_entries (rid : Nat) (f : EventRec → EventRec) (s : State) :
    (updRec rid f s).cu.entries = s.cu.entries := rfl
@[simp] theorem ucSync_entries (s : State) : (ucSync s).cu.entries = s.cu.entries := rfl

@[simp] theorem ucInsert_entries (kind : AlertKind) (rid : Option Nat) (id : Option EventId) (m : Nat) (s : State) :
    (ucInsert kind rid id m s).cu.entries = s.cu.entries := rfl

@[simp] theorem ucStack_entries (kind : AlertKind) (rid : Nat) (id : Option EventId) (m : Nat) (s : State) :
    (ucStack kind rid id m s).cu.entries = s.cu.entries := by
  unfold ucStack; (repeat' split) <;> simp

@[simp] theorem ucPlaceHealth_entries (s : State) : (ucPlaceHealth s).cu.entries = s.cu.entries := by
  unfold ucPlaceHealth; split <;> simp

@[simp] theorem ucRaiseHealth_entries (s : State) : (ucRaiseHealth s).cu.entries = s.cu.entries := by
  unfold ucRaiseHealth; (repeat' split) <;> simp

@[simp] theorem ucHealthLeft_entries (kind : AlertKind) (s : State) : (ucHealthLeft kind s).cu.entries = s.cu.entries := by
  unfold ucHealthLeft; split <;> simp

@[simp] theorem ucPlace_entries (kind : AlertKind) (rid : Nat) (id : Option EventId) (m : Nat) (s : State) :
    (ucPlace kind rid id m s).cu.entries = s.cu.entries := by
  unfold ucPlace; (repeat' split) <;> simp

@[simp] theorem ucRaiseReport_entries (kind : AlertKind) (rid : Nat) (s : State) :
    (ucRaiseReport kind rid s).cu.entries = s.cu.entries := by
  unfold ucRaiseReport; dsimp only; (repeat' split) <;> simp

@[simp] theorem ucUpdate_entries (rid : Nat) (s : State) : (ucUpdate rid s).cu.entries = s.cu.entries := by
  unfold ucUpdate; split <;> simp

@[simp] theorem oweUpdate_entries (rid : Nat) (s : State) : (oweUpdate rid s).cu.entries = s.cu.entries := by
  unfold oweUpdate; (repeat' split) <;> simp

@[simp] theorem joinRecord_entries (r : EventRec) (f : Fit) (e : Entry) (s : State) :
    (joinRecord r f e s).cu.entries = s.cu.entries := by
  unfold joinRecord; split <;> simp

section
variable {n : Nat} {k : ClockUse} {s t u v : State}

/-! ## The Coincidence Unit: records -/

theorem cuReport_keeps (h : Keeps n k s t) : Keeps n k s (cuReport t) := tellMode_keeps h

theorem cuReportOpen_keeps (h : Keeps n k s t) : Keeps n k s (cuReportOpen t) := alarmMode_keeps (tellMode_keeps h)

/-- Where an operation on the records opens one, what follows reports it. -/
theorem cuReportOpen_keeps_opened (h : Keeps n k s t) (hdata : KeepsData n k s u) (hmc : u.mc = t.mc) (hbm : u.bm = t.bm)
    (g : Keeps n k u v) : Keeps n k s (cuReportOpen v) :=
  alarmMode_keeps (tellMode_keeps_of_data (hdata.trans g.toKeepsData) (g.standing.trans (hmc ▸ h.standing))
    fun hc => h.critical (hbm ▸ g.critical hc))

theorem cuRequest_keeps (h : Keeps n k s t) : Keeps n k s (cuRequest t) := ite_keeps (requestDeclaration_keeps h) h

theorem mergePart_keeps {rid station peak : Nat} {onset : StationTime} (h : Keeps n k s t) :
    Keeps n k s (mergePart rid station onset peak t) := by
  unfold mergePart
  split
  · exact h
  · exact ite_keeps (updRec_keeps h) (ite_keeps h (ite_keeps (updRec_keeps h) (bump_keeps h)))

theorem mergeDecl_keeps {rid : Nat} {d : DeclBody} (h : Keeps n k s t) : Keeps n k s (mergeDecl rid d t) :=
  foldl_keeps_invariants mergePart_keeps h

theorem oweUpdate_keeps {rid : Nat} (h : Keeps n k s t) : Keeps n k s (oweUpdate rid t) := by
  unfold oweUpdate
  split
  · exact h
  · exact ite_keeps h (ite_keeps h (ite_keeps (ucUpdate_keeps (updRec_keeps h)) h))

theorem joinRecord_keeps {r : EventRec} {f : Fit} {e : Entry} (h : Keeps n k s t) : Keeps n k s (joinRecord r f e t) := by
  unfold joinRecord
  split
  · exact oweUpdate_keeps (updRec_keeps h)
  · exact h

theorem offerOne_keeps {allow : EventRec → Bool} {e : Entry} (h : Keeps n k s t) : Keeps n k s (offerOne allow t e) := by
  unfold offerOne
  refine ite_keeps ?_ h
  split
  · exact joinRecord_keeps (setEntries_keeps h (by simp))
  · exact h

theorem offerEach_keeps {allow : EventRec → Bool} {es : List Entry} (h : Keeps n k s t) :
    Keeps n k s (offerEach allow es t) := foldl_keeps_invariants offerOne_keeps h

theorem offerTo_keeps {rid : Nat} (h : Keeps n k s t) : Keeps n k s (offerTo rid t) := offerEach_keeps h

theorem retentionSweep_keeps (h : Keeps n k s t) : Keeps n k s (retentionSweep t) :=
  foldl_keeps_invariants tdUnconfirmedIf_keeps (setEntries_keeps h (List.length_filter_le ..))

theorem removeRec_keeps {rid : Nat} (h : Keeps n k s t) : Keeps n k s (removeRec rid t) :=
  cuReport_keeps (setCu_keeps h (List.length_filter_le ..) (List.length_filter_le ..) any_open_filter)

theorem freeEntries_keeps {rid : Nat} (h : Keeps n k s t) : Keeps n k s (freeEntries rid t) :=
  retentionSweep_keeps (offerEach_keeps (removeRec_keeps (setEntries_keeps h (by simp))))

theorem lingerSweep_keeps (h : Keeps n k s t) : Keeps n k s (lingerSweep t) := foldl_keeps_invariants removeRec_keeps h

theorem confirmEntries_keeps {rid : Nat} (h : Keeps n k s t) : Keeps n k s (confirmEntries rid t) :=
  setEntries_keeps h (by simp)

/-- A record may change its state freely where the change is then reported. -/
theorem updRec_data {rid : Nat} {f : EventRec → EventRec} (h : Keeps n k s t) : KeepsData n k s (updRec rid f t) :=
  h.toKeepsData.trans ⟨rfl, fun _ => rfl, fun _ => rfl, id, id, id,
    fun ⟨he, hv, hq⟩ => ⟨he, by simpa [updRec, setEvents] using hv, hq⟩⟩

theorem declareRec_keeps {rid : Nat} (h : Keeps n k s t) : Keeps n k s (declareRec rid t) := by
  have hseq : Keeps n k s (t.setCu { t.cu with ownEventSeq := (t.cu.ownEventSeq + 1) % 256 }) :=
    setCu_keeps h (Nat.le_refl _) (Nat.le_refl _) id
  exact cuRequest_keeps (ucNewEvent_keeps (cuReportOpen_keeps_opened hseq (updRec_data hseq) rfl rfl
    (bump_keeps (confirmEntries_keeps (.refl n k _)))))

theorem holdoffExpire_keeps {rid : Nat} (h : Keeps n k s t) : Keeps n k s (holdoffExpire rid t) := by
  unfold holdoffExpire
  split
  · exact h
  · exact ite_keeps (cuRequest_keeps (freeEntries_keeps (bump_keeps h))) (declareRec_keeps h)

/-! ## A place for a new record -/

/-- The record found for eviction leaves a place free. -/
theorem removeRec_events_lt {r : EventRec} {m : Nat} (hr : r ∈ t.cu.events) (hm : t.cu.events.length ≤ m) :
    (removeRec r.rid t).cu.events.length < m :=
  (List.length_filter_lt_length_iff_exists.mpr ⟨r, hr, by simp⟩).trans_le hm

/-- A place is a free one, or that of a record that is removed (R125). -/
theorem makePlace_eq_some {keep : Option Nat} (hp : makePlace keep t = some u) :
    (u = t ∧ t.cu.events.length < 8) ∨ ∃ r ∈ t.cu.events, u = removeRec r.rid t := by
  unfold makePlace at hp
  split at hp
  · exact .inl ⟨(Option.some.inj hp).symm, ‹_›⟩
  · dsimp only at hp
    split at hp
    · next r hr => exact .inr ⟨r, List.mem_of_find?_eq_some hr, (Option.some.inj hp).symm⟩
    · split at hp
      · next r hr => exact .inr ⟨r, List.mem_of_find?_eq_some hr, (Option.some.inj hp).symm⟩
      · cases hp

theorem makePlace_keeps {keep : Option Nat} (h : Keeps n k s t) (hp : makePlace keep t = some u) : Keeps n k s u := by
  rcases makePlace_eq_some hp with ⟨rfl, -⟩ | ⟨r, -, rfl⟩
  · exact h
  · exact removeRec_keeps h

theorem makePlace_room {keep : Option Nat} (h : Keeps n k s t) (hp : makePlace keep t = some u) :
    s.TablesWithin n → u.cu.events.length < 8 := by
  intro b
  obtain ⟨-, hv, -⟩ := h.tables b
  rcases makePlace_eq_some hp with ⟨rfl, hlt⟩ | ⟨r, hr, rfl⟩
  · exact hlt
  · exact removeRec_events_lt hr hv

/-- A record in a place of its own, to be reported. -/
theorem insertRec_data {r : EventRec} (h : Keeps n k s t) (hroom : s.TablesWithin n → t.cu.events.length < 8) :
    KeepsData n k s (insertRec r t) := by
  refine { h.toKeepsData with tables := fun b => ?_ }
  obtain ⟨he, -, hq⟩ := h.tables b
  exact ⟨he, by simpa [insertRec, setEvents] using hroom b, hq⟩

theorem evalQuorum_keeps (h : Keeps n k s t) : Keeps n k s (evalQuorum t) := by
  unfold evalQuorum
  refine ite_keeps h ?_
  split
  · exact h
  · next e he =>
    extract_lets win v0
    split
    · exact bump_keeps (bump_keeps h)
    · next u hu =>
      have hplace := makePlace_keeps (bump_keeps h) hu
      extract_lets rank period r v1 v2 v3 v4
      have hbind : Keeps n k v1 v3 := setEntries_keeps (foldl_keeps_invariants mergePart_keeps (.refl n k _)) (by simp)
      have hopen : Keeps n k s v4 := cuReportOpen_keeps_opened hplace
        (insertRec_data hplace (makePlace_room (bump_keeps h) hu)) rfl rfl hbind
      exact ite_keeps (holdoffExpire_keeps hopen) hopen

/-! ## Admission to the trigger table -/

theorem evict_keeps {e : Entry} (h : Keeps n k s t) : Keeps n k s (evict e t) := by
  have herase : Keeps n k s (tdUnconfirmedIf (e.own && !e.confirmed)
      (bump .triggerTableOverflow (setEntries (t.cu.entries.erase e) t))) :=
    tdUnconfirmedIf_keeps (bump_keeps (setEntries_keeps h (List.length_erase_le ..)))
  unfold evict
  dsimp only
  split
  · exact herase
  · exact freeEntries_keeps herase

theorem evictFor_keeps {victim : Option Entry} (h : Keeps n k s t) : Keeps n k s (evictFor victim t) := by
  cases victim with
  | none => exact h
  | some => exact evict_keeps h

/-- The eviction of an entry of the table frees a place. -/
theorem evict_tables {e : Entry} (he : e ∈ t.cu.entries) (b : t.TablesWithin (n + 1)) : (evict e t).TablesWithin n := by
  obtain ⟨hle, hv, hq⟩ := b
  have hlen : (setEntries (t.cu.entries.erase e) t).TablesWithin n :=
    ⟨by simp [setEntries, List.length_erase_of_mem he]; omega, hv, hq⟩
  have herase : (tdUnconfirmedIf (e.own && !e.confirmed)
      (bump .triggerTableOverflow (setEntries (t.cu.entries.erase e) t))).TablesWithin n :=
    (tdUnconfirmedIf_keeps (bump_keeps (.refl n .still _))).tables hlen
  unfold evict
  dsimp only
  split
  · exact herase
  · exact (freeEntries_keeps (.refl n .still _)).tables herase

/-- An arrival takes a free place of the trigger table. -/
theorem addEntry_keeps {e : Entry} (h : Keeps n k s t) (hroom : s.TablesWithin n → t.cu.entries.length < n) :
    Keeps n k s (setEntries (t.cu.entries ++ [e]) t) := by
  refine ⟨⟨{ h.toKeepsData with tables := fun b => ?_ }, fun hl => ?_⟩, h.standing, h.critical⟩
  · obtain ⟨-, hv, hq⟩ := h.tables b
    exact ⟨by simpa [setEntries] using hroom b, hv, hq⟩
  · exact (h.law hl).imp_right fun l => l.of_same rfl rfl id id

/-- The other invariants do not depend on the size of the trigger table. -/
theorem Keeps.withTables {m : Nat} (h : Keeps m k s t) (ht : s.TablesWithin n → t.TablesWithin n) : Keeps n k s t :=
  { h with tables := ht }

theorem placeEntry_keeps {e : Entry} (h : Keeps 24 k s t) : Keeps 24 k s (placeEntry e t) := by
  unfold placeEntry
  split
  · exact bump_keeps h
  · next victim hvictim =>
    unfold State.placeFor at hvictim
    split at hvictim
    · next hroom =>
      obtain rfl : none = victim := Option.some.inj hvictim
      split
      · exact joinRecord_keeps (addEntry_keeps h fun _ => hroom)
      · exact evalQuorum_keeps (addEntry_keeps h fun _ => hroom)
    · obtain ⟨x, hx, rfl⟩ := Option.map_eq_some_iff.mp hvictim
      have hmem : x ∈ t.cu.entries := List.mem_of_find?_eq_some hx
      split
      · next r f _ =>
        have hjoin {m : Nat} {y : Entry} (hm : t.cu.entries.length < m) :
            Keeps m k t (joinRecord r f e (setEntries (t.cu.entries ++ [y]) t)) :=
          joinRecord_keeps (addEntry_keeps (.refl m k t) fun _ => hm)
        refine h.trans ((evict_keeps (hjoin (Nat.lt_succ_self _))).withTables fun b => ?_)
        obtain ⟨hle, hv, hq⟩ := b
        refine evict_tables (by simp [setEntries, hmem]) ((hjoin (m := 25) (by omega)).tables ⟨by omega, hv, hq⟩)
      · refine evalQuorum_keeps (addEntry_keeps (evict_keeps h) fun b => ?_)
        exact Nat.lt_succ_of_le (evict_tables hmem (h.tables b)).1

end
end Sys2Proof.Machine

namespace Sys2Proof.Machine
set_option Elab.async false
section
variable {n : Nat} {k : ClockUse} {s t u v : State}

theorem renewEnd_keeps {p : EventRec → Bool} (h : Keeps n k s t) : Keeps n k s (renewEnd p t) :=
  setCu_keeps h (Nat.le_refl _) (by simp) (any_open_map fun r => by split <;> exact id)

theorem mergeEntry_keeps {e x : Entry} (h : Keeps n k s t) : Keeps n k s (mergeEntry e x t) := by
  have hset : Keeps n k s (setEntries (t.cu.entries.replace e (e.absorb x)) t) := setEntries_keeps h (by simp)
  unfold mergeEntry
  dsimp only
  split
  · refine ite_keeps (renewEnd_keeps ?_) ?_
    all_goals exact updRec_keeps hset
  · exact evalQuorum_keeps (offerOne_keeps hset)

theorem admitOnset_keeps {x : Entry} (h : Keeps 24 k s t) : Keeps 24 k s (admitOnset x t) := by
  unfold admitOnset
  refine ite_keeps (bump_keeps h) ?_
  split
  · exact cuRequest_keeps (mergeEntry_keeps h)
  · exact cuRequest_keeps (placeEntry_keeps h)

/-! ## The Coincidence Unit: closure, own reports, notices and beacons -/

theorem closeWhere_keeps {p : EventRec → Bool} (h : Keeps n k s t) : Keeps n k s (closeWhere p t) :=
  ite_keeps (cuReport_keeps (setCu_keeps h (Nat.le_refl _) (by simp) (any_open_map fun r => by
    split
    · exact fun ho => nomatch ho
    · exact id))) h

theorem closeTest_keeps {p : EventRec → Bool} (h : Keeps n k s t) : Keeps n k s (closeTest p t) := closeWhere_keeps h

theorem cuOwnOnset_keeps {o : StationTime} {m p : Nat} (h : Keeps 24 k s t) : Keeps 24 k s (cuOwnOnset o m p t) :=
  admitOnset_keeps h

theorem cuOwnEnd_keeps {o e : StationTime} {m p : Nat} (h : Keeps n k s t) : Keeps n k s (cuOwnEnd o e m p t) := by
  unfold cuOwnEnd
  split
  · exact h
  · exact closeTest_keeps (cuRequest_keeps (mergeEntry_keeps h))

theorem cuNotice_keeps {sender : Nat} {x : Notice} (h : Keeps 24 k s t) : Keeps 24 k s (cuNotice sender x t) :=
  closeTest_keeps (admitOnset_keeps h)

theorem cuBeacon_keeps {sender : Nat} {b : BeaconBody} {ended : Bool} (h : Keeps 24 k s t) :
    Keeps 24 k s (cuBeacon sender b ended t) := by
  unfold cuBeacon
  extract_lets v w
  have hv : Keeps 24 k s v := by
    unfold v; split
    · exact h
    · exact ite_keeps h (bumpIf_keeps (admitOnset_keeps h))
  exact closeTest_keeps (ite_keeps (renewEnd_keeps hv) hv)

theorem cuPeerRemoved_keeps {id : Nat} (h : Keeps n k s t) : Keeps n k s (cuPeerRemoved id t) :=
  closeTest_keeps (renewEnd_keeps h)

/-! ## The Coincidence Unit: declarations -/

theorem declUpdate_keeps {r : EventRec} {d : DeclBody} (h : Keeps n k s t) : Keeps n k s (declUpdate r d t) := by
  have hmerge : Keeps n k s (updRec r.rid (fun x => { x with update := max x.update d.update }) (mergeDecl r.rid d t)) :=
    updRec_keeps (mergeDecl_keeps h)
  exact offerTo_keeps (ite_keeps (ucUpdate_keeps hmerge) hmerge)

theorem declAdoptHoldoff_keeps {r : EventRec} {d : DeclBody} (h : Keeps n k s t) :
    Keeps n k s (declAdoptHoldoff r d t) :=
  offerTo_keeps (ucNewEvent_keeps (cuReportOpen_keeps_opened h (updRec_data h) rfl rfl
    (bump_keeps (confirmEntries_keeps (mergeDecl_keeps (.refl n k _))))))

theorem declAdoptNew_keeps {d : DeclBody} (h : Keeps n k s t) : Keeps n k s (declAdoptNew d t) := by
  unfold declAdoptNew
  split
  · exact bump_keeps h
  · next hu =>
    have hplace := makePlace_keeps h hu
    exact offerTo_keeps (ucNewEvent_keeps (cuReportOpen_keeps_opened hplace
      (insertRec_data hplace (makePlace_room h hu)) rfl rfl (bump_keeps (mergeDecl_keeps (.refl n k _)))))

theorem conflictLost_keeps {x : EventRec} {d : DeclBody} (h : Keeps n k s t) : Keeps n k s (conflictLost x d t) := by
  unfold conflictLost
  extract_lets v w z
  have hv : Keeps n k s v := updRec_keeps h fun _ ho => nomatch ho
  have hw : Keeps n k s w := ucWithdraw_keeps (cuReport_keeps hv)
  refine bump_keeps (ucPromote_keeps ?_)
  unfold z
  split
  · exact bump_keeps hw
  · next hu =>
    have hplace := makePlace_keeps hw hu
    exact offerTo_keeps (ucNewEvent_keeps (cuReportOpen_keeps_opened hplace
      (insertRec_data hplace (makePlace_room hw hu)) rfl rfl
      (setEntries_keeps (foldl_keeps_invariants mergePart_keeps (mergeDecl_keeps (.refl n k _))) (by simp))))

theorem conflictWon_keeps {x : EventRec} {d : DeclBody} (h : Keeps n k s t) : Keeps n k s (conflictWon x d t) :=
  bump_keeps (offerTo_keeps (oweUpdate_keeps (mergeDecl_keeps h)))

theorem conflictAdopted_keeps {x : EventRec} {d : DeclBody} (h : Keeps n k s t) : Keeps n k s (conflictAdopted x d t) :=
  ite_keeps (offerTo_keeps (ucChangeId_keeps (mergeDecl_keeps (updRec_keeps h)))) (offerTo_keeps (mergeDecl_keeps h))

theorem declAgainst_keeps {d : DeclBody} (h : Keeps n k s t) : Keeps n k s (declAgainst d t) := by
  unfold declAgainst
  split
  · exact ite_keeps (bump_keeps h) (declAdoptNew_keeps h)
  · split
    · exact ite_keeps (conflictLost_keeps h) (conflictWon_keeps h)
    · exact conflictAdopted_keeps h
    all_goals exact declAdoptHoldoff_keeps h

theorem cuDeclaration_keeps {sender : Nat} {d : DeclBody} (h : Keeps n k s t) : Keeps n k s (cuDeclaration sender d t) := by
  unfold cuDeclaration
  refine ite_keeps (bump_keeps h) (cuRequest_keeps ?_)
  split
  · exact declUpdate_keeps h
  · exact declAgainst_keeps h

theorem cuDeclarationSent_keeps {rid m : Nat} (h : Keeps n k s t) : Keeps n k s (cuDeclarationSent rid m t) :=
  cuRequest_keeps (updRec_keeps h)

theorem cuStep_keeps (h : Keeps n k s t) : Keeps n k s (cuStep t) :=
  retentionSweep_keeps (setEntries_keeps h (List.length_filter_le ..))

theorem cuClear_keeps (h : Keeps n k s t) : Keeps n k s (cuClear t) := setCu_keeps h (Nat.zero_le _) (Nat.le_refl _) id

theorem cuShelter_keeps (h : Keeps n k s t) : Keeps n k s (cuShelter t) :=
  closeWhere_keeps (ite_keeps (cuReport_keeps (setCu_keeps (cuClear_keeps h) (Nat.le_refl _) (List.length_filter_le ..)
    any_open_filter)) (cuClear_keeps h))

/-! ## The station trigger -/

theorem tdOnset_keeps {g : StationTime} {p : Nat} (h : Keeps 24 k s t) : Keeps 24 k s (tdOnset g p t) :=
  bump_keeps (cuOwnOnset_keeps (requestNotice_keeps (setTd_keeps h)))

theorem tdEndReports_keeps {e : StationTime} (h : Keeps n k s t) : Keeps n k s (tdEndReports e t) := by
  unfold tdEndReports
  split
  · exact requestEnd_keeps (cuOwnEnd_keeps h)
  · exact h

theorem tdOff_keeps (h : Keeps n k s t) : Keeps n k s (tdOff t) := tdEndReports_keeps (setTd_keeps h)

theorem tdHold_keeps {g : StationTime} (h : Keeps n k s t) : Keeps n k s (tdHold g t) :=
  ite_keeps (tdOff_keeps (setTd_keeps h)) (setTd_keeps h)

theorem tdRetrigger_keeps (h : Keeps n k s t) : Keeps n k s (tdRetrigger t) := bump_keeps (setTd_keeps h)

theorem tdEvaluate_keeps {g : StationTime} {m : Nat} (h : Keeps 24 k s t) : Keeps 24 k s (tdEvaluate g m t) := by
  unfold tdEvaluate
  dsimp only
  split
  · exact h
  · exact ite_keeps (setTd_keeps h) h
  · exact ite_keeps (tdOnset_keeps h) h
  · exact ite_keeps (setTd_keeps h) (tdHold_keeps (setTd_keeps h))
  · exact ite_keeps (tdRetrigger_keeps (setTd_keeps h)) (setTd_keeps h)

theorem tdTakeSet_keeps {g : StationTime} {x : SampleSet} (h : Keeps 24 k s t) : Keeps 24 k s (tdTakeSet g x t) :=
  ite_keeps h (tdReport_keeps (tdEvaluate_keeps (setTd_keeps h)))

theorem tdStart_keeps (h : Keeps n k s t) : Keeps n k s (tdStart t) := tdReport_keeps (setTd_keeps h)

theorem tdStop_keeps (h : Keeps n k s t) : Keeps n k s (tdStop t) :=
  tdReport_keeps (setTd_keeps (ite_keeps (tdEndReports_keeps h) h))

theorem tdHoldExpiry_keeps (h : Keeps n k s t) : Keeps n k s (tdHoldExpiry t) := tdReport_keeps (tdOff_keeps h)

theorem tdOverlong_keeps (h : Keeps n k s t) : Keeps n k s (tdOverlong t) := bump_keeps (setTd_keeps h)

/-! ## The Reference Mark Unit -/

theorem rmuMove_keeps {st : RmuState} {c : Option Elapsed} (h : Keeps n k s t) : Keeps n k s (rmuMove st c t) := setRmu_keeps h

theorem rmuAcquire_keeps {c : Option Elapsed} (h : Keeps n k s t) : Keeps n k s (rmuAcquire c t) := setRmu_keeps (rmuMove_keeps h)

theorem rmuLock_keeps {o : Int} {c : Option Elapsed} (h : Keeps n k s t) : Keeps n k s (rmuLock o c t) :=
  setTb_keeps (setRmu_keeps (rmuMove_keeps h)) (fun _ => rfl) (fun _ => rfl) fun r => { r with distance := Nat.zero_le _ }

theorem rmuUnlock_keeps {c : Option Elapsed} (h : Keeps n k s t) : Keeps n k s (rmuUnlock c t) :=
  distanceUnlocked_keeps (setRmu_keeps (rmuMove_keeps h))

theorem rmuAbsent_keeps (h : Keeps n k s t) : Keeps n k s (rmuAbsent t) := setRmu_keeps h

theorem countVerdict_keeps {x : Verdict} (h : Keeps n k s t) : Keeps n k s (countVerdict x t) := by
  cases x with
  | bad => exact bump_keeps h
  | missing => exact bump_keeps h
  | first => exact h
  | good => exact h

theorem rmuVerdict_keeps {x : Verdict} {c : Option Elapsed} (h : Keeps n k s t) : Keeps n k s (rmuVerdict x c t) := by
  have hcount := countVerdict_keeps (x := x) h
  unfold rmuVerdict
  dsimp only
  split
  · exact rmuAcquire_keeps hcount
  · exact rmuAcquire_keeps hcount
  · exact hcount
  · exact hcount
  · exact ite_keeps (rmuLock_keeps hcount) (setRmu_keeps hcount)
  · exact ite_keeps (rmuLock_keeps hcount) (setRmu_keeps hcount)
  iterate 8 exact setRmu_keeps hcount
  all_goals exact ite_keeps (rmuUnlock_keeps (setRmu_keeps hcount)) (setRmu_keeps hcount)

theorem closeOpenMark_keeps (h : Keeps n k s t) : Keeps n k s (closeOpenMark t) := by
  unfold closeOpenMark
  split
  · exact h
  · exact rmuVerdict_keeps (twDiscard_keeps (setRmu_keeps h))

theorem rmuEdge_keeps (h : Keeps n k s t) : Keeps n k s (rmuEdge t) :=
  ite_keeps h (ite_keeps (twRequest_keeps (setRmu_keeps (closeOpenMark_keeps h))) (rmuVerdict_keeps (closeOpenMark_keeps h)))

theorem rmuReadEnd_keeps {r : TwEnd 5} (h : Keeps n k s t) : Keeps n k s (rmuReadEnd r t) := by
  unfold rmuReadEnd
  split
  · exact h
  · dsimp only
    split
    · exact ite_keeps (setRmu_keeps (rmuVerdict_keeps (setRmu_keeps h))) (rmuVerdict_keeps (setRmu_keeps h))
    all_goals exact rmuVerdict_keeps (setRmu_keeps h)

theorem rmuExpectation_keeps (h : Keeps n k s t) : Keeps n k s (rmuExpectation t) := by
  unfold rmuExpectation
  split
  · exact h
  · exact ite_keeps (rmuVerdict_keeps (setRmu_keeps h)) h

theorem rmuSleep_keeps (h : Keeps n k s t) : Keeps n k s (rmuSleep t) :=
  distanceUnlocked_keeps (setRmu_keeps (ite_keeps (bump_keeps (twDiscard_keeps h)) h))

theorem rmuWake_keeps (h : Keeps n k s t) : Keeps n k s (rmuWake t) :=
  ite_keeps (ite_keeps (setRmu_keeps h) (setRmu_keeps h)) h

theorem rmuStep_keeps {a : Int} (h : Keeps n k s t) : Keeps n k s (rmuStep a t) := setRmu_keeps h

/-! ## The Sample Interface -/

theorem countMissing_keeps {m : Nat} {g : GridSlot} (h : Keeps n k s t) : Keeps n k s (countMissing m g t) :=
  bumpBy_keeps (setSi_keeps h)

theorem closeWindows_keeps (h : Keeps n k s t) : Keeps n k s (closeWindows t) := by
  unfold closeWindows
  split
  · exact h
  · exact ite_keeps (countMissing_keeps h) h

theorem closeOneWindow_keeps (h : Keeps n k s t) : Keeps n k s (closeOneWindow t) := by
  unfold closeOneWindow
  split
  · exact h
  · exact ite_keeps (countMissing_keeps h) h

theorem handOver_keeps {g : StationTime} {x : SampleSet} (h : Keeps 24 k s t) : Keeps 24 k s (handOver g x t) :=
  tdTakeSet_keeps (ite_keeps (requestBlanking_keeps (setSi_keeps h)) (setSi_keeps h))

theorem onGrid_keeps {g : GridSlot} {x : SampleSet} (h : Keeps 24 k s t) : Keeps 24 k s (onGrid g x t) :=
  ite_keeps (ite_keeps (handOver_keeps (setSi_keeps (setSi_keeps h))) (setSi_keeps (setSi_keeps h)))
    (handOver_keeps (setSi_keeps h))

theorem offGrid_keeps (h : Keeps n k s t) : Keeps n k s (offGrid t) :=
  ite_keeps (setSi_keeps (bump_keeps h))
    (ite_keeps (bump_keeps (setSi_keeps (setSi_keeps (bump_keeps h)))) (setSi_keeps (bump_keeps h)))

theorem judgeSet_keeps {x : SampleSet} (h : Keeps 24 k s t) : Keeps 24 k s (judgeSet x t) := by
  unfold judgeSet
  dsimp only
  split
  · exact closeWindows_keeps h
  · exact ite_keeps (onGrid_keeps (closeWindows_keeps h)) (offGrid_keeps (closeWindows_keeps h))

theorem startSet_keeps {b : Bool} (h : Keeps n k s t) : Keeps n k s (startSet b t) := bumpIf_keeps (setSi_keeps h)

theorem addBit_keeps {b : Bool} (h : Keeps n k s t) : Keeps n k s (addBit b t) := setSi_keeps h

theorem takeSet_keeps (h : Keeps 24 k s t) : Keeps 24 k s (takeSet t) := by
  unfold takeSet
  dsimp only
  split
  · exact bumpIf_keeps h
  · exact bump_keeps (bumpIf_keeps h)
  all_goals exact judgeSet_keeps (bumpIf_keeps h)

theorem siStart_keeps (h : Keeps n k s t) : Keeps n k s (siStart t) := setSi_keeps h

theorem siStop_keeps (h : Keeps n k s t) : Keeps n k s (siStop t) := setSi_keeps h

theorem siStep_keeps (h : Keeps n k s t) : Keeps n k s (siStep t) := ite_keeps h (setSi_keeps h)

theorem siBoundary_keeps {sec : Nat} (h : Keeps n k s t) : Keeps n k s (siBoundary sec t) :=
  ite_keeps h (ite_keeps (requestBlanking_keeps (setSi_keeps h)) (setSi_keeps h))

end
end Sys2Proof.Machine

namespace Sys2Proof.Machine
set_option Elab.async false

/-! ## Records of the Peer Table -/

/-- A change of a peer record that leaves its id and keeps its ring sound. -/
def RecordChange (f : PeerRecord → PeerRecord) : Prop := ∀ r, (f r).id = r.id ∧ (r.RingSound → (f r).RingSound)

/-- Beside the ring a record may change freely. -/
theorem recordChange_of_same {f : PeerRecord → PeerRecord} (hid : ∀ r, (f r).id = r.id := by exact fun _ => rfl)
    (hring : ∀ r, (f r).ring = r.ring := by exact fun _ => rfl) (hsum : ∀ r, (f r).ringSum = r.ringSum := by exact fun _ => rfl)
    (hcounted : ∀ r, (f r).counted = r.counted := by exact fun _ => rfl) : RecordChange f := by
  intro r
  refine ⟨hid r, ?_⟩
  unfold PeerRecord.RingSound
  rw [hring r, hsum r, hcounted r]
  exact id

theorem RecordChange.comp {f g : PeerRecord → PeerRecord} (hf : RecordChange f) (hg : RecordChange g) :
    RecordChange fun r => f (g r) := fun r => ⟨(hf (g r)).1.trans (hg r).1, (hf (g r)).2 ∘ (hg r).2⟩

theorem RecordChange.ite {f g : PeerRecord → PeerRecord} {c : PeerRecord → Prop} [DecidablePred c] (hf : RecordChange f)
    (hg : RecordChange g) : RecordChange fun r => if c r then f r else g r := by
  intro r
  dsimp only
  split
  · exact hf r
  · exact hg r

/-- A count that enters a full ring takes the place of the oldest (R48). -/
theorem ringPush_change (m : Nat) : RecordChange (ringPush m) := by
  intro r
  unfold ringPush
  split
  · next hfull =>
    refine ⟨rfl, fun ⟨hlen, hsum, hcounted⟩ => ?_⟩
    obtain ⟨x, xs, hr⟩ := List.exists_cons_of_length_pos (show 0 < r.ring.length by omega)
    simp only [PeerRecord.RingSound, hr, hsum, hcounted, List.length_cons, List.tail_cons, List.headD_cons, List.sum_cons,
      List.length_append, List.sum_append, List.length_nil, List.sum_nil, and_true] at hlen hfull ⊢
    omega
  · next hroom =>
    refine ⟨rfl, fun ⟨hlen, hsum, hcounted⟩ => ?_⟩
    simp only [PeerRecord.RingSound, List.length_append, List.length_cons, List.length_nil, List.sum_append, List.sum_cons,
      List.sum_nil]
    omega

theorem wakeMode_change (b : Bool) : RecordChange (wakeMode b) := RecordChange.ite recordChange_of_same recordChange_of_same

theorem touchPeer_change (eGood ePoor : Nat) (f : HeaderFacts) : RecordChange (touchPeer eGood ePoor f) :=
  have hpush : RecordChange fun r => ringPush f.errors { r with lastHeard := f.moment, heldAge := none, lastSeq := f.seq } :=
    (ringPush_change _).comp recordChange_of_same
  have hgrade : RecordChange fun r : PeerRecord => { r with grade := gradeOf eGood ePoor r.counted r.ringSum } :=
    recordChange_of_same
  (wakeMode_change _).comp (hgrade.comp hpush)

theorem unansweredPeer_change (now : Elapsed) (prior : Ranging) : RecordChange (unansweredPeer now prior) :=
  RecordChange.ite recordChange_of_same recordChange_of_same

/-- A table whose records all change so stays sound. -/
theorem peersSound_map {s : State} {f : PeerRecord → PeerRecord} (hf : RecordChange f) (h : s.PeersSound) :
    (s.setPeers (s.peers.map f)).PeersSound := by
  obtain ⟨hsorted, hall⟩ := h
  refine ⟨?_, fun r hr => ?_⟩
  · have hids : (s.peers.map f).map (fun r => r.id) = s.peers.map (fun r => r.id) := by
      simp only [List.map_map, Function.comp_def, (hf _).1]
    simpa only [setPeers_peers, hids] using hsorted
  · obtain ⟨q, hq, rfl⟩ := List.mem_map.mp hr
    obtain ⟨h1, h14, hring⟩ := hall q hq
    rw [(hf q).1]
    exact ⟨h1, h14, (hf q).2 hring⟩

theorem peersSound_filter {s : State} {p : PeerRecord → Bool} (h : s.PeersSound) :
    (s.setPeers (s.peers.filter p)).PeersSound :=
  ⟨h.1.sublist (List.filter_sublist.map _), fun r hr => h.2 r (List.mem_of_mem_filter hr)⟩

/-- A record of a new id has its place in the ascending order. -/
theorem insertBy_peerLe_sorted {x : PeerRecord} {rs : List PeerRecord} (hrs : (rs.map fun r => r.id).Pairwise (· < ·))
    (hx : ∀ r ∈ rs, r.id ≠ x.id) : ((insertBy peerLe x rs).map fun r => r.id).Pairwise (· < ·) := by
  induction rs with
  | nil => simp [insertBy]
  | cons y ys ih =>
    rw [List.map_cons, List.pairwise_cons] at hrs
    obtain ⟨hy, hys⟩ := hrs
    have hne : y.id ≠ x.id := hx y List.mem_cons_self
    unfold insertBy
    split
    · next hle =>
      have hlt : y.id < x.id := Nat.lt_of_le_of_ne (of_decide_eq_true hle) hne
      rw [List.map_cons, List.pairwise_cons]
      refine ⟨fun i hi => ?_, ih hys fun r hr => hx r (List.mem_cons_of_mem _ hr)⟩
      obtain ⟨r, hr, rfl⟩ := List.mem_map.mp hi
      rcases List.mem_cons.mp ((insertBy_perm peerLe x ys).mem_iff.mp hr) with rfl | hr
      · exact hlt
      · exact hy _ (List.mem_map_of_mem hr)
    · next hle =>
      have hlt : x.id < y.id := Nat.lt_of_not_le fun hc => hle (decide_eq_true hc)
      rw [List.map_cons, List.map_cons, List.pairwise_cons, List.pairwise_cons]
      refine ⟨fun i hi => ?_, hy, hys⟩
      rcases List.mem_cons.mp hi with rfl | hi
      · exact hlt
      · exact hlt.trans (hy i hi)

theorem peer_eq_none {s : State} {id : Nat} : s.peer id = none ↔ ∀ r ∈ s.peers, r.id ≠ id := by
  simp [State.peer]

section
variable {n : Nat} {k : ClockUse} {s t u v : State}

theorem updPeer_keeps {id : Nat} {f : PeerRecord → PeerRecord} (h : Keeps n k s t)
    (hf : RecordChange f := by exact recordChange_of_same) : Keeps n k s (updPeer id f t) :=
  setPeers_keeps h (peersSound_map (hf.ite recordChange_of_same))

/-- The record of a station, 1 to 14, is created or updated. -/
theorem ptTake_keeps {f : HeaderFacts} (hlow : 1 ≤ f.sender) (hhigh : f.sender ≤ 14) (h : Keeps n k s t) :
    Keeps n k s (ptTake f t) := by
  have hhold : RecordChange fun r => if t.dormant then { r with heldAge := some 0 } else r :=
    RecordChange.ite recordChange_of_same recordChange_of_same
  unfold ptTake
  dsimp only
  split
  · exact updPeer_keeps h (hhold.comp (touchPeer_change _ _ _))
  · next hnone =>
    have hnew := (hhold.comp (wakeMode_change f.isBeacon)) (newPeer f)
    refine setPeers_keeps h fun ⟨hsorted, hall⟩ => ⟨insertBy_peerLe_sorted hsorted fun r hr => ?_, fun r hr => ?_⟩
    · rw [hnew.1]
      exact peer_eq_none.mp hnone r hr
    · rcases List.mem_cons.mp ((insertBy_perm _ _ _).mem_iff.mp hr) with rfl | hr
      · rw [hnew.1]
        exact ⟨hlow, hhigh, hnew.2 ⟨by simp [newPeer], by simp [newPeer], rfl⟩⟩
      · exact hall r hr

theorem ptBeacon_keeps {sender : Nat} {b : BeaconBody} (h : Keeps n k s t) : Keeps n k s (ptBeacon sender b t) := updPeer_keeps h

theorem ptNotice_keeps {sender : Nat} {x : Notice} (h : Keeps n k s t) : Keeps n k s (ptNotice sender x t) := updPeer_keeps h

theorem ptHold_keeps (h : Keeps n k s t) : Keeps n k s (ptHold t) := setPeers_keeps h (peersSound_map recordChange_of_same)

theorem ptResume_keeps (h : Keeps n k s t) : Keeps n k s (ptResume t) :=
  setPeers_keeps h (peersSound_map (recordChange_of_same (fun r => by split <;> rfl) (fun r => by split <;> rfl)
    (fun r => by split <;> rfl) (fun r => by split <;> rfl)))

theorem dropPeer_keeps {id : Nat} (h : Keeps n k s t) : Keeps n k s (dropPeer id t) := setPeers_keeps h peersSound_filter

/-! ## Time Agreement -/

theorem tauChoose_keeps (h : Keeps n k s t) : Keeps n k s (tauChoose t) := by
  unfold tauChoose
  split
  · exact requestProbe_keeps (updPeer_keeps (setTau_keeps h))
  · exact h

theorem endExchange_keeps (h : Keeps n k s t) : Keeps n k s (endExchange t) :=
  setTau_keeps (forgetProbeInFlight_keeps (setSlots_keeps h))

theorem tauUnanswered_keeps (h : Keeps n k s t) : Keeps n k s (tauUnanswered t) := by
  unfold tauUnanswered
  split
  · exact h
  · exact endExchange_keeps (bump_keeps (updPeer_keeps h (unansweredPeer_change _ _)))

theorem tauVoid_keeps (h : Keeps n k s t) : Keeps n k s (tauVoid t) := by
  unfold tauVoid
  split
  · exact h
  · exact endExchange_keeps (bump_keeps (updPeer_keeps h))

theorem tauNotSent_keeps (h : Keeps n k s t) : Keeps n k s (tauNotSent t) := ite_keeps (tauUnanswered_keeps h) (tauVoid_keeps h)

theorem tauProbeStamped_keeps {x : Nat} {t1 : Stamp} (h : Keeps n k s t) : Keeps n k s (tauProbeStamped x t1 t) := setTau_keeps h

theorem tauProbe_keeps {x : Nat} {t1 : StationTime} {t2 : RxStamp} (h : Keeps n k s t) : Keeps n k s (tauProbe x t1 t2 t) :=
  ite_keeps (requestReply_keeps h) h

theorem tauReply_keeps {x : Nat} {b : ReplyBody} {t4 : RxStamp} (h : Keeps n k s t) : Keeps n k s (tauReply x b t4 t) := by
  unfold tauReply
  split
  · exact bump_keeps h
  · exact ite_keeps (bump_keeps h) (ite_keeps (bump_keeps h) (endExchange_keeps (setTau_keeps (updPeer_keeps (bumpIf_keeps h)))))

theorem tauPeerRemoved_keeps {id : Nat} (h : Keeps n k s t) : Keeps n k s (tauPeerRemoved id t) := ite_keeps (tauVoid_keeps h) h

theorem tauBeacon_keeps {x : Nat} {st : StationTime} {r : RxStamp} (h : Keeps n k s t) : Keeps n k s (tauBeacon x st r t) :=
  ite_keeps (updPeer_keeps h (recordChange_of_same (fun r => by split <;> rfl) (fun r => by split <;> rfl)
    (fun r => by split <;> rfl) (fun r => by split <;> rfl))) h

theorem clearSamples_keeps (h : Keeps n k s t) : Keeps n k s (clearSamples t) :=
  setPeers_keeps h (peersSound_map recordChange_of_same)

theorem withdrawReply_keeps (h : Keeps n k s t) : Keeps n k s (withdrawReply t) := ite_keeps (setSlots_keeps h) h

theorem stepNotice_keeps {a : Int} (h : Keeps n k s t) : Keeps n k s (stepNotice a t) := by
  have hread : Keeps n k s (withdrawReply (tauVoid (rmuStep a t))) := withdrawReply_keeps (tauVoid_keeps (rmuStep_keeps h))
  exact ite_keeps hread (cuStep_keeps (hcStep_keeps (siStep_keeps (tdStep_keeps hread))))

theorem applyStep_keeps {m : Int} (hk : k ≠ .still) (h : Keeps n k s t) : Keeps n k s (applyStep m t) :=
  stepNotice_keeps (tbStep_keeps hk h)

theorem setDrive_keeps {d : Drive} (h : Keeps n k s t) : Keeps n k s (setDrive d t) := calDiscard_keeps (setTb_same_keeps h)

theorem steerOutcome_keeps {x : SourceSet} {out : Outcome4} (hk : k ≠ .still) (h : Keeps n k s t) :
    Keeps n k s (steerOutcome x out t) := by
  cases out with
  | holdover => exact bump_keeps (setTb_keeps h (fun _ => rfl) (fun _ => rfl) fun r => { r with distance := Nat.le_refl 15 })
  | step => exact applyStep_keeps hk h
  | hindered => exact bump_keeps (setDrive_keeps h)
  | slew =>
    have hclamp (y : Int) := clampInt_range (x := y) (lo := -rateLimit) (hi := rateLimit) (by decide)
    exact setTb_keeps h (fun _ => rfl) (fun _ => rfl) fun r => { r with rBaseLow := (hclamp _).1, rBaseHigh := (hclamp _).2 }

theorem qualityWritten_le (x : SourceSet) (out : Outcome4) : qualityWritten x out ≤ 16777215 := by
  unfold qualityWritten
  exact Int.toNat_le.mpr (Int.min_le_right _ _)

theorem distanceWritten_le (x : SourceSet) : distanceWritten x ≤ 15 := by
  unfold distanceWritten
  split
  · exact Nat.zero_le _
  · exact Nat.min_le_left _ _
  · exact Nat.le_refl _

theorem steerWrites_keeps {x : SourceSet} {out : Outcome4} (h : Keeps n k s t) : Keeps n k s (steerWrites x out t) :=
  ite_keeps h (setTb_keeps h (fun _ => rfl) (fun _ => rfl) fun r =>
    { r with quality := qualityWritten_le x out, distance := distanceWritten_le x })

/-- A steering instant moves no more than station time (R12, R73). -/
theorem steer_keeps (hk : k ≠ .still) (h : Keeps n k s t) : Keeps n k s (steer t) :=
  setTau_keeps (clearSamples_keeps (steerWrites_keeps (steerOutcome_keeps hk h)))

theorem tauStart_keeps (h : Keeps n k s t) : Keeps n k s (tauStart t) := setTau_keeps h

theorem tauStop_keeps (h : Keeps n k s t) : Keeps n k s (tauStop t) := setTau_keeps (clearSamples_keeps (tauVoid_keeps h))

end
end Sys2Proof.Machine

namespace Sys2Proof.Machine
set_option Elab.async false
section
variable {n : Nat} {k : ClockUse} {s t u v : State}

/-! ## RESTART and the configuration block -/

/-- An operation that keeps the invariants follows one that keeps the law on modes. -/
theorem KeepsLaw.then (h : KeepsLaw n k s t) (g : Keeps n k t u) : KeepsLaw n k s u := h.trans g.toKeepsLaw

theorem KeepsData.then (h : KeepsData n k s t) (g : Keeps n k t u) : KeepsData n k s u := h.trans g.toKeepsData

/-- The invariants are kept, and the law on modes holds, whatever stood before. -/
structure KeepsSafe (n : Nat) (k : ClockUse) (s t : State) : Prop extends KeepsData n k s t where
  safe : t.ModeSafe

theorem KeepsSafe.toKeepsLaw (h : KeepsSafe n k s t) : KeepsLaw n k s t := ⟨h.toKeepsData, fun _ => .inr h.safe⟩

/-- RESTART empties the tables and keeps the counts of the Timebase (R205). -/
theorem restartValues_keepsSafe (h : KeepsData n k s t) : KeepsSafe n k s (restartValues t) := by
  have hbump : Keeps n k t (bumpIf t.tb.calWindow.isSome .calibrationDiscards t) := bumpIf_keeps (.refl n k t)
  unfold restartValues
  generalize bumpIf t.tb.calWindow.isSome .calibrationDiscards t = u at hbump
  refine ⟨h.trans ⟨hbump.pending, hbump.elapsed, hbump.time, hbump.counters, fun r => ?_,
    fun _ => peersSound_of_nil rfl, fun _ => tablesWithin_of_nil rfl rfl rfl⟩, .of_inStart ?_⟩
  · have hr := hbump.range r
    refine { hr with distance := ?_ }
    show (if _ then _ else _) ≤ 15
    split
    · decide
    · exact hr.distance
  · show Standing.inStart (if _ then _ else _) = true
    split <;> rfl

theorem enterLoading_keepsSafe (h : KeepsData n k s t) : KeepsSafe n k s (enterLoading t) := by
  have hload : Keeps n k ((t.setCs { t.cs with stationId := t.pins.straps.toNat }).setMc { t.mc with standing := .loading })
      (enterLoading t) := ite_keeps (twRequest_keeps (runFast_keeps (.refl n k _))) (runFast_keeps (.refl n k _))
  have hset : KeepsData n k t ((t.setCs { t.cs with stationId := t.pins.straps.toNat }).setMc { t.mc with standing := .loading }) :=
    setMc_data (setCs_keeps (.refl n k t)).toKeepsData
  exact ⟨(h.trans hset).then hload, .of_inStart (by rw [hload.standing]; rfl)⟩

theorem restart_keepsSafe (h : KeepsData n k s t) : KeepsSafe n k s (restart t) := by
  have hvalues := restartValues_keepsSafe h
  unfold restart
  dsimp only
  split
  · exact hvalues
  · exact enterLoading_keepsSafe hvalues.toKeepsData

theorem csTakeBlock_keeps {r : TwEnd 64} (h : Keeps n k s t) : Keeps n k s (csTakeBlock r t) := by
  unfold csTakeBlock
  dsimp only
  split
  · exact ite_keeps (setCs_keeps h) (bump_keeps (setCs_keeps h))
  all_goals exact bump_keeps (setCs_keeps h)

theorem formCharge_keeps (h : Keeps n k s t) : Keeps n k s (formCharge t) := ite_keeps h (setBm_keeps h)

/-! ## Configuration and Service -/

/-- The clear option makes counters 0 (R204). -/
theorem clearCounters_keeps {m : Nat} (h : Keeps n k s t) : Keeps n k s (clearCounters m t) := by
  have hclear : Keeps n k s (t.setCounters (t.counters.mapIdx fun i x => if i / 38 = m then 0 else x)) := by
    refine h.trans ⟨⟨⟨rfl, fun _ => rfl, fun _ => rfl, fun hc c => ?_, id, id, id⟩, id⟩, rfl, id⟩
    show (t.counters.mapIdx fun i x => if i / 38 = m then 0 else x)[c.idx.val] ≤ 65535
    rw [Vector.getElem_mapIdx]
    split
    · exact Nat.zero_le _
    · exact hc c
  exact ite_keeps (setLc_keeps hclear) hclear

/-- The end of the pending request either leaves the station where it stood or restarts it (R205). -/
theorem csEnd_keeps_or_safe (h : Keeps n k s t) : Keeps n k s (csEnd t) ∨ KeepsSafe n k s (csEnd t) := by
  unfold csEnd
  split
  · exact .inl h
  · dsimp only
    split
    · exact .inr (restart_keepsSafe (setCs_keeps h).toKeepsData)
    · exact .inl (setCs_keeps h)

theorem csNext_keeps_or_safe (h : Keeps n k s t) : Keeps n k s (csNext t) ∨ KeepsSafe n k s (csNext t) := by
  unfold csNext
  split
  · exact .inl h
  · extract_lets b t1 t2 q' _ t3
    have h1 : Keeps n k s t1 := ite_keeps (clearCounters_keeps h) h
    have h3 : Keeps n k s t3 := setCs_keeps (setFreeDrawn_keeps h1)
    split
    · exact .inl (setSlots_keeps h3)
    · exact csEnd_keeps_or_safe h3

theorem csTake_keeps_or_safe {c a : Nat} (h : Keeps n k s t) :
    Keeps n k s (csTake c a t) ∨ KeepsSafe n k s (csTake c a t) := by
  unfold csTake
  extract_lets t1 t2 q _ t3
  have h3 : Keeps n k s t3 := setCs_keeps (forgetReportInFlight_keeps (bumpIf_keeps (bumpIf_keeps (bump_keeps h))))
  split
  · exact .inl h3
  · exact csNext_keeps_or_safe h3

theorem csCompleted_keeps_or_safe {c l : Bool} (h : Keeps n k s t) :
    Keeps n k s (csCompleted c l t) ∨ KeepsSafe n k s (csCompleted c l t) := by
  unfold csCompleted
  split
  · split
    · exact csEnd_keeps_or_safe h
    · exact csNext_keeps_or_safe h
  · exact .inl h

theorem csDropHeld_keeps (h : Keeps n k s t) : Keeps n k s (csDropHeld t) := ite_keeps (setCs_keeps h) h

theorem csReleaseHeld_keeps_or_safe (h : Keeps n k s t) :
    Keeps n k s (csReleaseHeld t) ∨ KeepsSafe n k s (csReleaseHeld t) := by
  unfold csReleaseHeld
  split
  · exact csNext_keeps_or_safe h
  · exact .inl h

theorem keepsLaw_of_keeps_or_safe (h : Keeps n k s t ∨ KeepsSafe n k s t) : KeepsLaw n k s t :=
  h.elim Keeps.toKeepsLaw KeepsSafe.toKeepsLaw

/-! ## Access to the medium -/

theorem beginTx_keeps {o : TxOwner} {kind : FrameKind} {x : Nat} {w m : Bool} {b : List Byte} (h : Keeps n k s t) :
    Keeps n k s (beginTx o kind x w m b t) := setLc_keeps h

theorem startDeclaration_keeps {r : EventRec} (h : Keeps n k s t) : Keeps n k s (startDeclaration r t) :=
  beginTx_keeps (updRec_keeps (setSlots_keeps h))

theorem startBeacon_keeps {q : BeaconReq} (h : Keeps n k s t) : Keeps n k s (startBeacon q t) := by
  have htx {o : TxOwner} {w m : Bool} {b : List Byte} : Keeps n k s (beaconTimerRestart
      (beginTx o .beacon 0 w m b (bumpIf (t.isMuster q.mark) .musterBeacons (t.setSlots { t.lc.slots with beacon := none })))) :=
    beaconTimerRestart_keeps (beginTx_keeps (bumpIf_keeps (setSlots_keeps h)))
  exact ite_keeps (setMc_keeps htx) htx

theorem arbitrateRest_keeps (h : Keeps n k s t) : Keeps n k s (arbitrateRest t) := by
  unfold arbitrateRest
  split
  · exact beginTx_keeps (setSlots_keeps h)
  · exact beginTx_keeps (setSlots_keeps h)
  · exact beginTx_keeps (setSlots_keeps h)
  · exact startBeacon_keeps h
  · exact beginTx_keeps (setSlots_keeps h)
  · exact setLc_keeps h

theorem startTransmission_keeps (h : Keeps n k s t) : Keeps n k s (startTransmission t) := by
  unfold startTransmission
  split
  · exact startDeclaration_keeps h
  · exact arbitrateRest_keeps (setSlots_keeps h)
  · exact arbitrateRest_keeps h

theorem enterGuard_keeps (h : Keeps n k s t) : Keeps n k s (enterGuard t) :=
  ite_keeps (setLc_keeps h) (ite_keeps (startTransmission_keeps h) (setLc_keeps h))

theorem lcKick_keeps (h : Keeps n k s t) : Keeps n k s (lcKick t) :=
  ite_keeps (setLc_keeps h) (ite_keeps (enterGuard_keeps h) h)

theorem drawBackoff_keeps (h : Keeps n k s t) : Keeps n k s (drawBackoff t) := bump_keeps (setLc_keeps h)

theorem carrierRise_keeps (h : Keeps n k s t) : Keeps n k s (carrierRise t) := ite_keeps (setLc_keeps h) h

theorem stampFrame_keeps {f : TxFrame} (h : Keeps n k s t) : Keeps n k s (stampFrame f t) := by
  unfold stampFrame
  dsimp only
  split
  · exact tauProbeStamped_keeps (setLc_keeps h)
  all_goals exact setLc_keeps h

theorem seedRandom_keeps (h : Keeps n k s t) : Keeps n k s (seedRandom t) := ite_keeps (setLc_keeps h) (setLc_keeps h)

theorem firstBeaconDelay_keeps (h : Keeps n k s t) : Keeps n k s (firstBeaconDelay t) := ite_keeps h (setLc_keeps h)

/-! ## The Battery Monitor -/

/-- A class that changes is reported to the Mode Controller (R167, R184). -/
theorem classChanged_data (h : KeepsData n k s t) : KeepsLaw n k s (classChanged t) ∧
    (classChanged t).mc.standing = t.mc.standing ∧ ((classChanged t).bm.cls = .critical → t.bm.cls = .critical) := by
  have htell : KeepsLaw n k s (tellMode (forceByAllowance (bump .classChanges t))) :=
    ⟨setMc_data (h.then (forceByAllowance_keeps (bump_keeps (.refl n k t)))), fun _ => safeOrDue_of_due rfl⟩
  have hforce : Keeps n k t (tellMode (forceByAllowance (bump .classChanges t))) :=
    tellMode_keeps (forceByAllowance_keeps (bump_keeps (.refl n k t)))
  have hall : Keeps n k (tellMode (forceByAllowance (bump .classChanges t))) (classChanged t) :=
    ite_keeps (.refl n k _) (ucHealth_keeps (.refl n k _))
  exact ⟨htell.then hall, hall.standing.trans hforce.standing, hforce.critical ∘ hall.critical⟩

/-- A change of class is reported with it; it is CRITICAL afterwards only where it becomes so (R167). -/
theorem setClass_keepsLaw {c : BatClass} (h : KeepsLaw n k s t) : KeepsLaw n k s (setClass c t) := by
  unfold setClass
  split
  · exact h
  · exact (classChanged_data (t := t.setBm { t.bm with cls := c })
      (setBm_data h.toKeepsData)).1

theorem setClass_keeps {c : BatClass} (hc : c ≠ .critical) (h : Keeps n k s t) : Keeps n k s (setClass c t) := by
  unfold setClass
  split
  · exact h
  · obtain ⟨hlaw, hst, hcrit⟩ := classChanged_data (n := n) (k := k) (s := s) (t := t.setBm { t.bm with cls := c })
      (setBm_data h.toKeepsData)
    exact ⟨hlaw, hst.trans h.standing, fun x => absurd (hcrit x) hc⟩

theorem batteryMissed_keeps (h : Keeps n k s t) : Keeps n k s (batteryMissed t) :=
  ite_keeps (setClass_keeps (by decide) (bump_keeps (setBm_keeps h))) (setBm_keeps h)

theorem sensorMissed_keeps {x : TempSensor} (h : Keeps n k s t) : Keeps n k s (sensorMissed x t) := by
  cases x with
  | a => exact setBm_keeps h
  | b => exact setBm_keeps h

theorem sensorOverrun_keeps {x : TempSensor} (h : Keeps n k s t) : Keeps n k s (sensorOverrun x t) :=
  sensorMissed_keeps (bump_keeps h)

theorem makePoll_keeps (h : Keeps n k s t) : Keeps n k s (makePoll t) := by
  have hbattery : Keeps n k s (pollDevice .battery batteryMissed t) :=
    ite_keeps (batteryMissed_keeps (bump_keeps h)) (twRequest_keeps h)
  have hsensor {x : TempSensor} {y : TwUser} {w : State} (g : Keeps n k s w) : Keeps n k s (pollDevice y (sensorOverrun x) w) :=
    ite_keeps (sensorOverrun_keeps (bump_keeps g)) (twRequest_keeps g)
  have hall := hsensor (x := .b) (y := .tempB) (hsensor (x := .a) (y := .tempA) hbattery)
  exact ite_keeps (setMc_keeps (setBm_keeps hall)) (setBm_keeps hall)

theorem pollModeChange_keeps (h : Keeps n k s t) : Keeps n k s (pollModeChange t) := by
  unfold pollModeChange
  split
  · exact ite_keeps (makePoll_keeps h) (setBm_keeps h)
  · exact setBm_keeps h
  · exact setBm_keeps h

theorem pollTimerStart_keeps (h : Keeps n k s t) : Keeps n k s (pollTimerStart t) := setBm_keeps h

theorem pollLeaves_keeps (h : Keeps n k s t) : Keeps n k s (pollLeaves t) := ite_keeps (setMc_keeps h) h

theorem entryWorkLeaves_keeps (h : Keeps n k s t) : Keeps n k s (entryWorkLeaves t) := setMc_keeps h

/-- A good poll may take the class anywhere; the law on modes is then due (R167, R184). -/
theorem goodPoll_keepsLaw {r : Reading} (h : Keeps n k s t) : KeepsLaw n k s (goodPoll r t) := by
  unfold goodPoll
  extract_lets first q _ t1 _ t2 _ t3 t4
  have h2 : Keeps n k s t2 := by
    unfold t2; split
    · exact bump_keeps (setBm_keeps (setBm_keeps h))
    · exact setBm_keeps h
  have h4 : KeepsLaw n k s t4 := setClass_keepsLaw (setBm_keeps h2).toKeepsLaw
  exact h4.then (overtempTest_keeps (setBm_keeps (.refl n k t4)))

theorem bmBattery_keepsLaw {r : TwEnd 6} (h : Keeps n k s t) : KeepsLaw n k s (bmBattery r t) := by
  unfold bmBattery
  split
  · dsimp only
    split
    · exact goodPoll_keepsLaw h
    · exact (batteryMissed_keeps (bump_keeps h)).toKeepsLaw
  all_goals exact (batteryMissed_keeps (bump_keeps h)).toKeepsLaw

theorem bmTemperature_keeps {x : TempSensor} {r : TwEnd 2} (h : Keeps n k s t) : Keeps n k s (bmTemperature x r t) := by
  have hgood {y : Int} : Keeps n k s (sensorGood x y t) := by
    cases x with
    | a => exact overtempTest_keeps (setBm_keeps h)
    | b => exact setBm_keeps h
  unfold bmTemperature
  split
  · exact ite_keeps hgood (sensorMissed_keeps (bump_keeps h))
  all_goals exact sensorMissed_keeps (bump_keeps h)

end
end Sys2Proof.Machine

namespace Sys2Proof.Machine
set_option Elab.async false
section
variable {n : Nat} {k : ClockUse} {s t u v : State}

/-! ## The Mode Controller: operations that leave the station where it stands -/

theorem syncOsc_keeps (h : Keeps n k s t) : Keeps n k s (syncOsc t) :=
  ite_keeps (ite_keeps (setMc_keeps h) h) (setMc_keeps h)

theorem joinEntryWork_keeps (h : Keeps n k s t) : Keeps n k s (joinEntryWork t) := setMc_keeps h

theorem wakeHoldStart_keeps (h : Keeps n k s t) : Keeps n k s (wakeHoldStart t) := setMc_keeps h

theorem receiverOn_keeps (h : Keeps n k s t) : Keeps n k s (receiverOn t) := by
  unfold receiverOn
  split
  · exact setLc_keeps h
  · exact h

theorem blocksWake_keeps (h : Keeps n k s t) : Keeps n k s (blocksWake t) :=
  tdStart_keeps (siStart_keeps (tauStart_keeps (rmuWake_keeps (ptResume_keeps (receiverOn_keeps (calModeChange_keeps h))))))

theorem blocksSleep_keeps (h : Keeps n k s t) : Keeps n k s (blocksSleep t) :=
  joinEntryWork_keeps (calModeChange_keeps (siStop_keeps (tauStop_keeps (rmuSleep_keeps (tdStop_keeps h)))))

theorem unmarkBeacon_keeps (h : Keeps n k s t) : Keeps n k s (unmarkBeacon t) := setSlots_keeps h

/-! ## The Mode Controller: changes of the standing -/

/-- The standing alone is outside the invariants that do not speak of the mode. -/
theorem setStanding_data {x : Standing} (h : KeepsData n k s t) : KeepsData n k s (setStanding x t) := setMc_data h

/-- The standings in which the station sleeps or is on its way there (R184). -/
def Standing.sleepy : Standing → Bool
  | .asleep | .capturing | .entering => true
  | _ => false

theorem sleepy_iff {x : Standing} : x.sleepy = true ↔ x = .asleep ∨ x = .capturing ∨ x = .entering := by
  cases x <;> simp [Standing.sleepy]

/-- The law speaks alike of all sleepy standings. -/
theorem setStanding_keepsLaw_sleepy {x : Standing} (ht : t.mc.standing.sleepy = true) (h : KeepsLaw n k s t) :
    KeepsLaw n k s (setStanding x t) := by
  refine ⟨setStanding_data h.toKeepsData, fun hl => (h.law hl).imp id fun ⟨_, hasleep⟩ => ?_⟩
  have hlow := hasleep (sleepy_iff.mp ht)
  exact ⟨fun hc => absurd (hc.symm.trans hlow.1) (by decide), fun _ => hlow⟩

/-- In a sleepy standing the class is LOW. -/
theorem State.ModeSafe.not_critical (h : t.ModeSafe) (ht : t.mc.standing.sleepy = true) : t.bm.cls ≠ .critical :=
  fun hc => absurd (hc.symm.trans (h.2 (sleepy_iff.mp ht)).1) (by decide)

/-- With a class better than CRITICAL the station may come to stand awake or waking. -/
theorem KeepsSafe.of_awake (h : KeepsData n k s t)
    (ht : t.mc.standing = .active ∨ t.mc.standing = .watching ∨ t.mc.standing = .waking) (hcls : t.bm.cls ≠ .critical)
    (g : Keeps n k t u) : KeepsSafe n k s u :=
  ⟨h.then g, .of_awake (by rw [g.standing]; exact ht) (hcls ∘ g.critical)⟩

/-- In SHELTER the law holds with every class. -/
theorem KeepsSafe.of_inShelter (h : KeepsData n k s t) (ht : t.mc.standing.inShelter = true) (g : Keeps n k t u) :
    KeepsSafe n k s u := ⟨h.then g, .of_inShelter (by rw [g.standing]; exact ht)⟩

theorem KeepsSafe.of_inStart (h : KeepsData n k s t) (ht : t.mc.standing.inStart = true) (g : Keeps n k t u) :
    KeepsSafe n k s u := ⟨h.then g, .of_inStart (by rw [g.standing]; exact ht)⟩

theorem changeAwake_keeps_from {x : Standing} : Keeps n k (setStanding x t) (changeAwake x t) :=
  calModeChange_keeps (pollModeChange_keeps (.refl n k _))

/-- A change between ACTIVE and ECONOMY with a class better than CRITICAL. -/
theorem changeAwake_keepsSafe {x : Standing} (hx : x = .active ∨ x = .watching) (hcls : t.bm.cls ≠ .critical)
    (h : KeepsData n k s t) : KeepsSafe n k s (changeAwake x t) :=
  .of_awake (setStanding_data h) (hx.imp id .inl) hcls changeAwake_keeps_from

/-- The state with which the entry to WATCHING begins. -/
def watchingBegun (t : State) : State :=
  setStanding .watching { t with mc := { t.mc with capture := none, finalLimit := none, users := .empty } }

theorem watchingBegun_data (h : KeepsData n k s t) : KeepsData n k s (watchingBegun t) :=
  setStanding_data (setMc_data h)

/-- What the blocks do at the entry to WATCHING, up to a held request. -/
theorem watchingBlocks_keeps :
    Keeps n k (watchingBegun t) (pollModeChange (beaconTimerRestart (blocksWake (wakeHoldStart (watchingBegun t))))) :=
  pollModeChange_keeps (beaconTimerRestart_keeps (blocksWake_keeps (wakeHoldStart_keeps (.refl n k _))))

/-- The entry to WATCHING ends with an evaluation due (R191). -/
theorem enterWatching_keepsLaw (h : KeepsData n k s t) : KeepsLaw n k s (enterWatching t) := by
  have hheld := keepsLaw_of_keeps_or_safe (csReleaseHeld_keeps_or_safe (watchingBlocks_keeps (n := n) (k := k) (t := t)))
  exact ⟨((watchingBegun_data h).trans hheld.toKeepsData).then (tellMode_keeps (.refl n k _)), fun _ => safeOrDue_of_due rfl⟩

theorem enterWatching_keepsSafe (hcls : t.bm.cls ≠ .critical) (h : KeepsData n k s t) : KeepsSafe n k s (enterWatching t) := by
  refine ⟨(enterWatching_keepsLaw h).toKeepsData, ?_⟩
  rcases csReleaseHeld_keeps_or_safe (watchingBlocks_keeps (n := n) (k := k) (t := t)) with g | g
  · exact .of_awake (.inr (.inl g.standing)) (hcls ∘ g.critical)
  · exact g.safe

theorem risingComplete_keepsLaw (h : KeepsData n k s t) : KeepsLaw n k s (risingComplete t) :=
  (enterWatching_keepsLaw h).then (bump_keeps (.refl n k _))

theorem risingComplete_keepsSafe (hcls : t.bm.cls ≠ .critical) (h : KeepsData n k s t) :
    KeepsSafe n k s (risingComplete t) := by
  have hwatch := enterWatching_keepsSafe hcls h
  exact ⟨hwatch.toKeepsData.then (bump_keeps (.refl n k _)), hwatch.safe.of_same rfl rfl id id⟩

/-- The entry to DORMANT (R188) is made from ENTERING. -/
theorem dormantEntry_keepsLaw (ht : t.mc.standing = .entering) (h : KeepsLaw n k s t) : KeepsLaw n k s (dormantEntry t) := by
  have hasleep : KeepsLaw n k s (setStanding .asleep t) := setStanding_keepsLaw_sleepy (by rw [ht]; rfl) h
  unfold dormantEntry
  extract_lets t1 t2 report _ _ t3 _ _ t4 t5
  have h2 : Keeps n k (setStanding .asleep t) t2 := cuClear_keeps (blocksSleep_keeps (runSlow_keeps (bump_keeps (.refl n k _))))
  have h4 : Keeps n k (setStanding .asleep t) t4 :=
    ite_keeps (setMc_keeps (setLc_keeps (setSlots_keeps h2))) (setLc_keeps (setSlots_keeps h2))
  have h5 : Keeps n k (setStanding .asleep t) t5 :=
    pollModeChange_keeps (forceByAllowance_keeps (ucModeOff_keeps (ptHold_keeps (beaconTimerRestart_keeps h4))))
  split
  · exact hasleep.trans (keepsLaw_of_keeps_or_safe (csEnd_keeps_or_safe h5))
  · exact hasleep.then h5

theorem beginEntry_keeps_from : Keeps n k (setStanding .entering t) (beginEntry t) :=
  bump_keeps (fillBeacon_keeps (.refl n k _))

/-- An abandoned entry goes on as WATCHING (R187). -/
theorem abandonEntry_keeps_from (ht : t.mc.standing = .entering) : Keeps n k (setStanding .watching t) (abandonEntry t) := by
  unfold abandonEntry
  rw [if_pos (by rw [ht]; rfl)]
  exact ite_keeps (requestBeacon_keeps (setLc_keeps (bump_keeps (.refl n k _)))) (unmarkBeacon_keeps (bump_keeps (.refl n k _)))

theorem abandonEntry_of_not_entering (ht : t.mc.standing ≠ .entering) : abandonEntry t = t := by
  unfold abandonEntry
  rw [if_neg (by simpa using ht)]

theorem abandonEntry_data (h : KeepsData n k s t) : KeepsData n k s (abandonEntry t) := by
  by_cases ht : t.mc.standing = .entering
  · exact (setStanding_data h).then (abandonEntry_keeps_from ht)
  · rwa [abandonEntry_of_not_entering ht]

theorem abandonEntry_critical (h : (abandonEntry t).bm.cls = .critical) : t.bm.cls = .critical := by
  by_cases ht : t.mc.standing = .entering
  · exact (abandonEntry_keeps_from (n := 0) (k := .still) ht).critical h
  · rwa [abandonEntry_of_not_entering ht] at h

theorem abandonEntry_keepsSafe (hsafe : t.ModeSafe) (h : KeepsData n k s t) : KeepsSafe n k s (abandonEntry t) := by
  by_cases ht : t.mc.standing = .entering
  · exact .of_awake (setStanding_data h) (.inr (.inl rfl)) (hsafe.not_critical (by rw [ht]; rfl)) (abandonEntry_keeps_from ht)
  · rw [abandonEntry_of_not_entering ht]
    exact ⟨h, hsafe⟩

/-- A local wake with a class better than CRITICAL (R191). -/
theorem localWake_keepsSafe (ht : t.mc.standing = .asleep ∨ t.mc.standing = .capturing ∨ t.mc.standing = .waking)
    (hcls : t.bm.cls ≠ .critical) (h : KeepsData n k s t) : KeepsSafe n k s (localWake t) := by
  have hwaking : Keeps n k (setStanding .waking t) (bump .localWakes (runFast (setStanding .waking t))) :=
    bump_keeps (runFast_keeps (.refl n k _))
  unfold localWake
  split
  · dsimp only
    split
    · exact enterWatching_keepsSafe (hcls ∘ hwaking.critical) ((setStanding_data h).then hwaking)
    · exact .of_awake (setStanding_data h) (.inr (.inr rfl)) hcls hwaking
  · exact .of_awake (setStanding_data h) (.inr (.inr rfl)) hcls (bump_keeps (.refl n k _))
  · next h1 h2 => exact .of_awake h (.inr (.inr ((ht.resolve_left h1).resolve_left h2))) hcls (.refl n k t)

theorem falseWake_keepsLaw (h : KeepsLaw n k s t) : KeepsLaw n k s (falseWake t) := by
  unfold falseWake
  extract_lets _ t1 t2 _
  have h1 : Keeps n k t t1 := csDropHeld_keeps (bump_keeps (setMc_keeps (.refl n k t)))
  split
  · next hc =>
    have hst : t1.mc.standing.sleepy = true := by rw [eq_of_beq hc]; rfl
    exact (setStanding_keepsLaw_sleepy hst (h.then h1)).then (setLc_keeps (runSlow_keeps (.refl n k _)))
  · split
    · exact enterWatching_keepsLaw (h.then h1).toKeepsData
    · exact h.then h1

theorem patternWake_keepsLaw (h : KeepsLaw n k s t) : KeepsLaw n k s (patternWake t) :=
  enterWatching_keepsLaw (h.then (bump_keeps (setMc_keeps (.refl n k t)))).toKeepsData

theorem rise_keepsSafe (hcls : t.bm.cls ≠ .critical) (h : KeepsData n k s t) : KeepsSafe n k s (rise t) := by
  have hrising : Keeps n k (setStanding .rising t) (runFast (setStanding .rising t)) := runFast_keeps (.refl n k _)
  unfold rise
  dsimp only
  split
  · exact risingComplete_keepsSafe (hcls ∘ hrising.critical) ((setStanding_data h).then hrising)
  · exact .of_inShelter (setStanding_data h) rfl hrising

theorem becomeSheltered_keepsSafe (h : KeepsData n k s t) : KeepsSafe n k s (becomeSheltered t) := by
  unfold becomeSheltered
  extract_lets report _ t1 _ _ t2 t3
  have h1 : Keeps n k (setStanding .sheltered t) t1 := setLc_keeps (.refl n k _)
  have h2 : Keeps n k (setStanding .sheltered t) t2 := setMc_keeps h1
  have h3 : Keeps n k (setStanding .sheltered t) t3 := tellMode_keeps (runSlow_keeps h2)
  have hshelter : KeepsSafe n k s t3 := .of_inShelter (setStanding_data h) rfl h3
  split
  · rcases csEnd_keeps_or_safe h3 with g | g
    · exact .of_inShelter (setStanding_data h) rfl g
    · exact ⟨(setStanding_data h).trans g.toKeepsData, g.safe⟩
  · exact hshelter

theorem shelterEntry_keepsSafe (h : KeepsData n k s t) : KeepsSafe n k s (shelterEntry t) := by
  have hfinal : KeepsData n k s (setStanding .finalBeacon (ptResume t)) :=
    setStanding_data (h.then (ptResume_keeps (.refl n k t)))
  unfold shelterEntry
  extract_lets fromDormant t1 t2 t3 _ t4 t5 _ t6 t7 _ t8 _ _
  have h2 : Keeps n k (setStanding .finalBeacon (ptResume t)) t2 := bump_keeps (.refl n k _)
  have h3 : Keeps n k (setStanding .finalBeacon (ptResume t)) t3 := ite_keeps (runSlow_keeps h2) h2
  have h5 : Keeps n k (setStanding .finalBeacon (ptResume t)) t5 := cuShelter_keeps (blocksSleep_keeps (setMc_keeps h3))
  have h7 : Keeps n k (setStanding .finalBeacon (ptResume t)) t7 :=
    pollModeChange_keeps (forceByAllowance_keeps (ucModeOff_keeps (csDropHeld_keeps (setLc_keeps h5))))
  have h8 : Keeps n k (setStanding .finalBeacon (ptResume t)) t8 := setSlots_keeps h7
  split
  · exact becomeSheltered_keepsSafe (hfinal.then h7)
  · clear_value t8
    exact .of_inShelter hfinal rfl (setMc_keeps h8)

/-! ## Evaluation of the mode (R184) -/

/-- An entry begins only with the class LOW, no open event and an empty queue (R185, R186). -/
theorem tryEntry_keepsSafe (ht : t.mc.standing = .watching) (hcls : t.bm.cls = .low) (hopen : t.openEvent = false)
    (hqueue : t.uc.queue = []) (h : KeepsData n k s t) : KeepsSafe n k s (tryEntry t) := by
  unfold tryEntry
  split
  · exact .of_awake h (.inr (.inl ht)) (by rw [hcls]; decide) (.refl n k t)
  · have hbegin : (setStanding .entering t).ModeSafe :=
      ⟨fun hc => absurd (hc.symm.trans hcls) (by decide), fun _ => ⟨hcls, hopen, hqueue⟩⟩
    have hfrom := beginEntry_keeps_from (n := n) (k := k) (t := t)
    exact ⟨(setStanding_data h).then hfrom,
      hbegin.of_same hfrom.standing (by simp [setStanding]) (by simp [State.openEvent, setStanding]) (by simp [setStanding])⟩

/-- With the class LOW a missed battery poll changes no class, raises no alert and touches no record (R161). -/
theorem makePoll_of_low (hcls : t.bm.cls = .low) :
    (makePoll t).bm.cls = .low ∧ (makePoll t).cu = t.cu ∧ (makePoll t).uc = t.uc := by
  have hbattery : (pollDevice .battery batteryMissed t).bm.cls = .low ∧ (pollDevice .battery batteryMissed t).cu = t.cu ∧
      (pollDevice .battery batteryMissed t).uc = t.uc := by
    unfold pollDevice batteryMissed
    dsimp only
    split
    · rw [if_neg (by simp [hcls])]
      simp [hcls]
    · simp [hcls]
  have hsensor (x : TempSensor) (y : TwUser) (w : State) : (pollDevice y (sensorOverrun x) w).bm.cls = w.bm.cls ∧
      (pollDevice y (sensorOverrun x) w).cu = w.cu ∧ (pollDevice y (sensorOverrun x) w).uc = w.uc := by
    unfold pollDevice sensorOverrun sensorMissed
    cases x <;> dsimp only <;> split <;> simp
  obtain ⟨hc, hcu, huc⟩ := hbattery
  have ha := hsensor .a .tempA (pollDevice .battery batteryMissed t)
  have hb := hsensor .b .tempB (pollDevice .tempA (sensorOverrun .a) (pollDevice .battery batteryMissed t))
  unfold makePoll
  dsimp only
  split <;> simp [hb, ha, hc, hcu, huc]

/-- With the class LOW a change between ACTIVE and ECONOMY leaves the class, the events and the queue. -/
theorem changeAwake_of_low {x : Standing} (hcls : t.bm.cls = .low) :
    (changeAwake x t).bm.cls = .low ∧ (changeAwake x t).cu = t.cu ∧ (changeAwake x t).uc = t.uc := by
  have hpoll := makePoll_of_low (t := setStanding x t) (by simpa [setStanding] using hcls)
  unfold changeAwake pollModeChange
  split
  · split
    · simpa [setStanding] using hpoll
    · simp [setStanding, hcls]
  all_goals simp [setStanding, hcls]

theorem wantedMode_eq_shelter (h : t.wantedMode = .shelter) : t.bm.cls = .critical := by
  unfold State.wantedMode at h
  split at h
  · cases h
  · cases h
  · generalize (if t.dormant = true then t.staysDormant else t.dormancyConditions) = b at h
    cases b <;> cases h
  · assumption

theorem wantedMode_ne_shelter (h : t.wantedMode ≠ .shelter) : t.bm.cls ≠ .critical := by
  intro hc
  exact h (by simp [State.wantedMode, hc])

theorem wantedMode_eq_dormant (h : t.wantedMode = .dormant) :
    t.bm.cls = .low ∧ t.openEvent = false ∧ t.uc.queue = [] := by
  unfold State.wantedMode at h
  split at h
  · cases h
  · cases h
  · next hlow =>
    have hcond : (if t.dormant = true then t.staysDormant else t.dormancyConditions) = true := by
      generalize (if t.dormant = true then t.staysDormant else t.dormancyConditions) = b at h
      cases b
      · cases h
      · rfl
    refine ⟨hlow, ?_⟩
    split at hcond <;> simp_all [State.staysDormant, State.dormancyConditions, Uplink.allEmpty]
  · cases h

/-- An evaluation brings the law about, whatever was due (R184). -/
theorem evaluateMode_keepsSafe (h : KeepsData n k s t) : KeepsSafe n k s (evaluateMode t) := by
  have hcls (hw : t.wantedMode ≠ .shelter) : t.bm.cls ≠ .critical := wantedMode_ne_shelter hw
  have hstay := Keeps.refl n k t
  have hdormant (hw : t.wantedMode = .dormant) : KeepsSafe n k s t :=
    ⟨h, fun hc => absurd (hc.symm.trans (wantedMode_eq_dormant hw).1) (by decide), fun _ => wantedMode_eq_dormant hw⟩
  unfold evaluateMode
  split
  case h_1 _ hst | h_2 _ hst | h_3 _ hst => exact .of_inStart h (by rw [hst]; rfl) hstay
  case h_4 hst hw => exact .of_awake h (.inl hst) (hcls (by simp [hw])) hstay
  case h_9 hst hw => exact .of_awake h (.inr (.inl hst)) (hcls (by simp [hw])) hstay
  case h_5 _ hw => exact changeAwake_keepsSafe (.inr rfl) (hcls (by simp [hw])) h
  case h_8 _ hw => exact changeAwake_keepsSafe (.inl rfl) (hcls (by simp [hw])) h
  case h_6 _ hw =>
    obtain ⟨hlow, hopen, hqueue⟩ := wantedMode_eq_dormant hw
    obtain ⟨hlow', hcu, huc⟩ := changeAwake_of_low (x := .watching) hlow
    exact tryEntry_keepsSafe (changeAwake_keeps_from (n := n) (k := k)).standing hlow'
      (by simpa only [State.openEvent, hcu] using hopen) (by rw [huc, hqueue])
      (changeAwake_keepsSafe (.inr rfl) (hcls (by simp [hw])) h).toKeepsData
  case h_10 hst hw =>
    obtain ⟨hlow, hopen, hqueue⟩ := wantedMode_eq_dormant hw
    exact tryEntry_keepsSafe hst hlow hopen hqueue h
  case h_12 _ hw =>
    exact changeAwake_keepsSafe (.inl rfl) (hcls (by simp [hw]) ∘ abandonEntry_critical) (abandonEntry_data h)
  case h_13 hst hw =>
    exact .of_awake (setStanding_data h) (.inr (.inl rfl)) (hcls (by simp [hw])) (abandonEntry_keeps_from hst)
  case h_14 _ hw | h_22 _ hw | h_23 _ hw | h_24 _ hw => exact hdormant hw
  case h_7 | h_11 | h_25 | h_26 | h_27 => exact shelterEntry_keepsSafe h
  case h_15 => exact shelterEntry_keepsSafe (abandonEntry_data h)
  case h_16 hst hw | h_17 hst hw => exact localWake_keepsSafe (.inl hst) (hcls (by simp [hw])) h
  case h_18 hst hw | h_19 hst hw => exact localWake_keepsSafe (.inr (.inl hst)) (hcls (by simp [hw])) h
  case h_20 hst hw | h_21 hst hw => exact localWake_keepsSafe (.inr (.inr hst)) (hcls (by simp [hw])) h
  case h_28 _ hst | h_29 hst _ => exact .of_inShelter h (by rw [hst]; rfl) hstay
  case h_30 _ hw | h_31 _ hw | h_32 _ hw => exact rise_keepsSafe (hcls (by simp [hw])) h
  case h_33 => exact .of_inShelter (setStanding_data h) rfl (runSlow_keeps (.refl n k _))
  case h_34 hst _ | h_35 hst _ | h_36 hst _ => exact .of_inShelter h (by rw [hst]; rfl) hstay

/-! ## The end of a step -/

theorem mcSettleOnce_data (h : KeepsData n k s t) : KeepsData n k s (mcSettleOnce t) := by
  unfold mcSettleOnce
  extract_lets abandon eval _ t1 t2
  have h1 : KeepsData n k s t1 := setMc_data h
  have h2 : KeepsData n k s t2 := by
    unfold t2; split
    · exact abandonEntry_data h1
    · exact h1
  split
  · split
    · exact (evaluateMode_keepsSafe h2).toKeepsData
    · exact h2
  · exact h

/-- One round of settling takes what was due (log entry 11). -/
theorem mcSettleOnce_safe (h : t.SafeOrDue) : (mcSettleOnce t).ModeSafe := by
  unfold mcSettleOnce
  extract_lets abandon eval _ t1 t2
  split
  · split
    · exact (evaluateMode_keepsSafe (.refl 0 .still t2)).safe
    · next heval =>
      have h1 : t1.ModeSafe := (h.resolve_left heval).of_same rfl rfl id id
      unfold t2; split
      · exact (abandonEntry_keepsSafe h1 (.refl 0 .still t1)).safe
      · exact h1
  · next hdue => exact h.resolve_left fun heval => hdue (by simp [eval, heval])

theorem mcSettle_data (h : KeepsData n k s t) : KeepsData n k s (mcSettle t) :=
  setMc_data (mcSettleOnce_data (mcSettleOnce_data (mcSettleOnce_data (mcSettleOnce_data h))))

theorem mcSettle_safe (h : t.SafeOrDue) : (mcSettle t).ModeSafe := by
  have hround {w : State} (g : w.SafeOrDue) : (mcSettleOnce w).SafeOrDue := .inr (mcSettleOnce_safe g)
  exact (mcSettleOnce_safe (hround (hround (hround h)))).of_same rfl rfl id id

theorem mcSettle_keepsLaw (h : KeepsLaw n k s t) : KeepsLaw n k s (mcSettle t) :=
  ⟨mcSettle_data h.toKeepsData, fun hs => .inr (mcSettle_safe (h.law hs))⟩

/-- What follows a command within the step leaves the standing and the class. -/
theorem follow_keeps (h : Keeps n k s t) : Keeps n k s (lcKick (twKick (syncOsc (modemKick t)))) :=
  lcKick_keeps (twKick_keeps (syncOsc_keeps (modemKick_keeps h)))

theorem finish_keepsLaw (h : KeepsLaw n k s t) : KeepsLaw n k s (finish t) :=
  (mcSettle_keepsLaw h).then (follow_keeps (.refl n k _))

end
end Sys2Proof.Machine

namespace Sys2Proof.Machine
set_option Elab.async false
section
variable {n : Nat} {k : ClockUse} {s t u v : State}

/-! ## The end of START, a BEACON's completion -/

/-- The end of START takes the mode that the class gives (R196). -/
theorem endOfStart_keepsLaw (h : KeepsData n k s t) : KeepsLaw n k s (endOfStart t) := by
  unfold endOfStart
  extract_lets t1 t2
  have h1 : KeepsData n k s t1 := h.then (trimTimerStart_keeps (seedRandom_keeps (.refl n k t)))
  split
  · exact (shelterEntry_keepsSafe h1).toKeepsLaw.then (ucHealth_keeps (pollTimerStart_keeps (.refl n k _)))
  · next hcls =>
    have hawake : KeepsSafe n k s t2 :=
      .of_awake (setStanding_data h1) (by show (if _ then _ else _) = _ ∨ (if _ then _ else _) = _ ∨ _; split <;> simp)
        (fun hc => hcls (by simpa [setStanding] using hc)) (.refl n k _)
    exact hawake.toKeepsLaw.then
      (ucHealth_keeps (pollTimerStart_keeps (firstBeaconDelay_keeps (blocksWake_keeps (.refl n k t2)))))

theorem beaconComplete_keepsLaw {m : BeaconMark} (h : Keeps n k s t) : KeepsLaw n k s (beaconComplete m t) := by
  cases m with
  | entry =>
    show KeepsLaw n k s (if t.mc.standing == .entering then dormantEntry t else t)
    split
    · next hst => exact dormantEntry_keepsLaw (eq_of_beq hst) h.toKeepsLaw
    · exact h.toKeepsLaw
  | final =>
    show KeepsLaw n k s (if t.mc.standing == .finalBeacon then becomeSheltered t else t)
    split
    · exact (becomeSheltered_keepsSafe h.toKeepsData).toKeepsLaw
    · exact h.toKeepsLaw
  | ordinary => exact (ite_keeps (setMc_keeps h) h).toKeepsLaw

/-! ## Reception -/

theorem musterHeard_keeps (h : Keeps n k s t) : Keeps n k s (musterHeard t) := ite_keeps (alarmMode_keeps (wakeHoldStart_keeps h)) h

theorem deliverBeacon_keeps {x : Nat} {st : RxStamp} {m : Bool} {b : BeaconBody} (h : Keeps 24 k s t) :
    Keeps 24 k s (deliverBeacon x st m b t) :=
  have htau : Keeps 24 k s (tauBeacon x b.stamp st (ptBeacon x b t)) := tauBeacon_keeps (ptBeacon_keeps h)
  cuBeacon_keeps (ite_keeps (musterHeard_keeps htau) htau)

theorem deliver_keepsLaw {f : RxFrame} {st : RxStamp} {b : Body} (h : Keeps 24 k s t) : KeepsLaw 24 k s (deliver f st b t) := by
  cases b with
  | beacon => exact (deliverBeacon_keeps h).toKeepsLaw
  | notice => exact (cuNotice_keeps (ptNotice_keeps h)).toKeepsLaw
  | declaration => exact (cuDeclaration_keeps h).toKeepsLaw
  | probe => exact (tauProbe_keeps h).toKeepsLaw
  | reply => exact (tauReply_keeps h).toKeepsLaw
  | request => exact keepsLaw_of_keeps_or_safe (csTake_keeps_or_safe (setLc_keeps h))
  | report => exact h.toKeepsLaw

/-- The sender of a frame is a half-byte. -/
theorem Header.sender_le (x : Header) : x.sender ≤ 15 :=
  Nat.le_of_lt_succ (Nat.div_lt_of_lt_mul x.kindSender.isLt)

/-- An accepted frame has a sender (R37 test 5). -/
theorem judge_accepted_sender {f : RxFrame} {kind : FrameKind} {b : Body} (h : t.judge f = .accepted kind b) :
    1 ≤ f.hdr.sender := by
  refine Nat.pos_of_ne_zero fun hz => ?_
  simp only [State.judge, senderWrong, hz, beq_self_eq_true, Bool.true_or, if_true] at h
  (repeat' split at h) <;> cases h

theorem acceptFrame_keepsLaw {f : RxFrame} {st : RxStamp} {kind : FrameKind} {b : Body} (hs : 1 ≤ f.hdr.sender)
    (h : Keeps 24 k s t) : KeepsLaw 24 k s (acceptFrame f st kind b t) := by
  refine deliver_keepsLaw ?_
  split
  · exact bump_keeps h
  · next h15 => exact ptTake_keeps hs (Nat.le_of_lt_succ (Nat.lt_of_le_of_ne f.hdr.sender_le h15)) (bump_keeps h)

theorem endCapture_keepsLaw {w : Bool} (h : KeepsLaw n k s t) : KeepsLaw n k s (endCapture w t) := by
  unfold endCapture
  split
  · dsimp only
    split
    · split
      · exact patternWake_keepsLaw (mcSettle_keepsLaw h)
      · exact falseWake_keepsLaw (mcSettle_keepsLaw h)
    · exact mcSettle_keepsLaw h
  · exact h

theorem takeFrame_keepsLaw {f : RxFrame} {st : RxStamp} (h : Keeps 24 k s t) : KeepsLaw 24 k s (takeFrame f st t) := by
  unfold takeFrame
  split
  · exact endCapture_keepsLaw (bump_keeps h).toKeepsLaw
  · exact endCapture_keepsLaw (bump_keeps (setLc_keeps h)).toKeepsLaw
  · exact endCapture_keepsLaw h.toKeepsLaw
  · next hj => exact endCapture_keepsLaw (acceptFrame_keepsLaw (judge_accepted_sender hj) h)

end

/-! ## Commands -/

/-- What a command's next state keeps: the invariants, and that nothing waits to be reported (log entry 11). -/
structure StepKeeps (k : ClockUse) (s t : State) : Prop extends KeepsLaw 24 k s t where
  settled : s.Settled → t.Settled

/-- The outcome of a command is a next state that keeps so. -/
def OutcomeKeeps (k : ClockUse) (s : State) : Host.Outcome State Fault Refusal → Prop
  | .next t => StepKeeps k s t
  | _ => False

section
variable {k : ClockUse} {s t u v : State}

theorem StepKeeps.refl (k : ClockUse) (s : State) : StepKeeps k s s := ⟨(Keeps.refl 24 k s).toKeepsLaw, id⟩

theorem StepKeeps.of_finish (h : KeepsLaw 24 k s t) : StepKeeps k s (finish t) := ⟨finish_keepsLaw h, fun _ => finish_settled t⟩

/-- A command that leaves the Mode Controller's reports as they are. -/
theorem StepKeeps.of_keeps (h : Keeps 24 k s t) (hdue : t.mc.evalDue = s.mc.evalDue := by simp)
    (habandon : t.mc.abandonDue = s.mc.abandonDue := by simp) : StepKeeps k s t :=
  ⟨h.toKeepsLaw, fun ⟨h1, h2⟩ => ⟨hdue.trans h1, habandon.trans h2⟩⟩

theorem StepKeeps.ite {c : Prop} [Decidable c] (hu : StepKeeps k s u) (hv : StepKeeps k s v) :
    StepKeeps k s (if c then u else v) := by
  split
  · exact hu
  · exact hv

/-- A frame is taken and the step ends, or nothing happens. -/
theorem receiveFrame_stepKeeps (rest : List Byte) : StepKeeps k s (receiveFrame rest s) := by
  unfold receiveFrame
  split
  · exact .ite (.of_finish (takeFrame_keepsLaw (setLc_keeps (.refl 24 k s)))) (.refl k s)
  · exact .refl k s

end
end Sys2Proof.Machine

namespace Sys2Proof.Machine
set_option Elab.async false

/-! ## The ticks -/

theorem carryFrac_lt {x : Int} (h : x < 8589934592) : (carryFrac x).1 < 4294967296 := by
  unfold carryFrac
  (repeat' split) <;> grind

theorem carryFrac_carry (x : Int) : -1 ≤ (carryFrac x).2 ∧ (carryFrac x).2 ≤ 1 := by
  unfold carryFrac
  (repeat' split) <;> simp

theorem Timebase.applied_le (t : Timebase) : t.applied ≤ rateLimit := by
  unfold Timebase.applied
  split
  · decide
  · decide
  · exact (clampInt_range (show -rateLimit ≤ rateLimit by decide)).2

/-- A tick of n moves station time forward, by n at most. -/
theorem Timebase.advance_time {t : Timebase} {m : Nat} (h : t.time ≤ maxTime) :
    t.time ≤ (t.advance m).time ∧ (t.advance m).time ≤ t.time + m :=
  ⟨Nat.le_min.mpr ⟨Nat.le_add_right _ _, h⟩, Nat.min_le_left _ _⟩

theorem Timebase.fastTick_inRange {t : Timebase} (h : t.InRange) : t.fastTick.InRange :=
  { h with
    time := Nat.min_le_right _ _
    frac := carryFrac_lt (by have := h.frac; have : t.applied ≤ 214748 := t.applied_le; omega) }

theorem Timebase.slowTick_inRange {t : Timebase} (h : t.InRange) : t.slowTick.InRange :=
  { h with
    time := Nat.min_le_right _ _
    frac := carryFrac_lt (by have := h.frac; have := h.cSlowLow; omega) }

theorem Timebase.fastTick_time {t : Timebase} (h : t.time ≤ maxTime) :
    t.time ≤ t.fastTick.time ∧ t.fastTick.time ≤ t.time + 2 := by
  have hc := carryFrac_carry (t.frac + t.applied)
  have := Timebase.advance_time (t := t.elapse 1) (m := (1 + (carryFrac (t.frac + t.applied)).2).toNat) h
  exact ⟨this.1, this.2.trans (Nat.add_le_add_left (by omega) _)⟩

theorem Timebase.slowTick_time {t : Timebase} (h : t.time ≤ maxTime) :
    t.time ≤ t.slowTick.time ∧ t.slowTick.time ≤ t.time + 33 := by
  have hc := carryFrac_carry (t.frac - 32 * t.cSlow)
  have := Timebase.advance_time (t := t.elapse 32) (m := (32 + (carryFrac (t.frac - 32 * t.cSlow)).2).toNat) h
  exact ⟨this.1, this.2.trans (Nat.add_le_add_left (by omega) _)⟩

section
variable {n : Nat} {k : ClockUse} {s t u v : State}

/-! ## The parts of the commands -/

theorem StepKeeps.trans (h : StepKeeps k s t) (g : StepKeeps k t u) : StepKeeps k s u :=
  ⟨h.toKeepsLaw.trans g.toKeepsLaw, g.settled ∘ h.settled⟩

theorem sampleLines_keeps {l : Lines} (h : Keeps n k s t) : Keeps n k s (sampleLines l t) := twSclSampled_keeps (setPins_keeps h)

theorem countCrystal_keeps (h : Keeps n k s t) : Keeps n k s (countCrystal t) := ite_keeps (setMc_keeps h) h

theorem fastAdvance_keeps (h : Keeps n .ticked s t) : Keeps n .ticked s ((t.setTb t.tb.fastTick).setHc (t.hc.run 1)) :=
  setHc_keeps (setTb_keeps h (absurd rfl) nofun Timebase.fastTick_inRange)

theorem slowAdvance_keeps (h : Keeps n .ticked s t) : Keeps n .ticked s (slowAdvance t) := by
  refine ite_keeps (setHc_keeps (setTb_keeps h (absurd rfl) nofun fun hr => ?_)) h
  split
  · exact { Timebase.slowTick_inRange hr with }
  · exact Timebase.slowTick_inRange hr

@[simp] theorem countCrystal_due (s : State) : (countCrystal s).mc.evalDue = s.mc.evalDue ∧
    (countCrystal s).mc.abandonDue = s.mc.abandonDue := by
  unfold countCrystal
  split <;> exact ⟨rfl, rfl⟩

@[simp] theorem countOsc_due (s : State) : (countOsc s).mc.evalDue = s.mc.evalDue ∧ (countOsc s).mc.abandonDue = s.mc.abandonDue :=
  ⟨rfl, rfl⟩

theorem countOsc_keeps (h : Keeps n k s t) : Keeps n k s (countOsc t) := setMc_keeps h

theorem calBoundary_keeps (h : Keeps n k s t) : Keeps n k s (calBoundary t) :=
  ite_keeps (ite_keeps (calDiscard_keeps (setTb_same_keeps h)) (setTb_same_keeps h)) (setTb_same_keeps h)

theorem fastWanted_keeps (h : Keeps n k s t) : Keeps n k s (fastWanted t) := ite_keeps (runFast_keeps h) h

theorem dropNotice_keeps {q : NoticeReq} (h : Keeps n k s t) : Keeps n k s (dropNotice q t) :=
  ite_keeps (setTd_keeps (bump_keeps (setSlots_keeps h))) (bump_keeps (setSlots_keeps h))

theorem expirePeer_keeps {id : Nat} (h : Keeps n k s t) : Keeps n k s (expirePeer id t) :=
  cuPeerRemoved_keeps (tauPeerRemoved_keeps (dropPeer_keeps (bump_keeps h)))

theorem powerCycle_keeps (h : Keeps n k s t) : Keeps n k s (powerCycle t) := bump_keeps (setModem_keeps (setUc_keeps h))

theorem busyFails_keeps (h : Keeps n k s t) : Keeps n k s (busyFails t) := by
  unfold busyFails
  extract_lets t1
  refine modemNext_keeps ?_
  split
  · exact failAttempt_keeps (setUc_keeps h)
  · exact setUc_keeps h

/-- The end of a transfer: the modem goes on, and the records that nothing holds leave. -/
theorem transferEnd_keeps (h : Keeps n k s t) : Keeps n k s (lingerSweep (endAwaiting t)) := lingerSweep_keeps (endAwaiting_keeps h)

theorem loadEnds_keepsLaw {r : TwEnd 64} (h : Keeps n k s t) : KeepsLaw n k s (loadEnds r t) :=
  have hset : KeepsData n k s (setStanding .firstPoll (formCharge (csTakeBlock r t))) :=
    setStanding_data (formCharge_keeps (csTakeBlock_keeps h)).toKeepsData
  (KeepsSafe.of_inStart hset rfl (makePoll_keeps (.refl n k _))).toKeepsLaw

theorem batteryEnds_keepsLaw {r : TwEnd 6} (h : Keeps n k s t) : KeepsLaw n k s (batteryEnds r t) := by
  have htold : KeepsLaw n k s (tellMode (bmBattery r t)) := (bmBattery_keepsLaw h).then (tellMode_keeps (.refl n k _))
  unfold batteryEnds
  dsimp only
  split
  · exact endOfStart_keepsLaw htold.toKeepsData
  · exact htold

theorem fastSteadyStanding_keepsLaw (h : Keeps n k s t) : KeepsLaw n k s (fastSteadyStanding t) := by
  unfold fastSteadyStanding
  split
  · exact (ite_keeps h (twRequest_keeps h)).toKeepsLaw
  · exact (receiverOn_keeps h).toKeepsLaw
  · split
    · exact (receiverOn_keeps h).toKeepsLaw
    · exact enterWatching_keepsLaw h.toKeepsData
  · exact risingComplete_keepsLaw h.toKeepsData
  all_goals exact h.toKeepsLaw

theorem steerWaited_keeps (hk : k ≠ .still) (h : Keeps n k s t) : Keeps n k s (steerWaited t) := ite_keeps (steer_keeps hk h) h

theorem reportCompletion_keepsLaw {o : TxOwner} (h : Keeps n k s t) : KeepsLaw n k s (reportCompletion o t) := by
  cases o with
  | declaration rid m => exact (cuDeclarationSent_keeps h).toKeepsLaw
  | notice x moment =>
    cases x with
    | onset => exact (ite_keeps (setTd_keeps h) h).toKeepsLaw
    | finish => exact h.toKeepsLaw
  | reply => exact h.toKeepsLaw
  | probe target => exact h.toKeepsLaw
  | beacon mark => exact beaconComplete_keepsLaw h
  | report current last => exact keepsLaw_of_keeps_or_safe (csCompleted_keeps_or_safe h)

theorem staleDrop_keepsLaw {x : StaleKind} (h : Keeps n k s t) : KeepsLaw n k s (staleDrop x t) := by
  unfold staleDrop
  split <;> split
  · exact (ite_keeps (dropNotice_keeps h) h).toKeepsLaw
  · exact h.toKeepsLaw
  · exact (ite_keeps (bump_keeps (setSlots_keeps h)) h).toKeepsLaw
  · exact h.toKeepsLaw
  · exact (ite_keeps (tauNotSent_keeps (bump_keeps (setSlots_keeps h))) h).toKeepsLaw
  · exact h.toKeepsLaw
  · split
    · exact keepsLaw_of_keeps_or_safe (csEnd_keeps_or_safe (bump_keeps (bump_keeps (setSlots_keeps h))))
    · exact h.toKeepsLaw
  · exact h.toKeepsLaw

theorem beginCapture_keepsLaw (ht : t.mc.standing = .asleep) (h : KeepsLaw n k s t) : KeepsLaw n k s (beginCapture t) := by
  have hcap : KeepsLaw n k s (t.setMc { t.mc with standing := .capturing, capture := t.startTimer (millis 200) }) :=
    (setStanding_keepsLaw_sleepy (x := .capturing) (by rw [ht]; rfl) h).then
      (setMc_keeps (t := setStanding .capturing t) (x := { t.mc with standing := .capturing, capture := t.startTimer (millis 200) })
        (.refl n k _))
  exact hcap.then (ite_keeps (receiverOn_keeps (runFast_keeps (.refl n k _))) (runFast_keeps (.refl n k _)))

/-! ## The edges of the sample port -/

theorem takeBit_stepKeeps (e : PortEdge) : StepKeeps k s (takeBit s e) := by
  have hadd : Keeps 24 k s (addBit e.bit s) := addBit_keeps (.refl 24 k s)
  exact .ite (.refl k s) (.ite (.of_keeps (startSet_keeps (.refl 24 k s)))
    (.ite (.ite (.of_finish (takeSet_keeps hadd).toKeepsLaw) (.of_keeps hadd)) (.refl k s)))

theorem takeBits_stepKeeps (edges : List PortEdge) : StepKeeps k s (takeBits edges s) := by
  induction edges generalizing s with
  | nil => exact .refl k s
  | cons e es ih => exact (takeBit_stepKeeps e).trans ih

end
end Sys2Proof.Machine

namespace Sys2Proof.Machine
set_option Elab.async false

/-! ## Every command -/

/-- How a command may move the clocks (R1 to R3, R5, R12). -/
def clockUse : Instr → ClockUse
  | .powerOn | .nominalTick _ | .slowCycle _ => .ticked
  | .steeringInstant | .fastSteady => .stepped
  | _ => .still

section
variable {k : ClockUse} {s t : State}

/-- A command that ends its step, or does nothing. -/
theorem finishes_or_rests {c : Prop} [Decidable c] (h : KeepsLaw 24 k s t) :
    StepKeeps k s (if c then finish t else s) := .ite (.of_finish h) (.refl k s)

theorem finish_of {t : State} (h : Keeps 24 k s t) : StepKeeps k s (finish t) := .of_finish h.toKeepsLaw

theorem reset_countersBounded : State.reset.CountersBounded := fun c => by simp [State.count, State.reset]

theorem reset_inRange : State.reset.tb.InRange := by constructor <;> decide

theorem reset_peersSound : State.reset.PeersSound := peersSound_of_nil rfl

theorem reset_tablesWithin : State.reset.TablesWithin 24 := tablesWithin_of_nil rfl rfl rfl

theorem execPowerOn_keeps : OutcomeKeeps .ticked s (execPowerOn s) :=
  ⟨⟨⟨rfl, absurd rfl, nofun, fun _ => reset_countersBounded, fun _ => reset_inRange, fun _ => reset_peersSound,
    fun _ => reset_tablesWithin⟩, fun _ => .inr (State.ModeSafe.of_inStart rfl)⟩, fun _ => ⟨rfl, rfl⟩⟩

theorem execResetNLow_keeps : OutcomeKeeps .still s (execResetNLow s) :=
  .of_finish ((restartValues_keepsSafe (.refl 24 _ s)).toKeepsLaw.then (setMc_keeps (.refl 24 _ _)))

theorem execResetNRise_keeps : OutcomeKeeps .still s (execResetNRise s) := by
  refine .ite (.of_finish ?_) (.refl _ s)
  have hfree : Keeps 24 .still s (s.setMc { s.mc with held := false }) := setMc_keeps (.refl 24 _ s)
  dsimp only
  split
  · exact (enterLoading_keepsSafe hfree.toKeepsData).toKeepsLaw
  · exact hfree.toKeepsLaw

theorem execCrystalWaitEnd_keeps : OutcomeKeeps .still s (execCrystalWaitEnd s) := by
  refine .ite (.of_finish ?_) (.refl _ s)
  have hset : KeepsData 24 .still s (setStanding .loading (s.setTb { s.tb with counting := true })) :=
    setStanding_data (setTb_same_keeps (.refl 24 _ s)).toKeepsData
  dsimp only
  split
  · exact (KeepsSafe.of_inStart hset rfl (.refl 24 _ _)).toKeepsLaw
  · exact (enterLoading_keepsSafe hset).toKeepsLaw

theorem execConfigLoadEnd_keeps (r : TwEnd 64) : OutcomeKeeps .still s (execConfigLoadEnd r s) := by
  refine show StepKeeps .still s _ from ?_
  split
  · exact .refl _ s
  · have hend : Keeps 24 .still s (twEnd r s) := twEnd_keeps (.refl 24 _ s)
    refine .of_finish ?_
    split
    · exact loadEnds_keepsLaw hend
    · exact hend.toKeepsLaw

theorem execNominalTick_keeps (l : Lines) : OutcomeKeeps .ticked s (execNominalTick l s) :=
  .ite (.of_keeps (fastAdvance_keeps (sampleLines_keeps (.refl 24 _ s)))) (.refl _ s)

theorem execSlowCycle_keeps (l : Lines) : OutcomeKeeps .ticked s (execSlowCycle l s) :=
  .of_keeps (calBoundary_keeps (countOsc_keeps (slowAdvance_keeps (countCrystal_keeps (sampleLines_keeps (.refl 24 _ s))))))

theorem execSecondBoundary_keeps : OutcomeKeeps .still s (execSecondBoundary s) := by
  refine show StepKeeps .still s _ from ?_
  split
  · exact .refl _ s
  · exact finish_of (heaterBoundary_keeps (heaterBoundary_keeps (siBoundary_keeps (setTb_same_keeps (.refl 24 _ s)))))

theorem execElapsedSecond_keeps : OutcomeKeeps .still s (execElapsedSecond s) :=
  .ite (.of_keeps (setTb_keeps (.refl 24 _ s) (fun _ => rfl) (fun _ => rfl) fun r => { r with quality := Nat.min_le_left _ _ }))
    (.refl _ s)

theorem execFastSteady_keeps : OutcomeKeeps .stepped s (execFastSteady s) := by
  refine .ite (.of_finish ?_) (.refl _ s)
  exact (fastSteadyStanding_keepsLaw (calRestart_keeps (setMc_keeps (setTb_same_keeps (.refl 24 _ s))))).then
    (steerWaited_keeps nofun (.refl 24 _ _))

theorem execSourceBecomesSlow_keeps : OutcomeKeeps .still s (execSourceBecomesSlow s) :=
  finishes_or_rests (fastWanted_keeps (calRestart_keeps (calDiscard_keeps (setTb_same_keeps (.refl 24 _ s))))).toKeepsLaw

theorem execCalibrationWindowClose_keeps : OutcomeKeeps .still s (execCalibrationWindowClose s) := by
  refine show StepKeeps .still s _ from ?_
  split
  · next w _ =>
    have hfilter := clampInt_range (x := s.tb.cSlow + ((1048576 - (w.m : Int)) * 4096 - s.tb.cSlow) / 4)
      (show (-858993 : Int) ≤ 858993 by decide)
    exact .ite (.of_keeps (calRestart_keeps (setTb_keeps (.refl 24 _ s) (fun _ => rfl) (fun _ => rfl) fun r =>
      { r with cSlowLow := hfilter.1, cSlowHigh := hfilter.2 }))) (.refl _ s)
  · exact .refl _ s

theorem execMarkLabelReadEnd_keeps (r : TwEnd 5) : OutcomeKeeps .still s (execMarkLabelReadEnd r s) := by
  refine show StepKeeps .still s _ from ?_
  split
  · exact .refl _ s
  · exact finish_of (entryWorkLeaves_keeps (ite_keeps (rmuReadEnd_keeps (twEnd_keeps (.refl 24 _ s))) (twEnd_keeps (.refl 24 _ s))))

theorem execBackoffComplete_keeps : OutcomeKeeps .still s (execBackoffComplete s) := by
  refine show StepKeeps .still s _ from ?_
  split
  · exact finishes_or_rests (startTransmission_keeps (.refl 24 _ s)).toKeepsLaw
  all_goals exact .refl _ s

theorem execStampPoint_keeps : OutcomeKeeps .still s (execStampPoint s) := by
  refine show StepKeeps .still s _ from ?_
  split
  · exact .ite (.of_keeps (stampFrame_keeps (.refl 24 _ s))) (.refl _ s)
  · exact .refl _ s

theorem execTransmissionEnd_keeps : OutcomeKeeps .still s (execTransmissionEnd s) := by
  refine show StepKeeps .still s _ from ?_
  split
  · exact finishes_or_rests (reportCompletion_keepsLaw (bump_keeps (setLc_keeps (.refl 24 _ s))))
  · exact .refl _ s

theorem execSyncWordTaken_keeps : OutcomeKeeps .still s (execSyncWordTaken s) := by
  refine show StepKeeps .still s _ from ?_
  split
  · exact .of_keeps (setLc_keeps (.refl 24 _ s))
  · exact .refl _ s

theorem execHeaderTaken_keeps (a b l q : Byte) : OutcomeKeeps .still s (execHeaderTaken a b l q s) := by
  refine show StepKeeps .still s _ from ?_
  split
  · exact .ite (.of_keeps (bump_keeps (setLc_keeps (.refl 24 _ s)))) (.of_keeps (setLc_keeps (.refl 24 _ s)))
  · exact .refl _ s

theorem execCarrierDetectChange_keeps (high : Bool) : OutcomeKeeps .still s (execCarrierDetectChange high s) :=
  have hpin : Keeps 24 .still s (s.setPins { s.pins with lkCd := high }) := setPins_keeps (.refl 24 _ s)
  .ite (.refl _ s) (.ite (.of_keeps (carrierRise_keeps hpin)) (.of_keeps (setLc_keeps hpin)))

theorem execHoldoffExpiry_keeps : OutcomeKeeps .still s (execHoldoffExpiry s) := by
  refine show StepKeeps .still s _ from ?_
  split
  · exact finish_of (holdoffExpire_keeps (.refl 24 _ s))
  · exact .refl _ s

theorem execRetryWaitEnd_keeps : OutcomeKeeps .still s (execRetryWaitEnd s) := by
  refine show StepKeeps .still s _ from ?_
  split
  · exact finish_of (putAlert_keeps (.refl 24 _ s))
  · exact .refl _ s

theorem execUpRdyRise_keeps : OutcomeKeeps .still s (execUpRdyRise s) :=
  have hpin : Keeps 24 .still s (s.setPins { s.pins with upRdy := true }) := setPins_keeps (.refl 24 _ s)
  .ite (finish_of (ucStart_keeps hpin)) (.of_keeps hpin)

theorem execSegmentFetch_keeps : OutcomeKeeps .still s (execSegmentFetch s) := by
  refine show StepKeeps .still s _ from ?_
  split
  · exact .ite (.of_keeps (ucFetch_keeps (.refl 24 _ s))) (.refl _ s)
  · exact .refl _ s

theorem execMessageSumSent_keeps : OutcomeKeeps .still s (execMessageSumSent s) := by
  refine show StepKeeps .still s _ from ?_
  split
  · exact .ite (.of_keeps (ucSync_keeps (setModem_keeps (setQueue_keeps (.refl 24 _ s) (by simp))))) (.refl _ s)
  · exact .refl _ s

theorem execCanSent_keeps : OutcomeKeeps .still s (execCanSent s) := by
  refine show StepKeeps .still s _ from ?_
  split
  · exact finish_of (transferEnd_keeps (endCut_keeps (.refl 24 _ s)))
  · exact .refl _ s

theorem execUplinkReply_keeps (b : Byte) : OutcomeKeeps .still s (execUplinkReply b s) := by
  refine show StepKeeps .still s _ from ?_
  split
  · exact .ite (finish_of (transferEnd_keeps (ackAlert_keeps (.refl 24 _ s))))
      (finishes_or_rests (transferEnd_keeps (nakAlert_keeps (bump_keeps (.refl 24 _ s)))).toKeepsLaw)
  · exact .refl _ s

theorem execReplyLimitExpiry_keeps : OutcomeKeeps .still s (execReplyLimitExpiry s) := by
  refine show StepKeeps .still s _ from ?_
  split
  · exact finishes_or_rests (transferEnd_keeps (nakAlert_keeps (bump_keeps (.refl 24 _ s)))).toKeepsLaw
  · exact .refl _ s

theorem execBatteryResult_keeps (r : TwEnd 6) : OutcomeKeeps .still s (execBatteryResult r s) := by
  refine show StepKeeps .still s _ from ?_
  split
  · exact .refl _ s
  · have hend : Keeps 24 .still s (twEnd r s) := twEnd_keeps (.refl 24 _ s)
    refine .of_finish (.then ?_ (entryWorkLeaves_keeps (pollLeaves_keeps (.refl 24 _ _))))
    split
    · exact batteryEnds_keepsLaw hend
    · exact hend.toKeepsLaw

theorem execTemperatureResult_keeps (x : TempSensor) (r : TwEnd 2) : OutcomeKeeps .still s (execTemperatureResult x r s) := by
  refine show StepKeeps .still s _ from ?_
  split
  · exact .refl _ s
  · exact finish_of (entryWorkLeaves_keeps (pollLeaves_keeps
      (ite_keeps (bmTemperature_keeps (twEnd_keeps (.refl 24 _ s))) (twEnd_keeps (.refl 24 _ s)))))

theorem execWakePatternDetect_keeps : OutcomeKeeps .still s (execWakePatternDetect s) := by
  refine show StepKeeps .still s (if s.watches then _ else _) from ?_
  split
  · next hw =>
    have hst : s.mc.standing = .asleep := by simp [State.watches] at hw; exact hw.1
    exact .of_finish (beginCapture_keepsLaw hst (Keeps.refl 24 _ s).toKeepsLaw)
  · exact .refl _ s

theorem execSteeringInstant_keeps : OutcomeKeeps .stepped s (execSteeringInstant s) :=
  .ite (.ite (finish_of (steer_keeps nofun (.refl 24 _ s))) (.of_keeps (setTau_keeps (.refl 24 _ s)))) (.refl _ s)

/-- Every command keeps every invariant, moves the clocks only as it may, and leaves nothing to be reported. -/
theorem exec_keeps (i : Instr) (s : State) : OutcomeKeeps (clockUse i) s (exec i s) := by
  have h := Keeps.refl 24 .still s
  cases i with
  | powerOn => exact execPowerOn_keeps
  | resetNLow => exact execResetNLow_keeps
  | resetNRise => exact execResetNRise_keeps
  | crystalWaitEnd => exact execCrystalWaitEnd_keeps
  | configLoadEnd r => exact execConfigLoadEnd_keeps r
  | nominalTick l => exact execNominalTick_keeps l
  | slowCycle l => exact execSlowCycle_keeps l
  | secondBoundary => exact execSecondBoundary_keeps
  | elapsedSecond => exact execElapsedSecond_keeps
  | fastSteady => exact execFastSteady_keeps
  | sourceBecomesSlow => exact execSourceBecomesSlow_keeps
  | calibrationPeriodExpiry => exact .ite (.of_keeps (setTb_same_keeps h)) (.refl _ s)
  | calibrationWindowClose => exact execCalibrationWindowClose_keeps
  | markEdge => exact finish_of (rmuEdge_keeps h)
  | markLabelReadEnd r => exact execMarkLabelReadEnd_keeps r
  | markExpectationExpiry => exact .of_keeps (rmuExpectation_keeps h)
  | referenceLossExpiry => exact .ite (.of_keeps (rmuAbsent_keeps h)) (.refl _ s)
  | guardComplete => exact finishes_or_rests (startTransmission_keeps h).toKeepsLaw
  | carrierBusy => exact .ite (.of_keeps (drawBackoff_keeps h)) (.refl _ s)
  | backoffComplete => exact execBackoffComplete_keeps
  | stampPoint => exact execStampPoint_keeps
  | transmissionEnd => exact execTransmissionEnd_keeps
  | requestStaleDrop x => exact .of_finish (staleDrop_keepsLaw h)
  | beaconTimerExpiry => exact finishes_or_rests (beaconTimerRestart_keeps (ite_keeps h (requestBeacon_keeps h))).toKeepsLaw
  | syncWordTaken => exact execSyncWordTaken_keeps
  | headerTaken a b l q => exact execHeaderTaken_keeps a b l q
  | frameTruncated => exact finishes_or_rests (endCapture_keepsLaw (bump_keeps (setLc_keeps h)).toKeepsLaw)
  | frameDiscarded rest => exact receiveFrame_stepKeeps rest
  | beaconReceived rest => exact receiveFrame_stepKeeps rest
  | triggerNoticeReceived rest => exact receiveFrame_stepKeeps rest
  | eventDeclarationReceived rest => exact receiveFrame_stepKeeps rest
  | rangeProbeReceived rest => exact receiveFrame_stepKeeps rest
  | rangeReplyReceived rest => exact receiveFrame_stepKeeps rest
  | serviceReportReceived rest => exact receiveFrame_stepKeeps rest
  | serviceStatus rest => exact receiveFrame_stepKeeps rest
  | servicePeers rest => exact receiveFrame_stepKeeps rest
  | serviceEvents rest => exact receiveFrame_stepKeeps rest
  | serviceCounters rest => exact receiveFrame_stepKeeps rest
  | serviceRestart rest => exact receiveFrame_stepKeeps rest
  | serviceUnknown rest => exact receiveFrame_stepKeeps rest
  | peerRecordExpiry id => exact finishes_or_rests (expirePeer_keeps h).toKeepsLaw
  | probeTargetChoice => exact finish_of (tauChoose_keeps h)
  | probeTimeout => exact finishes_or_rests (tauUnanswered_keeps h).toKeepsLaw
  | rangeAgeStale id => exact .ite (.of_keeps (updPeer_keeps h)) (.refl _ s)
  | unreachableHoldEnd id => exact .ite (.of_keeps (updPeer_keeps h)) (.refl _ s)
  | steeringInstant => exact execSteeringInstant_keeps
  | sampleSetComplete edges => exact takeBits_stepKeeps edges
  | partialSet taken first => exact (takeBits_stepKeeps taken).trans (takeBit_stepKeeps _)
  | digSyncFall => exact .ite (.of_keeps (setSi_keeps h)) (.refl _ s)
  | missingSample => exact .of_keeps (closeOneWindow_keeps h)
  | holdTimerExpiry => exact finishes_or_rests (tdHoldExpiry_keeps h).toKeepsLaw
  | overlongExpiry => exact .ite (.of_keeps (tdOverlong_keeps h)) (.refl _ s)
  | trimDecayExpiry => exact .ite (.of_keeps (trimTimerStart_keeps (setTd_keeps h))) (.refl _ s)
  | entryRetentionExpiry => exact finish_of (retentionSweep_keeps h)
  | holdoffExpiry => exact execHoldoffExpiry_keeps
  | eventCloseTest => exact finish_of (closeTest_keeps h)
  | maximumLifeExpiry => exact finish_of (closeWhere_keeps h)
  | recordLingerEnd => exact finish_of (lingerSweep_keeps h)
  | healthTimerExpiry => exact finishes_or_rests (ucHealth_keeps h).toKeepsLaw
  | retryWaitEnd => exact execRetryWaitEnd_keeps
  | modemWarmUpExpiry => exact finishes_or_rests (modemNext_keeps h).toKeepsLaw
  | powerCycleEnd => exact .ite (.of_keeps (setModem_keeps h)) (.refl _ s)
  | powerDownDelayExpiry => exact .ite (.of_keeps (setModem_keeps h)) (.refl _ s)
  | upRdyRise => exact execUpRdyRise_keeps
  | busyLimitExpiry =>
    have hb : Keeps 24 .still s (bump .busyTimeouts s) := bump_keeps h
    exact finishes_or_rests (ite_keeps (powerCycle_keeps hb) (lingerSweep_keeps (busyFails_keeps hb))).toKeepsLaw
  | segmentFetch => exact execSegmentFetch_keeps
  | messageSumSent => exact execMessageSumSent_keeps
  | canSent => exact execCanSent_keeps
  | uplinkReply b => exact execUplinkReply_keeps b
  | replyLimitExpiry => exact execReplyLimitExpiry_keeps
  | batteryPoll => exact finishes_or_rests (makePoll_keeps h).toKeepsLaw
  | batteryResult r => exact execBatteryResult_keeps r
  | temperatureResult x r => exact execTemperatureResult_keeps x r
  | briefRunReady => exact finishes_or_rests (setMc_keeps h).toKeepsLaw
  | briefRunBeaconSkip => exact finishes_or_rests (bump_keeps (setMc_keeps (setSlots_keeps h))).toKeepsLaw
  | wakePatternDetect => exact execWakePatternDetect_keeps
  | captureLimitExpiry => exact finishes_or_rests (falseWake_keepsLaw h.toKeepsLaw)
  | wakeHoldExpiry => exact finishes_or_rests (tellMode_keeps (setMc_keeps h)).toKeepsLaw
  | finalBeaconTimeout =>
    exact finishes_or_rests (becomeSheltered_keepsSafe (bump_keeps (setSlots_keeps h)).toKeepsData).toKeepsLaw
  | carrierDetectChange high => exact execCarrierDetectChange_keeps high

/-- The next state of a command, where there is one, keeps everything. -/
theorem exec_next_keeps {i : Instr} (h : exec i s = .next t) : StepKeeps (clockUse i) s t := by
  have hk := exec_keeps i s
  rw [h] at hk
  exact hk

theorem clockUse_ne_ticked {c : Instr} (hpower : c ≠ .powerOn) (hfast : ∀ l, c ≠ .nominalTick l) (hslow : ∀ l, c ≠ .slowCycle l) :
    clockUse c ≠ .ticked := by
  intro h
  unfold clockUse at h
  split at h <;> simp_all

theorem clockUse_eq_still {c : Instr} (hpower : c ≠ .powerOn) (hsteer : c ≠ .steeringInstant) (hsteady : c ≠ .fastSteady)
    (hfast : ∀ l, c ≠ .nominalTick l) (hslow : ∀ l, c ≠ .slowCycle l) : clockUse c = .still := by
  unfold clockUse
  split <;> simp_all

/-- A nominal tick moves station time by 2 at most. -/
theorem execNominalTick_time {l : Lines} (hmax : s.tb.time ≤ maxTime) (h : execNominalTick l s = .next t) :
    s.tb.time ≤ t.tb.time ∧ t.tb.time ≤ s.tb.time + 2 := by
  unfold execNominalTick at h
  cases h
  split
  · simpa using Timebase.fastTick_time (t := (sampleLines l s).tb) (by simpa using hmax)
  · exact ⟨Nat.le_refl _, Nat.le_add_right _ _⟩

/-- A slow cycle moves station time by 33 at most. -/
theorem execSlowCycle_time {l : Lines} (hmax : s.tb.time ≤ maxTime) (h : execSlowCycle l s = .next t) :
    s.tb.time ≤ t.tb.time ∧ t.tb.time ≤ s.tb.time + 33 := by
  unfold execSlowCycle at h
  cases h
  rw [(calBoundary_keeps (countOsc_keeps (.refl 24 .still _))).time rfl]
  have hs : (countCrystal (sampleLines l s)).tb = s.tb := by simp
  unfold slowAdvance
  split
  · have := Timebase.slowTick_time (t := (countCrystal (sampleLines l s)).tb) (by rw [hs]; exact hmax)
    rw [hs] at this ⊢
    dsimp only
    split <;> exact this
  · rw [hs]
    exact ⟨Nat.le_refl _, Nat.le_add_right _ _⟩

/-- A step keeps what its command keeps; taking the command off the queue changes nothing else. -/
theorem step_keeps (h : step s = .next t) : (s.CountersBounded → t.CountersBounded) ∧ (s.tb.InRange → t.tb.InRange) ∧
    (s.PeersSound → t.PeersSound) ∧ (s.TablesWithin 24 → t.TablesWithin 24) ∧ (s.SafeOrDue → t.SafeOrDue) ∧
    (s.Settled → t.Settled) := by
  unfold step at h
  split at h
  · cases h
    exact ⟨id, id, id, id, id, id⟩
  · have hk := exec_next_keeps h
    exact ⟨hk.counters, hk.range, hk.peers, hk.tables, hk.law, hk.settled⟩

end

/-! ## The invariants -/

end Sys2Proof.Machine

section
open Sys2Proof Sys2Proof.Machine
set_option Elab.async false

/-- Settles O5: by `exec_keeps`, each operation bumps a counter by a write that saturates. -/
theorem stepKeepsCountersBounded : Obligations.StepKeepsCountersBounded := fun _ _ h hstep => (step_keeps hstep).1 h

/-- Settles O6. -/
theorem stepKeepsTimebaseInRange : Obligations.StepKeepsTimebaseInRange := fun _ _ h hstep => (step_keeps hstep).2.1 h

/-- Settles O7. -/
theorem stepKeepsPeersSound : Obligations.StepKeepsPeersSound := fun _ _ h hstep => (step_keeps hstep).2.2.1 h

/-- Settles O8. -/
theorem stepKeepsTablesBounded : Obligations.StepKeepsTablesBounded := fun _ _ h hstep => (step_keeps hstep).2.2.2.1 h

/-- Settles O9: within a step the law may be broken only while an evaluation is due, and none is due when the step ends. -/
theorem stepKeepsModeLaw : Obligations.StepKeepsModeLaw := by
  intro s t ⟨hsettled, hshelter, hasleep⟩ hstep
  obtain ⟨-, -, -, -, hlaw, hset⟩ := step_keeps hstep
  obtain ⟨hdue, habandon⟩ := hset hsettled
  rcases hlaw (.inr ⟨hshelter, hasleep⟩) with hbad | hsafe
  · rw [hdue] at hbad
    cases hbad
  · exact ⟨⟨hdue, habandon⟩, hsafe.1, hsafe.2⟩

/-- Settles O4. -/
theorem invariantsHoldAtReset : Obligations.InvariantsHoldAtReset :=
  ⟨reset_countersBounded, reset_inRange, reset_peersSound, reset_tablesWithin,
    ⟨⟨rfl, rfl⟩, fun _ => .inl rfl, fun hs => by rcases hs with hs | hs | hs <;> cases hs⟩⟩

/-- Settles O1. -/
theorem stepRunsTheFrontCommand : Obligations.StepRunsTheFrontCommand := by
  constructor
  · intro c rest s h
    simp only [step, h]
  · intro s h
    simp only [step, h]

/-- Settles O2. -/
theorem powerOnSetsTheResetValues : Obligations.PowerOnSetsTheResetValues := by
  intro s
  refine ⟨_, rfl, ?_, ?_, ?_, ?_, ?_, ?_, ?_, ?_, ?heaters, ?_, ?counters, rfl, rfl⟩
  case heaters => intro x; cases x <;> and_intros <;> rfl
  case counters => intro c; simp [State.count, State.reset]
  all_goals and_intros <;> rfl

/-- Settles O3: by `exec_next_keeps` the clocks move only with the commands that `clockUse` names; the ticks move station time by
the carry of the fraction. -/
theorem timeMovesOnlyWithItsTicks : Obligations.TimeMovesOnlyWithItsTicks := by
  intro c s t h
  have hk := exec_next_keeps h
  refine ⟨hk.pending, ?_, ?_, ?_, ?_⟩
  · rintro ⟨hpower, hfast, hslow⟩
    exact hk.elapsed (clockUse_ne_ticked hpower hfast hslow)
  · rintro ⟨hpower, hsteer, hsteady, hfast, hslow⟩
    exact hk.time (clockUse_eq_still hpower hsteer hsteady hfast hslow)
  · rintro ⟨l, rfl⟩ hmax
    exact execNominalTick_time hmax h
  · rintro ⟨l, rfl⟩ hmax
    exact execSlowCycle_time hmax h

end

/-! PROOFS. The counters, and what the end of a step leaves of a settled state. -/
namespace Sys2Proof.Machine
set_option Elab.async false

/-! ## Counters -/

theorem Counter.idx_inj {c d : Counter} : c.idx.val = d.idx.val ↔ c = d := by
  constructor
  · intro h
    have hc := Counter.ofNat_ctorIdx c
    rwa [show c.ctorIdx = d.ctorIdx from h, Counter.ofNat_ctorIdx d, eq_comm] at hc
  · rintro rfl
    rfl

section
variable {c d : Counter} {s : State}

theorem count_setCounters_set {x : Nat} :
    (s.setCounters (s.counters.set c.idx.val x c.idx.isLt)).count d = if c = d then x else s.count d := by
  show (s.counters.set c.idx.val x c.idx.isLt)[d.idx.val] = _
  rw [Vector.getElem_set]
  simp only [Counter.idx_inj]
  rfl

@[simp] theorem count_bump : (bump c s).count d = if c = d then min (s.count d + 1) 65535 else s.count d := by
  unfold bump
  rw [count_setCounters_set]
  split
  · next h => rw [h, sat16]
  · rfl

@[simp] theorem count_bumpBy {n : Nat} : (bumpBy c n s).count d = if c = d then min (s.count d + n) 65535 else s.count d := by
  unfold bumpBy
  rw [count_setCounters_set]
  split
  · next h => rw [h, sat16]
  · rfl

@[simp] theorem count_bumpIf {b : Bool} :
    (bumpIf b c s).count d = if b = true ∧ c = d then min (s.count d + 1) 65535 else s.count d := by
  cases b
  · simp [bumpIf]
  · simp [bumpIf]

/-- A part of the state beside the counters leaves every count. -/
theorem count_of_counters_eq {t : State} (h : t.counters = s.counters) : t.count c = s.count c := by
  rw [State.count, State.count, h]

@[simp] theorem count_setPending {x : List Instr} : (s.setPending x).count c = s.count c := rfl
@[simp] theorem count_setPins {x : Pins} : (s.setPins x).count c = s.count c := rfl
@[simp] theorem count_setTb {x : Timebase} : (s.setTb x).count c = s.count c := rfl
@[simp] theorem count_setRmu {x : Rmu} : (s.setRmu x).count c = s.count c := rfl
@[simp] theorem count_setLc {x : Link} : (s.setLc x).count c = s.count c := rfl
@[simp] theorem count_setPeers {x : List PeerRecord} : (s.setPeers x).count c = s.count c := rfl
@[simp] theorem count_setTau {x : Agreement} : (s.setTau x).count c = s.count c := rfl
@[simp] theorem count_setSi {x : SampleIf} : (s.setSi x).count c = s.count c := rfl
@[simp] theorem count_setTd {x : Trigger} : (s.setTd x).count c = s.count c := rfl
@[simp] theorem count_setCu {x : Coincidence} : (s.setCu x).count c = s.count c := rfl
@[simp] theorem count_setUc {x : Uplink} : (s.setUc x).count c = s.count c := rfl
@[simp] theorem count_setBm {x : Battery} : (s.setBm x).count c = s.count c := rfl
@[simp] theorem count_setHc {x : Heaters} : (s.setHc x).count c = s.count c := rfl
@[simp] theorem count_setMc {x : ModeCtl} : (s.setMc x).count c = s.count c := rfl
@[simp] theorem count_setTwm {x : TwoWire} : (s.setTwm x).count c = s.count c := rfl
@[simp] theorem count_setCs {x : Service} : (s.setCs x).count c = s.count c := rfl
@[simp] theorem count_setSlots {x : Slots} : (s.setSlots x).count c = s.count c := rfl

end

/-! ## The follow-ups of a step -/

section
variable {c : Counter} {s : State}

theorem finish_eq_follow (h : s.Settled) : finish s = lcKick (twKick (syncOsc (modemKick s))) := by
  rw [finish, mcSettle_of_settled s h]

@[simp] theorem beginTx_counters {o : TxOwner} {kind : FrameKind} {x : Nat} {w m : Bool} {b : List Byte} :
    (beginTx o kind x w m b s).count c = s.count c := rfl

theorem updRec_count {rid : Nat} {f : EventRec → EventRec} : (updRec rid f s).count c = s.count c := rfl

theorem startBeacon_count {q : BeaconReq} (hmuster : c ≠ .musterBeacons) : (startBeacon q s).count c = s.count c := by
  unfold startBeacon beaconTimerRestart
  dsimp only
  split <;> simp [hmuster.symm]

theorem arbitrateRest_count (hmuster : c ≠ .musterBeacons) : (arbitrateRest s).count c = s.count c := by
  unfold arbitrateRest
  split
  case h_4 => exact startBeacon_count hmuster
  all_goals rfl

theorem startTransmission_count (hmuster : c ≠ .musterBeacons) : (startTransmission s).count c = s.count c := by
  unfold startTransmission
  split
  · rfl
  · exact arbitrateRest_count hmuster
  · exact arbitrateRest_count hmuster

theorem enterGuard_count (hmuster : c ≠ .musterBeacons) : (enterGuard s).count c = s.count c := by
  unfold enterGuard
  split
  · rfl
  · split
    · exact startTransmission_count hmuster
    · rfl

theorem lcKick_count (hmuster : c ≠ .musterBeacons) : (lcKick s).count c = s.count c := by
  unfold lcKick
  split
  · rfl
  · split
    · exact enterGuard_count hmuster
    · rfl

theorem twKick_count (hbus : c ≠ .busRecoveries) : (twKick s).count c = s.count c := by
  unfold twKick
  split
  · split
    · unfold twStart freeBusCheck
      dsimp only
      split <;> simp [hbus.symm]
    · rfl
  · rfl

theorem syncOsc_count : (syncOsc s).count c = s.count c := count_of_counters_eq (by simp)

theorem modemKick_count : (modemKick s).count c = s.count c := count_of_counters_eq (by simp)

/-- The end of a step counts only a muster that goes out and a recovery of the bus. -/
theorem finish_count (h : s.Settled) (hmuster : c ≠ .musterBeacons := by decide) (hbus : c ≠ .busRecoveries := by decide) :
    (finish s).count c = s.count c := by
  rw [finish_eq_follow h, lcKick_count hmuster, twKick_count hbus, syncOsc_count, modemKick_count]

/-! ## The trigger table and the slots -/

@[simp] theorem ucStart_entries : (ucStart s).cu.entries = s.cu.entries := by
  unfold ucStart
  split <;> rfl

@[simp] theorem enterReadyWait_entries : (enterReadyWait s).cu.entries = s.cu.entries := by
  unfold enterReadyWait
  dsimp only
  split <;> simp

theorem modemKick_entries : (modemKick s).cu.entries = s.cu.entries := by
  unfold modemKick enterIdle
  (repeat' split) <;> simp

@[simp] theorem startTransmission_entries : (startTransmission s).cu.entries = s.cu.entries := by
  unfold startTransmission
  split
  · rfl
  · simp
  · simp

theorem lcKick_entries : (lcKick s).cu.entries = s.cu.entries := by
  unfold lcKick enterGuard
  (repeat' split) <;> simp

/-- The end of a step leaves the trigger table. -/
theorem finish_entries (h : s.Settled) : (finish s).cu.entries = s.cu.entries := by
  rw [finish_eq_follow h, lcKick_entries]
  simp [modemKick_entries]

/-- The follow-ups of a step move no standing and no user. -/
theorem finish_users (h : s.Settled) : (finish s).mc.users = s.mc.users := (finish_same s h).users

theorem finish_standing (h : s.Settled) : (finish s).mc.standing = s.mc.standing := (finish_same s h).standing

/-! ## A busy medium -/

/-- On a busy medium the Link Controller only waits. -/
theorem lcKick_of_busy (h : s.pins.lkCd = true) :
    ∃ a b m, lcKick s = s.setLc { s.lc with access := a, busy := b, attempt := m } := by
  unfold lcKick enterGuard
  rw [h]
  split
  · exact ⟨_, _, _, rfl⟩
  · split
    · exact ⟨.guard, true, s.lc.attempt, rfl⟩
    · exact ⟨s.lc.access, s.lc.busy, s.lc.attempt, rfl⟩

/-- On a busy medium the end of a step leaves the link beside its waiting. -/
theorem finish_lc_of_busy (h : s.Settled) (hcd : s.pins.lkCd = true) :
    ∃ a b m, (finish s).lc = { s.lc with access := a, busy := b, attempt := m } := by
  obtain ⟨a, b, m, hkick⟩ := lcKick_of_busy (s := twKick (syncOsc (modemKick s))) (by simpa using hcd)
  refine ⟨a, b, m, ?_⟩
  rw [finish_eq_follow h, hkick]
  simp

end
end Sys2Proof.Machine

/-! PROOFS. Short commands: the quality, the stamp point, the receiver, range ages, stale requests, the beacon timer. -/
namespace Sys2Proof.Machine
set_option Elab.async false

/-! ## Outcomes of a command with one condition -/

theorem next_ite_pos {c : Prop} [Decidable c] {a b : State} (h : c) :
    (Host.Outcome.next (if c then a else b) : Host.Outcome State Fault Refusal) = .next a := by rw [if_pos h]

theorem next_ite_neg {c : Prop} [Decidable c] {a b : State} (h : ¬ c) :
    (Host.Outcome.next (if c then a else b) : Host.Outcome State Fault Refusal) = .next b := by rw [if_neg h]

/-! ## The Peer Table by id -/

section
variable {s : State} {id x : Nat} {f : PeerRecord → PeerRecord}

theorem peer_id {r : PeerRecord} (h : s.peer id = some r) : r.id = id := by
  simpa using List.find?_some h

theorem peer_mem {r : PeerRecord} (h : s.peer id = some r) : r ∈ s.peers := List.mem_of_find?_eq_some h

/-- A change of one record, its id kept. -/
theorem peer_updPeer (hf : ∀ r, (f r).id = r.id := by exact fun _ => rfl) :
    (updPeer id f s).peer x = if x = id then (s.peer id).map f else s.peer x := by
  have hkeep : (fun r : PeerRecord => r.id == x) ∘ (fun r => if r.id == id then f r else r) = fun r => r.id == x := by
    funext r
    dsimp only [Function.comp]
    split
    · rw [hf]
    · rfl
  have hmap : (updPeer id f s).peer x = (s.peer x).map fun r => if r.id == id then f r else r := by
    rw [State.peer, updPeer, setPeers_peers, List.find?_map, hkeep, State.peer]
  rw [hmap]
  split
  · next hx =>
    subst hx
    exact Option.map_congr fun r hr => by rw [peer_id hr, beq_self_eq_true, if_pos rfl]
  · next hx =>
    cases hr : s.peer x with
    | none => rfl
    | some r => simp [peer_id hr, hx]

theorem updPeer_eq : updPeer id f s = s.setPeers (updPeer id f s).peers := rfl

end

/-! ## Rest after a change of the link -/

section
variable {s t : State}

/-- What the modem, the oscillator and the bus do at the end of a step does not depend on the link. -/
theorem State.Rested.finish_eq (h : s.Rested) (htb : t.tb = s.tb := by simp) (huc : t.uc = s.uc := by simp)
    (hmc : t.mc = s.mc := by simp) (htwm : t.twm = s.twm := by simp) (hcs : t.cs.image = s.cs.image := by simp) :
    finish t = lcKick t := by
  have hset : t.Settled := by rw [State.Settled, hmc]; exact h.settled
  have hmodem : t.ModemRests := by
    have := h.modem
    unfold State.ModemRests State.awake at this ⊢
    rw [hmc, huc, hcs]
    exact this
  have hosc : t.OscRests := by rw [State.OscRests, htb, hmc]; exact h.osc
  have hbus : t.BusRests := by rw [State.BusRests, htwm, hmc]; exact h.bus
  rw [finish_eq_follow hset, modemKick_of_rests t hmodem, syncOsc_of_rests t hosc, twKick_of_rests t hbus]

/-- Where the Link Controller waits or may not send, its slots stay as they are. -/
theorem lcKick_lc (h : t.lc.access ≠ .idle ∨ t.canTransmit = false ∨ t.lc.slots.allEmpty = true) :
    ∃ a b m, lcKick t = t.setLc { t.lc with access := a, busy := b, attempt := m } := by
  unfold lcKick
  split
  · exact ⟨_, _, _, rfl⟩
  · next hne =>
    split
    · next hidle =>
      rw [Bool.and_eq_true] at hidle
      rcases h with h | h | h
      · exact absurd (eq_of_beq hidle.1) h
      · rw [h] at hidle
        cases hidle.2
      · exact absurd h hne
    · exact ⟨_, _, _, rfl⟩

/-- A request leaves its slot at a station at rest: nothing is sent. -/
theorem State.Rested.lcKick_lc (h : s.Rested) (haccess : t.lc.access = s.lc.access := by simp)
    (hcan : t.canTransmit = s.canTransmit) (hslots : s.lc.slots.allEmpty = false) :
    ∃ a b m, lcKick t = t.setLc { t.lc with access := a, busy := b, attempt := m } := by
  refine Machine.lcKick_lc ?_
  have hlink := h.link
  rw [State.LinkRests, hslots, if_neg (by simp)] at hlink
  rw [haccess, hcan]
  exact hlink.imp_right .inl

end

/-! ## The beacon timer -/

section
variable {s : State}

/-- The period of the beacon timer, awake and in DORMANT (R35). -/
def State.beaconTicks (s : State) : Nat := if s.dormant then secs (16 * 2 ^ s.cs.image.b) else secs (2 ^ s.cs.image.b)

/-- The period of the beacon timer in the modes in which it runs (R35). -/
theorem beaconPeriod_eq (h : s.awake = true ∨ s.dormant = true) :
    s.beaconPeriod = some s.beaconTicks := by
  unfold State.beaconTicks State.beaconPeriod State.awake State.dormant at *
  cases hs : s.mc.standing <;> simp_all [Standing.mode, Standing.inDormant, Standing.awake]

theorem beaconTimerRestart_lc (hlisten : s.listenOnly = false) (h : s.awake = true ∨ s.dormant = true) :
    (beaconTimerRestart s).lc = { s.lc with beaconTimer := some { start := s.now, period := s.beaconTicks } } := by
  unfold beaconTimerRestart
  rw [hlisten, beaconPeriod_eq h]
  rfl

theorem fillBeacon_lc (m : BeaconMark) :
    (fillBeacon m s).lc = { s.lc with slots := { s.lc.slots with beacon := some { moment := s.now, mark := m } } } := by
  unfold fillBeacon
  dsimp only
  split <;> rfl

/-- In DORMANT the beacon joins the users of a brief run (R189). -/
theorem fillBeacon_mc (m : BeaconMark) : (fillBeacon m s).mc =
    if s.dormant then { s.mc with users := { s.mc.users with beacon := some s.now } } else s.mc := by
  unfold fillBeacon
  dsimp only
  change (if s.dormant = true then _ else _ : State).mc = _
  split <;> rfl

theorem requestBeacon_of_takes (hlisten : s.listenOnly = false) (h : s.awake = true ∨ s.dormant = true) :
    requestBeacon s = fillBeacon .ordinary s := by
  unfold requestBeacon State.lcTakesBeacon
  rw [if_pos (by simpa [hlisten] using h)]

/-- An expiry of the beacon timer, the end of the step aside: a marked beacon that waits stays (R35). -/
def beaconTimed (s : State) : State :=
  if s.lc.slots.beacon.any (fun q => q.mark != .ordinary) then s else requestBeacon s

end

/-! ## The stamp point -/

@[simp] theorem be_length (n x : Nat) : (be n x).length = n := by
  induction n with
  | zero => rfl
  | succ n ih => rw [be, List.length_cons, ih]

@[simp] theorem timeBytes_length (t : StationTime) : (timeBytes t).length = 7 := by simp [timeBytes]

/-- A stamp written over seven bytes of a body. -/
theorem patch_timeBytes (bs : List Byte) (i : Nat) (t : StationTime) :
    patch bs i (timeBytes t) = bs.take i ++ timeBytes t ++ bs.drop (i + 7) := by rw [patch, timeBytes_length]

end Sys2Proof.Machine

section
open Sys2Proof Sys2Proof.Machine
set_option Elab.async false

/-- Settles O21. -/
theorem elapsedSecondGrowsTheQuality : Obligations.ElapsedSecondGrowsTheQuality := by
  intro s h
  refine (next_ite_pos h).trans ?_
  congr 6
  unfold State.qualityGrowth State.awake
  cases s.mc.standing <;> simp [Standing.mode, Standing.awake]

/-- Settles O28: the owner of the frame says which bytes the stamp fills. -/
theorem stampPointFillsTheStamp : Obligations.StampPointFillsTheStamp := by
  intro s f htx hstamp
  have hexec : exec .stampPoint s = .next (stampFrame f s) := by
    show execStampPoint s = _
    simp [execStampPoint, htx, hstamp]
  refine ⟨_, hexec, ?_, ?_, ?_, ?_⟩ <;> unfold stampFrame
  · intro mark ho
    simp [ho, TxFrame.filled, patch_timeBytes, State.now]
  · intro ho
    simp [ho, TxFrame.filled, patch_timeBytes, State.now]
  · intro target ho
    simp [ho, TxFrame.filled, patch_timeBytes, State.now, tauProbeStamped]
  · rintro (⟨rid, m, ho⟩ | ⟨x, m, ho⟩ | ⟨c, l, ho⟩) <;> simp [ho, TxFrame.filled, State.now]

/-- Settles O33. -/
theorem receiverReadsOneFrame : Obligations.ReceiverReadsOneFrame := by
  refine ⟨fun s hrx htx => ?_, fun s stamp a b l q hrx htx => ⟨fun hl => ?_, fun hl => ?_⟩, fun s hrest hread htx hcd hcap => ?_⟩
  · show execSyncWordTaken s = _
    simp only [execSyncWordTaken, hrx, htx]
    rfl
  · show execHeaderTaken a b l q s = _
    simp [execHeaderTaken, hrx, htx, hl]
  · show execHeaderTaken a b l q s = _
    simp [execHeaderTaken, hrx, htx, Nat.not_lt.mpr hl]
  · refine (next_ite_pos (by simp [hread, htx, hcd])).trans ?_
    have hend : endCapture false (bump .discardCrc (s.setLc { s.lc with rx := .hunting })) =
        bump .discardCrc (s.setLc { s.lc with rx := .hunting }) := by simp [endCapture, hcap]
    rw [hend, hrest.finish_eq]
    exact congrArg _ (lcKick_of_rests (bump .discardCrc (s.setLc { s.lc with rx := .hunting })) hrest.link)

/-- Settles O42. -/
theorem rangeAgesMoveTheRecord : Obligations.RangeAgesMoveTheRecord := by
  intro s id r m hr hm
  refine ⟨fun hranging hage => ?_, fun hranging hage => ?_, fun h => next_ite_neg ?_, fun h => next_ite_neg ?_⟩
  · refine ⟨_, next_ite_pos (by simp [hr, hranging, State.rangeAge, hm, hage]), ?_, fun x hx => ?_, rfl⟩
    · rw [peer_updPeer, if_pos rfl, hr, Option.map_some]
    · rw [peer_updPeer, if_neg hx]
  · refine ⟨_, next_ite_pos (by simp [hr, hranging, State.rangeAge, hm, hage]), ?_, fun x hx => ?_, rfl⟩
    · rw [peer_updPeer, if_pos rfl, hr, Option.map_some]
    · rw [peer_updPeer, if_neg hx]
  · simpa [hr, State.rangeAge, hm, imp_iff_not_or] using h
  · simpa [hr, State.rangeAge, hm, imp_iff_not_or] using h

/-- Settles O32: on a busy medium the Link Controller only waits, so the slot keeps what the timer puts there. -/
theorem beaconTimerFillsTheSlot : Obligations.BeaconTimerFillsTheSlot := by
  intro s hset hdue hlisten hbusy hmode
  have hleaves : (beaconTimed s).tb = s.tb ∧ (beaconTimed s).peers = s.peers ∧ (beaconTimed s).td = s.td ∧
      (beaconTimed s).cu = s.cu ∧ (beaconTimed s).bm = s.bm ∧ (beaconTimed s).hc = s.hc ∧ (beaconTimed s).cs = s.cs ∧
      (beaconTimed s).pins = s.pins := by
    unfold beaconTimed
    split <;> simp
  obtain ⟨htb, hpeers, htd, hcu, hbm, hhc, hcs, hpins⟩ := hleaves
  have hmc : (beaconTimed s).mc.standing = s.mc.standing ∧ (beaconTimed s).Settled := by
    unfold beaconTimed
    split
    · exact ⟨rfl, hset⟩
    · rw [requestBeacon_of_takes hlisten hmode, State.Settled, fillBeacon_mc]
      split <;> exact ⟨rfl, hset⟩
  obtain ⟨hst, hset'⟩ := hmc
  have hlisten' : (beaconTimed s).listenOnly = false := by rw [State.listenOnly, State.ownId, hcs]; exact hlisten
  have hdormant : (beaconTimed s).dormant = s.dormant := by rw [State.dormant, hst]; rfl
  have hmode' : (beaconTimed s).awake = true ∨ (beaconTimed s).dormant = true := by
    rw [hdormant, State.awake, hst]
    exact hmode
  have hrest : (beaconTimerRestart (beaconTimed s)).Settled := hset'
  obtain ⟨a, b, m, hlc⟩ := finish_lc_of_busy hrest (by simpa [hpins] using hbusy)
  rw [beaconTimerRestart_lc hlisten' hmode', State.beaconTicks, hdormant, hcs, State.now, htb] at hlc
  have hsteps := finish_leaves_settled _ hrest
  simp only [beaconTimerRestart_leaves, htb, hpeers, htd, hbm, hhc, hcs] at hsteps
  obtain ⟨-, -, htb', -, hpeers', -, -, htd', hbm', hhc', hcs', -⟩ := hsteps
  have hexec : exec .beaconTimerExpiry s = .next (finish (beaconTimerRestart (beaconTimed s))) := next_ite_pos hdue
  refine ⟨_, hexec, congrArg Link.beaconTimer hlc, fun hordinary => ?_, fun q hq hmark => ?_, htb', hpeers', htd', ?_,
    hbm', hhc', hcs'⟩
  · have hfill : beaconTimed s = fillBeacon .ordinary s := by
      unfold beaconTimed
      rw [if_neg, requestBeacon_of_takes hlisten hmode]
      cases hq : s.lc.slots.beacon with
      | none => simp
      | some q => simp [hordinary q hq]
    refine ⟨?_, fun hd => ?_⟩
    · exact (congrArg Link.slots hlc).trans (by rw [hfill, fillBeacon_lc])
    · refine (congrArg BriefUsers.beacon (finish_users hrest)).trans ?_
      change (beaconTimed s).mc.users.beacon = some s.now
      rw [hfill, fillBeacon_mc, if_pos hd]
  · have hstays : beaconTimed s = s := by
      unfold beaconTimed
      rw [if_pos (by simpa [hq] using hmark)]
    exact (congrArg Link.slots hlc).trans (by rw [hstays])
  · exact (finish_entries hrest).trans (by simp [hcu])

end

/-! PROOFS. Requests that grow stale, peers that expire, the source and its calibration. -/
namespace Sys2Proof.Machine
set_option Elab.async false

section
variable {s t : State}

theorem canTransmit_congr (htx : t.lc.tx.isNone = s.lc.tx.isNone) (hmc : t.mc = s.mc) (hid : t.cs.stationId = s.cs.stationId) :
    t.canTransmit = s.canTransmit := by
  unfold State.canTransmit State.oscReady State.listenOnly State.ownId State.awake
  rw [htx, hmc, hid]

/-- At a station at rest a change of the requests that wait leaves the link beside its waiting. -/
theorem State.Rested.finish_waits (h : s.Rested) (hslots : s.lc.slots.allEmpty = false) (htb : t.tb = s.tb := by simp)
    (huc : t.uc = s.uc := by simp) (hmc : t.mc = s.mc := by simp) (htwm : t.twm = s.twm := by simp)
    (hcs : t.cs.image = s.cs.image := by simp) (hid : t.cs.stationId = s.cs.stationId := by simp)
    (haccess : t.lc.access = s.lc.access := by simp) (htx : t.lc.tx.isNone = s.lc.tx.isNone := by simp) :
    ∃ a b m, finish t = t.setLc { t.lc with access := a, busy := b, attempt := m } := by
  rw [h.finish_eq htb huc hmc htwm hcs]
  exact h.lcKick_lc haccess (canTransmit_congr htx hmc hid) hslots

@[simp] theorem setSlots_slots {x : Slots} : (s.setSlots x).lc.slots = x := rfl
@[simp] theorem setSlots_lc {x : Slots} : (s.setSlots x).lc = { s.lc with slots := x } := rfl

@[simp] theorem count_updPeer {c : Counter} {id : Nat} {f : PeerRecord → PeerRecord} : (updPeer id f s).count c = s.count c := rfl

/-! ## An open exchange -/

/-- An open exchange ends unanswered (R64). -/
def probeEnds (p : ProbeSlot) (s : State) : State :=
  endExchange (bump .unansweredProbes (updPeer p.target (unansweredPeer s.now p.prior) s))

theorem tauUnanswered_of_open {p : ProbeSlot} (h : s.tau.probe = some p) : tauUnanswered s = probeEnds p s := by
  simp only [tauUnanswered, h]
  rfl

@[simp] theorem endExchange_lc : (endExchange s).lc =
    (forgetProbeInFlight (s.setSlots { s.lc.slots with probe := none })).lc := rfl

@[simp] theorem endExchange_tau : (endExchange s).tau = { s.tau with probe := none, rest := s.startTimer (secs 1) } := rfl

@[simp] theorem endExchange_count {c : Counter} : (endExchange s).count c = s.count c := rfl

@[simp] theorem forgetProbeInFlight_slots : (forgetProbeInFlight s).lc.slots = s.lc.slots := rfl
@[simp] theorem forgetProbeInFlight_access : (forgetProbeInFlight s).lc.access = s.lc.access := rfl

@[simp] theorem forgetProbeInFlight_tx : (forgetProbeInFlight s).lc.tx.isNone = s.lc.tx.isNone := by
  simp [forgetProbeInFlight]

end
end Sys2Proof.Machine

section
open Sys2Proof Sys2Proof.Machine
set_option Elab.async false

/-- Settles O31: a request leaves its slot, and at a station at rest nothing else of the link moves. -/
theorem staleRequestsAreDropped : Obligations.StaleRequestsAreDropped := by
  refine ⟨fun s q hrest hq => ⟨fun hold => ?_, fun hyoung => ?_⟩, fun s q hrest hq => ⟨fun hold => ?_, fun hyoung => ?_⟩,
    fun s q hrest hq => ⟨fun p hp hawake hold => ?_, fun hyoung => ?_⟩,
    fun s q hrest hq => ⟨fun x hx hcode hold => ?_, fun hyoung => ?_⟩⟩
  · have hexec : exec (.requestStaleDrop .triggerNotice) s = .next (finish (dropNotice q s)) := by
      show Host.Outcome.next (finish (staleDrop .triggerNotice s)) = _
      simp [staleDrop, hq, hold]
    obtain ⟨a, b, m, ht⟩ := hrest.finish_waits (t := dropNotice q s) (by simp [Slots.allEmpty, hq])
      (haccess := by unfold dropNotice; dsimp only; split <;> rfl) (htx := by unfold dropNotice; dsimp only; split <;> rfl)
    rw [ht] at hexec
    refine ⟨_, hexec, ?_, ?_, ?_⟩ <;> unfold dropNotice <;> by_cases hk : q.notice.kind = .onset <;> simp [hk]
  · show Host.Outcome.next (finish (staleDrop .triggerNotice s)) = _
    simp [staleDrop, hq, Nat.not_le.mpr hyoung, finish_of_rested s hrest]
  · have hexec : exec (.requestStaleDrop .rangeReply) s =
        .next (finish (bump .staleDrops (s.setSlots { s.lc.slots with reply := none }))) := by
      show Host.Outcome.next (finish (staleDrop .rangeReply s)) = _
      simp [staleDrop, hq, hold]
    obtain ⟨a, b, m, ht⟩ := hrest.finish_waits (t := bump .staleDrops (s.setSlots { s.lc.slots with reply := none }))
      (by simp [Slots.allEmpty, hq])
    rw [ht] at hexec
    refine ⟨_, hexec, ?_, ?_, ?_, ?_⟩ <;> simp
  · show Host.Outcome.next (finish (staleDrop .rangeReply s)) = _
    simp [staleDrop, hq, Nat.not_le.mpr hyoung, finish_of_rested s hrest]
  · have hexec : exec (.requestStaleDrop .rangeProbe) s =
        .next (finish (probeEnds p (bump .staleDrops (s.setSlots { s.lc.slots with probe := none })))) := by
      show Host.Outcome.next (finish (staleDrop .rangeProbe s)) = _
      have hnot : tauNotSent (bump .staleDrops (s.setSlots { s.lc.slots with probe := none })) =
          probeEnds p (bump .staleDrops (s.setSlots { s.lc.slots with probe := none })) := by
        unfold tauNotSent
        rw [if_pos (by simpa [State.awake] using hawake), tauUnanswered_of_open (by simpa using hp)]
      simp only [staleDrop, hq, hold, if_true, hnot]
    obtain ⟨a, b, m, ht⟩ := hrest.finish_waits
      (t := probeEnds p (bump .staleDrops (s.setSlots { s.lc.slots with probe := none }))) (by simp [Slots.allEmpty, hq])
      (by simp [probeEnds]) (by simp [probeEnds]) (by simp [probeEnds]) (by simp [probeEnds]) (by simp [probeEnds])
      (by simp [probeEnds]) (by simp [probeEnds]) (by simp [probeEnds])
    rw [ht] at hexec
    refine ⟨_, hexec, ?_, ?_, ?_, ?_, ?_⟩ <;> simp [probeEnds, State.startTimer, State.now]
  · show Host.Outcome.next (finish (staleDrop .rangeProbe s)) = _
    simp [staleDrop, hq, Nat.not_le.mpr hyoung, finish_of_rested s hrest]
  · have hexec : exec (.requestStaleDrop .serviceReport) s =
        .next (finish ((bump .reportsDropped (bump .staleDrops (s.setSlots { s.lc.slots with report := none }))).setCs
          { s.cs with pending := none })) := by
      show Host.Outcome.next (finish (staleDrop .serviceReport s)) = _
      simp [staleDrop, hq, hold, csDropped, csEnd, hx, hcode]
    obtain ⟨a, b, m, ht⟩ := hrest.finish_waits
      (t := (bump .reportsDropped (bump .staleDrops (s.setSlots { s.lc.slots with report := none }))).setCs
        { s.cs with pending := none }) (by simp [Slots.allEmpty, hq])
    rw [ht] at hexec
    refine ⟨_, hexec, ?_, ?_, ?_, ?_⟩ <;> simp
  · show Host.Outcome.next (finish (staleDrop .serviceReport s)) = _
    simp [staleDrop, hq, Nat.not_le.mpr hyoung, finish_of_rested s hrest]

end

/-! PROOFS. Peers that expire, and the source with its calibration. -/
namespace Sys2Proof.Machine
set_option Elab.async false

section
variable {s t : State} {c : Counter}

/-! ## No event record -/

theorem setCu_same {x : Coincidence} (h : x = s.cu) : s.setCu x = s := by subst h; rfl

theorem ucSync_of_no_record (h : s.cu.events = []) : ucSync s = s := by
  unfold ucSync
  apply setCu_same
  rw [h, List.map_nil, ← h]

theorem renewEnd_of_no_record {p : EventRec → Bool} (h : s.cu.events = []) : renewEnd p s = s := by
  unfold renewEnd
  apply setCu_same
  rw [h, List.map_nil, ← h]

theorem closeTest_of_no_record {p : EventRec → Bool} (h : s.cu.events = []) : closeTest p s = s := by
  unfold closeTest closeWhere
  rw [h]
  rfl

theorem cuPeerRemoved_of_no_record {id : Nat} (h : s.cu.events = []) : cuPeerRemoved id s = s := by
  unfold cuPeerRemoved
  rw [renewEnd_of_no_record h, closeTest_of_no_record h]

theorem owing_of_no_record (h : s.cu.events = []) : s.owing = none := by
  unfold State.owing
  rw [h]
  rfl

theorem ucStart_cu (h : s.cu.events = []) : (ucStart s).cu = s.cu := by
  unfold ucStart
  split
  · rfl
  · rw [ucSync_of_no_record (by exact h)]
    rfl

theorem modemKick_cu (h : s.cu.events = []) : (modemKick s).cu = s.cu := by
  have henter : (enterReadyWait s).cu = s.cu := by
    unfold enterReadyWait
    dsimp only
    split
    · exact ucStart_cu h
    · rfl
  unfold modemKick enterIdle
  (repeat' split) <;> simp [henter]

theorem startTransmission_cu (h : s.cu.events = []) : (startTransmission s).cu = s.cu := by
  unfold startTransmission
  rw [owing_of_no_record h]
  split <;> simp_all

theorem lcKick_cu (h : s.cu.events = []) : (lcKick s).cu = s.cu := by
  unfold lcKick enterGuard
  (repeat' split) <;> simp [startTransmission_cu h]

/-- Without an event record the end of a step leaves the tables of events. -/
theorem finish_cu_of_no_record (hset : s.Settled) (h : s.cu.events = []) : (finish s).cu = s.cu := by
  have hkick : (twKick (syncOsc (modemKick s))).cu = s.cu := by simp [modemKick_cu h]
  rw [finish_eq_follow hset, lcKick_cu (by rw [hkick]; exact h), hkick]

/-! ## An exchange that is voided -/

/-- An open exchange is voided (R65). -/
theorem tauVoid_of_open {p : ProbeSlot} (h : s.tau.probe = some p) :
    tauVoid s = endExchange (bump .voidedExchanges (updPeer p.target (fun r => { r with ranging := p.prior }) s)) := by
  simp only [tauVoid, h]

/-- A change of a record that the table no longer holds changes nothing. -/
theorem updPeer_peers_of_absent {id : Nat} {f : PeerRecord → PeerRecord} (h : ∀ r ∈ s.peers, r.id ≠ id) :
    (updPeer id f s).peers = s.peers := by
  have hsame : ∀ r ∈ s.peers, (if r.id == id then f r else r) = r := fun r hr => by simp [h r hr]
  simpa [updPeer] using List.map_congr_left hsame

theorem tauPeerRemoved_of_target {p : ProbeSlot} (h : s.tau.probe = some p) : tauPeerRemoved p.target s =
    endExchange (bump .voidedExchanges (updPeer p.target (fun r => { r with ranging := p.prior }) s)) := by
  unfold tauPeerRemoved
  rw [h, if_pos (by simp), tauVoid_of_open h]

theorem tauPeerRemoved_of_other {id : Nat} (h : ∀ p, s.tau.probe = some p → p.target ≠ id) : tauPeerRemoved id s = s := by
  unfold tauPeerRemoved
  cases hp : s.tau.probe with
  | none => simp
  | some p => simp [h p hp]

theorem tauPeerRemoved_count {id : Nat} (h : c ≠ .voidedExchanges) : (tauPeerRemoved id s).count c = s.count c := by
  by_cases hother : ∀ p, s.tau.probe = some p → p.target ≠ id
  · rw [tauPeerRemoved_of_other hother]
  · push Not at hother
    obtain ⟨p, hp, rfl⟩ := hother
    rw [tauPeerRemoved_of_target hp, endExchange_count, count_bump, if_neg (Ne.symm h), count_updPeer]

/-- A record leaves the table, its open exchange voided (R51, R65). -/
theorem tauPeerRemoved_dropPeer_peers {id : Nat} :
    (tauPeerRemoved id (dropPeer id s)).peers = s.peers.filter (fun r => r.id != id) := by
  have hdrop : (dropPeer id s).peers = s.peers.filter (fun r => r.id != id) := rfl
  by_cases hother : ∀ p, (dropPeer id s).tau.probe = some p → p.target ≠ id
  · rw [tauPeerRemoved_of_other hother, hdrop]
  · push Not at hother
    obtain ⟨p, hp, rfl⟩ := hother
    rw [tauPeerRemoved_of_target hp]
    exact (updPeer_peers_of_absent fun r hr => by simpa using (List.mem_filter.mp hr).2).trans hdrop

end
end Sys2Proof.Machine

section
open Sys2Proof Sys2Proof.Machine
set_option Elab.async false

/-- Settles O41: without an event record only the table and an open exchange move. -/
theorem expiredPeerIsRemoved : Obligations.ExpiredPeerIsRemoved := by
  intro s id r hset hno hr hdorm hage
  have hexp : (s.peer id).any s.expired = true := by
    rw [hr]
    exact Bool.and_eq_true _ _ |>.mpr ⟨by simp [State.dormant, hdorm], decide_eq_true hage⟩
  let u := tauPeerRemoved id (dropPeer id (bump .peerExpiries s))
  have hu : expirePeer id s = u := cuPeerRemoved_of_no_record (by simpa [dropPeer] using hno)
  have huset : u.Settled := by simpa [State.Settled, u, dropPeer] using hset
  have hcu : (finish u).cu = s.cu :=
    (finish_cu_of_no_record huset (by simpa [u, dropPeer] using hno)).trans (by simp [u, dropPeer])
  obtain ⟨-, -, htb, hrmu, hpeers, htau, -, htd, hbm, hhc, hcs, -⟩ := finish_leaves_settled u huset
  refine ⟨finish u, ?_, ?_, ?_, fun p hp htarget => ?_, fun hother => ?_, ?_, ?_, ?_, hcu, ?_, ?_, ?_⟩
  · show Host.Outcome.next (if (s.peer id).any s.expired then finish (expirePeer id s) else s) = _
    rw [if_pos hexp, hu]
  · rw [hpeers]
    exact tauPeerRemoved_dropPeer_peers.trans (List.filter_congr fun x _ => by by_cases hx : x.id = id <;> simp [hx])
  · rw [finish_count huset, tauPeerRemoved_count (by decide)]
    simp [dropPeer]
  · subst htarget
    have hu' := tauPeerRemoved_of_target (s := dropPeer p.target (bump .peerExpiries s)) (p := p) (by simpa [dropPeer] using hp)
    rw [finish_count huset, finish_count huset, htau]
    simp [u, hu', dropPeer, State.startTimer, State.now]
  · rw [htau]
    simp [u, tauPeerRemoved_of_other (s := dropPeer id (bump .peerExpiries s)) (by simpa [dropPeer] using hother), dropPeer]
  · rw [htb]; simp [u, dropPeer]
  · rw [hrmu]; simp [u, dropPeer]
  · rw [htd]; simp [u, dropPeer]
  · rw [hbm]; simp [u, dropPeer]
  · rw [hhc]; simp [u, dropPeer]
  · rw [hcs]; simp [u, dropPeer]

end

/-! PROOFS. The source of the Timebase and its calibration. -/
namespace Sys2Proof.Machine
set_option Elab.async false

section
variable {s t : State}

/-! ## The oscillator at the end of a step -/

theorem startBeacon_osc {q : BeaconReq} :
    (startBeacon q s).mc.osc = s.mc.osc ∧ (startBeacon q s).mc.handed = s.mc.handed := by
  unfold startBeacon
  dsimp only
  split <;> simp

theorem arbitrateRest_osc : (arbitrateRest s).mc.osc = s.mc.osc ∧ (arbitrateRest s).mc.handed = s.mc.handed := by
  unfold arbitrateRest
  split
  case h_4 => exact startBeacon_osc
  all_goals simp

theorem startTransmission_osc :
    (startTransmission s).mc.osc = s.mc.osc ∧ (startTransmission s).mc.handed = s.mc.handed := by
  unfold startTransmission
  split
  · simp
  · exact arbitrateRest_osc.imp (·.trans (by simp)) (·.trans (by simp))
  · exact arbitrateRest_osc

theorem lcKick_osc : (lcKick s).mc.osc = s.mc.osc ∧ (lcKick s).mc.handed = s.mc.handed := by
  unfold lcKick enterGuard
  split
  · simp
  · split
    · split
      · simp
      · split
        · exact startTransmission_osc
        · simp
    · simp

/-- The oscillator after a step is that of `syncOsc` (R3, R188, R189). -/
theorem finish_osc (h : s.Settled) :
    (finish s).mc.osc = (syncOsc s).mc.osc ∧ (finish s).mc.handed = (syncOsc s).mc.handed := by
  have hsync : (syncOsc (modemKick s)).mc = (syncOsc s).mc := by
    unfold syncOsc
    simp only [modemKick_leaves]
    (repeat' split) <;> simp
  have hkick := lcKick_osc (s := twKick (syncOsc (modemKick s)))
  rw [← finish_eq_follow h] at hkick
  simpa [hsync] using hkick

theorem syncOsc_osc_of_slow (hslow : s.tb.source = .slow) (husers : s.mc.users.isEmpty = true) :
    (syncOsc s).mc.osc = none ∧ (syncOsc s).mc.handed = false := by
  simp [syncOsc, hslow, husers]

theorem syncOsc_osc_isSome (h : s.tb.source ≠ .slow) : (syncOsc s).mc.osc.isSome = true := by
  unfold syncOsc
  rw [if_pos (by simp [h])]
  cases ho : s.mc.osc <;> simp [ho]

theorem syncOsc_osc_of_running (h : s.tb.source ≠ .slow) (ho : s.mc.osc.isSome = true) : (syncOsc s).mc.osc = s.mc.osc := by
  unfold syncOsc
  rw [if_pos (by simp [h])]
  cases hosc : s.mc.osc <;> simp_all

/-! ## The source becomes slow -/

/-- The source is SLOW: an open window is discarded and counted, the calibration period stops (R3, R7). -/
def sourceSlow (s : State) : State :=
  (bumpIf s.tb.calWindow.isSome .calibrationDiscards s).setTb { s.tb with
    source := .slow, slowAsked := false, warmUp := 0, calTimer := none, calOpening := false, calWindow := none }

theorem calRuns_of_slow (h : s.tb.source = .slow) : s.calRuns = false := by simp [State.calRuns, h]

theorem calRestart_of_stopped (h : s.calRuns = false) :
    calRestart s = s.setTb { s.tb with calTimer := none, calOpening := false } := by
  simp [calRestart, h]

theorem sourceSlow_eq :
    calRestart (calDiscard (s.setTb { s.tb with source := .slow, slowAsked := false, warmUp := 0 })) = sourceSlow s := by
  have hrest {u : State} (h : u.tb.source = .slow) := calRestart_of_stopped (s := u) (calRuns_of_slow h)
  unfold calDiscard sourceSlow bumpIf
  cases hw : s.tb.calWindow with
  | none => rw [if_neg (by simp [hw]), hrest rfl]; simp [State.setTb, hw]
  | some w =>
    rw [if_pos (by simp [hw]), hrest (u := calRestart _) rfl, hrest rfl]
    rfl

@[simp] theorem sourceSlow_leaves :
    (sourceSlow s).mc = s.mc ∧ (sourceSlow s).rmu = s.rmu ∧ (sourceSlow s).peers = s.peers ∧ (sourceSlow s).tau = s.tau ∧
    (sourceSlow s).si = s.si ∧ (sourceSlow s).td = s.td ∧ (sourceSlow s).cu = s.cu ∧ (sourceSlow s).bm = s.bm ∧
    (sourceSlow s).hc = s.hc ∧ (sourceSlow s).cs = s.cs := by simp [sourceSlow]

end
end Sys2Proof.Machine

section
open Sys2Proof Sys2Proof.Machine
set_option Elab.async false

/-- Settles O23. -/
theorem calibrationFiltersTheWindow : Obligations.CalibrationFiltersTheWindow := by
  have hexec (s : State) (h : s.tb.slowAsked = true) : exec .sourceBecomesSlow s = .next (finish (fastWanted (sourceSlow s))) := by
    show Host.Outcome.next (if s.tb.slowAsked then _ else s) = _
    rw [h, if_pos rfl, sourceSlow_eq]
  have hsettled (s : State) (h : s.Settled) : (sourceSlow s).Settled := by simpa [State.Settled, sourceSlow] using h
  refine ⟨fun s hset hask hsleep => ?_, fun s hset hask hwants => ?_, fun s hdue => ?_, fun s w hw hcycles => ?_⟩
  · have hwants : fastWanted (sourceSlow s) = sourceSlow s := by
      rcases hsleep with h | h <;> simp [fastWanted, ModeCtl.wantsFast, sourceSlow, h]
    obtain ⟨-, -, htb, hrmu, hpeers, htau, hsi, htd, hbm, hhc, hcs, -⟩ := finish_leaves_settled _ (hsettled s hset)
    refine ⟨finish (sourceSlow s), by rw [hexec s hask, hwants], ?_, fun husers => ?_, fun hopen => ?_, ?_, ?_⟩
    · rw [htb]; rfl
    · rw [(finish_osc (hsettled s hset)).1, (finish_osc (hsettled s hset)).2]
      exact syncOsc_osc_of_slow rfl (by simpa [sourceSlow] using husers)
    · rw [finish_count (hsettled s hset)]
      simp [sourceSlow, hopen]
    · simp [finish_standing (hsettled s hset)]
    · simp [hrmu, hpeers, htau, hsi, htd, hbm, hhc, hcs, finish_entries (hsettled s hset)]
  · have hfast : fastWanted (sourceSlow s) = (sourceSlow s).setTb { (sourceSlow s).tb with source := .warming, warmUp := 0 } := by
      have hw : (sourceSlow s).mc.wantsFast = true := by
        rcases hwants with h | h | h | h | h | h <;> simp [ModeCtl.wantsFast, sourceSlow, h]
      rw [fastWanted, hw, if_pos rfl, runFast]
      rfl
    let u := (sourceSlow s).setTb { (sourceSlow s).tb with source := .warming, warmUp := 0 }
    have hu : u.Settled := hsettled s hset
    have hsource : u.tb.source ≠ .slow := by simp [u]
    obtain ⟨-, -, htb, hrmu, hpeers, -, -, -, hbm, hhc, hcs, -⟩ := finish_leaves_settled u hu
    refine ⟨finish u, by rw [hexec s hask, hfast], ?_, ?_, fun hosc => ?_, fun hopen => ?_, ?_, ?_⟩
    · rw [htb]; rfl
    · rw [(finish_osc hu).1]; exact syncOsc_osc_isSome hsource
    · rw [(finish_osc hu).1, syncOsc_osc_of_running hsource (by simpa [u, sourceSlow] using hosc)]
      simp [u, sourceSlow]
    · rw [finish_count hu]
      simp [u, sourceSlow, hopen]
    · simp [finish_standing hu, u]
    · simp [hrmu, hpeers, hbm, hhc, hcs, u]
  · exact next_ite_pos hdue
  · refine ⟨calFilter s.tb.cSlow w.m, ?_, ?_⟩
    · simp only [calFilter, clampInt]
      omega
    · show Host.Outcome.next (match s.tb.calWindow with | some w => _ | none => s) = _
      simp [hw, hcycles, calRestart, State.calRuns, State.awake, State.startTimer, State.now, State.setTb]

end

/-! PROOFS. RESET_N and the entry to LOADING. -/
namespace Sys2Proof.Machine
set_option Elab.async false

section
variable {s t : State} {u : TwUser}

/-! ## Settling with few evaluations -/

/-- The reports to the Mode Controller are taken off. -/
def State.reported (s : State) : State := s.setMc { s.mc with abandonDue := false, evalDue := false }

theorem reported_settled : s.reported.Settled := ⟨rfl, rfl⟩

theorem reported_of_settled (h : s.Settled) : s.reported = s := by
  have hround : mcSettle s = s.reported := congrArg State.reported (by simp only [mcSettleOnce_of_settled s h])
  rw [← hround, mcSettle_of_settled s h]

/-- One round of settling: an abandoning event first, then the evaluation (R184, R187). -/
theorem mcSettleOnce_eq : mcSettleOnce s =
    if (s.mc.abandonDue || s.mc.evalDue) = true then
      (if s.mc.evalDue = true then evaluateMode (if s.mc.abandonDue = true then abandonEntry s.reported else s.reported)
       else if s.mc.abandonDue = true then abandonEntry s.reported else s.reported)
    else s := rfl

/-- Where one evaluation leaves nothing reported, the settling is that evaluation. -/
theorem mcSettle_of_once (h : (mcSettleOnce s).Settled) : mcSettle s = mcSettleOnce s :=
  (congrArg State.reported (by rw [mcSettleOnce_of_settled _ h, mcSettleOnce_of_settled _ h, mcSettleOnce_of_settled _ h])).trans
    (reported_of_settled h)

/-- Where the second evaluation leaves nothing reported, the settling is those two. -/
theorem mcSettle_of_twice (h : (mcSettleOnce (mcSettleOnce s)).Settled) : mcSettle s = mcSettleOnce (mcSettleOnce s) :=
  (congrArg State.reported (by rw [mcSettleOnce_of_settled _ h, mcSettleOnce_of_settled _ h])).trans (reported_of_settled h)

/-- A mode that no evaluation moves stays. -/
theorem mcSettleOnce_of_stays (hentering : s.mc.standing ≠ .entering) (h : evaluateMode s.reported = s.reported) :
    mcSettleOnce s = s.reported := by
  have habandon : abandonEntry s.reported = s.reported := by
    unfold abandonEntry
    rw [if_neg (by simpa [State.reported] using hentering)]
  rw [mcSettleOnce_eq]
  split
  · simp [habandon, h]
  · next hnone =>
    refine (reported_of_settled ?_).symm
    simpa [State.Settled, and_comm] using hnone

theorem mcSettle_of_stays (hentering : s.mc.standing ≠ .entering) (h : evaluateMode s.reported = s.reported) :
    mcSettle s = s.reported := by
  have honce := mcSettleOnce_of_stays hentering h
  rw [mcSettle_of_once (by rw [honce]; exact reported_settled), honce]

/-- The end of a step where no evaluation moves the mode. -/
theorem finish_of_stays (hentering : s.mc.standing ≠ .entering) (h : evaluateMode s.reported = s.reported) :
    finish s = finish s.reported := by
  rw [finish, mcSettle_of_stays hentering h, finish, mcSettle_of_settled _ reported_settled]

/-! ## The end of a step in START -/

/-- The station stands in CRYSTAL WAIT or LOADING. -/
def State.starting (s : State) : Prop := s.mc.standing = .crystalWait ∨ s.mc.standing = .loading

theorem finish_of_starting (h : s.starting) : finish s = finish s.reported := by
  have heval : evaluateMode s.reported = s.reported := by
    rcases h with h | h <;> simp [evaluateMode, State.reported, h]
  exact finish_of_stays (by rcases h with h | h <;> simp [h]) heval

theorem modemKick_of_not_awake (h : s.awake = false) : modemKick s = s := by simp [modemKick, h]

theorem canTransmit_of_starting (h : s.starting) : s.canTransmit = false := by
  unfold State.canTransmit State.awake
  rcases h with h | h <;> simp [h, Standing.awake]

/-- A station that may send nothing keeps its tables of events through the end of a step. -/
theorem finish_cu_of_starting (hset : s.Settled) (h : s.starting) : (finish s).cu = s.cu := by
  have hawake : s.awake = false := by rcases h with h | h <;> simp [State.awake, h, Standing.awake]
  have hsame : (twKick (syncOsc s)).mc.standing = s.mc.standing := by
    simpa using (syncOsc_same s).standing
  obtain ⟨a, b, m, hlc⟩ := lcKick_lc (t := twKick (syncOsc s))
    (.inr (.inl (canTransmit_of_starting (by rwa [State.starting, hsame]))))
  rw [finish_eq_follow hset, modemKick_of_not_awake hawake, hlc]
  simp

/-! ## A transaction that is wanted -/

theorem setPlace_place {w : TwoWire} {v : TwUser} {r : Option TwReq} :
    (w.setPlace v r).place u = if u = v then r else w.place u := by cases u <;> cases v <;> rfl

theorem freeBusCheck_busyFor : (freeBusCheck s).twm.busyFor u = s.twm.busyFor u := by
  unfold freeBusCheck TwoWire.busyFor
  cases s.twm.bus <;> cases u <;> simp [TwoWire.place]

theorem twKick_busyFor (h : s.twm.busyFor u = true) : (twKick s).twm.busyFor u = true := by
  unfold twKick
  split
  · next hidle =>
    split
    · next v _ =>
      have hbus : s.twm.bus = none := by simpa using (Bool.and_eq_true_iff.mp hidle).1
      have hstart : ({ s.twm.setPlace v none with
          bus := some { user := v, wanted := (s.twm.place v).any (fun r => r.wanted), check := .waiting } } : TwoWire).busyFor u = true := by
        rw [TwoWire.busyFor, hbus, Option.any_none, Bool.or_false] at h
        by_cases huv : u = v
        · subst huv
          simp [TwoWire.busyFor, h]
        · have hplace : (s.twm.setPlace v none).place u = s.twm.place u := by rw [setPlace_place, if_neg huv]
          exact Bool.or_eq_true_iff.mpr (.inl ((congrArg (Option.any (·.wanted)) hplace).trans h))
      unfold twStart
      dsimp only
      split
      · rw [freeBusCheck_busyFor]
        exact hstart
      · exact hstart
    · exact h
  · exact h

theorem finish_busyFor (hset : s.Settled) (h : s.twm.busyFor u = true) : (finish s).twm.busyFor u = true := by
  rw [finish_eq_follow hset]
  simpa using twKick_busyFor (s := syncOsc (modemKick s)) (by simpa using h)

/-! ## Entry to LOADING -/

@[simp] theorem reported_leaves :
    s.reported.pending = s.pending ∧ s.reported.pins = s.pins ∧ s.reported.tb = s.tb ∧ s.reported.rmu = s.rmu ∧
    s.reported.lc = s.lc ∧ s.reported.peers = s.peers ∧ s.reported.tau = s.tau ∧ s.reported.si = s.si ∧ s.reported.td = s.td ∧
    s.reported.cu = s.cu ∧ s.reported.uc = s.uc ∧ s.reported.bm = s.bm ∧ s.reported.hc = s.hc ∧ s.reported.twm = s.twm ∧
    s.reported.cs = s.cs ∧ s.reported.counters = s.counters ∧ s.reported.mc.standing = s.mc.standing ∧
    s.reported.mc.held = s.mc.held := by simp [State.reported]

/-- What the end of a step leaves in CRYSTAL WAIT and LOADING. -/
theorem finish_leaves_starting (h : s.starting) :
    (finish s).mc.standing = s.mc.standing ∧ (finish s).mc.held = s.mc.held ∧ (finish s).tb = s.tb ∧ (finish s).rmu = s.rmu ∧
    (finish s).peers = s.peers ∧ (finish s).cu = s.cu ∧ (finish s).si = s.si ∧ (finish s).td = s.td ∧ (finish s).bm = s.bm ∧
    (finish s).hc = s.hc ∧ (finish s).cs = s.cs := by
  have hr : s.reported.starting := by simpa [State.starting] using h
  obtain ⟨-, -, htb, hrmu, hpeers, -, hsi, htd, hbm, hhc, hcs, -⟩ := finish_leaves_settled _ (reported_settled (s := s))
  have hsame := finish_same s.reported reported_settled
  rw [finish_of_starting h]
  exact ⟨by simp [hsame.standing], by simp [hsame.held], by simp [htb], by simp [hrmu], by simp [hpeers],
    by simp [finish_cu_of_starting reported_settled hr], by simp [hsi], by simp [htd], by simp [hbm], by simp [hhc], by simp [hcs]⟩

/-- The entry to LOADING: the straps are sampled, and a slow source begins to warm up (R3, R196, R198). -/
theorem enterLoading_moves :
    (enterLoading s).tb = (if s.tb.source = .slow then { s.tb with source := .warming, warmUp := 0 } else s.tb) ∧
    (enterLoading s).mc = { s.mc with standing := .loading } ∧
    (enterLoading s).cs = { s.cs with stationId := s.pins.straps.toNat } := by
  unfold enterLoading runFast
  dsimp only
  split <;> split <;> simp_all

theorem enterLoading_starting : (enterLoading s).starting := .inr (by rw [enterLoading_moves.2.1])

/-- LOADING after the step (R196, R198, R199). -/
theorem finish_enterLoading :
    (finish (enterLoading s)).mc.standing = .loading ∧ (finish (enterLoading s)).mc.held = s.mc.held ∧
    (finish (enterLoading s)).cs = { s.cs with stationId := s.pins.straps.toNat } ∧
    (finish (enterLoading s)).tb = (if s.tb.source = .slow then { s.tb with source := .warming, warmUp := 0 } else s.tb) ∧
    (finish (enterLoading s)).rmu = s.rmu ∧ (finish (enterLoading s)).peers = s.peers ∧
    (finish (enterLoading s)).cu = s.cu ∧ (finish (enterLoading s)).bm = s.bm ∧ (finish (enterLoading s)).hc = s.hc ∧
    (finish (enterLoading s)).td = s.td ∧ (finish (enterLoading s)).si = s.si := by
  obtain ⟨hst, hh, htb, hrmu, hpeers, hcu, hsi, htd, hbm, hhc, hcs⟩ := finish_leaves_starting (enterLoading_starting (s := s))
  simp only [hst, hh, htb, hrmu, hpeers, hcu, hsi, htd, hbm, hhc, hcs, enterLoading_leaves, enterLoading_moves, and_self]

theorem finish_enterLoading_osc : (finish (enterLoading s)).mc.osc.isSome = true := by
  have hrunning : (enterLoading s).tb.source ≠ .slow := by
    rw [enterLoading_moves.1]
    split
    · simp
    · assumption
  rw [finish_of_starting enterLoading_starting, (finish_osc reported_settled).1]
  exact syncOsc_osc_isSome (by simpa using hrunning)

theorem finish_enterLoading_busyFor (h : s.tb.source = .fast) :
    (finish (enterLoading s)).twm.busyFor .loader = true := by
  have hbusy : (enterLoading s).twm.busyFor .loader = true := by
    simp [enterLoading, runFast, h, twRequest, TwoWire.busyFor, setPlace_place]
  rw [finish_of_starting enterLoading_starting]
  exact finish_busyFor reported_settled (by simpa using hbusy)

/-! ## RESTART held -/

/-- The state after RESTART, held by RESET_N (R205). -/
def restartHeld (s : State) : State := (restartValues s).setMc { (restartValues s).mc with held := true }

/-- Each block after RESTART (R205). -/
@[simp] theorem restartHeld_blocks :
    (restartHeld s).pending = s.pending ∧ (restartHeld s).pins = s.pins ∧
    (restartHeld s).tb = { s.tb.restart with calWindow := none } ∧ (restartHeld s).rmu = .reset ∧
    (restartHeld s).lc = s.lc.restart s.now ∧ (restartHeld s).peers = [] ∧ (restartHeld s).tau = s.tau.restart ∧
    (restartHeld s).si = s.si.restart ∧ (restartHeld s).td = .reset ∧ (restartHeld s).cu = s.cu.restart ∧
    (restartHeld s).uc = .reset ∧ (restartHeld s).bm = s.bm.restart ∧
    (restartHeld s).hc = { b := s.hc.b.restart, s := s.hc.s.restart } ∧
    (restartHeld s).mc = { s.mc.restart (s.tb.source == .fast) with held := true } ∧ (restartHeld s).twm = s.twm.restart ∧
    (restartHeld s).cs = { s.cs with pending := none } := by
  simp [restartHeld, restartValues, Trigger.restart, State.now]

theorem restartHeld_count {c : Counter} (h : c ≠ .calibrationDiscards) : (restartHeld s).count c = s.count c := by
  have hbump : (bumpIf s.tb.calWindow.isSome .calibrationDiscards s).count c = s.count c := by simp [h.symm]
  exact hbump

theorem restartHeld_starting : (restartHeld s).starting := by
  unfold State.starting
  by_cases h : s.mc.standing = .crystalWait
  · exact .inl (by simp [ModeCtl.restart, h])
  · exact .inr (by simp [ModeCtl.restart, h])

/-- In RESTART only the oscillator follows: no transaction, no request and no alert waits. -/
theorem finish_restartHeld : finish (restartHeld s) = syncOsc (restartHeld s) := by
  have hset : (restartHeld s).Settled := ⟨rfl, rfl⟩
  have hmodem : modemKick (restartHeld s) = restartHeld s :=
    modemKick_of_not_awake (by rcases restartHeld_starting (s := s) with h | h <;> exact congrArg Standing.awake h)
  have hbus : (syncOsc (restartHeld s)).BusRests :=  .inr (.inr (by
    simp [TwoWire.restart, TwoWire.reset, TwoWire.firstFull, twUsers, TwoWire.place]))
  have hlink : (syncOsc (restartHeld s)).LinkRests := by
    simp [State.LinkRests, Link.restart, Link.reset, Slots.empty, Slots.allEmpty]
  rw [finish_eq_follow hset, hmodem, twKick_of_rests _ hbus, lcKick_of_rests _ hlink]

end
end Sys2Proof.Machine

section
open Sys2Proof Sys2Proof.Machine
set_option Elab.async false

/-- Settles O15. -/
theorem startGoesOnToLoading : Obligations.StartGoesOnToLoading := by
  have hrise (s : State) (hheld : s.mc.held = true) (hload : s.mc.standing = .loading) :
      exec .resetNRise s = .next (finish (enterLoading (s.setMc { s.mc with held := false }))) := by
    show Host.Outcome.next (if s.mc.held then finish _ else s) = _
    simp [hheld, hload]
  refine ⟨fun s hheld hload hslow => ?_, fun s hheld hload hsource => ?_, fun s hheld hwait => ?_, fun s hheld => ?_,
    fun s hwait hcount hheld hslow => ?_, fun s hwait hcount hheld => ?_⟩
  · refine ⟨_, hrise s hheld hload, ?_⟩
    obtain ⟨hst, hh, hcs, htb, hrest⟩ := finish_enterLoading (s := s.setMc { s.mc with held := false })
    exact ⟨hh, hst, hcs, htb.trans (if_pos hslow), finish_enterLoading_osc, hrest⟩
  · refine ⟨_, hrise s hheld hload, ?_⟩
    obtain ⟨hst, hh, hcs, htb, hrest⟩ := finish_enterLoading (s := s.setMc { s.mc with held := false })
    exact ⟨hh, hst, hcs, htb.trans (if_neg hsource), fun hfast => finish_enterLoading_busyFor hfast, hrest⟩
  · let u := s.setMc { s.mc with held := false }
    obtain ⟨hst, hh, htb, hrmu, hpeers, hcu, hsi, htd, hbm, hhc, hcs⟩ := finish_leaves_starting (s := u) (.inl hwait)
    refine ⟨finish u, ?_, hh, hst.trans hwait, hcs, htb, hrmu, hpeers, hcu, hbm, hhc, htd, hsi⟩
    show Host.Outcome.next (if s.mc.held then finish _ else s) = _
    simp [hheld, hwait, u]
  · exact next_ite_neg (by simp [hheld])
  · let u := setStanding .loading (s.setTb { s.tb with counting := true })
    obtain ⟨hst, -, hcs, htb, hrest⟩ := finish_enterLoading (s := u)
    refine ⟨finish (enterLoading u), ?_, hst, hcs, htb.trans (if_pos hslow), hrest⟩
    show Host.Outcome.next (if _ then finish _ else s) = _
    simp [hwait, hcount, u, setStanding, hheld]
  · let u := setStanding .loading (s.setTb { s.tb with counting := true })
    obtain ⟨hst, hh, htb, -, -, -, -, -, -, -, hcs⟩ := finish_leaves_starting (s := u) (.inr rfl)
    refine ⟨finish u, ?_, hst, hh.trans hheld, hcs, htb⟩
    show Host.Outcome.next (if _ then finish _ else s) = _
    simp [hwait, hcount, u, setStanding, hheld]

/-- Settles O14. -/
theorem resetNLowHoldsTheRestartValues : Obligations.ResetNLowHoldsTheRestartValues := by
  intro s
  refine ⟨syncOsc (restartHeld s), ?_, ?_⟩
  · show Host.Outcome.next (finish (restartHeld s)) = _
    rw [finish_restartHeld]
  have hsame := syncOsc_same (restartHeld s)
  have hhidden : (syncOsc (restartHeld s)).linesShown = false := by
    simp [State.linesShown, hsame.held]
  have hheater (h : HeaterId) : (syncOsc (restartHeld s)).heater h = (s.heater h).restart := by cases h <;> simp [State.heater]
  have houtputs : (syncOsc (restartHeld s)).outputs =
      ⟨false, false, false, false, false, false, [false, false, false, false]⟩ := by
    simp [State.outputs, State.indicator, hhidden, Link.restart, Link.reset, SampleIf.restart, SampleIf.reset, Uplink.reset,
      Modem.power, Heater.restart, Heater.reset, Battery.restart]
  have hcount (c : Counter) (hc : c ≠ .calibrationDiscards) : (syncOsc (restartHeld s)).count c = s.count c :=
    (count_of_counters_eq (by simp)).trans (restartHeld_count hc)
  simp +contextual [hsame.held, houtputs, hsame.standing, hheater, hcount, Timebase.restart, Link.restart, Link.reset,
    Agreement.restart, Agreement.reset, SampleIf.restart, SampleIf.reset, Trigger.reset, Coincidence.restart, Battery.restart,
    Heater.restart, Heater.reset, ModeCtl.restart]

end

/-! PROOFS. The ticks of the two clock sources. -/
namespace Sys2Proof.Machine
set_option Elab.async false

/-! ## Carry and advance -/

theorem carryFrac_of_carry {x : Int} (h : 4294967296 ≤ x) : carryFrac x = ((x - 4294967296).toNat, 1) := if_pos h

theorem carryFrac_of_borrow {x : Int} (h : x < 0) : carryFrac x = ((x + 4294967296).toNat, -1) := by
  rw [carryFrac, if_neg (by omega), if_pos h]

theorem carryFrac_of_stay {x : Int} (hlo : 0 ≤ x) (hhi : x < 4294967296) : carryFrac x = (x.toNat, 0) := by
  rw [carryFrac, if_neg (by omega), if_neg (by omega)]

section
variable {t : Timebase} {n : Nat}

/-- Time that moves forward reports a second boundary exactly where the seconds part changes (R1). -/
theorem Timebase.advance_boundaries (h : t.time ≤ maxTime) : (t.advance n).boundaries =
    t.boundaries ++ (if secPart (t.advance n).time = secPart t.time then [] else [secPart (t.advance n).time]) := by
  have hmono : secPart t.time ≤ secPart (t.advance n).time := Nat.div_le_div_right (Timebase.advance_time h).1
  change (if secPart t.time < secPart (t.advance n).time then t.boundaries ++ [secPart (t.advance n).time] else t.boundaries) = _
  by_cases hsame : secPart (t.advance n).time = secPart t.time
  · rw [if_pos hsame, if_neg (by omega), List.append_nil]
  · rw [if_neg hsame, if_pos (by omega)]

/-- An open window that is not full counts the ticks of station time (R6). -/
theorem Timebase.advance_calWindow : (t.advance n).calWindow =
    t.calWindow.map fun w => { w with m := if w.cycles < 32768 then w.m + ((t.advance n).time - t.time) else w.m } := by
  unfold Timebase.advance
  refine congrArg (Option.map · t.calWindow) (funext fun w => ?_)
  dsimp only
  split <;> rfl

theorem Timebase.elapse_seconds_one : (t.elapse 1).elapsedSeconds =
    t.elapsedSeconds + (if t.elapsed.toNat % 1048576 = 1048575 then 1 else 0) := by
  have hlt := Nat.mod_lt t.elapsed.toNat (show 1048576 > 0 by decide)
  unfold Timebase.elapse tps
  dsimp only
  split <;> omega

theorem Timebase.elapse_seconds_slow : (t.elapse 32).elapsedSeconds =
    t.elapsedSeconds + (if t.elapsed.toNat % 1048576 + 32 < 1048576 then 0 else 1) := by
  have hlt := Nat.mod_lt t.elapsed.toNat (show 1048576 > 0 by decide)
  unfold Timebase.elapse tps
  dsimp only
  split <;> omega

/-- The applied rate word in figures (R4). -/
theorem Timebase.applied_eq : t.applied = (match t.pendingStep with
    | some .plus => 214748
    | some .minus => -214748
    | none => max (-214748) (min 214748 (t.rBase + t.rPhase))) := by
  unfold Timebase.applied clampInt rateLimit
  cases t.pendingStep with
  | some d => cases d <;> rfl
  | none =>
    dsimp only
    split
    · omega
    · split <;> omega

/-- A nominal tick: a carry gives two ticks, a borrow none (R3). -/
theorem Timebase.fastTick_carries (hfrac : t.frac < 2 ^ 32) (htime : t.time ≤ maxTime) :
    (2 ^ 32 ≤ (t.frac + t.applied : Int) →
      t.fastTick.time = min (t.time + 2) maxTime ∧ (t.fastTick.frac : Int) = t.frac + t.applied - 2 ^ 32) ∧
    ((t.frac + t.applied : Int) < 0 → t.fastTick.time = t.time ∧ (t.fastTick.frac : Int) = t.frac + t.applied + 2 ^ 32) ∧
    (0 ≤ (t.frac + t.applied : Int) ∧ (t.frac + t.applied : Int) < 2 ^ 32 →
      t.fastTick.time = min (t.time + 1) maxTime ∧ (t.fastTick.frac : Int) = t.frac + t.applied) := by
  have happ : -214748 ≤ t.applied := by
    rw [Timebase.applied_eq]
    (repeat' split) <;> omega
  refine ⟨fun h => ?_, fun h => ?_, fun ⟨hlo, hhi⟩ => ?_⟩
  · simp only [Timebase.fastTick, carryFrac_of_carry (by omega : 4294967296 ≤ (t.frac + t.applied : Int))]
    exact ⟨rfl, by omega⟩
  · simp only [Timebase.fastTick, carryFrac_of_borrow h]
    exact ⟨Nat.min_eq_left htime, by omega⟩
  · simp only [Timebase.fastTick, carryFrac_of_stay hlo (by omega : (t.frac + t.applied : Int) < 4294967296)]
    exact ⟨rfl, by omega⟩

/-- A slow cycle: a carry gives 33 ticks, a borrow 31 (R5). -/
theorem Timebase.slowTick_carries :
    (2 ^ 32 ≤ (t.frac - 32 * t.cSlow : Int) →
      t.slowTick.time = min (t.time + 33) maxTime ∧ (t.slowTick.frac : Int) = t.frac - 32 * t.cSlow - 2 ^ 32) ∧
    (-(2 ^ 32) ≤ (t.frac - 32 * t.cSlow : Int) ∧ (t.frac - 32 * t.cSlow : Int) < 0 →
      t.slowTick.time = min (t.time + 31) maxTime ∧ (t.slowTick.frac : Int) = t.frac - 32 * t.cSlow + 2 ^ 32) ∧
    (0 ≤ (t.frac - 32 * t.cSlow : Int) ∧ (t.frac - 32 * t.cSlow : Int) < 2 ^ 32 →
      t.slowTick.time = min (t.time + 32) maxTime ∧ (t.slowTick.frac : Int) = t.frac - 32 * t.cSlow) := by
  refine ⟨fun h => ?_, fun ⟨hlo, hhi⟩ => ?_, fun ⟨hlo, hhi⟩ => ?_⟩
  · simp only [Timebase.slowTick, carryFrac_of_carry (by omega : 4294967296 ≤ (t.frac - 32 * t.cSlow : Int))]
    exact ⟨rfl, by omega⟩
  · simp only [Timebase.slowTick, carryFrac_of_borrow hhi]
    exact ⟨rfl, by omega⟩
  · simp only [Timebase.slowTick, carryFrac_of_stay hlo (by omega : (t.frac - 32 * t.cSlow : Int) < 4294967296)]
    exact ⟨rfl, by omega⟩

end

/-! ## The lines of a tick -/

section
variable {s : State} {l : Lines}

/-- The lines that a tick brings move the pins, the bus and its counter only (log entry 4). -/
theorem sampleLines_pins : (sampleLines l s).pins = { s.pins with
    straps := l.straps, chgAvl := l.chgAvl, upRdy := s.pins.upRdy && l.upRdy, scl := l.scl, sda := l.sda } := by
  simp [sampleLines]

theorem sampleLines_count {c : Counter} (h : c ≠ .busRecoveries) : (sampleLines l s).count c = s.count c := by
  unfold sampleLines twSclSampled freeBusCheck
  split
  · split
    · simp [h.symm]
    · rfl
  · rfl

/-- The on-times of both heaters (R181). -/
theorem heater_run {n : Nat} {t : State} (h : t.hc = s.hc.run n) (x : HeaterId) : t.heater x = (s.heater x).run n := by
  cases x <;> simp [State.heater, h, Heaters.run]

/-! ## The slow cycle -/

/-- A slow cycle of the Timebase with its count of the warm-up (R3, R5). -/
def Timebase.slowCounted (t : Timebase) : Timebase :=
  { t.slowTick with warmUp := if t.source = .warming then min 256 (t.warmUp + 1) else t.warmUp }

theorem slowAdvance_of_running (hcounting : s.tb.counting = true) (hslow : s.tb.source ≠ .fast) :
    slowAdvance s = (s.setTb s.tb.slowCounted).setHc (s.hc.run 32) := by
  unfold slowAdvance
  rw [if_pos (by simp [hcounting, hslow])]
  have hsource : s.tb.slowTick.source = s.tb.source := rfl
  by_cases hwarm : s.tb.source = .warming
  · simp [hsource, hwarm, Timebase.slowCounted]
    rfl
  · simp [hsource, hwarm, Timebase.slowCounted]
    rfl

theorem slowAdvance_of_still (h : s.tb.counting = false ∨ s.tb.source = .fast) : slowAdvance s = s := by
  unfold slowAdvance
  rw [if_neg (by rcases h with h | h <;> simp [h])]

theorem calBoundary_of_closed (h : s.tb.calOpening = false) : calBoundary s =
    s.setTb { s.tb with calWindow := s.tb.calWindow.map (fun w => { w with cycles := min 32768 (w.cycles + 1) }) } := by
  simp [calBoundary, h]

/-- The expired period opens a window (R6). -/
theorem calBoundary_of_opening (h : s.tb.calOpening = true) (hpending : s.tb.pendingStep = none) : calBoundary s =
    s.setTb { s.tb with calOpening := false, calWindow := some { cycles := 0, m := 0 } } := by
  simp [calBoundary, h, hpending]

/-- A window that opens while a step is pending is discarded at once, and the period starts again (R6, R7). -/
theorem calBoundary_of_pending (h : s.tb.calOpening = true) (hpending : s.tb.pendingStep.isSome = true) :
    (calBoundary s).tb = { s.tb with
      calOpening := false, calWindow := none, calTimer := if s.calRuns then s.startTimer (secs 64) else none } ∧
    (calBoundary s).count .calibrationDiscards = min (s.count .calibrationDiscards + 1) 65535 := by
  simp [calBoundary, h, hpending, calDiscard, calRestart, State.calRuns, State.awake, State.startTimer, State.now]

/-- A slow-cycle boundary moves the calibration only (R6, R7). -/
theorem calBoundary_tb : (calBoundary s).tb = { s.tb with
    calTimer := (calBoundary s).tb.calTimer, calOpening := (calBoundary s).tb.calOpening
    calWindow := (calBoundary s).tb.calWindow } := by
  cases hopen : s.tb.calOpening with
  | false => rw [calBoundary_of_closed hopen]; rfl
  | true =>
    cases hpending : s.tb.pendingStep with
    | none => rw [calBoundary_of_opening hopen hpending]; rfl
    | some d => rw [(calBoundary_of_pending hopen (by simp [hpending])).1]

/-- The state at the boundary of a slow cycle. -/
def slowBoundary (l : Lines) (s : State) : State := countOsc (slowAdvance (countCrystal (sampleLines l s)))

theorem slowBoundary_tb : (slowBoundary l s).tb = (slowAdvance s).tb := by
  simp [slowBoundary, slowAdvance]
  (repeat' split) <;> simp

theorem slowBoundary_hc : (slowBoundary l s).hc = (slowAdvance s).hc := by
  simp [slowBoundary, slowAdvance]
  (repeat' split) <;> simp

@[simp] theorem slowBoundary_leaves :
    (slowBoundary l s).rmu = s.rmu ∧ (slowBoundary l s).lc = s.lc ∧ (slowBoundary l s).peers = s.peers ∧
    (slowBoundary l s).tau = s.tau ∧ (slowBoundary l s).si = s.si ∧ (slowBoundary l s).td = s.td ∧ (slowBoundary l s).cu = s.cu ∧
    (slowBoundary l s).uc = s.uc ∧ (slowBoundary l s).bm = s.bm ∧ (slowBoundary l s).cs = s.cs ∧
    (slowBoundary l s).pins = (sampleLines l s).pins := by simp [slowBoundary]

theorem slowBoundary_count {c : Counter} (h : c ≠ .busRecoveries) : (slowBoundary l s).count c = s.count c := by
  rw [← sampleLines_count (s := s) (l := l) h]
  exact count_of_counters_eq (by simp [slowBoundary])

/-- The oscillator's cycles and the crystal wait are counted (R189, R196). -/
theorem slowBoundary_mc : (slowBoundary l s).mc = { s.mc with
    crystal := if s.mc.standing = .crystalWait then min 16384 (s.mc.crystal + 1) else s.mc.crystal
    osc := s.mc.osc.map (fun n => min 256 (n + 1)) } := by
  simp [slowBoundary, countOsc, countCrystal]
  split <;> simp

end
end Sys2Proof.Machine

section
open Sys2Proof Sys2Proof.Machine
set_option Elab.async false

/-- Settles O17. -/
theorem nominalTickCarriesTheFraction : Obligations.NominalTickCarriesTheFraction := by
  intro s l hcounting hfast hfrac htime
  let u := sampleLines l s
  refine ⟨(u.setTb s.tb.fastTick).setHc (s.hc.run 1), ?_, by simp [Timebase.fastTick, Timebase.advance, Timebase.elapse], ?_, ?_, ?_, ?_,
    ?_, fun h => heater_run rfl h, ?_⟩
  · show Host.Outcome.next (if s.tb.counting && s.tb.source == .fast then (u.setTb u.tb.fastTick).setHc (u.hc.run 1) else s) = _
    simp [hcounting, hfast, u, sampleLines]
  · have hcarries := s.tb.fastTick_carries hfrac htime
    rw [Timebase.applied_eq] at hcarries
    exact hcarries
  · exact (s.tb.elapse 1).advance_boundaries htime
  · exact s.tb.elapse_seconds_one
  · exact (s.tb.elapse 1).advance_calWindow
  · rfl
  · simp [u, sampleLines_pins]

/-- Settles O18. -/
theorem slowCycleCarriesTheFraction : Obligations.SlowCycleCarriesTheFraction := by
  have hexec (s : State) (l : Lines) : exec (.slowCycle l) s = .next (calBoundary (slowBoundary l s)) := rfl
  refine ⟨fun s l hcounting hslow htime => ⟨_, hexec s l, ?_⟩, fun s l hfast => ⟨_, hexec s l, ?_⟩,
    fun s l hcounting => ⟨_, hexec s l, ?_⟩⟩
  · have htb : (slowBoundary l s).tb = s.tb.slowCounted := by rw [slowBoundary_tb, slowAdvance_of_running hcounting hslow]; rfl
    have hhc : (slowBoundary l s).hc = s.hc.run 32 := by rw [slowBoundary_hc, slowAdvance_of_running hcounting hslow]; rfl
    have hcal := calBoundary_tb (s := slowBoundary l s)
    rw [htb] at hcal
    refine ⟨?_, ?_, ?_, ?_, ?_, fun hclosed => ?_, ?_, ?_, ?_, ?_, ?_, ?_, ?_, fun h => heater_run (by simp [hhc]) h, by simp⟩
    · rw [hcal]; simp [Timebase.slowCounted, Timebase.slowTick, Timebase.advance, Timebase.elapse]
    · rw [hcal]; exact s.tb.slowTick_carries
    · rw [hcal]; exact (s.tb.elapse 32).advance_boundaries htime
    · rw [hcal]; exact s.tb.elapse_seconds_slow
    · rw [hcal]; rfl
    · have hopen : (slowBoundary l s).tb.calOpening = false := by rw [htb]; exact hclosed
      rw [calBoundary_of_closed hopen, setTb_tb, htb]
      refine ⟨hclosed, ?_⟩
      have hwindow := (s.tb.elapse 32).advance_calWindow (n := (32 + (carryFrac (s.tb.frac - 32 * s.tb.cSlow)).2).toNat)
      exact (congrArg (Option.map _) hwindow).trans (Option.map_map _ _ _)
    all_goals rw [hcal]; rfl
  · have htb : (slowBoundary l s).tb = s.tb := by rw [slowBoundary_tb, slowAdvance_of_still (.inr hfast)]
    have hhc : (slowBoundary l s).hc = s.hc := by rw [slowBoundary_hc, slowAdvance_of_still (.inr hfast)]
    refine ⟨fun hclosed => ?_, fun hopen hpending => ?_, fun hopen hpending => ?_, ?_⟩
    · rw [calBoundary_of_closed (by rw [htb]; exact hclosed), setTb_tb, htb]
    · rw [calBoundary_of_opening (by rw [htb]; exact hopen) (by rw [htb]; exact hpending), setTb_tb, htb]
    · obtain ⟨hcal, hcount⟩ := calBoundary_of_pending (s := slowBoundary l s) (by rw [htb]; exact hopen) (by rw [htb]; exact hpending)
      refine ⟨?_, by rw [hcount, slowBoundary_count (by decide)]⟩
      rw [hcal, htb]
      simp [State.calRuns, State.awake, slowBoundary_mc, htb, hfast, State.startTimer, State.now]
    · simp [slowBoundary_mc, hhc]
  · have htb : (slowBoundary l s).tb = s.tb := by rw [slowBoundary_tb, slowAdvance_of_still (.inl hcounting)]
    have hhc : (slowBoundary l s).hc = s.hc := by rw [slowBoundary_hc, slowAdvance_of_still (.inl hcounting)]
    have hcal := calBoundary_tb (s := slowBoundary l s)
    rw [htb] at hcal
    refine ⟨by simp [slowBoundary_mc], by simp [slowBoundary_mc], by simp [slowBoundary_mc], by simp [slowBoundary_mc],
      by rw [hcal]; exact hcounting, by rw [hcal], by rw [hcal], by rw [hcal], by rw [hcal], by rw [hcal], by rw [hcal],
      by rw [hcal], fun hclosed hnone => ?_, ?_⟩
    · rw [calBoundary_of_closed (by rw [htb]; exact hclosed), setTb_tb, htb, hnone, Option.map_none, ← hnone]
    · simp [hhc, sampleLines_pins]

end

/-! PROOFS. Access to the medium: backoff and the arbiter. -/
namespace Sys2Proof.Machine
set_option Elab.async false

section
variable {s t u : State}

/-! ## The frame that is sent -/

/-- The frame a start builds (R23, R30). -/
def State.frameOf (s : State) (owner : TxOwner) (kind : FrameKind) (target : Nat) (wake muster : Bool) (body : List Byte) :
    TxFrame :=
  { owner := owner, wake := wake, body := body, stamp := none,
    header := headerBytes kind s.ownId target wake muster s.cs.defaulted s.lc.idConflict body.length s.lc.ownSeq }

/-- The flags of the header's second byte, one by one (R23). -/
theorem headerBytes_eq {kind : FrameKind} {own target length seq : Nat} {wake muster defaulted conflict : Bool} :
    headerBytes kind own target wake muster defaulted conflict length seq =
      [BitVec.ofNat 8 (kind.code + 16 * own),
       BitVec.ofNat 8 (target + (if wake then 16 else 0) + (if muster then 32 else 0) + (if defaulted then 64 else 0) +
         (if conflict then 128 else 0)),
       BitVec.ofNat 8 length, BitVec.ofNat 8 seq] := by
  have hflags : target + 16 * (wake.toNat + 2 * muster.toNat + 4 * defaulted.toNat + 8 * conflict.toNat) =
      target + (if wake then 16 else 0) + (if muster then 32 else 0) + (if defaulted then 64 else 0) +
        (if conflict then 128 else 0) := by
    cases wake <;> cases muster <;> cases defaulted <;> cases conflict <;> rfl
  rw [headerBytes, hflags]

/-- The state `t` sends a frame that was started in `s`. -/
structure State.Sends (s t : State) (owner : TxOwner) (kind : FrameKind) (target : Nat) (wake muster : Bool) (body : List Byte) :
    Prop where
  tx : t.lc.tx = some (s.frameOf owner kind target wake muster body)
  ownSeq : t.lc.ownSeq = (s.lc.ownSeq + 1) % 256
  access : t.lc.access = .idle
  attempt : t.lc.attempt = 0
  tb : t.tb = s.tb
  peers : t.peers = s.peers
  musters : t.count .musterBeacons = if muster then min (s.count .musterBeacons + 1) 65535 else s.count .musterBeacons

theorem startNotice_sends {q : NoticeReq} : s.Sends (startNotice q s) (.notice q.notice.kind q.moment) .notice 0
    (q.notice.kind == .onset && s.dormantPresent) false (noticeBytes q.notice) := ⟨rfl, rfl, rfl, rfl, rfl, rfl, rfl⟩

theorem startReply_sends {q : ReplyReq} : s.Sends (startReply q s) .reply .reply q.target false false
    (timeBytes q.t1 ++ timeBytes q.t2.time ++ be 7 0) := ⟨rfl, rfl, rfl, rfl, rfl, rfl, rfl⟩

theorem startProbe_sends {q : ProbeReq} : s.Sends (startProbe q s) (.probe q.target) .probe q.target false false (be 7 0) :=
  ⟨rfl, rfl, rfl, rfl, rfl, rfl, rfl⟩

theorem startReport_sends {q : ReportReq} : s.Sends (startReport q s) (.report true q.last) .serviceReport 15 false false q.body :=
  ⟨rfl, rfl, rfl, rfl, rfl, rfl, rfl⟩

theorem startDeclaration_sends {r : EventRec} : s.Sends (startDeclaration r s) (.declaration r.rid r.update) .declaration 0
    s.dormantPresent false (declBytes r.body) := ⟨rfl, rfl, rfl, rfl, rfl, rfl, rfl⟩

/-- The link after the start of a BEACON (R26, R30, R35, R193). -/
theorem startBeacon_lc {q : BeaconReq} : (startBeacon q s).lc = (beaconTimerRestart (s.setLc { s.lc with
    slots := { s.lc.slots with beacon := none }
    tx := some (s.frameOf (.beacon q.mark) .beacon 0 (s.isMuster q.mark && s.dormantPresent) (s.isMuster q.mark)
      (beaconBytes (s.beaconBody q.mark)))
    ownSeq := (s.lc.ownSeq + 1) % 256, access := .idle, busy := false, attempt := 0 })).lc := by
  unfold startBeacon bumpIf
  cases s.isMuster q.mark <;> dsimp only <;> split <;> rfl

theorem startBeacon_sends {q : BeaconReq} : s.Sends (startBeacon q s) (.beacon q.mark) .beacon 0
    (s.isMuster q.mark && s.dormantPresent) (s.isMuster q.mark) (beaconBytes (s.beaconBody q.mark)) where
  tx := by rw [startBeacon_lc]; rfl
  ownSeq := by rw [startBeacon_lc]; rfl
  access := by rw [startBeacon_lc]; rfl
  attempt := by rw [startBeacon_lc]; rfl
  tb := by simp
  peers := by simp
  musters := by
    unfold startBeacon
    cases s.isMuster q.mark <;> dsimp only <;> split <;> simp [bumpIf, beaconTimerRestart]

/-! ## The arbiter -/

/-- A start leaves the Link Controller with a frame on its way, or with nothing to send (R32). -/
def Link.started (x : Link) : Prop :=
  x.access = .idle ∧ x.busy = false ∧ x.attempt = 0 ∧ (x.tx.isSome = true ∨ x.slots.allEmpty = true)

theorem arbitrateRest_started (h : s.lc.slots.declaration = none) : (arbitrateRest s).lc.started := by
  unfold arbitrateRest
  split
  case h_4 => rw [startBeacon_lc]; exact ⟨rfl, rfl, rfl, .inl rfl⟩
  case h_6 hnotice hreply hprobe hbeacon hreport =>
    exact ⟨rfl, rfl, rfl, .inr (by simp [Slots.allEmpty, h, hnotice, hreply, hprobe, hbeacon, hreport])⟩
  all_goals exact ⟨rfl, rfl, rfl, .inl rfl⟩

theorem startTransmission_started : (startTransmission s).lc.started := by
  unfold startTransmission
  split
  · exact ⟨rfl, rfl, rfl, .inl rfl⟩
  · exact arbitrateRest_started rfl
  · exact arbitrateRest_started ‹_›

/-- After a start the Link Controller rests to the end of the step. -/
theorem finish_of_started (hset : t.Settled) (h : t.lc.started) : finish t = twKick (syncOsc (modemKick t)) := by
  obtain ⟨haccess, hbusy, hattempt, hwait⟩ := h
  rw [finish_eq_follow hset]
  refine lcKick_of_rests _ ?_
  unfold State.LinkRests
  split
  · simp [haccess, hbusy, hattempt]
  · next hfull =>
    have htx : t.lc.tx.isSome = true := hwait.resolve_right (by simpa using hfull)
    exact .inr (by simp [State.canTransmit, Option.isNone_iff_eq_none, Option.isSome_iff_ne_none.mp htx])

theorem finish_lc_of_started (hset : t.Settled) (h : t.lc.started) : (finish t).lc = t.lc := by
  rw [finish_of_started hset h]; simp

theorem finish_musters_of_started (hset : t.Settled) (h : t.lc.started) :
    (finish t).count .musterBeacons = t.count .musterBeacons := by
  rw [finish_of_started hset h, twKick_count (by decide), syncOsc_count, modemKick_count]

/-- What is sent is sent still at the end of the step. -/
theorem State.Sends.finish {owner : TxOwner} {kind : FrameKind} {target : Nat} {wake muster : Bool} {body : List Byte}
    (h : s.Sends t owner kind target wake muster body) (hset : t.Settled) (hstart : t.lc.started) :
    s.Sends (finish t) owner kind target wake muster body := by
  have hlc := finish_lc_of_started hset hstart
  obtain ⟨-, -, htb, -, hpeers, -⟩ := finish_leaves_settled t hset
  exact ⟨by rw [hlc, h.tx], by rw [hlc, h.ownSeq], by rw [hlc, h.access], by rw [hlc, h.attempt], by rw [htb, h.tb],
    by rw [hpeers, h.peers], by rw [finish_musters_of_started hset hstart, h.musters]⟩

theorem startTransmission_settled (h : s.Settled) : (startTransmission s).Settled := by
  have hsame := startTransmission_same s
  exact ⟨hsame.evalDue.trans h.1, hsame.abandonDue.trans h.2⟩

theorem Slots.eq_empty {x : Slots} (hdecl : x.declaration = none) (hnotice : x.notice = none) (hreply : x.reply = none)
    (hprobe : x.probe = none) (hbeacon : x.beacon = none) (hreport : x.report = none) : x = Slots.empty := by
  cases x
  simp_all [Slots.empty]

/-- The declaration slot passed over (R31). -/
def State.passed (s : State) : State := s.setSlots { s.lc.slots with declaration := none }

theorem startTransmission_of_declared {r : EventRec} (hslot : s.lc.slots.declaration.isSome = true) (howing : s.owing = some r) :
    startTransmission s = startDeclaration r s := by
  obtain ⟨x, hx⟩ := Option.isSome_iff_exists.mp hslot
  simp only [startTransmission, hx, howing]

theorem startTransmission_of_passed (h : ¬(s.lc.slots.declaration.isSome = true ∧ s.owing.isSome = true)) :
    startTransmission s = arbitrateRest s.passed := by
  cases hslot : s.lc.slots.declaration with
  | none =>
    have hsame : s.passed = s := by
      have : ({ s.lc.slots with declaration := none } : Slots) = s.lc.slots := by rw [← hslot]
      unfold State.passed
      rw [this]
      rfl
    rw [hsame]
    simp only [startTransmission, hslot]
  | some x =>
    have howing : s.owing = none := by simpa [hslot] using h
    simp only [startTransmission, hslot, howing]
    rfl

theorem tx_none_of_canTransmit (h : s.canTransmit = true) : s.lc.tx = none := by
  cases htx : s.lc.tx with
  | none => rfl
  | some f => simp [State.canTransmit, htx] at h

/-- A filled slot is sent. -/
theorem startTransmission_tx (h : (s.lc.slots.declaration.isSome = true ∧ s.owing.isSome = true) ∨ s.lc.slots.notice.isSome = true ∨
    s.lc.slots.reply.isSome = true ∨ s.lc.slots.probe.isSome = true ∨ s.lc.slots.beacon.isSome = true ∨
    s.lc.slots.report.isSome = true) : (startTransmission s).lc.tx.isSome = true := by
  by_cases hdecl : s.lc.slots.declaration.isSome = true ∧ s.owing.isSome = true
  · obtain ⟨r, hr⟩ := Option.isSome_iff_exists.mp hdecl.2
    rw [startTransmission_of_declared hdecl.1 hr]
    rfl
  · rw [startTransmission_of_passed hdecl]
    unfold arbitrateRest
    split
    case h_4 => rw [startBeacon_lc]; rfl
    case h_6 hnotice hreply hprobe hbeacon hreport =>
      have hrest : s.passed.lc.slots = { s.lc.slots with declaration := none } := rfl
      simp_all
    all_goals rfl

/-- What `State.Sends` says of the frame and of the link. -/
theorem State.Sends.sent {owner : TxOwner} {kind : FrameKind} {target : Nat} {wake muster : Bool} {body : List Byte}
    (h : s.Sends t owner kind target wake muster body) : ∃ f : TxFrame, t.lc.tx = some f ∧ f.owner = owner ∧ f.wake = wake ∧
      f.body = body ∧ f.stamp = none ∧
      f.header = [BitVec.ofNat 8 (kind.code + 16 * s.ownId),
        BitVec.ofNat 8 (target + (if wake then 16 else 0) + (if muster then 32 else 0) + (if s.cs.defaulted then 64 else 0) +
          (if s.lc.idConflict then 128 else 0)),
        BitVec.ofNat 8 body.length, BitVec.ofNat 8 s.lc.ownSeq] ∧
      t.lc.ownSeq = (s.lc.ownSeq + 1) % 256 ∧ t.lc.access = .idle ∧ t.lc.attempt = 0 ∧ t.tb = s.tb ∧ t.peers = s.peers ∧
      t.count .musterBeacons = if muster then min (s.count .musterBeacons + 1) 65535 else s.count .musterBeacons :=
  ⟨_, h.tx, rfl, rfl, rfl, rfl, headerBytes_eq, h.ownSeq, h.access, h.attempt, h.tb, h.peers, h.musters⟩

/-- What was started behind the declaration slot was started in `s`. -/
theorem State.Sends.of_passed {owner : TxOwner} {kind : FrameKind} {target : Nat} {wake muster : Bool} {body : List Byte}
    (h : s.passed.Sends t owner kind target wake muster body) : s.Sends t owner kind target wake muster body :=
  ⟨h.tx, h.ownSeq, h.access, h.attempt, h.tb, h.peers, h.musters⟩

section
variable (hnotice : s.lc.slots.notice = none) (hreply : s.lc.slots.reply = none) (hprobe : s.lc.slots.probe = none)
  (hbeacon : s.lc.slots.beacon = none)

theorem arbitrateRest_of_notice {q : NoticeReq} (h : s.lc.slots.notice = some q) : arbitrateRest s = startNotice q s := by
  simp only [arbitrateRest, h]

include hnotice in
theorem arbitrateRest_of_reply {q : ReplyReq} (h : s.lc.slots.reply = some q) : arbitrateRest s = startReply q s := by
  simp only [arbitrateRest, hnotice, h]

include hnotice hreply in
theorem arbitrateRest_of_probe {q : ProbeReq} (h : s.lc.slots.probe = some q) : arbitrateRest s = startProbe q s := by
  simp only [arbitrateRest, hnotice, hreply, h]

include hnotice hreply hprobe in
theorem arbitrateRest_of_beacon {q : BeaconReq} (h : s.lc.slots.beacon = some q) : arbitrateRest s = startBeacon q s := by
  simp only [arbitrateRest, hnotice, hreply, hprobe, h]

include hnotice hreply hprobe hbeacon in
theorem arbitrateRest_of_report {q : ReportReq} (h : s.lc.slots.report = some q) : arbitrateRest s = startReport q s := by
  simp only [arbitrateRest, hnotice, hreply, hprobe, hbeacon, h]

include hnotice hreply hprobe hbeacon in
theorem arbitrateRest_of_none (h : s.lc.slots.report = none) :
    arbitrateRest s = s.setLc { s.lc with access := .idle, busy := false, attempt := 0 } := by
  simp only [arbitrateRest, hnotice, hreply, hprobe, hbeacon, h]

end

/-! ## The muster and the body of a BEACON -/

theorem awakeCount_eq : s.awakeCount = 1 + s.peers.countP (fun r => r.mode == some .active || r.mode == some .economy) := by
  rw [State.awakeCount, List.countP_eq_length_filter]
  rfl

theorem isMuster_and_present {mark : BeaconMark} : (s.isMuster mark && s.dormantPresent) = s.isMuster mark := by
  unfold State.isMuster State.musterCondition
  cases s.dormantPresent <;> simp

theorem isMuster_eq {mark : BeaconMark} : s.isMuster mark =
    (mark == .ordinary && (s.mc.standing == .active || s.mc.standing == .watching) &&
      decide (1 + s.peers.countP (fun r => r.mode == some .active || r.mode == some .economy) < s.cs.image.mWatch + 1) &&
      s.dormantPresent) := by
  rw [State.isMuster, State.musterCondition, awakeCount_eq, ← Bool.and_assoc]

theorem beaconBody_eq {mark : BeaconMark} : s.beaconBody mark =
    { stamp := 0, quality := s.tb.quality, distance := s.tb.distance, mode := s.announcedMode mark, cls := s.bm.cls
      code := if s.announcedMode mark = .active ∨ s.announcedMode mark = .economy then s.cs.image.b else s.cs.image.b + 4
      trig := s.td.state, lastOnset := s.td.lastOnset, peak := s.td.peak, unset := s.tb.unset } := by
  have hcode : s.announcedCode mark =
      if s.announcedMode mark = .active ∨ s.announcedMode mark = .economy then s.cs.image.b else s.cs.image.b + 4 := by
    unfold State.announcedCode
    cases s.announcedMode mark <;> rfl
  rw [State.beaconBody, hcode]

end
end Sys2Proof.Machine

section
open Sys2Proof Sys2Proof.Machine
set_option Elab.async false

/-- Settles O26. -/
theorem backoffDrawsAndCounts : Obligations.BackoffDrawsAndCounts := by
  refine ⟨fun s hbusy haccess => ⟨_, Nat.mod_lt _ (by positivity), rfl, next_ite_pos (by simp [hbusy, haccess])⟩,
    fun s hlow htx haccess => ?_, fun s hhigh => ?_,
    fun s n hset haccess hbusy hcan hlow hquiet hfilled => ?_, fun s n haccess hnot => ?_⟩
  · show Host.Outcome.next (if s.pins.lkCd == true then s else _) = _
    simp [hlow, carrierRise, htx, haccess]
  · show Host.Outcome.next (if s.pins.lkCd == false then s else _) = _
    simp [hhigh, State.now]
  · have htx := tx_none_of_canTransmit hcan
    have hexec : exec .backoffComplete s = .next (finish (startTransmission s)) := by
      show execBackoffComplete s = _
      rw [execBackoffComplete, haccess]
      exact next_ite_pos (by simp [hbusy, hcan, State.quietFor, hlow, htx, hquiet])
    have hstart := startTransmission_started (s := s)
    have hlc := finish_lc_of_started (startTransmission_settled hset) hstart
    obtain ⟨hidle, hfree, hzero, -⟩ := hstart
    refine ⟨_, hexec, ?_, ?_, ?_, ?_⟩
    · rw [hlc]; exact startTransmission_tx hfilled
    · rw [hlc, hidle]
    · rw [hlc, hzero]
    · rw [hlc, hfree]
  · show execBackoffComplete s = _
    rw [execBackoffComplete, haccess]
    refine next_ite_neg ?_
    rcases hnot with hhigh | hearly
    · simp [State.quietFor, hhigh]
    · simp [State.quietFor, Nat.not_le.mpr hearly]

/-- Settles O27: down the chain of priorities, each filled slot by its own start. -/
theorem guardEndsInTheHighestPriority : Obligations.GuardEndsInTheHighestPriority := by
  intro s hset haccess hbusy hcan hlow hquiet
  have htx : s.lc.tx = none := tx_none_of_canTransmit hcan
  let t := startTransmission s
  have hstart : t.lc.started := startTransmission_started
  have htset : t.Settled := startTransmission_settled hset
  have hlc : (finish t).lc = t.lc := finish_lc_of_started htset hstart
  have hsent {owner : TxOwner} {kind : FrameKind} {target : Nat} {wake muster : Bool} {body : List Byte}
      (h : s.Sends t owner kind target wake muster body) := (h.finish htset hstart).sent
  refine ⟨finish t, next_ite_pos (by simp [haccess, hbusy, hcan, State.quietFor, hlow, htx, hquiet]),
    fun r hslot howing => ?_, fun hnot => ?_⟩
  · have ht : t = startDeclaration r s := startTransmission_of_declared hslot howing
    exact ⟨hsent (ht ▸ startDeclaration_sends), by rw [hlc, ht]; rfl⟩
  · have ht : t = arbitrateRest s.passed := startTransmission_of_passed hnot
    have hthen {u : State} (h : arbitrateRest s.passed = u) : t = u := ht.trans h
    refine ⟨fun q hq => ?_, fun hnotice => ⟨fun q hq => ?_, fun hreply => ⟨fun q hq => ?_, fun hprobe => ⟨fun q hq => ?_,
      fun hbeacon => ⟨fun q hq => ?_, fun hreport => ?_⟩⟩⟩⟩⟩
    · have ht := hthen (arbitrateRest_of_notice hq)
      exact ⟨hsent (ht ▸ startNotice_sends.of_passed), by rw [hlc, ht]; rfl⟩
    · have ht := hthen (arbitrateRest_of_reply (s := s.passed) hnotice hq)
      exact ⟨hsent (ht ▸ startReply_sends.of_passed), by rw [hlc, ht]; rfl⟩
    · have ht := hthen (arbitrateRest_of_probe (s := s.passed) hnotice hreply hq)
      exact ⟨hsent (ht ▸ startProbe_sends.of_passed), by rw [hlc, ht]; rfl⟩
    · have ht := hthen (arbitrateRest_of_beacon (s := s.passed) hnotice hreply hprobe hq)
      have hsends := startBeacon_sends (s := s.passed) (q := q)
      rw [isMuster_and_present, isMuster_eq, beaconBody_eq] at hsends
      exact ⟨hsent (ht ▸ hsends.of_passed), by rw [hlc, ht, startBeacon_lc]; rfl⟩
    · have ht := hthen (arbitrateRest_of_report (s := s.passed) hnotice hreply hprobe hbeacon hq)
      exact ⟨hsent (ht ▸ startReport_sends.of_passed), by rw [hlc, ht]; rfl⟩
    · have ht := hthen (arbitrateRest_of_none (s := s.passed) hnotice hreply hprobe hbeacon hreport)
      rw [hlc, ht]
      refine ⟨htx, ?_, rfl, rfl, rfl⟩
      exact Slots.eq_empty rfl hnotice hreply hprobe hbeacon hreport

end

/-! PROOFS. Reception: frames that are discarded, probes and replies. -/
namespace Sys2Proof.Machine
set_option Elab.async false

section
variable {s t : State} {stamp : RxStamp} {hdr : Header} {rest : List Byte} {f : RxFrame}

/-- The station while the receiver hunts. -/
def State.hunts (s : State) : State := s.setLc { s.lc with rx := .hunting }

@[simp] theorem hunts_leaves :
    s.hunts.pending = s.pending ∧ s.hunts.pins = s.pins ∧ s.hunts.tb = s.tb ∧ s.hunts.rmu = s.rmu ∧ s.hunts.peers = s.peers ∧
    s.hunts.tau = s.tau ∧ s.hunts.si = s.si ∧ s.hunts.td = s.td ∧ s.hunts.cu = s.cu ∧ s.hunts.uc = s.uc ∧ s.hunts.bm = s.bm ∧
    s.hunts.hc = s.hc ∧ s.hunts.mc = s.mc ∧ s.hunts.twm = s.twm ∧ s.hunts.cs = s.cs ∧ s.hunts.counters = s.counters := by
  simp [State.hunts]

@[simp] theorem hunts_lc : s.hunts.lc = { s.lc with rx := .hunting } := rfl
@[simp] theorem hunts_count {c : Counter} : s.hunts.count c = s.count c := rfl

/-- A change that no follow-up reads leaves a station at rest at rest. -/
theorem State.Rested.finish_self (h : s.Rested) (htb : t.tb = s.tb := by simp) (huc : t.uc = s.uc := by simp)
    (hmc : t.mc = s.mc := by simp) (htwm : t.twm = s.twm := by simp) (hcs : t.cs = s.cs := by simp)
    (hslots : t.lc.slots = s.lc.slots := by simp) (haccess : t.lc.access = s.lc.access := by simp)
    (hbusy : t.lc.busy = s.lc.busy := by simp) (hattempt : t.lc.attempt = s.lc.attempt := by simp)
    (htx : t.lc.tx = s.lc.tx := by simp) : finish t = t := by
  rw [h.finish_eq htb huc hmc htwm (by rw [hcs])]
  refine lcKick_of_rests t ?_
  have hcan := canTransmit_congr (s := s) (t := t) (by rw [htx]) hmc (by rw [hcs])
  have hlink := h.link
  unfold State.LinkRests at hlink ⊢
  rw [hslots, haccess, hbusy, hattempt, hcan]
  exact hlink

theorem endCapture_of_free {woken : Bool} (h : s.mc.capture = none) : endCapture woken s = s := by simp [endCapture, h]

/-- A complete frame is judged, and the receiver hunts (R36, R37). -/
theorem State.Receives.receiveFrame (h : s.Receives stamp hdr rest) :
    receiveFrame rest s = Machine.finish (takeFrame { hdr, rest } stamp s.hunts) := by
  unfold Machine.receiveFrame
  rw [h.taken, h.silent]
  exact if_pos h.whole

theorem hunts_judge : s.hunts.judge f = s.judge f := rfl

/-- A frame that is discarded is counted under its reason (R37). -/
theorem State.Receives.discarded {reason : Counter} (h : s.Receives stamp hdr rest) (hrest : s.Rested)
    (hj : s.judge { hdr, rest } = .discarded reason) : Machine.receiveFrame rest s = bump reason s.hunts := by
  rw [h.receiveFrame]
  unfold takeFrame
  rw [hunts_judge, hj]
  dsimp only
  rw [endCapture_of_free (by simpa using h.free), hrest.finish_self]

theorem State.Receives.conflict (h : s.Receives stamp hdr rest) (hrest : s.Rested) (hj : s.judge { hdr, rest } = .conflict) :
    Machine.receiveFrame rest s = bump .idConflicts (s.setLc { s.lc with rx := .hunting, idConflict := true }) := by
  rw [h.receiveFrame]
  unfold takeFrame
  rw [hunts_judge, hj]
  dsimp only
  rw [endCapture_of_free (by simpa using h.free), hrest.finish_self]
  rfl

theorem State.Receives.ignored (h : s.Receives stamp hdr rest) (hrest : s.Rested) (hj : s.judge { hdr, rest } = .ignored) :
    Machine.receiveFrame rest s = s.hunts := by
  rw [h.receiveFrame]
  unfold takeFrame
  rw [hunts_judge, hj]
  dsimp only
  rw [endCapture_of_free (by simpa using h.free), hrest.finish_self]

/-- Test 5 of R37 in words. -/
theorem senderWrong_iff {sender : Nat} {kind : FrameKind} : senderWrong sender kind = true ↔
    sender = 0 ∨ (sender = 15 ∧ kind ≠ .serviceRequest) ∨ (sender ≠ 15 ∧ kind = .serviceRequest) := by
  by_cases h15 : sender = 15 <;> by_cases hk : kind = .serviceRequest <;> simp [senderWrong, h15, hk]

theorem senderWrong_of_fits {sender : Nat} {kind : FrameKind} (h0 : sender ≠ 0) (h : sender = 15 ↔ kind = .serviceRequest) :
    senderWrong sender kind = false := by
  rw [← Bool.not_eq_true, senderWrong_iff]
  tauto

/-! ## Accepted frames -/

/-- What the tests of R37 say of an accepted frame. -/
theorem judge_accepted {kind : FrameKind} {body : Body} (h : s.judge f = .accepted kind body) :
    frameKindOf f.hdr.kindCode = some kind ∧ senderWrong f.hdr.sender kind = false ∧
    readBody kind f.hdr.target f.body = some body ∧ s.lastSequence f.hdr.sender ≠ some f.hdr.sequence.toNat := by
  unfold State.judge at h
  split at h
  · cases h
  · split at h
    · cases h
    · split at h
      · cases h
      · split at h
        · cases h
        · next hkind =>
          split at h
          · cases h
          · next hright =>
            split at h
            · cases h
            · next hbody =>
              split at h
              · cases h
              · next hseq =>
                injection h with hk hb
                subst hk hb
                exact ⟨hkind, by simpa using hright, hbody, by simpa using hseq⟩

/-- Only a SERVICE REQUEST comes from the terminal (R37). -/
theorem judge_sender {kind : FrameKind} {body : Body} (h : s.judge f = .accepted kind body) (hk : kind ≠ .serviceRequest) :
    f.hdr.sender ≠ 15 := by
  obtain ⟨-, hright, -⟩ := judge_accepted h
  rw [← Bool.not_eq_true, senderWrong_iff] at hright
  tauto

theorem acceptFrame_of_station {kind : FrameKind} {body : Body} (h : f.hdr.sender ≠ 15) : acceptFrame f stamp kind body s =
    deliver f stamp body (ptTake (f.facts stamp kind) (bump .framesAccepted s)) := by
  simp only [acceptFrame, h, if_false]

/-- An accepted frame, no capture running (R40). -/
theorem State.Receives.accepted {kind : FrameKind} {body : Body} (h : s.Receives stamp hdr rest)
    (hj : s.judge { hdr, rest } = .accepted kind body)
    (hfree : (acceptFrame { hdr, rest } stamp kind body s.hunts).mc.capture = none) :
    Machine.receiveFrame rest s = Machine.finish (acceptFrame { hdr, rest } stamp kind body s.hunts) := by
  rw [h.receiveFrame]
  unfold takeFrame
  rw [hunts_judge, hj]
  dsimp only
  rw [endCapture_of_free hfree]

/-! ## The sender's record -/

theorem find?_insertBy_same {α : Type} {le : α → α → Bool} {p : α → Bool} {x : α} {xs : List α} (h : ∀ y ∈ xs, p y = false)
    (hx : p x = true) : (insertBy le x xs).find? p = some x := by
  induction xs with
  | nil => simp [insertBy, hx]
  | cons y ys ih =>
    unfold insertBy
    split
    · rw [List.find?_cons_of_neg (by simp [h y]), ih fun z hz => h z (List.mem_cons_of_mem _ hz)]
    · rw [List.find?_cons_of_pos hx]

theorem find?_insertBy_other {α : Type} {le : α → α → Bool} {p : α → Bool} {x : α} {xs : List α} (hx : p x = false) :
    (insertBy le x xs).find? p = xs.find? p := by
  induction xs with
  | nil => simp [insertBy, hx]
  | cons y ys ih =>
    unfold insertBy
    split
    · rw [List.find?_cons, List.find?_cons, ih]
    · rw [List.find?_cons_of_neg (by simp [hx])]

theorem wakeMode_eq {b : Bool} {r : PeerRecord} :
    wakeMode b r = { r with mode := if b || r.isAwake then r.mode else some .economy } := by
  unfold wakeMode
  split <;> rfl

theorem wakeMode_isAwake {r : PeerRecord} : (wakeMode false r).isAwake = true := by
  unfold wakeMode
  split
  · next h => simpa using h
  · rfl

theorem ringPush_eq {n : Nat} {r : PeerRecord} : ringPush n r =
    { r with ring := (ringPush n r).ring, ringSum := (ringPush n r).ringSum, counted := (ringPush n r).counted } := by
  unfold ringPush
  split <;> rfl

/-- What the header of a frame leaves and what it writes (R45). -/
theorem touchPeer_facts {eGood ePoor : Nat} {x : HeaderFacts} {r : PeerRecord} :
    (touchPeer eGood ePoor x r).id = r.id ∧ (touchPeer eGood ePoor x r).lastSeq = x.seq ∧
    (touchPeer eGood ePoor x r).lastHeard = x.moment ∧ (touchPeer eGood ePoor x r).heldAge = none := by
  unfold touchPeer
  rw [wakeMode_eq, ringPush_eq]
  exact ⟨rfl, rfl, rfl, rfl⟩

/-- The sender's record once the header of an accepted frame is taken (R44, R45, R50). -/
def takenPeer (x : HeaderFacts) (s : State) : PeerRecord :=
  let r := match s.peer x.sender with
    | some r => touchPeer s.cs.image.eGood s.cs.image.ePoor x r
    | none => wakeMode x.isBeacon (newPeer x)
  if s.dormant then { r with heldAge := some 0 } else r

/-- The header facts move the sender's record and no other (R44, R45). -/
theorem peer_ptTake {x : HeaderFacts} {id : Nat} :
    (ptTake x s).peer id = if id = x.sender then some (takenPeer x s) else s.peer id := by
  cases hr : s.peer x.sender with
  | some r =>
    have hupd : ptTake x s = updPeer x.sender (fun r =>
        if s.dormant then { touchPeer s.cs.image.eGood s.cs.image.ePoor x r with heldAge := some 0 }
        else touchPeer s.cs.image.eGood s.cs.image.ePoor x r) s := by simp only [ptTake, hr]
    rw [hupd, peer_updPeer (fun r => by split <;> simp [touchPeer_facts]), hr]
    simp only [takenPeer, hr, Option.map_some]
  | none =>
    have hnew : ptTake x s = s.setPeers (insertBy peerLe (takenPeer x s) s.peers) := by simp only [ptTake, takenPeer, hr]
    have hid : (takenPeer x s).id = x.sender := by
      simp only [takenPeer, hr]
      split <;> simp [wakeMode_eq, newPeer]
    have habsent : ∀ r ∈ s.peers, (r.id == x.sender) = false := by
      simpa [State.peer] using hr
    rw [hnew, State.peer, setPeers_peers]
    split
    · next heq =>
      subst heq
      exact find?_insertBy_same habsent (by simp [hid])
    · next hne => exact find?_insertBy_other (by simpa [hid] using Ne.symm hne)

/-- The record taken beside its held age, which only own dormancy sets (R44, R45, R50). -/
theorem takenPeer_facts {x : HeaderFacts} : (takenPeer x s).lastSeq = x.seq ∧ (takenPeer x s).lastHeard = x.moment ∧
    (x.isBeacon = false → (takenPeer x s).isAwake = true) := by
  have hheld {r : PeerRecord} : (if s.dormant then { r with heldAge := some 0 } else r).isAwake = r.isAwake := by split <;> rfl
  cases hr : s.peer x.sender with
  | some r =>
    simp only [takenPeer, hr, hheld]
    refine ⟨by split <;> simp [touchPeer_facts], by split <;> simp [touchPeer_facts], fun h => ?_⟩
    rw [touchPeer, h]
    exact wakeMode_isAwake
  | none =>
    simp only [takenPeer, hr, hheld]
    refine ⟨by split <;> simp [wakeMode_eq, newPeer], by split <;> simp [wakeMode_eq, newPeer], fun h => ?_⟩
    rw [h]
    exact wakeMode_isAwake

/-- The header of an accepted frame is taken: the frame is counted, and its sender's record written (R40). -/
def headerTaken (f : RxFrame) (stamp : RxStamp) (kind : FrameKind) (s : State) : State :=
  ptTake (f.facts stamp kind) (bump .framesAccepted s.hunts)

@[simp] theorem headerTaken_leaves {kind : FrameKind} :
    (headerTaken f stamp kind s).pins = s.pins ∧ (headerTaken f stamp kind s).tb = s.tb ∧
    (headerTaken f stamp kind s).rmu = s.rmu ∧ (headerTaken f stamp kind s).tau = s.tau ∧
    (headerTaken f stamp kind s).si = s.si ∧ (headerTaken f stamp kind s).td = s.td ∧ (headerTaken f stamp kind s).cu = s.cu ∧
    (headerTaken f stamp kind s).uc = s.uc ∧ (headerTaken f stamp kind s).bm = s.bm ∧ (headerTaken f stamp kind s).hc = s.hc ∧
    (headerTaken f stamp kind s).mc = s.mc ∧ (headerTaken f stamp kind s).twm = s.twm ∧
    (headerTaken f stamp kind s).cs = s.cs ∧ (headerTaken f stamp kind s).lc = { s.lc with rx := .hunting } := by
  simp [headerTaken]

theorem headerTaken_count {kind : FrameKind} {c : Counter} : (headerTaken f stamp kind s).count c =
    if c = .framesAccepted then min (s.count c + 1) 65535 else s.count c := by
  have hsame : (headerTaken f stamp kind s).count c = (bump .framesAccepted s).count c :=
    (count_of_counters_eq (t := bump .framesAccepted s.hunts) (by simp [headerTaken])).symm.trans rfl
  rw [hsame, count_bump]
  simp only [eq_comm]

/-- The sender's record after its header. -/
theorem headerTaken_peer {kind : FrameKind} :
    (headerTaken f stamp kind s).peer f.hdr.sender = some (takenPeer (f.facts stamp kind) s) := by
  rw [headerTaken, peer_ptTake]
  exact if_pos rfl

/-- An accepted frame of a station, no capture running (R40). -/
theorem State.Receives.delivered {kind : FrameKind} {body : Body} (h : s.Receives stamp hdr rest)
    (hj : s.judge { hdr, rest } = .accepted kind body) (hk : kind ≠ .serviceRequest)
    (ht : deliver { hdr, rest } stamp body (headerTaken { hdr, rest } stamp kind s) = t) (hmc : t.mc.capture = s.mc.capture) :
    Machine.receiveFrame rest s = Machine.finish t := by
  have hacc : acceptFrame { hdr, rest } stamp kind body s.hunts = t := (acceptFrame_of_station (judge_sender hj hk)).trans ht
  rw [h.accepted hj (by rw [hacc, hmc, h.free]), hacc]

theorem peer_of_peers_eq {id : Nat} (h : t.peers = s.peers) : t.peer id = s.peer id := congrArg (List.find? _) h

/-- A RANGE REPLY of the exchange measures the delay and ends the exchange (R63). -/
def replyMeasured (sender : Nat) (b : ReplyBody) (t4 : RxStamp) (s : State) : State :=
  let x := exchangeResult b.t1 b.t2 b.t3 t4.time
  let d := (clampInt x.1 0 65535).toNat
  let s := bumpIf (decide (x.1 < 0 ∨ 65535 < x.1)) .rangingAnomalies s
  let s := updPeer sender
    (fun r => { r with ranging := .ranged, delay := some d, rangeTime := some t4.moment, attempts := 0 }) s
  endExchange (s.setTau { s.tau with lastExchange := some { peer := sender, delay := d, offset := x.2 } })

theorem replyMeasured_peer {sender : Nat} {b : ReplyBody} : (replyMeasured sender b stamp s).peer sender =
    (s.peer sender).map fun r => { r with
      ranging := .ranged, delay := some (clampInt (exchangeResult b.t1 b.t2 b.t3 stamp.time).1 0 65535).toNat
      rangeTime := some stamp.moment, attempts := 0 } := by
  have hbump {c : Bool} : (bumpIf c .rangingAnomalies s).peer sender = s.peer sender := peer_of_peers_eq (by simp)
  have hend {u : State} : (endExchange u).peer sender = u.peer sender := peer_of_peers_eq (by simp)
  unfold replyMeasured
  dsimp only
  rw [hend, ← hbump]
  exact (peer_updPeer (x := sender)).trans (if_pos rfl)

theorem replyMeasured_tau {sender : Nat} {b : ReplyBody} : (replyMeasured sender b stamp s).tau = { s.tau with
    probe := none, rest := some { start := s.now, period := secs 1 }
    lastExchange := some
      { peer := sender, delay := (clampInt (exchangeResult b.t1 b.t2 b.t3 stamp.time).1 0 65535).toNat
        offset := (exchangeResult b.t1 b.t2 b.t3 stamp.time).2 } } := by
  simp [replyMeasured, State.startTimer, State.now]

theorem replyMeasured_slots {sender : Nat} {b : ReplyBody} :
    (replyMeasured sender b stamp s).lc.slots = { s.lc.slots with probe := none } := by
  simp [replyMeasured]

theorem replyMeasured_anomalies {sender : Nat} {b : ReplyBody} : (replyMeasured sender b stamp s).count .rangingAnomalies =
    if (exchangeResult b.t1 b.t2 b.t3 stamp.time).1 < 0 ∨ 65535 < (exchangeResult b.t1 b.t2 b.t3 stamp.time).1 then
      min (s.count .rangingAnomalies + 1) 65535 else s.count .rangingAnomalies := by
  simp [replyMeasured]

theorem clampInt_delay {x : Int} : (clampInt x 0 65535).toNat = if x < 0 then 0 else if 65535 < x then 65535 else x.toNat := by
  unfold clampInt
  split
  · rfl
  · split <;> rfl

theorem tauReply_of_exchange {sender : Nat} {b : ReplyBody} {p : ProbeSlot} {x : Stamp} (hp : s.tau.probe = some p)
    (htarget : p.target = sender) (hx : p.t1 = some x) (ht1 : x.time = b.t1) :
    tauReply sender b stamp s = if (b.t3 : Int) - b.t2 < 0 ∨ 471859 < (b.t3 : Int) - b.t2 then bump .rangingAnomalies s
      else replyMeasured sender b stamp s := by
  simp [tauReply, hp, htarget, hx, ht1, replyMeasured]

/-- A RANGE PROBE on the fast source fills the REPLY slot (R61). -/
theorem tauProbe_lc {sender : Nat} {t1 : StationTime} (hawake : s.awake = true) (hlisten : s.listenOnly = false) :
    (tauProbe sender t1 stamp s).lc.slots = if stamp.fast then { s.lc.slots with
        reply := some { moment := s.now, target := sender, t1 := t1, t2 := { time := stamp.time, moment := stamp.moment } } }
      else s.lc.slots := by
  unfold tauProbe requestReply State.lcTakes
  cases stamp.fast <;> simp [hawake, hlisten]

end
end Sys2Proof.Machine

section
open Sys2Proof Sys2Proof.Machine
set_option Elab.async false

/-- Settles O34: down the tests of R37. -/
theorem discardedFramesChangeOnlyTheirCounter : Obligations.DiscardedFramesChangeOnlyTheirCounter := by
  intro s stamp hdr rest hrec hrest
  refine ⟨fun hcrc => ?_, fun hcrc => ⟨fun hown hsender => ?_, fun hother => ⟨fun h0 h1 => ?_, fun htarget => ⟨fun hkind => ?_,
    fun kind hkind => ⟨fun hwrong => ?_, fun hs0 hs15 => ⟨fun hbody => ?_, fun body hbody hseq => ?_⟩⟩⟩⟩⟩⟩
  · have hj : s.judge { hdr, rest } = .discarded .discardCrc := by
      simp [State.judge, RxFrame.crcGood, hcrc]
    exact congrArg Host.Outcome.next (hrec.discarded hrest hj)
  all_goals have hgood : RxFrame.crcGood { hdr, rest } = true := beq_iff_eq.mpr hcrc
  · have hj : s.judge { hdr, rest } = .conflict := by simp [State.judge, hgood, hown, hsender]
    exact congrArg Host.Outcome.next (hrec.conflict hrest hj)
  all_goals have hnot : (!s.listenOnly && hdr.sender == s.ownId) = false := by rcases hother with h | h <;> simp [h]
  · have hj : s.judge { hdr, rest } = .ignored := by simp only [State.judge, hgood, hnot]; simp [h0, h1]
    exact congrArg Host.Outcome.next (hrec.ignored hrest hj)
  all_goals have hmine : ¬(hdr.target ≠ 0 ∧ hdr.target ≠ s.ownId) := by tauto
  · have hj : s.judge { hdr, rest } = .discarded .discardKind := by simp [State.judge, hgood, hnot, hmine, hkind]
    exact congrArg Host.Outcome.next (hrec.discarded hrest hj)
  · have hj : s.judge { hdr, rest } = .discarded .discardSender := by
      simp [State.judge, hgood, hnot, hmine, hkind, senderWrong_iff.mpr hwrong]
    exact congrArg Host.Outcome.next (hrec.discarded hrest hj)
  all_goals have hright : senderWrong hdr.sender kind = false := senderWrong_of_fits hs0 hs15
  · have hj : s.judge { hdr, rest } = .discarded .discardMalformed := by
      simp [State.judge, hgood, hnot, hmine, hkind, hright, hbody]
    exact congrArg Host.Outcome.next (hrec.discarded hrest hj)
  · have hj : s.judge { hdr, rest } = .discarded .discardRepeat := by
      simp [State.judge, hgood, hnot, hmine, hkind, hright, hbody, hseq]
    exact congrArg Host.Outcome.next (hrec.discarded hrest hj)

end

section
open Sys2Proof Sys2Proof.Machine
set_option Elab.async false

/-- Settles O38. -/
theorem probeIsAnsweredAndReportsAreNot : Obligations.ProbeIsAnsweredAndReportsAreNot := by
  intro s stamp hdr rest hrec hset hcd
  refine ⟨fun t1 hj hawake hlisten => ?_, fun hj => ?_⟩
  · let u := headerTaken { hdr, rest } stamp .probe s
    let t := tauProbe hdr.sender t1 stamp u
    have htset : t.Settled := by simpa [State.Settled, t, u] using hset
    have hframe : receiveFrame rest s = finish t := hrec.delivered hj (by simp) rfl (by simp [t, u])
    have hslots := tauProbe_lc (s := u) (stamp := stamp) (sender := hdr.sender) (t1 := t1) (by simpa [u, State.awake] using hawake)
      (by simpa [u, State.listenOnly, State.ownId] using hlisten)
    obtain ⟨-, -, htb, -, -, htau, -, -, -, -, hcs, -⟩ := finish_leaves_settled t htset
    obtain ⟨a, b, m, hlc⟩ := finish_lc_of_busy htset (by simpa [t, u] using hcd)
    refine ⟨finish t, congrArg Host.Outcome.next hframe, ?_, ?_, ?_, ?_, ?_, ?_⟩
    · rw [hlc]
      simpa [t, u, State.now] using hslots
    · have hcount : t.count .framesAccepted = u.count .framesAccepted := count_of_counters_eq (by simp [t])
      rw [finish_count htset, hcount, headerTaken_count, if_pos rfl]
    all_goals simp [htau, htb, hcs, finish_entries htset, t, u]
  · let t := headerTaken { hdr, rest } stamp .serviceReport s
    have htset : t.Settled := by simpa [State.Settled, t] using hset
    have hframe : receiveFrame rest s = finish t := hrec.delivered hj (by simp) rfl (by simp [t])
    obtain ⟨-, -, htb, -, hpeers, htau, -, -, -, -, hcs, -⟩ := finish_leaves_settled t htset
    obtain ⟨a, b, m, hlc⟩ := finish_lc_of_busy htset (by simpa [t] using hcd)
    obtain ⟨hseq, hheard, hawake⟩ :=
      takenPeer_facts (x := RxFrame.facts { hdr, rest } stamp .serviceReport) (s := s)
    refine ⟨finish t, _, congrArg Host.Outcome.next hframe,
      (peer_of_peers_eq hpeers).trans (headerTaken_peer (f := { hdr, rest })), ?_, hseq, hheard, hawake rfl, ?_, ?_, ?_, ?_, ?_⟩
    · simp [hlc, t]
    · rw [finish_count htset, headerTaken_count, if_pos rfl]
    all_goals simp [htau, htb, hcs, finish_entries htset, t]

/-- Settles O39. -/
theorem replyMeasuresTheDelay : Obligations.ReplyMeasuresTheDelay := by
  intro s stamp hdr rest b hrec hset hcd hj
  let u := headerTaken { hdr, rest } stamp .reply s
  let t := tauReply hdr.sender b stamp u
  have hframe : receiveFrame rest s = finish t := hrec.delivered hj (by simp) rfl (by simp [t, u])
  have htset : t.Settled := by simpa [State.Settled, t, u] using hset
  obtain ⟨-, -, htb, hrmu, hpeers, htau, -, htd, hbm, hhc, hcs, -⟩ := finish_leaves_settled t htset
  obtain ⟨a, d, m, hlc⟩ := finish_lc_of_busy htset (by simpa [t, u] using hcd)
  refine ⟨finish t, congrArg Host.Outcome.next hframe, fun hnone => ?_,
    fun p x hp htarget hx hxt => ⟨fun hlo hhi => ?_, fun hout => ?_⟩, ?_⟩
  · have ht : t = bump .lateReplies u := by simp [t, tauReply, u, hnone]
    rw [htau, finish_count htset, ht]
    simp [u, headerTaken_count]
  · have ht : t = replyMeasured hdr.sender b stamp u :=
      (tauReply_of_exchange (s := u) (by simpa [u] using hp) htarget hx hxt).trans (if_neg (by omega))
    have hpeer := replyMeasured_peer (sender := hdr.sender) (b := b) (stamp := stamp) (s := u)
    rw [← ht, headerTaken_peer (f := { hdr, rest }), Option.map_some, clampInt_delay] at hpeer
    refine ⟨_, (peer_of_peers_eq hpeers).trans hpeer, rfl, rfl, rfl, rfl, ?_⟩
    rw [htau, hlc, finish_count htset, ht, replyMeasured_tau, replyMeasured_slots, replyMeasured_anomalies, clampInt_delay]
    simp [u, headerTaken_count, exchangeResult, State.now] <;> rfl
  · have ht : t = bump .rangingAnomalies u :=
      (tauReply_of_exchange (s := u) (by simpa [u] using hp) htarget hx hxt).trans (if_pos hout)
    rw [htau, finish_count htset, ht]
    simp [u, headerTaken_count]
  · simp [htb, hrmu, htd, hbm, hhc, hcs, finish_entries htset, t, u]

end

/-! PROOFS. The sample port and the windows of the grid. -/
namespace Sys2Proof.Machine
set_option Elab.async false

section
variable {s : State} {e : PortEdge}

theorem inSet_iff : s.si.inSet = true ↔ 1 ≤ s.si.bitCount ∧ s.si.bitCount ≤ 79 := by simp [SampleIf.inSet]

/-- A PARTIAL_SET without a run before it is its framed edge (log entry 43). -/
theorem exec_partialSet_nil (hf : e.frm = true) : exec (.partialSet [] e.bit) s = exec (.sampleSetComplete [e]) s := by
  cases e
  subst hf
  rfl

theorem exec_sampleSetComplete_one : exec (.sampleSetComplete [e]) s = .next (takeBit s e) := rfl

/-- The window of the expected slot closes by the figures of R82 and R85. -/
theorem windowClosed_iff {g : GridSlot} : s.windowClosed g = true ↔
    g.sec * 1048576 + g.index * 1048576 / sampleRate s.cs.image.sampleCode + s.cs.image.latency +
      1048576 / (8 * sampleRate s.cs.image.sampleCode) < s.tb.time := decide_eq_true_iff

end
end Sys2Proof.Machine

section
open Sys2Proof Sys2Proof.Machine
set_option Elab.async false

/-- Settles O46. -/
theorem partialSetIsDiscarded : Obligations.PartialSetIsDiscarded := by
  refine ⟨fun s e => ?_, fun s a b first => ?_, fun s g hg => ⟨fun hclosed => ?_, fun hopen => ?_⟩, fun s => ?_⟩
  · have hgives {t : State} (h : takeBit s e = t) : exec (.sampleSetComplete [e]) s = .next t ∧
        (e.frm = true → exec (.partialSet [] e.bit) s = .next t) := by
      have hone : exec (.sampleSetComplete [e]) s = .next t := h ▸ exec_sampleSetComplete_one
      exact ⟨hone, fun hf => (exec_partialSet_nil hf).trans hone⟩
    refine ⟨fun hoff => hgives (takeBit_off s e hoff), fun hon hf hin => hgives ?_, fun hon hf hout => hgives ?_,
      fun hon hf h1 h79 => hgives (takeBit_inSet s e hon hf h1 h79), fun hon hf hout => hgives (takeBit_unframed s e hf ?_)⟩
    · rw [takeBit_framed s e hon hf, startSet, inSet_iff.mpr hin]
      rfl
    · rw [takeBit_framed s e hon hf, startSet, Bool.eq_false_iff.mpr (mt inSet_iff.mp hout)]
      rfl
    · exact Bool.eq_false_iff.mpr (mt inSet_iff.mp hout)
  · exact ⟨takeBits a s, rfl, congrArg Host.Outcome.next (takeBits_append a b s), rfl⟩
  · refine ⟨closeOneWindow s, rfl, ?_⟩
    have hmove : closeOneWindow s = countMissing 1 (nextSlot s.rate g) s := by
      simp only [closeOneWindow, hg, windowClosed_iff.mpr hclosed, if_true]
    rw [hmove]
    refine ⟨?_, ?_, ?_⟩
    · simp [countMissing]
    · simp [countMissing, nextSlot, State.rate] <;> rfl
    · simp [countMissing, bumpBy]
  · have hstay : s.windowClosed g = false := Bool.eq_false_iff.mpr (mt windowClosed_iff.mp (Nat.not_lt.mpr hopen))
    show Host.Outcome.next (closeOneWindow s) = _
    simp [closeOneWindow, hg, hstay]
  · simp [siStop, siStart]

end

/-! PROOFS. The image of a configuration block. -/
namespace Sys2Proof.Machine
set_option Elab.async false

/-! ## Numbers of bytes -/

theorem foldl_bytes (bs : List Byte) (acc : Nat) :
    bs.foldl (fun acc b => acc * 256 + b.toNat) acc = acc * 256 ^ bs.length + fromBe bs := by
  induction bs generalizing acc with
  | nil => simp [fromBe]
  | cons b bs ih =>
    have hhead : fromBe (b :: bs) = (0 * 256 + b.toNat) * 256 ^ bs.length + fromBe bs := ih (0 * 256 + b.toNat)
    rw [List.foldl_cons, ih, hhead, List.length_cons, pow_succ]
    ring

theorem fromBe_cons (b : Byte) (bs : List Byte) : fromBe (b :: bs) = b.toNat * 256 ^ bs.length + fromBe bs := by
  rw [fromBe, List.foldl_cons, foldl_bytes]
  ring

theorem fromBe_lt (bs : List Byte) : fromBe bs < 256 ^ bs.length := by
  induction bs with
  | nil => simp [fromBe]
  | cons b bs ih =>
    have hb : b.toNat ≤ 255 := Nat.lt_succ_iff.mp b.isLt
    calc fromBe (b :: bs) = b.toNat * 256 ^ bs.length + fromBe bs := fromBe_cons b bs
      _ ≤ 255 * 256 ^ bs.length + fromBe bs := Nat.add_le_add_right (Nat.mul_le_mul_right _ hb) _
      _ < 256 ^ (bs.length + 1) := by rw [pow_succ]; omega

theorem num_lt (bs : List Byte) (i k : Nat) : num bs i k < 256 ^ k := by
  refine (fromBe_lt _).trans_le (Nat.pow_le_pow_right (by decide) ?_)
  simp [field]

section
variable {x lo hi v : Int}

/-! ## One field -/

theorem clampField_value : (clampField x lo hi).value = clampInt x lo hi := rfl

/-- The value taken lies in the range. -/
theorem clampField_value_range (h : lo ≤ hi) : lo ≤ (clampField x lo hi).value ∧ (clampField x lo hi).value ≤ hi := by
  rw [clampField_value, clampInt]
  omega

/-- A field that is never negative is stored as it was clamped. -/
theorem clampField_nat (hlo : 0 ≤ lo) (h : lo ≤ hi) : ((clampField x lo hi).nat : Int) = (clampField x lo hi).value :=
  Int.toNat_of_nonneg (hlo.trans (clampField_value_range h).1)

theorem clampField_range (hlo : 0 ≤ lo) (h : lo ≤ hi) :
    lo ≤ ((clampField x lo hi).nat : Int) ∧ ((clampField x lo hi).nat : Int) ≤ hi := by
  rw [clampField_nat hlo h]
  exact clampField_value_range h

/-- The nearest legal value is taken (R200). -/
def Nearest (v x lo hi : Int) : Prop := (x < lo → v = lo) ∧ (hi < x → v = hi) ∧ (lo ≤ x ∧ x ≤ hi → v = x)

theorem clampField_value_nearest (h : lo ≤ hi) : Nearest (clampField x lo hi).value x lo hi := by
  rw [clampField_value, clampInt, Nearest]
  omega

theorem clampField_nearest (hlo : 0 ≤ lo) (h : lo ≤ hi) : Nearest ((clampField x lo hi).nat : Int) x lo hi := by
  rw [clampField_nat hlo h]
  exact clampField_value_nearest h

/-! ## The fields of the image -/

/-- A value taken: in its range, and the nearest to the block's own (R200). -/
structure Legal (v x lo hi : Int) : Prop where
  low : lo ≤ v
  high : v ≤ hi
  nearest : Nearest v x lo hi

theorem clampField_legal (hlo : 0 ≤ lo) (h : lo ≤ hi) : Legal ((clampField x lo hi).nat : Int) x lo hi :=
  ⟨(clampField_range hlo h).1, (clampField_range hlo h).2, clampField_nearest hlo h⟩

theorem clampField_value_legal (h : lo ≤ hi) : Legal (clampField x lo hi).value x lo hi :=
  ⟨(clampField_value_range h).1, (clampField_value_range h).2, clampField_value_nearest h⟩

/-- Each clamped field of an image, with the value the block gives it and its range (R200). -/
structure Image.Legal (bs : List Byte) (i : Image) : Prop where
  linkCode : Machine.Legal i.linkCode ((num bs 1 1 : Int) / 4 % 4) 0 2
  sampleCode : Machine.Legal i.sampleCode ((num bs 1 1 : Int) / 16 % 4) 0 2
  uplinkCode : Machine.Legal i.uplinkCode ((num bs 1 1 : Int) / 64 % 4) 0 2
  b : Machine.Legal i.b (lowNibble bs 2) 2 6
  k : Machine.Legal i.k (highNibble bs 2) 4 8
  p : Machine.Legal i.p (blockNat bs 3 1) 14 20
  eGood : Machine.Legal i.eGood (blockNat bs 4 1) 0 255
  ePoor : Machine.Legal i.ePoor (blockNat bs 5 1) i.eGood 255
  latency : Machine.Legal i.latency (blockNat bs 6 3) 0 262143
  bSync : Machine.Legal i.bSync (blockNat bs 9 2) 0 1023
  mask : Machine.Legal i.mask (lowNibble bs 11) 1 7
  vote : Machine.Legal i.vote (highNibble bs 11) 1 3
  h : Machine.Legal i.h (lowNibble bs 12) 6 14
  aS : Machine.Legal i.aS (highNibble bs 12) 1 6
  aL : Machine.Legal i.aL (blockNat bs 13 1) (max 5 (i.aS + 3)) 12
  rOn : Machine.Legal i.rOn (blockNat bs 16 1) 24 255
  rOff : Machine.Legal i.rOff (blockNat bs 17 1) 16 (i.rOn - 1)
  rQuiet : Machine.Legal i.rQuiet (blockNat bs 18 1) 16 i.rOn
  hold : Machine.Legal i.hold (blockNat bs 19 1) 0 30
  tMax : Machine.Legal i.tMax (blockNat bs 20 2) 10 600
  wc : Machine.Legal i.wc (blockNat bs 22 1) 1 60
  quorum : Machine.Legal i.quorum (lowNibble bs 23) 2 14
  mWatch : Machine.Legal i.mWatch (highNibble bs 23) 1 13
  holdoffSlot : Machine.Legal i.holdoffSlot (blockNat bs 24 2) 100 1000
  closeDelay : Machine.Legal i.closeDelay (blockNat bs 26 1) 5 120
  maxLife : Machine.Legal i.maxLife (blockNat bs 27 2) 60 1800
  modemWarmUp : Machine.Legal i.modemWarmUp (blockNat bs 29 1) 5 120
  healthHours : Machine.Legal i.healthHours (blockNat bs 30 1) 1 24
  capacity : Machine.Legal i.capacity (blockNat bs 31 2) 1 1000
  vFull : Machine.Legal i.vFull (blockNat bs 33 2) 3000 60000
  vEmpty : Machine.Legal i.vEmpty (blockNat bs 35 2) 2000 (i.vFull - 1)
  vCutoff : Machine.Legal i.vCutoff (blockNat bs 37 2) 1000 (i.vEmpty - 1)
  iTaper : Machine.Legal i.iTaper (blockNat bs 39 2) 0 5000
  tCmin : Machine.Legal i.tCmin (blockInt bs 41) (-300) 300
  tCmax : Machine.Legal i.tCmax (blockInt bs 43) (i.tCmin + 20) 600
  batterySet : Machine.Legal i.batterySet (blockInt bs 45) (-300) 300
  chargeSet : Machine.Legal i.chargeSet (blockInt bs 47) (-300) 300
  sensorSet : Machine.Legal i.sensorSet (blockInt bs 49) (-300) 300
  deferB : Machine.Legal i.deferB (blockNat bs 51 1) 0 60
  deferS : Machine.Legal i.deferS (blockNat bs 52 1) 0 60
  wakeHold : Machine.Legal i.wakeHold (blockNat bs 54 2) 60 900
  batteryAddr : Machine.Legal i.batteryAddr (blockNat bs 56 1) 8 119
  sensorAAddr : Machine.Legal i.sensorAAddr (blockNat bs 57 1) 8 119
  sensorBAddr : Machine.Legal i.sensorBAddr (blockNat bs 58 1) 8 119
  receiverAddr : Machine.Legal i.receiverAddr (blockNat bs 59 1) 8 119

theorem imageOf_eGood (b : List Byte) : (clampField (blockNat b 4 1) 0 255).value = ((imageOf b).1.eGood : Int) :=
  (clampField_nat (by omega) (by omega)).symm

theorem imageOf_aS (b : List Byte) : (clampField (highNibble b 12) 1 6).value = ((imageOf b).1.aS : Int) :=
  (clampField_nat (by omega) (by omega)).symm

theorem imageOf_rOn (b : List Byte) : (clampField (blockNat b 16 1) 24 255).value = ((imageOf b).1.rOn : Int) :=
  (clampField_nat (by omega) (by omega)).symm

theorem imageOf_vFull_nat (b : List Byte) : (imageOf b).1.vFull = (clampField (blockNat b 33 2) 3000 60000).nat := by
  dsimp only [imageOf]

theorem imageOf_vFull (b : List Byte) : (clampField (blockNat b 33 2) 3000 60000).value = ((imageOf b).1.vFull : Int) := by
  rw [imageOf_vFull_nat, clampField_nat (by omega) (by omega)]

theorem imageOf_vFull_low (b : List Byte) : 3000 ≤ ((imageOf b).1.vFull : Int) := by
  rw [imageOf_vFull_nat]
  exact (clampField_range (by omega) (by omega)).1

theorem imageOf_vEmpty_nat (b : List Byte) :
    (imageOf b).1.vEmpty = (clampField (blockNat b 35 2) 2000 (((imageOf b).1.vFull : Int) - 1)).nat := by
  rw [← imageOf_vFull]
  dsimp only [imageOf]

theorem imageOf_vEmpty (b : List Byte) :
    (clampField (blockNat b 35 2) 2000 ((imageOf b).1.vFull - 1)).value = ((imageOf b).1.vEmpty : Int) := by
  have hlow := imageOf_vFull_low b
  rw [imageOf_vEmpty_nat, clampField_nat (by omega) (by omega)]

theorem imageOf_vEmpty_low (b : List Byte) : 2000 ≤ ((imageOf b).1.vEmpty : Int) := by
  have hlow := imageOf_vFull_low b
  rw [← imageOf_vEmpty]
  exact (clampField_value_range (by omega)).1

/-- The image of any block is legal (R200). -/
theorem imageOf_legal (b : List Byte) : (imageOf b).1.Legal b where
  linkCode := clampField_legal (by omega) (by omega)
  sampleCode := clampField_legal (by omega) (by omega)
  uplinkCode := clampField_legal (by omega) (by omega)
  ePoor := by
    have hhigh := (clampField_range (x := blockNat b 4 1) (lo := 0) (hi := 255) (by omega) (by omega)).2
    rw [← imageOf_eGood]
    exact clampField_legal (clampField_value_range (by omega)).1 (clampField_value_range (by omega)).2
  aL := by
    have hhigh := (clampField_value_range (x := highNibble b 12) (lo := 1) (hi := 6) (by omega)).2
    rw [← imageOf_aS]
    exact clampField_legal (by omega) (by omega)
  rOff := by
    have hlow := (clampField_value_range (x := blockNat b 16 1) (lo := 24) (hi := 255) (by omega)).1
    rw [← imageOf_rOn]
    exact clampField_legal (by omega) (by omega)
  rQuiet := by
    have hlow := (clampField_value_range (x := blockNat b 16 1) (lo := 24) (hi := 255) (by omega)).1
    rw [← imageOf_rOn]
    exact clampField_legal (by omega) (by omega)
  vEmpty := by
    have hlow := imageOf_vFull_low b
    rw [imageOf_vEmpty_nat]
    exact clampField_legal (by omega) (by omega)
  vCutoff := by
    have hlow := imageOf_vEmpty_low b
    have hvCutoff : (imageOf b).1.vCutoff = (clampField (blockNat b 37 2) 1000 (((imageOf b).1.vEmpty : Int) - 1)).nat := by
      rw [← imageOf_vEmpty, ← imageOf_vFull]
      dsimp only [imageOf]
    rw [hvCutoff]
    exact clampField_legal (by omega) (by omega)
  tCmin := clampField_value_legal (by omega)
  tCmax := clampField_value_legal (by
    have hhigh := (clampField_value_range (x := blockInt b 41) (lo := -300) (hi := 300) (by omega)).2
    exact (Int.add_le_add_right hhigh 20).trans (by omega))
  batterySet := clampField_value_legal (by omega)
  chargeSet := clampField_value_legal (by omega)
  sensorSet := clampField_value_legal (by omega)
  b := clampField_legal (by omega) (by omega)
  k := clampField_legal (by omega) (by omega)
  p := clampField_legal (by omega) (by omega)
  eGood := clampField_legal (by omega) (by omega)
  latency := clampField_legal (by omega) (by omega)
  bSync := clampField_legal (by omega) (by omega)
  mask := clampField_legal (by omega) (by omega)
  vote := clampField_legal (by omega) (by omega)
  h := clampField_legal (by omega) (by omega)
  aS := clampField_legal (by omega) (by omega)
  rOn := clampField_legal (by omega) (by omega)
  hold := clampField_legal (by omega) (by omega)
  tMax := clampField_legal (by omega) (by omega)
  wc := clampField_legal (by omega) (by omega)
  quorum := clampField_legal (by omega) (by omega)
  mWatch := clampField_legal (by omega) (by omega)
  holdoffSlot := clampField_legal (by omega) (by omega)
  closeDelay := clampField_legal (by omega) (by omega)
  maxLife := clampField_legal (by omega) (by omega)
  modemWarmUp := clampField_legal (by omega) (by omega)
  healthHours := clampField_legal (by omega) (by omega)
  capacity := clampField_legal (by omega) (by omega)
  vFull := by
    rw [imageOf_vFull_nat]
    exact clampField_legal (by omega) (by omega)
  iTaper := clampField_legal (by omega) (by omega)
  deferB := clampField_legal (by omega) (by omega)
  deferS := clampField_legal (by omega) (by omega)
  wakeHold := clampField_legal (by omega) (by omega)
  batteryAddr := clampField_legal (by omega) (by omega)
  sensorAAddr := clampField_legal (by omega) (by omega)
  sensorBAddr := clampField_legal (by omega) (by omega)
  receiverAddr := clampField_legal (by omega) (by omega)

/-! ## The clamped flag -/

/-- A field's own value lies outside its range, each row being the value taken, the block's own and the ends of the range. -/
def outside (r : Int × Int × Int × Int) : Prop := r.2.1 < r.2.2.1 ∨ r.2.2.2 < r.2.1

theorem moved_nil : ([] : List Clamped).any (·.moved) = true ↔ ∃ r ∈ ([] : List (Int × Int × Int × Int)), outside r := by simp

theorem moved_cons {cs : List Clamped} {rows : List (Int × Int × Int × Int)}
    (h : cs.any (·.moved) = true ↔ ∃ r ∈ rows, outside r) :
    (clampField x lo hi :: cs).any (·.moved) = true ↔ ∃ r ∈ (v, x, lo, hi) :: rows, outside r := by
  simp [List.any_cons, h, clampField, outside]

end
end Sys2Proof.Machine

section
open Sys2Proof Sys2Proof.Machine
set_option Elab.async false

/-- Settles O13. -/
theorem imageOfAnyBlockIsLegal : Obligations.ImageOfAnyBlockIsLegal := by
  rintro b i rfl
  have h := imageOf_legal b
  generalize hi : (imageOf b).1 = i at *
  have haL : 5 ≤ i.aL ∧ i.aS + 3 ≤ i.aL := by have := h.aL.low; omega
  have hfloor : i.floor ≤ 65535 := by
    subst hi; exact Nat.lt_succ_iff.mp (num_lt b 14 2)
  have hblanking : i.blanking ≤ 255 := by
    subst hi; exact Nat.lt_succ_iff.mp (num_lt b 53 1)
  refine ⟨?_, ?_, ?_, ?_, ?_, ?_, ?_, ?_, ?_, ?_, ⟨?_, ?_⟩, ?_⟩
  · exact ⟨by exact_mod_cast h.linkCode.high, by exact_mod_cast h.sampleCode.high, by exact_mod_cast h.uplinkCode.high,
      by exact_mod_cast h.b.low, by exact_mod_cast h.b.high, by exact_mod_cast h.k.low, by exact_mod_cast h.k.high,
      by exact_mod_cast h.p.low, by exact_mod_cast h.p.high⟩
  · exact ⟨by exact_mod_cast h.ePoor.low, by exact_mod_cast h.ePoor.high, by exact_mod_cast h.latency.high,
      by exact_mod_cast h.bSync.high, by exact_mod_cast h.mask.low, by exact_mod_cast h.mask.high,
      by exact_mod_cast h.vote.low, by exact_mod_cast h.vote.high⟩
  · exact ⟨by exact_mod_cast h.h.low, by exact_mod_cast h.h.high, by exact_mod_cast h.aS.low, by exact_mod_cast h.aS.high,
      haL.1, haL.2, by exact_mod_cast h.aL.high, hfloor⟩
  · exact ⟨by exact_mod_cast h.rOn.low, by exact_mod_cast h.rOn.high, by exact_mod_cast h.rOff.low,
      by have := h.rOff.high; omega, by exact_mod_cast h.rQuiet.low, by exact_mod_cast h.rQuiet.high,
      by exact_mod_cast h.hold.high, by exact_mod_cast h.tMax.low, by exact_mod_cast h.tMax.high⟩
  · exact ⟨by exact_mod_cast h.wc.low, by exact_mod_cast h.wc.high, by exact_mod_cast h.quorum.low,
      by exact_mod_cast h.quorum.high, by exact_mod_cast h.mWatch.low, by exact_mod_cast h.mWatch.high,
      by exact_mod_cast h.holdoffSlot.low, by exact_mod_cast h.holdoffSlot.high, by exact_mod_cast h.closeDelay.low,
      by exact_mod_cast h.closeDelay.high, by exact_mod_cast h.maxLife.low, by exact_mod_cast h.maxLife.high⟩
  · exact ⟨by exact_mod_cast h.modemWarmUp.low, by exact_mod_cast h.modemWarmUp.high, by exact_mod_cast h.healthHours.low,
      by exact_mod_cast h.healthHours.high, by exact_mod_cast h.capacity.low, by exact_mod_cast h.capacity.high⟩
  · exact ⟨by exact_mod_cast h.vFull.low, by exact_mod_cast h.vFull.high, by exact_mod_cast h.vEmpty.low,
      by have := h.vEmpty.high; omega, by exact_mod_cast h.vCutoff.low, by have := h.vCutoff.high; omega,
      by exact_mod_cast h.iTaper.high⟩
  · exact ⟨h.tCmin.low, h.tCmin.high, h.tCmax.low, h.tCmax.high, h.batterySet.low, h.batterySet.high, h.chargeSet.low,
      h.chargeSet.high, h.sensorSet.low, h.sensorSet.high⟩
  · exact ⟨by exact_mod_cast h.deferB.high, by exact_mod_cast h.deferS.high, hblanking, by exact_mod_cast h.wakeHold.low,
      by exact_mod_cast h.wakeHold.high, by exact_mod_cast h.batteryAddr.low, by exact_mod_cast h.batteryAddr.high,
      by exact_mod_cast h.sensorAAddr.low, by exact_mod_cast h.sensorAAddr.high, by exact_mod_cast h.sensorBAddr.low,
      by exact_mod_cast h.sensorBAddr.high, by exact_mod_cast h.receiverAddr.low, by exact_mod_cast h.receiverAddr.high⟩
  · subst hi
    have hnibbles (k : Nat) : (lowNibble b k).toNat ≤ 15 ∧ (highNibble b k).toNat ≤ 15 := by
      have := num_lt b k 1
      unfold lowNibble highNibble
      omega
    exact ⟨(hnibbles 60).1, (hnibbles 60).2, (hnibbles 61).1, (hnibbles 61).2⟩
  · simp only [List.forall_mem_cons]
    exact ⟨h.linkCode.nearest, h.sampleCode.nearest, h.uplinkCode.nearest, h.b.nearest, h.k.nearest, h.p.nearest,
      h.eGood.nearest, h.ePoor.nearest, h.latency.nearest, h.bSync.nearest, h.mask.nearest, h.vote.nearest, h.h.nearest,
      h.aS.nearest, h.aL.nearest, h.rOn.nearest, h.rOff.nearest, h.rQuiet.nearest, h.hold.nearest, h.tMax.nearest,
      h.wc.nearest, h.quorum.nearest, h.mWatch.nearest, h.holdoffSlot.nearest, h.closeDelay.nearest, h.maxLife.nearest,
      h.modemWarmUp.nearest, h.healthHours.nearest, h.capacity.nearest, h.vFull.nearest, h.vEmpty.nearest,
      h.vCutoff.nearest, h.iTaper.nearest, h.tCmin.nearest, h.tCmax.nearest, h.batterySet.nearest, h.chargeSet.nearest,
      h.sensorSet.nearest, h.deferB.nearest, h.deferS.nearest, h.wakeHold.nearest, h.batteryAddr.nearest,
      h.sensorAAddr.nearest, h.sensorBAddr.nearest, h.receiverAddr.nearest, nofun⟩
  · subst hi
    dsimp only [imageOf]
    have hvFull := clampField_range (x := blockNat b 33 2) (lo := 3000) (hi := 60000) (by omega) (by omega)
    rw [clampField_nat (x := blockNat b 4 1) (lo := 0) (hi := 255) (by omega) (by omega),
      clampField_nat (x := highNibble b 12) (lo := 1) (hi := 6) (by omega) (by omega),
      clampField_nat (x := blockNat b 16 1) (lo := 24) (hi := 255) (by omega) (by omega),
      clampField_nat (x := blockNat b 33 2) (lo := 3000) (hi := 60000) (by omega) (by omega)] at *
    rw [clampField_nat (x := blockNat b 35 2) (lo := 2000) (by omega) (by omega)]
    iterate 45 refine moved_cons ?_
    exact moved_nil
  · subst hi
    have hlow (k : Nat) : (lowNibble b k).toNat = num b k 1 % 16 := by unfold lowNibble; omega
    have hhigh (k : Nat) : (highNibble b k).toNat = num b k 1 / 16 := by unfold highNibble; omega
    exact ⟨rfl, rfl, rfl, rfl, hlow 60, hhigh 60, hlow 61, hhigh 61⟩

end

/-! PROOFS. The bodies of section 2.10: what is written reads back, and which bytes the form test takes. -/
namespace Sys2Proof.Machine
set_option Elab.async false

/-! ## Fields at an offset -/

section
variable {bs pre post : List Byte} {i k n : Nat}

theorem fromBe_be_mod (k n : Nat) : fromBe (be k n) = n % 256 ^ k := by
  induction k with
  | zero => simp [be, fromBe, Nat.mod_one]
  | succ k ih =>
    have hsplit : n % 256 ^ (k + 1) = n % 256 ^ k + 256 ^ k * (n / 256 ^ k % 256) := by
      rw [pow_succ]
      exact Nat.mod_mul
    rw [be, fromBe_cons, be_length, ih, BitVec.toNat_ofNat, hsplit, Nat.mul_comm, Nat.add_comm]

theorem fromBe_be (h : n < 256 ^ k) : fromBe (be k n) = n := by rw [fromBe_be_mod, Nat.mod_eq_of_lt h]

/-- The number written behind a prefix reads back at the prefix's length. -/
theorem num_at (hbs : bs = pre ++ (be k n ++ post)) (hn : n < 256 ^ k) (hi : pre.length = i) : num bs i k = n := by
  subst hbs hi
  rw [num, field, List.drop_left, List.take_left' (be_length k n), fromBe_be hn]

theorem ticks_at {t : StationTime} (hbs : bs = pre ++ (timeBytes t ++ post)) (hi : pre.length = i) :
    num bs (i + 4) 3 = tickPart t :=
  num_at (pre := pre ++ be 4 (secPart t)) (post := post) (by rw [hbs]; simp [timeBytes])
    ((Nat.mod_lt t (by decide)).trans (by decide)) (by simp [hi])

/-- A station time written behind a prefix reads back. -/
theorem timeAt_at {t : StationTime} (hbs : bs = pre ++ (timeBytes t ++ post)) (ht : t ≤ maxTime) (hi : pre.length = i) :
    timeAt bs i = some t := by
  have hsec : secPart t < 256 ^ 4 := Nat.div_lt_of_lt_mul (lt_of_le_of_lt ht (by decide))
  have h4 : num bs i 4 = secPart t := num_at (post := be 3 (tickPart t) ++ post) (by rw [hbs]; simp [timeBytes]) hsec hi
  have hlt : tickPart t < tps := Nat.mod_lt t (by decide)
  rw [timeAt, ticks_at hbs hi, h4, if_pos hlt]
  exact congrArg some (by rw [secPart, tickPart, Nat.mul_comm]; exact Nat.div_add_mod t tps)

/-! ## Bytes one by one -/

/-- The value of byte i of a body, 0 beyond its end. -/
def byteAt (bs : List Byte) (i : Nat) : Nat := (bs[i]?.map BitVec.toNat).getD 0

theorem byteAt_le : byteAt bs i ≤ 255 := by
  unfold byteAt
  cases bs[i]? with
  | none => simp
  | some b => exact Nat.lt_succ_iff.mp b.isLt

theorem field_succ (h : i < bs.length) : field bs i (k + 1) = bs[i] :: field bs (i + 1) k := by
  rw [field, field, List.drop_eq_getElem_cons h, List.take_succ_cons]

theorem num_one : num bs i 1 = byteAt bs i := by
  by_cases h : i < bs.length
  · rw [num, field_succ h, byteAt, List.getElem?_eq_getElem h]
    simp [field, fromBe]
  · rw [num, field, List.drop_eq_nil_of_le (by omega), byteAt, List.getElem?_eq_none (by omega)]
    rfl

/-- A number of three bytes that stand in the body. -/
theorem num_three (h : i + 3 ≤ bs.length) :
    num bs i 3 = 65536 * byteAt bs i + 256 * byteAt bs (i + 1) + byteAt bs (i + 2) := by
  have hbyte {j : Nat} (hj : j < bs.length) : byteAt bs j = bs[j].toNat := by rw [byteAt, List.getElem?_eq_getElem hj]; rfl
  rw [num, field_succ (by omega), field_succ (by omega), field_succ (by omega), hbyte (by omega), hbyte (by omega),
    hbyte (by omega)]
  have hthird : bs[i + 1 + 1].toNat = bs[i + 2].toNat := rfl
  simp only [field, List.take_zero, fromBe, List.foldl_cons, List.foldl_nil]
  omega

theorem timeAt_isSome : (timeAt bs i).isSome = true ↔ num bs (i + 4) 3 ≤ 1048575 := by
  unfold timeAt tps
  split <;> simp <;> omega

end

/-! ## Codes -/

theorem opModeOf_isSome {n : Nat} : (opModeOf n).isSome = true ↔ 1 ≤ n ∧ n ≤ 4 := by
  rcases n with _ | _ | _ | _ | _ | n <;> simp [opModeOf]

theorem batClassOf_isSome {n : Nat} : (batClassOf n).isSome = true ↔ n ≤ 3 := by
  rcases n with _ | _ | _ | _ | n <;> simp [batClassOf]

theorem trigStateOf_isSome {n : Nat} : (trigStateOf n).isSome = true ↔ n ≤ 4 := by
  rcases n with _ | _ | _ | _ | _ | n <;> simp [trigStateOf]

theorem opModeOf_code (m : OpMode) : opModeOf m.code = some m := by cases m <;> rfl
theorem batClassOf_code (c : BatClass) : batClassOf c.code = some c := by cases c <;> rfl
theorem trigStateOf_code (t : TrigState) : trigStateOf t.code = some t := by cases t <;> rfl

/-! ## What is written reads back -/

theorem noticeBytes_length (n : Notice) : (noticeBytes n).length = 12 := by simp [noticeBytes]

theorem readNotice_noticeBytes {n : Notice} (honset : n.onset ≤ maxTime) (hlow : 1 ≤ n.mask) (hhigh : n.mask ≤ 7) (hpeak : n.peak ≤ 255)
    (hdur : n.duration ≤ 65535) : readNotice (noticeBytes n) = some n := by
  have hkindlt : n.kind.code ≤ 1 := by cases n.kind <;> decide
  have h0 : timeAt (noticeBytes n) 0 = some n.onset :=
    timeAt_at (pre := []) (by simp only [noticeBytes, List.append_assoc, List.nil_append]; rfl) honset rfl
  have h7 : num (noticeBytes n) 7 1 = n.kind.code :=
    num_at (pre := timeBytes n.onset) (by simp only [noticeBytes, List.append_assoc]; rfl)
      (by omega) (by simp)
  have h8 : num (noticeBytes n) 8 1 = n.mask :=
    num_at (pre := timeBytes n.onset ++ be 1 n.kind.code) (by simp only [noticeBytes, List.append_assoc]; rfl)
      (by omega) (by simp)
  have h9 : num (noticeBytes n) 9 1 = n.peak :=
    num_at (pre := timeBytes n.onset ++ be 1 n.kind.code ++ be 1 n.mask) (by simp only [noticeBytes, List.append_assoc]; rfl)
      (by omega) (by simp)
  have h10 : num (noticeBytes n) 10 2 = n.duration :=
    num_at (pre := timeBytes n.onset ++ be 1 n.kind.code ++ be 1 n.mask ++ be 1 n.peak) (post := []) (by simp [noticeBytes])
      (by omega) (by simp)
  have hkind : (if n.kind.code = 0 then NoticeKind.onset else .finish) = n.kind := by cases n.kind <;> rfl
  unfold readNotice
  rw [noticeBytes_length, h0, h7, h8, h9, h10, hkind, if_neg (by decide)]
  exact if_neg (by omega)

theorem timeBytesOpt_length (o : Option StationTime) : (timeBytesOpt o).length = 7 := by cases o <;> simp [timeBytesOpt]

theorem beaconBytes_length (b : BeaconBody) : (beaconBytes b).length = 24 := by simp [beaconBytes, timeBytesOpt_length]

theorem readBeacon_beaconBytes {b : BeaconBody} (hstamp : b.stamp ≤ maxTime) (hquality : b.quality < 2 ^ 24) (hdist : b.distance ≤ 15)
    (hlow : 2 ≤ b.code) (hhigh : b.code ≤ 10) (hpeak : b.peak ≤ 255) (honset : ∀ o, b.lastOnset = some o → o ≤ maxTime) :
    readBeacon (beaconBytes b) = some b := by
  have hmode : b.mode.code < 256 ^ 1 := by cases b.mode <;> decide
  have hcls : b.cls.code < 256 ^ 1 := by cases b.cls <;> decide
  have htrig : b.trig.code < 256 ^ 1 := by cases b.trig <;> decide
  have hunset : b.unset.toNat < 256 ^ 1 := by cases b.unset <;> decide
  have h0 : timeAt (beaconBytes b) 0 = some b.stamp :=
    timeAt_at (pre := []) (by simp only [beaconBytes, List.append_assoc, List.nil_append]; rfl) hstamp rfl
  have h7 : num (beaconBytes b) 7 3 = b.quality :=
    num_at (pre := timeBytes b.stamp) (by simp only [beaconBytes, List.append_assoc]; rfl)
      (by omega) (by simp)
  have h10 : num (beaconBytes b) 10 1 = b.distance :=
    num_at (pre := timeBytes b.stamp ++ be 3 b.quality) (by simp only [beaconBytes, List.append_assoc]; rfl)
      (by omega) (by simp)
  have h11 : num (beaconBytes b) 11 1 = b.mode.code :=
    num_at (pre := timeBytes b.stamp ++ be 3 b.quality ++ be 1 b.distance) (by simp only [beaconBytes, List.append_assoc]; rfl)
      (hmode) (by simp)
  have h12 : num (beaconBytes b) 12 1 = b.cls.code :=
    num_at (pre := timeBytes b.stamp ++ be 3 b.quality ++ be 1 b.distance ++ be 1 b.mode.code) (by simp only [beaconBytes, List.append_assoc]; rfl)
      (hcls) (by simp)
  have h13 : num (beaconBytes b) 13 1 = b.code :=
    num_at (pre := timeBytes b.stamp ++ be 3 b.quality ++ be 1 b.distance ++ be 1 b.mode.code ++ be 1 b.cls.code) (by simp only [beaconBytes, List.append_assoc]; rfl)
      (by omega) (by simp)
  have h14 : num (beaconBytes b) 14 1 = b.trig.code :=
    num_at (pre := timeBytes b.stamp ++ be 3 b.quality ++ be 1 b.distance ++ be 1 b.mode.code ++ be 1 b.cls.code ++ be 1 b.code) (by simp only [beaconBytes, List.append_assoc]; rfl)
      (htrig) (by simp)
  have h22 : num (beaconBytes b) 22 1 = b.peak :=
    num_at (pre := timeBytes b.stamp ++ be 3 b.quality ++ be 1 b.distance ++ be 1 b.mode.code ++ be 1 b.cls.code ++ be 1 b.code ++ be 1 b.trig.code ++ timeBytesOpt b.lastOnset) (by simp only [beaconBytes, List.append_assoc]; rfl)
      (by omega) (by simp [timeBytesOpt_length])
  have h23 : num (beaconBytes b) 23 1 = b.unset.toNat :=
    num_at (pre := timeBytes b.stamp ++ be 3 b.quality ++ be 1 b.distance ++ be 1 b.mode.code ++ be 1 b.cls.code ++ be 1 b.code ++ be 1 b.trig.code ++ timeBytesOpt b.lastOnset ++ be 1 b.peak) (post := []) (by simp [beaconBytes])
      (hunset) (by simp [timeBytesOpt_length])
  have hflag : decide (b.unset.toNat % 2 = 1) = b.unset := by cases b.unset <;> rfl
  have hpre : (timeBytes b.stamp ++ be 3 b.quality ++ be 1 b.distance ++ be 1 b.mode.code ++ be 1 b.cls.code ++ be 1 b.code ++
      be 1 b.trig.code).length = 15 := by simp
  have hbody : beaconBytes b = (timeBytes b.stamp ++ be 3 b.quality ++ be 1 b.distance ++ be 1 b.mode.code ++ be 1 b.cls.code ++ be 1 b.code ++
      be 1 b.trig.code) ++ (timeBytesOpt b.lastOnset ++ (be 1 b.peak ++ be 1 b.unset.toNat)) := by
    simp only [beaconBytes, List.append_assoc]
  have hform : ¬(15 < b.distance ∨ b.code < 2 ∨ 10 < b.code) := by omega
  unfold readBeacon
  rw [beaconBytes_length, if_neg (by decide), h0, h11, opModeOf_code, h12, batClassOf_code, h14, trigStateOf_code]
  dsimp only
  rw [h7, h10, h13, h22, h23, if_neg hform, hflag]
  cases ho : b.lastOnset with
  | none =>
    have habsent : num (beaconBytes b) 19 3 = 0xFFFFFF :=
      num_at (pre := timeBytes b.stamp ++ be 3 b.quality ++ be 1 b.distance ++ be 1 b.mode.code ++ be 1 b.cls.code ++ be 1 b.code ++
      be 1 b.trig.code ++ be 4 0) (by rw [hbody, ho]; simp only [timeBytesOpt, List.append_assoc]; rfl) (by decide) (by simp)
    rw [if_pos habsent, ← ho]
  | some o =>
    rw [ho] at hbody
    have hticks : num (beaconBytes b) 19 3 = tickPart o := ticks_at hbody hpre
    have hlt : tickPart o < tps := Nat.mod_lt o (by decide)
    rw [if_neg (by rw [hticks]; unfold tps at hlt; omega), timeAt_at hbody (honset o ho) hpre]
    dsimp only
    rw [← ho]

theorem readReply_timeBytes {r : ReplyBody} (h1 : r.t1 ≤ maxTime) (h2 : r.t2 ≤ maxTime) (h3 : r.t3 ≤ maxTime) :
    readReply (timeBytes r.t1 ++ timeBytes r.t2 ++ timeBytes r.t3) = some r := by
  have ht1 : timeAt (timeBytes r.t1 ++ timeBytes r.t2 ++ timeBytes r.t3) 0 = some r.t1 :=
    timeAt_at (pre := []) (by simp only [List.append_assoc, List.nil_append]; rfl) h1 rfl
  have ht2 : timeAt (timeBytes r.t1 ++ timeBytes r.t2 ++ timeBytes r.t3) 7 = some r.t2 :=
    timeAt_at (pre := timeBytes r.t1) (by simp only [List.append_assoc]; rfl) h2 (by simp)
  have ht3 : timeAt (timeBytes r.t1 ++ timeBytes r.t2 ++ timeBytes r.t3) 14 = some r.t3 :=
    timeAt_at (pre := timeBytes r.t1 ++ timeBytes r.t2) (post := []) (by simp) h3 (by simp)
  unfold readReply
  rw [if_neg (by simp), ht1, ht2, ht3]

/-! ## Declarations -/

/-- The bytes of a participant. -/
def partBytes (p : DeclPart) : List Byte := be 1 p.station ++ be 2 p.offset ++ be 1 p.peak

/-- The bytes of a declaration before its participants. -/
def declHead (d : DeclBody) : List Byte :=
  be 1 d.id.origin ++ be 1 d.id.seq ++ be 1 d.update ++ timeBytes d.earliest ++ be 1 d.parts.length

theorem declHead_length (d : DeclBody) : (declHead d).length = 11 := by simp [declHead]

theorem declBytes_eq (d : DeclBody) : declBytes d = declHead d ++ d.parts.flatMap partBytes := rfl

theorem flatMap_partBytes_length (ps : List DeclPart) : (ps.flatMap partBytes).length = 4 * ps.length := by
  induction ps with
  | nil => rfl
  | cons p ps ih => simp [partBytes, ih]; omega

theorem declBytes_length (d : DeclBody) : (declBytes d).length = 11 + 4 * d.parts.length := by
  rw [declBytes_eq, List.length_append, declHead_length, flatMap_partBytes_length]

/-- Participant i stands behind the 11 bytes of the head and 4 of each participant before it. -/
theorem declBytes_split (d : DeclBody) {i : Nat} (h : i < d.parts.length) :
    declBytes d = (declHead d ++ (d.parts.take i).flatMap partBytes) ++ (partBytes d.parts[i] ++ (d.parts.drop (i + 1)).flatMap partBytes) ∧
    (declHead d ++ (d.parts.take i).flatMap partBytes).length = 11 + 4 * i := by
  constructor
  · rw [declBytes_eq, List.append_assoc, ← List.flatMap_cons, ← List.flatMap_append, ← List.drop_eq_getElem_cons h,
      List.take_append_drop]
  · rw [List.length_append, declHead_length, flatMap_partBytes_length, List.length_take]
    omega

theorem readParts_declBytes {d : DeclBody}
    (h : ∀ p ∈ d.parts, 1 ≤ p.station ∧ p.station ≤ 14 ∧ p.offset ≤ 65535 ∧ p.peak ≤ 255) :
    readParts (declBytes d) d.parts.length = d.parts := by
  refine List.ext_getElem (by simp [readParts]) fun i _ hi => ?_
  obtain ⟨-, hstation, hoffset, hpeak⟩ := h d.parts[i] (List.getElem_mem hi)
  obtain ⟨hsplit, hlen⟩ := declBytes_split d hi
  have h1 : num (declBytes d) (11 + 4 * i) 1 = d.parts[i].station :=
    num_at (by rw [hsplit, partBytes]; simp only [List.append_assoc]; rfl) (by omega) hlen
  have h2 : num (declBytes d) (12 + 4 * i) 2 = d.parts[i].offset :=
    num_at (pre := (declHead d ++ (d.parts.take i).flatMap partBytes) ++ be 1 d.parts[i].station)
      (by rw [hsplit, partBytes]; simp only [List.append_assoc]; rfl) (by omega)
      (by rw [List.length_append, hlen, be_length]; omega)
  have h4 : num (declBytes d) (14 + 4 * i) 1 = d.parts[i].peak :=
    num_at (pre := (declHead d ++ (d.parts.take i).flatMap partBytes) ++ (be 1 d.parts[i].station ++ be 2 d.parts[i].offset))
      (by rw [hsplit, partBytes]; simp only [List.append_assoc]; rfl) (by omega)
      (by rw [List.length_append, hlen, List.length_append, be_length, be_length]; omega)
  simp only [readParts, List.getElem_map, List.getElem_range, h1, h2, h4]

theorem readDecl_declBytes {d : DeclBody} (horigin : 1 ≤ d.id.origin) (horigin' : d.id.origin ≤ 14) (hseq : d.id.seq ≤ 255)
    (hupdate : d.update ≤ 3) (htime : d.earliest ≤ maxTime) (hcount : 1 ≤ d.parts.length) (hcount' : d.parts.length ≤ 14)
    (hnodup : (d.parts.map DeclPart.station).Nodup)
    (hparts : ∀ p ∈ d.parts, 1 ≤ p.station ∧ p.station ≤ 14 ∧ p.offset ≤ 65535 ∧ p.peak ≤ 255) :
    readDecl (declBytes d) = some d := by
  have h0 : num (declBytes d) 0 1 = d.id.origin :=
    num_at (pre := []) (by simp only [declBytes, List.append_assoc, List.nil_append]; rfl) (by omega) rfl
  have h1 : num (declBytes d) 1 1 = d.id.seq :=
    num_at (pre := be 1 d.id.origin) (by simp only [declBytes, List.append_assoc]; rfl) (by omega) (by simp)
  have h2 : num (declBytes d) 2 1 = d.update :=
    num_at (pre := be 1 d.id.origin ++ be 1 d.id.seq) (by simp only [declBytes, List.append_assoc]; rfl) (by omega) (by simp)
  have h3 : timeAt (declBytes d) 3 = some d.earliest :=
    timeAt_at (pre := be 1 d.id.origin ++ be 1 d.id.seq ++ be 1 d.update) (by simp only [declBytes, List.append_assoc]; rfl) htime
      (by simp)
  have h10 : num (declBytes d) 10 1 = d.parts.length :=
    num_at (pre := be 1 d.id.origin ++ be 1 d.id.seq ++ be 1 d.update ++ timeBytes d.earliest)
      (by simp only [declBytes, List.append_assoc]; rfl) (by omega) (by simp)
  have hany : d.parts.any (fun p => p.station < 1 || 14 < p.station) = false := by
    rw [List.any_eq_false]
    intro p hp
    have := hparts p hp
    simp
    omega
  unfold readDecl
  rw [h10, declBytes_length, if_neg (by omega), h3]
  dsimp only
  rw [readParts_declBytes hparts, h0, h1, h2]
  refine if_neg ?_
  rw [hany]
  simp only [hnodup, not_true, Bool.false_eq_true, or_false]
  omega

/-! ## The form test (R37) -/

section
variable {bs : List Byte}

theorem readBeacon_isSome : (readBeacon bs).isSome = true ↔ bs.length = 24 ∧ (timeAt bs 0).isSome = true ∧
    (opModeOf (num bs 11 1)).isSome = true ∧ (batClassOf (num bs 12 1)).isSome = true ∧
    (trigStateOf (num bs 14 1)).isSome = true ∧ num bs 10 1 ≤ 15 ∧ 2 ≤ num bs 13 1 ∧ num bs 13 1 ≤ 10 ∧
    (num bs 19 3 = 0xFFFFFF ∨ (timeAt bs 15).isSome = true) := by
  unfold readBeacon
  by_cases hlen : bs.length = 24
  · rw [if_neg (by simpa using hlen)]
    cases timeAt bs 0 with
    | none => simp
    | some _ =>
      cases opModeOf (num bs 11 1) with
      | none => simp
      | some _ =>
        cases batClassOf (num bs 12 1) with
        | none => simp
        | some _ =>
          cases trigStateOf (num bs 14 1) with
          | none => simp
          | some _ =>
            dsimp only
            split
            · simp; omega
            · split
              · simp; omega
              · cases timeAt bs 15 <;> simp <;> omega
  · simp [hlen]

theorem readNotice_isSome : (readNotice bs).isSome = true ↔ bs.length = 12 ∧ (timeAt bs 0).isSome = true ∧
    num bs 7 1 ≤ 1 ∧ 1 ≤ num bs 8 1 ∧ num bs 8 1 ≤ 7 := by
  unfold readNotice
  by_cases hlen : bs.length = 12
  · rw [if_neg (by simpa using hlen)]
    cases timeAt bs 0 with
    | none => simp
    | some t =>
      dsimp only
      split <;> simp [hlen] <;> omega
  · simp [hlen]

theorem readReply_isSome : (readReply bs).isSome = true ↔ bs.length = 21 ∧ (timeAt bs 0).isSome = true ∧
    (timeAt bs 7).isSome = true ∧ (timeAt bs 14).isSome = true := by
  unfold readReply
  by_cases hlen : bs.length = 21
  · rw [if_neg (by simpa using hlen)]
    cases timeAt bs 0 <;> cases timeAt bs 7 <;> cases timeAt bs 14 <;> simp [hlen]
  · simp [hlen]

/-- The stations of the participants, each byte one (R37). -/
theorem readParts_stations {n : Nat} :
    (readParts bs n).map DeclPart.station = (List.range n).map fun i => byteAt bs (11 + 4 * i) := by
  simp [readParts, Function.comp_def, num_one]

theorem readDecl_isSome : (readDecl bs).isSome = true ↔ bs.length = 11 + 4 * num bs 10 1 ∧ (timeAt bs 3).isSome = true ∧
    1 ≤ num bs 0 1 ∧ num bs 0 1 ≤ 14 ∧ num bs 2 1 ≤ 3 ∧ 1 ≤ num bs 10 1 ∧ num bs 10 1 ≤ 14 ∧
    (∀ i, i < num bs 10 1 → 1 ≤ byteAt bs (11 + 4 * i) ∧ byteAt bs (11 + 4 * i) ≤ 14) ∧
    (∀ i j, i < j → j < num bs 10 1 → byteAt bs (11 + 4 * i) ≠ byteAt bs (11 + 4 * j)) := by
  have hstations : (readParts bs (num bs 10 1)).any (fun p => p.station < 1 || 14 < p.station) = true ↔
      ¬∀ i, i < num bs 10 1 → 1 ≤ byteAt bs (11 + 4 * i) ∧ byteAt bs (11 + 4 * i) ≤ 14 := by
    have hmap : (readParts bs (num bs 10 1)).any (fun p => p.station < 1 || 14 < p.station) =
        ((readParts bs (num bs 10 1)).map DeclPart.station).any (fun x => x < 1 || 14 < x) := by
      rw [List.any_map]
      rfl
    rw [hmap, readParts_stations]
    simp only [List.any_eq_true, List.mem_map, List.mem_range, Bool.or_eq_true, decide_eq_true_eq]
    push Not
    constructor
    · rintro ⟨_, ⟨i, hi, rfl⟩, hout⟩
      exact ⟨i, hi, by omega⟩
    · rintro ⟨i, hi, hout⟩
      exact ⟨_, ⟨i, hi, rfl⟩, by omega⟩
  have hnodup : ((readParts bs (num bs 10 1)).map DeclPart.station).Nodup ↔
      ∀ i j, i < j → j < num bs 10 1 → byteAt bs (11 + 4 * i) ≠ byteAt bs (11 + 4 * j) := by
    rw [readParts_stations, List.Nodup, List.pairwise_iff_getElem]
    simp only [List.length_map, List.length_range, List.getElem_map, List.getElem_range]
    exact ⟨fun h i j hij hj => h i j (hij.trans hj) hj hij, fun h i j _ hj hij => h i j hij hj⟩
  unfold readDecl
  by_cases hlen : bs.length = 11 + 4 * num bs 10 1
  · rw [if_neg (by omega)]
    cases timeAt bs 3 with
    | none => simp
    | some t =>
      dsimp only
      have hif {p : Prop} [Decidable p] {x : DeclBody} : (if p then none else some x).isSome = true ↔ ¬p := by split <;> simp [*]
      rw [hif]
      simp only [hstations, hnodup, hlen, not_or, not_not, Nat.not_lt, Option.isSome_some, true_and]
  · simp [hlen]

end

/-! ## The form of each kind, the target with it -/

section
variable {target : Nat} {bs : List Byte}

theorem readBody_beacon_isSome : (readBody .beacon target bs).isSome = true ↔ target = 0 ∧ (readBeacon bs).isSome = true := by
  by_cases h : target = 0 <;> simp [readBody, h]

theorem readBody_notice_isSome : (readBody .notice target bs).isSome = true ↔ target = 0 ∧ (readNotice bs).isSome = true := by
  by_cases h : target = 0 <;> simp [readBody, h]

theorem readBody_declaration_isSome :
    (readBody .declaration target bs).isSome = true ↔ target = 0 ∧ (readDecl bs).isSome = true := by
  by_cases h : target = 0 <;> simp [readBody, h]

theorem readBody_probe_isSome :
    (readBody .probe target bs).isSome = true ↔ target ≠ 0 ∧ bs.length = 7 ∧ (timeAt bs 0).isSome = true := by
  by_cases h : target = 0 <;> by_cases hlen : bs.length = 7 <;> simp [readBody, h, hlen]

theorem readBody_reply_isSome : (readBody .reply target bs).isSome = true ↔ target ≠ 0 ∧ (readReply bs).isSome = true := by
  by_cases h : target = 0 <;> simp [readBody, h]

/-- The ticks part of the station time at an offset. -/
def ticksAt (bs : List Byte) (i : Nat) : Nat := 65536 * byteAt bs (i + 4) + 256 * byteAt bs (i + 5) + byteAt bs (i + 6)

theorem num_ticks {i : Nat} (h : i + 7 ≤ bs.length) : num bs (i + 4) 3 = ticksAt bs i := num_three (by omega)

theorem takes_beacon : (readBody .beacon target bs).isSome = true ↔ target = 0 ∧ bs.length = 24 ∧ ticksAt bs 0 ≤ 1048575 ∧
    byteAt bs 10 ≤ 15 ∧ 1 ≤ byteAt bs 11 ∧ byteAt bs 11 ≤ 4 ∧ byteAt bs 12 ≤ 3 ∧ 2 ≤ byteAt bs 13 ∧ byteAt bs 13 ≤ 10 ∧
    byteAt bs 14 ≤ 4 ∧ (ticksAt bs 15 ≤ 1048575 ∨ ticksAt bs 15 = 0xFFFFFF) := by
  rw [readBody_beacon_isSome, readBeacon_isSome, timeAt_isSome, timeAt_isSome, opModeOf_isSome, batClassOf_isSome,
    trigStateOf_isSome]
  simp only [num_one]
  refine and_congr_right fun _ => and_congr_right fun hlen => ?_
  rw [num_ticks (by omega), num_ticks (i := 15) (by omega)]
  tauto

theorem takes_notice : (readBody .notice target bs).isSome = true ↔ target = 0 ∧ bs.length = 12 ∧ ticksAt bs 0 ≤ 1048575 ∧
    byteAt bs 7 ≤ 1 ∧ 1 ≤ byteAt bs 8 ∧ byteAt bs 8 ≤ 7 := by
  rw [readBody_notice_isSome, readNotice_isSome, timeAt_isSome]
  simp only [num_one]
  refine and_congr_right fun _ => and_congr_right fun hlen => ?_
  rw [num_ticks (by omega)]

theorem takes_declaration : (readBody .declaration target bs).isSome = true ↔ target = 0 ∧ bs.length = 11 + 4 * byteAt bs 10 ∧
    1 ≤ byteAt bs 0 ∧ byteAt bs 0 ≤ 14 ∧ byteAt bs 2 ≤ 3 ∧ ticksAt bs 3 ≤ 1048575 ∧ 1 ≤ byteAt bs 10 ∧ byteAt bs 10 ≤ 14 ∧
    (∀ i, i < byteAt bs 10 → 1 ≤ byteAt bs (11 + 4 * i) ∧ byteAt bs (11 + 4 * i) ≤ 14) ∧
    (∀ i j, i < j → j < byteAt bs 10 → byteAt bs (11 + 4 * i) ≠ byteAt bs (11 + 4 * j)) := by
  rw [readBody_declaration_isSome, readDecl_isSome, timeAt_isSome]
  simp only [num_one]
  refine and_congr_right fun _ => and_congr_right fun hlen => ?_
  rw [num_ticks (by omega)]
  tauto

theorem takes_probe :
    (readBody .probe target bs).isSome = true ↔ target ≠ 0 ∧ bs.length = 7 ∧ ticksAt bs 0 ≤ 1048575 := by
  rw [readBody_probe_isSome, timeAt_isSome]
  refine and_congr_right fun _ => and_congr_right fun hlen => ?_
  rw [num_ticks (by omega)]

theorem takes_reply : (readBody .reply target bs).isSome = true ↔ target ≠ 0 ∧ bs.length = 21 ∧ ticksAt bs 0 ≤ 1048575 ∧
    ticksAt bs 7 ≤ 1048575 ∧ ticksAt bs 14 ≤ 1048575 := by
  rw [readBody_reply_isSome, readReply_isSome, timeAt_isSome, timeAt_isSome, timeAt_isSome]
  refine and_congr_right fun _ => and_congr_right fun hlen => ?_
  rw [num_ticks (by omega), num_ticks (i := 7) (by omega), num_ticks (i := 14) (by omega)]

theorem takes_serviceRequest : (readBody .serviceRequest target bs).isSome = true ↔ target ≠ 0 ∧ bs.length = 2 := by
  simp only [readBody]
  split <;> simp <;> omega

theorem takes_serviceReport : (readBody .serviceReport target bs).isSome = true ↔ target ≠ 0 ∧ 3 ≤ bs.length ∧ bs.length ≤ 80 ∧
    byteAt bs 2 ≤ 1 := by
  simp only [readBody, num_one]
  split <;> simp <;> omega

end

/-! ## The line (section 2.2) -/

/-- The wake preamble is the pattern 1100 (R26). -/
theorem wakePreamble_eq (n : Nat) : (List.replicate n [true, true, false, false]).flatten =
    (List.range (4 * n)).map fun i => decide (i % 4 < 2) := by
  induction n with
  | zero => rfl
  | succ n ih =>
    have hrange : List.range (4 * (n + 1)) = List.range (4 * n) ++ [4 * n, 4 * n + 1, 4 * n + 2, 4 * n + 3] := by
      rw [show 4 * (n + 1) = 4 * n + 1 + 1 + 1 + 1 by ring, List.range_succ, List.range_succ, List.range_succ, List.range_succ]
      simp
    have hlast : [4 * n, 4 * n + 1, 4 * n + 2, 4 * n + 3].map (fun i => decide (i % 4 < 2)) = [true, true, false, false] := by
      simp [show (4 * n + 1) % 4 = 1 by omega, show (4 * n + 2) % 4 = 2 by omega, show (4 * n + 3) % 4 = 3 by omega]
    rw [List.replicate_succ', List.flatten_append, ih, hrange, List.map_append, hlast]
    rfl

theorem lineBits_eq {f : TxFrame} {rate : Nat} {a b l q : Byte} (h : f.header = [a, b, l, q]) : f.lineBits rate =
    (if f.wake = true then (List.range (4 * wakeGroups rate)).map (fun i => decide (i % 4 < 2)) else []) ++
    ([0xAA#8, 0xAA#8, 0xAA#8, 0xB4#8, 0xE3#8, a, b, l, q] ++ f.body ++ crcBytes (f.header ++ f.body)).flatMap bitsOf ++
    checkField (a.toNat / 16) q.toNat := by
  have hbits : (List.replicate 12 [true, false]).flatten = [0xAA#8, 0xAA#8, 0xAA#8].flatMap bitsOf := by decide
  have hsender : num f.header 0 1 = a.toNat := by rw [num_one, h]; rfl
  have hseq : num f.header 3 1 = q.toNat := by rw [num_one, h]; rfl
  rw [TxFrame.lineBits, wakePreamble_eq, hbits, hsender, hseq, h]
  simp

end Sys2Proof.Machine

section
open Sys2Proof Sys2Proof.Machine
set_option Elab.async false

/-- Settles O12. -/
theorem bodiesReadBack : Obligations.BodiesReadBack := by
  refine ⟨fun f rate a b l q h => ?_, ⟨fun target t1 ht ht1 => ?_, fun target q ht hc ha => ?_, fun target code seg status data ht hlen => ?_⟩,
    ⟨fun b h1 h2 h3 h4 h5 h6 h7 => ⟨beaconBytes_length b, readBeacon_beaconBytes h1 h2 h3 h4 h5 h6 h7⟩,
      fun n h1 h2 h3 h4 h5 => ⟨noticeBytes_length n, readNotice_noticeBytes h1 h2 h3 h4 h5⟩,
      fun r h1 h2 h3 => readReply_timeBytes h1 h2 h3⟩,
    fun d h1 h2 h3 h4 h5 h6 h7 h8 h9 => ⟨declBytes_length d, readDecl_declBytes h1 h2 h3 h4 h5 h6 h7 h8 h9⟩,
    fun target body => ⟨?_, ?_, ?_, ?_, ?_, ?_, ?_⟩⟩
  · exact lineBits_eq h
  · have htime : timeAt (timeBytes t1) 0 = some t1 := timeAt_at (pre := []) (post := []) (by simp) ht1 rfl
    simp [readBody, ht, htime]
  · have hcode : num [BitVec.ofNat 8 q.code, BitVec.ofNat 8 q.argument] 0 1 = q.code := by
      rw [num_one, byteAt]; simp; omega
    have harg : num [BitVec.ofNat 8 q.code, BitVec.ofNat 8 q.argument] 1 1 = q.argument := by
      rw [num_one, byteAt]; simp; omega
    simp [readBody, ht, hcode, harg]
  · have hstatus : num ([code, seg, status] ++ data) 2 1 = status.toNat := by rw [num_one, byteAt]; rfl
    rw [readBody, hstatus]
    by_cases hs : status.toNat ≤ 1
    · rw [if_neg (by simp only [List.length_append, List.length_cons, List.length_nil]; omega), if_pos hs]
    · rw [if_pos (by omega), if_neg hs]
  · exact takes_beacon
  · exact takes_notice
  · exact takes_declaration
  · exact takes_probe
  · exact takes_reply
  · exact takes_serviceRequest
  · exact takes_serviceReport

end

/-! PROOFS. Probes that go out and time out. -/
namespace Sys2Proof.Machine
set_option Elab.async false

/-! ## The head of a sorted list -/

section
variable {α : Type} {le : α → α → Bool} (htotal : ∀ a b, le a b = true ∨ le b a = true)
  (htrans : ∀ a b c, le a b = true → le b c = true → le a c = true)

include htotal htrans in
theorem insertBy_head_le {x h : α} {xs : List α} (hsorted : ∀ a ∈ xs.head?, ∀ y ∈ xs, le a y = true)
    (hh : (insertBy le x xs).head? = some h) : ∀ y ∈ insertBy le x xs, le h y = true := by
  have hrefl (a : α) : le a a = true := (htotal a a).elim id id
  cases xs with
  | nil =>
    obtain rfl : x = h := by simpa [insertBy] using hh
    simp [insertBy, hrefl]
  | cons z zs =>
    have hz : ∀ y ∈ z :: zs, le z y = true := hsorted z rfl
    unfold insertBy at hh ⊢
    split at hh
    · next hle =>
      obtain rfl : z = h := by simpa using hh
      rw [if_pos hle]
      intro y hy
      rcases List.mem_cons.mp hy with rfl | hy
      · exact hrefl y
      · rcases List.mem_cons.mp ((insertBy_perm le x zs).mem_iff.mp hy) with rfl | hy
        · exact hle
        · exact hz y (List.mem_cons_of_mem _ hy)
    · next hle =>
      obtain rfl : x = h := by simpa using hh
      rw [if_neg hle]
      have hxz : le x z = true := (htotal x z).resolve_right hle
      intro y hy
      rcases List.mem_cons.mp hy with rfl | hy
      · exact hrefl y
      · exact htrans x z y hxz (hz y hy)

include htotal htrans in
/-- The head of a sorted list comes before every element. -/
theorem sortBy_head_le {xs : List α} : ∀ h ∈ (sortBy le xs).head?, ∀ y ∈ xs, le h y = true := by
  suffices hacc : ∀ acc : List α, (∀ h ∈ acc.head?, ∀ y ∈ acc, le h y = true) →
      ∀ h ∈ (xs.foldl (fun acc x => insertBy le x acc) acc).head?, ∀ y ∈ xs.foldl (fun acc x => insertBy le x acc) acc, le h y = true by
    intro h hh y hy
    exact hacc [] (by simp) h hh y ((sortBy_perm le xs).mem_iff.mpr hy)
  induction xs with
  | nil => exact fun acc hacc => hacc
  | cons x xs ih => exact fun acc hacc => ih _ fun h hh => insertBy_head_le htotal htrans hacc hh

end

/-! ## The choice (R59) -/

section
variable {s t : State} {r x : PeerRecord}

theorem choosable_iff : r.choosable = true ↔ (r.mode = some .active ∨ r.mode = some .economy) ∧ r.grade = .good ∧
    (r.ranging = .unranged ∨ r.ranging = .stale) := by
  simp [PeerRecord.choosable, PeerRecord.isAwake, and_assoc]

theorem olderRange_iff : s.olderRange r x = true ↔
    (r.rangeTime = none → x.rangeTime = none → r.id ≤ x.id) ∧
    (∀ m, r.rangeTime = some m → ∃ k, x.rangeTime = some k ∧
      (since s.now k < since s.now m ∨ (since s.now k = since s.now m ∧ r.id ≤ x.id))) := by
  unfold State.olderRange State.rangeAge
  cases r.rangeTime <;> cases x.rangeTime <;> simp <;> omega

theorem olderRange_total (a b : PeerRecord) : s.olderRange a b = true ∨ s.olderRange b a = true := by
  unfold State.olderRange
  cases s.rangeAge a <;> cases s.rangeAge b <;> simp <;> omega

theorem olderRange_trans (a b c : PeerRecord) (hab : s.olderRange a b = true) (hbc : s.olderRange b c = true) :
    s.olderRange a c = true := by
  revert hab hbc
  unfold State.olderRange
  cases s.rangeAge a <;> cases s.rangeAge b <;> cases s.rangeAge c <;> simp <;> omega

/-- The record chosen is choosable, and none has an older range (R59). -/
theorem probeChoice_spec (h : s.probeChoice = some r) :
    r ∈ s.peers ∧ r.choosable = true ∧ ∀ x ∈ s.peers, x.choosable = true → s.olderRange r x = true := by
  have hmem : r ∈ s.peers.filter PeerRecord.choosable := (sortBy_perm _ _).mem_iff.mp (List.mem_of_mem_head? h)
  have hle := sortBy_head_le olderRange_total olderRange_trans r h
  obtain ⟨hpeer, hchoosable⟩ := List.mem_filter.mp hmem
  exact ⟨hpeer, hchoosable, fun x hx hcx => hle x (List.mem_filter.mpr ⟨hx, hcx⟩)⟩

theorem probeChoice_isSome (h : s.peers.any PeerRecord.choosable = true) : s.probeChoice.isSome = true := by
  obtain ⟨r, hr, hc⟩ := List.any_eq_true.mp h
  have hmem : r ∈ sortBy s.olderRange (s.peers.filter PeerRecord.choosable) :=
    (sortBy_perm _ _).mem_iff.mpr (List.mem_filter.mpr ⟨hr, hc⟩)
  unfold State.probeChoice
  cases hs : sortBy s.olderRange (s.peers.filter PeerRecord.choosable) with
  | nil => rw [hs] at hmem; cases hmem
  | cons a as => rfl

theorem probeChoice_none (h : s.peers.any PeerRecord.choosable = false) : s.probeChoice = none := by
  have hnone : s.peers.filter PeerRecord.choosable = [] := by simpa [List.filter_eq_nil_iff] using h
  rw [State.probeChoice, hnone]
  rfl

/-- The probe goes to the record chosen (R59). -/
def probeChosen (r : PeerRecord) (s : State) : State :=
  (updPeer r.id (fun x => { x with ranging := .probing })
    (s.setTau { s.tau with
      probe := some { target := r.id, prior := r.ranging, chosenAt := s.now, t1 := none }, rest := none })).setSlots
    { s.lc.slots with probe := some { moment := s.now, target := r.id } }

theorem tauChoose_of_choice (hmay : s.mayProbe = true) (hr : s.probeChoice = some r) : tauChoose s = probeChosen r s := by
  have htakes : s.lcTakes = true := by
    simp only [State.mayProbe, Bool.and_eq_true] at hmay
    simp [State.lcTakes, hmay.1.1.2, hmay.2]
  simp only [tauChoose, hmay, hr]
  exact if_pos htakes

end
end Sys2Proof.Machine

section
open Sys2Proof Sys2Proof.Machine
set_option Elab.async false

/-- Settles O43. -/
theorem probesGoOutAndTimeOut : Obligations.ProbesGoOutAndTimeOut := by
  refine ⟨fun r => choosable_iff, ⟨fun s hset hcd hnone hrest hawake hfast hlisten hany => ?_, fun s hrest hnot => ?_⟩,
    fun s p r hrest hp hr => ⟨fun hold => ?_, fun hyoung => ?_⟩⟩
  · have hmay : s.mayProbe = true := by
      simp only [State.mayProbe, hnone, hawake, hfast, hlisten]
      cases hx : s.tau.rest with
      | none => rfl
      | some x => simpa [hx] using hrest x hx
    obtain ⟨r, hr⟩ := Option.isSome_iff_exists.mp (probeChoice_isSome hany)
    obtain ⟨hpeer, hchoosable, hleast⟩ := probeChoice_spec hr
    obtain ⟨hmode, hgrade, hranging⟩ := choosable_iff.mp hchoosable
    let t := probeChosen r s
    have htset : t.Settled := by simpa [State.Settled, t, probeChosen] using hset
    obtain ⟨-, -, htb, -, hpeers, htau, -, htd, -⟩ := finish_leaves_settled t htset
    obtain ⟨a, b, m, hlc⟩ := finish_lc_of_busy htset (by simpa [t, probeChosen] using hcd)
    refine ⟨finish t, r, ?_, hpeer, by simpa [PeerRecord.isAwake] using hmode, hgrade, hranging,
      fun x hx hcx => olderRange_iff.mp (hleast x hx hcx), ?_, ?_, fun x hx hid => ?_, fun id hid => ?_, ?_, ?_, ?_⟩
    · show Host.Outcome.next (finish (tauChoose s)) = _
      rw [tauChoose_of_choice hmay hr]
    · rw [htau]; simp [t, probeChosen]
    · rw [hlc]; simp [t, probeChosen]
    · rw [hpeers] at hx
      obtain ⟨y, -, rfl⟩ := List.mem_map.mp (show x ∈ List.map _ s.peers from hx)
      by_cases hy : (y.id == r.id) = true
      · rw [if_pos hy]
      · rw [if_neg hy] at hid
        exact absurd (beq_iff_eq.mpr hid) hy
    · exact (peer_of_peers_eq hpeers).trans ((peer_updPeer (x := id)).trans (if_neg hid))
    · rw [htb]; simp [t, probeChosen]
    · rw [finish_entries htset]; simp [t, probeChosen]
    · rw [htd]; simp [t, probeChosen]
  · have hstay : tauChoose s = s := by
      rcases hnot with hnone | hnot
      · simp only [tauChoose, probeChoice_none hnone]
        split <;> simp_all
      · have hmay : s.mayProbe = false := by
          rcases hnot with hopen | hasleep | hslow | hlisten | ⟨x, hx, hnotdue⟩
          · simp [State.mayProbe, Option.isNone_iff_eq_none, Option.isSome_iff_ne_none.mp hopen]
          · simp [State.mayProbe, hasleep]
          · simp [State.mayProbe, hslow]
          · simp [State.mayProbe, hlisten]
          · simp [State.mayProbe, hx, hnotdue]
        simp only [tauChoose, hmay]
    show Host.Outcome.next (finish (tauChoose s)) = _
    rw [hstay, finish_of_rested s hrest]
  · let t := probeEnds p s
    have hslots : t.lc.slots = { s.lc.slots with probe := none } := by simp [t, probeEnds]
    have haccess : t.lc.access = s.lc.access := by simp [t, probeEnds]
    have hcan : t.canTransmit = s.canTransmit := by
      apply canTransmit_congr <;> simp [t, probeEnds]
    have hwaits : t.lc.access ≠ .idle ∨ t.canTransmit = false ∨ t.lc.slots.allEmpty = true := by
      rw [haccess, hcan, hslots]
      have hlink := hrest.link
      unfold State.LinkRests at hlink
      split at hlink
      · next hempty => exact .inr (.inr (by simp_all [Slots.allEmpty]))
      · exact hlink.imp_right .inl
    obtain ⟨a, b, m, hkick⟩ := lcKick_lc hwaits
    have hfin : finish t = t.setLc { t.lc with access := a, busy := b, attempt := m } := by
      rw [hrest.finish_eq (t := t) (by simp [t, probeEnds]) (by simp [t, probeEnds]) (by simp [t, probeEnds])
        (by simp [t, probeEnds]) (by simp [t, probeEnds]), hkick]
    have hpeers : t.peers = (updPeer p.target (unansweredPeer s.now p.prior) s).peers := by simp [t, probeEnds]
    have hexec : exec .probeTimeout s = .next (finish t) := by
      show Host.Outcome.next (if _ then finish (tauUnanswered s) else s) = _
      rw [if_pos (by simp [hp, hold]), tauUnanswered_of_open hp]
    have hid (x : PeerRecord) : (unansweredPeer s.now p.prior x).id = x.id := by
      unfold unansweredPeer
      split <;> rfl
    refine ⟨_, hexec, ?_, fun id hne => ?_, ?_, ?_, ?_, ?_, ?_, ?_⟩ <;>
      rw [hfin]
    · exact (peer_of_peers_eq hpeers).trans ((peer_updPeer hid).trans (by rw [if_pos rfl, hr]; rfl))
    · exact (peer_of_peers_eq hpeers).trans ((peer_updPeer hid).trans (if_neg hne))
    all_goals simp [t, probeEnds, State.startTimer, State.now]
  · exact next_ite_neg (by simp [hp]; omega)

end

/-! PROOFS. Polls. -/
namespace Sys2Proof.Machine
set_option Elab.async false

/-! ## The devices of a poll (R159) -/

section
variable {s : State} {u v : TwUser} {missed : State → State}

theorem twRequest_busyFor : (twRequest u s).twm.busyFor v = (decide (v = u) || s.twm.busyFor v) := by
  have hbus : (twRequest u s).twm.bus = s.twm.bus := by cases u <;> rfl
  have hplace : (twRequest u s).twm.place v = if v = u then some { wanted := true } else s.twm.place v := by
    cases u <;> cases v <;> rfl
  unfold TwoWire.busyFor
  rw [hbus, hplace]
  by_cases h : v = u <;> simp [h]

theorem pollDevice_of_free (h : s.twm.busyFor u = false) : pollDevice u missed s = twRequest u s := by
  simp [pollDevice, h]

theorem pollDevice_of_busy (h : s.twm.busyFor u = true) : pollDevice u missed s = missed (bump .pollOverruns s) := by
  simp [pollDevice, h]

/-- A missed poll short of the tenth only raises the stale count (R161). -/
def staleRaised (s : State) : State :=
  s.setBm { s.bm with
    staleCount := s.bm.staleCount + 1, stale := s.bm.stale || decide (3 ≤ s.bm.staleCount + 1)
    chargeEn := s.bm.chargeEn && decide (s.bm.staleCount + 1 < 3) }

theorem batteryMissed_of_short (h : s.bm.staleCount < 9) : batteryMissed s = staleRaised s := by
  have hn : min 65535 (s.bm.staleCount + 1) = s.bm.staleCount + 1 := by omega
  have hne : ¬ (s.bm.staleCount + 1 = 10) := by omega
  simp only [batteryMissed, hn, hne, false_and, if_false]
  rfl

/-- The poll period of a mode in seconds (section 9.1). -/
def pollSeconds : OpMode → Nat
  | .active => 10
  | .economy => 30
  | .dormant => 120
  | .shelter => 600

theorem pollPeriod_of_mode {m : OpMode} (h : s.mc.standing.mode = some m) : s.pollPeriod = some (secs (pollSeconds m)) := by
  unfold State.pollPeriod
  rw [h]
  cases m <;> rfl

/-- The timer of a poll starts with the period of the mode (R158). -/
def pollTimed (s : State) : State :=
  s.setBm { s.bm with lastPoll := some s.now, pollTimer := s.pollPeriod.map (fun p => { start := s.now, period := p }) }

/-- In DORMANT and SHELTER a poll joins the brief-run users (R189). -/
def pollJoins (s : State) : State :=
  if s.dormant || s.mc.standing.inShelter then s.setMc { s.mc with users := { s.mc.users with poll := true } } else s

/-- A poll, its battery part having led to `b`, requests the two sensors and starts the timer (R158, R159). -/
def sensorsPolled (b : State) : State := pollJoins (pollTimed (twRequest .tempB (twRequest .tempA b)))

theorem makePoll_of_free_sensors {b : State} (hb : pollDevice .battery batteryMissed s = b)
    (hA : b.twm.busyFor .tempA = false) (hB : b.twm.busyFor .tempB = false) : makePoll s = sensorsPolled b := by
  have hB' : (twRequest .tempA b).twm.busyFor .tempB = false := by rw [twRequest_busyFor, hB]; rfl
  unfold makePoll
  simp only [hb, pollDevice_of_free hA, pollDevice_of_free hB']
  rfl

@[simp] theorem pollJoins_leaves : (pollJoins s).twm = s.twm ∧ (pollJoins s).bm = s.bm ∧ (pollJoins s).counters = s.counters ∧
    (pollJoins s).mc.evalDue = s.mc.evalDue ∧ (pollJoins s).mc.abandonDue = s.mc.abandonDue := by
  unfold pollJoins
  split <;> simp

/-- What a poll leaves, its battery part having led to `b`. -/
theorem sensorsPolled_facts {b : State} :
    (∀ u, (sensorsPolled b).twm.busyFor u = (decide (u = .tempB) || (decide (u = .tempA) || b.twm.busyFor u))) ∧
    (sensorsPolled b).bm =
      { b.bm with lastPoll := some b.now, pollTimer := b.pollPeriod.map (fun p => { start := b.now, period := p }) } ∧
    ((b.dormant || b.mc.standing.inShelter) = true → (sensorsPolled b).mc.users.poll = true) ∧
    (sensorsPolled b).counters = b.counters ∧
    (sensorsPolled b).mc.evalDue = b.mc.evalDue ∧ (sensorsPolled b).mc.abandonDue = b.mc.abandonDue := by
  refine ⟨fun u => ?_, by simp [sensorsPolled, pollTimed, twRequest, State.now, State.pollPeriod], fun h => ?_,
    by simp [sensorsPolled, pollTimed, twRequest], by simp [sensorsPolled, pollTimed, twRequest],
    by simp [sensorsPolled, pollTimed, twRequest]⟩
  · have hreq := twRequest_busyFor (s := twRequest .tempA b) (u := .tempB) (v := u)
    rw [twRequest_busyFor (u := .tempA)] at hreq
    show (pollJoins _).twm.busyFor u = _
    rw [pollJoins_leaves.1]
    exact hreq
  · unfold sensorsPolled pollJoins
    rw [if_pos (by simpa [pollTimed, twRequest, State.dormant] using h)]
    rfl

end
end Sys2Proof.Machine

section
open Sys2Proof Sys2Proof.Machine
set_option Elab.async false

/-- Settles O55. -/
theorem pollRequestsTheThreeDevices : Obligations.PollRequestsTheThreeDevices := by
  intro s m hset hdue hmode hA hB hshort
  obtain ⟨b, hb, hAb, hBb, hbattery, hmc, hnow, hfree, hbusy⟩ : ∃ b, pollDevice .battery batteryMissed s = b ∧
      b.twm.busyFor .tempA = false ∧ b.twm.busyFor .tempB = false ∧ b.twm.busyFor .battery = true ∧ b.mc = s.mc ∧
      b.now = s.now ∧
      (s.twm.busyFor .battery = false → b.bm.staleCount = s.bm.staleCount ∧ b.count .pollOverruns = s.count .pollOverruns) ∧
      (s.twm.busyFor .battery = true → b.bm.staleCount = s.bm.staleCount + 1 ∧
        b.count .pollOverruns = min (s.count .pollOverruns + 1) 65535) := by
    cases hbattery : s.twm.busyFor .battery with
    | false =>
      refine ⟨_, pollDevice_of_free hbattery, ?_, ?_, ?_, rfl, rfl, fun _ => ⟨rfl, rfl⟩, by simp⟩ <;>
        simp [twRequest_busyFor, hA, hB]
    | true =>
      refine ⟨staleRaised (bump .pollOverruns s), ?_, hA, hB, hbattery, rfl, rfl, by simp, fun _ => ⟨rfl, ?_⟩⟩
      · rw [pollDevice_of_busy hbattery, batteryMissed_of_short (by exact hshort hbattery)]
      · simp [staleRaised]
  let t := sensorsPolled b
  obtain ⟨hwork, hbm, husers, hcounters, heval, habandon⟩ := sensorsPolled_facts (b := b)
  have htset : t.Settled := by rw [State.Settled, heval, habandon, hmc]; exact hset
  have hperiod : b.pollPeriod = some (secs (pollSeconds m)) := pollPeriod_of_mode (by rw [hmc, hmode])
  obtain ⟨-, -, -, -, -, -, -, -, hbmt, -⟩ := finish_leaves_settled t htset
  have hcount : (finish t).count .pollOverruns = b.count .pollOverruns :=
    (finish_count htset (by decide) (by decide)).trans (count_of_counters_eq hcounters)
  refine ⟨finish t, ?_, ?_, ?_, ?_, ?_, ?_, fun hm => ?_, fun h => ?_, fun h => ?_⟩
  · show Host.Outcome.next (if _ then finish (makePoll s) else s) = _
    rw [if_pos hdue, makePoll_of_free_sensors hb hAb hBb]
  · exact finish_busyFor htset (by simp [t, hwork, hbattery])
  · exact finish_busyFor htset (by simp [t, hwork])
  · exact finish_busyFor htset (by simp [t, hwork])
  · rw [hbmt, hbm, hperiod, hnow]
    cases m <;> rfl
  · rw [hbmt, hbm, hnow]
  · rw [finish_users htset]
    refine husers ?_
    unfold State.dormant
    rw [hmc]
    generalize s.mc.standing = x at hmode
    rcases hm with rfl | rfl <;> cases x <;> simp_all [Standing.mode, Standing.inDormant, Standing.inShelter]
  · rw [hbmt, hbm, hcount]
    exact hfree h
  · rw [hbmt, hbm, hcount]
    exact hbusy h

end

/-! PROOFS. The Reference Mark Unit: verdicts, MARK edges, label reads. -/
namespace Sys2Proof.Machine
set_option Elab.async false

/-! ## Verdicts (R16, R18) -/

section
variable {s t u : State} {v : Verdict} {cause : Option Elapsed} {m n : Nat}

@[simp] theorem countVerdict_missing : countVerdict .missing s = bump .missingMarks s := rfl

/-- The Timebase behind the end of LOCKED (R8). -/
def Timebase.unlocked (x : Timebase) : Timebase := { x with distance := if x.distance = 0 then 1 else x.distance }

theorem distanceUnlocked_eq : distanceUnlocked s = s.setTb s.tb.unlocked := by
  unfold distanceUnlocked Timebase.unlocked
  by_cases h : s.tb.distance = 0 <;> simp [h]
  rfl

@[simp] theorem unlocked_unlocked {x : Timebase} : x.unlocked.unlocked = x.unlocked := by
  unfold Timebase.unlocked
  by_cases h : x.distance = 0 <;> simp [h]

/-- LOCKED is left for HOLDOVER by a third mark that was no good (R18). -/
def Rmu.unlocks (r : Rmu) (loss : Option Timer) (cause : Option Elapsed) : Rmu :=
  { r with
    state := .holdover, good := 0, bad := r.bad + 1, offsets := [], lossTimer := loss
    expectation := r.expectation.map (fun e => { e with live := some e.due == cause }) }

section
variable (hv : v = .bad ∨ v = .missing)
include hv

theorem countVerdict_rmu_tb : (countVerdict v s).rmu = s.rmu ∧ (countVerdict v s).tb = s.tb := by
  rcases hv with rfl | rfl <;> exact ⟨rfl, rfl⟩

theorem rmuVerdict_of_absent (h : s.rmu.state = .absent) : rmuVerdict v cause s = countVerdict v s := by
  obtain ⟨hrmu, -⟩ := countVerdict_rmu_tb (s := s) hv
  rcases hv with rfl | rfl <;> simp only [rmuVerdict, hrmu, h]

theorem rmuVerdict_of_searching (h : s.rmu.state = .acquiring ∨ s.rmu.state = .holdover) :
    rmuVerdict v cause s = (countVerdict v s).setRmu { s.rmu with good := 0 } := by
  obtain ⟨hrmu, -⟩ := countVerdict_rmu_tb (s := s) hv
  rcases hv with rfl | rfl <;> rcases h with h | h <;> simp only [rmuVerdict, hrmu, h]

theorem rmuVerdict_of_locked (h : s.rmu.state = .locked) (hbad : s.rmu.bad ≤ 1) :
    rmuVerdict v cause s = (countVerdict v s).setRmu { s.rmu with bad := s.rmu.bad + 1 } := by
  obtain ⟨hrmu, -⟩ := countVerdict_rmu_tb (s := s) hv
  rcases hv with rfl | rfl <;> simp only [rmuVerdict, hrmu, h] <;> exact if_neg (Nat.not_le.mpr (Nat.lt_of_le_of_lt (Nat.succ_le_succ hbad) (by decide)))

theorem rmuVerdict_of_third (h : s.rmu.state = .locked) (hbad : 2 ≤ s.rmu.bad) :
    rmuVerdict v cause s = ((countVerdict v s).setRmu (s.rmu.unlocks (s.startTimer (secs 60)) cause)).setTb s.tb.unlocked := by
  obtain ⟨hrmu, htb⟩ := countVerdict_rmu_tb (s := s) hv
  have hunlock : rmuUnlock cause ((countVerdict v s).setRmu { s.rmu with bad := s.rmu.bad + 1 }) =
      ((countVerdict v s).setRmu (s.rmu.unlocks (s.startTimer (secs 60)) cause)).setTb s.tb.unlocked := by
    unfold rmuUnlock
    rw [distanceUnlocked_eq]
    simp only [rmuMove, setRmu_rmu, setRmu_tb, htb]
    rcases hv with rfl | rfl <;> rfl
  rw [← hunlock]
  rcases hv with rfl | rfl <;> simp only [rmuVerdict, hrmu, h] <;> exact if_pos (Nat.succ_le_succ hbad)

end

@[simp] theorem rmuMove_marks {st : RmuState} : (rmuMove st cause s).rmu.prev = s.rmu.prev ∧
    (rmuMove st cause s).rmu.openMark = s.rmu.openMark ∧ (rmuMove st cause s).rmu.sleeping = s.rmu.sleeping := ⟨rfl, rfl, rfl⟩

@[simp] theorem countVerdict_leaves_rmu_tb : (countVerdict v s).rmu = s.rmu ∧ (countVerdict v s).tb = s.tb := by
  cases v <;> exact ⟨rfl, rfl⟩

/-- A verdict neither makes nor takes a mark, and moves no time. -/
@[simp] theorem rmuVerdict_marks : (rmuVerdict v cause s).rmu.prev = s.rmu.prev ∧
    (rmuVerdict v cause s).rmu.openMark = s.rmu.openMark ∧ (rmuVerdict v cause s).tb.elapsed = s.tb.elapsed ∧
    (rmuVerdict v cause s).tb.source = s.tb.source ∧ (rmuVerdict v cause s).tb.time = s.tb.time := by
  unfold rmuVerdict
  dsimp only
  split <;> (repeat' split) <;> simp [rmuAcquire, rmuLock, rmuUnlock, distanceUnlocked_eq, Timebase.unlocked]

/-! ## Missing marks -/

/-- `n` marks went missing between the two states (R18). -/
structure State.Missed (n : Nat) (s t : State) : Prop where
  now : t.now = s.now
  counted : t.count .missingMarks = min (s.count .missingMarks + n) 65535
  absent : s.rmu.state = .absent → t.rmu.state = .absent ∧ t.tb = s.tb
  searching : s.rmu.state = .acquiring ∨ s.rmu.state = .holdover →
    t.rmu.state = s.rmu.state ∧ t.rmu.good = 0 ∧ t.rmu.offsets = s.rmu.offsets ∧ t.rmu.lossTimer = s.rmu.lossTimer ∧ t.tb = s.tb
  locked : s.rmu.state = .locked → s.rmu.bad + n ≤ 2 →
    t.rmu.state = .locked ∧ t.rmu.bad = s.rmu.bad + n ∧ t.rmu.offsets = s.rmu.offsets ∧ t.tb = s.tb
  unlocked : s.rmu.state = .locked → s.rmu.bad ≤ 2 → 3 ≤ s.rmu.bad + n →
    t.rmu.state = .holdover ∧ t.rmu.offsets = [] ∧ t.rmu.good = 0 ∧ t.rmu.lossTimer = s.startTimer (secs 60) ∧ t.tb = s.tb.unlocked

theorem missed_verdict : State.Missed 1 s (rmuVerdict .missing cause s) where
  now := by simp [State.now]
  counted := by
    cases h : s.rmu.state with
    | absent => rw [rmuVerdict_of_absent (.inr rfl) h]; simp
    | acquiring => rw [rmuVerdict_of_searching (.inr rfl) (.inl h)]; simp
    | holdover => rw [rmuVerdict_of_searching (.inr rfl) (.inr h)]; simp
    | locked =>
      rcases Nat.lt_or_ge s.rmu.bad 2 with hbad | hbad
      · rw [rmuVerdict_of_locked (.inr rfl) h (by omega)]; simp
      · rw [rmuVerdict_of_third (.inr rfl) h hbad]; simp
  absent h := by rw [rmuVerdict_of_absent (.inr rfl) h]; simp [h]
  searching h := by rw [rmuVerdict_of_searching (.inr rfl) h]; simp
  locked h hbad := by rw [rmuVerdict_of_locked (.inr rfl) h (by omega)]; simp [h]
  unlocked h _ hbad := by rw [rmuVerdict_of_third (.inr rfl) h (by omega)]; simp [Rmu.unlocks]

theorem State.Missed.succ (h : State.Missed n s t) (h' : State.Missed 1 t u) : State.Missed (n + 1) s u where
  now := h'.now.trans h.now
  counted := by rw [h'.counted, h.counted]; omega
  absent hs := by
    obtain ⟨ht, htb⟩ := h.absent hs
    rw [← htb]
    exact h'.absent ht
  searching hs := by
    obtain ⟨ht, -, hoffsets, hloss, htb⟩ := h.searching hs
    rw [← ht, ← hoffsets, ← hloss, ← htb]
    exact h'.searching (ht ▸ hs)
  locked hs hbad := by
    obtain ⟨ht, hbad', hoffsets, htb⟩ := h.locked hs (by omega)
    rw [← htb, ← hoffsets, ← Nat.add_assoc, ← hbad']
    exact h'.locked ht (by omega)
  unlocked hs hle hbad := by
    rcases Nat.lt_or_ge (s.rmu.bad + n) 3 with hbefore | hdone
    · obtain ⟨ht, hbad', -, htb⟩ := h.locked hs (by omega)
      rw [← htb, show s.startTimer (secs 60) = t.startTimer (secs 60) by simp [State.startTimer, h.now]]
      exact h'.unlocked ht (by omega) (by omega)
    · obtain ⟨ht, hoffsets, hgood, hloss, htb⟩ := h.unlocked hs hle hdone
      obtain ⟨hu, hgood', hoffsets', hloss', htb'⟩ := h'.searching (.inr ht)
      exact ⟨hu.trans ht, hoffsets'.trans hoffsets, hgood', hloss'.trans hloss, htb'.trans htb⟩

/-! ## A change beside the two-wire bus, at rest -/

/-- At a station at rest only the Two-Wire Master may follow up a change of the Reference Mark Unit. -/
theorem State.Rested.finish_twKick (h : s.Rested) (hsource : t.tb.source = s.tb.source) (hlc : t.lc = s.lc) (huc : t.uc = s.uc)
    (hmc : t.mc = s.mc) (hcs : t.cs = s.cs) : finish t = twKick t := by
  have hset : t.Settled := by rw [State.Settled, hmc]; exact h.settled
  have hmodem : t.ModemRests := by
    have hm := h.modem
    unfold State.ModemRests State.awake at hm ⊢
    rw [hmc, huc, hcs]
    exact hm
  have hosc : t.OscRests := by rw [State.OscRests, hsource, hmc]; exact h.osc
  have hlink : (twKick t).LinkRests := by
    have hcan : (twKick t).canTransmit = s.canTransmit := canTransmit_congr (by simp [hlc]) (by simp [hmc]) (by simp [hcs])
    have hl := h.link
    unfold State.LinkRests at hl ⊢
    rw [hcan]
    simpa [hlc] using hl
  rw [finish_eq_follow hset, modemKick_of_rests t hmodem, syncOsc_of_rests t hosc, lcKick_of_rests _ hlink]

theorem twKick_of_busy (h : s.twm.bus.isSome = true) : twKick s = s := by
  unfold twKick
  rw [if_neg (by simp [Option.isSome_iff_ne_none.mp h])]

/-- The start of a transaction leaves what each user waits for. -/
theorem twKick_busyFor_eq {w : TwUser} : (twKick s).twm.busyFor w = s.twm.busyFor w := by
  unfold twKick
  split
  · next hidle =>
    have hbus : s.twm.bus = none := by simpa using (Bool.and_eq_true_iff.mp hidle).1
    split
    · next x _ =>
      have hstart : ({ s.twm.setPlace x none with
          bus := some { user := x, wanted := (s.twm.place x).any (fun r => r.wanted), check := .waiting } } : TwoWire).busyFor w =
            s.twm.busyFor w := by
        have hplace : (s.twm.setPlace x none).place w = if w = x then none else s.twm.place w := setPlace_place
        rw [TwoWire.busyFor, show ∀ b, ({ s.twm.setPlace x none with bus := b } : TwoWire).place w = (s.twm.setPlace x none).place w
          by intro b; cases w <;> rfl, hplace, TwoWire.busyFor, hbus]
        by_cases hwx : w = x
        · subst hwx; simp
        · simp [hwx, Ne.symm hwx]
      unfold twStart
      dsimp only
      split
      · rw [freeBusCheck_busyFor]
        exact hstart
      · exact hstart
    · rfl
  · rfl

/-! ## MARK edges (R15) -/

theorem closeOpenMark_of_none (h : s.rmu.openMark = none) : closeOpenMark s = s := by simp [closeOpenMark, h]

/-- An open mark that ends as MISSING is closed, and its read goes to no one (R15). -/
theorem closeOpenMark_of_open {x : OpenMark} (h : s.rmu.openMark = some x) :
    (closeOpenMark s).rmu.openMark = none ∧ (closeOpenMark s).rmu.prev = s.rmu.prev ∧ State.Missed 1 s (closeOpenMark s) ∧
    (closeOpenMark s).twm = (twDiscard .label s).twm ∧ (closeOpenMark s).tb.source = s.tb.source ∧
    (closeOpenMark s).tb.time = s.tb.time := by
  let t := twDiscard .label (s.setRmu { s.rmu with openMark := none })
  have hclose : closeOpenMark s = rmuVerdict .missing (some (edgeDueAt x.edge)) t := by simp only [closeOpenMark, h]; rfl
  obtain ⟨hnow, hcounted, habsent, hsearching, hlocked, hunlocked⟩ :=
    missed_verdict (s := t) (cause := some (edgeDueAt x.edge))
  rw [hclose]
  exact ⟨by simp [t], by simp [t], ⟨hnow, hcounted, habsent, hsearching, hlocked, hunlocked⟩, by simp only [rmuVerdict_leaves]; rfl,
    by simp [t], by simp [t]⟩

theorem twDiscard_label_idle : (twDiscard .label s).twm.busyFor .label = false := by
  have hplace : (twDiscard .label s).twm.place .label = s.twm.label.map (fun _ => { wanted := false }) := rfl
  have hbus : (twDiscard .label s).twm.bus =
      s.twm.bus.map (fun b => if b.user == .label then { b with wanted := false } else b) := rfl
  unfold TwoWire.busyFor
  rw [hplace, hbus]
  cases s.twm.label <;> cases hb : s.twm.bus <;> simp <;> split <;> simp_all

/-- A MARK edge on the fast source opens a mark, requests its label and arms the expectation (R15, R17). -/
def markOpened (s : State) : State :=
  twRequest .label (s.setRmu { s.rmu with
    openMark := some { stamp := s.tb.time, edge := s.now }, expectation := some { due := edgeDueAt s.now, live := true } })

theorem rmuEdge_of_fast (htakes : s.takesMarks = true) (h : s.tb.source = .fast) :
    rmuEdge s = markOpened (closeOpenMark s) := by
  have hsource : (closeOpenMark s).tb.source = .fast := by
    cases hm : s.rmu.openMark with
    | none => rw [closeOpenMark_of_none hm, h]
    | some x => rw [(closeOpenMark_of_open hm).2.2.2.2.1, h]
  unfold rmuEdge
  simp only [htakes, hsource]
  rfl

theorem rmuEdge_of_not_fast (htakes : s.takesMarks = true) (h : s.tb.source ≠ .fast) :
    rmuEdge s = rmuVerdict .missing none (closeOpenMark s) := by
  have hsource : (closeOpenMark s).tb.source ≠ .fast := by
    cases hm : s.rmu.openMark with
    | none => rwa [closeOpenMark_of_none hm]
    | some x => rwa [(closeOpenMark_of_open hm).2.2.2.2.1]
  unfold rmuEdge
  simp only [htakes]
  show (if ((closeOpenMark s).tb.source == .fast) = true then _ else _) = _
  rw [if_neg (by simpa using hsource)]

/-- The blocks that a MARK edge leaves alone. -/
def State.besideMarks (s t : State) : Prop :=
  t.lc = s.lc ∧ t.peers = s.peers ∧ t.tau = s.tau ∧ t.si = s.si ∧ t.td = s.td ∧ t.cu = s.cu ∧
  t.uc = s.uc ∧ t.bm = s.bm ∧ t.hc = s.hc ∧ t.mc = s.mc ∧ t.cs = s.cs ∧ t.pins = s.pins

theorem rmuEdge_besideMarks : s.besideMarks (twKick (rmuEdge s)) := by simp [State.besideMarks]

theorem rmuEdge_source : (rmuEdge s).tb.source = s.tb.source := by
  by_cases htakes : s.takesMarks = true
  · have hclose : (closeOpenMark s).tb.source = s.tb.source := by
      cases hm : s.rmu.openMark with
      | none => rw [closeOpenMark_of_none hm]
      | some x => exact (closeOpenMark_of_open hm).2.2.2.2.1
    by_cases h : s.tb.source = .fast
    · rw [rmuEdge_of_fast htakes h]
      exact hclose
    · rw [rmuEdge_of_not_fast htakes h, rmuVerdict_marks.2.2.2.1, hclose]
  · simp [rmuEdge, htakes]

/-- At a station at rest only the Two-Wire Master follows up a MARK edge. -/
theorem State.Rested.exec_markEdge (h : s.Rested) : exec .markEdge s = .next (twKick (rmuEdge s)) := by
  show Host.Outcome.next (finish (rmuEdge s)) = _
  rw [h.finish_twKick rmuEdge_source (by simp) (by simp) (by simp) (by simp)]

theorem State.Missed.markOpened (h : State.Missed n s t) : State.Missed n s (markOpened t) :=
  ⟨h.now, h.counted, h.absent, h.searching, h.locked, h.unlocked⟩

theorem State.Missed.twKick (h : State.Missed n s t) : State.Missed n s (twKick t) := by
  obtain ⟨hnow, hcounted, habsent, hsearching, hlocked, hunlocked⟩ := h
  refine ⟨by simpa [State.now] using hnow, by rw [twKick_count (by decide)]; exact hcounted, ?_, ?_, ?_, ?_⟩ <;>
    simp only [twKick_leaves] <;> assumption

/-- A mark that did not come is MISSING, and the expectation is armed one second on (R17). -/
theorem rmuExpectation_of_due {e : Expectation} (he : s.rmu.expectation = some e) (hlive : e.live = true)
    (hexpects : s.rmu.expects = true) (hdue : reached s.now e.due = true) :
    rmuExpectation s = rmuVerdict .missing (some (e.due + 1048576))
      (s.setRmu { s.rmu with expectation := some { due := e.due + 1048576, live := true } }) := by
  simp only [rmuExpectation, he, hlive, hexpects, hdue]
  rfl

theorem missed_iff (h : State.Missed n s t) : t.count .missingMarks = min (s.count .missingMarks + n) 65535 ∧
    (s.rmu.state = .absent → t.rmu.state = .absent ∧ t.tb = s.tb) ∧
    ((s.rmu.state = .acquiring ∨ s.rmu.state = .holdover) → t.rmu.state = s.rmu.state ∧ t.rmu.good = 0 ∧ t.tb = s.tb) ∧
    (s.rmu.state = .locked → s.rmu.bad + n ≤ 2 →
      t.rmu.state = .locked ∧ t.rmu.bad = s.rmu.bad + n ∧ t.rmu.offsets = s.rmu.offsets ∧ t.tb = s.tb) ∧
    (s.rmu.state = .locked → s.rmu.bad ≤ 2 → 3 ≤ s.rmu.bad + n → t.rmu.state = .holdover ∧ t.rmu.offsets = [] ∧
      t.rmu.good = 0 ∧ t.rmu.lossTimer = some { start := s.now, period := secs 60 } ∧
      t.tb = { s.tb with distance := if s.tb.distance = 0 then 1 else s.tb.distance }) :=
  ⟨h.counted, h.absent, fun hs => ⟨(h.searching hs).1, (h.searching hs).2.1, (h.searching hs).2.2.2.2⟩, h.locked, h.unlocked⟩

end
end Sys2Proof.Machine

section
open Sys2Proof Sys2Proof.Machine
set_option Elab.async false

/-- Settles O24. -/
theorem markEdgesAndTimersMoveTheReference : Obligations.MarkEdgesAndTimersMoveTheReference := by
  refine ⟨fun s hrest => ?_, fun s e he hlive hawake hdue => ⟨fun hstate => ?_, fun hstate hbad => ?_⟩, fun s hdue hstate => ?_⟩
  · have hexec := hrest.exec_markEdge
    have hbeside := rmuEdge_besideMarks (s := s)
    have htakes : s.cs.image.receiver = true ∧ s.awake = true ∧ s.rmu.sleeping = false ↔ s.takesMarks = true := by
      simp [State.takesMarks, and_assoc]
    refine ⟨fun hmay hfast hclosed => ?_, fun m hmay hfast hopen => ?_, fun hmay hslow hclosed => ?_, fun m hmay hslow hopen => ?_,
      fun hnot => ?_⟩
    · have hedge : rmuEdge s = markOpened s := by
        rw [rmuEdge_of_fast (htakes.mp hmay) hfast, closeOpenMark_of_none hclosed]
      refine ⟨_, hexec, ?_, ?_, ?_, hbeside⟩ <;> rw [hedge]
      · simp only [twKick_leaves]; rfl
      · rw [twKick_busyFor_eq, markOpened, twRequest_busyFor]; rfl
      · simp only [twKick_leaves]; rfl
    · have hedge : rmuEdge s = markOpened (closeOpenMark s) := rmuEdge_of_fast (htakes.mp hmay) hfast
      obtain ⟨-, hprev, hmissed, htwm, -, htime⟩ := closeOpenMark_of_open hopen
      have hnow : (closeOpenMark s).now = s.now := hmissed.now
      refine ⟨_, hexec, ?_, ?_, ?_, missed_iff (hedge ▸ hmissed.markOpened.twKick), ?_, fun x hx => ?_, hbeside⟩ <;> rw [hedge]
      · rw [← hnow, ← htime]; simp only [twKick_leaves]; rfl
      · rw [← hnow]; simp only [twKick_leaves]; rfl
      · rw [← hprev]; simp only [twKick_leaves]; rfl
      · rw [twKick_busyFor_eq, markOpened, twRequest_busyFor]; rfl
      · have hbus : (markOpened (closeOpenMark s)).twm.bus =
            some (if x.user = .label then { x with wanted := false } else x) := by
          show (closeOpenMark s).twm.bus = _
          rw [htwm]
          show s.twm.bus.map _ = _
          rw [hx]
          simp
        rw [twKick_of_busy (by rw [hbus]; rfl)]
        exact ⟨rfl, hbus⟩
    · have hedge : rmuEdge s = rmuVerdict .missing none s := by
        rw [rmuEdge_of_not_fast (htakes.mp hmay) hslow, closeOpenMark_of_none hclosed]
      have hkick : twKick (rmuEdge s) = rmuEdge s := by
        refine twKick_of_rests _ ?_
        have hbus := hrest.bus
        rw [hedge]
        simpa [State.BusRests] using hbus
      rw [hexec, hkick, hedge]
      refine ⟨fun h => ?_, fun h => ?_, fun h hbad => ?_, fun h hbad => ?_⟩
      · rw [rmuVerdict_of_absent (.inr rfl) h]; rfl
      · rw [rmuVerdict_of_searching (.inr rfl) h]; rfl
      · rw [rmuVerdict_of_locked (.inr rfl) h hbad]; rfl
      · rw [rmuVerdict_of_third (.inr rfl) h (by omega), Rmu.unlocks, hbad]
        simp
        rfl
    · have hedge : rmuEdge s = rmuVerdict .missing none (closeOpenMark s) := rmuEdge_of_not_fast (htakes.mp hmay) hslow
      obtain ⟨hnone, hprev, hmissed, htwm, -⟩ := closeOpenMark_of_open hopen
      refine ⟨_, hexec, ?_, ?_, missed_iff (hedge ▸ (hmissed.succ missed_verdict).twKick), ?_, hbeside⟩ <;> rw [hedge]
      · simpa using hnone
      · simpa using hprev
      · have hsame : (rmuVerdict .missing none (closeOpenMark s)).twm = (twDiscard .label s).twm := by simp [htwm]
        rw [twKick_busyFor_eq, hsame, twDiscard_label_idle]
    · have hedge : rmuEdge s = s := by
        unfold rmuEdge
        rw [if_pos (by simpa using fun h => hnot (htakes.mpr h))]
      rw [hexec, hedge, twKick_of_rests s hrest.bus]
  · have hexpects : s.rmu.expects = true := by rcases hstate with h | h <;> simp [Rmu.expects, h, hawake]
    show Host.Outcome.next (rmuExpectation s) = _
    rw [rmuExpectation_of_due he hlive hexpects hdue, rmuVerdict_of_searching (.inr rfl) (by exact hstate)]
    rfl
  · have hexpects : s.rmu.expects = true := by simp [Rmu.expects, hstate, hawake]
    show Host.Outcome.next (rmuExpectation s) = _
    rw [rmuExpectation_of_due he hlive hexpects hdue, rmuVerdict_of_third (.inr rfl) (by exact hstate) (by exact hbad.ge)]
    simp [Rmu.unlocks, hbad]
    rfl
  · refine next_ite_pos ?_
    rcases hstate with h | h <;> simp [hdue, h]

end

/-! PROOFS. The end of a mark's label read. -/
namespace Sys2Proof.Machine
set_option Elab.async false

section
variable {s t : State} {v : Verdict} {cause : Option Elapsed} {o : Int}

/-! ## What each verdict does (R18) -/

theorem pushKeep_three {xs : List Int} (h : xs.length ≤ 3) :
    pushKeep 3 xs o = (if xs.length = 3 then xs.tail else xs) ++ [o] := by
  rcases Nat.lt_or_ge xs.length 3 with hlt | hge
  · rw [if_neg (by omega), pushKeep, show xs.length + 1 - 3 = 0 by omega, List.drop_zero]
  · have h3 : xs.length = 3 := by omega
    obtain ⟨a, b, c, rfl⟩ := List.length_eq_three.mp h3
    rfl

/-- What a verdict that is neither GOOD nor FIRST moves (R18). -/
structure State.Adverse (s t : State) : Prop where
  absent : s.rmu.state = .absent → t.rmu.state = s.rmu.state ∧ t.rmu.lossTimer = s.rmu.lossTimer ∧ t.tb = s.tb
  searching : s.rmu.state = .acquiring ∨ s.rmu.state = .holdover →
    (t.rmu.state = s.rmu.state ∧ t.rmu.lossTimer = s.rmu.lossTimer ∧ t.tb = s.tb) ∧ t.rmu.good = 0
  locked : s.rmu.state = .locked → s.rmu.bad ≤ 1 →
    (t.rmu.state = s.rmu.state ∧ t.rmu.lossTimer = s.rmu.lossTimer ∧ t.tb = s.tb) ∧
    t.rmu.bad = s.rmu.bad + 1 ∧ t.rmu.offsets = s.rmu.offsets
  third : s.rmu.state = .locked → s.rmu.bad = 2 → t.rmu.state = .holdover ∧ t.rmu.offsets = [] ∧ t.rmu.good = 0 ∧
    t.rmu.lossTimer = s.startTimer (secs 60) ∧ t.tb = s.tb.unlocked

theorem adverse_verdict (hv : v = .bad ∨ v = .missing) : s.Adverse (rmuVerdict v cause s) where
  absent h := by rw [rmuVerdict_of_absent hv h]; simp
  searching h := by rw [rmuVerdict_of_searching hv h]; simp
  locked h hbad := by rw [rmuVerdict_of_locked hv h hbad]; simp
  third h hbad := by rw [rmuVerdict_of_third hv h hbad.ge]; simp [Rmu.unlocks]

/-- What the verdict GOOD moves (R18, R8). -/
structure State.Good (o : Int) (s t : State) : Prop where
  absent : s.rmu.state = .absent → t.rmu.state = .acquiring ∧ t.rmu.good = 0 ∧
    t.rmu.lossTimer = s.startTimer (secs 60) ∧ t.tb = s.tb
  fourth : s.rmu.state = .acquiring ∨ s.rmu.state = .holdover → s.rmu.good = 3 →
    t.rmu.state = .locked ∧ t.rmu.offsets = [o] ∧ t.rmu.bad = 0 ∧ t.rmu.lossTimer = none ∧ t.tb = { s.tb with distance := 0 }
  searching : s.rmu.state = .acquiring ∨ s.rmu.state = .holdover → s.rmu.good < 3 →
    t.rmu.state = s.rmu.state ∧ t.rmu.good = s.rmu.good + 1 ∧ t.rmu.lossTimer = s.startTimer (secs 60) ∧ t.tb = s.tb
  locked : s.rmu.state = .locked → s.rmu.offsets.length ≤ 3 →
    (t.rmu.state = s.rmu.state ∧ t.rmu.lossTimer = s.rmu.lossTimer ∧ t.tb = s.tb) ∧ t.rmu.bad = 0 ∧
    t.rmu.offsets = (if s.rmu.offsets.length = 3 then s.rmu.offsets.tail else s.rmu.offsets) ++ [o]

theorem good_verdict : s.Good o (rmuVerdict (.good o) cause s) where
  absent h := by simp [rmuVerdict, countVerdict, h, rmuAcquire, rmuMove, State.lossStart, State.startTimer, State.now]
  fourth h hgood := by rcases h with h | h <;> simp [rmuVerdict, countVerdict, h, hgood, rmuLock, rmuMove]
  searching h hgood := by
    have hlt : ¬ 4 ≤ s.rmu.good + 1 := by omega
    rcases h with h | h <;> simp [rmuVerdict, countVerdict, h, hlt, State.lossStart, State.startTimer, State.now]
  locked h hlen := by simp [rmuVerdict, countVerdict, h, pushKeep_three hlen]

/-- What the verdict FIRST moves (R18). -/
structure State.First (s t : State) : Prop where
  absent : s.rmu.state = .absent → t.rmu.state = .acquiring ∧ t.rmu.good = 0 ∧
    t.rmu.lossTimer = s.startTimer (secs 60) ∧ t.tb = s.tb
  searching : s.rmu.state = .acquiring ∨ s.rmu.state = .holdover →
    (t.rmu.state = s.rmu.state ∧ t.rmu.lossTimer = s.rmu.lossTimer ∧ t.tb = s.tb) ∧ t.rmu.good = 0
  locked : s.rmu.state = .locked →
    (t.rmu.state = s.rmu.state ∧ t.rmu.lossTimer = s.rmu.lossTimer ∧ t.tb = s.tb) ∧ t.rmu.bad = 0 ∧
    t.rmu.offsets = s.rmu.offsets

theorem first_verdict : s.First (rmuVerdict .first cause s) where
  absent h := by simp [rmuVerdict, countVerdict, h, rmuAcquire, rmuMove, State.lossStart, State.startTimer, State.now]
  searching h := by rcases h with h | h <;> simp [rmuVerdict, countVerdict, h]
  locked h := by simp [rmuVerdict, countVerdict, h]

/-- A verdict counts BAD and MISSING marks, and nothing else (R16). -/
theorem rmuVerdict_count {c : Counter} : (rmuVerdict v cause s).count c = (countVerdict v s).count c := by
  have hunlock (x : State) : (rmuUnlock cause x).count c = x.count c := count_of_counters_eq (by simp)
  unfold rmuVerdict
  dsimp only
  split <;> (repeat' split) <;> simp [rmuAcquire, rmuLock, rmuMove, hunlock]

/-! ## The verdict on a mark that was read (R16) -/

theorem verdictOf_good {prev : Option Mark} {m : Mark} {p : Mark} (hvalid : m.valid = true) (hp : prev = some p)
    (hm : m.label = p.label + 1 ∧ 1047576 ≤ m.stamp - p.stamp ∧ m.stamp - p.stamp ≤ 1049576) :
    verdictOf prev m = .good ((m.label : Int) * 1048576 - m.stamp) := by
  simp [verdictOf, hvalid, hp, hm]

theorem verdictOf_first {m : Mark} (hvalid : m.valid = true) : verdictOf none m = .first := by simp [verdictOf, hvalid]

theorem verdictOf_bad {prev : Option Mark} {m : Mark}
    (hgood : ¬ (m.valid = true ∧ ∃ p, prev = some p ∧
      m.label = p.label + 1 ∧ 1047576 ≤ m.stamp - p.stamp ∧ m.stamp - p.stamp ≤ 1049576))
    (hfirst : ¬ (m.valid = true ∧ prev = none)) : verdictOf prev m = .bad := by
  unfold verdictOf
  cases hvalid : m.valid with
  | false => rfl
  | true =>
    cases prev with
    | none => exact absurd ⟨hvalid, rfl⟩ hfirst
    | some p => exact if_neg fun h => hgood ⟨hvalid, p, rfl, h⟩

/-! ## The end of the read (R15, R201) -/

theorem twEnding_of_onBusFor {n : Nat} {u : TwUser} {r : TwEnd n} (h : s.onBusFor u r) :
    ∃ b, s.twEnding u r = some b ∧ b.wanted = true := by
  obtain ⟨hbus, hstuck⟩ := h
  rcases hbus with hbus | hbus
  · refine ⟨{ user := u, wanted := true, check := .clear }, ?_, rfl⟩
    have hends : TwBus.mayEnd { user := u, wanted := true, check := .clear } r = true := by
      cases r with
      | busStuck => rw [hstuck rfl] at hbus; simp at hbus
      | _ => rfl
    simp [State.twEnding, hbus, hends, Option.filter]
  · refine ⟨{ user := u, wanted := true, check := .recovered }, ?_, rfl⟩
    have hends : TwBus.mayEnd { user := u, wanted := true, check := .recovered } r = true := by cases r <;> rfl
    simp [State.twEnding, hbus, hends, Option.filter]

/-- The state at which the verdict on an open mark falls: its read has ended (R15). -/
def readEnded (r : TwEnd 5) (s : State) : State := (twEnd r s).setRmu { s.rmu with openMark := none }

theorem readEnded_facts {r : TwEnd 5} : (readEnded r s).rmu = { s.rmu with openMark := none } ∧ (readEnded r s).tb = s.tb ∧
    (readEnded r s).mc = s.mc ∧ (readEnded r s).count .missingMarks = s.count .missingMarks ∧
    (readEnded r s).count .badMarks = s.count .badMarks := by
  unfold readEnded twEnd
  cases r <;> simp [twCountEnd]

theorem rmuReadEnd_of_read {m : OpenMark} {bytes : Vector Byte 5} (h : s.rmu.openMark = some m)
    (hearly : since s.now m.edge ≤ 524288) :
    rmuReadEnd (.complete bytes) (twEnd (.complete bytes) s) =
      (rmuVerdict (verdictOf s.rmu.prev (markOf m bytes.toList)) (some (edgeDueAt m.edge)) (readEnded (.complete bytes) s)).setRmu
        { (rmuVerdict (verdictOf s.rmu.prev (markOf m bytes.toList)) (some (edgeDueAt m.edge)) (readEnded (.complete bytes) s)).rmu with
          prev := some (markOf m bytes.toList) } := by
  have hopen : (twEnd (.complete bytes) s).rmu.openMark = some m := h
  unfold rmuReadEnd
  rw [hopen]
  exact if_pos hearly

theorem rmuReadEnd_of_unread {m : OpenMark} {r : TwEnd 5} (h : s.rmu.openMark = some m)
    (hlate : (∃ v, r = .complete v) → 524288 < since s.now m.edge) :
    rmuReadEnd r (twEnd r s) = rmuVerdict .missing (some (edgeDueAt m.edge)) (readEnded r s) := by
  have hopen : (twEnd r s).rmu.openMark = some m := by simpa [twEnd] using h
  unfold rmuReadEnd
  rw [hopen]
  cases r with
  | complete v => exact if_neg (Nat.not_le.mpr (hlate ⟨v, rfl⟩))
  | _ => rfl

/-! ## Behind the read: a verdict at its end is a verdict on the state before it -/

section
variable {u : State} {r : TwEnd 5} {p : Option Mark}

theorem State.Adverse.behind (h : State.Adverse (readEnded r s) u) (hrmu : t.rmu = { u.rmu with prev := p }) (htb : t.tb = u.tb) :
    State.Adverse s t := by
  obtain ⟨hrmu0, htb0, -⟩ := readEnded_facts (s := s) (r := r)
  obtain ⟨habsent, hsearching, hlocked, hthird⟩ := h
  have hstart : (readEnded r s).startTimer (secs 60) = s.startTimer (secs 60) := by simp [State.startTimer, State.now, htb0]
  simp only [hrmu0, htb0, hstart] at habsent hsearching hlocked hthird
  constructor <;> simpa only [hrmu, htb]

theorem State.Good.behind (h : State.Good o (readEnded r s) u) (hrmu : t.rmu = { u.rmu with prev := p }) (htb : t.tb = u.tb) :
    State.Good o s t := by
  obtain ⟨hrmu0, htb0, -⟩ := readEnded_facts (s := s) (r := r)
  obtain ⟨habsent, hfourth, hsearching, hlocked⟩ := h
  have hstart : (readEnded r s).startTimer (secs 60) = s.startTimer (secs 60) := by simp [State.startTimer, State.now, htb0]
  simp only [hrmu0, htb0, hstart] at habsent hfourth hsearching hlocked
  constructor <;> simpa only [hrmu, htb]

theorem State.First.behind (h : State.First (readEnded r s) u) (hrmu : t.rmu = { u.rmu with prev := p }) (htb : t.tb = u.tb) :
    State.First s t := by
  obtain ⟨hrmu0, htb0, -⟩ := readEnded_facts (s := s) (r := r)
  obtain ⟨habsent, hsearching, hlocked⟩ := h
  have hstart : (readEnded r s).startTimer (secs 60) = s.startTimer (secs 60) := by simp [State.startTimer, State.now, htb0]
  simp only [hrmu0, htb0, hstart] at habsent hsearching hlocked
  constructor <;> simpa only [hrmu, htb]

end

/-- The end of a wanted label read: its verdict stands in the Reference Mark Unit behind the step. -/
theorem exec_markLabelReadEnd {r : TwEnd 5} (hset : s.Settled) (h : s.onBusFor .label r) :
    ∃ t, exec (.markLabelReadEnd r) s = .next t ∧ t.rmu = (rmuReadEnd r (twEnd r s)).rmu ∧
      t.tb = (rmuReadEnd r (twEnd r s)).tb ∧ t.count .missingMarks = (rmuReadEnd r (twEnd r s)).count .missingMarks ∧
      t.count .badMarks = (rmuReadEnd r (twEnd r s)).count .badMarks := by
  obtain ⟨b, hb, hwanted⟩ := twEnding_of_onBusFor h
  let t := entryWorkLeaves (rmuReadEnd r (twEnd r s))
  have htset : t.Settled := by simpa [State.Settled, t, entryWorkLeaves, twEnd] using hset
  obtain ⟨-, -, htb, hrmu, -⟩ := finish_leaves_settled t htset
  refine ⟨finish t, ?_, hrmu, htb, finish_count htset (by decide) (by decide), finish_count htset (by decide) (by decide)⟩
  show Host.Outcome.next (match s.twEnding .label r with | none => s | some b => _) = _
  rw [hb]
  show Host.Outcome.next (finish (entryWorkLeaves (if b.wanted then _ else _))) = _
  rw [hwanted, if_pos rfl]

end
end Sys2Proof.Machine

section
open Sys2Proof Sys2Proof.Machine
set_option Elab.async false

/-- Settles O25. -/
theorem labelReadJudgesTheMark : Obligations.LabelReadJudgesTheMark := by
  intro s m hset hopen
  refine ⟨fun v hbus hearly => ?_, fun r hbus hlate => ?_⟩
  · obtain ⟨t, hexec, hrmu, htb, hmissing, hbad⟩ := exec_markLabelReadEnd hset (r := .complete v) ⟨hbus, by simp⟩
    obtain ⟨hrmu0, htb0, hmc0, hmissing0, hbad0⟩ := readEnded_facts (s := s) (r := .complete v)
    rw [rmuReadEnd_of_read hopen hearly] at hrmu htb hmissing hbad
    let mark := markOf m v.toList
    let u := rmuVerdict (verdictOf s.rmu.prev mark) (some (edgeDueAt m.edge)) (readEnded (.complete v) s)
    replace hrmu : t.rmu = { u.rmu with prev := some mark } := hrmu
    replace htb : t.tb = u.tb := htb
    replace hmissing : t.count .missingMarks = u.count .missingMarks := hmissing
    replace hbad : t.count .badMarks = u.count .badMarks := hbad
    have hnone : verdictOf s.rmu.prev mark ≠ .missing := by
      unfold verdictOf
      (repeat' split) <;> simp
    refine ⟨t, hexec, by simp [hrmu, u, hrmu0], by rw [hrmu]; rfl, ?_, fun hgood => ?_, fun hfirst => ?_, fun hgood hfirst => ?_⟩
    · rw [hmissing, rmuVerdict_count, ← hmissing0]
      cases hv : verdictOf s.rmu.prev mark <;> simp_all [countVerdict]
    · obtain ⟨hvalid, p, hp, hm⟩ := hgood
      have hv : verdictOf s.rmu.prev mark = .good ((num v.toList 0 4 : Int) * 1048576 - m.stamp) := verdictOf_good hvalid hp hm
      simp only [u, hv] at hrmu htb hbad
      have hmoved := good_verdict.behind hrmu htb
      exact ⟨by rw [hbad, rmuVerdict_count, ← hbad0]; rfl, hmoved.absent, hmoved.fourth, hmoved.searching, hmoved.locked⟩
    · obtain ⟨hvalid, hprev⟩ := hfirst
      have hv : verdictOf s.rmu.prev mark = .first := by rw [hprev]; exact verdictOf_first hvalid
      simp only [u, hv] at hrmu htb hbad
      have hmoved := first_verdict.behind hrmu htb
      exact ⟨by rw [hbad, rmuVerdict_count, ← hbad0]; rfl, hmoved.absent, hmoved.searching, hmoved.locked⟩
    · have hv : verdictOf s.rmu.prev mark = .bad := verdictOf_bad hgood hfirst
      simp only [u, hv] at hrmu htb hbad
      have hmoved := (adverse_verdict (.inl rfl)).behind hrmu htb
      refine ⟨?_, hmoved.absent, hmoved.searching, hmoved.locked, hmoved.third⟩
      rw [hbad, rmuVerdict_count, ← hbad0]
      simp [countVerdict]
  · obtain ⟨t, hexec, hrmu, htb, hmissing, hbad⟩ := exec_markLabelReadEnd hset hbus
    obtain ⟨hrmu0, htb0, hmc0, hmissing0, hbad0⟩ := readEnded_facts (s := s) (r := r)
    rw [rmuReadEnd_of_unread hopen hlate] at hrmu htb hmissing hbad
    have hmoved := (adverse_verdict (.inr rfl)).behind hrmu htb
    rw [rmuVerdict_count, countVerdict_missing] at hmissing hbad
    exact ⟨t, hexec, by rw [hrmu]; simp [hrmu0], by rw [hrmu]; simp [hrmu0], by rw [hmissing]; simp [hmissing0],
      by rw [hbad]; simp [hbad0], hmoved.absent, hmoved.searching, hmoved.locked, hmoved.third⟩

end

/-! PROOFS. The heaters at a slot boundary. -/
namespace Sys2Proof.Machine
set_option Elab.async false

/-! ## One heater as a step sees it -/

/-- A heater's record and its counters. -/
structure HeaterView where
  heater : Heater
  count : HeaterCount → Nat

/-- The view of a heater. -/
def State.view (s : State) (h : HeaterId) : HeaterView :=
  { heater := s.heater h, count := fun k => s.count (heaterCounter h k) }

/-- What a step does to a heater: its view before and after, the facts that decide, and the blanking that an edge asks for. -/
structure HeaterStep where
  before : HeaterView
  after : HeaterView
  hot : Bool
  limit : Nat
  level : Level
  asked : Prop

namespace HeaterStep

/-- A counter rises by one. -/
def Rises (p : HeaterStep) (k : HeaterCount) : Prop := p.after.count k = min (p.before.count k + 1) 65535

/-- A counter stands. -/
def Stands (p : HeaterStep) (k : HeaterCount) : Prop := p.after.count k = p.before.count k

/-- An edge is taken (R175, R176, R179). -/
def Takes (p : HeaterStep) (e : Edge) : Prop :=
  p.after.heater.output = decide (e = .on) ∧ p.after.heater.edge = none ∧ p.Rises .taken ∧
  (e = .off → p.after.heater.carried = none) ∧ p.asked

/-- An edge waits at a deferral (R175). -/
def Waits (p : HeaterStep) (e : Edge) (n : Nat) : Prop :=
  p.after.heater.output = p.before.heater.output ∧ p.after.heater.edge = some e ∧ p.after.heater.deferral = n ∧ p.Stands .taken

/-- An edge falls due (R175). -/
def Due (p : HeaterStep) (e : Edge) (n : Nat) : Prop :=
  (p.hot = false ∨ p.limit = 0 → p.Takes e ∧ p.Stands .deferred) ∧
  (p.hot = true → p.limit ≠ 0 → p.Waits e n ∧ p.Rises .deferred)

/-- A pending edge whose deferral has come to d is examined (R175). -/
def Examines (p : HeaterStep) (e : Edge) (d : Nat) : Prop :=
  (p.hot = false → p.Takes e ∧ p.Stands .limit) ∧ (p.hot = true → p.limit ≤ d → p.Takes e ∧ p.Rises .limit) ∧
  (p.hot = true → d < p.limit → p.Waits e d ∧ p.Stands .limit)

/-- A pending ON is cancelled (R174, R177). -/
def Cancels (p : HeaterStep) : Prop :=
  p.after.heater.output = p.before.heater.output ∧ p.after.heater.edge = none ∧ p.Rises .cancelled ∧ p.Stands .taken

/-- Nothing happens to the edges. -/
def Keeps (p : HeaterStep) : Prop :=
  p.after.heater.output = p.before.heater.output ∧ p.after.heater.edge = none ∧ p.Stands .taken

/-- A frame start (R172, R174 to R177). -/
structure Frame (p : HeaterStep) (d : Nat) : Prop where
  pos : p.after.heater.pos = some 0
  level : p.after.heater.level = p.level
  on : p.before.heater.edge = none → p.before.heater.output = false → p.after.heater.level ≠ .off → p.Due .on 0
  off : p.before.heater.edge = none → p.before.heater.output = true → p.after.heater.level = .off →
    p.Due .off (p.before.heater.carried.getD 0)
  stays : p.before.heater.edge = none → (p.before.heater.output = true ↔ p.after.heater.level ≠ .off) → p.Keeps
  merged : p.before.heater.edge = some .off → p.after.heater.level ≠ .off →
    p.after.heater.output = p.before.heater.output ∧ p.after.heater.edge = none ∧ p.after.heater.carried = some d ∧
    p.Rises .merged ∧ p.Stands .taken
  offExamined : p.before.heater.edge = some .off → p.after.heater.level = .off → p.Examines .off d
  onExamined : p.before.heater.edge = some .on → p.after.heater.level ≠ .off → p.Examines .on d
  cancelled : p.before.heater.edge = some .on → p.after.heater.level = .off → p.Cancels

/-- Another slot boundary (R174, R175, R177). -/
structure Slot (p : HeaterStep) (atOff : Prop) (d : Nat) : Prop where
  pos : p.after.heater.pos = p.before.heater.pos.map (· + 1)
  level : p.after.heater.level = p.before.heater.level
  off : atOff → p.before.heater.edge = none → p.before.heater.output = true → p.Due .off (p.before.heater.carried.getD 0)
  cancelled : atOff → p.before.heater.edge = some .on → p.Cancels
  examined : ∀ e, p.before.heater.edge = some e → ¬ (atOff ∧ e = .on) → p.Examines e d
  stays : p.before.heater.edge = none → ¬ (atOff ∧ p.before.heater.output = true) → p.Keeps

end HeaterStep

/-- The blanking of an edge stands at every channel that runs (R97, R179). -/
def State.blankedBy (s t : State) : Prop :=
  s.td.state ≠ .stopped →
    (s.td.z.state ≠ .stopped → s.cs.image.blanking ≤ t.td.z.blank) ∧
    (s.td.n.state ≠ .stopped → s.cs.image.blanking ≤ t.td.n.blank) ∧
    (s.td.e.state ≠ .stopped → s.cs.image.blanking ≤ t.td.e.blank)

/-- The step of a heater from one state to another. -/
def State.heaterStep (s : State) (h : HeaterId) (t : State) : HeaterStep :=
  { before := s.view h, after := t.view h, hot := s.hot, limit := s.deferLimit h, level := s.frameLevel h, asked := s.blankedBy t }

section
variable {s t : State} {h h' : HeaterId} {k k' : HeaterCount} {x : Heater} {e : Edge}

theorem heaterCounter_injective : heaterCounter h k = heaterCounter h' k' ↔ h = h' ∧ k = k' := by
  cases h <;> cases h' <;> cases k <;> cases k' <;> simp [heaterCounter]

@[simp] theorem heater_setHeater : (setHeater h x s).heater h' = if h' = h then x else s.heater h' := by
  cases h <;> cases h' <;> rfl

@[simp] theorem hot_setHeater : (setHeater h x s).hot = s.hot := by cases h <;> rfl

@[simp] theorem count_setHeater {c : Counter} : (setHeater h x s).count c = s.count c := by cases h <;> rfl

@[simp] theorem deferLimit_setHeater : (setHeater h x s).deferLimit h' = s.deferLimit h' := by cases h <;> rfl

@[simp] theorem heater_requestBlanking {n : Nat} : (requestBlanking n s).heater h = s.heater h := by
  cases h <;> simp [State.heater]

@[simp] theorem count_requestBlanking {n : Nat} {c : Counter} : (requestBlanking n s).count c = s.count c :=
  count_of_counters_eq (by simp)

@[simp] theorem heater_bump {c : Counter} : (bump c s).heater h = s.heater h := by cases h <;> rfl

theorem takeEdge_heater : (takeEdge h e s).heater h =
    { s.heater h with output := e == .on, edge := none, deferral := 0, carried := if e == .off then none else (s.heater h).carried } := by
  simp [takeEdge]

theorem takeEdge_count : (takeEdge h e s).count (heaterCounter h k) =
    if k = .taken then min (s.count (heaterCounter h k) + 1) 65535 else s.count (heaterCounter h k) := by
  by_cases hk : k = .taken
  · subst hk
    simp [takeEdge]
  · simp [takeEdge, heaterCounter_injective, hk, Ne.symm hk]

theorem blanked_blank {c : Channel} {n : Nat} (hc : c.state ≠ .stopped) : n ≤ (c.blanked n).blank := by
  simp [Channel.blanked, hc]

theorem takeEdge_blanks : s.blankedBy (takeEdge h e s) := by
  intro hstate
  have htd : (takeEdge h e s).td = { s.td with
      z := s.td.z.blanked s.cs.image.blanking, n := s.td.n.blanked s.cs.image.blanking, e := s.td.e.blanked s.cs.image.blanking } := by
    simp [takeEdge, requestBlanking, hstate]
  rw [htd]
  exact ⟨blanked_blank, blanked_blank, blanked_blank⟩

theorem takeEdge_takes : (s.heaterStep h (takeEdge h e s)).Takes e := by
  refine ⟨?_, ?_, ?_, ?_, takeEdge_blanks⟩
  · show ((takeEdge h e s).heater h).output = _
    rw [takeEdge_heater]
    cases e <;> rfl
  · show ((takeEdge h e s).heater h).edge = _
    rw [takeEdge_heater]
  · show (takeEdge h e s).count _ = _
    rw [takeEdge_count]
    rfl
  · rintro rfl
    show ((takeEdge h .off s).heater h).carried = _
    rw [takeEdge_heater]
    rfl

theorem takeEdge_stands (hk : k ≠ .taken) : (s.heaterStep h (takeEdge h e s)).Stands k := by
  show (takeEdge h e s).count _ = _
  rw [takeEdge_count, if_neg hk]
  rfl

theorem edgeDue_due : (s.heaterStep h (edgeDue h e s)).Due e ((s.heater h).carried.getD 0) := by
  refine ⟨fun hnow => ?_, fun hhot hlimit => ?_⟩
  · have hdue : edgeDue h e s = takeEdge h e s := by
      unfold edgeDue
      rw [if_pos]
      rcases hnow with hh | hl
      · rw [show s.hot = false from hh]; rfl
      · simp [show s.deferLimit h = 0 from hl]
    rw [hdue]
    exact ⟨takeEdge_takes, takeEdge_stands (by decide)⟩
  · have hdue : edgeDue h e s = bump (heaterCounter h .deferred)
        (setHeater h { s.heater h with edge := some e, deferral := (s.heater h).carried.getD 0 } s) := by
      unfold edgeDue
      rw [if_neg]
      simp [show s.hot = true from hhot, show s.deferLimit h ≠ 0 from hlimit]
    rw [hdue]
    refine ⟨⟨?_, ?_, ?_, ?_⟩, ?_⟩ <;>
      simp [State.heaterStep, State.view, HeaterStep.Stands, HeaterStep.Rises, heaterCounter_injective]

theorem examineEdge_examines (he : (s.heater h).edge = some e) :
    (s.heaterStep h (examineEdge h s)).Examines e (s.heater h).deferral := by
  refine ⟨fun hhot => ?_, fun hhot hlimit => ?_, fun hhot hlimit => ?_⟩
  · have hexamine : examineEdge h s = takeEdge h e s := by
      simp only [examineEdge, he, show s.hot = false from hhot]
      rfl
    rw [hexamine]
    exact ⟨takeEdge_takes, takeEdge_stands (by decide)⟩
  · have hexamine : examineEdge h s = bump (heaterCounter h .limit) (takeEdge h e s) := by
      simp only [examineEdge, he, show s.hot = true from hhot]
      exact if_pos hlimit
    rw [hexamine]
    obtain ⟨houtput, hedge, htaken, hcarried, hasked⟩ := takeEdge_takes (s := s) (h := h) (e := e)
    have hlimits := takeEdge_stands (s := s) (h := h) (e := e) (k := .limit) (by decide)
    refine ⟨⟨?_, ?_, ?_, ?_, hasked⟩, ?_⟩
    · simpa [State.heaterStep, State.view] using houtput
    · simpa [State.heaterStep, State.view] using hedge
    · simpa [State.heaterStep, State.view, HeaterStep.Rises, heaterCounter_injective] using htaken
    · simpa [State.heaterStep, State.view] using hcarried
    · simpa [State.heaterStep, State.view, HeaterStep.Rises, HeaterStep.Stands, heaterCounter_injective] using
        congrArg (fun n => min (n + 1) 65535) hlimits
  · have hexamine : examineEdge h s = s := by
      simp only [examineEdge, he, show s.hot = true from hhot]
      exact if_neg (Nat.not_le.mpr hlimit)
    rw [hexamine]
    exact ⟨⟨rfl, he, rfl, rfl⟩, rfl⟩

theorem examineEdge_of_none (he : (s.heater h).edge = none) : examineEdge h s = s := by simp only [examineEdge, he]

theorem cancelOn_cancels : (s.heaterStep h (cancelOn h s)).Cancels := by
  refine ⟨?_, ?_, ?_, ?_⟩ <;>
    simp [cancelOn, State.heaterStep, State.view, HeaterStep.Rises, HeaterStep.Stands, heaterCounter_injective]

/-- The edge operations leave position and level. -/
theorem edges_keep_frame : (((edgeDue h e s).heater h).pos = (s.heater h).pos ∧ ((edgeDue h e s).heater h).level = (s.heater h).level) ∧
    (((examineEdge h s).heater h).pos = (s.heater h).pos ∧ ((examineEdge h s).heater h).level = (s.heater h).level) ∧
    ((cancelOn h s).heater h).pos = (s.heater h).pos ∧ ((cancelOn h s).heater h).level = (s.heater h).level := by
  refine ⟨?_, ?_, by simp [cancelOn], by simp [cancelOn]⟩
  · unfold edgeDue
    split
    · simp [takeEdge_heater]
    · simp
  · unfold examineEdge
    dsimp only
    (repeat' split) <;> simp [takeEdge_heater]

/-! ## A change of the record before an edge operation -/

theorem heaterStep_setHeater : (setHeater h x s).heaterStep h t = { s.heaterStep h t with before := { s.view h with heater := x } } := by
  cases h <;> rfl

theorem HeaterStep.Due.of_setHeater {n : Nat} (hd : ((setHeater h x s).heaterStep h t).Due e n)
    (hx : x.output = (s.heater h).output) : (s.heaterStep h t).Due e n := by
  rw [heaterStep_setHeater] at hd
  obtain ⟨hnow, hlater⟩ := hd
  refine ⟨hnow, fun hhot hlimit => ?_⟩
  obtain ⟨⟨houtput, hedge, hdeferral, hstands⟩, hrises⟩ := hlater hhot hlimit
  exact ⟨⟨houtput.trans hx, hedge, hdeferral, hstands⟩, hrises⟩

theorem HeaterStep.Examines.of_setHeater {n : Nat} (hd : ((setHeater h x s).heaterStep h t).Examines e n)
    (hx : x.output = (s.heater h).output) : (s.heaterStep h t).Examines e n := by
  rw [heaterStep_setHeater] at hd
  obtain ⟨hcool, hlimit, hwaits⟩ := hd
  refine ⟨hcool, hlimit, fun hhot hlt => ?_⟩
  obtain ⟨⟨houtput, hedge, hdeferral, hstands⟩, hlimits⟩ := hwaits hhot hlt
  exact ⟨⟨houtput.trans hx, hedge, hdeferral, hstands⟩, hlimits⟩

theorem HeaterStep.Cancels.of_setHeater (hd : ((setHeater h x s).heaterStep h t).Cancels) (hx : x.output = (s.heater h).output) :
    (s.heaterStep h t).Cancels := by
  rw [heaterStep_setHeater] at hd
  obtain ⟨houtput, hedge, hrises, hstands⟩ := hd
  exact ⟨houtput.trans hx, hedge, hrises, hstands⟩

theorem setHeater_keeps_step (hx : x.output = (s.heater h).output) (he : x.edge = none) :
    (s.heaterStep h (setHeater h x s)).Keeps := by
  refine ⟨?_, ?_, ?_⟩ <;> simp [State.heaterStep, State.view, HeaterStep.Stands, hx, he]

/-! ## A frame start and another slot boundary -/

theorem raiseDeferral_of_none (h : x.edge = none) : raiseDeferral x = x := by simp [raiseDeferral, h]

theorem raiseDeferral_of_some (h : x.edge = some e) : raiseDeferral x = { x with deferral := min 60 (x.deferral + 1) } := by
  simp [raiseDeferral, h]

theorem frameStart_of_rested (hedge : (s.heater h).edge = none) : frameStart h s =
    if (s.heater h).output then
      if s.frameLevel h = .off then edgeDue h .off (setHeater h { s.heater h with pos := some 0, level := .off } s)
      else setHeater h { s.heater h with pos := some 0, level := s.frameLevel h } s
    else
      if s.frameLevel h = .off then setHeater h { s.heater h with pos := some 0, level := .off, carried := none } s
      else edgeDue h .on (setHeater h { s.heater h with pos := some 0, level := s.frameLevel h, carried := none } s) := by
  unfold frameStart
  simp only [raiseDeferral_of_none hedge, hedge]
  cases (s.heater h).output <;> by_cases hl : s.frameLevel h = .off <;> simp [hl]

theorem frameStart_of_off (hedge : (s.heater h).edge = some .off) : frameStart h s =
    if s.frameLevel h = .off then
      examineEdge h (setHeater h { s.heater h with deferral := min 60 ((s.heater h).deferral + 1), pos := some 0, level := .off } s)
    else bump (heaterCounter h .merged) (setHeater h { s.heater h with
      deferral := 0, pos := some 0, level := s.frameLevel h, edge := none
      carried := some (min 60 ((s.heater h).deferral + 1)) } s) := by
  unfold frameStart
  simp only [raiseDeferral_of_some hedge, hedge]
  by_cases hl : s.frameLevel h = .off <;> simp [hl]

theorem frameStart_of_on (hedge : (s.heater h).edge = some .on) : frameStart h s =
    if s.frameLevel h = .off then
      cancelOn h (setHeater h { s.heater h with deferral := min 60 ((s.heater h).deferral + 1), pos := some 0, level := .off } s)
    else examineEdge h (setHeater h { s.heater h with
      deferral := min 60 ((s.heater h).deferral + 1), pos := some 0, level := s.frameLevel h } s) := by
  unfold frameStart
  simp only [raiseDeferral_of_some hedge, hedge]
  by_cases hl : s.frameLevel h = .off <;> simp [hl]

/-- A frame starts at slot 0 with the level chosen anew. -/
theorem frameStart_pos_level : ((frameStart h s).heater h).pos = some 0 ∧ ((frameStart h s).heater h).level = s.frameLevel h := by
  obtain ⟨hdue, hexamine, hcancel⟩ := And.intro (fun e x => (edges_keep_frame (s := setHeater h x s) (h := h) (e := e)).1)
    (And.intro (fun x => (edges_keep_frame (s := setHeater h x s) (h := h) (e := .on)).2.1)
      (fun x => (edges_keep_frame (s := setHeater h x s) (h := h) (e := .on)).2.2))
  match hedge : (s.heater h).edge with
  | none =>
    rw [frameStart_of_rested hedge]
    (repeat' split) <;> simp [*]
  | some .off =>
    rw [frameStart_of_off hedge]
    split <;> simp [*]
  | some .on =>
    rw [frameStart_of_on hedge]
    split <;> simp [*]

theorem frameStart_frame : (s.heaterStep h (frameStart h s)).Frame (min 60 ((s.heater h).deferral + 1)) := by
  obtain ⟨hpos, hlevel⟩ := frameStart_pos_level (s := s) (h := h)
  refine ⟨hpos, hlevel, fun hedge houtput hne => ?_, fun hedge houtput heq => ?_, fun hedge hiff => ?_, fun hedge hne => ?_,
    fun hedge heq => ?_, fun hedge hne => ?_, fun hedge heq => ?_⟩
  · replace hne : s.frameLevel h ≠ .off := fun h' => hne (hlevel.trans h')
    replace houtput : (s.heater h).output = false := houtput
    rw [frameStart_of_rested hedge, if_neg (by simp [houtput]), if_neg hne]
    have hdue := edgeDue_due (s := setHeater h { s.heater h with pos := some 0, level := s.frameLevel h, carried := none } s)
      (h := h) (e := .on)
    rw [heater_setHeater, if_pos rfl] at hdue
    exact hdue.of_setHeater rfl
  · replace heq : s.frameLevel h = .off := hlevel.symm.trans heq
    replace houtput : (s.heater h).output = true := houtput
    rw [frameStart_of_rested hedge, if_pos houtput, if_pos heq]
    have hdue := edgeDue_due (s := setHeater h { s.heater h with pos := some 0, level := .off } s) (h := h) (e := .off)
    rw [heater_setHeater, if_pos rfl] at hdue
    exact hdue.of_setHeater rfl
  · replace hiff : (s.heater h).output = true ↔ s.frameLevel h ≠ .off := by rw [← hlevel]; exact hiff
    rw [frameStart_of_rested hedge]
    by_cases houtput : (s.heater h).output = true
    · rw [if_pos houtput, if_neg (hiff.mp houtput)]
      exact setHeater_keeps_step rfl hedge
    · rw [if_neg houtput, if_pos (not_not.mp fun hne => houtput (hiff.mpr hne))]
      exact setHeater_keeps_step rfl hedge
  · replace hne : s.frameLevel h ≠ .off := fun h' => hne (hlevel.trans h')
    rw [frameStart_of_off hedge, if_neg hne]
    refine ⟨?_, ?_, ?_, ?_, ?_⟩ <;>
      simp [State.heaterStep, State.view, HeaterStep.Rises, HeaterStep.Stands, heaterCounter_injective]
  · replace heq : s.frameLevel h = .off := hlevel.symm.trans heq
    replace hedge : (s.heater h).edge = some .off := hedge
    rw [frameStart_of_off hedge, if_pos heq]
    have hexamined := examineEdge_examines (s := setHeater h
      { s.heater h with deferral := min 60 ((s.heater h).deferral + 1), pos := some 0, level := .off } s) (h := h) (e := .off)
      (by simpa using hedge)
    rw [heater_setHeater, if_pos rfl] at hexamined
    exact hexamined.of_setHeater rfl
  · replace hne : s.frameLevel h ≠ .off := fun h' => hne (hlevel.trans h')
    replace hedge : (s.heater h).edge = some .on := hedge
    rw [frameStart_of_on hedge, if_neg hne]
    have hexamined := examineEdge_examines (s := setHeater h
      { s.heater h with deferral := min 60 ((s.heater h).deferral + 1), pos := some 0, level := s.frameLevel h } s) (h := h) (e := .on)
      (by simpa using hedge)
    rw [heater_setHeater, if_pos rfl] at hexamined
    exact hexamined.of_setHeater rfl
  · replace heq : s.frameLevel h = .off := hlevel.symm.trans heq
    rw [frameStart_of_on hedge, if_pos heq]
    exact cancelOn_cancels.of_setHeater rfl

/-- The slot before the OFF point ends (R174). -/
def Heater.endsAtOff (x : Heater) : Prop :=
  (x.level = .quarter ∧ x.pos = some 2) ∨ (x.level = .third ∧ x.pos = some 3) ∨ (x.level = .half ∧ x.pos = some 5)

theorem endsAtOff_iff : (x.level.offPoint.isSome && x.pos.map (· + 1) == x.level.offPoint) = true ↔ x.endsAtOff := by
  unfold Heater.endsAtOff
  cases x.level <;> cases x.pos <;> simp [Level.offPoint]

/-- The record at a slot boundary inside a frame. -/
def Heater.advanced (x : Heater) : Heater := { raiseDeferral x with pos := (raiseDeferral x).pos.map (· + 1) }

theorem advanced_facts : x.advanced.output = x.output ∧ x.advanced.edge = x.edge ∧ x.advanced.level = x.level ∧
    x.advanced.carried = x.carried ∧ x.advanced.pos = x.pos.map (· + 1) ∧
    (∀ e, x.edge = some e → x.advanced.deferral = min 60 (x.deferral + 1)) := by
  unfold Heater.advanced raiseDeferral
  cases hx : x.edge <;> simp [hx]

theorem slotBoundary_of_off (hoff : (s.heater h).endsAtOff) : slotBoundary h s =
    match (s.heater h).edge with
    | some .on => cancelOn h (setHeater h (s.heater h).advanced s)
    | some .off => examineEdge h (setHeater h (s.heater h).advanced s)
    | none => if (s.heater h).output then edgeDue h .off (setHeater h (s.heater h).advanced s)
        else setHeater h (s.heater h).advanced s := by
  obtain ⟨houtput, hedge, hlevel, -, hpos, -⟩ := advanced_facts (x := s.heater h)
  have hpoint : ((s.heater h).advanced.level.offPoint.isSome &&
      (s.heater h).advanced.pos == (s.heater h).advanced.level.offPoint) = true := by
    rw [hlevel, hpos]
    exact endsAtOff_iff.mpr hoff
  rw [← hedge, ← houtput]
  exact if_pos hpoint

theorem slotBoundary_of_inside (hoff : ¬ (s.heater h).endsAtOff) :
    slotBoundary h s = examineEdge h (setHeater h (s.heater h).advanced s) := by
  obtain ⟨-, -, hlevel, -, hpos, -⟩ := advanced_facts (x := s.heater h)
  refine if_neg (c := ((s.heater h).advanced.level.offPoint.isSome &&
    (s.heater h).advanced.pos == (s.heater h).advanced.level.offPoint) = true) fun hpoint => hoff ?_
  rw [hlevel, hpos] at hpoint
  exact endsAtOff_iff.mp hpoint

/-- Inside a frame the position moves on and the level stays. -/
theorem slotBoundary_pos_level : ((slotBoundary h s).heater h).pos = (s.heater h).pos.map (· + 1) ∧
    ((slotBoundary h s).heater h).level = (s.heater h).level := by
  obtain ⟨-, -, hlevel, -, hpos, -⟩ := advanced_facts (x := s.heater h)
  obtain ⟨hdue, hexamine, hcancel⟩ := edges_keep_frame (s := setHeater h (s.heater h).advanced s) (h := h) (e := .off)
  by_cases hoff : (s.heater h).endsAtOff
  · rw [slotBoundary_of_off hoff]
    (repeat' split) <;> simp [*]
  · rw [slotBoundary_of_inside hoff]
    simp [*]

theorem slotBoundary_slot :
    (s.heaterStep h (slotBoundary h s)).Slot (s.heater h).endsAtOff (min 60 ((s.heater h).deferral + 1)) := by
  obtain ⟨houtput, hedge, -, hcarried, -, hdeferral⟩ := advanced_facts (x := s.heater h)
  obtain ⟨hpos, hlevel⟩ := slotBoundary_pos_level (s := s) (h := h)
  have hexamined : ∀ e, (s.heater h).edge = some e →
      (s.heaterStep h (examineEdge h (setHeater h (s.heater h).advanced s))).Examines e (min 60 ((s.heater h).deferral + 1)) := by
    intro e he
    have hexamines := examineEdge_examines (s := setHeater h (s.heater h).advanced s) (h := h) (e := e) (by simpa [hedge] using he)
    rw [heater_setHeater, if_pos rfl, hdeferral e he] at hexamines
    exact hexamines.of_setHeater houtput
  refine ⟨hpos, hlevel, fun hoff he ho => ?_, fun hoff he => ?_, fun e he hnot => ?_, fun he hnot => ?_⟩
  · replace he : (s.heater h).edge = none := he
    replace ho : (s.heater h).output = true := ho
    rw [slotBoundary_of_off hoff, he, ho, if_pos rfl]
    have hdue := edgeDue_due (s := setHeater h (s.heater h).advanced s) (h := h) (e := .off)
    rw [heater_setHeater, if_pos rfl, hcarried] at hdue
    exact hdue.of_setHeater houtput
  · replace he : (s.heater h).edge = some .on := he
    rw [slotBoundary_of_off hoff, he]
    exact cancelOn_cancels.of_setHeater houtput
  · replace he : (s.heater h).edge = some e := he
    by_cases hoff : (s.heater h).endsAtOff
    · cases e with
      | on => exact absurd ⟨hoff, rfl⟩ hnot
      | off =>
        rw [slotBoundary_of_off hoff, he]
        exact hexamined _ he
    · rw [slotBoundary_of_inside hoff]
      exact hexamined e he
  · replace he : (s.heater h).edge = none := he
    have hslot : slotBoundary h s = setHeater h (s.heater h).advanced s := by
      by_cases hoff : (s.heater h).endsAtOff
      · rw [slotBoundary_of_off hoff, he]
        exact if_neg fun ho => hnot ⟨hoff, ho⟩
      · rw [slotBoundary_of_inside hoff, examineEdge_of_none (by simp [hedge, he])]
    rw [hslot]
    exact setHeater_keeps_step houtput (hedge.trans he)

/-! ## What one heater's boundary leaves to the other -/

/-- Samples of blanking may be asked for, of a stopped detector none, and nothing else of the detector changes. -/
def Trigger.Blanks (a b : Trigger) : Prop :=
  (a.state = .stopped → b = a) ∧ ∃ x y z, a.z.blank ≤ x ∧ a.n.blank ≤ y ∧ a.e.blank ≤ z ∧
    b = { a with z := { a.z with blank := x }, n := { a.n with blank := y }, e := { a.e with blank := z } }

theorem Trigger.Blanks.refl {a : Trigger} : a.Blanks a :=
  ⟨fun _ => rfl, _, _, _, le_rfl, le_rfl, le_rfl, rfl⟩

theorem Trigger.Blanks.trans {a b c : Trigger} (h : a.Blanks b) (h' : b.Blanks c) : a.Blanks c := by
  obtain ⟨hstopped, x, y, z, hx, hy, hz, rfl⟩ := h
  obtain ⟨hstopped', x', y', z', hx', hy', hz', rfl⟩ := h'
  exact ⟨fun ha => (hstopped' ha).trans (hstopped ha), x', y', z', hx.trans hx', hy.trans hy', hz.trans hz', rfl⟩

theorem requestBlanking_blanks {n : Nat} : s.td.Blanks (requestBlanking n s).td := by
  have hchannel (c : Channel) : ∃ x, c.blank ≤ x ∧ c.blanked n = { c with blank := x } := by
    unfold Channel.blanked
    split
    · exact ⟨_, le_rfl, rfl⟩
    · exact ⟨_, le_max_left _ _, rfl⟩
  unfold requestBlanking
  split
  · exact .refl
  · next hrun =>
    obtain ⟨x, hx, hz⟩ := hchannel s.td.z
    obtain ⟨y, hy, hn⟩ := hchannel s.td.n
    obtain ⟨z, hz', he⟩ := hchannel s.td.e
    refine ⟨fun ha => absurd ha (by simpa using hrun), x, y, z, hx, hy, hz', ?_⟩
    rw [← hz, ← hn, ← he]
    rfl

/-- A step works on one heater only. -/
def State.worksOn (s : State) (h : HeaterId) (t : State) : Prop := s.td.Blanks t.td ∧ ∀ h', h' ≠ h → t.view h' = s.view h'

theorem worksOn_refl : s.worksOn h s := ⟨.refl, fun _ _ => rfl⟩

theorem State.worksOn.trans {u : State} (a : s.worksOn h t) (b : t.worksOn h u) : s.worksOn h u :=
  ⟨a.1.trans b.1, fun h' hne => (b.2 h' hne).trans (a.2 h' hne)⟩

theorem worksOn_setHeater : s.worksOn h (setHeater h x s) := by
  refine ⟨by simpa using Trigger.Blanks.refl, fun h' hne => ?_⟩
  simp [State.view, hne]

theorem worksOn_bump : s.worksOn h (bump (heaterCounter h k) s) := by
  refine ⟨.refl, fun h' hne => ?_⟩
  simp [State.view, heaterCounter_injective, hne.symm]

theorem worksOn_requestBlanking {n : Nat} : s.worksOn h (requestBlanking n s) := by
  refine ⟨requestBlanking_blanks, fun h' _ => ?_⟩
  simp [State.view]

theorem worksOn_takeEdge : s.worksOn h (takeEdge h e s) := (worksOn_setHeater.trans worksOn_requestBlanking).trans worksOn_bump

theorem worksOn_edgeDue : s.worksOn h (edgeDue h e s) := by
  unfold edgeDue
  split
  · exact worksOn_takeEdge
  · exact worksOn_setHeater.trans worksOn_bump

theorem worksOn_examineEdge : s.worksOn h (examineEdge h s) := by
  unfold examineEdge
  dsimp only
  split
  · exact worksOn_refl
  · split
    · exact worksOn_takeEdge
    · split
      · exact worksOn_takeEdge.trans worksOn_bump
      · exact worksOn_refl

theorem worksOn_cancelOn : s.worksOn h (cancelOn h s) := worksOn_setHeater.trans worksOn_bump

theorem worksOn_frameStart : s.worksOn h (frameStart h s) := by
  match hedge : (s.heater h).edge with
  | none =>
    rw [frameStart_of_rested hedge]
    (repeat' split) <;> simp only [worksOn_setHeater, worksOn_setHeater.trans worksOn_edgeDue]
  | some .off =>
    rw [frameStart_of_off hedge]
    split
    · exact worksOn_setHeater.trans worksOn_examineEdge
    · exact worksOn_setHeater.trans worksOn_bump
  | some .on =>
    rw [frameStart_of_on hedge]
    split
    · exact worksOn_setHeater.trans worksOn_cancelOn
    · exact worksOn_setHeater.trans worksOn_examineEdge

theorem worksOn_slotBoundary : s.worksOn h (slotBoundary h s) := by
  by_cases hoff : (s.heater h).endsAtOff
  · rw [slotBoundary_of_off hoff]
    split
    · exact worksOn_setHeater.trans worksOn_cancelOn
    · exact worksOn_setHeater.trans worksOn_examineEdge
    · split
      · exact worksOn_setHeater.trans worksOn_edgeDue
      · exact worksOn_setHeater
  · rw [slotBoundary_of_inside hoff]
    exact worksOn_setHeater.trans worksOn_examineEdge

theorem worksOn_heaterBoundary {sec : Nat} : s.worksOn h (heaterBoundary sec h s) := by
  unfold heaterBoundary
  split
  · exact worksOn_refl
  · split
    · exact worksOn_frameStart
    · exact worksOn_slotBoundary

/-! ## A step of one heater inside a longer step -/

theorem HeaterStep.Takes.mono {p : HeaterStep} {q : Prop} (hq : p.asked → q) (h : p.Takes e) : { p with asked := q }.Takes e :=
  ⟨h.1, h.2.1, h.2.2.1, h.2.2.2.1, hq h.2.2.2.2⟩

theorem HeaterStep.Due.mono {p : HeaterStep} {q : Prop} {n : Nat} (hq : p.asked → q) (h : p.Due e n) :
    { p with asked := q }.Due e n := ⟨fun hnow => ⟨(h.1 hnow).1.mono hq, (h.1 hnow).2⟩, h.2⟩

theorem HeaterStep.Examines.mono {p : HeaterStep} {q : Prop} {n : Nat} (hq : p.asked → q) (h : p.Examines e n) :
    { p with asked := q }.Examines e n :=
  ⟨fun hcool => ⟨(h.1 hcool).1.mono hq, (h.1 hcool).2⟩, fun hhot hle => ⟨(h.2.1 hhot hle).1.mono hq, (h.2.1 hhot hle).2⟩, h.2.2⟩

theorem HeaterStep.Frame.mono {p : HeaterStep} {q : Prop} {d : Nat} (hq : p.asked → q) (h : p.Frame d) :
    { p with asked := q }.Frame d where
  pos := h.pos
  level := h.level
  on he ho hl := (h.on he ho hl).mono hq
  off he ho hl := (h.off he ho hl).mono hq
  stays := h.stays
  merged := h.merged
  offExamined he hl := (h.offExamined he hl).mono hq
  onExamined he hl := (h.onExamined he hl).mono hq
  cancelled := h.cancelled

theorem HeaterStep.Slot.mono {p : HeaterStep} {q atOff : Prop} {d : Nat} (hq : p.asked → q) (h : p.Slot atOff d) :
    { p with asked := q }.Slot atOff d where
  pos := h.pos
  level := h.level
  off ha he ho := (h.off ha he ho).mono hq
  cancelled := h.cancelled
  examined x he hnot := (h.examined x he hnot).mono hq
  stays := h.stays

theorem hot_of_blanks (htd : s.td.Blanks t.td) (hcs : t.cs = s.cs) : t.hot = s.hot := by
  obtain ⟨-, x, y, z, -, -, -, htd⟩ := htd
  unfold State.hot State.enabled
  rw [htd, hcs]
  rfl

theorem frameLevel_congr (hpins : t.pins = s.pins) (hbm : t.bm = s.bm) (hmc : t.mc = s.mc) (hcs : t.cs = s.cs) :
    t.frameLevel h = s.frameLevel h := by
  unfold State.frameLevel State.demand State.allowance State.setpoint State.heaterTemp
  rw [hpins, hbm, hmc, hcs]

theorem deferLimit_congr (hcs : t.cs = s.cs) : t.deferLimit h = s.deferLimit h := by
  unfold State.deferLimit
  rw [hcs]

/-- The blanking that an edge asked for still stands behind further requests. -/
theorem blankedBy_between {a b : State} (hin : s.td.Blanks a.td) (hout : b.td.Blanks t.td) (hcs : a.cs = s.cs)
    (hasked : a.blankedBy b) : s.blankedBy t := by
  obtain ⟨-, x, y, z, -, -, -, ha⟩ := hin
  obtain ⟨-, x', y', z', hx', hy', hz', ht⟩ := hout
  unfold State.blankedBy at hasked ⊢
  rw [ht]
  rw [ha, hcs] at hasked
  intro hstate
  obtain ⟨hz, hn, he⟩ := hasked hstate
  exact ⟨fun h => (hz h).trans hx', fun h => (hn h).trans hy', fun h => (he h).trans hz'⟩

/-- The step of a heater from `a` to `b` is its step from `s` to `t`, where nothing else between them touches the heater. -/
theorem heaterStep_between {a b : State} (hin : s.td.Blanks a.td) (hout : b.td.Blanks t.td) (hbefore : a.view h = s.view h)
    (hafter : t.view h = b.view h) (hpins : a.pins = s.pins) (hbm : a.bm = s.bm) (hmc : a.mc = s.mc) (hcs : a.cs = s.cs) :
    s.heaterStep h t = { a.heaterStep h b with asked := s.blankedBy t } ∧ ((a.heaterStep h b).asked → s.blankedBy t) := by
  refine ⟨?_, blankedBy_between hin hout hcs⟩
  unfold State.heaterStep
  rw [hbefore, hafter, hot_of_blanks hin hcs, deferLimit_congr hcs, frameLevel_congr hpins hbm hmc hcs]

/-! ## The second boundary -/

/-- The state that a second boundary leaves (R1, R80, R174). -/
def secondTaken (sec : Nat) (rest : List Nat) (s : State) : State :=
  heaterBoundary sec .s (heaterBoundary sec .b (siBoundary sec (s.setTb { s.tb with boundaries := rest })))

theorem State.Rested.exec_secondBoundary {sec : Nat} {rest : List Nat} (hrest : s.Rested) (h : s.tb.boundaries = sec :: rest) :
    exec .secondBoundary s = .next (secondTaken sec rest s) := by
  have hfin : finish (secondTaken sec rest s) = secondTaken sec rest s := by
    rw [hrest.finish_twKick (by simp [secondTaken]) (by simp [secondTaken]) (by simp [secondTaken]) (by simp [secondTaken])
      (by simp [secondTaken])]
    refine twKick_of_rests _ ?_
    have hbus := hrest.bus
    simpa [State.BusRests, secondTaken] using hbus
  show Host.Outcome.next (match s.tb.boundaries with | [] => s | sec :: rest => finish (secondTaken sec rest s)) = _
  rw [h]
  exact congrArg Host.Outcome.next hfin

theorem siBoundary_blanks {sec : Nat} : s.td.Blanks (siBoundary sec s).td := by
  unfold siBoundary
  dsimp only
  split
  · exact .refl
  · split
    · exact requestBlanking_blanks (s := s.setSi { s.si.arm sec with digSync := some s.now, realign := false })
    · exact .refl

/-- The step of either heater at a second boundary is the step of its own boundary. -/
theorem secondTaken_step {sec : Nat} {rest : List Nat} :
    ∃ a : State, a.mc = s.mc ∧ a.view h = s.view h ∧
      s.heaterStep h (secondTaken sec rest s) =
        { a.heaterStep h (heaterBoundary sec h a) with asked := s.blankedBy (secondTaken sec rest s) } ∧
      ((a.heaterStep h (heaterBoundary sec h a)).asked → s.blankedBy (secondTaken sec rest s)) := by
  let a := siBoundary sec (s.setTb { s.tb with boundaries := rest })
  have hin : s.td.Blanks a.td := siBoundary_blanks (s := s.setTb { s.tb with boundaries := rest })
  have hview (h : HeaterId) : a.view h = s.view h := by
    have hcount (c : Counter) : a.count c = s.count c := count_of_counters_eq (by simp [a])
    have hheater : a.heater h = s.heater h := by cases h <;> simp [State.heater, a]
    simp [State.view, hcount, hheater]
  have hb := worksOn_heaterBoundary (s := a) (h := .b) (sec := sec)
  have hs := worksOn_heaterBoundary (s := heaterBoundary sec .b a) (h := .s) (sec := sec)
  cases h with
  | b =>
    exact ⟨a, by simp [a], hview .b, heaterStep_between hin hs.1 (hview .b) (hs.2 .b (by decide)) (by simp [a]) (by simp [a])
      (by simp [a]) (by simp [a])⟩
  | s =>
    have hview' : (heaterBoundary sec .b a).view .s = s.view .s := (hb.2 .s (by decide)).trans (hview .s)
    exact ⟨heaterBoundary sec .b a, by simp [a], hview', heaterStep_between (hin.trans hb.1) .refl hview' rfl (by simp [a])
      (by simp [a]) (by simp [a]) (by simp [a])⟩

theorem secondTaken_frame {sec : Nat} {rest : List Nat} (hstart : s.mc.standing.inStart = false) (hsec : sec % 12 = 0) :
    (s.heaterStep h (secondTaken sec rest s)).Frame (min 60 ((s.heater h).deferral + 1)) := by
  obtain ⟨a, hmc, hview, hstep, hasked⟩ := secondTaken_step (s := s) (h := h) (sec := sec) (rest := rest)
  have hboundary : heaterBoundary sec h a = frameStart h a := by simp [heaterBoundary, hmc, hstart, hsec]
  rw [hboundary] at hstep hasked
  rw [hstep, ← show a.heater h = s.heater h from congrArg HeaterView.heater hview]
  exact frameStart_frame.mono hasked

theorem secondTaken_slot {sec : Nat} {rest : List Nat} (hstart : s.mc.standing.inStart = false) (hsec : sec % 12 ≠ 0) :
    (s.heaterStep h (secondTaken sec rest s)).Slot (s.heater h).endsAtOff (min 60 ((s.heater h).deferral + 1)) := by
  obtain ⟨a, hmc, hview, hstep, hasked⟩ := secondTaken_step (s := s) (h := h) (sec := sec) (rest := rest)
  have hboundary : heaterBoundary sec h a = slotBoundary h a := by simp [heaterBoundary, hmc, hstart, hsec]
  rw [hboundary] at hstep hasked
  rw [hstep, ← show a.heater h = s.heater h from congrArg HeaterView.heater hview]
  exact slotBoundary_slot.mono hasked

end
end Sys2Proof.Machine

section
open Sys2Proof Sys2Proof.Machine
set_option Elab.async false

/-- Settles O20. -/
theorem frameStartTakesOrDefersTheEdge : Obligations.FrameStartTakesOrDefersTheEdge := by
  intro s sec rest h hrest hstart hsec
  refine ⟨secondTaken sec rest s, hrest.exec_secondBoundary hsec, fun hframe => ?_, fun hslot => ?_⟩
  · have hp := secondTaken_frame (s := s) (h := h) (rest := rest) hstart hframe
    cases h <;> exact ⟨hp.pos, hp.level, hp.on, hp.off, hp.stays, hp.merged, hp.offExamined, hp.onExamined, hp.cancelled⟩
  · have hp := secondTaken_slot (s := s) (h := h) (rest := rest) hstart hslot
    cases h <;> exact ⟨hp.pos, hp.level, hp.off, hp.cancelled, hp.examined, hp.stays⟩

end

/-! PROOFS. The second boundary: DIG_SYNC, the grid, and the demand table. -/
namespace Sys2Proof.Machine
set_option Elab.async false

section
variable {s t : State} {sec : Nat} {rest : List Nat} {h : HeaterId}

/-! ## The demand table (R171 to R173) -/

theorem lower_onSlots (a b : Level) : (a.lower b).onSlots = min a.onSlots b.onSlots := by cases a <;> cases b <;> rfl

theorem demandOf_b (d : Int) : (d ≤ 0 → demandOf .b d = .off) ∧ (1 ≤ d → d ≤ 5 → demandOf .b d = .quarter) ∧
    (6 ≤ d → d ≤ 10 → demandOf .b d = .quarter) ∧ (11 ≤ d → d ≤ 20 → demandOf .b d = .quarter) ∧
    (21 ≤ d → d ≤ 50 → demandOf .b d = .third) ∧ (51 ≤ d → d ≤ 100 → demandOf .b d = .half) ∧
    (101 ≤ d → demandOf .b d = .full) := by
  grind [demandOf]

theorem demandOf_s (d : Int) : (d ≤ 0 → demandOf .s d = .off) ∧ (1 ≤ d → d ≤ 5 → demandOf .s d = .quarter) ∧
    (6 ≤ d → d ≤ 10 → demandOf .s d = .third) ∧ (11 ≤ d → d ≤ 20 → demandOf .s d = .half) ∧
    (21 ≤ d → d ≤ 50 → demandOf .s d = .full) ∧ (51 ≤ d → d ≤ 100 → demandOf .s d = .full) ∧
    (101 ≤ d → demandOf .s d = .full) := by
  grind [demandOf]

theorem demand_of_stale (hb : h = .b → s.bm.stale = true) (hs : h = .s → s.bm.staleA = true) :
    s.demand h = match h with | .b => .quarter | .s => .off := by
  cases h
  · simp [State.demand, State.heaterTemp, hb rfl]
  · simp [State.demand, State.heaterTemp, hs rfl]

theorem demand_of_temp {x : Int} (h' : s.heaterTemp h = some x) : s.demand h = demandOf h (s.setpoint h - x) := by
  simp only [State.demand, h']

/-! ## The grid and the blanking at a second boundary -/

/-- The Sample Interface behind a second boundary outside START (R80, R81, R86). -/
def SampleIf.pulsed (x : SampleIf) (sec : Nat) (now : Elapsed) : SampleIf := { x.arm sec with digSync := some now, realign := false }

theorem siBoundary_outside_start (hstart : s.mc.standing.inStart = false) : siBoundary sec s =
    if s.si.realign then requestBlanking s.cs.image.bSync (s.setSi (s.si.pulsed sec s.now)) else s.setSi (s.si.pulsed sec s.now) := by
  unfold siBoundary
  rw [if_neg (by simp [hstart])]
  rfl

theorem siBoundary_si (hstart : s.mc.standing.inStart = false) : (siBoundary sec s).si = s.si.pulsed sec s.now := by
  rw [siBoundary_outside_start hstart]
  split <;> simp

theorem siBoundary_td_of_stopped (h : s.td.state = .stopped) : (siBoundary sec s).td = s.td := by
  unfold siBoundary
  dsimp only
  (repeat' split) <;> simp [requestBlanking, h]

theorem siBoundary_td_of_running (hstart : s.mc.standing.inStart = false) (h : s.td.state ≠ .stopped) :
    (siBoundary sec s).td = if s.si.realign then { s.td with
      z := s.td.z.blanked s.cs.image.bSync, n := s.td.n.blanked s.cs.image.bSync, e := s.td.e.blanked s.cs.image.bSync } else s.td := by
  rw [siBoundary_outside_start hstart]
  cases s.si.realign <;> simp [requestBlanking, h]

/-- A heater that is off with no edge pending asks for no blanking inside a frame. -/
theorem slotBoundary_td_of_idle (houtput : (s.heater h).output = false) (hedge : (s.heater h).edge = none) :
    (slotBoundary h s).td = s.td := by
  obtain ⟨-, hedge', -⟩ := advanced_facts (x := s.heater h)
  by_cases hoff : (s.heater h).endsAtOff
  · rw [slotBoundary_of_off hoff, hedge, houtput]
    simp
  · rw [slotBoundary_of_inside hoff, examineEdge_of_none (by simp [hedge', hedge])]
    simp

end
end Sys2Proof.Machine

section
open Sys2Proof Sys2Proof.Machine
set_option Elab.async false

/-- Settles O19. -/
theorem secondBoundaryArmsTheGridAndTheFrames : Obligations.SecondBoundaryArmsTheGridAndTheFrames := by
  refine ⟨fun s sec rest hrest hstart hsec => ?_, fun s m hm => ⟨fun hold => ?_, fun hyoung => ?_⟩, fun s h => ?_, ?_⟩
  · let a := siBoundary sec (s.setTb { s.tb with boundaries := rest })
    have hboundaries : a.td.Blanks (secondTaken sec rest s).td :=
      worksOn_heaterBoundary.1.trans worksOn_heaterBoundary.1
    have hin : s.td.Blanks a.td := siBoundary_blanks (s := s.setTb { s.tb with boundaries := rest })
    refine ⟨secondTaken sec rest s, hrest.exec_secondBoundary hsec, by simp [secondTaken], ?_, (hin.trans hboundaries).1,
      fun hrun hrealign => ?_, fun hrun hslot hidle => ?_, fun hframe h => ?_, fun hslot h => ?_, ?_⟩
    · have hsi : a.si = s.si.pulsed sec s.now := siBoundary_si (by simpa using hstart)
      rw [show (secondTaken sec rest s).si = a.si by simp [secondTaken, a], hsi, SampleIf.pulsed, SampleIf.arm]
      by_cases hgrid : s.si.grid = .unaligned <;> simp [hgrid]
    · have htd : a.td = { s.td with
          z := s.td.z.blanked s.cs.image.bSync, n := s.td.n.blanked s.cs.image.bSync, e := s.td.e.blanked s.cs.image.bSync } :=
        (siBoundary_td_of_running (s := s.setTb { s.tb with boundaries := rest }) (by simpa using hstart) hrun).trans (if_pos hrealign)
      obtain ⟨-, x, y, z, hx, hy, hz, ht⟩ := hboundaries
      rw [htd] at hx hy hz
      rw [ht]
      exact ⟨fun h => (blanked_blank h).trans hx, fun h => (blanked_blank h).trans hy, fun h => (blanked_blank h).trans hz⟩
    · have hb : a.heater .b = s.heater .b := by simp [State.heater, a]
      have hs : (heaterBoundary sec .b a).heater .s = s.heater .s :=
        (congrArg HeaterView.heater (worksOn_heaterBoundary.2 .s (by decide))).trans (by simp [State.view, State.heater, a])
      have htdb : (heaterBoundary sec .b a).td = a.td := by
        rw [show heaterBoundary sec .b a = slotBoundary .b a by simp [heaterBoundary, a, hstart, hslot]]
        exact slotBoundary_td_of_idle (by rw [hb]; exact (hidle .b).1) (by rw [hb]; exact (hidle .b).2)
      have htds : (secondTaken sec rest s).td = (heaterBoundary sec .b a).td := by
        rw [show secondTaken sec rest s = slotBoundary .s (heaterBoundary sec .b a) by
          simp only [secondTaken]; rw [heaterBoundary, if_neg (by simp [hstart]), if_neg (by simp [hslot])]]
        exact slotBoundary_td_of_idle (by rw [hs]; exact (hidle .s).1) (by rw [hs]; exact (hidle .s).2)
      rw [htds, htdb, siBoundary_td_of_running (s := s.setTb { s.tb with boundaries := rest }) (by simpa using hstart) hrun]
      have hasked (c : Channel) : (if s.si.realign = true ∧ c.state ≠ .stopped then { c with blank := max c.blank s.cs.image.bSync } else c) =
          if s.si.realign then c.blanked s.cs.image.bSync else c := by
        cases s.si.realign <;> by_cases hc : c.state = .stopped <;> simp [Channel.blanked, hc]
      simp only [hasked]
      cases hr : s.si.realign <;> simp [hr]
    · have hp := secondTaken_frame (s := s) (h := h) (rest := rest) hstart hframe
      exact ⟨hp.pos, hp.level⟩
    · have hp := secondTaken_slot (s := s) (h := h) (rest := rest) hstart hslot
      exact ⟨hp.pos, hp.level⟩
    · simp [secondTaken]
  · have hexec : exec .digSyncFall s = .next (s.setSi { s.si with digSync := none }) := next_ite_pos (by simp [hm, hold])
    exact ⟨_, hexec, rfl, rfl⟩
  · exact ⟨by simp [State.outputs, hm], next_ite_neg (by simp [hm, hyoung])⟩
  · cases h with
    | b =>
      refine ⟨fun hstale => demand_of_stale (h := .b) (fun _ => hstale) (by simp), fun hfresh x hx => ?_⟩
      have hdemand : s.demand .b = demandOf .b (s.setpoint .b - x) := demand_of_temp (by simp_all [State.heaterTemp])
      have htable := demandOf_b (s.setpoint .b - x)
      rw [← hdemand] at htable
      exact htable
    | s =>
      refine ⟨fun hstale => demand_of_stale (h := .s) (by simp) (fun _ => hstale), fun hfresh x hx => ?_⟩
      have hdemand : s.demand .s = demandOf .s (s.setpoint .s - x) := demand_of_temp (by simp_all [State.heaterTemp])
      have htable := demandOf_s (s.setpoint .s - x)
      rw [← hdemand] at htable
      exact htable
  · exact ⟨rfl, rfl, rfl, lower_onSlots⟩

end

/-! PROOFS. What a poll can move, and the entry to the awake modes. -/
namespace Sys2Proof.Machine
set_option Elab.async false

section
variable {s t u : State}

/-! ## What a poll can move (R158 to R162) -/

/-- The counters that a poll, and the class it may force, can raise. -/
def Counter.byPoll : Counter → Bool
  | .pollOverruns | .failuresA | .failuresB | .forcedClasses | .classChanges | .healthDrops
  | .edgesTakenB | .offForcingsB | .edgesTakenS | .offForcingsS => true
  | _ => false

/-- A poll moves no more than this from `s` to `t`: a battery missed for the tenth time forces the class to LOW (R161). -/
structure State.PolledTo (s t : State) : Prop where
  mc : t.mc = { s.mc with evalDue := t.mc.evalDue, users := { s.mc.users with poll := t.mc.users.poll } }
  td : s.td.Blanks t.td
  cu : t.cu = s.cu
  uc : t.uc = { s.uc with healthTimer := t.uc.healthTimer }
  cls : t.bm.cls = s.bm.cls ∨ (s.bm.cls = .good ∨ s.bm.cls = .lean) ∧ t.bm.cls = .low
  count : ∀ c : Counter, c.byPoll = false → t.count c = s.count c

theorem State.PolledTo.refl : s.PolledTo s := ⟨rfl, .refl, rfl, rfl, .inl rfl, fun _ _ => rfl⟩

theorem State.PolledTo.trans (h : s.PolledTo t) (g : t.PolledTo u) : s.PolledTo u where
  mc := by rw [g.mc, h.mc]
  td := h.td.trans g.td
  cu := g.cu.trans h.cu
  uc := by rw [g.uc, h.uc]
  cls := by
    rcases g.cls with hg | ⟨hg, hlow⟩
    · rw [hg]; exact h.cls
    · rcases h.cls with hh | ⟨-, hlow'⟩
      · exact .inr ⟨hh ▸ hg, hlow⟩
      · rw [hlow'] at hg; simp at hg
  count c hc := (g.count c hc).trans (h.count c hc)

theorem polledTo_bump {c : Counter} (hc : c.byPoll = true) : s.PolledTo (bump c s) where
  mc := rfl
  td := .refl
  cu := rfl
  uc := rfl
  cls := .inl rfl
  count d hd := by
    rw [count_bump, if_neg]
    rintro rfl
    rw [hc] at hd
    cases hd

theorem polledTo_setBm {x : Battery} (h : x.cls = s.bm.cls) : s.PolledTo (s.setBm x) :=
  ⟨rfl, .refl, rfl, rfl, .inl h, fun _ _ => rfl⟩

theorem polledTo_twRequest {x : TwUser} : s.PolledTo (twRequest x s) := ⟨rfl, .refl, rfl, rfl, .inl rfl, fun _ _ => rfl⟩

theorem polledTo_setHeater {h : HeaterId} {x : Heater} : s.PolledTo (setHeater h x s) := by
  cases h <;> exact ⟨rfl, .refl, rfl, rfl, .inl rfl, fun _ _ => rfl⟩

theorem polledTo_requestBlanking {n : Nat} : s.PolledTo (requestBlanking n s) :=
  ⟨by simp, requestBlanking_blanks, by simp, by simp, .inl (by simp), fun _ _ => count_requestBlanking⟩

theorem polledTo_offForce {h : HeaterId} : s.PolledTo (offForce h s) := by
  have hforced : (heaterCounter h .forced).byPoll = true := by cases h <;> rfl
  have htaken : (heaterCounter h .taken).byPoll = true := by cases h <;> rfl
  unfold offForce
  dsimp only
  split
  · exact ((polledTo_setHeater.trans polledTo_requestBlanking).trans (polledTo_bump htaken)).trans (polledTo_bump hforced)
  · exact polledTo_setHeater

theorem polledTo_forceByAllowance : s.PolledTo (forceByAllowance s) := by
  unfold forceByAllowance
  dsimp only
  (repeat' split) <;> simp only [polledTo_offForce.trans polledTo_offForce, polledTo_offForce, State.PolledTo.refl]

/-- With the class LOW or CRITICAL a HEALTH alert is dropped (R142). -/
theorem polledTo_ucHealth (h : s.bm.cls = .low ∨ s.bm.cls = .critical) : s.PolledTo (ucHealth s) := by
  have hraise : s.PolledTo (ucRaiseHealth s) := by
    unfold ucRaiseHealth
    have hpoor : (s.bm.cls == .low || s.bm.cls == .critical) = true := by rcases h with h | h <;> simp [h]
    rw [if_pos hpoor]
    split
    · exact .refl
    · exact polledTo_bump rfl
  exact hraise.trans ⟨rfl, .refl, rfl, rfl, .inl rfl, fun _ _ => rfl⟩

theorem polledTo_tellMode : s.PolledTo (tellMode s) := ⟨rfl, .refl, rfl, rfl, .inl rfl, fun _ _ => rfl⟩

theorem polledTo_classChanged (h : s.bm.cls = .low ∨ s.bm.cls = .critical) : s.PolledTo (classChanged s) := by
  have hforced : s.PolledTo (tellMode (forceByAllowance (bump .classChanges s))) :=
    ((polledTo_bump rfl).trans polledTo_forceByAllowance).trans polledTo_tellMode
  unfold classChanged
  dsimp only
  split
  · exact hforced
  · exact hforced.trans (polledTo_ucHealth (by simpa using h))

theorem polledTo_setClass_low (h : s.bm.cls = .good ∨ s.bm.cls = .lean) : s.PolledTo (setClass .low s) := by
  unfold setClass
  rw [if_neg (by rcases h with h | h <;> simp [h])]
  have hchanged := polledTo_classChanged (s := s.setBm { s.bm with cls := .low }) (.inl rfl)
  refine ⟨hchanged.mc, hchanged.td, hchanged.cu, hchanged.uc, .inr ⟨h, ?_⟩, hchanged.count⟩
  rcases hchanged.cls with hcls | ⟨-, hcls⟩ <;> exact hcls

theorem polledTo_batteryMissed : s.PolledTo (batteryMissed s) := by
  unfold batteryMissed
  extract_lets n y x
  have hx : s.PolledTo x := polledTo_setBm rfl
  clear_value x
  split
  · next h =>
    exact (hx.trans (polledTo_bump (c := .forcedClasses) rfl)).trans (polledTo_setClass_low (by simpa using h.2))
  · exact hx

theorem polledTo_sensorMissed {x : TempSensor} : s.PolledTo (sensorMissed x s) := by cases x <;> exact polledTo_setBm rfl

theorem polledTo_sensorOverrun {x : TempSensor} : s.PolledTo (sensorOverrun x s) :=
  (polledTo_bump (by cases x <;> rfl)).trans polledTo_sensorMissed

theorem polledTo_pollDevice {x : TwUser} {missed : State → State} (h : ∀ s : State, s.PolledTo (missed s)) :
    s.PolledTo (pollDevice x missed s) := by
  unfold pollDevice
  split
  · exact (polledTo_bump rfl).trans (h _)
  · exact polledTo_twRequest

theorem polledTo_pollTimed : s.PolledTo (pollTimed s) := polledTo_setBm rfl

theorem polledTo_pollJoins : s.PolledTo (pollJoins s) := by
  unfold pollJoins
  split
  · exact ⟨rfl, .refl, rfl, rfl, .inl rfl, fun _ _ => rfl⟩
  · exact .refl

theorem polledTo_makePoll : s.PolledTo (makePoll s) := by
  have hdevices := ((polledTo_pollDevice (s := s) (x := .battery) fun _ => polledTo_batteryMissed).trans
    (polledTo_pollDevice (x := .tempA) fun _ => polledTo_sensorOverrun (x := .a))).trans
      (polledTo_pollDevice (x := .tempB) fun _ => polledTo_sensorOverrun (x := .b))
  exact (hdevices.trans polledTo_pollTimed).trans polledTo_pollJoins

theorem polledTo_pollModeChange : s.PolledTo (pollModeChange s) := by
  unfold pollModeChange
  split
  · split
    · exact polledTo_makePoll
    · exact polledTo_setBm rfl
  · exact polledTo_setBm rfl
  · exact polledTo_setBm rfl

end
end Sys2Proof.Machine

/-! PROOFS. Evaluations of a station that stays awake. -/
namespace Sys2Proof.Machine
set_option Elab.async false

section
variable {s t u : State}

/-! ## The calibration at a change of mode (R6, R7) -/

/-- The Timebase behind a change of mode: an open window is discarded, and the period starts again where it runs. -/
def State.recalibrated (s : State) : Timebase :=
  { s.tb with
    calTimer := if s.calRuns then s.startTimer (secs 64) else none, calOpening := false, calWindow := none }

theorem calModeChange_eq : calModeChange s = bumpIf s.tb.calWindow.isSome .calibrationDiscards (s.setTb s.recalibrated) := by
  cases hw : s.tb.calWindow with
  | none =>
    unfold calModeChange calDiscard State.recalibrated
    rw [if_neg (by simp [hw]), ← hw]
    simp [calRestart, bumpIf, hw]
  | some w =>
    unfold calModeChange calDiscard
    rw [if_pos (by simp [hw])]
    rfl

theorem calModeChange_count {c : Counter} (h : c ≠ .calibrationDiscards) : (calModeChange s).count c = s.count c := by
  simp [calModeChange_eq, h.symm]

/-! ## Evaluations between ACTIVE and ECONOMY while the wake hold runs (R184, R185) -/

/-- The station is awake with the wake hold running and the class not CRITICAL: no evaluation takes it from the awake modes. -/
structure State.HeldAwake (s : State) : Prop where
  standing : s.mc.standing = .active ∨ s.mc.standing = .watching
  hold : s.mc.wakeHold.isSome = true
  cls : s.bm.cls ≠ .critical

/-- An evaluation between ACTIVE and ECONOMY moves no more than this from `s` to `t`. -/
structure State.AwakeTo (s t : State) : Prop where
  mc : t.mc = { s.mc with
    standing := t.mc.standing, evalDue := t.mc.evalDue, abandonDue := t.mc.abandonDue
    users := { s.mc.users with poll := t.mc.users.poll } }
  tb : t.tb = { s.tb with calTimer := t.tb.calTimer, calOpening := t.tb.calOpening, calWindow := t.tb.calWindow }
  td : s.td.Blanks t.td
  cu : t.cu = s.cu
  uc : t.uc = { s.uc with healthTimer := t.uc.healthTimer }
  cls : t.bm.cls = s.bm.cls ∨ (s.bm.cls = .good ∨ s.bm.cls = .lean) ∧ t.bm.cls = .low
  count : ∀ c : Counter, c.byPoll = false → c ≠ .calibrationDiscards → t.count c = s.count c
  rest : t.pins = s.pins ∧ t.rmu = s.rmu ∧ t.lc = s.lc ∧ t.peers = s.peers ∧ t.tau = s.tau ∧ t.si = s.si ∧ t.cs = s.cs

theorem State.AwakeTo.refl : s.AwakeTo s :=
  ⟨rfl, rfl, .refl, rfl, rfl, .inl rfl, fun _ _ _ => rfl, rfl, rfl, rfl, rfl, rfl, rfl, rfl⟩

theorem State.AwakeTo.trans (h : s.AwakeTo t) (g : t.AwakeTo u) : s.AwakeTo u where
  mc := by rw [g.mc, h.mc]
  tb := by rw [g.tb, h.tb]
  td := h.td.trans g.td
  cu := g.cu.trans h.cu
  uc := by rw [g.uc, h.uc]
  cls := by
    rcases g.cls with hg | ⟨hg, hlow⟩
    · rw [hg]; exact h.cls
    · rcases h.cls with hh | ⟨-, hlow'⟩
      · exact .inr ⟨hh ▸ hg, hlow⟩
      · rw [hlow'] at hg; simp at hg
  count c hc hd := (g.count c hc hd).trans (h.count c hc hd)
  rest := by
    obtain ⟨h1, h2, h3, h4, h5, h6, h7⟩ := h.rest
    obtain ⟨g1, g2, g3, g4, g5, g6, g7⟩ := g.rest
    exact ⟨g1.trans h1, g2.trans h2, g3.trans h3, g4.trans h4, g5.trans h5, g6.trans h6, g7.trans h7⟩

theorem awakeTo_reported : s.AwakeTo s.reported :=
  ⟨rfl, rfl, .refl, rfl, rfl, .inl rfl, fun _ _ _ => rfl, rfl, rfl, rfl, rfl, rfl, rfl, rfl⟩

theorem awakeTo_setStanding {x : Standing} : s.AwakeTo (setStanding x s) :=
  ⟨rfl, rfl, .refl, rfl, rfl, .inl rfl, fun _ _ _ => rfl, rfl, rfl, rfl, rfl, rfl, rfl, rfl⟩

theorem awakeTo_pollModeChange : s.AwakeTo (pollModeChange s) where
  mc := by
    have h := (polledTo_pollModeChange (s := s)).mc
    rw [h]
  tb := by simp
  td := polledTo_pollModeChange.td
  cu := polledTo_pollModeChange.cu
  uc := polledTo_pollModeChange.uc
  cls := polledTo_pollModeChange.cls
  count c hc _ := polledTo_pollModeChange.count c hc
  rest := by simp

theorem awakeTo_calModeChange : s.AwakeTo (calModeChange s) where
  mc := by simp
  tb := by
    rw [calModeChange_eq]
    simp [State.recalibrated]
  td := by simpa using Trigger.Blanks.refl
  cu := by simp
  uc := by simp
  cls := .inl (by simp)
  count _ _ hd := calModeChange_count hd
  rest := by simp

theorem awakeTo_changeAwake {x : Standing} : s.AwakeTo (changeAwake x s) :=
  (awakeTo_setStanding.trans awakeTo_pollModeChange).trans awakeTo_calModeChange

theorem changeAwake_standing {x : Standing} : (changeAwake x s).mc.standing = x := by
  have hpoll := congrArg ModeCtl.standing (polledTo_pollModeChange (s := setStanding x s)).mc
  simpa [changeAwake, setStanding] using hpoll

/-- While the wake hold runs, the class alone decides between ACTIVE and ECONOMY. -/
theorem State.HeldAwake.wantedMode (h : s.HeldAwake) : s.wantedMode = if s.bm.cls = .good then .active else .economy := by
  have hdormant : s.dormant = false := by
    unfold State.dormant
    rcases h.standing with h | h <;> simp [h, Standing.inDormant]
  have hconditions : s.dormancyConditions = false := by
    unfold State.dormancyConditions
    simp [Option.isSome_iff_ne_none.mp h.hold]
  have hcls := h.cls
  unfold State.wantedMode
  cases hc : s.bm.cls <;> simp_all

theorem State.HeldAwake.of_awakeTo (h : s.HeldAwake) (ht : s.AwakeTo t)
    (hstanding : t.mc.standing = .active ∨ t.mc.standing = .watching) : t.HeldAwake where
  standing := hstanding
  hold := by rw [ht.mc]; exact h.hold
  cls := by
    rcases ht.cls with hc | ⟨-, hc⟩
    · rw [hc]; exact h.cls
    · rw [hc]; decide

/-- An evaluation keeps the station awake. -/
theorem State.HeldAwake.evaluate (h : s.HeldAwake) : s.AwakeTo (evaluateMode s) ∧ (evaluateMode s).HeldAwake := by
  have hmode : evaluateMode s = s ∨ evaluateMode s = changeAwake .active s ∨ evaluateMode s = changeAwake .watching s := by
    unfold evaluateMode
    rw [h.wantedMode]
    by_cases hc : s.bm.cls = .good <;> rcases h.standing with hs | hs <;> simp [hc, hs]
  rcases hmode with hmode | hmode | hmode <;> rw [hmode]
  · exact ⟨.refl, h⟩
  · exact ⟨awakeTo_changeAwake, h.of_awakeTo awakeTo_changeAwake (.inl changeAwake_standing)⟩
  · exact ⟨awakeTo_changeAwake, h.of_awakeTo awakeTo_changeAwake (.inr changeAwake_standing)⟩

theorem State.HeldAwake.settleOnce (h : s.HeldAwake) : s.AwakeTo (mcSettleOnce s) ∧ (mcSettleOnce s).HeldAwake := by
  have hr : s.reported.HeldAwake := h.of_awakeTo awakeTo_reported h.standing
  have habandon : abandonEntry s.reported = s.reported := by
    refine abandonEntry_of_not_entering ?_
    rcases h.standing with hs | hs <;> simp [State.reported, hs]
  rw [mcSettleOnce_eq, habandon]
  obtain ⟨hto, hheld⟩ := hr.evaluate
  (repeat' split) <;> simp_all [State.AwakeTo.refl, awakeTo_reported, awakeTo_reported.trans hto]

/-- The settling of a step keeps the station awake while the wake hold runs. -/
theorem State.HeldAwake.settle (h : s.HeldAwake) : s.AwakeTo (mcSettle s) ∧ (mcSettle s).HeldAwake := by
  obtain ⟨h1, g1⟩ := h.settleOnce
  obtain ⟨h2, g2⟩ := g1.settleOnce
  obtain ⟨h3, g3⟩ := g2.settleOnce
  obtain ⟨h4, g4⟩ := g3.settleOnce
  have hto := ((h1.trans h2).trans h3).trans h4
  exact ⟨hto.trans awakeTo_reported, g4.of_awakeTo awakeTo_reported g4.standing⟩

/-- With a class worse than GOOD the station stays in ECONOMY, WATCHING. -/
theorem State.HeldAwake.settle_of_watching (h : s.HeldAwake) (hs : s.mc.standing = .watching) (hc : s.bm.cls ≠ .good) :
    mcSettle s = s.reported := by
  refine mcSettle_of_stays (by simp [hs]) ?_
  have hr : s.reported.HeldAwake := h.of_awakeTo awakeTo_reported h.standing
  unfold evaluateMode
  rw [hr.wantedMode, if_neg (by simpa [State.reported] using hc)]
  simp [State.reported, hs]

/-- A station in ACTIVE with class GOOD stays there. -/
theorem State.HeldAwake.settleOnce_of_active (h : s.HeldAwake) (hs : s.mc.standing = .active) (hc : s.bm.cls = .good) :
    mcSettleOnce s = s.reported := by
  refine mcSettleOnce_of_stays (by simp [hs]) ?_
  have hr : s.reported.HeldAwake := h.of_awakeTo awakeTo_reported h.standing
  unfold evaluateMode
  rw [hr.wantedMode, if_pos (by simpa [State.reported] using hc)]
  simp [State.reported, hs]

/-! ## The blocks at the entry to the awake modes (R191) -/

theorem receiverOn_lc : (receiverOn s).lc = { s.lc with rx := if s.lc.rx = .off then .hunting else s.lc.rx } := by
  unfold receiverOn
  split
  · next h => rw [if_pos h]; rfl
  · next h => rw [if_neg h]

theorem tdReport_mc : (tdReport s t).mc =
    { t.mc with evalDue := (tdReport s t).mc.evalDue, abandonDue := (tdReport s t).mc.abandonDue } := by
  unfold tdReport
  dsimp only
  (repeat' split) <;> rfl

theorem rmuWake_rmu (h : s.rmu.sleeping = true) : (rmuWake s).rmu.sleeping = false ∧
    (rmuWake s).rmu.state = if s.cs.image.receiver then .acquiring else .absent := by
  unfold rmuWake
  rw [if_pos h]
  split <;> simp [*]

theorem rmuWake_of_awake (h : s.rmu.sleeping = false) : rmuWake s = s := by
  unfold rmuWake
  rw [if_neg (by simp [h])]

theorem rmuWake_sleeping : (rmuWake s).rmu.sleeping = false := by
  by_cases h : s.rmu.sleeping = true
  · exact (rmuWake_rmu h).1
  · rw [rmuWake_of_awake (by simpa using h)]
    simpa using h

/-- What the blocks do at the entry to an awake mode. -/
structure State.Woken (s t : State) : Prop where
  mc : t.mc = { s.mc with evalDue := t.mc.evalDue, abandonDue := t.mc.abandonDue }
  tb : t.tb = s.recalibrated
  td : t.td = { s.td with state := .settling, lastSet := none, z := t.td.z, n := t.td.n, e := t.td.e }
  si : t.si = { s.si with grid := .unaligned, slot := none, bitCount := 0, buffer := [] }
  tau : t.tau = { s.tau with steerTimer := s.startTimer (secs (2 ^ s.cs.image.k)), steerWaiting := false }
  rmu : t.rmu = (rmuWake s).rmu
  peers : t.peers = (ptResume s).peers
  lc : t.lc = { s.lc with rx := if s.lc.rx = .off then .hunting else s.lc.rx }
  count : ∀ c : Counter, c ≠ .calibrationDiscards → t.count c = s.count c

theorem rmuWake_rmu_congr (hrmu : t.rmu = s.rmu) (hcs : t.cs = s.cs) (hnow : t.now = s.now) : (rmuWake t).rmu = (rmuWake s).rmu := by
  unfold rmuWake State.lossStart State.startTimer
  rw [hrmu, hcs, hnow]
  split
  · split <;> simp
  · exact hrmu

theorem woken_blocksWake : s.Woken (blocksWake s) where
  mc := by
    have h (x : State) : (tdStart x).mc = { x.mc with evalDue := (tdStart x).mc.evalDue, abandonDue := (tdStart x).mc.abandonDue } :=
      tdReport_mc
    have hmc : (siStart (tauStart (rmuWake (ptResume (receiverOn (calModeChange s)))))).mc = s.mc := by simp
    unfold blocksWake
    rw [h, hmc]
  tb := by
    simp only [blocksWake, tdStart_leaves, siStart_leaves, tauStart_leaves, rmuWake_leaves, ptResume_leaves, receiverOn_leaves]
    rw [calModeChange_eq]
    simp
  td := by
    unfold blocksWake tdStart
    simp
  si := by
    unfold blocksWake siStart
    simp
  tau := by
    unfold blocksWake tauStart
    simp [State.startTimer, State.now, calModeChange_eq, State.recalibrated]
  rmu := by
    have hsame : (blocksWake s).rmu = (rmuWake (ptResume (receiverOn (calModeChange s)))).rmu := by simp [blocksWake]
    rw [hsame]
    exact rmuWake_rmu_congr (by simp) (by simp) (by simp [State.now, calModeChange_eq, State.recalibrated])
  peers := by
    have hsame : (blocksWake s).peers = (ptResume (receiverOn (calModeChange s))).peers := by simp [blocksWake]
    rw [hsame]
    simp [ptResume, State.now, calModeChange_eq, State.recalibrated]
  lc := by
    have hsame : (blocksWake s).lc = (receiverOn (calModeChange s)).lc := by simp [blocksWake]
    rw [hsame, receiverOn_lc]
    simp
  count c hc := by
    have hsame : (blocksWake s).count c = (calModeChange s).count c := count_of_counters_eq (by simp [blocksWake])
    rw [hsame, calModeChange_count hc]

/-! ## The entry to ECONOMY, WATCHING (R191, R195) -/

/-- The entry to WATCHING up to the poll. -/
def watchingAwake (s : State) : State := beaconTimerRestart (blocksWake (wakeHoldStart (watchingBegun s)))

theorem enterWatching_eq : enterWatching s = tellMode (csReleaseHeld (pollModeChange (watchingAwake s))) := rfl

theorem csReleaseHeld_of_none (h : ∀ x, s.cs.pending = some x → x.held = false) : csReleaseHeld s = s := by
  unfold csReleaseHeld
  rw [if_neg]
  cases hp : s.cs.pending with
  | none => simp
  | some x => simp [h x hp]

/-- What the entry to WATCHING does up to the poll. -/
structure State.WatchBegun (s t : State) : Prop where
  mc : t.mc = { s.mc with
    standing := .watching, wakeHold := s.startTimer (secs s.cs.image.wakeHold), capture := none, finalLimit := none, users := .empty
    evalDue := t.mc.evalDue, abandonDue := t.mc.abandonDue }
  tb : t.tb = { s.tb with calTimer := t.tb.calTimer, calOpening := false, calWindow := none }
  td : t.td = { s.td with state := .settling, lastSet := none, z := t.td.z, n := t.td.n, e := t.td.e }
  si : t.si = { s.si with grid := .unaligned, slot := none, bitCount := 0, buffer := [] }
  tau : t.tau = { s.tau with steerTimer := s.startTimer (secs (2 ^ s.cs.image.k)), steerWaiting := false }
  rmu : t.rmu = (rmuWake s).rmu
  peers : t.peers = (ptResume s).peers
  lc : t.lc = { s.lc with
    rx := if s.lc.rx = .off then .hunting else s.lc.rx
    beaconTimer := if s.listenOnly then none else s.startTimer (secs (2 ^ s.cs.image.b)) }
  rest : t.pins = s.pins ∧ t.cu = s.cu ∧ t.uc = s.uc ∧ t.bm = s.bm ∧ t.twm = s.twm ∧ t.cs = s.cs
  count : ∀ c : Counter, c ≠ .calibrationDiscards → t.count c = s.count c

theorem watchBegun_watchingAwake : s.WatchBegun (watchingAwake s) := by
  have h := woken_blocksWake (s := wakeHoldStart (watchingBegun s))
  have hcalls : (wakeHoldStart (watchingBegun s)).mc = { s.mc with
      standing := .watching, wakeHold := s.startTimer (secs s.cs.image.wakeHold), capture := none, finalLimit := none
      users := .empty } := rfl
  refine ⟨?_, ?_, ?_, ?_, ?_, ?_, ?_, ?_, ?_, ?_⟩
  · have hmc := h.mc
    rw [hcalls] at hmc
    simpa [watchingAwake] using hmc
  · simp only [watchingAwake, beaconTimerRestart_leaves]
    rw [h.tb]
    rfl
  · simp only [watchingAwake, beaconTimerRestart_leaves]
    exact h.td
  · simp only [watchingAwake, beaconTimerRestart_leaves]
    exact h.si
  · simp only [watchingAwake, beaconTimerRestart_leaves]
    exact h.tau
  · simp only [watchingAwake, beaconTimerRestart_leaves]
    rw [h.rmu]
    exact rmuWake_rmu_congr rfl rfl rfl
  · simp only [watchingAwake, beaconTimerRestart_leaves]
    rw [h.peers]
    rfl
  · have hstanding : (blocksWake (wakeHoldStart (watchingBegun s))).mc.standing = .watching := by rw [h.mc, hcalls]
    have hnow : (blocksWake (wakeHoldStart (watchingBegun s))).now = s.now := by rw [State.now, h.tb]; rfl
    have hlisten : (blocksWake (wakeHoldStart (watchingBegun s))).listenOnly = s.listenOnly := by
      simp [State.listenOnly, State.ownId, watchingBegun]
    unfold watchingAwake beaconTimerRestart State.beaconPeriod
    rw [hstanding, hnow, hlisten, h.lc]
    simp [watchingBegun, Standing.mode, State.startTimer]
  · simp [watchingAwake, watchingBegun]
  · intro c hc
    have hsame : (watchingAwake s).count c = (blocksWake (wakeHoldStart (watchingBegun s))).count c :=
      count_of_counters_eq (by simp [watchingAwake])
    rw [hsame, h.count c hc]
    exact count_of_counters_eq (by simp [watchingBegun])

end
end Sys2Proof.Machine

/-! PROOFS. The end of a wake or a rising, and fast steady. -/
namespace Sys2Proof.Machine
set_option Elab.async false

section
variable {s t u w : State}

/-- The end of a step is the end of its settled state. -/
theorem finish_settle : finish s = finish (mcSettle s) := by
  rw [finish, finish, mcSettle_of_settled _ (mcSettle_settled s)]

/-! ## The poll of a change of mode that finds the bus free (R158, R161) -/

theorem makePoll_of_free (h : s.twm.busyFor .battery = false) : (makePoll s).bm.cls = s.bm.cls := by
  have hsensor (x : TempSensor) (y : TwUser) (v : State) : (pollDevice y (sensorOverrun x) v).bm.cls = v.bm.cls := by
    unfold pollDevice sensorOverrun sensorMissed
    cases x <;> dsimp only <;> split <;> simp
  have hpoll : makePoll s = pollJoins (pollTimed (pollDevice .tempB (sensorOverrun .b)
      (pollDevice .tempA (sensorOverrun .a) (pollDevice .battery batteryMissed s)))) := rfl
  rw [hpoll, pollJoins_leaves.2.1]
  show (pollDevice .tempB (sensorOverrun .b) _).bm.cls = _
  rw [hsensor, hsensor, pollDevice_of_free h]
  rfl

theorem makePoll_lastPoll : (makePoll s).bm.lastPoll = some s.now := by
  have hpoll : makePoll s = pollJoins (pollTimed (pollDevice .tempB (sensorOverrun .b)
      (pollDevice .tempA (sensorOverrun .a) (pollDevice .battery batteryMissed s)))) := rfl
  have hnow : (pollDevice .tempB (sensorOverrun .b)
      (pollDevice .tempA (sensorOverrun .a) (pollDevice .battery batteryMissed s))).now = s.now := by
    have h := (congrArg Timebase.elapsed (makePoll_leaves s).2.2.1 : (makePoll s).now = s.now)
    rw [hpoll] at h
    unfold pollJoins at h
    split at h <;> exact h
  rw [hpoll, pollJoins_leaves.2.1]
  exact congrArg some hnow

/-- A poll period is never 0. -/
theorem pollPeriod_pos {p : Nat} (h : s.pollPeriod = some p) : 0 < p := by
  unfold State.pollPeriod at h
  split at h <;> cases h <;> decide

theorem since_self {x : Elapsed} : since x x = 0 := by simp [since]

/-- A change of mode with the battery free, or with a poll made just now, misses no battery. -/
theorem pollModeChange_cls (h : s.twm.busyFor .battery = false ∨ s.bm.lastPoll = some s.now) :
    (pollModeChange s).bm.cls = s.bm.cls := by
  unfold pollModeChange
  split
  · next p m hp hm =>
    split
    · next hle =>
      rcases h with h | h
      · exact makePoll_of_free h
      · rw [h] at hm
        obtain rfl := Option.some.inj hm
        rw [since_self] at hle
        have hpos := pollPeriod_pos hp
        omega
    · rfl
  · rfl
  · rfl

/-- Behind a change of mode with the battery free, the battery is free still or was polled just now. -/
theorem pollModeChange_free (h : s.twm.busyFor .battery = false) :
    (pollModeChange s).twm.busyFor .battery = false ∨ (pollModeChange s).bm.lastPoll = some s.now := by
  unfold pollModeChange
  split
  · split
    · exact .inr makePoll_lastPoll
    · exact .inl h
  · exact .inl h
  · exact .inl h

theorem blanks_state {a b : Trigger} (h : a.Blanks b) : b.state = a.state := by
  obtain ⟨-, x, y, z, -, -, -, rfl⟩ := h
  rfl

/-! ## The settling behind the entry to WATCHING (R184, R191) -/

/-- What the entry to WATCHING comes to, its evaluations taken: `w` is the state behind the blocks. -/
structure State.Wakes (s w t : State) : Prop where
  begun : s.WatchBegun w
  awake : w.AwakeTo t
  held : t.HeldAwake
  settled : t.Settled
  watching : s.bm.cls ≠ .good → t.mc.standing = .watching
  active : s.bm.cls = .good → s.twm.busyFor .battery = false → t.mc.standing = .active

theorem State.WatchBegun.heldAwake (h : s.WatchBegun w) (hcls : s.bm.cls ≠ .critical) : w.HeldAwake := by
  obtain ⟨-, -, -, hbm, -⟩ := h.rest
  exact ⟨.inr (by rw [h.mc]), by rw [h.mc]; rfl, by rw [hbm]; exact hcls⟩

theorem awakeTo_tellMode : s.AwakeTo (tellMode s) :=
  ⟨rfl, rfl, .refl, rfl, rfl, .inl rfl, fun _ _ _ => rfl, rfl, rfl, rfl, rfl, rfl, rfl, rfl⟩

theorem State.HeldAwake.settle_of_active (h : s.HeldAwake) (hs : s.mc.standing = .active) (hc : s.bm.cls = .good) :
    mcSettle s = s.reported := by
  refine mcSettle_of_stays (by simp [hs]) ?_
  have hr : s.reported.HeldAwake := h.of_awakeTo awakeTo_reported h.standing
  unfold evaluateMode
  rw [hr.wantedMode, if_pos (by simpa [State.reported] using hc)]
  simp [State.reported, hs]

theorem mcSettle_unfold : mcSettle s = (mcSettleOnce (mcSettleOnce (mcSettleOnce (mcSettleOnce s)))).reported := rfl

/-- From WATCHING with class GOOD and no battery poll to miss the station goes on to ACTIVE (R184). -/
theorem State.HeldAwake.settle_to_active (h : s.HeldAwake) (hdue : s.mc.evalDue = true) (hs : s.mc.standing = .watching)
    (hc : s.bm.cls = .good) (hfree : s.twm.busyFor .battery = false ∨ s.bm.lastPoll = some s.now) :
    (mcSettle s).mc.standing = .active := by
  have hr : s.reported.HeldAwake := h.of_awakeTo awakeTo_reported h.standing
  have habandon : abandonEntry s.reported = s.reported := abandonEntry_of_not_entering (by simp [State.reported, hs])
  have honce : mcSettleOnce s = changeAwake .active s.reported := by
    have heval : evaluateMode s.reported = changeAwake .active s.reported := by
      unfold evaluateMode
      rw [hr.wantedMode, if_pos (by simpa [State.reported] using hc)]
      simp [State.reported, hs]
    rw [mcSettleOnce_eq, habandon, ite_self, heval]
    simp [hdue]
  have hcls : (changeAwake .active s.reported).bm.cls = .good := by
    have hpoll := pollModeChange_cls (s := setStanding .active s.reported) hfree
    simpa [changeAwake, setStanding, State.reported, hc] using hpoll
  have hstands : (changeAwake .active s.reported).mc.standing = .active := changeAwake_standing
  have hheld := hr.of_awakeTo (awakeTo_changeAwake (x := .active)) (.inl hstands)
  have htwice := hheld.settleOnce_of_active hstands hcls
  have hrest := mcSettleOnce_of_settled _ (reported_settled (s := changeAwake .active s.reported))
  rw [mcSettle_unfold, honce, htwice, hrest, hrest]
  exact hstands

/-- With a class worse than GOOD the end of a step leaves a station in WATCHING there. -/
theorem State.HeldAwake.finish_of_watching (h : s.HeldAwake) (hs : s.mc.standing = .watching) (hc : s.bm.cls ≠ .good) :
    finish s = finish s.reported := by
  rw [finish_settle, h.settle_of_watching hs hc]

/-- The entry to WATCHING up to its evaluation, where no request is held. -/
theorem enterWatching_of_free (hpending : ∀ x, s.cs.pending = some x → x.held = false) :
    enterWatching s = tellMode (pollModeChange (watchingAwake s)) ∧ (watchingAwake s).AwakeTo (enterWatching s) ∧
    (enterWatching s).mc.standing = .watching := by
  have hbegun := watchBegun_watchingAwake (s := s)
  obtain ⟨-, -, -, -, -, hcs⟩ := hbegun.rest
  have henter : enterWatching s = tellMode (pollModeChange (watchingAwake s)) := by
    rw [enterWatching_eq, csReleaseHeld_of_none]
    simpa [hcs] using hpending
  refine ⟨henter, henter ▸ awakeTo_pollModeChange.trans awakeTo_tellMode, ?_⟩
  rw [henter]
  show (pollModeChange (watchingAwake s)).mc.standing = _
  rw [polledTo_pollModeChange.mc, hbegun.mc]

theorem State.AwakeTo.moments (h : s.AwakeTo t) : t.mc.wakeHold = s.mc.wakeHold ∧ t.mc.capture = s.mc.capture ∧
    t.tb.source = s.tb.source ∧ t.tb.time = s.tb.time ∧ t.tb.elapsed = s.tb.elapsed ∧ t.td.state = s.td.state := by
  have hmc {α : Type} (f : ModeCtl → α) := congrArg f h.mc
  have htb {α : Type} (f : Timebase → α) := congrArg f h.tb
  exact ⟨hmc ModeCtl.wakeHold, hmc ModeCtl.capture, htb Timebase.source, htb Timebase.time, htb Timebase.elapsed, blanks_state h.td⟩

theorem State.WatchBegun.moments (h : s.WatchBegun t) : t.mc.wakeHold = s.startTimer (secs s.cs.image.wakeHold) ∧
    t.mc.capture = none ∧ t.tb.source = s.tb.source ∧ t.tb.time = s.tb.time ∧ t.tb.elapsed = s.tb.elapsed ∧
    t.td.state = .settling := by
  have hmc {α : Type} (f : ModeCtl → α) := congrArg f h.mc
  have htb {α : Type} (f : Timebase → α) := congrArg f h.tb
  exact ⟨hmc ModeCtl.wakeHold, hmc ModeCtl.capture, htb Timebase.source, htb Timebase.time, htb Timebase.elapsed, congrArg Trigger.state h.td⟩

theorem awakeTo_cls_ne_good (h : s.AwakeTo t) (hs : s.bm.cls ≠ .good) : t.bm.cls ≠ .good := by
  rcases h.cls with h | ⟨-, h⟩
  · rw [h]; exact hs
  · rw [h]; decide

/-- The entry to WATCHING with its evaluations, where no request is held. -/
theorem wakes_enterWatching (hcls : s.bm.cls ≠ .critical) (hpending : ∀ x, s.cs.pending = some x → x.held = false) :
    s.Wakes (watchingAwake s) (mcSettle (enterWatching s)) := by
  have hbegun := watchBegun_watchingAwake (s := s)
  obtain ⟨-, -, -, hbm, htwm, -⟩ := hbegun.rest
  obtain ⟨henter, hto, hstands⟩ := enterWatching_of_free hpending
  have hheld := (hbegun.heldAwake hcls).of_awakeTo hto (.inr hstands)
  obtain ⟨hsettle, hheld'⟩ := hheld.settle
  refine ⟨hbegun, hto.trans hsettle, hheld', mcSettle_settled _, fun hne => ?_, fun hgood hfree => ?_⟩
  · rw [hheld.settle_of_watching hstands (awakeTo_cls_ne_good hto (by rw [hbm]; exact hne))]
    exact hstands
  · have hfree' : (watchingAwake s).twm.busyFor .battery = false := by rw [htwm]; exact hfree
    have hpolled : (pollModeChange (watchingAwake s)).now = (watchingAwake s).now := by simp [State.now]
    refine hheld.settle_to_active (by rw [henter]; rfl) hstands ?_ ?_ <;> rw [henter]
    · exact (pollModeChange_cls (.inl hfree')).trans (by rw [hbm, hgood])
    · exact (pollModeChange_free hfree').imp_right fun h => h.trans (congrArg some hpolled.symm)

theorem awakeTo_bump {c : Counter} (hc : c.byPoll = true) : s.AwakeTo (bump c s) where
  mc := rfl
  tb := rfl
  td := .refl
  cu := rfl
  uc := rfl
  cls := .inl rfl
  count d hd _ := (polledTo_bump hc).count d hd
  rest := ⟨rfl, rfl, rfl, rfl, rfl, rfl, rfl⟩

/-! ## Fast steady (R3) -/

/-- The source has become FAST (R3). -/
def fastStands (s : State) : State := calRestart ((s.setTb { s.tb with source := .fast }).setMc { s.mc with handed := true })

theorem exec_fastSteady (hsource : s.tb.source = .warming) (hwarm : s.tb.warmUp = 256) (hasked : s.tb.slowAsked = false) :
    exec .fastSteady s = .next (finish (steerWaited (fastSteadyStanding (fastStands s)))) :=
  next_ite_pos (by simp [hsource, hwarm, hasked])

theorem steerWaited_of_free (h : s.tau.steerWaiting = false) : steerWaited s = s := by simp [steerWaited, h]

theorem steerWaited_of_not_awake (h : s.awake = false) : steerWaited s = s := by simp [steerWaited, h]

/-- A station that is not awake runs no calibration period. -/
theorem fastStands_of_not_awake (h : s.awake = false) :
    fastStands s = (s.setTb { s.tb with source := .fast, calTimer := none, calOpening := false }).setMc { s.mc with handed := true } := by
  have hruns : ((s.setTb { s.tb with source := .fast }).setMc { s.mc with handed := true }).calRuns = false := by
    show (s.awake && _) = false
    rw [h]
    rfl
  unfold fastStands
  rw [calRestart_of_stopped hruns]
  rfl

/-- A station whose standing lets it send nothing leaves the link beside its waiting through the end of a step. -/
theorem finish_lc_of_mute (hset : s.Settled) (hawake : s.awake = false)
    (h : s.mc.standing ≠ .asleep ∧ s.mc.standing ≠ .waking ∧ s.mc.standing ≠ .finalBeacon) :
    ∃ a b m, (finish s).lc = { s.lc with access := a, busy := b, attempt := m } := by
  have hkick : modemKick s = s := modemKick_of_not_awake hawake
  have hstanding : (twKick (syncOsc s)).mc.standing = s.mc.standing := by simpa using (syncOsc_same s).standing
  have hcan : (twKick (syncOsc s)).canTransmit = false := by
    unfold State.canTransmit State.awake
    rw [hstanding, show s.mc.standing.awake = false from hawake]
    simp [h]
  obtain ⟨a, b, m, hlc⟩ := lcKick_lc (t := twKick (syncOsc s)) (.inr (.inl hcan))
  refine ⟨a, b, m, ?_⟩
  rw [finish_eq_follow hset, hkick, hlc]
  simp

end
end Sys2Proof.Machine

section
open Sys2Proof Sys2Proof.Machine
set_option Elab.async false

/-- Settles O22. -/
theorem fastSteadyCompletesWhatWaited : Obligations.FastSteadyCompletesWhatWaited := by
  intro s hset hsource hwarm hasked
  refine ⟨_, exec_fastSteady hsource hwarm hasked, fun hpending hcls hstands => ?_, fun hloading hheld => ?_, fun hcapturing hrx => ?_⟩
  · have hawake : s.awake = false := by rcases hstands with ⟨h, -⟩ | h <;> simp [State.awake, h, Standing.awake]
    rw [fastStands_of_not_awake hawake]
    let y := (s.setTb { s.tb with source := .fast, calTimer := none, calOpening := false }).setMc { s.mc with handed := true }
    have hbegun := watchBegun_watchingAwake (s := y)
    obtain ⟨-, -, -, hbm, -⟩ := hbegun.rest
    obtain ⟨-, hto, hwatching⟩ := enterWatching_of_free (s := y) (by simp [y, hpending])
    let z := bumpIf (y.mc.standing == .rising) .shelterExits (enterWatching y)
    have hz : fastSteadyStanding y = z := by
      rcases hstands with ⟨h, hc⟩ | h
      · simp [fastSteadyStanding, y, z, h, hc, wakeComplete, bumpIf]
      · simp [fastSteadyStanding, y, z, h, risingComplete, bumpIf]
    have hzheld : z.HeldAwake := by
      have hheld := (hbegun.heldAwake (by rcases hcls with h | h <;> simp [y, h])).of_awakeTo hto (.inr hwatching)
      exact ⟨by simpa [z] using hheld.standing, by simpa [z] using hheld.hold, by simpa [z] using hheld.cls⟩
    have hfin : finish (steerWaited (fastSteadyStanding y)) = finish z.reported := by
      obtain ⟨-, -, -, -, htau, -⟩ := hto.rest
      rw [hz, steerWaited_of_free (by simp [z, htau, hbegun.tau]), hzheld.finish_of_watching (by simpa [z] using hwatching)]
      simpa [z] using awakeTo_cls_ne_good hto (by rw [hbm]; rcases hcls with h | h <;> simp [y, h])
    obtain ⟨-, -, htb, hrmu, -, -, hsi, htd, -⟩ := finish_leaves_settled _ (reported_settled (s := z))
    have hsame := finish_same _ (reported_settled (s := z))
    have hcount := finish_count (c := .shelterExits) (reported_settled (s := z)) (by decide) (by decide)
    obtain ⟨-, hrmuto, -, -, -, hsito, -⟩ := hto.rest
    rw [hfin, htb, htd, hsi, hrmu, hcount, hsame.standing, hsame.wakeHold]
    obtain ⟨hholdto, -, hsourceto, -, -, htdto⟩ := hto.moments
    obtain ⟨hhold, -, hsourcebegun, -, -, htdbegun⟩ := hbegun.moments
    have hmcz : z.mc = (enterWatching y).mc := by simp [z]
    have htdz : z.td = (enterWatching y).td := by simp [z]
    have hsiz : z.si = (enterWatching y).si := by simp [z]
    have hrmuz : z.rmu = (enterWatching y).rmu := by simp [z]
    have htbz : z.tb = (enterWatching y).tb := by simp [z]
    refine ⟨?_, ?_, ?_, ?_, ?_, ?_, fun hrising => ?_⟩
    · exact ((congrArg Timebase.source htbz).trans (hsourceto.trans hsourcebegun))
    · exact (congrArg ModeCtl.standing hmcz).trans hwatching
    · exact (congrArg ModeCtl.wakeHold hmcz).trans (hholdto.trans hhold)
    · exact (congrArg Trigger.state htdz).trans (htdto.trans htdbegun)
    · exact (congrArg SampleIf.grid (hsiz.trans hsito)).trans (congrArg SampleIf.grid hbegun.si)
    · exact (congrArg Rmu.sleeping (hrmuz.trans (hrmuto.trans hbegun.rmu))).trans rmuWake_sleeping
    · have hexits : (enterWatching y).count .shelterExits = s.count .shelterExits := by
        rw [hto.count _ rfl (by decide), hbegun.count _ (by decide)]
        rfl
      have hy : (y.mc.standing == .rising) = true := beq_iff_eq.mpr hrising
      have hzc : z.count .shelterExits = min ((enterWatching y).count .shelterExits + 1) 65535 := by
        simp only [z, hy, count_bumpIf]
        rfl
      exact hzc.trans (by rw [hexits])
  · have hawake : s.awake = false := by simp [State.awake, hloading, Standing.awake]
    let y := (s.setTb { s.tb with source := .fast, calTimer := none, calOpening := false }).setMc { s.mc with handed := true }
    have hstep : steerWaited (fastSteadyStanding y) = twRequest .loader y := by
      rw [show fastSteadyStanding y = twRequest .loader y by simp [fastSteadyStanding, y, hloading, hheld]]
      exact steerWaited_of_not_awake hawake
    have htset : (twRequest .loader y).Settled := hset
    obtain ⟨-, -, htb, -⟩ := finish_leaves_settled _ htset
    rw [fastStands_of_not_awake hawake, hstep, htb]
    exact ⟨rfl, (finish_standing htset).trans hloading, finish_busyFor htset (by rw [twRequest_busyFor]; rfl)⟩
  · have hawake : s.awake = false := by simp [State.awake, hcapturing, Standing.awake]
    let y := (s.setTb { s.tb with source := .fast, calTimer := none, calOpening := false }).setMc { s.mc with handed := true }
    have hstep : steerWaited (fastSteadyStanding y) = receiverOn y := by
      rw [show fastSteadyStanding y = receiverOn y by simp [fastSteadyStanding, y, hcapturing]]
      exact steerWaited_of_not_awake (by simpa [State.awake, y] using hawake)
    have htset : (receiverOn y).Settled := by simpa [State.Settled, y] using hset
    obtain ⟨-, -, htb, -⟩ := finish_leaves_settled _ htset
    have hstanding : (receiverOn y).mc.standing = .capturing := by simp [y, hcapturing]
    obtain ⟨a, b, m, hlc⟩ := finish_lc_of_mute htset (by simp [State.awake, y, hcapturing, Standing.awake])
      (by simp [y, hcapturing])
    rw [fastStands_of_not_awake hawake, hstep, htb, hlc]
    refine ⟨by simp [y], (finish_standing htset).trans hstanding, ?_⟩
    rw [receiverOn_lc]
    simp [y, hrx]

end

/-! PROOFS. The end of a step that cannot change the mode, on a busy medium with UP_RDY low; retention and the trim. -/
namespace Sys2Proof.Machine
set_option Elab.async false

section
variable {s t u : State}

/-! ## The end of a step that leaves the mode -/

/-- No report to the Mode Controller can change the mode: nothing is reported, or the station is in ACTIVE with the class GOOD. -/
def State.Firm (s : State) : Prop := s.Settled ∨ s.mc.standing = .active ∧ s.bm.cls = .good

theorem State.Settled.firm (h : s.Settled) : s.Firm := .inl h

theorem State.Steady.firm (h : s.Steady) : s.Firm := .inl h.settled

theorem State.Firm.settle (h : s.Firm) : mcSettle s = s.reported := by
  rcases h with h | ⟨ha, hg⟩
  · rw [mcSettle_of_settled s h, reported_of_settled h]
  · exact mcSettle_of_steady s ha hg

theorem State.Firm.finish (h : s.Firm) : finish s = finish s.reported := by rw [finish_settle, h.settle]

theorem State.Firm.leaves (h : s.Firm) :
    (Machine.finish s).pending = s.pending ∧ (Machine.finish s).pins = s.pins ∧ (Machine.finish s).tb = s.tb ∧
    (Machine.finish s).rmu = s.rmu ∧ (Machine.finish s).peers = s.peers ∧ (Machine.finish s).tau = s.tau ∧
    (Machine.finish s).si = s.si ∧ (Machine.finish s).td = s.td ∧ (Machine.finish s).bm = s.bm ∧
    (Machine.finish s).hc = s.hc ∧ (Machine.finish s).cs = s.cs ∧ (Machine.finish s).freeDrawn = s.freeDrawn := by
  rw [h.finish]
  simpa [State.reported] using finish_leaves_settled s.reported reported_settled

theorem State.Firm.standing (h : s.Firm) : (Machine.finish s).mc.standing = s.mc.standing := by
  rw [h.finish, finish_standing reported_settled]
  rfl

theorem State.Firm.count {c : Counter} (h : s.Firm) (hmuster : c ≠ .musterBeacons := by decide)
    (hbus : c ≠ .busRecoveries := by decide) : (Machine.finish s).count c = s.count c := by
  rw [h.finish, finish_count reported_settled hmuster hbus]
  rfl

theorem State.Firm.entries (h : s.Firm) : (Machine.finish s).cu.entries = s.cu.entries := by
  rw [h.finish, finish_entries reported_settled]
  rfl

theorem State.Firm.lc_of_busy (h : s.Firm) (hcd : s.pins.lkCd = true) :
    ∃ a b m, (Machine.finish s).lc = { s.lc with access := a, busy := b, attempt := m } := by
  obtain ⟨a, b, m, hlc⟩ := finish_lc_of_busy reported_settled (s := s.reported) hcd
  exact ⟨a, b, m, by rw [h.finish, hlc]; rfl⟩

/-- On a busy medium the end of a step leaves the slots. -/
theorem State.Firm.slots_of_busy (h : s.Firm) (hcd : s.pins.lkCd = true) : (Machine.finish s).lc.slots = s.lc.slots := by
  obtain ⟨a, b, m, hlc⟩ := h.lc_of_busy hcd
  rw [hlc]

/-! ## No transfer and no transmission starts -/

/-- The modem starts no transfer: UP_RDY is low, or there is no uplink. -/
def State.NoTransfer (s : State) : Prop := s.pins.upRdy = false ∨ s.cs.image.uplink = false

theorem enterReadyWait_of_low (h : s.pins.upRdy = false) : enterReadyWait s = setModem .readyWait (s.startTimer (secs 60)) s := by
  simp [enterReadyWait, setModem, h]

/-- With no transfer to start, the modem only moves itself and its timer. -/
theorem modemKick_of_noTransfer (h : s.NoTransfer) : ∃ m x, modemKick s = setModem m x s := by
  have hself : ∃ m x, s = setModem m x s := ⟨s.uc.modem, s.uc.modemTimer, rfl⟩
  unfold modemKick
  rcases h with h | h
  · rw [enterReadyWait_of_low h]
    unfold enterIdle
    (repeat' split) <;> first | exact hself | exact ⟨_, _, rfl⟩
  · simpa [h] using hself

/-- With no transmission and no transfer to start, the end of a step leaves the Coincidence Unit. -/
theorem State.Firm.cu (h : s.Firm) (hcd : s.pins.lkCd = true) (hno : s.NoTransfer) : (Machine.finish s).cu = s.cu := by
  obtain ⟨m, x, hkick⟩ := modemKick_of_noTransfer (s := s.reported) hno
  obtain ⟨a, b, k, hlc⟩ := lcKick_of_busy (s := twKick (syncOsc (modemKick s.reported))) (by simpa [State.reported] using hcd)
  rw [h.finish, finish_eq_follow reported_settled, hlc, hkick]
  simp [setModem, State.reported]

/-- With no transfer to start, the end of a step moves of the uplink the modem and its timer only. -/
theorem State.Firm.uc (h : s.Firm) (hno : s.NoTransfer) :
    ∃ m x, (Machine.finish s).uc = { s.uc with modem := m, modemTimer := x } := by
  obtain ⟨m, x, hkick⟩ := modemKick_of_noTransfer (s := s.reported) hno
  refine ⟨m, x, ?_⟩
  rw [h.finish, finish_eq_follow reported_settled, hkick]
  simp [setModem, State.reported]

/-! ## Retention (R120, R108) and the decay of the trim (R109) -/

/-- An unbound entry past retention (R120). -/
def State.pastRetention (s : State) (e : Entry) : Bool := e.bound.isNone && s.tooOld e.onset

theorem tooOld_iff {x : StationTime} : s.tooOld x = true ↔ x + secs s.cs.image.wc + secs 30 < s.tb.time := decide_eq_true_iff

/-- Unconfirmed reports, one after the other. -/
def tdUnconfirmedEach (out : List Entry) (s : State) : State :=
  out.foldl (fun s e => tdUnconfirmedIf (e.own && !e.confirmed) s) s

theorem retentionSweep_eq : retentionSweep s = tdUnconfirmedEach (s.cu.entries.filter s.pastRetention)
    (setEntries (s.cu.entries.filter (fun e => !s.pastRetention e)) s) := rfl

theorem tdUnconfirmed_td : (tdUnconfirmed s).td = { s.td with
    trim := min 64 (s.td.trim + 4), trimTimer := some { start := s.now, period := secs 3600 } } := by
  simp [tdUnconfirmed, trimTimerStart, State.startTimer, State.now]

theorem tdUnconfirmed_count :
    (tdUnconfirmed s).count .unconfirmedTriggers = min (s.count .unconfirmedTriggers + 1) 65535 := by
  simp [tdUnconfirmed, trimTimerStart]

theorem capped_succ (a k n : Nat) : min k (min k (a + 4) + 4 * n) = min k (a + 4 * (n + 1)) := by omega

theorem saturated_succ (a n : Nat) {k : Nat} : min k (min (a + 1) k + n) = min k (a + (n + 1)) := by omega

/-- A row of unconfirmed reports raises the trim and the counter by one step for each. -/
theorem tdUnconfirmedEach_moves (out : List Entry) (htrim : s.td.trim ≤ 64) (hcount : s.count .unconfirmedTriggers ≤ 65535) :
    (tdUnconfirmedEach out s).td.trim = min 64 (s.td.trim + 4 * out.countP (fun e => e.own && !e.confirmed)) ∧
    (tdUnconfirmedEach out s).count .unconfirmedTriggers =
      min 65535 (s.count .unconfirmedTriggers + out.countP (fun e => e.own && !e.confirmed)) ∧
    (tdUnconfirmedEach out s).td.state = s.td.state ∧ (tdUnconfirmedEach out s).cu = s.cu := by
  induction out generalizing s with
  | nil => simp [tdUnconfirmedEach, htrim, hcount]
  | cons e out ih =>
    have hstep : tdUnconfirmedEach (e :: out) s = tdUnconfirmedEach out (tdUnconfirmedIf (e.own && !e.confirmed) s) := rfl
    rw [hstep]
    cases hreport : (e.own && !e.confirmed)
    · rw [List.countP_cons_of_neg (by simp [hreport])]
      exact ih htrim hcount
    · rw [List.countP_cons_of_pos (by simp [hreport])]
      clear hreport
      have htd : (tdUnconfirmed s).td.trim = min 64 (s.td.trim + 4) := by rw [tdUnconfirmed_td]
      obtain ⟨h1, h2, h3, h4⟩ := ih (s := tdUnconfirmed s) (by omega) (by rw [tdUnconfirmed_count]; omega)
      rw [htd] at h1
      rw [tdUnconfirmed_count] at h2
      rw [tdUnconfirmed_td] at h3
      rw [tdUnconfirmedIf, if_pos rfl]
      generalize out.countP (fun e => e.own && !e.confirmed) = n at *
      exact ⟨h1.trans (capped_succ _ _ n), h2.trans (saturated_succ _ n), h3, h4.trans (by simp)⟩

/-- The trigger table after retention. -/
theorem retentionSweep_cu : (retentionSweep s).cu =
    { s.cu with entries := sortBy entryLe (s.cu.entries.filter (fun e => !s.pastRetention e)) } := by
  have hcu (out : List Entry) (v : State) : (tdUnconfirmedEach out v).cu = v.cu := by
    induction out generalizing v with
    | nil => rfl
    | cons e out ih => exact (ih _).trans (by simp)
  rw [retentionSweep_eq, hcu]
  rfl

theorem mem_retentionSweep {e : Entry} : e ∈ (retentionSweep s).cu.entries ↔
    e ∈ s.cu.entries ∧ ¬ (e.bound = none ∧ e.onset + secs s.cs.image.wc + secs 30 < s.tb.time) := by
  rw [retentionSweep_cu]
  rw [← tooOld_iff]
  cases hb : e.bound <;> simp [State.pastRetention, hb]

end

end Sys2Proof.Machine

section
open Sys2Proof Sys2Proof.Machine
set_option Elab.async false

/-- Settles O48. -/
theorem retentionAndDecayMoveTheTrim : Obligations.RetentionAndDecayMoveTheTrim := by
  unfold Obligations.RetentionAndDecayMoveTheTrim
  refine ⟨fun s hset hcd hrdy htrim hcount => ?_, fun s hdue => ?_, fun s => ⟨tdUnconfirmed_td, tdUnconfirmed_count, ?_⟩⟩
  · have hfirm : (retentionSweep s).Firm := .inl (by simpa [State.Settled] using hset)
    have hcu := hfirm.cu (by simpa using hcd) (.inl (by simpa using hrdy))
    obtain ⟨-, -, htb, -, hpeers, -, -, htd, hbm, -⟩ := hfirm.leaves
    obtain ⟨hmtrim, hmcount, hmstate, -⟩ := tdUnconfirmedEach_moves (s.cu.entries.filter s.pastRetention)
      (s := setEntries (s.cu.entries.filter (fun e => !s.pastRetention e)) s) (by simpa using htrim) hcount
    have hn : (s.cu.entries.filter s.pastRetention).countP (fun e => e.own && !e.confirmed) =
        s.cu.entries.countP (fun e => e.bound.isNone && decide (e.onset + secs s.cs.image.wc + secs 30 < s.tb.time) &&
          e.own && !e.confirmed) := by
      rw [List.countP_filter]
      exact List.countP_congr fun e _ => by
        rw [State.pastRetention, State.tooOld, State.window]
        simp only [Bool.and_eq_true]
        tauto
    refine ⟨finish (retentionSweep s), rfl, ⟨fun e => ?_, ?_, ?_⟩, ?_, ?_, ?_, ?_, ?_, ?_⟩
    · rw [hcu]
      exact mem_retentionSweep
    · rw [htd, retentionSweep_eq, hmtrim, hn]
      simp
    · rw [hfirm.count, retentionSweep_eq, hmcount, hn]
      rfl
    · rw [hcu, retentionSweep_cu]
    · rw [hcu, retentionSweep_cu]
    · rw [htd, retentionSweep_eq, hmstate]
      simp
    · simpa using htb
    · simpa using hpeers
    · simpa using hbm
  · refine (congrArg Host.Outcome.next (if_pos hdue)).trans ?_
    simp [trimTimerStart, State.startTimer, State.now, State.setTd]
    omega
  · refine congrArg Host.Outcome.next (if_neg ?_)
    rw [tdUnconfirmed_td]
    simp [timerDue, Timer.due, State.now, secs, tps, since_self]

end

/-! PROOFS. The timers of the uplink. -/
namespace Sys2Proof.Machine
set_option Elab.async false

section
variable {s t u : State}

/-! ## The uplink at the end of a step -/

theorem State.Firm.uc_eq (h : s.Firm) : (Machine.finish s).uc = (modemKick s.reported).uc := by
  rw [h.finish, finish_eq_follow reported_settled]
  simp

/-- A modem in warm-up is left alone (R147). -/
theorem modemKick_of_warmUp (h : s.uc.modem = .warmUp) : modemKick s = s := by
  unfold modemKick
  rw [h]
  split <;> rfl

/-- An alert that waits switches the modem on (R147). -/
theorem modemKick_of_off (hawake : s.awake = true) (huplink : s.cs.image.uplink = true) (h : s.uc.modem = .off)
    (hqueue : s.uc.queue ≠ []) : modemKick s = setModem .warmUp (s.startTimer (secs s.cs.image.modemWarmUp)) s := by
  unfold modemKick
  rw [h, hawake, huplink]
  simp [hqueue]

theorem awake_of_active (h : s.mc.standing = .active) : s.awake = true := by simp [State.awake, h, Standing.awake]

/-! ## The HEALTH timer (R142, R144) -/

/-- A HEALTH alert as it is raised (R144). -/
def State.healthAlert (s : State) : Alert :=
  { kind := .health, rid := none, id := none, update := 0, enqueued := s.now, attempts := 0, turn := .ready, retryWait := none,
    withdrawn := false }

theorem ucHealth_uc_of_empty (huplink : s.cs.image.uplink = true) (hcls : s.bm.cls = .good) (h : s.uc.queue = []) :
    (ucHealth s).uc = { s.uc with
      queue := [s.healthAlert], healthTimer := some { start := s.now, period := secs (3600 * s.cs.image.healthHours) } } := by
  have hraise : ucRaiseHealth s = ucInsert .health none none 0 s := by
    simp [ucRaiseHealth, huplink, hcls, h, ucPlaceHealth]
  rw [ucHealth, hraise]
  simp [healthTimerStart, ucInsert, setQueue, insertBy, h, huplink, State.healthAlert, State.startTimer, State.now]

/-- With the class LOW or CRITICAL the HEALTH alert is dropped (R144). -/
theorem ucHealth_of_low (huplink : s.cs.image.uplink = true) (hcls : s.bm.cls = .low ∨ s.bm.cls = .critical) :
    ucHealth s = bump .healthDrops (s.setUc { s.uc with
      healthTimer := some { start := s.now, period := secs (3600 * s.cs.image.healthHours) } }) := by
  have hraise : ucRaiseHealth s = bump .healthDrops s := by
    unfold ucRaiseHealth
    rw [huplink]
    rcases hcls with h | h <;> simp [h]
  rw [ucHealth, hraise]
  unfold healthTimerStart
  rw [show (bump .healthDrops s).cs.image.uplink = true from huplink, if_pos rfl]
  rfl

/-! ## The modem goes on (R147) -/

/-- With UP_RDY low the modem waits in READY-WAIT or stands IDLE, whichever its queue says (R147). -/
theorem modemNext_of_low (h : s.pins.upRdy = false) : modemNext s = setModem
    (if s.uc.head.isSome then .readyWait else .idle)
    (if s.uc.head.isSome then some { start := s.now, period := secs 60 }
      else if s.uc.queue = [] then some { start := s.now, period := secs 30 } else none) s := by
  unfold modemNext enterIdle
  rw [enterReadyWait_of_low h]
  cases hhead : s.uc.head <;> cases hq : s.uc.queue <;> simp [State.startTimer, State.now]

/-- A modem that has just gone on stands where its queue puts it. -/
theorem modemNext_rests (h : s.pins.upRdy = false) : (modemNext s).ModemRests := by
  rw [modemNext_of_low h]
  refine .inr ?_
  cases hhead : s.uc.head with
  | some a => exact (congrArg Option.isSome hhead : s.uc.head.isSome = true)
  | none =>
    refine (⟨hhead, ?_⟩ : s.uc.head = none ∧ (s.uc.queue = [] ↔ _))
    show s.uc.queue = [] ↔ (if s.uc.queue = [] then some _ else none).isSome = true
    split <;> simp_all

end

end Sys2Proof.Machine

section
open Sys2Proof Sys2Proof.Machine
set_option Elab.async false

/-- Settles O51. -/
theorem uplinkTimersMoveTheModem : Obligations.UplinkTimersMoveTheModem := by
  unfold Obligations.UplinkTimersMoveTheModem
  refine ⟨fun s hsteady huplink hdue hqueue hmodem => ?_, fun s hrest huplink hdue hcls => ?_,
    fun s a w hset hqueue hturn hwait hdue hmodem => ?_, fun s hset hawake huplink hmodem hdue hrdy => ?_, fun s hmodem hdue => ?_,
    fun s hmodem hqueue hdue => ?_⟩
  · have hactive : (ucHealth s).mc.standing = .active := (ucHealth_keeps (.refl 24 .still s)).standing.trans hsteady.active
    have hfirm : (ucHealth s).Firm := .inr ⟨hactive, by simpa using hsteady.good⟩
    have hraised := ucHealth_uc_of_empty huplink hsteady.good hqueue
    have hkick : (finish (ucHealth s)).uc = { (ucHealth s).uc with
        modem := .warmUp, modemTimer := some { start := s.now, period := secs s.cs.image.modemWarmUp } } := by
      rw [hfirm.uc_eq, modemKick_of_off (s := (ucHealth s).reported) (awake_of_active hactive) (by simpa [State.reported] using huplink)
        (by simpa [State.reported, hraised] using hmodem) (by simp [hraised, State.reported])]
      simp [State.reported, setModem, State.startTimer, State.now]
    refine ⟨finish (ucHealth s), congrArg Host.Outcome.next (if_pos hdue), ?_, ?_, ?_, ?_, ?_, hfirm.standing.trans hactive⟩
    · rw [hkick, hraised]; rfl
    · rw [hkick, hraised]
    · rw [hkick]
    · rw [hkick]
    · simp [State.outputs, hkick, Modem.power]
  · have hrests : (bump .healthDrops (s.setUc { s.uc with
        healthTimer := some { start := s.now, period := secs (3600 * s.cs.image.healthHours) } })).Rested :=
      ⟨hrest.settled, by exact hrest.modem, by exact hrest.osc, by exact hrest.bus, by exact hrest.link⟩
    refine (congrArg Host.Outcome.next (if_pos hdue)).trans ?_
    rw [ucHealth_of_low huplink hcls, finish_of_rested _ hrests]
  · have hfound : s.uc.queue.find? (fun a => a.turn == .retry && timerDue a.retryWait s.now) = some a := by
      rw [hqueue]
      simp [hturn, hwait, timerDue, hdue]
    have hput : (putAlert a { a with turn := .ready, retryWait := none } s).uc =
        { s.uc with queue := [{ a with turn := .ready, retryWait := none }] } := by
      simp [putAlert, setQueue, hqueue, sortBy, insertBy]
    have hfirm : (putAlert a { a with turn := .ready, retryWait := none } s).Firm := .inl (by simpa [State.Settled] using hset)
    obtain ⟨-, -, htb, -, -, -, -, -, hbm, -⟩ := hfirm.leaves
    refine ⟨finish (putAlert a { a with turn := .ready, retryWait := none } s), ?_, ?_, ?_, ?_, ?_⟩
    · show Host.Outcome.next (match s.uc.queue.find? (fun a => a.turn == .retry && timerDue a.retryWait s.now) with
        | some a => finish (putAlert a { a with turn := .ready, retryWait := none } s)
        | none => s) = _
      rw [hfound]
    · rw [hfirm.uc_eq, modemKick_of_warmUp (by simpa [State.reported, hput] using hmodem)]
      exact hput
    · simpa using htb
    · simpa using hbm
    · simpa using hfirm.standing
  · have hfirm : (modemNext s).Firm := .inl (by simpa [State.Settled] using hset)
    obtain ⟨-, -, htb, -, -, -, -, -, hbm, -⟩ := hfirm.leaves
    have hreported : (modemNext s).reported = modemNext s := reported_of_settled (by simpa [State.Settled] using hset)
    refine ⟨finish (modemNext s), next_ite_pos (by simp [hmodem, hdue]), ?_, ?_, ?_, ?_⟩
    · rw [hfirm.uc_eq, hreported, modemKick_of_rests _ (modemNext_rests hrdy), modemNext_of_low hrdy]
      rfl
    · simpa using htb
    · simpa using hbm
    · simpa using hfirm.standing
  · exact next_ite_pos (by simp [hmodem, hdue])
  · exact next_ite_pos (by simp [hmodem, hdue, hqueue])

end

/-! PROOFS. A channel at one sample; the hold timer and the overlong timer. -/
namespace Sys2Proof.Machine
set_option Elab.async false

section
variable {s t u : State}

/-! ## One sample through a channel (R91 to R96) -/

/-- A channel with the mean, the averages and the blanking count of one more sample (R91 to R93, R96, R97). -/
def Channel.averaged (cfg : ChanCfg) (overlong : Bool) (c : Channel) (x : Int) (ovl : Bool) : Channel :=
  let m0 := if c.init then c.m else 256 * x
  let s0 := if c.init then c.s else 0
  let l0 := if c.init then c.l else 0
  let m1 := if ovl then m0 else m0 + (x * 256 - m0) / 2 ^ cfg.h
  let d : Int := if ovl then 8388607 else x - m1 / 256
  let v : Int := if 0 < c.blank then l0 / 256 else min (d.natAbs : Int) 8388607
  { c with
    init := true
    m := m1
    s := s0 + (v * 256 - s0) / 2 ^ cfg.aS
    l := max (if c.state = .on ∧ overlong = false then l0 else l0 + (v * 256 - l0) / 2 ^ cfg.aL) (256 * (cfg.floor : Int))
    blank := c.blank - 1 }

theorem Channel.take_of_running {cfg : ChanCfg} {overlong : Bool} {c : Channel} {x : Int} {ovl : Bool} (h : c.state ≠ .stopped) :
    c.take cfg overlong x ovl = Channel.judge cfg (decide (0 < c.blank)) (c.averaged cfg overlong x ovl) := by
  unfold Channel.take Channel.averaged Channel.first offsetRemoval characteristic
  rw [if_neg (by simpa using h)]
  cases hinit : c.init <;> cases ovl <;> simp [hinit]

/-- The long average never falls below the floor. -/
theorem Channel.averaged_l_nonneg {cfg : ChanCfg} {overlong : Bool} {c : Channel} {x : Int} {ovl : Bool} :
    0 ≤ (c.averaged cfg overlong x ovl).l := le_max_of_le_right (by positivity)

/-- A SETTLING channel counts down (R96). -/
theorem Channel.judge_of_settling {cfg : ChanCfg} {held : Bool} {c : Channel} (h : c.state = .settling) :
    (Channel.judge cfg held c).1 =
      { c with settle := c.settle - 1, state := if c.settle ≤ 1 then .quiet else .settling } := by
  simp only [Channel.judge, h]

/-- A held channel keeps its standing (R92, R97). -/
theorem Channel.judge_of_held {cfg : ChanCfg} {c : Channel} (h : c.state ≠ .settling) : (Channel.judge cfg true c).1 = c := by
  unfold Channel.judge
  cases hc : c.state <;> simp_all

/-- A channel in QUIET or ON that is not held compares (R95). -/
theorem Channel.judge_of_compared {cfg : ChanCfg} {c : Channel} (h : c.state = .quiet ∨ c.state = .on) :
    (Channel.judge cfg false c).1 = c.compare cfg := by
  unfold Channel.judge
  rcases h with h | h <;> simp [h]

/-- What the comparison reads and sets (R95). -/
theorem Channel.compare_facts {cfg : ChanCfg} {c : Channel} (hl : 0 ≤ c.l) :
    ((c.compare cfg).state = .on ∨ (c.compare cfg).state = .quiet) ∧
    (c.state = .quiet → ((c.compare cfg).state = .on ↔ c.l * cfg.rOn ≤ c.s * 16)) ∧
    (c.state = .on → ((c.compare cfg).state = .on ↔ c.l * cfg.rOff ≤ c.s * 16)) ∧
    ((c.compare cfg).warm = true ↔ c.l * cfg.rQuiet ≤ c.s * 16) ∧
    ((c.compare cfg).state = .on → ((c.compare cfg).ratio : Int) = if c.l = 0 then 255 else min 255 (c.s * 16 / c.l)) ∧
    ((c.compare cfg).state = .quiet → (c.compare cfg).ratio = c.ratio) := by
  have hproduct (r : Nat) : 0 ≤ c.l * (r : Int) := mul_nonneg hl (Int.natCast_nonneg r)
  unfold Channel.compare
  generalize hon : (if c.state == .on then ! decide (c.s * 16 < c.l * cfg.rOff) else decide (c.l * cfg.rOn ≤ c.s * 16)) = on
  refine ⟨by cases on <;> simp, fun hq => ?_, fun ho => ?_, by simp, fun hy => ?_, fun hy => ?_⟩
  · cases on <;> simpa [hq] using hon
  · cases on <;> simpa [ho] using hon
  · cases on with
    | false => simp at hy
    | true =>
      have hratio : 0 ≤ c.s * 16 := by
        have hoff := hproduct cfg.rOff
        have hron := hproduct cfg.rOn
        split at hon
        · simp only [Bool.not_eq_true', decide_eq_false_iff_not, not_lt] at hon
          omega
        · have := of_decide_eq_true hon
          omega
      have hquotient : 0 ≤ c.s * 16 / c.l := Int.ediv_nonneg hratio hl
      simp only [if_true]
      split
      · rfl
      · exact Int.toNat_of_nonneg (le_min (by decide) hquotient)
  · cases on with
    | false => rfl
    | true => simp at hy

/-- The channel after one sample, case by case. -/
theorem Channel.take_facts {cfg : ChanCfg} {overlong : Bool} {c : Channel} {x : Int} {ovl : Bool} (h : c.state ≠ .stopped) :
    (let a := c.averaged cfg overlong x ovl
     let y := (c.take cfg overlong x ovl).1
     (y.init = true ∧ y.m = a.m ∧ y.s = a.s ∧ y.l = a.l ∧ y.blank = a.blank) ∧
     (c.state = .settling → y = { a with settle := c.settle - 1, state := if c.settle ≤ 1 then .quiet else .settling }) ∧
     (c.state ≠ .settling → 0 < c.blank → y = a) ∧
     (c.state ≠ .settling → ¬ 0 < c.blank → y = a.compare cfg)) := by
  dsimp only
  rw [Channel.take_of_running h]
  refine ⟨?_, fun hs => Channel.judge_of_settling hs, fun hs hb => ?_, fun hs hb => ?_⟩
  · unfold Channel.judge Channel.compare
    generalize ha : c.averaged cfg overlong x ovl = a
    have hinit : a.init = true := by rw [← ha]; rfl
    (repeat' split) <;> exact ⟨hinit, rfl, rfl, rfl, rfl⟩
  · rw [decide_eq_true hb]
    exact Channel.judge_of_held hs
  · rw [decide_eq_false hb]
    refine Channel.judge_of_compared ?_
    show c.state = .quiet ∨ c.state = .on
    cases hc : c.state <;> simp_all

end

end Sys2Proof.Machine

/-! PROOFS. What the work on events and alerts leaves as it is. -/
namespace Sys2Proof.Machine
set_option Elab.async false

/-- The counters that the work on events and alerts can raise (chapters 7 and 8, R108). -/
def Counter.byEvents : Counter → Bool
  | .acknowledgedAlerts | .adoptions | .conflictsLost | .conflictsWon | .declarations | .declarationsIgnored | .eventTableOverflow
  | .failedAlerts | .healthDrops | .healthEvictions | .holdoffsDissolved | .participantsLeftOut | .quorums | .restartsOnChange
  | .stacks | .staleEntries | .triggerTableOverflow | .withdrawalsInTransfer | .recoveredEntries | .unconfirmedTriggers => true
  | _ => false

/-- The state beside what the work on events and alerts moves: the Coincidence Unit, the Uplink Controller, the standing request,
the trim, the reports to the Mode Controller and the counters above. -/
def State.besideEvents (s : State) : State × (Counter → Nat) :=
  ({ s with
      td := { s.td with trim := 0, trimTimer := none }
      lc := { s.lc with slots := { s.lc.slots with declaration := none } }
      mc := { s.mc with evalDue := false, abandonDue := false }
      cu := Coincidence.reset
      uc := Uplink.reset
      counters := Vector.replicate 102 0 },
    fun c => if c.byEvents then 0 else s.count c)

section
variable {s t u : State}

/-! ## The single writes -/

@[simp] theorem setCu_besideEvents {x : Coincidence} : (s.setCu x).besideEvents = s.besideEvents := rfl
@[simp] theorem setUc_besideEvents {x : Uplink} : (s.setUc x).besideEvents = s.besideEvents := rfl
@[simp] theorem tellMode_besideEvents : (tellMode s).besideEvents = s.besideEvents := rfl
@[simp] theorem alarmMode_besideEvents : (alarmMode s).besideEvents = s.besideEvents := rfl
@[simp] theorem setEntries_besideEvents {xs : List Entry} : (setEntries xs s).besideEvents = s.besideEvents := rfl
@[simp] theorem setEvents_besideEvents {xs : List EventRec} : (setEvents xs s).besideEvents = s.besideEvents := rfl
@[simp] theorem updRec_besideEvents {k : Nat} {f : EventRec → EventRec} : (updRec k f s).besideEvents = s.besideEvents := rfl

theorem bump_besideEvents {c : Counter} (h : c.byEvents = true) : (bump c s).besideEvents = s.besideEvents := by
  refine Prod.ext rfl (funext fun d => ?_)
  show (if d.byEvents then 0 else (bump c s).count d) = if d.byEvents then 0 else s.count d
  split
  · rfl
  · next hd =>
    rw [count_bump, if_neg]
    rintro rfl
    exact hd h

theorem bumpIf_besideEvents {c : Counter} {b : Bool} (h : c.byEvents = true) : (bumpIf b c s).besideEvents = s.besideEvents := by
  unfold bumpIf
  split
  · exact bump_besideEvents h
  · rfl

@[simp] theorem requestDeclaration_besideEvents : (requestDeclaration s).besideEvents = s.besideEvents := by
  unfold requestDeclaration
  split <;> rfl

@[simp] theorem tdUnconfirmedIf_besideEvents {b : Bool} : (tdUnconfirmedIf b s).besideEvents = s.besideEvents := by
  unfold tdUnconfirmedIf tdUnconfirmed
  split
  · rw [bump_besideEvents rfl]; rfl
  · rfl

/-- A row of operations that each leave the rest leaves it. -/
theorem foldl_besideEvents {α : Type} {f : State → α → State} (h : ∀ v x, (f v x).besideEvents = v.besideEvents) (xs : List α) :
    (xs.foldl f s).besideEvents = s.besideEvents := by
  induction xs generalizing s with
  | nil => rfl
  | cons x xs ih => exact ih.trans (h s x)

/-! ## The Uplink Controller (chapter 8) -/

@[simp] theorem setQueue_besideEvents {q : List Alert} : (setQueue q s).besideEvents = s.besideEvents := by
  rfl

@[simp] theorem setStacked_besideEvents {x : List Stacked} : (setStacked x s).besideEvents = s.besideEvents := by
  rfl

@[simp] theorem setModem_besideEvents {mo : Modem} {ti : Option Timer} : (setModem mo ti s).besideEvents = s.besideEvents := by
  rfl

@[simp] theorem ucSync_besideEvents : (ucSync s).besideEvents = s.besideEvents := by
  simp [ucSync]

@[simp] theorem ucLeft_besideEvents {rid : Option Nat} {how : UplinkState} :
    (ucLeft rid how s).besideEvents = s.besideEvents := by
  simp only [ucLeft]
  (repeat' split) <;> simp

@[simp] theorem ucReportEmpty_besideEvents {be : State} : (ucReportEmpty be s).besideEvents = s.besideEvents := by
  simp only [ucReportEmpty]
  (repeat' split) <;> simp

@[simp] theorem ucInsert_besideEvents {kind : AlertKind} {rid : Option Nat} {id : Option EventId} {m : Nat} :
    (ucInsert kind rid id m s).besideEvents = s.besideEvents := by
  simp [ucInsert]

@[simp] theorem ucStack_besideEvents {kind : AlertKind} {k : Nat} {id : Option EventId} {m : Nat} :
    (ucStack kind k id m s).besideEvents = s.besideEvents := by
  simp only [ucStack]
  (repeat' split) <;> simp [bump_besideEvents (c := .stacks) rfl]

@[simp] theorem ucPlaceHealth_besideEvents : (ucPlaceHealth s).besideEvents = s.besideEvents := by
  simp only [ucPlaceHealth]
  (repeat' split) <;> simp [bump_besideEvents (c := .healthDrops) rfl]

@[simp] theorem ucRaiseHealth_besideEvents : (ucRaiseHealth s).besideEvents = s.besideEvents := by
  simp only [ucRaiseHealth]
  (repeat' split) <;> simp [bump_besideEvents (c := .healthDrops) rfl]

@[simp] theorem ucHealthLeft_besideEvents {kind : AlertKind} : (ucHealthLeft kind s).besideEvents = s.besideEvents := by
  simp only [ucHealthLeft]
  (repeat' split) <;> simp

@[simp] theorem ucEvictHealth_besideEvents : (ucEvictHealth s).besideEvents = s.besideEvents := by
  simp [ucEvictHealth, bump_besideEvents (c := .healthEvictions) rfl]

@[simp] theorem ucPlace_besideEvents {kind : AlertKind} {k : Nat} {id : Option EventId} {m : Nat} :
    (ucPlace kind k id m s).besideEvents = s.besideEvents := by
  simp only [ucPlace]
  (repeat' split) <;> simp

@[simp] theorem ucRaiseRetract_besideEvents {k : Nat} {id : Option EventId} :
    (ucRaiseRetract k id s).besideEvents = s.besideEvents := by
  simp only [ucRaiseRetract]
  (repeat' split) <;> simp

@[simp] theorem ucRaiseReport_besideEvents {kind : AlertKind} {k : Nat} :
    (ucRaiseReport kind k s).besideEvents = s.besideEvents := by
  simp only [ucRaiseReport]
  (repeat' split) <;> simp

@[simp] theorem ucPromoteOne_besideEvents : (ucPromoteOne s).besideEvents = s.besideEvents := by
  simp only [ucPromoteOne]
  (repeat' split) <;> simp

@[simp] theorem ucPromote_besideEvents : (ucPromote s).besideEvents = s.besideEvents := by
  exact foldl_besideEvents (fun _ _ => ucPromoteOne_besideEvents) _

@[simp] theorem ucLeave_besideEvents {a : Alert} {how : UplinkState} : (ucLeave a how s).besideEvents = s.besideEvents := by
  simp [ucLeave]

@[simp] theorem ucNewEvent_besideEvents {k : Nat} : (ucNewEvent k s).besideEvents = s.besideEvents := by
  simp only [ucNewEvent]
  (repeat' split) <;> simp

@[simp] theorem ucUpdate_besideEvents {k : Nat} : (ucUpdate k s).besideEvents = s.besideEvents := by
  simp only [ucUpdate]
  (repeat' split) <;> simp

@[simp] theorem ucRetractWithdrawn_besideEvents {k : Nat} : (ucRetractWithdrawn k s).besideEvents = s.besideEvents := by
  simp only [ucRetractWithdrawn]
  (repeat' split) <;> simp

@[simp] theorem ucWithdraw_besideEvents {k : Nat} : (ucWithdraw k s).besideEvents = s.besideEvents := by
  simp only [ucWithdraw]
  (repeat' split) <;> simp

@[simp] theorem ucChangeId_besideEvents {k : Nat} {id : Option EventId} : (ucChangeId k id s).besideEvents = s.besideEvents := by
  simp only [ucChangeId]
  (repeat' split) <;> simp

@[simp] theorem ucStart_besideEvents : (ucStart s).besideEvents = s.besideEvents := by
  simp only [ucStart]
  (repeat' split) <;> simp

@[simp] theorem enterReadyWait_besideEvents : (enterReadyWait s).besideEvents = s.besideEvents := by
  simp only [enterReadyWait]
  (repeat' split) <;> simp

@[simp] theorem enterIdle_besideEvents : (enterIdle s).besideEvents = s.besideEvents := by
  simp only [enterIdle]
  (repeat' split) <;> simp

@[simp] theorem modemNext_besideEvents : (modemNext s).besideEvents = s.besideEvents := by
  simp only [modemNext]
  (repeat' split) <;> simp

@[simp] theorem modemKick_besideEvents : (modemKick s).besideEvents = s.besideEvents := by
  simp only [modemKick]
  (repeat' split) <;> simp

@[simp] theorem retractFormer_besideEvents {a : Alert} : (retractFormer a s).besideEvents = s.besideEvents := by
  simp only [retractFormer]
  (repeat' split) <;> simp

@[simp] theorem putAlert_besideEvents {a : Alert} {b : Alert} : (putAlert a b s).besideEvents = s.besideEvents := by
  simp [putAlert]

@[simp] theorem failAttempt_besideEvents {a : Alert} : (failAttempt a s).besideEvents = s.besideEvents := by
  simp only [failAttempt]
  (repeat' split) <;> simp [bump_besideEvents (c := .failedAlerts) rfl]

@[simp] theorem returnAlert_besideEvents {a : Alert} : (returnAlert a s).besideEvents = s.besideEvents := by
  simp [returnAlert]

@[simp] theorem leaveWithdrawn_besideEvents {a : Alert} : (leaveWithdrawn a s).besideEvents = s.besideEvents := by
  simp only [leaveWithdrawn]
  (repeat' split) <;> simp

@[simp] theorem endCut_besideEvents {c : Cut} {a : Alert} : (endCut c a s).besideEvents = s.besideEvents := by
  simp only [endCut]
  (repeat' split) <;> simp [bump_besideEvents (c := .withdrawalsInTransfer) rfl, bump_besideEvents (c := .restartsOnChange) rfl]

@[simp] theorem nakAlert_besideEvents {a : Alert} : (nakAlert a s).besideEvents = s.besideEvents := by
  simp only [nakAlert]
  (repeat' split) <;> simp

@[simp] theorem endAwaiting_besideEvents : (endAwaiting s).besideEvents = s.besideEvents := by
  simp [endAwaiting]

@[simp] theorem healthTimerStart_besideEvents : (healthTimerStart s).besideEvents = s.besideEvents := by
  simp only [healthTimerStart]
  (repeat' split) <;> simp

@[simp] theorem ucHealth_besideEvents : (ucHealth s).besideEvents = s.besideEvents := by
  simp [ucHealth]

/-! ## The Coincidence Unit (chapter 7) -/

@[simp] theorem cuReport_besideEvents : (cuReport s).besideEvents = s.besideEvents := by
  simp [cuReport]

@[simp] theorem cuReportOpen_besideEvents : (cuReportOpen s).besideEvents = s.besideEvents := by
  simp [cuReportOpen]

@[simp] theorem cuRequest_besideEvents : (cuRequest s).besideEvents = s.besideEvents := by
  simp only [cuRequest]
  (repeat' split) <;> simp

@[simp] theorem mergePart_besideEvents {k : Nat} {st : Nat} {on : StationTime} {pk : Nat} :
    (mergePart k st on pk s).besideEvents = s.besideEvents := by
  simp only [mergePart]
  (repeat' split) <;> simp [bump_besideEvents (c := .participantsLeftOut) rfl]

@[simp] theorem mergeDecl_besideEvents {k : Nat} {d : DeclBody} : (mergeDecl k d s).besideEvents = s.besideEvents := by
  exact foldl_besideEvents (fun _ _ => mergePart_besideEvents) _

@[simp] theorem oweUpdate_besideEvents {k : Nat} : (oweUpdate k s).besideEvents = s.besideEvents := by
  simp only [oweUpdate]
  (repeat' split) <;> simp

@[simp] theorem joinRecord_besideEvents {r : EventRec} {f : Fit} {e : Entry} :
    (joinRecord r f e s).besideEvents = s.besideEvents := by
  simp only [joinRecord]
  (repeat' split) <;> simp

@[simp] theorem offerOne_besideEvents {al : EventRec → Bool} {e : Entry} : (offerOne al s e).besideEvents = s.besideEvents := by
  simp only [offerOne]
  (repeat' split) <;> simp

@[simp] theorem offerEach_besideEvents {al : EventRec → Bool} {es : List Entry} :
    (offerEach al es s).besideEvents = s.besideEvents := by
  exact foldl_besideEvents (fun _ _ => offerOne_besideEvents) _

@[simp] theorem retentionSweep_besideEvents : (retentionSweep s).besideEvents = s.besideEvents := by
  exact (foldl_besideEvents (fun _ _ => tdUnconfirmedIf_besideEvents) _).trans setEntries_besideEvents

@[simp] theorem removeRec_besideEvents {k : Nat} : (removeRec k s).besideEvents = s.besideEvents := by
  simp [removeRec]

@[simp] theorem freeEntries_besideEvents {k : Nat} : (freeEntries k s).besideEvents = s.besideEvents := by
  simp [freeEntries]

@[simp] theorem insertRec_besideEvents {r : EventRec} : (insertRec r s).besideEvents = s.besideEvents := by
  simp [insertRec]

@[simp] theorem lingerSweep_besideEvents : (lingerSweep s).besideEvents = s.besideEvents := by
  exact foldl_besideEvents (fun _ _ => removeRec_besideEvents) _

@[simp] theorem confirmEntries_besideEvents {k : Nat} : (confirmEntries k s).besideEvents = s.besideEvents := by
  simp [confirmEntries]

@[simp] theorem declareRec_besideEvents {k : Nat} : (declareRec k s).besideEvents = s.besideEvents := by
  simp [declareRec, bump_besideEvents (c := .declarations) rfl]

@[simp] theorem holdoffExpire_besideEvents {k : Nat} : (holdoffExpire k s).besideEvents = s.besideEvents := by
  simp only [holdoffExpire]
  (repeat' split) <;> simp [bump_besideEvents (c := .holdoffsDissolved) rfl]

theorem makePlace_besideEvents {keep : Option Nat} (h : makePlace keep s = some t) : t.besideEvents = s.besideEvents := by
  simp only [makePlace] at h
  (repeat' split at h) <;> simp at h <;> subst h <;> simp

@[simp] theorem evalQuorum_besideEvents : (evalQuorum s).besideEvents = s.besideEvents := by
  simp only [evalQuorum]
  split
  · rfl
  · split
    · rfl
    · split
      · simp [bump_besideEvents (c := .quorums) rfl, bump_besideEvents (c := .eventTableOverflow) rfl]
      · next hplace =>
        have hfold {k : Nat} {xs : List Entry} {v : State} :
            (xs.foldl (fun s x => mergePart k x.station x.onset x.peak s) v).besideEvents = v.besideEvents :=
          foldl_besideEvents (fun _ _ => mergePart_besideEvents) _
        split <;> simp [hfold, makePlace_besideEvents hplace, bump_besideEvents (c := .quorums) rfl]

@[simp] theorem evict_besideEvents {e : Entry} : (evict e s).besideEvents = s.besideEvents := by
  simp only [evict]
  (repeat' split) <;> simp [bump_besideEvents (c := .triggerTableOverflow) rfl]

@[simp] theorem evictFor_besideEvents {v : Option Entry} : (evictFor v s).besideEvents = s.besideEvents := by
  simp only [evictFor]
  (repeat' split) <;> simp

@[simp] theorem placeEntry_besideEvents {e : Entry} : (placeEntry e s).besideEvents = s.besideEvents := by
  simp only [placeEntry]
  (repeat' split) <;> simp [bump_besideEvents (c := .triggerTableOverflow) rfl]

@[simp] theorem renewEnd_besideEvents {p : EventRec → Bool} : (renewEnd p s).besideEvents = s.besideEvents := by
  simp [renewEnd]

@[simp] theorem mergeEntry_besideEvents {e : Entry} {y : Entry} : (mergeEntry e y s).besideEvents = s.besideEvents := by
  simp only [mergeEntry]
  (repeat' split) <;> simp

@[simp] theorem admitOnset_besideEvents {e : Entry} : (admitOnset e s).besideEvents = s.besideEvents := by
  simp only [admitOnset]
  (repeat' split) <;> simp [bump_besideEvents (c := .staleEntries) rfl]

@[simp] theorem closeWhere_besideEvents {p : EventRec → Bool} : (closeWhere p s).besideEvents = s.besideEvents := by
  simp only [closeWhere]
  (repeat' split) <;> simp

@[simp] theorem closeTest_besideEvents {p : EventRec → Bool} : (closeTest p s).besideEvents = s.besideEvents := by
  simp [closeTest]

@[simp] theorem cuOwnOnset_besideEvents {on : StationTime} {m : Nat} {pk : Nat} :
    (cuOwnOnset on m pk s).besideEvents = s.besideEvents := by
  simp [cuOwnOnset]

@[simp] theorem cuOwnEnd_besideEvents {on : StationTime} {o2 : StationTime} {m : Nat} {pk : Nat} :
    (cuOwnEnd on o2 m pk s).besideEvents = s.besideEvents := by
  simp only [cuOwnEnd]
  (repeat' split) <;> simp

@[simp] theorem cuNotice_besideEvents {st : Nat} {n : Notice} : (cuNotice st n s).besideEvents = s.besideEvents := by
  simp only [cuNotice]
  (repeat' split) <;> simp

@[simp] theorem cuBeacon_besideEvents {st : Nat} {bb : BeaconBody} {en : Bool} :
    (cuBeacon st bb en s).besideEvents = s.besideEvents := by
  simp only [cuBeacon]
  (repeat' split) <;> simp [bumpIf_besideEvents (c := .recoveredEntries) rfl]

@[simp] theorem cuPeerRemoved_besideEvents {k : Nat} : (cuPeerRemoved k s).besideEvents = s.besideEvents := by
  simp [cuPeerRemoved]

@[simp] theorem offerTo_besideEvents {k : Nat} : (offerTo k s).besideEvents = s.besideEvents := by
  simp [offerTo]

@[simp] theorem declUpdate_besideEvents {r : EventRec} {d : DeclBody} : (declUpdate r d s).besideEvents = s.besideEvents := by
  simp only [declUpdate]
  (repeat' split) <;> simp

@[simp] theorem declAdoptHoldoff_besideEvents {r : EventRec} {d : DeclBody} :
    (declAdoptHoldoff r d s).besideEvents = s.besideEvents := by
  simp [declAdoptHoldoff, bump_besideEvents (c := .adoptions) rfl]

@[simp] theorem declAdoptNew_besideEvents {d : DeclBody} : (declAdoptNew d s).besideEvents = s.besideEvents := by
  simp only [declAdoptNew]
  split
  · simp [bump_besideEvents (c := .eventTableOverflow) rfl]
  · next hplace => simp [makePlace_besideEvents hplace, bump_besideEvents (c := .adoptions) rfl]

@[simp] theorem conflictLost_besideEvents {r : EventRec} {d : DeclBody} : (conflictLost r d s).besideEvents = s.besideEvents := by
  have hfold {k : Nat} {xs : List Part} {v : State} :
      (xs.foldl (fun s p => mergePart k p.station p.onset p.peak s) v).besideEvents = v.besideEvents :=
    foldl_besideEvents (fun _ _ => mergePart_besideEvents) _
  simp only [conflictLost]
  rw [bump_besideEvents rfl, ucPromote_besideEvents]
  split
  · simp [bump_besideEvents (c := .eventTableOverflow) rfl]
  · next hplace => simp [hfold, makePlace_besideEvents hplace]

@[simp] theorem conflictWon_besideEvents {r : EventRec} {d : DeclBody} : (conflictWon r d s).besideEvents = s.besideEvents := by
  simp [conflictWon, bump_besideEvents (c := .conflictsWon) rfl]

@[simp] theorem conflictAdopted_besideEvents {r : EventRec} {d : DeclBody} :
    (conflictAdopted r d s).besideEvents = s.besideEvents := by
  simp only [conflictAdopted]
  (repeat' split) <;> simp

@[simp] theorem declAgainst_besideEvents {d : DeclBody} : (declAgainst d s).besideEvents = s.besideEvents := by
  simp only [declAgainst]
  (repeat' split) <;> simp [bump_besideEvents (c := .declarationsIgnored) rfl]

@[simp] theorem cuDeclaration_besideEvents {st : Nat} {d : DeclBody} : (cuDeclaration st d s).besideEvents = s.besideEvents := by
  simp only [cuDeclaration]
  (repeat' split) <;> simp [bump_besideEvents (c := .declarationsIgnored) rfl]

@[simp] theorem cuDeclarationSent_besideEvents {k : Nat} {m : Nat} : (cuDeclarationSent k m s).besideEvents = s.besideEvents := by
  simp [cuDeclarationSent]

@[simp] theorem cuStep_besideEvents : (cuStep s).besideEvents = s.besideEvents := by
  simp [cuStep]

@[simp] theorem cuClear_besideEvents : (cuClear s).besideEvents = s.besideEvents := by
  simp [cuClear]

@[simp] theorem cuShelter_besideEvents : (cuShelter s).besideEvents = s.besideEvents := by
  simp only [cuShelter]
  (repeat' split) <;> simp

/-! ## What the same rest says -/

theorem td_of_besideEvents (h : t.besideEvents = s.besideEvents) :
    t.td = { s.td with trim := t.td.trim, trimTimer := t.td.trimTimer } := by
  have htd : ({ t.td with trim := 0, trimTimer := none } : Trigger) = { s.td with trim := 0, trimTimer := none } :=
    congrArg (fun x : State × (Counter → Nat) => x.1.td) h
  cases hs : s.td
  cases ht : t.td
  simp_all

theorem lc_of_besideEvents (h : t.besideEvents = s.besideEvents) :
    t.lc = { s.lc with slots := { s.lc.slots with declaration := t.lc.slots.declaration } } := by
  have hlc : ({ t.lc with slots := { t.lc.slots with declaration := none } } : Link) =
      { s.lc with slots := { s.lc.slots with declaration := none } } := congrArg (fun x : State × (Counter → Nat) => x.1.lc) h
  cases hs : s.lc with
  | _ => cases ht : t.lc with
    | _ => cases hss : s.lc.slots; cases hts : t.lc.slots; simp_all

theorem mc_of_besideEvents (h : t.besideEvents = s.besideEvents) :
    t.mc = { s.mc with evalDue := t.mc.evalDue, abandonDue := t.mc.abandonDue } := by
  have hmc : ({ t.mc with evalDue := false, abandonDue := false } : ModeCtl) =
      { s.mc with evalDue := false, abandonDue := false } := congrArg (fun x : State × (Counter → Nat) => x.1.mc) h
  cases hs : s.mc
  cases ht : t.mc
  simp_all

theorem count_of_besideEvents (h : t.besideEvents = s.besideEvents) {c : Counter} (hc : c.byEvents = false) :
    t.count c = s.count c := by
  have hcount := congrFun (congrArg Prod.snd h) c
  simpa [State.besideEvents, hc] using hcount

theorem rest_of_besideEvents (h : t.besideEvents = s.besideEvents) :
    t.pending = s.pending ∧ t.pins = s.pins ∧ t.tb = s.tb ∧ t.rmu = s.rmu ∧ t.peers = s.peers ∧ t.tau = s.tau ∧ t.si = s.si ∧
    t.bm = s.bm ∧ t.hc = s.hc ∧ t.twm = s.twm ∧ t.cs = s.cs ∧ t.freeDrawn = s.freeDrawn := by
  have hrest {α : Type} (f : State → α) : f t.besideEvents.1 = f s.besideEvents.1 := congrArg (fun x => f x.1) h
  exact ⟨hrest State.pending, hrest State.pins, hrest State.tb, hrest State.rmu, hrest State.peers, hrest State.tau, hrest State.si,
    hrest State.bm, hrest State.hc, hrest State.twm, hrest State.cs, hrest State.freeDrawn⟩

/-- A steady station stays firm through the work on events and alerts. -/
theorem State.Steady.firm_of_besideEvents (hs : s.Steady) (h : t.besideEvents = s.besideEvents) : t.Firm := by
  obtain ⟨-, -, -, -, -, -, -, hbm, -⟩ := rest_of_besideEvents h
  refine .inr ⟨?_, by rw [hbm]; exact hs.good⟩
  rw [mc_of_besideEvents h]
  exact hs.active

end

end Sys2Proof.Machine

/-! PROOFS. The hold timer and the overlong timer of a trigger. -/
namespace Sys2Proof.Machine
set_option Elab.async false

section
variable {s t u : State}

theorem lcTakes_of_active (ha : s.mc.standing = .active) (hl : s.listenOnly = false) : s.lcTakes = true := by
  simp [State.lcTakes, awake_of_active ha, hl]

/-- An END notice is requested (R102, R103). -/
theorem requestEnd_of_takes {onset : StationTime} {mask peak duration : Nat} (h : s.lcTakes = true) :
    (requestEnd onset mask peak duration s).lc.slots.notice = some { moment := s.now, notice :=
      { kind := .finish, onset := onset, mask := mask, peak := peak, duration := duration } } ∧
    (requestEnd onset mask peak duration s).td = { s.td with
      outstanding := if (s.td.outstanding.isSome && s.lc.slots.notice.any (fun r => r.notice.kind == .onset)) = true then none
        else s.td.outstanding } ∧
    (s.td.outstanding.isSome = true → s.lc.slots.notice.any (fun r => r.notice.kind == .onset) = true →
      (requestEnd onset mask peak duration s).count .onsetNoticesReplaced = min (s.count .onsetNoticesReplaced + 1) 65535) := by
  unfold requestEnd requestNotice
  rw [h]
  simp only [if_true, Bool.true_and]
  refine ⟨?_, ?_, fun hout hany => ?_⟩
  · split <;> rfl
  · split <;> rfl
  · rw [hout, hany]
    simp only [Bool.and_self, if_true]
    rw [count_bump, if_pos rfl]
    rfl

/-- The state behind the expiry of the hold timer, before the reports (R102). -/
def State.released (s : State) : State := s.setTd { s.td with state := .off, endAt := none, holdTimer := none }

theorem tdOff_of_void (h : s.td.void = true) : tdOff s = s.released := by
  unfold tdOff tdEndReports
  rw [show (s.setTd { s.td with state := .off, endAt := none, holdTimer := none }).td.void = true from h]
  rfl

theorem tdOff_of_trigger {o e : StationTime} (h : s.td.void = false) (honset : s.td.onset = some o) (hend : s.td.endAt = some e) :
    tdOff s = requestEnd o (s.td.mask.getD 0) s.td.peak (tenths (e - o))
      (cuOwnEnd o e (s.td.mask.getD 0) s.td.peak s.released) := by
  unfold tdOff tdEndReports
  rw [show (s.setTd { s.td with state := .off, endAt := none, holdTimer := none }).td.void = false from h,
    show (s.setTd { s.td with state := .off, endAt := none, holdTimer := none }).td.onset = some o from honset, hend]
  rfl

end

end Sys2Proof.Machine

section
open Sys2Proof Sys2Proof.Machine
set_option Elab.async false

/-- Settles O47. -/
theorem triggerTimersEndTheTrigger : Obligations.TriggerTimersEndTheTrigger := by
  unfold Obligations.TriggerTimersEndTheTrigger
  refine ⟨fun cfg overlong c x ovl hc => ?_, fun s o e hsteady hhold hdue honset hend hcd hrdy hlisten hle => ?_, fun s hon hdue => ?_⟩
  · obtain ⟨⟨hinit, hm, hs, hl, hblank⟩, hsettling, hheld, hcompared⟩ :=
      Channel.take_facts (cfg := cfg) (overlong := overlong) (c := c) (x := x) (ovl := ovl) hc
    refine ⟨hinit, hm, hs, hl, hblank, fun hset => ?_, fun hset => ⟨?_, fun hb => ?_, fun hb => ?_⟩⟩
    · rw [hsettling hset]
      exact ⟨rfl, rfl, rfl, rfl⟩
    · by_cases hb : 0 < c.blank
      · rw [hheld hset hb]; rfl
      · rw [hcompared hset hb]; rfl
    · rw [hheld hset hb]
      exact ⟨rfl, rfl, rfl⟩
    · rw [hcompared hset hb]
      exact Channel.compare_facts (c := c.averaged cfg overlong x ovl) Channel.averaged_l_nonneg
  · have hstanding : (tdHoldExpiry s).mc.standing = .active :=
      (tdHoldExpiry_keeps (.refl 24 .still s)).standing.trans hsteady.active
    have hleaves : (tdHoldExpiry s).bm = s.bm ∧ (tdHoldExpiry s).pins = s.pins := by simp [tdHoldExpiry]
    have hfirm : (tdHoldExpiry s).Firm := .inr ⟨hstanding, by rw [hleaves.1]; exact hsteady.good⟩
    have hslots := hfirm.slots_of_busy (by rw [hleaves.2]; exact hcd)
    have hcu := hfirm.cu (by rw [hleaves.2]; exact hcd) (.inl (by rw [hleaves.2]; exact hrdy))
    obtain ⟨-, -, -, -, -, -, -, htd, -⟩ := hfirm.leaves
    have hreport : (tdHoldExpiry s).td = (tdOff s).td ∧ (tdHoldExpiry s).lc = (tdOff s).lc ∧ (tdHoldExpiry s).cu = (tdOff s).cu ∧
        (tdHoldExpiry s).counters = (tdOff s).counters := by simp [tdHoldExpiry]
    obtain ⟨hrtd, hrlc, hrcu, hrcount⟩ := hreport
    have hexec : exec .holdTimerExpiry s = .next (finish (tdHoldExpiry s)) := next_ite_pos (by simp [hhold, hdue])
    refine ⟨finish (tdHoldExpiry s), hexec, ?_⟩
    rw [htd, hrtd, hslots, hrlc, hcu, hrcu]
    cases hvoid : s.td.void with
    | true =>
      rw [tdOff_of_void hvoid]
      exact ⟨rfl, rfl, rfl, honset, rfl, fun h => by simp at h, fun _ => ⟨rfl, rfl⟩⟩
    | false =>
      generalize hv : cuOwnEnd o e (s.td.mask.getD 0) s.td.peak s.released = v
      have hbeside : v.besideEvents = s.released.besideEvents := by rw [← hv, cuOwnEnd_besideEvents]
      have hvtd := td_of_besideEvents hbeside
      have hvlc := lc_of_besideEvents hbeside
      have hvmc := mc_of_besideEvents hbeside
      obtain ⟨-, -, hvtb, -, -, -, -, -, -, -, hvcs, -⟩ := rest_of_besideEvents hbeside
      have hnotice : v.lc.slots.notice = s.lc.slots.notice := by rw [hvlc]; rfl
      have houtstanding : v.td.outstanding = s.td.outstanding := by rw [hvtd]; rfl
      have htakes : v.lcTakes = true := by
        refine lcTakes_of_active (by rw [hvmc]; exact hsteady.active) ?_
        unfold State.listenOnly State.ownId at hlisten ⊢
        rw [hvcs]
        exact hlisten
      obtain ⟨hn, hrequest, hreplaced⟩ := requestEnd_of_takes (onset := o) (mask := s.td.mask.getD 0) (peak := s.td.peak)
        (duration := tenths (e - o)) htakes
      rw [tdOff_of_trigger hvoid honset hend, hv, hrequest]
      have hfields : v.td.state = .off ∧ v.td.holdTimer = none ∧ v.td.endAt = none ∧ v.td.onset = some o ∧
          v.td.lastOnset = s.td.lastOnset := by
        rw [hvtd]
        exact ⟨rfl, rfl, rfl, honset, rfl⟩
      obtain ⟨hstate, htimer, hendAt, hon, hlast⟩ := hfields
      refine ⟨hstate, htimer, hendAt, hon, hlast, fun _ => ⟨?_, fun q hout hq hkind => ⟨?_, ?_⟩⟩, fun h => by simp at h⟩
      · rw [hn]
        have hnow : v.now = s.now := congrArg Timebase.elapsed hvtb
        rw [hnow]
        rfl
      · rw [houtstanding, hnotice, hq, hout]
        simp [hkind]
      · rw [hfirm.count]
        have hcount : (tdHoldExpiry s).count .onsetNoticesReplaced = (tdOff s).count .onsetNoticesReplaced := by
          unfold State.count
          rw [hrcount]
        rw [hcount, tdOff_of_trigger hvoid honset hend, hv, hreplaced (by rw [houtstanding]; exact hout)
          (by rw [hnotice, hq]; simp [hkind]), count_of_besideEvents hbeside rfl]
        rfl
  · exact next_ite_pos (by simp [hon, hdue])

end

/-! PROOFS. Closure and linger of event records. -/
namespace Sys2Proof.Machine
set_option Elab.async false

section
variable {s t u : State}

/-! ## Closure (R136, R137) -/

/-- A closure rewrites the records that meet the test, whether one does or none. -/
theorem closeWhere_cu {p : EventRec → Bool} :
    (closeWhere p s).cu = { s.cu with events := s.cu.events.map (fun r => if p r then r.close s.now else r) } := by
  unfold closeWhere
  split
  · rfl
  · next hnone =>
    have hmap : s.cu.events.map (fun r => if p r then r.close s.now else r) = s.cu.events := by
      refine (List.map_congr_left fun r hr => ?_).trans (List.map_id _)
      rw [if_neg fun h => hnone (List.any_eq_true.mpr ⟨r, hr, h⟩)]
      rfl
    rw [hmap]

theorem standsOff_eq {st : Nat} :
    s.standsOff st = !((s.peer st).any (fun x => x.trig == some .on || x.trig == some .hold)) := by
  unfold State.standsOff
  cases s.peer st <;> rfl

/-- The end of a step behind an operation on events alone, on a busy medium with UP_RDY low. -/
theorem State.Steady.finish_of_events (hs : s.Steady) (h : t.besideEvents = s.besideEvents) (hcd : s.pins.lkCd = true)
    (hno : s.NoTransfer) :
    (finish t).cu = t.cu ∧ (finish t).mc.standing = .active ∧ (finish t).tb = s.tb ∧ (finish t).td = t.td ∧
    (finish t).peers = s.peers ∧ (finish t).bm = s.bm := by
  have hfirm := hs.firm_of_besideEvents h
  obtain ⟨-, hpins, htb, -, hpeers, -, -, hbm, -, -, hcs, -⟩ := rest_of_besideEvents h
  have hmc := mc_of_besideEvents h
  obtain ⟨-, -, hftb, -, hfpeers, -, -, hftd, hfbm, -⟩ := hfirm.leaves
  refine ⟨hfirm.cu (by rw [hpins]; exact hcd) (by unfold State.NoTransfer at hno ⊢; rw [hpins, hcs]; exact hno),
    hfirm.standing.trans (by rw [hmc]; exact hs.active), hftb.trans htb, hftd, hfpeers.trans hpeers, hfbm.trans hbm⟩

/-! ## Linger (R124, R120) -/

theorem removeRec_cu {k : Nat} : (removeRec k s).cu =
    { s.cu with events := s.cu.events.filter (fun r => r.rid != k), entries := s.cu.entries.filter (fun e => e.bound != some k) } := by
  simp [removeRec, cuReport]

/-- What a row of removals keeps. -/
theorem mem_removeEach (xs : List EventRec) :
    (∀ r, r ∈ (xs.foldl (fun s x => removeRec x.rid s) s).cu.events ↔ r ∈ s.cu.events ∧ ∀ x ∈ xs, r.rid ≠ x.rid) ∧
    (∀ e, e ∈ (xs.foldl (fun s x => removeRec x.rid s) s).cu.entries ↔ e ∈ s.cu.entries ∧ ∀ x ∈ xs, e.bound ≠ some x.rid) := by
  induction xs generalizing s with
  | nil => simp
  | cons x xs ih =>
    obtain ⟨hevents, hentries⟩ := ih (s := removeRec x.rid s)
    refine ⟨fun r => ?_, fun e => ?_⟩
    · simp [hevents, removeRec_cu, and_assoc]
    · simp [hentries, removeRec_cu, and_assoc]

/-- A record whose linger has passed and that is removable (R124). -/
theorem lingered_iff {r : EventRec} : s.lingered r = true ↔ (r.state = .closed ∨ r.state = .merged) ∧
    (r.uplink = .none ∨ r.uplink = .sent ∨ r.uplink = .withdrawn ∨ r.uplink = .failed) ∧
    ∃ m, r.finished = some m ∧ secs s.cs.image.wc + secs 30 ≤ since s.now m := by
  have hdone : r.uplink.done = true ↔ r.uplink = .none ∨ r.uplink = .sent ∨ r.uplink = .withdrawn ∨ r.uplink = .failed := by
    cases r.uplink <;> simp [UplinkState.done]
  have hpast : r.finished.any (fun t => s.window + secs 30 ≤ since s.now t) = true ↔
      ∃ m, r.finished = some m ∧ secs s.cs.image.wc + secs 30 ≤ since s.now m := by
    unfold State.window
    cases r.finished with
    | none => simp
    | some m =>
      rw [Option.any_some]
      exact decide_eq_true_iff.trans ⟨fun h => ⟨m, rfl, h⟩, fun ⟨_, hm, h⟩ => Option.some.inj hm ▸ h⟩
  rw [← hdone, ← hpast]
  unfold State.lingered EventRec.removable
  cases hstate : r.state <;> simp

end

end Sys2Proof.Machine

section
open Sys2Proof Sys2Proof.Machine
set_option Elab.async false

/-- Settles O50. -/
theorem closureAndLingerEndTheRecords : Obligations.ClosureAndLingerEndTheRecords := by
  unfold Obligations.ClosureAndLingerEndTheRecords
  refine ⟨fun s hsteady hcd hrdy => ⟨?_, ?_⟩, fun s hsteady hcd hrdy hnodup => ?_⟩
  · obtain ⟨hcu, hstanding, htb, htd, hpeers, hbm⟩ :=
      hsteady.finish_of_events (t := closeTest (fun _ => true) s) closeTest_besideEvents hcd (.inl hrdy)
    refine ⟨finish (closeTest (fun _ => true) s), rfl, ?_, hstanding, htb, htd.trans (by simp), hpeers, hbm⟩
    rw [hcu]
    unfold closeTest
    rw [closeWhere_cu]
    simp only [Bool.true_and, State.mayClose, standsOff_eq, EventRec.close, Trigger.active, beq_iff_eq]
  · obtain ⟨hcu, hstanding, htb, htd, hpeers, hbm⟩ :=
      hsteady.finish_of_events (t := closeWhere s.lifeOver s) closeWhere_besideEvents hcd (.inl hrdy)
    refine ⟨finish (closeWhere s.lifeOver s), rfl, ?_, hstanding, htb, htd.trans (by simp), hpeers, hbm⟩
    rw [hcu, closeWhere_cu]
    rfl
  · obtain ⟨hcu, hstanding, htb, htd, hpeers, hbm⟩ :=
      hsteady.finish_of_events (t := lingerSweep s) lingerSweep_besideEvents hcd (.inl hrdy)
    obtain ⟨hevents, hentries⟩ := mem_removeEach (s := s) (s.cu.events.filter s.lingered)
    refine ⟨finish (lingerSweep s), rfl, ⟨fun r => ?_, fun e => ?_⟩, hstanding, htb, htd.trans (by simp), hpeers, hbm⟩
    · show r ∈ (finish (lingerSweep s)).cu.events ↔ r ∈ s.cu.events ∧ ¬ (_ ∧ _ ∧ _)
      rw [hcu, ← lingered_iff]
      refine (hevents r).trans (and_congr_right fun hr => ⟨fun h hgone => h r (by simp [hr, hgone]) rfl, fun h x hx heq => ?_⟩)
      obtain ⟨hxmem, hxgone⟩ := List.mem_filter.mp hx
      exact h (List.inj_on_of_nodup_map hnodup hr hxmem heq ▸ hxgone)
    · rw [hcu]
      refine (hentries e).trans (and_congr_right fun _ => ?_)
      simp only [← lingered_iff]
      constructor
      · rintro h ⟨r, hr, hgone, hbound⟩
        exact h r (by simp [hr, hgone]) hbound
      · intro h x hx hbound
        obtain ⟨hxmem, hxgone⟩ := List.mem_filter.mp hx
        exact h ⟨x, hxmem, hxgone, hbound⟩

end

/-! PROOFS. A report of the only event record: its place in the uplink queue or on the stacked list. -/
namespace Sys2Proof.Machine
set_option Elab.async false

section
variable {s t u : State}

/-! ## The only record -/

theorem rec?_only {r : EventRec} (h : s.cu.events = [r]) : s.rec? r.rid = some r := by simp [State.rec?, h]

theorem updRec_only {r : EventRec} {f : EventRec → EventRec} (h : s.cu.events = [r]) :
    (updRec r.rid f s).cu = { s.cu with events := [f r] } := by
  simp [updRec, setEvents, h, sortBy, insertBy]

theorem ucSync_cu : (ucSync s).cu =
    { s.cu with events := s.cu.events.map (fun r => { r with uplink := uplinkStateOf s.uc r }) } := rfl

/-! ## An alert in its place (R143, R144) -/

/-- The place of a new element is behind all that come before it. -/
theorem insertBy_eq {α : Type} {le : α → α → Bool} {x : α} (xs : List α) :
    insertBy le x xs = xs.takeWhile (fun y => le y x) ++ [x] ++ xs.dropWhile (fun y => le y x) := by
  induction xs with
  | nil => rfl
  | cons y ys ih =>
    unfold insertBy
    cases hle : le y x <;> simp [hle, ih]

/-- An alert as it is raised (R144). -/
def State.freshAlert (s : State) (kind : AlertKind) (rid : Option Nat) (id : Option EventId) (update : Nat) : Alert :=
  { kind := kind, rid := rid, id := id, update := update, enqueued := s.now, attempts := 0, turn := .ready, retryWait := none,
    withdrawn := false }

/-- A queue with a new alert in its place: behind every alert of its priority or of a higher one. -/
def placedAlert (a : Alert) (q : List Alert) : List Alert :=
  q.takeWhile (fun b => decide (b.kind.priority ≤ a.kind.priority)) ++ [a] ++
    q.dropWhile (fun b => decide (b.kind.priority ≤ a.kind.priority))

theorem alertLe_iff {now : Elapsed} {a b : Alert} : alertLe now a b = true ↔ a.kind.priority < b.kind.priority ∨
    a.kind.priority = b.kind.priority ∧ since now b.enqueued ≤ since now a.enqueued := by
  simp [alertLe]

theorem insertBy_fresh {kind : AlertKind} {rid : Option Nat} {id : Option EventId} {update : Nat} (q : List Alert) :
    insertBy (alertLe s.now) (s.freshAlert kind rid id update) q = placedAlert (s.freshAlert kind rid id update) q := by
  have hle (b : Alert) : alertLe s.now b (s.freshAlert kind rid id update) = decide (b.kind.priority ≤ kind.priority) := by
    rw [Bool.eq_iff_iff, alertLe_iff, decide_eq_true_iff]
    have hnow : since s.now (s.freshAlert kind rid id update).enqueued = 0 := since_self
    rw [hnow]
    simp only [Nat.zero_le, and_true]
    exact le_iff_lt_or_eq.symm
  rw [insertBy_eq]
  simp only [hle]
  rfl

theorem ucInsert_uc {kind : AlertKind} {rid : Option Nat} {id : Option EventId} {update : Nat} :
    (ucInsert kind rid id update s).uc =
      { s.uc with queue := placedAlert (s.freshAlert kind rid id update) s.uc.queue } := by
  rw [← insertBy_fresh]
  rfl

theorem ucInsert_cu {kind : AlertKind} {rid : Option Nat} {id : Option EventId} {update : Nat} :
    (ucInsert kind rid id update s).cu = { s.cu with events := s.cu.events.map (fun r =>
      { r with uplink := uplinkStateOf (ucInsert kind rid id update s).uc r }) } := rfl

theorem mem_placedAlert {a b : Alert} {q : List Alert} : b ∈ placedAlert a q ↔ b = a ∨ b ∈ q := by
  have hsplit := List.takeWhile_append_dropWhile (p := fun c : Alert => decide (c.kind.priority ≤ a.kind.priority)) (l := q)
  have hmem : b ∈ q ↔ b ∈ q.takeWhile (fun c => decide (c.kind.priority ≤ a.kind.priority)) ∨
      b ∈ q.dropWhile (fun c => decide (c.kind.priority ≤ a.kind.priority)) := by
    rw [← List.mem_append, hsplit]
  rw [hmem]
  simp [placedAlert]
  tauto

/-! ## The uplink state of a record (R143) -/

/-- No alert and no stacked entry names the record. -/
def Uplink.Spares (u : Uplink) (rid : Nat) : Prop := (∀ a ∈ u.queue, a.rid ≠ some rid) ∧ ∀ z ∈ u.stacked, z.rid ≠ rid

/-- A record with one alert, which waits, is QUEUED (R143). -/
theorem uplinkStateOf_of_queued {u : Uplink} {r : EventRec} {a : Alert} {q : List Alert} (hqueue : u.queue = placedAlert a q)
    (hother : ∀ b ∈ q, b.rid ≠ some r.rid) (ha : a.rid = some r.rid) (hturn : a.turn = .ready) :
    uplinkStateOf u r = .queued := by
  have hmine : ∀ b, b ∈ u.queue.filter (fun a => a.rid == some r.rid) ↔ b = a := by
    intro b
    rw [List.mem_filter, hqueue, mem_placedAlert]
    refine ⟨fun ⟨hb, hrid⟩ => hb.resolve_right fun hq => hother b hq (by simpa using hrid), fun hb => ⟨.inl hb, by simp [hb, ha]⟩⟩
  have hany (p : Alert → Bool) : (u.queue.filter (fun a => a.rid == some r.rid)).any p = p a := by
    rw [Bool.eq_iff_iff, List.any_eq_true]
    exact ⟨fun ⟨b, hb, hp⟩ => (hmine b).mp hb ▸ hp, fun hp => ⟨a, (hmine a).mpr rfl, hp⟩⟩
  unfold uplinkStateOf
  simp only [hany, hturn]
  rfl

/-- A record without an alert, with a stacked entry, is STACKED (R143). -/
theorem uplinkStateOf_of_stacked {u : Uplink} {r : EventRec} (hqueue : ∀ a ∈ u.queue, a.rid ≠ some r.rid)
    (hstacked : u.stacked.any (fun x => x.rid == r.rid) = true) : uplinkStateOf u r = .stacked := by
  have hnone : u.queue.filter (fun a => a.rid == some r.rid) = [] := by
    rw [List.filter_eq_nil_iff]
    exact fun a ha => by simpa using hqueue a ha
  unfold uplinkStateOf
  rw [hnone, hstacked]
  rfl

/-- A record that the uplink does not name keeps its last state (R143). -/
theorem uplinkStateOf_of_spared {u : Uplink} {r : EventRec} (h : u.Spares r.rid) : uplinkStateOf u r = r.uplink := by
  obtain ⟨hqueue, hstacked⟩ := h
  have hnone : u.queue.filter (fun a => a.rid == some r.rid) = [] := by
    rw [List.filter_eq_nil_iff]
    exact fun a ha => by simpa using hqueue a ha
  have hst : u.stacked.any (fun x => x.rid == r.rid) = false := by
    rw [List.any_eq_false]
    exact fun z hz => by simpa using hstacked z hz
  unfold uplinkStateOf
  rw [hnone, hst]
  rfl

/-! ## A report is placed (R144, R145) -/

/-- A HEALTH alert that waits, and so gives its place to another (R145). -/
def Alert.gives (a : Alert) : Bool := a.kind == .health && (a.turn == .ready || a.turn == .retry)

theorem gives_eq (a : Alert) : a.gives = (a.kind == .health && !a.turn.inTransfer) := by
  unfold Alert.gives
  cases a.turn <;> simp [Turn.inTransfer]

/-- The outcome of a report of the only record `r` (R144, R145): a place in the queue, that of a waiting HEALTH alert, or a
stacked entry. -/
structure State.Reports (s : State) (kind : AlertKind) (r : EventRec) (t : State) : Prop where
  short : s.uc.queue.length ≤ 7 →
    t.uc = { s.uc with queue := placedAlert (s.freshAlert kind (some r.rid) r.id r.update) s.uc.queue } ∧
    t.cu = { s.cu with events := [{ r with uplink := .queued }] }
  gives : 8 ≤ s.uc.queue.length → s.uc.queue.any Alert.gives = true →
    t.uc = { s.uc with
      queue := placedAlert (s.freshAlert kind (some r.rid) r.id r.update) (s.uc.queue.filter (fun a => !a.gives)) } ∧
    t.cu = { s.cu with events := [{ r with uplink := .queued }] } ∧
    t.count .healthEvictions = min (s.count .healthEvictions + 1) 65535
  full : 8 ≤ s.uc.queue.length → s.uc.queue.any Alert.gives = false →
    t.uc = { s.uc with stacked := s.uc.stacked ++ [{ kind := kind, rid := r.rid, retracts := none }] } ∧
    t.cu = { s.cu with events := [{ r with uplink := .stacked, owedUplink := some r.update }] } ∧
    t.count .stacks = min (s.count .stacks + 1) 65535

/-- An alert of the only record, which no other alert names, makes it QUEUED. -/
theorem ucInsert_only {kind : AlertKind} {r : EventRec} (h : s.cu.events = [r]) (hother : ∀ a ∈ s.uc.queue, a.rid ≠ some r.rid)
    {id : Option EventId} {update : Nat} :
    (ucInsert kind (some r.rid) id update s).cu = { s.cu with events := [{ r with uplink := .queued }] } := by
  rw [ucInsert_cu, h, List.map_singleton, uplinkStateOf_of_queued (congrArg Uplink.queue ucInsert_uc) hother rfl rfl]

theorem ucPlace_reports {kind : AlertKind} {r : EventRec} (hkind : kind.isReport = true) (h : s.cu.events = [r])
    (hspares : s.uc.Spares r.rid) (hdue : s.uc.healthDue = false) :
    s.Reports kind r (ucPlace kind r.rid r.id r.update s) := by
  obtain ⟨hqueue, hstacked⟩ := hspares
  have hgives : (fun a : Alert => a.kind == .health && !a.turn.inTransfer) = Alert.gives := funext fun a => (gives_eq a).symm
  refine ⟨fun hlen => ?_, fun hlen hany => ?_, fun hlen hany => ?_⟩
  · have hplace : ucPlace kind r.rid r.id r.update s = ucInsert kind (some r.rid) r.id r.update s := if_pos (by omega)
    rw [hplace]
    exact ⟨ucInsert_uc, ucInsert_only h hqueue⟩
  · have hplace : ucPlace kind r.rid r.id r.update s =
        ucHealthLeft .health (ucInsert kind (some r.rid) r.id r.update (ucEvictHealth s)) := by
      unfold ucPlace
      rw [if_neg (by omega), hgives, if_pos hany]
    have hevict : (ucEvictHealth s).uc = { s.uc with queue := s.uc.queue.filter (fun a => !a.gives) } := by
      simp only [gives_eq]
      rfl
    have huc : (ucInsert kind (some r.rid) r.id r.update (ucEvictHealth s)).uc = { s.uc with
        queue := placedAlert (s.freshAlert kind (some r.rid) r.id r.update) (s.uc.queue.filter (fun a => !a.gives)) } := by
      rw [ucInsert_uc, hevict]
      rfl
    have hleft : ucHealthLeft .health (ucInsert kind (some r.rid) r.id r.update (ucEvictHealth s)) =
        ucInsert kind (some r.rid) r.id r.update (ucEvictHealth s) := by
      unfold ucHealthLeft
      rw [huc]
      simp [hdue]
    rw [hplace, hleft]
    refine ⟨huc, ucInsert_only (by exact h) (fun a ha => hqueue a ?_), ?_⟩
    · rw [hevict] at ha
      exact List.mem_of_mem_filter ha
    · show (ucEvictHealth s).count .healthEvictions = _
      simp [ucEvictHealth, setQueue]
  · have hplace : ucPlace kind r.rid r.id r.update s = ucStack kind r.rid r.id r.update s := by
      unfold ucPlace
      rw [if_neg (by omega), hgives, if_neg (by simp [hany])]
    have hnone : s.uc.stacked.any (fun x => x.rid == r.rid && x.kind.isReport == kind.isReport) = false := by
      rw [List.any_eq_false]
      exact fun z hz => by simp [hstacked z hz]
    have hcu := updRec_only (s := setStacked (s.uc.stacked ++ [{ kind := kind, rid := r.rid, retracts := none }]) s)
      (f := fun r' => { r' with owedUplink := some r.update }) (by exact h)
    have hstack : ucStack kind r.rid r.id r.update s = bump .stacks (ucSync (updRec r.rid
        (fun r' => { r' with owedUplink := some r.update })
        (setStacked (s.uc.stacked ++ [{ kind := kind, rid := r.rid, retracts := none }]) s))) := by
      unfold ucStack
      rw [if_neg (by simp [hnone])]
      simp only [hkind, if_true]
    rw [hplace, hstack]
    refine ⟨rfl, ?_, ?_⟩
    · show (ucSync _).cu = _
      rw [ucSync_cu, hcu]
      refine congrArg (fun x => ({ s.cu with events := [{ r with uplink := x, owedUplink := some r.update }] } : Coincidence)) ?_
      exact uplinkStateOf_of_stacked (r := { r with owedUplink := some r.update }) (by exact hqueue) (by simp [setStacked])
    · rw [count_bump, if_pos rfl]
      rfl

/-- A report alert of the only record that nothing names or stands for (R144). -/
theorem ucRaiseReport_reports {kind : AlertKind} {r : EventRec} (hkind : kind.isReport = true) (h : s.cu.events = [r])
    (hspares : s.uc.Spares r.rid) (hid : ∀ a ∈ s.uc.queue, a.id ≠ r.id) (hdue : s.uc.healthDue = false) :
    s.Reports kind r (ucRaiseReport kind r.rid s) := by
  have hraise : ucRaiseReport kind r.rid s = ucPlace kind r.rid r.id r.update s := by
    have hwaits : s.uc.queue.any (fun a => a.rid == some r.rid && a.kind.isReport && !a.turn.inTransfer) = false := by
      rw [List.any_eq_false]
      exact fun a ha => by simp [hspares.1 a ha]
    have hstacked : s.uc.stacked.any (fun x => x.rid == r.rid && x.kind.isReport) = false := by
      rw [List.any_eq_false]
      exact fun z hz => by simp [hspares.2 z hz]
    have hholds : s.uc.holds kind r.id r.update = false := by
      unfold Uplink.holds
      rw [List.any_eq_false]
      exact fun a ha => by simp [hid a ha]
    unfold ucRaiseReport
    simp only [rec?_only h, hwaits, hstacked, hholds, if_false, Bool.false_eq_true]
  rw [hraise]
  exact ucPlace_reports hkind h hspares hdue

end

end Sys2Proof.Machine

/-! PROOFS. The only record that a station offers entries to, at a station without an uplink; the holdoff expiry. -/
namespace Sys2Proof.Machine
set_option Elab.async false

section
variable {s t u : State}

/-! ## What a record owes (R135) -/

/-- A record owes an update: it is DECLARED, and its last frame is not one that still waits. -/
def EventRec.mayOwe (r : EventRec) : Bool := r.state == .declared && !(r.declOwed && r.carried.isNone) && decide (r.update < 3)

/-- A record behind the owing rule (R135). -/
def EventRec.owed (r : EventRec) : EventRec := if r.mayOwe then { r with update := r.update + 1, declOwed := true } else r

theorem EventRec.owed_facts (r : EventRec) : r.owed.rid = r.rid ∧ r.owed.state = r.state ∧ r.owed.id = r.id ∧
    r.owed.parts = r.parts ∧ r.owed.earliest = r.earliest ∧ r.owed.uplink = r.uplink ∧ r.owed.delivered = r.delivered ∧
    r.owed.carried = r.carried ∧ r.owed.opened = r.opened ∧ r.owed.lastEnd = r.lastEnd ∧ r.owed.owedUplink = r.owedUplink := by
  unfold EventRec.owed
  split <;> simp

/-- The owing rule on the only record (R135). -/
theorem oweUpdate_only {r : EventRec} (h : s.cu.events = [r]) :
    oweUpdate r.rid s = if r.mayOwe then ucUpdate r.rid (s.setCu { s.cu with events := [r.owed] }) else s := by
  have hupd : r.mayOwe = true → updRec r.rid (fun r => { r with update := r.update + 1, declOwed := true }) s =
      s.setCu { s.cu with events := [r.owed] } := by
    intro hmay
    show s.setCu _ = s.setCu _
    simp [h, sortBy, insertBy, EventRec.owed, hmay]
  unfold oweUpdate
  rw [rec?_only h]
  dsimp only
  unfold EventRec.mayOwe at *
  cases hstate : r.state == .declared with
  | false => rw [if_pos (by simpa using hstate)]; simp
  | true =>
    rw [if_neg (by simpa using hstate)]
    cases hwaits : (r.declOwed && r.carried.isNone) with
    | true => rw [if_pos rfl]; simp
    | false =>
      rw [if_neg (by simp)]
      by_cases hless : r.update < 3
      · rw [if_pos hless, hupd (by simp [hstate, hwaits, hless]), if_pos (by simp [hless])]
      · rw [if_neg hless, if_neg (by simp [hless])]

theorem ucUpdate_of_no_uplink {k : Nat} (h : s.cs.image.uplink = false) : ucUpdate k s = s := by
  unfold ucUpdate
  rw [h]
  rfl

theorem ucNewEvent_of_no_uplink {k : Nat} (h : s.cs.image.uplink = false) : ucNewEvent k s = s := by
  unfold ucNewEvent
  rw [h]
  rfl

theorem setCu_self : s.setCu s.cu = s := rfl

theorem events_only {r : EventRec} (h : s.cu.events = [r]) : ({ s.cu with events := [r] } : Coincidence) = s.cu := by rw [← h]

/-- A late participant of the only record (R135), before the report that an uplink station makes of it. -/
theorem joinRecord_only {r : EventRec} {e : Entry} (h : s.cu.events = [r]) (hno : s.cs.image.uplink = false) :
    joinRecord r .join e s = s.setCu { s.cu with events := [(addPart r { station := e.station, onset := e.onset, peak := e.peak }).owed] } := by
  generalize hr : addPart r { station := e.station, onset := e.onset, peak := e.peak } = r'
  have hrid : r'.rid = r.rid := by rw [← hr]; rfl
  have hupd : updRec r.rid (fun x => addPart x { station := e.station, onset := e.onset, peak := e.peak }) s =
      s.setCu { s.cu with events := [r'] } := by
    show s.setCu _ = s.setCu _
    simp [h, sortBy, insertBy, hr]
  show oweUpdate r.rid (updRec r.rid _ s) = _
  rw [hupd, ← hrid, oweUpdate_only (r := r') rfl]
  split
  · exact ucUpdate_of_no_uplink hno
  · next hmay => rw [EventRec.owed, if_neg hmay]

/-! ## Entries offered to the only record (R135) -/

/-- An entry that changes in the table. -/
theorem replace_perm {α : Type} [BEq α] [LawfulBEq α] {xs : List α} {x y : α} (h : x ∈ xs) :
    (xs.replace x y).Perm (y :: xs.erase x) := by
  induction xs with
  | nil => cases h
  | cons z zs ih =>
    by_cases hz : z = x
    · subst hz
      simp
    · rw [List.replace_cons, beq_eq_false_iff_ne.mpr (Ne.symm hz), List.erase_cons_tail (by simpa using hz)]
      exact (List.Perm.cons z (ih ((List.mem_cons.mp h).resolve_left fun he => hz he.symm))).trans (List.Perm.swap _ _ _)

/-- The record as it may stand after entries were offered to it: it keeps its key, its state, its id and its participants. -/
structure EventRec.Grows (r y : EventRec) : Prop where
  rid : y.rid = r.rid
  state : y.state = r.state
  id : y.id = r.id
  parts : ∀ p ∈ r.parts, p ∈ y.parts

theorem EventRec.Grows.refl {r : EventRec} : r.Grows r := ⟨rfl, rfl, rfl, fun _ h => h⟩

theorem EventRec.Grows.trans {a b c : EventRec} (h : a.Grows b) (g : b.Grows c) : a.Grows c :=
  ⟨g.rid.trans h.rid, g.state.trans h.state, g.id.trans h.id, fun p hp => g.parts p (h.parts p hp)⟩

theorem mem_addPart {r : EventRec} {p q : Part} : q ∈ (addPart r p).parts ↔ q = p ∨ q ∈ r.parts := by simp [addPart]

theorem grows_join {r : EventRec} {p : Part} : r.Grows (addPart r p).owed := by
  obtain ⟨hrid, hstate, hid, hparts, -⟩ := (addPart r p).owed_facts
  exact ⟨hrid, hstate, hid, fun q hq => by rw [hparts]; exact mem_addPart.mpr (.inr hq)⟩

/-- What firstFit can find where there is one record. -/
theorem firstFit_only {r : EventRec} {allow : EventRec → Bool} {e : Entry} (h : s.cu.events = [r]) :
    firstFit s allow e = if (r.state.open && allow r) = true ∧ fitOf s r e ≠ .no then some (r, fitOf s r e) else none := by
  unfold firstFit
  rw [h]
  cases hallow : (r.state.open && allow r)
  · simp [hallow]
  · by_cases hfit : fitOf s r e = .no <;> simp [hallow, hfit]

/-- One unbound entry offered to the only record: it is bound to it or stays (R135). -/
theorem offerOne_only {r : EventRec} {allow : EventRec → Bool} {e : Entry} (h : s.cu.events = [r])
    (hno : s.cs.image.uplink = false) (he : e ∈ s.cu.entries) :
    ∃ c y, offerOne allow s e = s.setCu c ∧ c.events = [y] ∧ r.Grows y ∧ c.ownEventSeq = s.cu.ownEventSeq ∧
      c.nextRid = s.cu.nextRid ∧ ∃ o, (o = e ∨ o = e.bindTo r) ∧ c.entries.Perm (o :: s.cu.entries.erase e) := by
  have hstays : ∃ c y, s = s.setCu c ∧ c.events = [y] ∧ r.Grows y ∧ c.ownEventSeq = s.cu.ownEventSeq ∧
      c.nextRid = s.cu.nextRid ∧ ∃ o, (o = e ∨ o = e.bindTo r) ∧ c.entries.Perm (o :: s.cu.entries.erase e) :=
    ⟨s.cu, r, rfl, h, .refl, rfl, rfl, e, .inl rfl, List.perm_cons_erase he⟩
  unfold offerOne
  split
  · rw [firstFit_only h]
    split
    · next hfit =>
      split at hfit
      · next hcond =>
        obtain ⟨rfl, rfl⟩ := Prod.mk.inj (Option.some.inj hfit)
        have hperm : (sortBy entryLe (s.cu.entries.replace e (e.bindTo r))).Perm (e.bindTo r :: s.cu.entries.erase e) :=
          (sortBy_perm _ _).trans (replace_perm he)
        cases hf : fitOf s r e with
        | no => exact absurd hf hcond.2
        | bind =>
          exact ⟨_, r, rfl, h, .refl, rfl, rfl, _, .inr rfl, hperm⟩
        | join =>
          exact ⟨_, _, joinRecord_only (s := setEntries (s.cu.entries.replace e (e.bindTo r)) s) h hno, rfl, grows_join, rfl, rfl,
            _, .inr rfl, hperm⟩
      · cases hfit
    · exact hstays
  · exact hstays

/-- Unbound entries offered one after the other to the only live record (R135): each is bound to it or stays, and `keep`, the
rest of the table, stays too. -/
theorem offerEach_only {r : EventRec} {allow : EventRec → Bool} (fs : List Entry) {keep : List Entry} (h : s.cu.events = [r])
    (hno : s.cs.image.uplink = false) (hentries : s.cu.entries.Perm (fs ++ keep)) :
    ∃ c y, offerEach allow fs s = s.setCu c ∧ c.events = [y] ∧ r.Grows y ∧ c.ownEventSeq = s.cu.ownEventSeq ∧
      c.nextRid = s.cu.nextRid ∧ ∃ outs, c.entries.Perm (outs ++ keep) ∧
        (∀ f ∈ fs, f ∈ outs ∨ f.bindTo r ∈ outs) ∧ ∀ o ∈ outs, o ∈ fs ∨ ∃ f ∈ fs, o = f.bindTo r := by
  induction fs generalizing s r keep with
  | nil => exact ⟨s.cu, r, rfl, h, .refl, rfl, rfl, [], hentries, by simp, by simp⟩
  | cons f fs ih =>
    have hf : f ∈ s.cu.entries := hentries.symm.subset (by simp)
    obtain ⟨c, y, hc, hy, hgrow, hseq, hnext, o, ho, hperm⟩ := offerOne_only (allow := allow) h hno hf
    have herase : (s.cu.entries.erase f).Perm (fs ++ keep) := by
      have := hentries.erase f
      simpa using this
    have hbind (g : Entry) : g.bindTo y = g.bindTo r := by unfold Entry.bindTo; rw [hgrow.rid, hgrow.state]
    obtain ⟨c', y', hc', hy', hgrow', hseq', hnext', outs, hperm', houts, hback⟩ := ih (s := s.setCu c) (r := y) (keep := o :: keep)
      hy hno ((hperm.trans (List.Perm.cons o herase)).trans List.perm_middle.symm)
    refine ⟨c', y', ?_, hy', hgrow.trans hgrow', hseq'.trans hseq, hnext'.trans hnext, o :: outs,
      hperm'.trans List.perm_middle, ?_, ?_⟩
    · show offerEach allow fs (offerOne allow s f) = _
      rw [hc, hc']
      rfl
    · intro g hg
      rcases List.mem_cons.mp hg with rfl | hg
      · rcases ho with rfl | rfl
        · exact .inl (by simp)
        · exact .inr (by simp)
      · have := houts g hg
        rw [hbind] at this
        exact this.imp (List.mem_cons_of_mem _) (List.mem_cons_of_mem _)
    · intro g hg
      rcases List.mem_cons.mp hg with rfl | hg
      · rcases ho with rfl | rfl
        · exact .inl (by simp)
        · exact .inr ⟨f, by simp, rfl⟩
      · rcases hback g hg with hg | ⟨f', hf', hg⟩
        · exact .inl (List.mem_cons_of_mem _ hg)
        · exact .inr ⟨f', List.mem_cons_of_mem _ hf', by rw [hg, hbind]⟩

/-! ## Retention behind it -/

theorem retentionSweep_count {c : Counter} (hc : c ≠ .unconfirmedTriggers) : (retentionSweep s).count c = s.count c := by
  have heach (out : List Entry) (v : State) : (tdUnconfirmedEach out v).count c = v.count c := by
    induction out generalizing v with
    | nil => rfl
    | cons e out ih =>
      refine (ih _).trans ?_
      show (tdUnconfirmedIf (e.own && !e.confirmed) v).count c = v.count c
      unfold tdUnconfirmedIf tdUnconfirmed
      split
      · rw [count_bump, if_neg (Ne.symm hc)]; rfl
      · rfl
  rw [retentionSweep_eq, heach]
  rfl

/-! ## A declaration (R128, R130) -/

/-- A holdoff record that is declared (R128). -/
def State.declares (s : State) (r : EventRec) : EventRec :=
  { r with state := .declared, id := some { origin := s.ownId, seq := s.cu.ownEventSeq }, declOwed := true, holdoff := none }

/-- The state at a declaration, before its report and its request (R128). -/
def State.declaring (s : State) (rid : Nat) : State :=
  cuReportOpen (bump .declarations (confirmEntries rid (updRec rid (fun r => s.declares r)
    (s.setCu { s.cu with ownEventSeq := (s.cu.ownEventSeq + 1) % 256 }))))

theorem declareRec_eq {rid : Nat} : declareRec rid s = cuRequest (ucNewEvent rid (s.declaring rid)) := rfl

theorem declaring_cu {r : EventRec} (h : s.cu.events = [r]) : (s.declaring r.rid).cu = { s.cu with
    entries := sortBy entryLe (s.cu.entries.map (fun e => if e.bound == some r.rid then { e with confirmed := true } else e))
    events := [s.declares r], ownEventSeq := (s.cu.ownEventSeq + 1) % 256 } := by
  simp [State.declaring, cuReportOpen, confirmEntries, setEntries, updRec, setEvents, h, sortBy, insertBy]

theorem declaring_besideEvents {rid : Nat} : (s.declaring rid).besideEvents = s.besideEvents := by
  unfold State.declaring
  rw [cuReportOpen_besideEvents, bump_besideEvents rfl, confirmEntries_besideEvents, updRec_besideEvents, setCu_besideEvents]

theorem declaring_count {rid : Nat} : (s.declaring rid).count .declarations = min (s.count .declarations + 1) 65535 := by
  show (bump .declarations _).count .declarations = _
  rw [count_bump, if_pos rfl]
  rfl

theorem cuRequest_cu : (cuRequest s).cu = s.cu := by simp

theorem cuRequest_uc : (cuRequest s).uc = s.uc := by simp

theorem cuRequest_count {c : Counter} : (cuRequest s).count c = s.count c := count_of_counters_eq (by simp)

/-- The standing request waits where a record owes and the Link Controller takes it (R130). -/
theorem cuRequest_fills (h : s.cu.events.any EventRec.owes = true) (htakes : s.lcTakes = true) :
    (cuRequest s).lc.slots.declaration.isSome = true := by
  unfold cuRequest requestDeclaration
  rw [if_pos h, htakes]
  cases hd : s.lc.slots.declaration <;> simp [hd]

theorem lcTakes_of_besideEvents (h : t.besideEvents = s.besideEvents) : t.lcTakes = s.lcTakes := by
  obtain ⟨-, -, -, -, -, -, -, -, -, -, hcs, -⟩ := rest_of_besideEvents h
  unfold State.lcTakes State.awake State.listenOnly State.ownId
  rw [hcs, mc_of_besideEvents h]

/-! ## The holdoff expiry (R128) -/

theorem holdoffExpiry_of_due {r : EventRec} (h : s.holdoffDue = some r) :
    exec .holdoffExpiry s = .next (finish (holdoffExpire r.rid s)) := by
  show Host.Outcome.next (match s.holdoffDue with
    | some r => finish (holdoffExpire r.rid s)
    | none => s) = _
  rw [h]

/-- The only record, in HOLDOFF, is declared (R128). -/
theorem holdoffExpire_only {r : EventRec} (h : s.cu.events = [r]) (hstate : r.state = .holdoff) :
    holdoffExpire r.rid s = declareRec r.rid s := by
  unfold holdoffExpire
  rw [rec?_only h]
  simp [h, hstate, RecState.live]

/-- The entries of a HOLDOFF record that goes, beside the only other record (R128, R135). -/
theorem freeEntries_beside {k : Nat} {x : EventRec} (hevents : s.cu.events.filter (fun r => r.rid != k) = [x])
    (hno : s.cs.image.uplink = false) :
    ∃ (v : State) (c : Coincidence) (y : EventRec), freeEntries k s = retentionSweep (v.setCu c) ∧ v.besideEvents = s.besideEvents ∧ v.counters = s.counters ∧
      c.events = [y] ∧ x.Grows y ∧ c.ownEventSeq = s.cu.ownEventSeq ∧
      (∀ e ∈ s.cu.entries, e.bound ≠ some k → e ∈ c.entries) ∧
      (∀ e ∈ s.cu.entries, e.bound = some k →
        ({ e with bound := none } : Entry) ∈ c.entries ∨ ({ e with bound := none } : Entry).bindTo x ∈ c.entries) := by
  generalize hfreed : (s.cu.entries.filter (fun e => e.bound == some k)).map (fun e => ({ e with bound := none } : Entry)) = freed
  generalize hv : removeRec k (setEntries
    (s.cu.entries.map (fun e => if e.bound == some k then { e with bound := none } else e)) s) = v
  have hbeside : v.besideEvents = s.besideEvents := by rw [← hv]; simp
  have hcounters : v.counters = s.counters := by rw [← hv]; simp
  obtain ⟨-, -, -, -, -, -, -, -, -, -, hcs, -⟩ := rest_of_besideEvents hbeside
  have hvcu : v.cu.events = [x] ∧ v.cu.ownEventSeq = s.cu.ownEventSeq ∧
      v.cu.entries.Perm (freed ++ s.cu.entries.filter (fun e => !(e.bound == some k))) := by
    rw [← hv, removeRec_cu]
    refine ⟨hevents, rfl, ?_⟩
    have hsort := ((sortBy_perm entryLe
      (s.cu.entries.map (fun e => if e.bound == some k then { e with bound := none } else e))).filter
        (fun e => e.bound != some k))
    refine hsort.trans ?_
    have hall : (s.cu.entries.map (fun e => if e.bound == some k then { e with bound := none } else e)).filter
        (fun e => e.bound != some k) = s.cu.entries.map (fun e => if e.bound == some k then { e with bound := none } else e) := by
      rw [List.filter_eq_self]
      intro e he
      obtain ⟨e0, -, rfl⟩ := List.mem_map.mp he
      split
      · rfl
      · next hne => simpa using hne
    rw [hall, ← hfreed]
    refine ((List.filter_append_perm (fun e : Entry => e.bound == some k) s.cu.entries).symm.map _).trans ?_
    rw [List.map_append]
    refine List.Perm.of_eq (congrArg₂ _ (List.map_congr_left fun e he => ?_)
      ((List.map_congr_left fun e he => ?_).trans (List.map_id _)))
    · rw [if_pos (List.mem_filter.mp he).2]
    · rw [if_neg (by simpa using (List.mem_filter.mp he).2)]
      rfl
  obtain ⟨hvevents, hvseq, hventries⟩ := hvcu
  obtain ⟨c, y, hc, hy, hgrow, hseq, -, outs, hperm, houts, -⟩ :=
    offerEach_only (allow := fun _ => true) freed hvevents (by rw [hcs]; exact hno) hventries
  refine ⟨v, c, y, ?_, hbeside, hcounters, hy, hgrow, hseq.trans hvseq, fun e he hne => ?_, fun e he hbound => ?_⟩
  · rw [← hc, ← hv, ← hfreed]
    rfl
  · exact hperm.symm.subset (List.mem_append.mpr (.inr (List.mem_filter.mpr ⟨he, by simpa using hne⟩)))
  · have hmem : ({ e with bound := none } : Entry) ∈ freed := by
      rw [← hfreed]
      exact List.mem_map.mpr ⟨e, List.mem_filter.mpr ⟨he, by simp [hbound]⟩, rfl⟩
    exact (houts _ hmem).imp (fun ho => hperm.symm.subset (by simp [ho])) (fun ho => hperm.symm.subset (by simp [ho]))

theorem declaring_uc {rid : Nat} : (s.declaring rid).uc = s.uc := by simp [State.declaring, cuReportOpen]

theorem declaring_count_other {rid : Nat} {c : Counter} (hc : .declarations ≠ c) : (s.declaring rid).count c = s.count c := by
  show (bump .declarations _).count c = _
  rw [count_bump, if_neg hc]
  rfl

theorem declaring_now {rid : Nat} : (s.declaring rid).now = s.now := by
  obtain ⟨-, -, htb, -⟩ := rest_of_besideEvents (declaring_besideEvents (s := s) (rid := rid))
  exact congrArg Timebase.elapsed htb

/-- The place of an EVENT in the queue: behind the EVENTs there. -/
theorem placedAlert_event {rid : Option Nat} {id : Option EventId} {update : Nat} (q : List Alert) :
    placedAlert (s.freshAlert .event rid id update) q =
      q.takeWhile (fun a => a.kind == .event) ++ [s.freshAlert .event rid id update] ++ q.dropWhile (fun a => a.kind == .event) := by
  have hprio : (fun b : Alert => decide (b.kind.priority ≤ AlertKind.event.priority)) = fun b => b.kind == .event :=
    funext fun b => by cases b.kind <;> rfl
  rw [← hprio]
  rfl

/-- The declaration of the only record at a steady station with an uplink (R128, R138, R142). -/
theorem State.Steady.declare_reports {r : EventRec} (hsteady : s.Steady) (hcd : s.pins.lkCd = true) (hrdy : s.pins.upRdy = false)
    (hlisten : s.listenOnly = false) (huplink : s.cs.image.uplink = true) (hhealth : s.uc.healthDue = false)
    (hevents : s.cu.events = [r]) (hstate : r.state = .holdoff) (hdue : timerDue r.holdoff s.now = true)
    (hqueue : ∀ a ∈ s.uc.queue, a.rid ≠ some r.rid ∧ a.id ≠ some { origin := s.ownId, seq := s.cu.ownEventSeq })
    (hstacked : ∀ z ∈ s.uc.stacked, z.rid ≠ r.rid) :
    ∃ w, exec .holdoffExpiry s = .next (finish (declareRec r.rid s)) ∧ (finish (declareRec r.rid s)).cu = w.cu ∧
      (finish (declareRec r.rid s)).uc.queue = w.uc.queue ∧ (finish (declareRec r.rid s)).uc.stacked = w.uc.stacked ∧
      ((finish (declareRec r.rid s)).count .healthEvictions = w.count .healthEvictions ∧
        (finish (declareRec r.rid s)).count .stacks = w.count .stacks) ∧
      (s.declaring r.rid).Reports .event (s.declares r) w ∧
      (finish (declareRec r.rid s)).lc.slots.declaration.isSome = true ∧ w.cu.ownEventSeq = (s.cu.ownEventSeq + 1) % 256 ∧
      (finish (declareRec r.rid s)).mc.standing = .active ∧ (finish (declareRec r.rid s)).tb = s.tb ∧
      (finish (declareRec r.rid s)).td = s.td ∧ (finish (declareRec r.rid s)).peers = s.peers ∧
      (finish (declareRec r.rid s)).bm = s.bm := by
  generalize hu : s.declaring r.rid = u
  have hubeside : u.besideEvents = s.besideEvents := by rw [← hu, declaring_besideEvents]
  have hucu := declaring_cu hevents
  rw [hu] at hucu
  have huuc : u.uc = s.uc := by rw [← hu, declaring_uc]
  obtain ⟨-, -, -, -, -, -, -, -, -, -, hucs, -⟩ := rest_of_besideEvents hubeside
  have hreports := ucRaiseReport_reports (s := u) (kind := .event) (r := s.declares r) rfl (by rw [hucu])
    (by rw [huuc]; exact ⟨fun a ha => (hqueue a ha).1, hstacked⟩) (by rw [huuc]; exact fun a ha => (hqueue a ha).2)
    (by rw [huuc]; exact hhealth)
  have hdeclare : declareRec r.rid s = cuRequest (ucRaiseReport .event (s.declares r).rid u) := by
    rw [declareRec_eq, hu]
    unfold ucNewEvent
    rw [hucs, huplink]
    rfl
  generalize hw : ucRaiseReport .event (s.declares r).rid u = w at hreports hdeclare
  have hwbeside : w.besideEvents = s.besideEvents := by rw [← hw, ucRaiseReport_besideEvents, hubeside]
  have hbeside : (declareRec r.rid s).besideEvents = s.besideEvents := declareRec_besideEvents
  obtain ⟨hcu, hstanding, htb, htd, hpeers, hbm⟩ := hsteady.finish_of_events hbeside hcd (.inl hrdy)
  have hfirm := hsteady.firm_of_besideEvents hbeside
  obtain ⟨-, hpins, -⟩ := rest_of_besideEvents hbeside
  obtain ⟨m, tm, huc⟩ := hfirm.uc (.inl (by rw [hpins]; exact hrdy))
  have hseq : w.cu.ownEventSeq = (s.cu.ownEventSeq + 1) % 256 ∧ w.cu.events.any EventRec.owes = true := by
    by_cases hlen : u.uc.queue.length ≤ 7
    · rw [(hreports.short hlen).2, hucu]
      exact ⟨rfl, rfl⟩
    · cases hany : u.uc.queue.any Alert.gives
      · rw [(hreports.full (by omega) hany).2.1, hucu]
        exact ⟨rfl, rfl⟩
      · rw [(hreports.gives (by omega) hany).2.1, hucu]
        exact ⟨rfl, rfl⟩
  have hdcu : (declareRec r.rid s).cu = w.cu := by rw [hdeclare, cuRequest_cu]
  have hduc : (declareRec r.rid s).uc = w.uc := by rw [hdeclare, cuRequest_uc]
  have hcount {k : Counter} (hm : k ≠ .musterBeacons) (hb : k ≠ .busRecoveries) :
      (finish (declareRec r.rid s)).count k = w.count k := by
    rw [hfirm.count hm hb, hdeclare, cuRequest_count]
  refine ⟨w, ?_, hcu.trans hdcu, ?_, ?_, ⟨hcount (by decide) (by decide), hcount (by decide) (by decide)⟩, hreports, ?_, hseq.1,
    hstanding, htb, htd.trans (by simp), hpeers, hbm⟩
  · rw [holdoffExpiry_of_due (r := r) (by simp [State.holdoffDue, hevents, hstate, hdue]), holdoffExpire_only hevents hstate]
  · rw [huc, hduc]
  · rw [huc, hduc]
  · rw [hfirm.slots_of_busy (by rw [hpins]; exact hcd), hdeclare]
    refine cuRequest_fills hseq.2 ?_
    rw [lcTakes_of_besideEvents hwbeside]
    exact lcTakes_of_active hsteady.active hlisten

end

end Sys2Proof.Machine

section
open Sys2Proof Sys2Proof.Machine
set_option Elab.async false

/-- Settles O49. -/
theorem holdoffEndsInADeclaration : Obligations.HoldoffEndsInADeclaration := by
  unfold Obligations.HoldoffEndsInADeclaration
  refine ⟨fun s r hsteady hcd hlisten hno hevents hstate hdue => ?_,
    fun s r x hsteady hcd hlisten hno hevents hne hstate hdue hlive hgap => ?_,
    fun s r hsteady hcd hrdy hlisten huplink hhealth hevents hstate hdue hqueue hstacked => ?_⟩
  · have hexec : exec .holdoffExpiry s = .next (finish (declareRec r.rid s)) := by
      rw [holdoffExpiry_of_due (r := r) (by simp [State.holdoffDue, hevents, hstate, hdue]), holdoffExpire_only hevents hstate]
    obtain ⟨hcu, hstanding, htb, htd, hpeers, hbm⟩ :=
      hsteady.finish_of_events (t := declareRec r.rid s) declareRec_besideEvents hcd (.inr hno)
    have hbeside := declaring_besideEvents (s := s) (rid := r.rid)
    obtain ⟨-, -, -, -, -, -, -, -, -, -, hcs, -⟩ := rest_of_besideEvents hbeside
    have hdeclare : declareRec r.rid s = cuRequest (s.declaring r.rid) := by
      rw [declareRec_eq, ucNewEvent_of_no_uplink (by rw [hcs]; exact hno)]
    have hfirm := hsteady.firm_of_besideEvents (declareRec_besideEvents (s := s) (k := r.rid))
    have hdcu := declaring_cu hevents
    have hpins : (declareRec r.rid s).pins = s.pins := by simp
    refine ⟨finish (declareRec r.rid s), hexec, ?_, ?_, ?_, fun e => ?_, ?_, hstanding, htb, htd.trans (by simp), hpeers, hbm⟩
    · rw [hcu, hdeclare, cuRequest_cu, hdcu]
      rfl
    · rw [hcu, hdeclare, cuRequest_cu, hdcu]
    · rw [hfirm.count, hdeclare]
      exact cuRequest_count.trans declaring_count
    · rw [hcu, hdeclare, cuRequest_cu, hdcu]
      simp only [mem_sortBy, List.mem_map, beq_iff_eq, eq_comm (a := e)]
    · rw [hfirm.slots_of_busy (by rw [hpins]; exact hcd), hdeclare]
      refine cuRequest_fills ?_ ?_
      · rw [hdcu]
        rfl
      · rw [lcTakes_of_besideEvents hbeside]
        exact lcTakes_of_active hsteady.active hlisten
  · have hfound : s.rec? r.rid = some r ∧ s.holdoffDue = some r ∧ s.cu.events.filter (fun y => y.rid != r.rid) = [x] ∧
        x ∈ s.cu.events := by
      have hxstate : (x.state == .holdoff) = false := by rcases hlive with h | h <;> simp [h]
      unfold State.rec? State.holdoffDue
      rcases hevents with h | h <;> simp [h, Ne.symm hne, hstate, hdue, hxstate]
    obtain ⟨hrec, hfirst, hothers, hxmem⟩ := hfound
    have hxlive : x.state.live = true := by rcases hlive with h | h <;> rw [h] <;> rfl
    have hexpire : holdoffExpire r.rid s = cuRequest (freeEntries r.rid (bump .holdoffsDissolved s)) := by
      unfold holdoffExpire
      rw [hrec]
      refine if_pos (List.any_eq_true.mpr ⟨x, hxmem, ?_⟩)
      rw [hxlive]
      exact decide_eq_true hgap
    obtain ⟨v, c, y, hfree, hvbeside, hvcounters, hcy, hgrow, hseq, hkept, hfreed⟩ :=
      freeEntries_beside (s := bump .holdoffsDissolved s) (k := r.rid) (x := x) hothers hno
    have hbeside : (holdoffExpire r.rid s).besideEvents = s.besideEvents := holdoffExpire_besideEvents
    obtain ⟨hcu, hstanding, htb, -, hpeers, hbm⟩ := hsteady.finish_of_events hbeside hcd (.inr hno)
    have hfirm := hsteady.firm_of_besideEvents hbeside
    have htcu : (finish (holdoffExpire r.rid s)).cu = (retentionSweep (v.setCu c)).cu := by
      rw [hcu, hexpire, cuRequest_cu, hfree]
    have hvtb : v.tb = s.tb ∧ v.cs = s.cs := by
      obtain ⟨-, -, htb, -, -, -, -, -, -, -, hcs, -⟩ := rest_of_besideEvents hvbeside
      exact ⟨htb, hcs⟩
    have hmem (e : Entry) : e ∈ (finish (holdoffExpire r.rid s)).cu.entries ↔
        e ∈ c.entries ∧ ¬ (e.bound = none ∧ e.onset + secs s.cs.image.wc + secs 30 < s.tb.time) := by
      rw [htcu, mem_retentionSweep]
      show e ∈ c.entries ∧ ¬ (e.bound = none ∧ e.onset + secs v.cs.image.wc + secs 30 < v.tb.time) ↔ _
      rw [hvtb.1, hvtb.2]
    have hcount {k : Counter} (hk : k ≠ .unconfirmedTriggers) (hm : k ≠ .musterBeacons) (hb : k ≠ .busRecoveries) :
        (finish (holdoffExpire r.rid s)).count k = (bump .holdoffsDissolved s).count k := by
      rw [hfirm.count hm hb, hexpire, cuRequest_count, hfree, retentionSweep_count hk]
      exact count_of_counters_eq hvcounters
    refine ⟨finish (holdoffExpire r.rid s), y, holdoffExpiry_of_due hfirst, ?_, hgrow.rid, hgrow.state, hgrow.id, hgrow.parts, ?_, ?_, ?_,
      fun e he => ⟨fun hbound => ?_, fun hbound => ?_, fun hbound => ?_⟩, hstanding, htb, hpeers, hbm⟩
    · rw [htcu, retentionSweep_cu]
      exact hcy
    · rw [htcu, retentionSweep_cu]
      exact hseq
    · rw [hcount (by decide) (by decide) (by decide), count_bump, if_pos rfl]
    · rw [hcount (by decide) (by decide) (by decide), count_bump, if_neg (by decide)]
    · rw [hmem]
      simp [hbound, hkept e he (by simp [hbound])]
    · rw [hmem]
      exact ⟨hkept e he (by simpa [hbound] using Ne.symm hne), by simp [hbound]⟩
    · rcases hfreed e he hbound with h | h
      · right
        split
        · next hstale => exact fun hin => ((hmem _).mp hin).2 ⟨rfl, hstale⟩
        · next hstale => exact (hmem _).mpr ⟨h, fun hold => hstale hold.2⟩
      · left
        have hbind : ({ e with bound := none } : Entry).bindTo x = { e with bound := some x.rid, confirmed := true } := by
          simp [Entry.bindTo, hxlive]
        rw [hbind] at h
        exact (hmem _).mpr ⟨h, by simp⟩
  · obtain ⟨w, hexec, hcu, hqueues, hstackeds, hcount, hreports, hslots, hseq, hstanding, htb, htd, hpeers, hbm⟩ :=
      hsteady.declare_reports hcd hrdy hlisten huplink hhealth hevents hstate hdue hqueue hstacked
    have huuc : (s.declaring r.rid).uc = s.uc := declaring_uc
    have hplaced (q : List Alert) : placedAlert ((s.declaring r.rid).freshAlert .event (some r.rid) (s.declares r).id r.update) q =
        q.takeWhile (fun a => a.kind == .event) ++ [s.freshAlert .event (some r.rid) (s.declares r).id r.update] ++
          q.dropWhile (fun a => a.kind == .event) := by
      rw [placedAlert_event]
      have hnow : (s.declaring r.rid).now = s.now := declaring_now
      unfold State.freshAlert
      rw [hnow]
    refine ⟨finish (declareRec r.rid s), hexec, hstanding, hslots, ?_, htb, htd, hpeers, hbm, fun hlen => ?_,
      fun hlen hany => ?_, fun hlen hany => ?_⟩
    · rw [hcu]
      exact hseq
    · obtain ⟨hwuc, hwcu⟩ := hreports.short (by rw [huuc]; exact hlen)
      rw [hqueues, hstackeds, hcu, hwuc, hwcu, huuc]
      exact ⟨hplaced _, rfl, rfl⟩
    · obtain ⟨hwuc, hwcu, hwcount⟩ := hreports.gives (by rw [huuc]; exact hlen) (by rw [huuc]; exact hany)
      rw [hqueues, hstackeds, hcu, hwuc, hwcu, huuc, hcount.1, hwcount, declaring_count_other (by decide)]
      exact ⟨hplaced _, rfl, rfl, rfl⟩
    · obtain ⟨hwuc, hwcu, hwcount⟩ := hreports.full (by rw [huuc]; exact hlen) (by rw [huuc]; exact hany)
      rw [hqueues, hstackeds, hcu, hwuc, hwcu, huuc, hcount.2, hwcount, declaring_count_other (by decide)]
      exact ⟨rfl, rfl, rfl, rfl⟩

end

/-! PROOFS. The end of START with a withdrawn HEALTH alert still in transfer. -/
namespace Sys2Proof.Machine
set_option Elab.async false

/-- A withdrawn HEALTH alert that awaits its reply. -/
def withdrawnHealth : Alert :=
  { kind := .health, rid := none, id := none, update := 0, enqueued := 0, attempts := 0, turn := .awaiting, retryWait := none
    withdrawn := true }

/-- The first poll ends in class CRITICAL on a busy medium, while that alert is in transfer and another HEALTH alert is due. -/
def healthInFirstPoll : State :=
  { State.reset with
    pins := { Pins.reset with straps := 3, lkCd := true }
    tb := { Timebase.reset with counting := true, source := .fast }
    bm := { Battery.reset with cls := .critical }
    uc := { Uplink.reset with queue := [withdrawnHealth], healthDue := true }
    mc := { ModeCtl.reset with standing := .firstPoll, crystal := 16384, osc := some 256, handed := true }
    twm := { TwoWire.reset with bus := some { user := .battery, wanted := true, check := .clear } }
    cs := { Service.reset with stationId := 3, image := { Image.default with uplink := true } } }

/-- The dropped HEALTH alerts an outcome counts. -/
def droppedIn : Host.Outcome State Fault Refusal → Option Nat
  | .next t => some (t.count .healthDrops)
  | _ => none

/-- The withdrawn alert leaves at the entry to SHELTER, which raises the HEALTH alert that is due (R144 step 3, R155), and the end
of START raises another (R142): in class CRITICAL both are dropped. -/
theorem droppedIn_healthInFirstPoll : droppedIn (exec (.batteryResult (.nack : TwEnd 6)) healthInFirstPoll) = some 2 := by
  decide +kernel

end Sys2Proof.Machine

section
open Sys2Proof Sys2Proof.Machine
set_option Elab.async false

/-- Refutes O16: in `healthInFirstPoll` two HEALTH alerts are dropped at the end of START, not one. -/
theorem not_configLoadTakesTheBlockOrTheDefaults : ¬ Obligations.ConfigLoadTakesTheBlockOrTheDefaults := by
  unfold Obligations.ConfigLoadTakesTheBlockOrTheDefaults
  rintro ⟨-, -, -, -, hpoll⟩
  have hclass : (bmBattery (.nack : TwEnd 6) healthInFirstPoll).bm.cls = .critical := by decide +kernel
  have hlistens : healthInFirstPoll.listenOnly = false := by decide
  have hon : healthInFirstPoll.onBusFor .battery (.nack : TwEnd 6) := ⟨.inl rfl, by decide⟩
  obtain ⟨t, hexec, -, -, -, -, -, -, -, -, -, -, -, -, -, -, -, -, -, hdrops, -⟩ :=
    (hpoll healthInFirstPoll .nack ⟨rfl, rfl⟩ hon rfl).2 hclass hlistens rfl (fun _ h => nomatch h) rfl
  have hcount : droppedIn (exec (.batteryResult (.nack : TwEnd 6)) healthInFirstPoll) = some 1 := by
    rw [hexec]
    exact congrArg some (hdrops rfl)
  rw [droppedIn_healthInFirstPoll] at hcount
  cases hcount

end

/-! PROOFS. The overtemperature test, a change of the class, and a good poll of the battery. -/
namespace Sys2Proof.Machine
set_option Elab.async false

/-! ## The overtemperature test (R174) -/

/-- The counters of the two heaters (R183). -/
def Counter.ofHeater : Counter → Bool
  | .edgesTakenB | .edgesDeferredB | .limitTakesB | .onsCancelledB | .offsMergedB | .offForcingsB | .overtempCutsB
  | .edgesTakenS | .edgesDeferredS | .limitTakesS | .onsCancelledS | .offsMergedS | .offForcingsS | .overtempCutsS => true
  | _ => false

section
variable {s t : State} {h h' : HeaterId} {k : HeaterCount} {e : Edge} {c : Counter}

theorem heaterCounter_ofHeater : (heaterCounter h k).ofHeater = true := by cases h <;> cases k <;> rfl

@[simp] theorem hot_bump : (bump c s).hot = s.hot := rfl

theorem count_bump_heaterCounter (hc : c.ofHeater = false) : (bump (heaterCounter h k) s).count c = s.count c := by
  rw [count_bump, if_neg]
  rintro rfl
  rw [heaterCounter_ofHeater] at hc
  cases hc

theorem takeEdge_count_other (hc : c.ofHeater = false) : (takeEdge h e s).count c = s.count c := by
  simp [takeEdge, count_bump_heaterCounter hc]

theorem edgeDue_count_other (hc : c.ofHeater = false) : (edgeDue h e s).count c = s.count c := by
  unfold edgeDue
  split
  · exact takeEdge_count_other hc
  · simp [count_bump_heaterCounter hc]

theorem overtempTest_count_other {x : Int} (hc : c.ofHeater = false) : (overtempTest h x s).count c = s.count c := by
  have hcancel {u : State} : (cancelOn h u).count c = u.count c := by simp [cancelOn, count_bump_heaterCounter hc]
  unfold overtempTest
  dsimp only
  (repeat' split) <;> simp [count_bump_heaterCounter hc, edgeDue_count_other hc, hcancel]

theorem offForce_count_other (hc : c.ofHeater = false) : (offForce h s).count c = s.count c := by
  unfold offForce
  dsimp only
  split <;> simp [count_bump_heaterCounter hc]

theorem forceByAllowance_count_other (hc : c.ofHeater = false) : (forceByAllowance s).count c = s.count c := by
  unfold forceByAllowance
  dsimp only
  (repeat' split) <;> simp [offForce_count_other hc]

/-! ## What the overtemperature test reads -/

/-- The heaters and their counters stand alike. -/
def State.heatsAs (s t : State) : Prop := t.hc = s.hc ∧ ∀ h k, t.count (heaterCounter h k) = s.count (heaterCounter h k)

theorem State.heatsAs.heater (hs : s.heatsAs t) : t.heater h = s.heater h := by
  unfold State.heater
  rw [hs.1]

theorem State.heatsAs.setHeater {x : Heater} (hs : s.heatsAs t) : (setHeater h x s).heatsAs (setHeater h x t) := by
  refine ⟨?_, fun h' k => by simpa using hs.2 h' k⟩
  cases h <;> simp [Machine.setHeater, hs.1]

theorem State.heatsAs.bump (hs : s.heatsAs t) : (bump (heaterCounter h k) s).heatsAs (bump (heaterCounter h k) t) := by
  refine ⟨hs.1, fun h' k' => ?_⟩
  simp [hs.2]

theorem State.heatsAs.takeEdge (hs : s.heatsAs t) : (takeEdge h e s).heatsAs (takeEdge h e t) := by
  have hset := hs.setHeater (h := h) (x := { s.heater h with
    output := e == .on, edge := none, deferral := 0, carried := if e == .off then none else (s.heater h).carried })
  unfold Machine.takeEdge
  dsimp only
  rw [hs.heater]
  exact State.heatsAs.bump ⟨by simpa using hset.1, fun h' k' => by simpa using hset.2 h' k'⟩

theorem State.heatsAs.edgeDue (hs : s.heatsAs t) (hhot : t.hot = s.hot) (hcs : t.cs = s.cs) :
    (edgeDue h e s).heatsAs (edgeDue h e t) := by
  unfold Machine.edgeDue
  dsimp only
  rw [hhot, deferLimit_congr hcs, hs.heater]
  split
  · exact hs.takeEdge
  · exact hs.setHeater.bump

/-- The overtemperature test reads the heaters, the detector, the levels on the lines and the image. -/
theorem State.heatsAs.overtempTest {x : Int} (hs : s.heatsAs t) (htd : t.td = s.td) (hpins : t.pins = s.pins) (hcs : t.cs = s.cs) :
    (overtempTest h x s).heatsAs (overtempTest h x t) := by
  have hhot : t.hot = s.hot := hot_of_blanks (htd ▸ .refl) hcs
  have hsetpoint : t.setpoint h = s.setpoint h := by
    unfold State.setpoint
    rw [hpins, hcs]
  have hcancel : (cancelOn h s).heatsAs (cancelOn h t) := by
    unfold cancelOn
    rw [hs.heater]
    exact hs.setHeater.bump
  have hcancelled : (if (s.heater h).edge == some .on then cancelOn h s else s).heatsAs
      (if (s.heater h).edge == some .on then cancelOn h t else t) := by
    split
    · exact hcancel
    · exact hs
  unfold Machine.overtempTest
  dsimp only
  rw [hs.heater, hsetpoint, hcancelled.heater]
  split
  · split
    · exact (hcancelled.setHeater.edgeDue (by split <;> simpa [cancelOn] using hhot) (by split <;> simpa [cancelOn] using hcs)).bump
    · exact hcancelled.setHeater.bump
  · exact hs

end

/-! ## The class (R166, R167) -/

section
variable {s : State} {c d : BatClass} {k : Counter}

theorem classChanged_standing : (classChanged s).mc.standing = s.mc.standing := by
  unfold classChanged
  dsimp only
  split
  · simp [tellMode]
  · rw [mc_of_besideEvents (ucHealth_besideEvents)]
    simp [tellMode]

theorem classChanged_count (hk : k.ofHeater = false) (hevents : k.byEvents = false) :
    (classChanged s).count k = (bump .classChanges s).count k := by
  have hforced : (tellMode (forceByAllowance (bump .classChanges s))).count k = (bump .classChanges s).count k := by
    rw [← forceByAllowance_count_other (s := bump .classChanges s) hk]
    rfl
  unfold classChanged
  dsimp only
  split
  · exact hforced
  · rw [count_of_besideEvents ucHealth_besideEvents hevents, hforced]

theorem setClass_of_eq (h : s.bm.cls = c) : setClass c s = s := by simp [setClass, h]

theorem setClass_of_ne (h : s.bm.cls ≠ c) : setClass c s = classChanged (s.setBm { s.bm with cls := c }) := by
  simp [setClass, h]

theorem setClass_bm : (setClass c s).bm = { s.bm with cls := c } := by
  by_cases h : s.bm.cls = c
  · rw [setClass_of_eq h, ← h]
  · rw [setClass_of_ne h]
    simp

theorem setClass_standing : (setClass c s).mc.standing = s.mc.standing := by
  by_cases h : s.bm.cls = c
  · rw [setClass_of_eq h]
  · rw [setClass_of_ne h, classChanged_standing]
    rfl

theorem setClass_count (hk : k.ofHeater = false) (hevents : k.byEvents = false) (hclass : k ≠ .classChanges) :
    (setClass c s).count k = s.count k := by
  by_cases h : s.bm.cls = c
  · rw [setClass_of_eq h]
  · rw [setClass_of_ne h, classChanged_count hk hevents, count_bump, if_neg (Ne.symm hclass)]
    rfl

theorem setClass_count_changes : (setClass c s).count .classChanges =
    if c = s.bm.cls then s.count .classChanges else min (s.count .classChanges + 1) 65535 := by
  by_cases h : s.bm.cls = c
  · rw [setClass_of_eq h, if_pos h.symm]
  · rw [setClass_of_ne h, classChanged_count rfl rfl, if_neg (Ne.symm h)]
    simp

/-- The class rule of R167. -/
theorem nextClass_rule (c d : BatClass) (n : Int) : nextClass c d n true = d ∧
    (c.code < d.code → nextClass c d n false = d) ∧ nextClass c c n false = c ∧
    (d.code < c.code →
      (55 ≤ n → nextClass c d n false = .good) ∧
      (30 ≤ n → n < 55 → nextClass c d n false = if c = .low ∨ c = .critical then .lean else c) ∧
      (15 ≤ n → n < 30 → nextClass c d n false = if c = .critical then .low else c) ∧
      (n < 15 → nextClass c d n false = c)) := by
  have hbetter (h : d.code < c.code) : nextClass c d n false =
      (hysteresisClass n).elim c (fun x => if x.code < c.code then x else c) := by
    unfold nextClass
    rw [if_neg (by decide), if_neg (by omega), if_pos h]
    cases hysteresisClass n <;> rfl
  refine ⟨rfl, fun h => by simp [nextClass, h], by simp [nextClass], fun h => ?_⟩
  rw [hbetter h]
  have hworse : c ≠ .good := by
    rintro rfl
    exact absurd h (Nat.not_lt_zero _)
  refine ⟨fun hn => ?_, fun hn hn' => ?_, fun hn hn' => ?_, fun hn => ?_⟩
  · have hclass : hysteresisClass n = some .good := by simp [hysteresisClass, hn]
    rw [hclass]
    cases c <;> simp_all [BatClass.code]
  · have hclass : hysteresisClass n = some .lean := by simp [hysteresisClass, hn, show ¬ 55 ≤ n by omega]
    rw [hclass]
    cases c <;> simp_all [BatClass.code]
  · have hclass : hysteresisClass n = some .low := by simp [hysteresisClass, hn, show ¬ 55 ≤ n by omega, show ¬ 30 ≤ n by omega]
    rw [hclass]
    cases c <;> simp_all [BatClass.code]
  · have hclass : hysteresisClass n = none := by
      simp [hysteresisClass, show ¬ 55 ≤ n by omega, show ¬ 30 ≤ n by omega, show ¬ 15 ≤ n by omega]
    rw [hclass]
    rfl

end

/-! ## A good poll (R163 to R168) -/

section
variable {s : State} {r : Reading} {k : Counter}

/-- The reading is taken and the charge counted (R163, R164). -/
def charged (r : Reading) (s : State) : State :=
  s.setBm { s.bm with
    eRef := some s.nextRef, staleCount := 0, stale := false, v := some r.v, i := some r.i, temp := some r.t
    q := clampInt (s.bm.q + chargeOf r.i s.deltaT) 0 s.qcap }

/-- The anchors are applied (R165). -/
def anchored (r : Reading) (s : State) : State :=
  match (charged r s).anchor r with
  | some (q, c) => bump c ((charged r s).setBm { (charged r s).bm with q := q, anchored := true })
  | none => charged r s

/-- SOC follows the count (R165). -/
def socTaken (r : Reading) (s : State) : State :=
  (anchored r s).setBm { (anchored r s).bm with soc := (anchored r s).bm.q * 100 / s.qcap }

theorem anchored_moves : ∃ q b, (anchored r s).bm = { (charged r s).bm with q := q, anchored := b } ∧
    (anchored r s).cs = s.cs ∧ (anchored r s).mc = s.mc ∧ (anchored r s).hc = s.hc ∧ (anchored r s).td = s.td ∧
    (anchored r s).pins = s.pins ∧ (anchored r s).cu = s.cu ∧ (anchored r s).uc = s.uc ∧
    ∀ k : Counter, k ≠ .fullAnchors → k ≠ .emptyAnchors → (anchored r s).count k = s.count k := by
  unfold anchored State.anchor
  split
  · next q c h =>
    refine ⟨q, true, rfl, rfl, rfl, rfl, rfl, rfl, rfl, rfl, fun k hfull hempty => ?_⟩
    have hc : c = .fullAnchors ∨ c = .emptyAnchors := by
      split at h
      · cases h; exact .inl rfl
      · split at h
        · cases h; exact .inr rfl
        · cases h
    rw [count_bump, if_neg (by rcases hc with rfl | rfl <;> simp [Ne.symm hfull, Ne.symm hempty])]
    rfl
  · exact ⟨_, _, rfl, rfl, rfl, rfl, rfl, rfl, rfl, rfl, fun _ _ _ => rfl⟩

/-- A full anchor (R165). -/
theorem anchored_full (hv : (s.cs.image.vFull : Int) ≤ r.v) (hi : 0 ≤ r.i) (htaper : r.i ≤ s.cs.image.iTaper) :
    anchored r s = bump .fullAnchors ((charged r s).setBm { (charged r s).bm with q := s.qcap, anchored := true }) := by
  have hanchor : (charged r s).anchor r = some (s.qcap, .fullAnchors) := if_pos ⟨hv, hi, htaper⟩
  unfold anchored
  rw [hanchor]

/-- An empty anchor (R165). -/
theorem anchored_empty (hfull : ¬ ((s.cs.image.vFull : Int) ≤ r.v ∧ 0 ≤ r.i ∧ r.i ≤ s.cs.image.iTaper))
    (hv : r.v ≤ s.cs.image.vEmpty) :
    anchored r s = bump .emptyAnchors ((charged r s).setBm { (charged r s).bm with q := 0, anchored := true }) := by
  have hanchor : (charged r s).anchor r = some (0, .emptyAnchors) := (if_neg hfull).trans (if_pos hv)
  unfold anchored
  rw [hanchor]

/-- No anchor applies (R165). -/
theorem anchored_neither (hfull : ¬ ((s.cs.image.vFull : Int) ≤ r.v ∧ 0 ≤ r.i ∧ r.i ≤ s.cs.image.iTaper))
    (hv : ¬ r.v ≤ s.cs.image.vEmpty) : anchored r s = charged r s := by
  have hanchor : (charged r s).anchor r = none := (if_neg hfull).trans (if_neg hv)
  unfold anchored
  rw [hanchor]

/-- The class that a good poll leads to (R166, R167). -/
def State.polledClass (s : State) (r : Reading) : BatClass :=
  nextClass s.bm.cls (socTaken r s).candidate (socTaken r s).classFigure s.bm.eRef.isNone

/-- The class is taken behind the seven steps' count (R165). -/
def classTaken (r : Reading) (s : State) : State := setClass (s.polledClass r) (socTaken r s)

theorem socTaken_cls : (socTaken r s).bm.cls = s.bm.cls := by
  obtain ⟨q, b, hbm, -⟩ := anchored_moves (s := s) (r := r)
  show (anchored r s).bm.cls = _
  rw [hbm]
  rfl

theorem goodPoll_eq : goodPoll r s = overtempTest .b r.t ((classTaken r s).setBm { (classTaken r s).bm with
    chargeEn := chargeNext (classTaken r s).bm.chargeEn s.cs.image.tCmin s.cs.image.tCmax r.t }) := by
  obtain ⟨-, -, -, hcs, -⟩ := anchored_moves (s := s) (r := r)
  have hcls : (socTaken r s).bm.cls = s.bm.cls := socTaken_cls
  have hcs' : (classTaken r s).cs = s.cs := by simpa [classTaken, socTaken] using hcs
  have hsoc : socTaken r s = (anchored r s).setBm
      { (anchored r s).bm with soc := (anchored r s).bm.q * 100 / (anchored r s).qcap } := by
    unfold socTaken State.qcap
    rw [hcs]
  rw [← hcs']
  unfold classTaken State.polledClass
  rw [← hcls, hsoc]
  rfl

/-- The battery record behind a good poll. -/
theorem goodPoll_bm : (goodPoll r s).bm = { s.bm with
    v := some r.v, i := some r.i, temp := some r.t, q := (anchored r s).bm.q, anchored := (anchored r s).bm.anchored
    eRef := some s.nextRef, soc := (anchored r s).bm.q * 100 / s.qcap, cls := s.polledClass r, staleCount := 0, stale := false
    chargeEn := chargeNext s.bm.chargeEn s.cs.image.tCmin s.cs.image.tCmax r.t } := by
  obtain ⟨q, b, hbm, -⟩ := anchored_moves (s := s) (r := r)
  have hclass : (classTaken r s).bm = { (socTaken r s).bm with cls := s.polledClass r } := setClass_bm
  have hsoc : (socTaken r s).bm = { (anchored r s).bm with soc := (anchored r s).bm.q * 100 / s.qcap } := rfl
  rw [goodPoll_eq, (overtempTest_leaves _ _ _).2.2.2.2.2.2.2.2.2.2.1]
  show ({ (classTaken r s).bm with
    chargeEn := chargeNext (classTaken r s).bm.chargeEn s.cs.image.tCmin s.cs.image.tCmax r.t } : Battery) = _
  rw [hclass, hsoc, hbm]
  rfl

theorem goodPoll_standing : (goodPoll r s).mc.standing = s.mc.standing := by
  obtain ⟨-, -, -, -, hmc, -⟩ := anchored_moves (s := s) (r := r)
  rw [goodPoll_eq, (overtempTest_leaves _ _ _).2.2.2.2.2.2.2.2.2.2.2.1]
  show (setClass _ _).mc.standing = _
  rw [setClass_standing]
  exact congrArg ModeCtl.standing hmc

theorem goodPoll_count (hk : k.ofHeater = false) (hevents : k.byEvents = false) (hclass : k ≠ .classChanges) :
    (goodPoll r s).count k = (anchored r s).count k := by
  rw [goodPoll_eq, overtempTest_count_other hk]
  exact setClass_count hk hevents hclass

theorem goodPoll_count_changes : (goodPoll r s).count .classChanges =
    if s.polledClass r = s.bm.cls then s.count .classChanges else min (s.count .classChanges + 1) 65535 := by
  obtain ⟨-, -, -, -, -, -, -, -, -, -, hcount⟩ := anchored_moves (s := s) (r := r)
  rw [goodPoll_eq, overtempTest_count_other rfl]
  show (setClass _ _).count .classChanges = _
  rw [setClass_count_changes, socTaken_cls, ← hcount .classChanges (by decide) (by decide)]
  rfl

theorem clampInt_eq {x lo hi : Int} (h : lo ≤ hi) : clampInt x lo hi = max lo (min hi x) := by
  unfold clampInt
  split
  · omega
  · split <;> omega

/-- The figure and the candidate of a good poll (R166). -/
theorem polledClass_eq : s.polledClass r =
    (let figure : Int := if (anchored r s).bm.anchored then (anchored r s).bm.q * 100 / s.qcap else s.estimateOf r.v
     nextClass s.bm.cls (if r.v ≤ s.cs.image.vCutoff then .critical else bandOf figure) figure s.bm.eRef.isNone) := by
  obtain ⟨q, b, hbm, hcs, -⟩ := anchored_moves (s := s) (r := r)
  have hv : (socTaken r s).bm.v = some r.v := by
    show (anchored r s).bm.v = _
    rw [hbm]
    rfl
  have hcs' : (socTaken r s).cs = s.cs := hcs
  have hfigure : (socTaken r s).classFigure =
      if (anchored r s).bm.anchored then (anchored r s).bm.q * 100 / s.qcap else s.estimateOf r.v := by
    unfold State.classFigure State.estimateOf
    rw [hv, hcs']
    rfl
  unfold State.polledClass State.candidate
  rw [hfigure, hv, hcs']
  rfl

/-- An anchored battery in class GOOD stays there while SOC is 50 or more (R166, R167). -/
theorem polledClass_of_good {e : Elapsed} (hcls : s.bm.cls = .good) (href : s.bm.eRef = some e) (hv : ¬ r.v ≤ s.cs.image.vCutoff)
    (ha : (anchored r s).bm.anchored = true) (hsoc : 50 ≤ (anchored r s).bm.q * 100 / s.qcap) : s.polledClass r = .good := by
  rw [polledClass_eq]
  dsimp only
  rw [if_neg hv, if_pos ha, hcls, href, bandOf, if_pos hsoc]
  exact (nextClass_rule .good .good _).2.2.1

/-- A good poll that leaves the class moves the Coincidence Unit not, and the heaters by its overtemperature test only. -/
theorem goodPoll_of_same_class (h : s.polledClass r = s.bm.cls) :
    (goodPoll r s).cu = s.cu ∧ (goodPoll r s).hc = (overtempTest .b r.t s).hc := by
  obtain ⟨-, -, -, hcs, hmc, hhc, htd, hpins, hcu, huc, hcount⟩ := anchored_moves (s := s) (r := r)
  have htaken : classTaken r s = socTaken r s := setClass_of_eq (by rw [socTaken_cls, h])
  rw [goodPoll_eq, htaken]
  have hheats : s.heatsAs ((socTaken r s).setBm { (socTaken r s).bm with
      chargeEn := chargeNext (socTaken r s).bm.chargeEn s.cs.image.tCmin s.cs.image.tCmax r.t }) :=
    ⟨hhc, fun h k => hcount _ (by cases h <;> cases k <;> decide) (by cases h <;> cases k <;> decide)⟩
  refine ⟨?_, (hheats.overtempTest htd hpins hcs).1⟩
  rw [(overtempTest_leaves _ _ _).2.2.2.2.2.2.2.2.1]
  exact hcu

theorem chargeNext_eq {on : Bool} {lo hi t : Int} :
    chargeNext on lo hi t = if on then decide (lo ≤ t ∧ t ≤ hi) else decide (lo + 10 ≤ t ∧ t ≤ hi - 10) := by
  unfold chargeNext
  split
  · rw [Bool.eq_iff_iff]
    simp
  · rfl

theorem nextRef_of_some {e : Elapsed} (h : s.bm.eRef = some e) :
    s.nextRef = e + BitVec.ofNat 48 (since s.now e / 1048576 * 1048576) := by
  simp [State.nextRef, State.deltaT, h]

theorem nextRef_of_none (h : s.bm.eRef = none) : s.nextRef = s.now := by simp [State.nextRef, h]

end

/-! ## The end of a battery transaction (R160, R201) -/

section
variable {s t : State} {r : TwEnd 6} {n : Nat} {k : Counter}

theorem twEnd_twm {r : TwEnd n} : (twEnd r s).twm = { s.twm with bus := none } := by
  unfold twEnd twCountEnd
  cases r <;> simp

theorem twEnd_count {r : TwEnd n} (hnack : k ≠ .twNacks) (htimeout : k ≠ .stretchTimeouts) (hstuck : k ≠ .busStucks) :
    (twEnd r s).count k = s.count k := by
  unfold twEnd twCountEnd
  cases r <;> simp [Ne.symm hnack, Ne.symm htimeout, Ne.symm hstuck]

/-- A poll's transaction leaves the brief-run users. -/
def usersLeft (s : State) : State := entryWorkLeaves (pollLeaves s)

@[simp] theorem usersLeft_leaves :
    (usersLeft s).pins = s.pins ∧ (usersLeft s).tb = s.tb ∧ (usersLeft s).rmu = s.rmu ∧ (usersLeft s).lc = s.lc ∧
    (usersLeft s).peers = s.peers ∧ (usersLeft s).tau = s.tau ∧ (usersLeft s).si = s.si ∧ (usersLeft s).td = s.td ∧
    (usersLeft s).cu = s.cu ∧ (usersLeft s).uc = s.uc ∧ (usersLeft s).bm = s.bm ∧ (usersLeft s).hc = s.hc ∧
    (usersLeft s).twm = s.twm ∧ (usersLeft s).cs = s.cs ∧ (usersLeft s).counters = s.counters := by simp [usersLeft]

theorem usersLeft_mc : (usersLeft s).mc = { s.mc with users := (usersLeft s).mc.users } := by
  unfold usersLeft entryWorkLeaves pollLeaves
  split <;> rfl

@[simp] theorem usersLeft_count : (usersLeft s).count k = s.count k := count_of_counters_eq (by simp)

theorem usersLeft_firm (h : s.Firm) : (usersLeft s).Firm := by
  unfold State.Firm State.Settled
  rw [usersLeft_mc]
  simpa [State.Firm, State.Settled] using h

/-- The end of a wanted battery transaction. -/
theorem exec_batteryResult (h : s.onBusFor .battery r) :
    exec (.batteryResult r) s = .next (finish (usersLeft (batteryEnds r (twEnd r s)))) := by
  obtain ⟨b, hb, hwanted⟩ := twEnding_of_onBusFor h
  show Host.Outcome.next (match s.twEnding .battery r with | none => s | some b => _) = _
  rw [hb]
  show Host.Outcome.next (finish (entryWorkLeaves (pollLeaves (if b.wanted then _ else _)))) = _
  rw [hwanted, if_pos rfl]
  rfl

/-- Outside START the result is taken and the mode evaluated (R160, R184). -/
theorem batteryEnds_outside_start (h : (bmBattery r s).mc.standing ≠ .firstPoll) : batteryEnds r s = tellMode (bmBattery r s) := by
  unfold batteryEnds
  exact if_neg (by simpa [tellMode] using h)

end

end Sys2Proof.Machine

section
open Sys2Proof Sys2Proof.Machine
set_option Elab.async false

/-- The first part of O56: what a good poll does to the Battery Monitor. -/
theorem goodPoll_moves_battery (s : State) (x : Reading) :
    (let t := goodPoll x s
     let i := s.cs.image
     let dt : Nat := match s.bm.eRef with
       | some e => since s.now e / 1048576
       | none => 0
     let cap : Int := i.capacity * 3600000
     let counted : Int := max 0 (min cap (s.bm.q + (if 0 < x.i then x.i * dt * 15 / 16 else x.i * dt)))
     let full : Prop := (i.vFull : Int) ≤ x.v ∧ 0 ≤ x.i ∧ x.i ≤ i.iTaper
     let empty : Prop := ¬ full ∧ x.v ≤ i.vEmpty
     (full → t.bm.q = cap ∧ t.bm.anchored = true ∧ t.count .fullAnchors = min (s.count .fullAnchors + 1) 65535 ∧
       t.count .emptyAnchors = s.count .emptyAnchors) ∧
     (empty → t.bm.q = 0 ∧ t.bm.anchored = true ∧ t.count .emptyAnchors = min (s.count .emptyAnchors + 1) 65535 ∧
       t.count .fullAnchors = s.count .fullAnchors) ∧
     (¬ full → ¬ empty → t.bm.q = counted ∧ t.bm.anchored = s.bm.anchored ∧ t.count .fullAnchors = s.count .fullAnchors ∧
       t.count .emptyAnchors = s.count .emptyAnchors)) := by
  have hfullCount := goodPoll_count (s := s) (r := x) (k := .fullAnchors) rfl rfl (by decide)
  have hemptyCount := goodPoll_count (s := s) (r := x) (k := .emptyAnchors) rfl rfl (by decide)
  have hq : (goodPoll x s).bm.q = (anchored x s).bm.q := by rw [goodPoll_bm]
  have ha : (goodPoll x s).bm.anchored = (anchored x s).bm.anchored := by rw [goodPoll_bm]
  have hcap : s.qcap = (s.cs.image.capacity * 3600000 : Int) := by
    unfold State.qcap
    push_cast
    rfl
  intro t i dt cap counted full empty
  have hcharge : (charged x s).bm.q = counted := by
    have hdt : s.deltaT = dt := by
      simp only [State.deltaT, dt]
      cases s.bm.eRef <;> rfl
    show clampInt (s.bm.q + chargeOf x.i s.deltaT) 0 s.qcap = _
    rw [clampInt_eq (by rw [hcap]; positivity), hdt, hcap]
    rfl
  refine ⟨fun hfull => ?_, fun hempty => ?_, fun hfull hempty => ?_⟩
  · obtain ⟨hv, hi, htaper⟩ := hfull
    have hanchored := anchored_full hv hi htaper
    refine ⟨?_, ?_, ?_, ?_⟩
    · rw [hq, hanchored]; exact hcap
    · rw [ha, hanchored]; rfl
    · rw [hfullCount, hanchored]; simp [charged]
    · rw [hemptyCount, hanchored]; simp [charged]
  · obtain ⟨hfull, hv⟩ := hempty
    have hanchored := anchored_empty hfull hv
    refine ⟨?_, ?_, ?_, ?_⟩
    · rw [hq, hanchored]; rfl
    · rw [ha, hanchored]; rfl
    · rw [hemptyCount, hanchored]; simp [charged]
    · rw [hfullCount, hanchored]; simp [charged]
  · have hanchored := anchored_neither hfull fun hv => hempty ⟨hfull, hv⟩
    exact ⟨by rw [hq, hanchored, hcharge], by rw [ha, hanchored]; rfl, by rw [hfullCount, hanchored]; rfl,
      by rw [hemptyCount, hanchored]; rfl⟩

/-- Settles O56. -/
theorem goodPollCountsTheCharge : Obligations.GoodPollCountsTheCharge := by
  refine ⟨fun s x => ?_, ?_, nextClass_rule⟩
  · obtain ⟨hfull, hempty, hneither⟩ := goodPoll_moves_battery s x
    have hbm := goodPoll_bm (s := s) (r := x)
    obtain ⟨-, -, htb, hrmu, -, hpeers, -, hsi, htwm, hcs, -⟩ := goodPoll_leaves x s
    have hcls : (goodPoll x s).bm.cls = s.polledClass x := by rw [hbm]
    refine ⟨by rw [hbm], by rw [hbm], by rw [hbm], by rw [hbm], by rw [hbm], fun e he => ?_, fun he => ?_, hfull, hempty, hneither, ?_,
      ?_, ?_, ?_, ?_, htb, hrmu, hpeers, hsi, htwm, hcs, goodPoll_standing⟩
    · simp only [hbm, nextRef_of_some he, he]
    · rw [hbm]
      exact congrArg some (nextRef_of_none he)
    · rw [hbm]
      simp [State.qcap]
    · have hestimate : s.estimateOf x.v =
          max 0 (min 100 ((x.v - s.cs.image.vEmpty) * 100 / ((s.cs.image.vFull : Int) - s.cs.image.vEmpty))) :=
        clampInt_eq (by decide)
      have ha : (goodPoll x s).bm.anchored = (anchored x s).bm.anchored := by rw [hbm]
      have hsoc : (goodPoll x s).bm.soc = (anchored x s).bm.q * 100 / s.qcap := by rw [hbm]
      rw [hcls, polledClass_eq, hestimate, ← ha, ← hsoc]
      rfl
    · rw [goodPoll_count_changes, hcls]
    · rw [hbm]
      exact chargeNext_eq
    · simp only [hbm]
  · intro s v e x hsteady hcd hrdy hbus href hx hv1 hv2 ht1 ht2 hanch hcap hcut hempty dt cap q full hgood
    have hplausible : (readingOf v.toList).plausible = true := by
      rw [← hx]
      simp [Reading.plausible, plausibleTemp, hv1, hv2, ht1, ht2]
    let w := s.setTwm { s.twm with bus := none }
    have hpoll : bmBattery (.complete v) w = goodPoll x w := by
      rw [hx]
      exact if_pos hplausible
    have hends : batteryEnds (.complete v) w = tellMode (goodPoll x w) := by
      rw [batteryEnds_outside_start, hpoll]
      rw [hpoll, goodPoll_standing, show w.mc.standing = .active from hsteady.active]
      decide
    obtain ⟨hfull, -, hneither⟩ := goodPoll_moves_battery w x
    have hbm := goodPoll_bm (s := w) (r := x)
    have hqcap : w.qcap = cap := by simp [State.qcap, cap, w]
    have hcap' : 0 < cap := by simp only [cap]; omega
    have hcounted : max 0 (min cap (s.bm.q + (if 0 < x.i then x.i * dt * 15 / 16 else x.i * dt))) = q :=
      (clampInt_eq hcap'.le).symm
    have hnone : ¬ (¬ full ∧ x.v ≤ s.cs.image.vEmpty) := fun h => absurd h.2 (by omega)
    have hwhen : (full → (anchored x w).bm.q = cap) ∧ (¬ full → (anchored x w).bm.q = q) ∧ (anchored x w).bm.anchored = true := by
      have hqbm : (goodPoll x w).bm.q = (anchored x w).bm.q := by rw [hbm]
      have habm : (goodPoll x w).bm.anchored = (anchored x w).bm.anchored := by rw [hbm]
      rw [← hqbm, ← habm]
      refine ⟨fun h => (hfull h).1, fun h => ?_, ?_⟩
      · rw [← hcounted, (hneither h hnone).1]
        simp only [show w.bm.eRef = some e from href]
        rfl
      · by_cases h : full
        · exact (hfull h).2.1
        · exact (hneither h hnone).2.1.trans hanch
    obtain ⟨hqfull, hqelse, hanchored⟩ := hwhen
    have hsoc : (full → (anchored x w).bm.q * 100 / w.qcap = 100) ∧ 50 ≤ (anchored x w).bm.q * 100 / w.qcap := by
      have hfull100 (h : full) : (anchored x w).bm.q * 100 / w.qcap = 100 := by
        rw [hqfull h, hqcap]
        exact Int.mul_ediv_cancel_left _ hcap'.ne'
      refine ⟨hfull100, ?_⟩
      by_cases h : full
      · rw [hfull100 h]; decide
      · rw [hqelse h, hqcap]
        exact hgood.resolve_left h
    have hstays : w.polledClass x = .good := polledClass_of_good hsteady.good href (by
      show ¬ x.v ≤ s.cs.image.vCutoff
      omega) hanchored hsoc.2
    obtain ⟨hcu, hhc⟩ := goodPoll_of_same_class (hstays.trans (show BatClass.good = w.bm.cls from hsteady.good.symm))
    let u := usersLeft (tellMode (goodPoll x w))
    have hfirm : u.Firm := usersLeft_firm (.inr ⟨goodPoll_standing.trans hsteady.active, by
      show (goodPoll x w).bm.cls = _
      rw [hbm]
      exact hstays⟩)
    have hubm : u.bm = (goodPoll x w).bm := by simp [u, tellMode]
    have hucount (k : Counter) : u.count k = (goodPoll x w).count k := usersLeft_count
    obtain ⟨-, -, htb', hrmu', hpeers', -, -, -, hbm', hhc', -, -⟩ := hfirm.leaves
    have hbmt : (finish u).bm = (goodPoll x w).bm := hbm'.trans hubm
    have hupins : u.pins = s.pins := by simp [u, tellMode, w]
    refine ⟨finish u, ?_, ?_, ?_, ?_, ?_, ?_, ?_, ?_, fun h => ⟨?_, ?_, ?_⟩, fun h => ⟨?_, ?_, ?_⟩, ?_, ?_, ?_, ?_, ?_, ?_, ?_, ?_, ?_⟩
    · rw [exec_batteryResult ⟨hbus, by simp⟩]
      exact congrArg (fun y => Host.Outcome.next (finish (usersLeft y))) hends
    · rw [hbmt, hbm]
    · rw [hbmt, hbm]
    · rw [hbmt, hbm]
    · rw [hbmt, hbm]
    · rw [hbmt, hbm]
    · rw [hbmt, hbm]
      exact congrArg some (nextRef_of_some href)
    · rw [hbmt, hbm]
      exact hanchored
    · rw [hbmt, hbm]
      exact hqfull h
    · rw [hbmt, hbm]
      exact hsoc.1 h
    · rw [hfirm.count, hucount]
      exact (hfull h).2.2.1
    · rw [hbmt, hbm]
      exact hqelse h
    · rw [hbmt, hbm]
      show _ / w.qcap = _
      rw [hqcap]
      exact congrArg (fun y => y * 100 / cap) (hqelse h)
    · rw [hfirm.count, hucount]
      exact (hneither h hnone).2.2.1
    · rw [hbmt, hbm]
      exact hstays
    · rw [hfirm.count, hucount, goodPoll_count_changes, if_pos (hstays.trans (show BatClass.good = w.bm.cls from hsteady.good.symm))]
      rfl
    · rw [hfirm.standing]
      show (usersLeft (tellMode (goodPoll x w))).mc.standing = _
      rw [usersLeft_mc]
      exact goodPoll_standing.trans hsteady.active
    · rw [hbmt, hbm]
      exact chargeNext_eq
    · rw [htb']
      simp [u, tellMode, w]
    · rw [hrmu']
      simp [u, tellMode, w]
    · rw [hpeers']
      simp [u, tellMode, w]
    · rw [hfirm.cu (by rw [hupins]; exact hcd) (.inl (by rw [hupins]; exact hrdy))]
      simp [u, tellMode, hcu, w]
    · rw [hhc']
      have hoverheats : s.heatsAs w := ⟨rfl, fun _ _ => rfl⟩
      simp only [u, usersLeft_leaves]
      exact hhc.trans (hoverheats.overtempTest rfl rfl rfl).1

end

/-! PROOFS. The overtemperature test of a heater, failed and rejected polls, and the sensors' results. -/
namespace Sys2Proof.Machine
set_option Elab.async false

/-! ## The overtemperature test (R174) -/

section
variable {s t : State} {h h' : HeaterId} {k : HeaterCount} {e : Edge} {x : Heater} {reading : Int}

/-- The frame's heating is over (R174), written out. -/
theorem heatingOver_iff : x.heatingOver = true ↔ x.level = .off ∨ (x.level = .quarter ∧ ∃ p, x.pos = some p ∧ 3 ≤ p) ∨
    (x.level = .third ∧ ∃ p, x.pos = some p ∧ 4 ≤ p) ∨ (x.level = .half ∧ ∃ p, x.pos = some p ∧ 6 ≤ p) := by
  unfold Heater.heatingOver
  cases hl : x.level <;> cases hp : x.pos <;> simp [Level.offPoint]

theorem edgeDue_count_others (htaken : k ≠ .taken) (hdeferred : k ≠ .deferred) :
    (edgeDue h e s).count (heaterCounter h k) = s.count (heaterCounter h k) := by
  unfold edgeDue
  split
  · exact takeEdge_stands htaken
  · simp [heaterCounter_injective, Ne.symm hdeferred]

theorem edgeDue_onTime : ((edgeDue h e s).heater h).onTime = (s.heater h).onTime := by
  unfold edgeDue
  split
  · simp [takeEdge_heater]
  · simp

/-- The state at which an OFF falls due in the overtemperature test: a pending ON is cancelled, and the level is OFF. -/
def overtempBegun (h : HeaterId) (s : State) : State :=
  let a := if (s.heater h).edge == some .on then cancelOn h s else s
  setHeater h { a.heater h with level := .off } a

theorem overtempBegun_heater : (overtempBegun h s).heater h =
    if (s.heater h).edge = some .on then { s.heater h with level := .off, edge := none, deferral := 0 }
    else { s.heater h with level := .off } := by
  unfold overtempBegun
  by_cases hon : (s.heater h).edge = some .on <;> simp [hon, cancelOn]

theorem overtempBegun_count : (overtempBegun h s).count (heaterCounter h k) =
    if (s.heater h).edge = some .on ∧ k = .cancelled then min (s.count (heaterCounter h k) + 1) 65535
    else s.count (heaterCounter h k) := by
  unfold overtempBegun
  by_cases hon : (s.heater h).edge = some .on
  · by_cases hk : k = .cancelled
    · subst hk
      simp [hon, cancelOn]
    · simp [hon, hk, Ne.symm hk, cancelOn, heaterCounter_injective]
  · simp [hon]

theorem overtempBegun_leaves : (overtempBegun h s).hot = s.hot ∧ (overtempBegun h s).deferLimit h = s.deferLimit h := by
  unfold overtempBegun
  dsimp only
  have hlimit : ∀ c : Counter, ∀ u : State, (bump c u).deferLimit h = u.deferLimit h := fun _ _ => deferLimit_congr rfl
  split <;> simp [cancelOn, hlimit]

theorem overtempTest_of_over (h' : reading < s.setpoint h + 10 ∨ (s.heater h).heatingOver = true) : overtempTest h reading s = s := by
  unfold overtempTest
  refine if_neg ?_
  rcases h' with h' | h' <;> simp [h']

theorem overtempTest_of_hot (hreading : s.setpoint h + 10 ≤ reading) (hover : (s.heater h).heatingOver = false) :
    overtempTest h reading s = bump (heaterCounter h .overtemp)
      (if (s.heater h).output && (s.heater h).edge != some .off then edgeDue h .off (overtempBegun h s) else overtempBegun h s) := by
  unfold overtempTest
  exact if_pos (by simp [hreading, hover])

theorem worksOn_overtempTest : s.worksOn h (overtempTest h reading s) := by
  have hcancel : s.worksOn h (if (s.heater h).edge == some .on then cancelOn h s else s) := by
    split
    · exact worksOn_cancelOn
    · exact worksOn_refl
  have hbegun : s.worksOn h (overtempBegun h s) := hcancel.trans worksOn_setHeater
  by_cases hreading : s.setpoint h + 10 ≤ reading
  · cases hover : (s.heater h).heatingOver with
    | true =>
      rw [overtempTest_of_over (.inr hover)]
      exact worksOn_refl
    | false =>
      rw [overtempTest_of_hot hreading hover]
      split
      · exact (hbegun.trans worksOn_edgeDue).trans worksOn_bump
      · exact hbegun.trans worksOn_bump
  · rw [overtempTest_of_over (.inl (by omega))]
    exact worksOn_refl

/-- The test at a reading that ends the frame's heating (R174, R175). -/
theorem overtempTest_facts (hreading : s.setpoint h + 10 ≤ reading) (hover : (s.heater h).heatingOver = false) :
    (let t := overtempTest h reading s
     let x := s.heater h
     let y := t.heater h
     let rises (k : HeaterCount) : Prop := t.count (heaterCounter h k) = min (s.count (heaterCounter h k) + 1) 65535
     let stands (k : HeaterCount) : Prop := t.count (heaterCounter h k) = s.count (heaterCounter h k)
     y.level = .off ∧ y.pos = x.pos ∧ y.onTime = x.onTime ∧ rises .overtemp ∧
       (x.edge = some .on → rises .cancelled) ∧ (x.edge ≠ some .on → stands .cancelled) ∧
       (x.output = false → y.output = false ∧ stands .taken ∧ stands .deferred ∧
         y.edge = (if x.edge = some .on then none else x.edge)) ∧
       (x.output = true → x.edge = some .off → y = { x with level := .off } ∧ stands .taken ∧ stands .deferred) ∧
       (x.output = true → x.edge ≠ some .off →
         (s.hot = false ∨ s.deferLimit h = 0 →
           y.output = false ∧ y.edge = none ∧ y.carried = none ∧ rises .taken ∧ stands .deferred) ∧
         (s.hot = true → s.deferLimit h ≠ 0 →
           y.output = true ∧ y.edge = some .off ∧ y.deferral = x.carried.getD 0 ∧ rises .deferred ∧ stands .taken))) := by
  have hbegun := overtempBegun_heater (s := s) (h := h)
  have hcount (k : HeaterCount) := overtempBegun_count (s := s) (h := h) (k := k)
  obtain ⟨hhot, hlimit⟩ := overtempBegun_leaves (s := s) (h := h)
  rw [overtempTest_of_hot hreading hover]
  by_cases hdue : (s.heater h).output = true ∧ (s.heater h).edge ≠ some .off
  · obtain ⟨houtput, hedge⟩ := hdue
    rw [if_pos (by simp [houtput, hedge])]
    obtain ⟨hnow, hlater⟩ := edgeDue_due (s := overtempBegun h s) (h := h) (e := .off)
    obtain ⟨⟨hpos, hlevel⟩, -⟩ := edges_keep_frame (s := overtempBegun h s) (h := h) (e := .off)
    have honTime := edgeDue_onTime (s := overtempBegun h s) (h := h) (e := .off)
    have hother {k : HeaterCount} := edgeDue_count_others (s := overtempBegun h s) (h := h) (e := .off) (k := k)
    have hbx : ((overtempBegun h s).heater h).level = .off ∧ ((overtempBegun h s).heater h).pos = (s.heater h).pos ∧
        ((overtempBegun h s).heater h).onTime = (s.heater h).onTime ∧
        ((overtempBegun h s).heater h).carried = (s.heater h).carried ∧ ((overtempBegun h s).heater h).output = true := by
      rw [hbegun]
      split <;> simp [houtput]
    obtain ⟨hblevel, hbpos, hbonTime, hbcarried, hboutput⟩ := hbx
    simp only [HeaterStep.Takes, HeaterStep.Waits, HeaterStep.Rises, HeaterStep.Stands, State.heaterStep, State.view, hhot, hlimit,
      hbcarried, hboutput, hcount] at hnow hlater
    simp only [heater_bump, hlevel, hblevel, hpos, hbpos, honTime, hbonTime, count_bump, heaterCounter_injective, true_and,
      hother (k := .overtemp) (by decide) (by decide), hother (k := .cancelled) (by decide) (by decide), hcount]
    refine ⟨by simp, fun hon => by simp [hon], fun hon => by simp [hon], fun hoff => ?_, fun _ hoff => absurd hoff hedge, fun _ _ => ⟨fun hh => ?_, fun hh hl => ?_⟩⟩
    · rw [houtput] at hoff
      cases hoff
    · obtain ⟨⟨h1, h2, h3, h4, -⟩, h5⟩ := hnow hh
      exact ⟨by simpa using h1, h2, h4 trivial, by simpa using h3, by simpa using h5⟩
    · obtain ⟨⟨h1, h2, h3, h4⟩, h5⟩ := hlater hh hl
      exact ⟨h1, h2, h3, by simpa using h5, by simpa using h4⟩
  · rw [if_neg (by simpa using hdue)]
    simp only [heater_bump, hbegun, count_bump, heaterCounter_injective, hcount]
    have hidle : (s.heater h).output = true → (s.heater h).edge = some .off := by simpa using hdue
    refine ⟨?_, ?_, ?_, by simp, fun hon => by simp [hon], fun hon => by simp [hon], fun hoff => ⟨?_, by simp, by simp, ?_⟩,
      fun _ hoff => by simp [hoff], fun ho he => absurd (hidle ho) he⟩ <;> split <;> simp_all

end

/-! ## A change of mode whose poll finds the battery free (R158, R159) -/

section
variable {s t u : State}

/-- A poll that finds the battery free moves no more than this from `s` to `t`. -/
structure State.PolledFree (s t : State) : Prop where
  bm : t.bm = { s.bm with
    staleCountA := t.bm.staleCountA, staleA := t.bm.staleA, staleCountB := t.bm.staleCountB, staleB := t.bm.staleB
    pollTimer := t.bm.pollTimer, lastPoll := t.bm.lastPoll }
  mc : t.mc = { s.mc with users := { s.mc.users with poll := t.mc.users.poll } }
  td : t.td = s.td
  hc : t.hc = s.hc
  cu : t.cu = s.cu
  uc : t.uc = s.uc
  count : ∀ c : Counter, c ≠ .pollOverruns → c ≠ .failuresA → c ≠ .failuresB → t.count c = s.count c

theorem State.PolledFree.refl : s.PolledFree s := ⟨rfl, rfl, rfl, rfl, rfl, rfl, fun _ _ _ _ => rfl⟩

theorem State.PolledFree.trans (h : s.PolledFree t) (g : t.PolledFree u) : s.PolledFree u where
  bm := by rw [g.bm, h.bm]
  mc := by rw [g.mc, h.mc]
  td := g.td.trans h.td
  hc := g.hc.trans h.hc
  cu := g.cu.trans h.cu
  uc := g.uc.trans h.uc
  count c h1 h2 h3 := (g.count c h1 h2 h3).trans (h.count c h1 h2 h3)

theorem polledFree_twRequest {x : TwUser} : s.PolledFree (twRequest x s) := ⟨rfl, rfl, rfl, rfl, rfl, rfl, fun _ _ _ _ => rfl⟩

theorem polledFree_sensorOverrun {x : TempSensor} : s.PolledFree (sensorOverrun x (bump .pollOverruns s)) := by
  cases x <;> refine ⟨rfl, rfl, rfl, rfl, rfl, rfl, fun c h1 h2 h3 => ?_⟩
  · show (bump .failuresA (bump .pollOverruns s)).count c = _
    rw [count_bump, if_neg (Ne.symm h2), count_bump, if_neg (Ne.symm h1)]
  · show (bump .failuresB (bump .pollOverruns s)).count c = _
    rw [count_bump, if_neg (Ne.symm h3), count_bump, if_neg (Ne.symm h1)]

theorem polledFree_sensor {x : TempSensor} {y : TwUser} : s.PolledFree (pollDevice y (sensorOverrun x) s) := by
  unfold pollDevice
  split
  · exact polledFree_sensorOverrun
  · exact polledFree_twRequest

theorem polledFree_pollTimed : s.PolledFree (pollTimed s) := ⟨rfl, rfl, rfl, rfl, rfl, rfl, fun _ _ _ _ => rfl⟩

theorem polledFree_pollJoins : s.PolledFree (pollJoins s) := by
  unfold pollJoins
  split
  · exact ⟨rfl, rfl, rfl, rfl, rfl, rfl, fun _ _ _ _ => rfl⟩
  · exact .refl

theorem polledFree_makePoll (h : s.twm.busyFor .battery = false) : s.PolledFree (makePoll s) := by
  have hpoll : makePoll s = pollJoins (pollTimed (pollDevice .tempB (sensorOverrun .b)
      (pollDevice .tempA (sensorOverrun .a) (pollDevice .battery batteryMissed s)))) := rfl
  rw [hpoll, pollDevice_of_free h]
  exact (((polledFree_twRequest.trans polledFree_sensor).trans polledFree_sensor).trans polledFree_pollTimed).trans
    polledFree_pollJoins

theorem polledFree_pollModeChange (h : s.twm.busyFor .battery = false) : s.PolledFree (pollModeChange s) := by
  unfold pollModeChange
  split
  · split
    · exact polledFree_makePoll h
    · exact ⟨rfl, rfl, rfl, rfl, rfl, rfl, fun _ _ _ _ => rfl⟩
  · exact ⟨rfl, rfl, rfl, rfl, rfl, rfl, fun _ _ _ _ => rfl⟩
  · exact ⟨rfl, rfl, rfl, rfl, rfl, rfl, fun _ _ _ _ => rfl⟩

theorem recalibrated_congr (htb : t.tb = s.tb) (hstanding : t.mc.standing = s.mc.standing) : t.recalibrated = s.recalibrated := by
  unfold State.recalibrated State.calRuns State.awake State.startTimer State.now
  rw [htb, hstanding]

/-- A change between ACTIVE and ECONOMY whose poll finds the battery free. -/
theorem changeAwake_free {x : Standing} (h : s.twm.busyFor .battery = false) :
    (setStanding x s).PolledFree (pollModeChange (setStanding x s)) ∧ (changeAwake x s).bm = (pollModeChange (setStanding x s)).bm ∧
    (changeAwake x s).mc = (pollModeChange (setStanding x s)).mc ∧
    (changeAwake x s).td = s.td ∧ (changeAwake x s).hc = s.hc ∧ (changeAwake x s).cu = s.cu ∧ (changeAwake x s).uc = s.uc ∧
    (changeAwake x s).tb = (setStanding x s).recalibrated ∧
    ∀ c : Counter, c ≠ .pollOverruns → c ≠ .failuresA → c ≠ .failuresB → c ≠ .calibrationDiscards →
      (changeAwake x s).count c = s.count c := by
  have hpoll := polledFree_pollModeChange (s := setStanding x s) h
  refine ⟨hpoll, by simp [changeAwake], by simp [changeAwake], by simpa [changeAwake] using hpoll.td,
    by simpa [changeAwake] using hpoll.hc, by simpa [changeAwake] using hpoll.cu, by simpa [changeAwake] using hpoll.uc, ?_,
    fun c h1 h2 h3 h4 => (calModeChange_count h4).trans (hpoll.count c h1 h2 h3)⟩
  have htb : (changeAwake x s).tb = (pollModeChange (setStanding x s)).recalibrated := by
    show (calModeChange _).tb = _
    rw [calModeChange_eq]
    simp
  rw [htb]
  refine recalibrated_congr (by simp) ?_
  rw [hpoll.mc]

/-! ## The class LOW in ACTIVE (R184 to R186) -/

/-- The beginning of a DORMANT entry (R186). -/
theorem beginEntry_moves : (beginEntry s).mc = { s.mc with standing := .entering } ∧
    (beginEntry s).lc = { s.lc with slots := { s.lc.slots with beacon := some { moment := s.now, mark := .entry } } } ∧
    (beginEntry s).count .dormantEntriesBegun = min (s.count .dormantEntriesBegun + 1) 65535 ∧
    ∀ c : Counter, c ≠ .dormantEntriesBegun → (beginEntry s).count c = s.count c := by
  have hmc : (fillBeacon .entry (setStanding .entering s)).mc = { s.mc with standing := .entering } := by
    rw [fillBeacon_mc, if_neg (by simp [State.dormant, setStanding, Standing.inDormant])]
    rfl
  have hcount (c : Counter) : (fillBeacon .entry (setStanding .entering s)).count c = s.count c :=
    count_of_counters_eq (by simp [setStanding])
  refine ⟨hmc, ?_, ?_, fun c hc => ?_⟩
  · show (fillBeacon .entry (setStanding .entering s)).lc = _
    rw [fillBeacon_lc]
    rfl
  · show (bump _ _).count _ = _
    rw [count_bump, if_pos rfl, hcount]
  · show (bump _ _).count _ = _
    rw [count_bump, if_neg (Ne.symm hc), hcount]

/-- The battery record beside the sensors and the poll timer stands. -/
def Battery.sameBeside (a b : Battery) : Prop := b = { a with
  staleCountA := b.staleCountA, staleA := b.staleA, staleCountB := b.staleCountB, staleB := b.staleB
  pollTimer := b.pollTimer, lastPoll := b.lastPoll }

/-- A station in ACTIVE whose class is LOW goes to ECONOMY and on, where it may, to a DORMANT entry. -/
theorem evaluate_active_low (hactive : s.mc.standing = .active) (hlow : s.bm.cls = .low) (hfree : s.twm.busyFor .battery = false)
    (hset : s.Settled) :
    (evaluateMode s).Settled ∧ ((evaluateMode s).mc.standing = .watching ∨ (evaluateMode s).mc.standing = .entering) ∧
    s.bm.sameBeside (evaluateMode s).bm ∧ (evaluateMode s).td = s.td ∧ (evaluateMode s).hc = s.hc ∧
    (evaluateMode s).cu = s.cu ∧ (evaluateMode s).pins = s.pins ∧ (evaluateMode s).cs = s.cs ∧
    (evaluateMode s).tb.time = s.tb.time ∧
    ∀ c : Counter, c ≠ .pollOverruns → c ≠ .failuresA → c ≠ .failuresB → c ≠ .calibrationDiscards → c ≠ .dormantEntriesBegun →
      (evaluateMode s).count c = s.count c := by
  obtain ⟨hpoll, hbm, hmc, htd, hhc, hcu, -, htb, hcount⟩ := changeAwake_free (x := .watching) hfree
  have hpins : (changeAwake .watching s).pins = s.pins := by simp [changeAwake, setStanding]
  have hcs : (changeAwake .watching s).cs = s.cs := by simp [changeAwake, setStanding]
  have hstanding : (changeAwake .watching s).mc.standing = .watching := changeAwake_standing
  have hcset : (changeAwake .watching s).Settled := by
    rw [State.Settled, hmc, hpoll.mc]
    exact hset
  have hchange : (changeAwake .watching s).Settled ∧ s.bm.sameBeside (changeAwake .watching s).bm ∧
      (changeAwake .watching s).tb.time = s.tb.time := ⟨hcset, by rw [hbm]; exact hpoll.bm, by rw [htb]; rfl⟩
  have hdormant : s.dormant = false := by simp [State.dormant, Standing.inDormant, hactive]
  have heval : evaluateMode s = changeAwake .watching s ∨ evaluateMode s = beginEntry (changeAwake .watching s) := by
    unfold evaluateMode State.wantedMode
    rw [hactive, hlow, hdormant]
    dsimp only
    cases s.dormancyConditions with
    | false => exact .inl rfl
    | true =>
      show tryEntry _ = _ ∨ tryEntry _ = _
      unfold tryEntry
      split
      · exact .inl rfl
      · exact .inr rfl
  obtain ⟨hcset, hcbm, hctime⟩ := hchange
  rcases heval with heval | heval <;> rw [heval]
  · exact ⟨hcset, .inl hstanding, hcbm, htd, hhc, hcu, hpins, hcs, hctime, fun c h1 h2 h3 h4 _ => hcount c h1 h2 h3 h4⟩
  · obtain ⟨hbmc, -, -, hbcount⟩ := beginEntry_moves (s := changeAwake .watching s)
    refine ⟨?_, .inr (by rw [hbmc]), by simpa using hcbm, by simpa using htd, by simpa using hhc, by simpa using hcu,
      by simp [changeAwake, setStanding], by simp [changeAwake, setStanding], by simpa using hctime, fun c h1 h2 h3 h4 h5 => (hbcount c h5).trans (hcount c h1 h2 h3 h4)⟩
    rw [State.Settled, hbmc]
    exact hcset

/-- A blanking request of n samples at the detector (R97). -/
def Trigger.blankedBy (n : Nat) (x : Trigger) : Trigger :=
  if x.state = .stopped then x else { x with z := x.z.blanked n, n := x.n.blanked n, e := x.e.blanked n }

theorem requestBlanking_td {n : Nat} : (requestBlanking n s).td = s.td.blankedBy n := by
  unfold requestBlanking Trigger.blankedBy
  by_cases h : s.td.state = .stopped <;> simp [h]

/-- The class has become LOW in ACTIVE: HTR_S is forced off, and a detector that runs is blanked (R178, R179). -/
theorem classChanged_active_low (hactive : s.mc.standing = .active) (hlow : s.bm.cls = .low) :
    (classChanged s).hc = { s.hc with s := { s.hc.s with
      output := false, edge := none, deferral := 0, carried := none, level := .off } } ∧ (classChanged s).cu = s.cu ∧
    (classChanged s).td = if s.hc.s.output then s.td.blankedBy s.cs.image.blanking else s.td := by
  have hb : s.allowance .b ≠ .off := by
    unfold State.allowance
    rw [hlow, hactive]
    decide
  have hs : s.allowance .s = .off := by
    unfold State.allowance
    rw [hlow, hactive]
    decide
  have hforced : forceByAllowance (bump .classChanges s) = offForce .s (bump .classChanges s) := by
    have hb' : (bump .classChanges s).allowance .b ≠ .off := hb
    have hs' : (bump .classChanges s).allowance .s = .off := hs
    unfold forceByAllowance
    simp [hb', hs']
  have hhealth {u : State} (h : u.bm.cls = .low) : (ucHealth u).cu = u.cu := by
    cases huplink : u.cs.image.uplink with
    | true =>
      rw [ucHealth_of_low huplink (.inl h)]
      rfl
    | false => simp [ucHealth, ucRaiseHealth, huplink]
  have hstart : (tellMode (offForce .s (bump .classChanges s))).mc.standing.inStart = false := by
    simp [tellMode, hactive, Standing.inStart]
  have hchanged : classChanged s = ucHealth (tellMode (offForce .s (bump .classChanges s))) := by
    unfold classChanged
    dsimp only
    rw [hforced, hstart]
    rfl
  have hforce : offForce .s (bump .classChanges s) =
      if s.hc.s.output then
        bump (heaterCounter .s .forced) (bump (heaterCounter .s .taken) (requestBlanking s.cs.image.blanking
          (setHeater .s { s.hc.s with output := false, edge := none, deferral := 0, carried := none, level := .off }
            (bump .classChanges s))))
      else setHeater .s { s.hc.s with output := false, edge := none, deferral := 0, carried := none, level := .off }
        (bump .classChanges s) := rfl
  rw [hchanged]
  refine ⟨?_, (hhealth (by simpa using hlow)).trans (by simp), ?_⟩
  · rw [(ucHealth_leaves _).2.2.2.2.2.2.2.2.2.2.1, (tellMode_leaves _).2.2.2.2.2.2.2.2.2.2.2.2.1, hforce]
    split <;> simp [setHeater]
  · rw [(ucHealth_leaves _).2.2.2.2.2.2.2.2.1, (tellMode_leaves _).2.2.2.2.2.2.2.2.1, hforce]
    split
    · exact requestBlanking_td
    · rfl

theorem batteryMissed_of_tenth (h : s.bm.staleCount = 9) (hgood : s.bm.cls = .good) :
    batteryMissed s = setClass .low (bump .forcedClasses (staleRaised s)) := by
  have hn : min 65535 (s.bm.staleCount + 1) = s.bm.staleCount + 1 := by omega
  unfold batteryMissed
  dsimp only
  rw [hn, if_pos ⟨by omega, .inl (by simpa using hgood)⟩]
  rfl

theorem staleRaised_bm (hshort : s.bm.staleCount < 9) : (staleRaised s).bm = { s.bm with
    staleCount := s.bm.staleCount + 1, stale := s.bm.stale || decide (2 ≤ s.bm.staleCount)
    chargeEn := s.bm.chargeEn && decide (s.bm.staleCount < 2) } := by
  have h3 : decide (3 ≤ s.bm.staleCount + 1) = decide (2 ≤ s.bm.staleCount) := decide_eq_decide.mpr (by omega)
  have h2 : decide (s.bm.staleCount + 1 < 3) = decide (s.bm.staleCount < 2) := decide_eq_decide.mpr (by omega)
  rw [← h3, ← h2]
  rfl

/-- A missed battery poll of a steady station short of the tenth only raises the stale count (R161). -/
theorem State.Steady.missed {c : Counter} {r : TwEnd 6} (hsteady : s.Steady) (hcd : s.pins.lkCd = true) (hrdy : s.pins.upRdy = false)
    (hbus : s.onBusFor .battery r) (hshort : s.bm.staleCount < 9)
    (hmissed : bmBattery r (twEnd r s) = batteryMissed (bump c (twEnd r s))) :
    ∃ t, exec (.batteryResult r) s = .next t ∧
      t.bm = { s.bm with
        staleCount := s.bm.staleCount + 1, stale := s.bm.stale || decide (2 ≤ s.bm.staleCount)
        chargeEn := s.bm.chargeEn && decide (s.bm.staleCount < 2) } ∧
      (∀ k : Counter, k ≠ .musterBeacons → k ≠ .busRecoveries → t.count k = (bump c (twEnd r s)).count k) ∧
      t.mc.standing = .active ∧ t.tb = s.tb ∧ t.hc = s.hc ∧ t.cu = s.cu := by
  have hraised : bmBattery r (twEnd r s) = staleRaised (bump c (twEnd r s)) := by
    rw [hmissed]
    exact batteryMissed_of_short (by simpa using hshort)
  have hactive : (bmBattery r (twEnd r s)).mc.standing = .active := by
    rw [hraised]
    simpa [staleRaised] using hsteady.active
  have hends : batteryEnds r (twEnd r s) = tellMode (staleRaised (bump c (twEnd r s))) := by
    rw [batteryEnds_outside_start (by rw [hactive]; decide), hraised]
  let u := usersLeft (tellMode (staleRaised (bump c (twEnd r s))))
  have hfirm : u.Firm := usersLeft_firm (.inr ⟨by simpa [tellMode, staleRaised] using hsteady.active,
    by simpa [tellMode, staleRaised] using hsteady.good⟩)
  have hupins : u.pins = s.pins := by simp [u, staleRaised]
  obtain ⟨-, -, htb, -, -, -, -, -, hbm, hhc, -, -⟩ := hfirm.leaves
  refine ⟨finish u, ?_, ?_, fun k h1 h2 => ?_, ?_, ?_, ?_, ?_⟩
  · rw [exec_batteryResult hbus, hends]
  · have hraisedBm := staleRaised_bm (s := bump c (twEnd r s)) (by simpa using hshort)
    rw [hbm]
    show (usersLeft _).bm = _
    rw [usersLeft_leaves.2.2.2.2.2.2.2.2.2.2.1, (tellMode_leaves _).2.2.2.2.2.2.2.2.2.2.2.1, hraisedBm]
    simp
  · rw [hfirm.count h1 h2]
    exact usersLeft_count
  · rw [hfirm.standing]
    show (usersLeft _).mc.standing = _
    rw [usersLeft_mc]
    simpa [tellMode, staleRaised] using hsteady.active
  · rw [htb]
    simp [u, staleRaised]
  · rw [hhc]
    simp [u, staleRaised]
  · rw [hfirm.cu (by rw [hupins]; exact hcd) (.inl (by rw [hupins]; exact hrdy))]
    simp [u, staleRaised]

/-- The end of a wanted transaction of a temperature sensor. -/
theorem exec_temperatureResult {x : TempSensor} {r : TwEnd 2} (h : s.onBusFor (sensorUser x) r) :
    exec (.temperatureResult x r) s = .next (finish (usersLeft (bmTemperature x r (twEnd r s)))) := by
  obtain ⟨b, hb, hwanted⟩ := twEnding_of_onBusFor h
  show Host.Outcome.next (match s.twEnding (sensorUser x) r with | none => s | some b => _) = _
  rw [hb]
  show Host.Outcome.next (finish (entryWorkLeaves (pollLeaves (if b.wanted then _ else _)))) = _
  rw [hwanted, if_pos rfl]
  rfl

/-- A sensor's result on a settled station, the Battery Monitor having come to `u`. -/
theorem State.Settled.sensed {x : TempSensor} {r : TwEnd 2} (hset : s.Settled) (h : s.onBusFor (sensorUser x) r)
    (hu : bmTemperature x r (twEnd r s) = u) (hmc : u.mc = s.mc) :
    ∃ t, exec (.temperatureResult x r) s = .next t ∧ t.bm = u.bm ∧ t.hc = u.hc ∧ t.tb = u.tb ∧
      ∀ k : Counter, k ≠ .musterBeacons → k ≠ .busRecoveries → t.count k = u.count k := by
  have husettled : (usersLeft u).Settled := by
    rw [State.Settled, usersLeft_mc, hmc]
    exact hset
  obtain ⟨-, -, htb, -, -, -, -, -, hbm, hhc, -, -⟩ := finish_leaves_settled _ husettled
  refine ⟨finish (usersLeft u), by rw [exec_temperatureResult h, hu], by rw [hbm]; simp, by rw [hhc]; simp, by rw [htb]; simp,
    fun k h1 h2 => ?_⟩
  rw [finish_count husettled h1 h2, usersLeft_count]

/-- The tenth missed poll in a row, in ACTIVE with class GOOD: the class is LOW (R161, R178, R179). -/
theorem batteryMissed_tenth (hactive : s.mc.standing = .active) (hgood : s.bm.cls = .good) (h : s.bm.staleCount = 9) :
    (batteryMissed s).bm = { s.bm with staleCount := 10, stale := true, chargeEn := false, cls := .low } ∧
    (batteryMissed s).mc.standing = .active ∧ (batteryMissed s).cu = s.cu ∧ (batteryMissed s).hc.s.output = false ∧
    (batteryMissed s).hc.s.level = .off ∧
    (batteryMissed s).td = (if s.hc.s.output then s.td.blankedBy s.cs.image.blanking else s.td) ∧
    (batteryMissed s).count .forcedClasses = min (s.count .forcedClasses + 1) 65535 ∧
    (batteryMissed s).count .classChanges = min (s.count .classChanges + 1) 65535 := by
  let a := bump .forcedClasses (staleRaised s)
  have habm : a.bm = { s.bm with staleCount := 10, stale := true, chargeEn := false } := by
    show ({ s.bm with
      staleCount := s.bm.staleCount + 1, stale := s.bm.stale || decide (3 ≤ s.bm.staleCount + 1)
      chargeEn := s.bm.chargeEn && decide (s.bm.staleCount + 1 < 3) } : Battery) = _
    rw [h]
    simp
  have hcls : a.bm.cls ≠ .low := by
    rw [habm]
    simp [hgood]
  obtain ⟨hhc, hcu, htd⟩ := classChanged_active_low (s := a.setBm { a.bm with cls := .low }) hactive rfl
  rw [← setClass_of_ne hcls] at hhc hcu htd
  rw [batteryMissed_of_tenth h hgood]
  refine ⟨?_, setClass_standing.trans hactive, hcu, by rw [hhc], by rw [hhc], htd, ?_, ?_⟩
  · show (setClass .low a).bm = _
    rw [setClass_bm, habm]
  · rw [setClass_count rfl rfl (by decide), count_bump, if_pos rfl]
    rfl
  · rw [setClass_count_changes, if_neg (Ne.symm hcls)]
    rw [count_bump, if_neg (by decide)]
    rfl

/-- The end of a step in ACTIVE with the class LOW and an evaluation due, no battery transaction being left. -/
theorem finish_active_low (hactive : s.mc.standing = .active) (hlow : s.bm.cls = .low) (hfree : s.twm.busyFor .battery = false)
    (hdue : s.mc.evalDue = true) (hcd : s.pins.lkCd = true) (hno : s.NoTransfer) :
    ((finish s).mc.standing = .watching ∨ (finish s).mc.standing = .entering) ∧ s.bm.sameBeside (finish s).bm ∧
    (finish s).td = s.td ∧ (finish s).hc = s.hc ∧ (finish s).cu = s.cu ∧ (finish s).tb.time = s.tb.time ∧
    (finish s).count .forcedClasses = s.count .forcedClasses ∧ (finish s).count .classChanges = s.count .classChanges := by
  obtain ⟨hset, hstanding, hbm, htd, hhc, hcu, hpins, hcs, htime, hcount⟩ :=
    evaluate_active_low (s := s.reported) hactive hlow hfree reported_settled
  have habandon : abandonEntry s.reported = s.reported := abandonEntry_of_not_entering (by simp [State.reported, hactive])
  have honce : mcSettleOnce s = evaluateMode s.reported := by
    rw [mcSettleOnce_eq, habandon, hdue]
    simp
  have hsettle : mcSettle s = evaluateMode s.reported := by rw [mcSettle_of_once (by rw [honce]; exact hset), honce]
  have hfirm := hset.firm
  obtain ⟨-, -, htb', -, -, -, -, htd', hbm', hhc', -, -⟩ := hfirm.leaves
  have hno' : (evaluateMode s.reported).NoTransfer := by
    unfold State.NoTransfer
    rw [hpins, hcs]
    exact hno
  rw [finish_settle, hsettle]
  refine ⟨by rw [hfirm.standing]; exact hstanding, by rw [hbm']; exact hbm, htd'.trans htd, hhc'.trans hhc,
    (hfirm.cu (by rw [hpins]; exact hcd) hno').trans hcu, by rw [htb', htime]; rfl, ?_, ?_⟩
  · rw [hfirm.count, hcount _ (by decide) (by decide) (by decide) (by decide) (by decide)]
    rfl
  · rw [hfirm.count, hcount _ (by decide) (by decide) (by decide) (by decide) (by decide)]
    rfl

theorem tempTenths_eq {v : Vector Byte 2} : tempTenths v.toList = fromBeInt v.toList * 10 / 16 := by
  have hfield : field v.toList 0 2 = v.toList := by
    unfold field
    rw [List.drop_zero, List.take_of_length_le (by simp)]
  unfold tempTenths
  rw [hfield]

end
end Sys2Proof.Machine

section
open Sys2Proof Sys2Proof.Machine
set_option Elab.async false

/-- Settles O57. -/
theorem failuresAndTemperaturesAreCounted : Obligations.FailuresAndTemperaturesAreCounted := by
  refine ⟨?_, ?_, ?_, ?_, ?_, ?_, ?_⟩
  · intro s h reading
    have hends (hr : s.setpoint h + 10 ≤ reading) (ho : ¬ (s.heater h).heatingOver = true) :=
      overtempTest_facts hr (by simpa using ho)
    have hover := fun ho => overtempTest_of_over (s := s) (h := h) (reading := reading) ho
    have hother (k : HeaterId) (hk : k ≠ h) : (overtempTest h reading s).heater k = s.heater k :=
      congrArg HeaterView.heater (worksOn_overtempTest.2 k hk)
    rw [heatingOver_iff] at hends hover
    have hall (hr : s.setpoint h + 10 ≤ reading) ho := And.intro (hends hr ho) hother
    cases h with
    | b =>
      refine ⟨hover, fun hr ho => ?_⟩
      obtain ⟨⟨f1, f2, f3, f4, f5, f6, f7, f8, f9⟩, f10⟩ := hall hr ho
      exact ⟨f1, f2, f3, f4, f5, f6, f7, f8, f9, f10⟩
    | s =>
      refine ⟨hover, fun hr ho => ?_⟩
      obtain ⟨⟨f1, f2, f3, f4, f5, f6, f7, f8, f9⟩, f10⟩ := hall hr ho
      exact ⟨f1, f2, f3, f4, f5, f6, f7, f8, f9, f10⟩
  · intro s r hsteady hcd hrdy hbus hr hshort
    have hmissed : bmBattery r (twEnd r s) = batteryMissed (bump .batteryFailures (twEnd r s)) := by
      cases r with
      | complete v => exact absurd rfl (hr v)
      | _ => rfl
    obtain ⟨t, hexec, hbm, hcount, hrest⟩ := hsteady.missed hcd hrdy hbus hshort hmissed
    refine ⟨t, hexec, hbm, ?_, ?_, ?_, ?_, hrest⟩
    · rw [hcount _ (by decide) (by decide), count_bump, if_pos rfl, twEnd_count (by decide) (by decide) (by decide)]
    all_goals
      rintro rfl
      rw [hcount _ (by decide) (by decide)]
      simp [twEnd, twCountEnd]
  · intro s v hset x
    have hx : tempTenths v.toList = x := tempTenths_eq
    have hgood (y : TempSensor) (h1 : -600 ≤ x) (h2 : x ≤ 850) :
        bmTemperature y (.complete v) (twEnd (.complete v) s) = sensorGood y x (twEnd (.complete v) s) := by
      unfold bmTemperature
      dsimp only
      rw [hx]
      exact if_pos (by simp [plausibleTemp, h1, h2])
    refine ⟨fun hbus h1 h2 => ?_, fun hbus h1 h2 => ?_, fun hbus hout hshort => ?_⟩
    · obtain ⟨t, hexec, hbm, hhc, htb, hcount⟩ := hset.sensed (x := .a) ⟨hbus, by simp⟩ (hgood .a h1 h2)
        (by simp [sensorGood])
      let y := (twEnd (.complete v : TwEnd 2) s).setBm
        { (twEnd (.complete v : TwEnd 2) s).bm with tempA := some x, staleCountA := 0, staleA := false }
      have hheats : (overtempTest .s x s).heatsAs (overtempTest .s x y) :=
        State.heatsAs.overtempTest ⟨rfl, fun _ _ => rfl⟩ rfl rfl rfl
      refine ⟨t, hexec, ?_, ?_, ?_, hhc.trans hheats.1, fun k => ?_⟩
      · rw [hbm]
        simp [sensorGood]
      · rw [hhc]
        exact congrArg HeaterView.heater ((worksOn_overtempTest (s := y) (h := .s) (reading := x)).2 .b (by decide))
      · rw [htb]
        simp [sensorGood]
      · rw [hcount _ (by cases k <;> decide) (by cases k <;> decide)]
        exact hheats.2 .s k
    · obtain ⟨t, hexec, hbm, hhc, htb, -⟩ := hset.sensed (x := .b) ⟨hbus, by simp⟩ (hgood .b h1 h2)
        (by simp [sensorGood])
      exact ⟨t, hexec, hbm.trans (by simp [sensorGood]), hhc.trans (by simp [sensorGood]), htb.trans (by simp [sensorGood])⟩
    · have hnot : bmTemperature .a (.complete v) (twEnd (.complete v) s) =
          sensorMissed .a (bump .rejectsA (twEnd (.complete v) s)) := by
        unfold bmTemperature
        dsimp only
        rw [hx]
        exact if_neg (by rcases hout with h | h <;> simp [plausibleTemp, h])
      obtain ⟨t, hexec, hbm, hhc, htb, hcount⟩ := hset.sensed (x := .a) ⟨hbus, by simp⟩ hnot (by simp)
      refine ⟨t, hexec, ?_, ?_, ?_, ?_⟩
      · have hn : min 65535 (s.bm.staleCountA + 1) = s.bm.staleCountA + 1 := by omega
        have h3 : decide (3 ≤ s.bm.staleCountA + 1) = decide (2 ≤ s.bm.staleCountA) := decide_eq_decide.mpr (by omega)
        rw [hbm]
        simp [sensorMissed, hn]
      · rw [hcount _ (by decide) (by decide)]
        simp [sensorMissed, twEnd, twCountEnd]
      · rw [hhc]
        simp
      · rw [htb]
        simp
  · intro s v x hsteady hcd hrdy hbus hx hout hshort
    have hnot : x.plausible = false := by
      rcases hout with h | h | h | h <;> simp [Reading.plausible, plausibleTemp, h]
    have hmissed : bmBattery (.complete v) (twEnd (.complete v) s) = batteryMissed (bump .batteryRejects (twEnd (.complete v) s)) := by
      rw [hx] at hnot
      exact if_neg (by simp [hnot])
    obtain ⟨t, hexec, hbm, hcount, hrest⟩ := hsteady.missed hcd hrdy ⟨hbus, by simp⟩ hshort hmissed
    refine ⟨t, hexec, hbm, ?_, ?_, hrest⟩
    · rw [hcount _ (by decide) (by decide), count_bump, if_pos rfl, twEnd_count (by decide) (by decide) (by decide)]
    · rw [hcount _ (by decide) (by decide), count_bump, if_neg (by decide), twEnd_count (by decide) (by decide) (by decide)]
  · intro s r hsteady hcd hrdy hbus hplace hr hnine
    let w := bump .batteryFailures (twEnd r s)
    have hmissed : bmBattery r (twEnd r s) = batteryMissed w := by
      cases r with
      | complete v => exact absurd rfl (hr v)
      | _ => rfl
    have hwstanding : w.mc.standing = .active := by simpa [w] using hsteady.active
    obtain ⟨hbm, hstanding, hcu, houtput, hlevel, htd, hforced, hchanges⟩ :=
      batteryMissed_tenth hwstanding (by simpa [w] using hsteady.good) (by simpa [w] using hnine)
    have hends : batteryEnds r (twEnd r s) = tellMode (batteryMissed w) := by
      rw [batteryEnds_outside_start (by rw [hmissed, hstanding]; decide), hmissed]
    let u := usersLeft (tellMode (batteryMissed w))
    have hufree : u.twm.busyFor .battery = false := by
      have htwm : u.twm = { s.twm with bus := none } := by simp [u, w, twEnd_twm]
      rw [htwm]
      simp [TwoWire.busyFor, TwoWire.place, hplace]
    have hupins : u.pins = s.pins := by simp [u, w]
    have humc : u.mc = { (tellMode (batteryMissed w)).mc with users := u.mc.users } := usersLeft_mc
    obtain ⟨ht, hbmt, htdt, hhct, hcut, htime, hforcedt, hchangest⟩ := finish_active_low (s := u) (by rw [humc]; exact hstanding)
      (by simp [u, hbm]) hufree (by rw [humc]; rfl) (by rw [hupins]; exact hcd) (.inl (by rw [hupins]; exact hrdy))
    have hubm : u.bm = { s.bm with staleCount := 10, stale := true, chargeEn := false, cls := .low } := by simp [u, hbm, w]
    unfold Battery.sameBeside at hbmt
    rw [hubm] at hbmt
    refine ⟨finish u, by rw [exec_batteryResult hbus, hends], by rw [hbmt], by rw [hbmt], by rw [hbmt], by rw [hbmt], by rw [hbmt],
      by rw [hbmt], by rw [hbmt], by rw [hbmt], by rw [hbmt], ?_, ?_, ht, ?_, ?_, ?_, ?_, ?_⟩
    · rw [hforcedt]
      simp only [u, usersLeft_count]
      refine Eq.trans hforced ?_
      rw [count_bump, if_neg (by decide), twEnd_count (by decide) (by decide) (by decide)]
    · rw [hchangest]
      simp only [u, usersLeft_count]
      refine Eq.trans hchanges ?_
      rw [count_bump, if_neg (by decide), twEnd_count (by decide) (by decide) (by decide)]
    · rw [hhct]
      simpa [u] using houtput
    · rw [hhct]
      simpa [u] using hlevel
    · rw [htime]
      simp [u, w]
    · rw [hcut]
      simp [u, hcu, w]
    · rw [htdt]
      have hhcw : w.hc = s.hc := by simp [w]
      have htdw : w.td = s.td := by simp [w]
      have hcsw : w.cs = s.cs := by simp [w]
      rw [hhcw, htdw, hcsw] at htd
      simp only [u, usersLeft_leaves, tellMode_leaves, htd, Trigger.blankedBy, Channel.blanked, beq_iff_eq]
      cases s.hc.s.output <;> simp
  · intro s wanted c hbus
    refine ⟨fun hc => ?_, fun r hc hr => ?_⟩
    · have hnone : s.twEnding .battery (.busStuck : TwEnd 6) = none := by simp [State.twEnding, hbus, hc, TwBus.mayEnd, Option.filter]
      show Host.Outcome.next (match s.twEnding .battery _ with | none => s | some b => _) = _
      rw [hnone]
    · have hnone : s.twEnding .battery r = none := by
        cases r <;> simp_all [State.twEnding, TwBus.mayEnd, Option.filter]
      show Host.Outcome.next (match s.twEnding .battery _ with | none => s | some b => _) = _
      rw [hnone]
  · intro s r hset hr
    have hmissed (x : TempSensor) : bmTemperature x r (twEnd r s) = sensorMissed x (bump (sensorFailures x) (twEnd r s)) := by
      cases r with
      | complete v => exact absurd rfl (hr v)
      | _ => rfl
    refine ⟨fun hbus => ?_, fun hbus => ?_⟩
    · obtain ⟨t, hexec, hbm, hhc, htb, hcount⟩ := hset.sensed (x := .a) hbus (hmissed .a) (by simp)
      refine ⟨t, hexec, by rw [hbm]; simp [sensorMissed], ?_, ?_, by rw [hhc]; simp, by rw [htb]; simp⟩
      · rw [hcount _ (by decide) (by decide)]
        show (bump .failuresA (twEnd r s)).count _ = _
        rw [count_bump, if_pos rfl, twEnd_count (by decide) (by decide) (by decide)]
      · rw [hcount _ (by decide) (by decide)]
        show (bump .failuresA (twEnd r s)).count _ = _
        rw [count_bump, if_neg (by decide), twEnd_count (by decide) (by decide) (by decide)]
    · obtain ⟨t, hexec, hbm, hhc, htb, hcount⟩ := hset.sensed (x := .b) hbus (hmissed .b) (by simp)
      refine ⟨t, hexec, by rw [hbm]; simp [sensorMissed], ?_, ?_, by rw [hhc]; simp, by rw [htb]; simp⟩
      · rw [hcount _ (by decide) (by decide)]
        show (bump .failuresB (twEnd r s)).count _ = _
        rw [count_bump, if_pos rfl, twEnd_count (by decide) (by decide) (by decide)]
      · rw [hcount _ (by decide) (by decide)]
        show (bump .failuresB (twEnd r s)).count _ = _
        rw [count_bump, if_neg (by decide), twEnd_count (by decide) (by decide) (by decide)]

end

/-! PROOFS. Steering instants. -/
namespace Sys2Proof.Machine
set_option Elab.async false

/-! ## The source set (R69) -/

/-- Integers sorted by insertion stand in ascending order. -/
theorem insertBy_int_pairwise (x : Int) (xs : List Int) (h : xs.Pairwise (· ≤ ·)) :
    (insertBy (fun a b : Int => decide (a ≤ b)) x xs).Pairwise (· ≤ ·) := by
  induction xs with
  | nil => simp [insertBy]
  | cons y ys ih =>
    obtain ⟨hy, hys⟩ := List.pairwise_cons.mp h
    unfold insertBy
    split
    · next hle =>
      refine List.pairwise_cons.mpr ⟨fun z hz => ?_, ih hys⟩
      rcases List.mem_cons.mp ((insertBy_perm _ x ys).mem_iff.mp hz) with rfl | hz
      · exact of_decide_eq_true hle
      · exact hy z hz
    · next hle =>
      have hxy : x ≤ y := by
        have hnot : ¬ y ≤ x := by simpa using hle
        omega
      refine List.pairwise_cons.mpr ⟨fun z hz => ?_, h⟩
      rcases List.mem_cons.mp hz with rfl | hz
      · exact hxy
      · exact hxy.trans (hy z hz)

theorem sortBy_int_pairwise (xs : List Int) : (sortBy (fun a b : Int => decide (a ≤ b)) xs).Pairwise (· ≤ ·) := by
  suffices h : ∀ acc : List Int, acc.Pairwise (· ≤ ·) →
      (xs.foldl (fun acc x => insertBy (fun a b : Int => decide (a ≤ b)) x acc) acc).Pairwise (· ≤ ·) from h [] List.Pairwise.nil
  induction xs with
  | nil => exact fun acc h => h
  | cons x xs ih => exact fun acc h => ih _ (insertBy_int_pairwise x acc h)

/-- The ascending offsets of a source set are the only ascending order of them. -/
theorem sorted_eq {x : SourceSet} {offsets : List Int} (hperm : offsets.Perm (x.sources.map (fun y => y.offset)))
    (hsorted : offsets.Pairwise (fun a b => a ≤ b)) : x.sorted = offsets :=
  ((sortBy_perm _ _).trans hperm.symm).eq_of_pairwise' (sortBy_int_pairwise _) hsorted

theorem foldl_min_le (xs : List SourceOffset) (n : Nat) :
    xs.foldl (fun m z => min m z.quality) n ≤ n ∧ ∀ x ∈ xs, xs.foldl (fun m z => min m z.quality) n ≤ x.quality := by
  induction xs generalizing n with
  | nil => simp
  | cons y ys ih =>
    obtain ⟨hle, hall⟩ := ih (min n y.quality)
    refine ⟨hle.trans (Nat.min_le_left _ _), fun x hx => ?_⟩
    rcases List.mem_cons.mp hx with rfl | hx
    · exact hle.trans (Nat.min_le_right _ _)
    · exact hall x hx

theorem foldl_min_mem (xs : List SourceOffset) (n : Nat) :
    xs.foldl (fun m z => min m z.quality) n = n ∨ ∃ x ∈ xs, xs.foldl (fun m z => min m z.quality) n = x.quality := by
  induction xs generalizing n with
  | nil => exact .inl rfl
  | cons y ys ih =>
    rcases ih (min n y.quality) with h | ⟨x, hx, h⟩
    · rcases Nat.le_total n y.quality with hle | hle
      · exact .inl (h.trans (Nat.min_eq_left hle))
      · exact .inr ⟨y, by simp, h.trans (Nat.min_eq_right hle)⟩
    · exact .inr ⟨x, by simp [hx], h⟩

/-- Q_best is the least announced quality of the sources. -/
theorem qBest_eq {x : SourceSet} {best : Nat} (hmem : ∃ y ∈ x.sources, y.quality = best) (hleast : ∀ y ∈ x.sources, best ≤ y.quality) :
    x.qBest = best := by
  unfold SourceSet.qBest
  cases hs : x.sources with
  | nil => simp [hs] at hmem
  | cons y ys =>
    rw [hs] at hmem hleast
    obtain ⟨hle, hall⟩ := foldl_min_le ys y.quality
    show ys.foldl (fun m z => min m z.quality) y.quality = best
    refine Nat.le_antisymm ?_ ?_
    · obtain ⟨z, hz, rfl⟩ := hmem
      rcases List.mem_cons.mp hz with rfl | hz
      · exact hle
      · exact hall z hz
    · rcases foldl_min_mem ys y.quality with h | ⟨z, hz, h⟩
      · rw [h]; exact hleast y (by simp)
      · rw [h]; exact hleast z (by simp [hz])

/-- The least distance is the one announced that no other lies below. -/
theorem leastDistance_le (rs : List PeerRecord) (n : Nat) :
    rs.foldl (fun m r => min m (r.distance.getD 15)) n ≤ n ∧
    ∀ r ∈ rs, rs.foldl (fun m r => min m (r.distance.getD 15)) n ≤ r.distance.getD 15 := by
  induction rs generalizing n with
  | nil => simp
  | cons y ys ih =>
    obtain ⟨hle, hall⟩ := ih (min n (y.distance.getD 15))
    refine ⟨hle.trans (Nat.min_le_left _ _), fun x hx => ?_⟩
    rcases List.mem_cons.mp hx with rfl | hx
    · exact hle.trans (Nat.min_le_right _ _)
    · exact hall x hx

theorem le_leastDistance {rs : List PeerRecord} {n g : Nat} (hn : g ≤ n) (h : ∀ r ∈ rs, g ≤ r.distance.getD 15) :
    g ≤ rs.foldl (fun m r => min m (r.distance.getD 15)) n := by
  induction rs generalizing n with
  | nil => exact hn
  | cons y ys ih => exact ih (Nat.le_min.mpr ⟨hn, h y (by simp)⟩) fun r hr => h r (by simp [hr])

section
variable {s t : State}

theorem sourceSet_of_locked (h : s.rmu.state = .locked) :
    s.sourceSet = { kind := .reference, sources := s.rmu.offsets.map (fun o => { offset := o, quality := 0 }), g := none } := by
  simp [State.sourceSet, h]

theorem sourceSet_of_none (h : s.rmu.state ≠ .locked) (hnone : ∀ r ∈ s.peers, s.eligible r = false) :
    s.sourceSet = { kind := .none, sources := [], g := none } := by
  have hempty : s.peers.filter s.eligible = [] := by simpa using hnone
  simp [State.sourceSet, h, hempty]

/-- The set of the eligible samples of the least announced distance g (R69). -/
def State.nearest (s : State) (g : Nat) : List SourceOffset :=
  (s.peers.filter (fun r => s.eligible r && r.distance == some g)).map
      (fun r => { offset := r.sample.getD 0, quality := r.quality.getD 0 }) ++
    (if g = 15 then [{ offset := 0, quality := s.tb.quality }] else [])

theorem sourceSet_of_peers {g : Nat} (h : s.rmu.state ≠ .locked) (hg : g ≤ 15)
    (hmem : ∃ r ∈ s.peers, s.eligible r = true ∧ r.distance = some g)
    (hleast : ∀ r ∈ s.peers, s.eligible r = true → g ≤ r.distance.getD 0) :
    s.sourceSet = { kind := if g = 15 then .freeRun else .peers, sources := s.nearest g, g := some g } := by
  obtain ⟨r, hr, hel, hd⟩ := hmem
  have hmem' : r ∈ s.peers.filter s.eligible := List.mem_filter.mpr ⟨hr, hel⟩
  have hne : (s.peers.filter s.eligible).isEmpty = false := by
    rw [List.isEmpty_eq_false_iff]
    exact List.ne_nil_of_mem hmem'
  have hge (x : PeerRecord) (hx : x ∈ s.peers) (he : s.eligible x = true) : g ≤ x.distance.getD 15 := by
    have := hleast x hx he
    cases hxd : x.distance with
    | none => exact hg
    | some d => simpa [hxd] using this
  have hleastD : leastDistance (s.peers.filter s.eligible) = g := by
    refine Nat.le_antisymm ?_ (le_leastDistance hg fun x hx => ?_)
    · have hle := (leastDistance_le (s.peers.filter s.eligible) 15).2 r hmem'
      rw [hd] at hle
      exact hle
    · obtain ⟨hx, he⟩ := List.mem_filter.mp hx
      exact hge x hx he
  have hnear : (s.peers.filter s.eligible).filter (fun r => r.distance.getD 15 == g) =
      s.peers.filter (fun r => s.eligible r && r.distance == some g) := by
    rw [List.filter_filter]
    refine List.filter_congr fun x hx => ?_
    cases he : s.eligible x with
    | false => simp
    | true =>
      have hx15 := hleast x hx he
      cases hxd : x.distance with
      | none =>
        have h0 : g = 0 := by simpa [hxd] using hx15
        subst h0
        rfl
      | some d => simp
  unfold State.sourceSet State.nearest
  rw [if_neg (by simpa using h)]
  dsimp only
  rw [hne, hleastD, hnear]
  by_cases h15 : g = 15 <;> simp [h15]

end

/-! ## The frame cut of a step (R180) -/

section
variable {s t u : State} {h : HeaterId} {e : Edge} {k : HeaterCount} {c : Counter}

theorem edgeDue_of_now (hnow : s.hot = false ∨ s.deferLimit h = 0) : edgeDue h e s = takeEdge h e s := by
  unfold edgeDue
  refine if_pos ?_
  rcases hnow with hh | hl
  · simp [hh]
  · simp [hl]

theorem edgeDue_of_later (hhot : s.hot = true) (hlimit : s.deferLimit h ≠ 0) : edgeDue h e s = bump (heaterCounter h .deferred)
    (setHeater h { s.heater h with edge := some e, deferral := (s.heater h).carried.getD 0 } s) := by
  unfold edgeDue
  exact if_neg (by simp [hhot, hlimit])

/-- The record at which a frame cut makes an OFF fall due. -/
def Heater.cut (x : Heater) : Heater :=
  { x with
    pos := none, level := .off, edge := if x.edge == some .off then x.edge else none
    deferral := if x.edge == some .off then x.deferral else 0, carried := none }

theorem cutFrame_eq : cutFrame h s =
    if (s.heater h).output = true ∧ (s.heater h).edge ≠ some .off then edgeDue h .off (setHeater h (s.heater h).cut s)
    else setHeater h (s.heater h).cut s := by
  unfold cutFrame
  by_cases hoff : (s.heater h).edge = some .off <;> cases hout : (s.heater h).output <;> simp [hoff, Heater.cut, hout]

/-- What a frame cut does to its heater (R180; log entry 59). -/
structure HeaterStep.Cut (p : HeaterStep) : Prop where
  pos : p.after.heater.pos = none
  level : p.after.heater.level = .off
  carried : p.after.heater.carried = none
  onTime : p.after.heater.onTime = p.before.heater.onTime
  onFrac : p.after.heater.onFrac = p.before.heater.onFrac
  cancelled : p.Stands .cancelled
  pending : p.before.heater.edge = some .off → p.after.heater.edge = some .off ∧
    p.after.heater.output = p.before.heater.output ∧ p.after.heater.deferral = p.before.heater.deferral ∧ p.Stands .taken
  idle : p.before.heater.edge ≠ some .off → p.before.heater.output = false →
    p.after.heater.edge = none ∧ p.after.heater.output = false ∧ p.Stands .taken
  now : p.before.heater.edge ≠ some .off → p.before.heater.output = true → p.hot = false ∨ p.limit = 0 →
    p.after.heater.edge = none ∧ p.after.heater.output = false ∧ p.Rises .taken ∧ p.Stands .deferred
  later : p.before.heater.edge ≠ some .off → p.before.heater.output = true → p.hot = true → p.limit ≠ 0 →
    p.after.heater.edge = some .off ∧ p.after.heater.output = true ∧ p.after.heater.deferral = 0 ∧ p.Rises .deferred ∧
    p.Stands .taken

theorem cutFrame_cut : (s.heaterStep h (cutFrame h s)).Cut := by
  rw [cutFrame_eq]
  by_cases hdue : (s.heater h).output = true ∧ (s.heater h).edge ≠ some .off
  · obtain ⟨hout, hedge⟩ := hdue
    have hon : (s.heater h).output ≠ false := by simp [hout]
    rw [if_pos ⟨hout, hedge⟩]
    by_cases hnow : s.hot = false ∨ s.deferLimit h = 0
    · rw [edgeDue_of_now (by simpa using hnow)]
      constructor <;> simp only [State.heaterStep, State.view, HeaterStep.Rises, HeaterStep.Stands, takeEdge_heater, takeEdge_count,
        heater_setHeater, if_true, count_setHeater]
      case pending => exact fun hoff => absurd hoff hedge
      case idle => exact fun _ ho => absurd ho hon
      case later => exact fun _ _ hh hl => absurd hnow (by simp [hh, hl])
      all_goals simp [Heater.cut]
    · have hlater : s.hot = true ∧ s.deferLimit h ≠ 0 := by
        rw [not_or] at hnow
        exact ⟨by simpa using hnow.1, hnow.2⟩
      rw [edgeDue_of_later (by simpa using hlater.1) (by simpa using hlater.2)]
      constructor <;> simp only [State.heaterStep, State.view, HeaterStep.Rises, HeaterStep.Stands, heater_bump, heater_setHeater,
        if_true, count_bump, heaterCounter_injective, count_setHeater]
      case pending => exact fun hoff => absurd hoff hedge
      case idle => exact fun _ ho => absurd ho hon
      case now => exact fun _ _ hh => absurd hh hnow
      all_goals simp [Heater.cut, hout]
  · rw [if_neg hdue]
    have hidle : (s.heater h).output = true → (s.heater h).edge = some .off := by simpa using hdue
    constructor <;> simp only [State.heaterStep, State.view, HeaterStep.Rises, HeaterStep.Stands, heater_setHeater, if_true,
      count_setHeater]
    case now => exact fun hoff ho => absurd (hidle ho) hoff
    case later => exact fun hoff ho => absurd (hidle ho) hoff
    case pending => exact fun hoff => by simp [Heater.cut, hoff]
    case idle => exact fun hoff ho => by simp [Heater.cut, hoff, ho]
    all_goals simp [Heater.cut]

/-- The cut reads of a step its heater before and after, hot and the limit. -/
theorem HeaterStep.Cut.congr {p q : HeaterStep} (hp : p.Cut) (hbefore : q.before = p.before) (hafter : q.after = p.after)
    (hhot : q.hot = p.hot) (hlimit : q.limit = p.limit) : q.Cut := by
  obtain ⟨h1, h2, h3, h4, h5, h6, h7, h8, h9, h10⟩ := hp
  constructor <;> simpa only [HeaterStep.Rises, HeaterStep.Stands, hbefore, hafter, hhot, hlimit]

theorem worksOn_cutFrame : s.worksOn h (cutFrame h s) := by
  rw [cutFrame_eq]
  split
  · exact worksOn_setHeater.trans worksOn_edgeDue
  · exact worksOn_setHeater

theorem cutFrame_count_other (hc : c.ofHeater = false) : (cutFrame h s).count c = s.count c := by
  rw [cutFrame_eq]
  split
  · rw [edgeDue_count_other hc, count_setHeater]
  · exact count_setHeater

theorem heaterCounter_ne_frameCuts : heaterCounter h k ≠ .frameCuts := by cases h <;> cases k <;> decide

/-- A step cuts the frames of both heaters, each by its own record (R180). -/
theorem hcStep_cuts : (s.heaterStep h (hcStep s)).Cut := by
  have hlast : ∀ v : State, (bump .frameCuts v).view h = v.view h := fun v => by
    simp [State.view, Ne.symm heaterCounter_ne_frameCuts]
  obtain ⟨hblanks, hother⟩ := worksOn_cutFrame (s := s) (h := .b)
  cases h with
  | b =>
    refine (cutFrame_cut (s := s) (h := .b)).congr rfl ?_ rfl rfl
    exact (hlast _).trans (worksOn_cutFrame.2 .b (by decide))
  | s =>
    refine (cutFrame_cut (s := cutFrame .b s) (h := .s)).congr (hother .s (by decide)).symm (hlast _) ?_ ?_
    · exact (hot_of_blanks hblanks (by simp)).symm
    · show s.deferLimit .s = (cutFrame .b s).deferLimit .s
      exact (deferLimit_congr (by simp)).symm

theorem hcStep_blanks : s.td.Blanks (hcStep s).td :=
  (worksOn_cutFrame (s := s) (h := .b)).1.trans (worksOn_cutFrame (s := cutFrame .b s) (h := .s)).1

theorem hcStep_count_other (hc : c.ofHeater = false) :
    (hcStep s).count c = if c = .frameCuts then min (s.count c + 1) 65535 else s.count c := by
  show (bump .frameCuts _).count _ = _
  rw [count_bump, cutFrame_count_other hc, cutFrame_count_other hc]
  simp only [eq_comm]

end

/-! ## The step and its notice (R12, R13) -/

section
variable {s t u : State} {n a : Int} {c : Counter}

theorem tbStep_tb : ∃ x y z, (tbStep n s).tb = { s.tb with
    time := stepTime s.tb.time n, rPhase := 0, pendingStep := none, unset := false
    calTimer := x, calOpening := y, calWindow := z } := by
  show ∃ x y z, (calDiscard _).tb = _
  unfold calDiscard
  split
  · unfold calRestart
    dsimp only
    (repeat' split) <;> exact ⟨_, _, _, rfl⟩
  · exact ⟨_, _, _, rfl⟩

theorem calDiscard_count (hc : c ≠ .calibrationDiscards) : (calDiscard s).count c = s.count c := by
  unfold calDiscard
  split
  · have hrestart {w : State} : (calRestart w).count c = w.count c := count_of_counters_eq (by simp)
    rw [hrestart, count_bump, if_neg (Ne.symm hc)]
    rfl
  · rfl

theorem tbStep_count (hc : c ≠ .calibrationDiscards) :
    (tbStep n s).count c = if c = .stepsApplied then min (s.count c + 1) 65535 else s.count c := by
  show (bump .stepsApplied (calDiscard _)).count c = _
  rw [count_bump, calDiscard_count hc]
  simp only [eq_comm]
  rfl

theorem tauVoid_probe : (tauVoid s).tau.probe = none := by
  cases h : s.tau.probe with
  | none => simp [tauVoid, h]
  | some p => simp [tauVoid_of_open h]

theorem tauVoid_count (hc : c ≠ .voidedExchanges) : (tauVoid s).count c = s.count c := by
  cases h : s.tau.probe with
  | none => simp [tauVoid, h]
  | some p =>
    rw [tauVoid_of_open h]
    simp [Ne.symm hc, count_updPeer]

/-- The readers behind which the detector takes the notice of a step (R13). -/
def stepReaders (a : Int) (s : State) : State := withdrawReply (tauVoid (rmuStep a s))

theorem stepNotice_of_moved (ha : a ≠ 0) : stepNotice a s = cuStep (hcStep (siStep (tdStep (stepReaders a s)))) := if_neg ha

theorem stepReaders_count (hc : c ≠ .voidedExchanges) : (stepReaders a s).count c = s.count c := by
  have hreply {v : State} : (withdrawReply v).count c = v.count c := count_of_counters_eq (by simp)
  unfold stepReaders
  rw [hreply, tauVoid_count hc]
  rfl

theorem cuStep_td : (cuStep s).td = { s.td with trim := (cuStep s).td.trim, trimTimer := (cuStep s).td.trimTimer } :=
  td_of_besideEvents (retentionSweep_besideEvents.trans setEntries_besideEvents)

theorem cuStep_count (hc : c ≠ .unconfirmedTriggers) : (cuStep s).count c = s.count c := by
  unfold cuStep
  rw [retentionSweep_count hc]
  rfl

theorem tdStep_hot : (tdStep s).hot = s.hot := by
  unfold tdStep State.hot
  dsimp only
  split <;> rfl

/-- What a step of n ticks does, its applied part not being 0 (R12, R13). -/
theorem applyStep_facts (ha : stepApplied s.tb.time n ≠ 0) :
    (applyStep n s).td.lastOnset = none ∧ (s.si.grid = .tracking → (applyStep n s).si.grid = .unaligned) ∧
    (applyStep n s).count .frameCuts = min (s.count .frameCuts + 1) 65535 ∧
    (∀ h, (s.heaterStep h (applyStep n s)).Cut) ∧
    (applyStep n s).rmu.offsets = s.rmu.offsets.map (fun x => x - stepApplied s.tb.time n) := by
  let a := stepApplied s.tb.time n
  let u := siStep (tdStep (stepReaders a (tbStep n s)))
  have happly : applyStep n s = cuStep (hcStep u) := stepNotice_of_moved ha
  have hutd : u.td = (tdStep (stepReaders a (tbStep n s))).td := by simp [u]
  have hstd : (stepReaders a (tbStep n s)).td = s.td := by simp [stepReaders]
  have hutd' : u.td = { s.td with lastOnset := none, outstanding := none, void := s.td.void || s.td.active } := by
    rw [hutd, ← hstd]
    unfold tdStep
    dsimp only
    split <;> rfl
  have hucs : u.cs = s.cs := by simp [u, stepReaders]
  have huhc : u.hc = s.hc := by simp [u, stepReaders]
  have hucount (c : Counter) (h1 : c ≠ .voidedExchanges) (h2 : c ≠ .calibrationDiscards) (h3 : c ≠ .stepsApplied) :
      u.count c = s.count c := by
    have hsteps : u.count c = (stepReaders a (tbStep n s)).count c := count_of_counters_eq (by simp [u])
    rw [hsteps, stepReaders_count h1, tbStep_count h2, if_neg h3]
  have hhot : u.hot = s.hot := by
    unfold State.hot State.enabled Trigger.active
    rw [hutd', hucs]
  refine ⟨?_, fun htrack => ?_, ?_, fun h => ?_, ?_⟩
  · obtain ⟨-, x, y, z, -, -, -, htd⟩ := hcStep_blanks (s := u)
    rw [happly, cuStep_td, htd, hutd']
  · rw [happly]
    have hgrid : (tdStep (stepReaders a (tbStep n s))).si.grid = .tracking := by simpa [stepReaders] using htrack
    have hu : u.si.grid = .unaligned := by
      show (siStep _).si.grid = _
      unfold siStep
      rw [hgrid]
      rfl
    simpa using hu
  · rw [happly, cuStep_count (by decide), hcStep_count_other rfl, if_pos rfl, hucount _ (by decide) (by decide) (by decide)]
  · have hview : (applyStep n s).view h = (hcStep u).view h := by
      rw [happly]
      unfold State.view State.heater
      congr 1
      · simp
      · funext k
        exact cuStep_count (by cases h <;> cases k <;> decide)
    have hbefore : u.view h = s.view h := by
      unfold State.view State.heater
      rw [huhc]
      congr 1
      funext k
      exact hucount _ (by cases h <;> cases k <;> decide) (by cases h <;> cases k <;> decide) (by cases h <;> cases k <;> decide)
    refine (hcStep_cuts (s := u) (h := h)).congr hbefore.symm hview hhot.symm ?_
    show s.deferLimit h = u.deferLimit h
    exact (deferLimit_congr hucs).symm
  · rw [happly]
    have hrmu : (cuStep (hcStep u)).rmu = (stepReaders a (tbStep n s)).rmu := by simp [u]
    rw [hrmu]
    simp [stepReaders, rmuStep, a]

theorem applyStep_always : (∃ x y z, (applyStep n s).tb = { s.tb with
      time := stepTime s.tb.time n, rPhase := 0, pendingStep := none, unset := false
      calTimer := x, calOpening := y, calWindow := z }) ∧
    (applyStep n s).count .stepsApplied = min (s.count .stepsApplied + 1) 65535 ∧ (applyStep n s).tau.probe = none := by
  have htb : (applyStep n s).tb = (tbStep n s).tb := (stepNotice_leaves _ _).2.2.1
  have hreaders : (stepReaders (stepApplied s.tb.time n) (tbStep n s)).count .stepsApplied = min (s.count .stepsApplied + 1) 65535 := by
    rw [stepReaders_count (by decide), tbStep_count (by decide), if_pos rfl]
  have hprobe : (stepReaders (stepApplied s.tb.time n) (tbStep n s)).tau.probe = none := by
    simp [stepReaders, tauVoid_probe]
  refine ⟨htb ▸ tbStep_tb, ?_, ?_⟩
  · by_cases ha : stepApplied s.tb.time n = 0
    · rw [show applyStep n s = stepReaders (stepApplied s.tb.time n) (tbStep n s) from if_pos ha]
      exact hreaders
    · rw [show applyStep n s = _ from stepNotice_of_moved ha, cuStep_count (by decide), hcStep_count_other rfl, if_neg (by decide)]
      exact (count_of_counters_eq (by simp)).trans hreaders
  · by_cases ha : stepApplied s.tb.time n = 0
    · rw [show applyStep n s = stepReaders (stepApplied s.tb.time n) (tbStep n s) from if_pos ha]
      exact hprobe
    · rw [show applyStep n s = _ from stepNotice_of_moved ha]
      simpa using hprobe

/-! ## The instant (R70 to R73) -/

/-- What the outcome of an instant with the offset o moves (R70 to R72, R180). -/
structure State.Decides (s : State) (o : Int) (t : State) : Prop where
  slew : o.natAbs < 2 ^ s.cs.image.p →
    t.tb.time = s.tb.time ∧ t.tb.rBase = clampInt (s.tb.rBase + o * 2 ^ (10 - s.cs.image.k)) (-214748) 214748 ∧
    t.tb.rPhase = o * 2 ^ (11 - s.cs.image.k) ∧ t.tb.pendingStep = none ∧ t.hc = s.hc ∧
    t.tau.lastInstant.map (fun x => x.outcome) = some .slew
  step : 2 ^ s.cs.image.p ≤ o.natAbs → s.hindered = false →
    (t.tb.time : Int) = clampInt (s.tb.time + o) 0 maxTime ∧ t.tb.rBase = s.tb.rBase ∧ t.tb.rPhase = 0 ∧
    t.tb.pendingStep = none ∧ t.count .stepsApplied = min (s.count .stepsApplied + 1) 65535 ∧ t.tau.probe = none ∧
    t.tau.lastInstant.map (fun x => x.outcome) = some .step
  moved : 2 ^ s.cs.image.p ≤ o.natAbs → s.hindered = false → s.tb.time + o ≤ maxTime → 0 ≤ s.tb.time + o →
    t.td.lastOnset = none ∧ (s.si.grid = .tracking → t.si.grid = .unaligned) ∧
    t.count .frameCuts = min (s.count .frameCuts + 1) 65535 ∧ (∀ h, (s.heaterStep h t).Cut) ∧
    t.rmu.offsets = s.rmu.offsets.map (fun x => x - o)
  hindered : 2 ^ s.cs.image.p ≤ o.natAbs → s.hindered = true →
    t.tb.time = s.tb.time ∧ t.tb.rBase = s.tb.rBase ∧ t.tb.pendingStep = some (if 0 ≤ o then .plus else .minus) ∧
    t.tau.lastInstant.map (fun x => x.outcome) = some .hindered ∧ t.hc = s.hc ∧
    t.count .hinderedSteps = min (s.count .hinderedSteps + 1) 65535

/-- The state behind the outcome of an instant, before its quality and its record are written. -/
def State.outcomeTaken (s : State) : State := steerOutcome s.sourceSet (s.outcome s.sourceSet) s

theorem steer_blocks : (steer s).rmu = s.outcomeTaken.rmu ∧ (steer s).si = s.outcomeTaken.si ∧ (steer s).td = s.outcomeTaken.td ∧
    (steer s).hc = s.outcomeTaken.hc ∧ (steer s).counters = s.outcomeTaken.counters ∧ (∀ r ∈ (steer s).peers, r.sample = none) := by
  refine ⟨by simp [steer, State.outcomeTaken], by simp [steer, State.outcomeTaken], by simp [steer, State.outcomeTaken],
    by simp [steer, State.outcomeTaken], by simp [steer, State.outcomeTaken], fun r hr => ?_⟩
  have hpeers : (steer s).peers = (clearSamples (steerWrites s.sourceSet (s.outcome s.sourceSet) s.outcomeTaken)).peers := rfl
  rw [hpeers] at hr
  unfold clearSamples at hr
  obtain ⟨y, -, rfl⟩ := List.mem_map.mp (by exact hr)
  rfl

theorem steer_tb : (steer s).tb = (steerWrites s.sourceSet (s.outcome s.sourceSet) s.outcomeTaken).tb := by
  simp [steer, State.outcomeTaken]

/-- An instant that used a source writes quality and distance (R73). -/
theorem steer_tb_of_source (h : s.sourceSet.kind ≠ .none) : (steer s).tb = { s.outcomeTaken.tb with
    quality := qualityWritten s.sourceSet (s.outcome s.sourceSet), distance := distanceWritten s.sourceSet
    unset := false, steered := true } := by
  have hout : s.outcome s.sourceSet ≠ .holdover := by
    unfold State.outcome
    rw [if_neg (by simpa using h)]
    (repeat' split) <;> decide
  rw [steer_tb]
  unfold steerWrites
  rw [if_neg (by simpa using hout)]
  rfl

theorem setDrive_tb {d : Drive} : ∃ x y z, (setDrive d s).tb = { s.tb with
    pendingStep := some d, calTimer := x, calOpening := y, calWindow := z } := by
  show ∃ x y z, (calDiscard _).tb = _
  unfold calDiscard
  split
  · unfold calRestart
    dsimp only
    (repeat' split) <;> exact ⟨_, _, _, rfl⟩
  · exact ⟨_, _, _, rfl⟩

/-- An instant moves neither the elapsed count nor the slow calibration word. -/
theorem outcomeTaken_tb : s.outcomeTaken.tb.elapsed = s.tb.elapsed ∧ s.outcomeTaken.tb.cSlow = s.tb.cSlow := by
  unfold State.outcomeTaken steerOutcome
  dsimp only
  split
  · exact ⟨rfl, rfl⟩
  · obtain ⟨⟨x, y, z, htb⟩, -⟩ := applyStep_always (s := s) (n := s.sourceSet.median)
    rw [htb]
    exact ⟨rfl, rfl⟩
  · obtain ⟨x, y, z, htb⟩ := setDrive_tb (s := s) (d := if 0 ≤ s.sourceSet.median then .plus else .minus)
    show (setDrive _ s).tb.elapsed = _ ∧ (setDrive _ s).tb.cSlow = _
    rw [htb]
    exact ⟨rfl, rfl⟩
  · exact ⟨rfl, rfl⟩

theorem steer_tau : (steer s).tau = { s.outcomeTaken.tau with
    steerTimer := s.startTimer (secs (2 ^ s.cs.image.k)), steerWaiting := false
    lastInstant := some
      { moment := s.now, outcome := s.outcome s.sourceSet
        offset := if s.sourceSet.kind == .none then none else some s.sourceSet.median, source := s.sourceSet.kind
        count := s.sourceSet.sources.length, g := s.sourceSet.g } } := by
  have hcs : s.outcomeTaken.cs = s.cs := by simp [State.outcomeTaken]
  have hnow : (clearSamples (steerWrites s.sourceSet (s.outcome s.sourceSet) s.outcomeTaken)).now = s.now := by
    have htb : (clearSamples (steerWrites s.sourceSet (s.outcome s.sourceSet) s.outcomeTaken)).tb =
        (steerWrites s.sourceSet (s.outcome s.sourceSet) s.outcomeTaken).tb := by simp
    unfold State.now
    rw [htb]
    unfold steerWrites
    split
    · exact outcomeTaken_tb.1
    · exact outcomeTaken_tb.1
  have hsteer : (steer s).tau = { (clearSamples (steerWrites s.sourceSet (s.outcome s.sourceSet) s.outcomeTaken)).tau with
      steerTimer := (clearSamples (steerWrites s.sourceSet (s.outcome s.sourceSet) s.outcomeTaken)).startTimer
        (secs (2 ^ (clearSamples (steerWrites s.sourceSet (s.outcome s.sourceSet) s.outcomeTaken)).cs.image.k))
      steerWaiting := false
      lastInstant := some
        { moment := (clearSamples (steerWrites s.sourceSet (s.outcome s.sourceSet) s.outcomeTaken)).now
          outcome := s.outcome s.sourceSet
          offset := if s.sourceSet.kind == .none then none else some s.sourceSet.median, source := s.sourceSet.kind
          count := s.sourceSet.sources.length, g := s.sourceSet.g } } := rfl
  rw [hsteer, State.startTimer, hnow]
  simp [hcs, State.startTimer]

theorem stepTime_int {time : StationTime} : (stepTime time n : Int) = clampInt (time + n) 0 maxTime := by
  unfold stepTime
  rw [Int.toNat_of_nonneg]
  unfold clampInt
  split
  · exact le_rfl
  · split
    · exact Int.natCast_nonneg _
    · omega

theorem stepApplied_of_inside {time : StationTime} (hhigh : time + n ≤ maxTime) (hlow : 0 ≤ time + n) :
    stepApplied time n = n := by
  unfold stepApplied
  rw [stepTime_int]
  unfold clampInt
  split
  · omega
  · split <;> omega

/-- An instant with a source decides by its offset (R70, R71). -/
theorem steer_decides (h : s.sourceSet.kind ≠ .none) : s.Decides s.sourceSet.median (steer s) := by
  have htb := steer_tb_of_source h
  have htau := steer_tau (s := s)
  obtain ⟨hrmu, hsi, htd, hhc, hcounters, -⟩ := steer_blocks (s := s)
  have hcount (c : Counter) : (steer s).count c = s.outcomeTaken.count c := count_of_counters_eq hcounters
  have hkind : (s.sourceSet.kind == .none) = false := by simpa using h
  have houtcome : (steer s).tau.lastInstant.map (fun x => x.outcome) = some (s.outcome s.sourceSet) := by rw [htau]; rfl
  have hslew (hlt : s.sourceSet.median.natAbs < 2 ^ s.cs.image.p) : s.outcome s.sourceSet = .slew := by
    unfold State.outcome
    rw [hkind]
    exact if_pos hlt
  have hlarge (hle : 2 ^ s.cs.image.p ≤ s.sourceSet.median.natAbs) :
      s.outcome s.sourceSet = if s.hindered then .hindered else .step := by
    unfold State.outcome
    rw [hkind]
    exact (if_neg (by decide)).trans (if_neg (by omega))
  have hstep (hle : 2 ^ s.cs.image.p ≤ s.sourceSet.median.natAbs) (hfree : s.hindered = false) :
      s.outcome s.sourceSet = .step ∧ s.outcomeTaken = applyStep s.sourceSet.median s := by
    have hout : s.outcome s.sourceSet = .step := by rw [hlarge hle, hfree]; rfl
    exact ⟨hout, by unfold State.outcomeTaken; rw [hout]; rfl⟩
  have hhinder (hle : 2 ^ s.cs.image.p ≤ s.sourceSet.median.natAbs) (hyes : s.hindered = true) :
      s.outcome s.sourceSet = .hindered ∧
      s.outcomeTaken = bump .hinderedSteps (setDrive (if 0 ≤ s.sourceSet.median then .plus else .minus) s) := by
    have hout : s.outcome s.sourceSet = .hindered := by rw [hlarge hle, hyes]; rfl
    exact ⟨hout, by unfold State.outcomeTaken; rw [hout]; rfl⟩
  constructor
  case slew =>
    intro hlt
    have hout := hslew hlt
    have htaken : s.outcomeTaken = s.setTb { s.tb with
        rBase := clampInt (s.tb.rBase + s.sourceSet.median * 2 ^ (10 - s.cs.image.k)) (-rateLimit) rateLimit
        rPhase := s.sourceSet.median * 2 ^ (11 - s.cs.image.k), pendingStep := none } := by
      unfold State.outcomeTaken
      rw [hout]
      rfl
    rw [htb, hhc, htaken]
    exact ⟨rfl, rfl, rfl, rfl, rfl, houtcome.trans (by rw [hout])⟩
  case step =>
    intro hle hfree
    obtain ⟨hout, htaken⟩ := hstep hle hfree
    obtain ⟨⟨x, y, z, hstb⟩, hcountS, hprobe⟩ := applyStep_always (s := s) (n := s.sourceSet.median)
    refine ⟨?_, ?_, ?_, ?_, ?_, ?_, houtcome.trans (by rw [hout])⟩
    · rw [htb, htaken, hstb]
      exact stepTime_int
    · rw [htb, htaken, hstb]
    · rw [htb, htaken, hstb]
    · rw [htb, htaken, hstb]
    · rw [hcount, htaken, hcountS]
    · rw [htau, htaken]
      exact hprobe
  case moved =>
    intro hle hfree hhigh hlow
    obtain ⟨hout, htaken⟩ := hstep hle hfree
    have happlied := stepApplied_of_inside hhigh hlow
    have hne : s.sourceSet.median ≠ 0 := by
      intro h0
      rw [h0] at hle
      have := Nat.pow_pos (n := s.cs.image.p) (show 0 < 2 by decide)
      simp only [Int.natAbs_zero] at hle
      omega
    obtain ⟨f1, f2, f3, f4, f5⟩ := applyStep_facts (s := s) (n := s.sourceSet.median) (by rw [happlied]; exact hne)
    refine ⟨by rw [htd, htaken]; exact f1, by rw [hsi, htaken]; exact f2, by rw [hcount, htaken, f3], fun h => ?_, ?_⟩
    · refine (f4 h).congr rfl ?_ rfl rfl
      show (steer s).view h = (applyStep _ s).view h
      unfold State.view State.heater
      rw [hhc, htaken]
      congr 1
      funext k
      rw [hcount, htaken]
    · rw [hrmu, htaken, f5, happlied]
  case hindered =>
    intro hle hyes
    obtain ⟨hout, htaken⟩ := hhinder hle hyes
    obtain ⟨x, y, z, hdrive⟩ := setDrive_tb (s := s) (d := if 0 ≤ s.sourceSet.median then .plus else .minus)
    have htbT : s.outcomeTaken.tb = { s.tb with
        pendingStep := some (if 0 ≤ s.sourceSet.median then .plus else .minus), calTimer := x, calOpening := y, calWindow := z } := by
      rw [htaken]
      exact hdrive
    refine ⟨by rw [htb, htbT], by rw [htb, htbT], by rw [htb, htbT], houtcome.trans (by rw [hout]), ?_, ?_⟩
    · rw [hhc, htaken]
      simp
    · rw [hcount, htaken, count_bump, if_pos rfl, setDrive, calDiscard_count (by decide)]
      rfl

theorem spread_nonneg {x : SourceSet} : 0 ≤ x.spread := by
  have hsorted : x.sorted.Pairwise (· ≤ ·) := sortBy_int_pairwise _
  unfold SourceSet.spread
  cases hx : x.sorted with
  | nil => simp
  | cons y ys =>
    rw [hx] at hsorted
    obtain ⟨hy, -⟩ := List.pairwise_cons.mp hsorted
    have hlast : y ≤ (y :: ys).getLastD 0 := by
      rw [List.getLastD_eq_getLast?, List.getLast?_eq_some_getLast (by simp)]
      show y ≤ (y :: ys).getLast (by simp)
      rcases List.mem_cons.mp (List.getLast_mem (l := y :: ys) (by simp)) with h | h
      · exact h.ge
      · exact hy _ h
    simp only [List.headD_cons]
    omega

/-- The quality a set of peers gives, with the own clock or without (R73). -/
theorem qualityWritten_of_not_reference {x : SourceSet} {out : Outcome4} (h : x.kind ≠ .reference) :
    (qualityWritten x out : Int) =
      min (x.qBest + x.spread / 2 + 1 + (if out == .hindered then (x.median.natAbs : Int) else 0)) 16777215 := by
  have hspread := spread_nonneg (x := x)
  have hnonneg : (0 : Int) ≤ if out == .hindered then (x.median.natAbs : Int) else 0 := by split <;> omega
  have hvalue : qualityWritten x out =
      (min ((x.qBest : Int) + x.spread / 2 + 1 + (if out == .hindered then (x.median.natAbs : Int) else 0)) 16777215).toNat := by
    unfold qualityWritten
    cases hk : x.kind with
    | reference => exact absurd hk h
    | _ => rfl
  rw [hvalue]
  omega

theorem outcome_hindered_iff {x : SourceSet} (h : x.kind ≠ .none) :
    s.outcome x = .hindered ↔ 2 ^ s.cs.image.p ≤ x.median.natAbs ∧ s.hindered = true := by
  unfold State.outcome
  rw [if_neg (by simpa using h)]
  by_cases hlt : x.median.natAbs < 2 ^ s.cs.image.p
  · simp [hlt]
  · rw [if_neg hlt]
    cases s.hindered <;> simp <;> omega

theorem State.Decides.congr {o : Int} (h : s.Decides o u) (htb : t.tb = u.tb) (htau : t.tau = u.tau) (htd : t.td = u.td)
    (hsi : t.si = u.si) (hhc : t.hc = u.hc) (hrmu : t.rmu = u.rmu)
    (hcount : ∀ c : Counter, c ≠ .musterBeacons → c ≠ .busRecoveries → t.count c = u.count c) : s.Decides o t := by
  have hview (x : HeaterId) : t.view x = u.view x := by
    unfold State.view State.heater
    rw [hhc]
    congr 1
    funext k
    exact hcount _ (by cases x <;> cases k <;> decide) (by cases x <;> cases k <;> decide)
  constructor
  case slew => rw [htb, hhc, htau]; exact h.slew
  case step => rw [htb, htau, hcount _ (by decide) (by decide)]; exact h.step
  case hindered => rw [htb, htau, hhc, hcount _ (by decide) (by decide)]; exact h.hindered
  case moved =>
    intro hle hfree hhigh hlow
    obtain ⟨f1, f2, f3, f4, f5⟩ := h.moved hle hfree hhigh hlow
    refine ⟨by rw [htd]; exact f1, by rw [hsi]; exact f2, by rw [hcount _ (by decide) (by decide)]; exact f3, fun x => ?_,
      by rw [hrmu]; exact f5⟩
    exact (f4 x).congr rfl (hview x) rfl rfl

end

end Sys2Proof.Machine

section
open Sys2Proof Sys2Proof.Machine
set_option Elab.async false

/-- Settles O44. -/
theorem steeringInstantDecides : Obligations.SteeringInstantDecides := by
  refine ⟨fun s => ?_, fun s r => ?_, fun s hset hawake hdue => ⟨fun hsource => ?_, fun hsource => ?_⟩⟩
  · have hactive : s.td.active = true ↔ s.td.state = .on ∨ s.td.state = .hold := by simp [Trigger.active]
    have hopen : s.openEvent = true ↔ ∃ r ∈ s.cu.events, r.state = .holdoff ∨ r.state = .declared ∨ r.state = .adopted := by
      unfold State.openEvent
      rw [List.any_eq_true]
      refine exists_congr fun r => and_congr_right fun _ => ?_
      cases r.state <;> simp [RecState.open]
    unfold State.hindered
    rw [Bool.and_eq_true, Bool.or_eq_true, Bool.or_eq_true, hactive, hopen]
    simp [or_assoc]
  · have hranging : s.rangingQualifies r = true ↔ (r.ranging = .ranged ∨ r.ranging = .stale ∨
        (r.ranging = .probing ∧ ∃ p, s.tau.probe = some p ∧ p.target = r.id ∧ p.prior = .stale)) := by
      unfold State.rangingQualifies
      cases r.ranging <;> simp [Option.any_eq_true]
    unfold State.eligible State.unsetException
    simp only [Bool.and_eq_true, Bool.or_eq_true, hranging, Option.any_eq_true, beq_iff_eq, List.all_eq_true, bne_iff_ne, ne_eq,
      decide_eq_true_eq]
    cases s.tb.unset <;> simp [and_assoc]
  · show Host.Outcome.next (if (s.awake && timerDue s.tau.steerTimer s.now) = true then _ else _) = _
    rw [if_pos (by simp [hawake, hdue]), if_neg (by simpa using hsource)]
  · have hexec : exec .steeringInstant s = .next (finish (steer s)) := by
      show Host.Outcome.next (if (s.awake && timerDue s.tau.steerTimer s.now) = true then _ else _) = _
      rw [if_pos (by simp [hawake, hdue]), if_pos (by simpa using hsource)]
    have hsettled : (steer s).Settled := by
      rw [State.Settled, (steer_leaves s).2.2.2.2.1]
      exact hset
    obtain ⟨-, -, htb, hrmu, hpeers, htau, hsi, htd, -, hhc, -, -⟩ := finish_leaves_settled _ hsettled
    have hcount (c : Counter) (h1 : c ≠ .musterBeacons) (h2 : c ≠ .busRecoveries) : (finish (steer s)).count c = (steer s).count c :=
      finish_count hsettled h1 h2
    obtain ⟨helapsed, hcSlow⟩ := outcomeTaken_tb (s := s)
    have hsteer := steer_tau (s := s)
    have hdecides (h : s.sourceSet.kind ≠ .none) : s.Decides s.sourceSet.median (finish (steer s)) :=
      (steer_decides h).congr htb htau htd hsi hhc hrmu hcount
    refine ⟨finish (steer s), hexec, ?_, ?_, ?_, ?_, fun r hr => ?_, ?_, fun hlock hnone => ?_⟩
    · rw [htb, steer_tb]
      unfold steerWrites
      split <;> exact helapsed
    · rw [htb, steer_tb]
      unfold steerWrites
      split <;> exact hcSlow
    · rw [htau, hsteer]
      rfl
    · rw [htau, hsteer]
    · rw [hpeers] at hr
      exact steer_blocks.2.2.2.2.2 r hr
    · intro median decided
      have hdecided : ∀ o, s.Decides o (finish (steer s)) → decided o := by
        intro o h
        refine ⟨h.slew, fun hle => ⟨fun hfree => ?_, h.hindered hle⟩⟩
        obtain ⟨f1, f2, f3, f4, f5, f6, f7⟩ := h.step hle hfree
        refine ⟨f1, f2, f3, f4, f5, f6, f7, fun hhigh hlow => ?_⟩
        obtain ⟨g1, g2, g3, g4, -⟩ := h.moved hle hfree hhigh hlow
        refine ⟨g1, g2, g3, (g4 .b).pos, (g4 .s).pos, fun x => ?_⟩
        obtain ⟨-, c2, c3, c4, c5, c6, c7, c8, c9, c10⟩ := g4 x
        cases x with
        | b => exact ⟨c2, c3, c4, c5, c6, c7, c8, fun hedge hout => ⟨c9 hedge hout, c10 hedge hout⟩⟩
        | s => exact ⟨c2, c3, c4, c5, c6, c7, c8, fun hedge hout => ⟨c9 hedge hout, c10 hedge hout⟩⟩
      have hmedian (offsets : List Int) (hsorted : s.sourceSet.sorted = offsets) : s.sourceSet.median = median offsets := by
        unfold SourceSet.median
        rw [hsorted]
      refine ⟨fun offsets hlock h1 h3 hperm hsorted => ?_, fun g offsets best hlock hg hmem hleast => ?_⟩
      · have hset := sourceSet_of_locked hlock
        have hsorted' : s.sourceSet.sorted = offsets := by
          refine sorted_eq ?_ hsorted
          rw [hset]
          show offsets.Perm ((s.rmu.offsets.map _).map _)
          rw [List.map_map]
          exact hperm.trans (List.Perm.of_eq (List.map_id _).symm)
        have ho := hmedian offsets hsorted'
        have hkind : s.sourceSet.kind ≠ .none := by
          rw [hset]
          show SourceKind.reference ≠ .none
          decide
        have hdec := hdecides hkind
        rw [ho] at hdec
        refine ⟨?_, ?_, ?_, hdecided _ hdec, ?_, fun hle hfree hhigh hlow => (hdec.moved hle hfree hhigh hlow).2.2.2.2⟩
        · rw [htb, steer_tb_of_source hkind]
          show qualityWritten _ _ = _
          unfold qualityWritten
          rw [ho, hset]
          dsimp only
          omega
        · rw [htb, steer_tb_of_source hkind]
          show distanceWritten _ = _
          rw [hset]
          rfl
        · rw [htb, steer_tb_of_source hkind]
        · rw [htau, hsteer, ← ho, hset]
          simp
      · intro near sources o hindered hperm hsorted hbest hall
        have hset := sourceSet_of_peers hlock hg hmem hleast
        have hsources : s.nearest g = sources.map (fun x => { offset := x.1, quality := x.2 }) := by
          simp only [State.nearest, sources, near, List.map_append, List.map_map]
          split <;> rfl
        have hsorted' : s.sourceSet.sorted = offsets := by
          refine sorted_eq ?_ hsorted
          rw [hset]
          show offsets.Perm ((s.nearest g).map _)
          rw [hsources, List.map_map]
          exact hperm
        have ho := hmedian offsets hsorted'
        have hkind : s.sourceSet.kind ≠ .none := by
          rw [hset]
          dsimp only
          split <;> decide
        have hdec := hdecides hkind
        rw [ho] at hdec
        have hqBest : s.sourceSet.qBest = best := by
          refine qBest_eq ?_ fun y hy => ?_
          · obtain ⟨y, hy, hyq⟩ := hbest
            rw [hset]
            exact ⟨_, by rw [hsources]; exact List.mem_map_of_mem hy, hyq⟩
          · rw [hset] at hy
            obtain ⟨z, hz, rfl⟩ := List.mem_map.mp (hsources ▸ hy)
            exact hall z hz
        have hspread : 0 ≤ s.sourceSet.spread := spread_nonneg
        have hquality : (qualityWritten s.sourceSet (s.outcome s.sourceSet) : Int) =
            min (best + s.sourceSet.spread / 2 + 1 + (if s.outcome s.sourceSet == .hindered then (o.natAbs : Int) else 0)) 16777215 := by
          rw [qualityWritten_of_not_reference (by rw [hset]; dsimp only; split <;> decide), hqBest, ho]
        have hquality' : (finish (steer s)).tb.quality = qualityWritten s.sourceSet (s.outcome s.sourceSet) := by
          rw [htb, steer_tb_of_source hkind]
        have hspread' : s.sourceSet.spread = offsets.getLastD 0 - offsets.headD 0 := by
          unfold SourceSet.spread
          rw [hsorted']
        have hout : s.outcome s.sourceSet = .hindered ↔ hindered := by
          have hiff := outcome_hindered_iff (s := s) hkind
          rw [ho] at hiff
          exact hiff
        refine ⟨hdecided _ hdec, ?_, ?_, fun hh => ?_, fun hh => ?_, ?_⟩
        · rw [htb, steer_tb_of_source hkind]
        · rw [htb, steer_tb_of_source hkind]
          show distanceWritten _ = _
          rw [hset]
          unfold distanceWritten
          by_cases h15 : g = 15
          · simp [h15]
          · simp [h15]
        · rw [hquality', hquality, if_neg (by simpa [hout] using hh), ← hspread', add_zero]
        · rw [hquality', hquality, if_pos (by simpa [hout] using hh), ← hspread']
        · have hlength : s.sourceSet.sources.length = offsets.length := by
            rw [← hsorted']
            unfold SourceSet.sorted
            rw [sortBy_length, List.length_map]
          have hnone : (s.sourceSet.kind == .none) = false := by simpa using hkind
          rw [htau, hsteer, hlength, ho, hnone, hset]
          rfl
    · have hset := sourceSet_of_none hlock hnone
      have hout : s.outcome s.sourceSet = .holdover := by rw [hset]; rfl
      have htaken : s.outcomeTaken = bump .holdovers (s.setTb { s.tb with rPhase := 0, pendingStep := none, distance := 15 }) := by
        unfold State.outcomeTaken
        rw [hout]
        rfl
      obtain ⟨hrmu', -, -, -, hcounters, -⟩ := steer_blocks (s := s)
      refine ⟨?_, ?_, ?_, ?_⟩
      · rw [htb, steer_tb, htaken, hout]
        rfl
      · rw [hcount _ (by decide) (by decide), count_of_counters_eq hcounters, htaken, count_bump, if_pos rfl]
        rfl
      · rw [hrmu, hrmu', htaken]
        rfl
      · rw [htau, hsteer, hout]
        rfl

end

/-! PROOFS. The transfers of the Uplink Controller: their bytes, their start, their fetches and their end. -/
namespace Sys2Proof.Machine
set_option Elab.async false

section
variable {s t u : State} {x : Transfer} {a : Alert} {r : EventRec} {k : Nat}

/-! ## Bytes -/

theorem be_one (n : Nat) : be 1 n = [BitVec.ofNat 8 n] := by simp [be]

theorem be_two (n : Nat) : be 2 n = [BitVec.ofNat 8 (n / 256), BitVec.ofNat 8 n] := by simp [be]

theorem be_three (n : Nat) : be 3 n = [BitVec.ofNat 8 (n / 65536), BitVec.ofNat 8 (n / 256), BitVec.ofNat 8 n] := by simp [be]

theorem ofNat_byte_eq {n : Nat} {i : Int} (h : (n : Int) % 256 = i % 256) : BitVec.ofNat 8 n = BitVec.ofInt 8 i := by
  apply BitVec.eq_of_toNat_eq
  rw [BitVec.toNat_ofNat, BitVec.toNat_ofInt]
  omega

theorem beInt_one (i : Int) : beInt 1 i = [BitVec.ofInt 8 i] := by
  rw [beInt, be_one, ofNat_byte_eq (i := i) (by omega)]

theorem beInt_two (i : Int) : beInt 2 i = [BitVec.ofInt 8 (i / 256), BitVec.ofInt 8 i] := by
  rw [beInt, be_two, ofNat_byte_eq (i := i / 256) (by omega), ofNat_byte_eq (i := i) (by omega)]

theorem be_two_int (n : Nat) : be 2 n = [BitVec.ofInt 8 ((n : Int) / 256), BitVec.ofInt 8 n] := by
  rw [be_two, ofNat_byte_eq (i := (n : Int) / 256) (by omega), ofNat_byte_eq (i := n) (by omega)]

/-- The sum of the payload as it goes out: its two low bytes (section 8.4). -/
theorem be_payloadSum (bs : List Byte) : be 2 (payloadSum bs) =
    [BitVec.ofNat 8 ((bs.map (fun b => b.toNat)).sum / 256), BitVec.ofNat 8 (bs.map (fun b => b.toNat)).sum] := by
  have hsum : bs.foldl (fun n b => n + b.toNat) 0 = (bs.map (fun b => b.toNat)).sum := by
    rw [List.sum_eq_foldl, List.foldl_map]
  rw [payloadSum, hsum, be_two]
  generalize (bs.map (fun b => b.toNat)).sum = n
  congr 1
  · exact BitVec.eq_of_toNat_eq (by simp only [BitVec.toNat_ofNat]; omega)
  · congr 1
    exact BitVec.eq_of_toNat_eq (by simp only [BitVec.toNat_ofNat]; omega)

theorem eventHead_length : (eventHead r).length = 10 := by simp [eventHead]

theorem partSegment_length (i : Nat) : (partSegment r i).length = 4 := by
  unfold partSegment
  split <;> simp

theorem maxRatio_eq : r.maxRatio = (r.parts.map Part.peak).foldl max 0 := by
  rw [EventRec.maxRatio, List.foldl_map]

theorem partSegment_of_some {i : Nat} {p : Part} (h : r.parts[i]? = some p) :
    partSegment r i = be 1 p.station ++ be 2 (r.offset p) ++ be 1 p.peak := by
  simp [partSegment, h]

theorem healthSegment_length : s.healthSegment.length = 24 := by simp [State.healthSegment, beInt]

/-! ## The bytes on the line (section 8.4) -/

theorem line_of_cut (h : x.cut.isSome) : x.line = [sohByte] ++ be 1 x.length ++ x.payload ++ [canByte] := by
  obtain ⟨c, hc⟩ := Option.isSome_iff_exists.1 h
  simp [Transfer.line, Transfer.ending, hc]

theorem line_of_open (hcut : x.cut = none) (h : x.fetched < x.segments) :
    x.line = [sohByte] ++ be 1 x.length ++ x.payload := by
  simp [Transfer.line, Transfer.ending, hcut, Nat.ne_of_lt h]

theorem line_of_fetched (hcut : x.cut = none) (h : x.fetched = x.segments) :
    x.line = [sohByte] ++ be 1 x.length ++ x.payload ++ be 2 (payloadSum x.payload) := by
  simp [Transfer.line, Transfer.ending, hcut, h]

/-! ## The start of a transfer (R147, R150) -/

/-- The transfer of the head (R150). -/
def State.headTransfer (s : State) (a : Alert) : Transfer :=
  let r := a.rid.bind s.rec?
  let update := if a.kind.isReport then r.elim a.update EventRec.update else 0
  let n := if a.kind.isReport then r.elim 0 (fun r => r.parts.length) else 0
  { kind := a.kind, rid := a.rid, id := a.id, update := update, count := n, segments := if a.kind.isReport then n + 1 else 1,
    fetched := 0, payload := headerSegment s.ownId a.kind a.id update s.tb.time, last := none, cut := none, onTimes := none }

theorem ucStart_of_head (h : s.uc.head = some a) : ucStart s = ucSync (s.setUc { s.uc with
    queue := s.uc.queue.replace a { a with turn := .sending, update := (s.headTransfer a).update }
    modem := .sending, modemTimer := none, busyCount := 0, transfer := some (s.headTransfer a) }) := by
  unfold ucStart
  simp only [h]
  rfl

theorem headTransfer_of_report (hkind : a.kind.isReport = true) (hrid : a.rid = some k) (hrec : s.rec? k = some r) :
    (s.headTransfer a).update = r.update ∧ (s.headTransfer a).count = r.parts.length ∧
    (s.headTransfer a).segments = r.parts.length + 1 := by
  simp [State.headTransfer, hkind, hrid, hrec]

theorem headTransfer_of_other (hkind : a.kind.isReport = false) :
    (s.headTransfer a).update = 0 ∧ (s.headTransfer a).segments = 1 := by
  simp [State.headTransfer, hkind]

theorem mem_replace_self {α : Type} [BEq α] [LawfulBEq α] {l : List α} {p q : α} (h : p ∈ l) : q ∈ l.replace p q := by
  induction l with
  | nil => simp at h
  | cons y l ih =>
    rcases List.mem_cons.1 h with rfl | h
    · simp
    · by_cases hy : p = y
      · simp [hy]
      · have hno : (p == y) = false := by simpa using hy
        simp [List.replace_cons, hno, ih h]

theorem mem_of_head (h : s.uc.head = some a) : a ∈ s.uc.queue := List.mem_of_find?_eq_some h

theorem modemKick_of_sending (h : s.uc.modem = .sending) : modemKick s = s :=
  modemKick_of_rests s (.inr (by rw [h]; trivial))

/-- The end of a step leaves a transfer in progress alone. -/
theorem finish_uc_of_sending (hs : s.Settled) (h : s.uc.modem = .sending) : (finish s).uc = s.uc := by
  rw [finish_eq_follow hs, modemKick_of_sending h]
  simp

/-! ## The fetches (R150, R151) -/

theorem ucFetch_of_cut (hkind : x.kind.isReport = true) (hrid : x.rid = some k) (hrec : s.rec? k = some r)
    (hdiff : x.differs r = true) : ucFetch x s = s.setUc { s.uc with transfer := some { x with cut := some .change } } := by
  simp [ucFetch, hkind, hrid, hrec, hdiff]

/-- The transfer with one more segment fetched. -/
def State.fetched (s : State) (x : Transfer) : Transfer :=
  { x with fetched := x.fetched + 1, payload := x.payload ++ s.nextSegment x
           last := some { moment := s.now, left := x.leftAtFetch, size := (s.nextSegment x).length }
           onTimes := if x.kind == .health then some (s.hc.b.onTime, s.hc.s.onTime) else x.onTimes }

theorem ucFetch_of_same (h : (x.kind.isReport && (x.rid.bind s.rec?).any x.differs) = false) :
    ucFetch x s = s.setUc { s.uc with transfer := some (s.fetched x) } := by
  rw [ucFetch, h]
  rfl

theorem differs_iff : x.differs r = true ↔ r.id ≠ x.id ∨ r.update ≠ x.update ∨ r.parts.length ≠ x.count := by
  simp [Transfer.differs, or_assoc]

theorem exec_segmentFetch (hm : s.uc.modem = .sending) (hx : s.uc.transfer = some x) (hcut : x.cut = none)
    (hopen : x.fetched < x.segments) : exec .segmentFetch s = .next (ucFetch x s) := by
  show execSegmentFetch s = _
  simp [execSegmentFetch, hm, hx, hcut, hopen]

theorem nextSegment_of_report (hkind : x.kind.isReport = true) (hrid : x.rid = some k) (hrec : s.rec? k = some r) :
    s.nextSegment x = if x.fetched = 0 then eventHead r else partSegment r (x.fetched - 1) := by
  unfold State.nextSegment
  rw [hrid, Option.bind_some, hrec]
  cases hk : x.kind <;> simp_all [AlertKind.isReport]

theorem nextSegment_of_retract (hkind : x.kind = .retract) (hrid : x.rid = some k) (hrec : s.rec? k = some r) :
    s.nextSegment x = retractSegment r := by
  unfold State.nextSegment
  rw [hrid, Option.bind_some, hrec, hkind]

theorem nextSegment_of_health (hkind : x.kind = .health) : s.nextSegment x = s.healthSegment := by
  unfold State.nextSegment
  rw [hkind]

/-! ## The end of the sum (R147) -/

theorem exec_messageSumSent (hm : s.uc.modem = .sending) (hx : s.uc.transfer = some x) (hcut : x.cut = none)
    (hall : x.fetched = x.segments) (hq : s.uc.queue = [a]) (hturn : a.turn = .sending) :
    exec .messageSumSent s = .next (ucSync (setModem .awaiting (s.startTimer (secs 2))
      (setQueue [{ a with turn := .awaiting }] s))) := by
  have hin : s.uc.inTransfer = some a := by simp [Uplink.inTransfer, hq, hturn, Turn.inTransfer]
  show execMessageSumSent s = _
  unfold execMessageSumSent
  rw [hm, hx, hin]
  simp [hcut, hall, hq]

end

end Sys2Proof.Machine

section
open Sys2Proof Sys2Proof.Machine
set_option Elab.async false

theorem transfer_line (x : Transfer) :
    (x.cut.isSome → x.line = [0x01#8, BitVec.ofNat 8 x.length] ++ x.payload ++ [0x18#8]) ∧
    (x.cut = none → x.fetched < x.segments → x.line = [0x01#8, BitVec.ofNat 8 x.length] ++ x.payload) ∧
    (x.cut = none → x.fetched = x.segments → x.line = [0x01#8, BitVec.ofNat 8 x.length] ++ x.payload ++
      [BitVec.ofNat 8 ((x.payload.map (fun b => b.toNat)).sum / 256), BitVec.ofNat 8 (x.payload.map (fun b => b.toNat)).sum]) := by
  have hstart : [sohByte] ++ be 1 x.length ++ x.payload = [0x01#8, BitVec.ofNat 8 x.length] ++ x.payload := by
    rw [be_one]
    rfl
  refine ⟨fun h => ?_, fun hcut h => ?_, fun hcut h => ?_⟩
  · rw [line_of_cut h, hstart]
    rfl
  · rw [line_of_open hcut h, hstart]
  · rw [line_of_fetched hcut h, hstart, be_payloadSum]

theorem healthSegment_bytes (s : State) (mode : OpMode) (hmode : s.mc.standing.mode = some mode) :
    (let byte (n : Nat) : Byte := BitVec.ofNat 8 n
     let two (n : Int) : List Byte := [BitVec.ofInt 8 (n / 256), BitVec.ofInt 8 n]
     let bit (p : Prop) [Decidable p] (n : Nat) : Nat := if p then n else 0
     s.healthSegment = [byte mode.code, byte s.bm.cls.code, BitVec.ofInt 8 s.bm.soc,
         byte (bit (s.bm.anchored = true) 1 + bit (s.bm.stale = true) 2 + bit (s.bm.chargeEn = true) 4 + bit (s.pins.chgAvl = true) 8 +
           bit (s.rmu.state = .locked) 16 + bit (s.cs.defaulted = true) 32)] ++
       two (s.bm.v.getD 0) ++ two (max (-32768) (min 32767 (s.bm.i.getD 0))) ++ two (s.bm.temp.getD (-32768)) ++
       two (s.bm.tempA.getD (-32768)) ++ two (s.bm.tempB.getD (-32768)) ++ two s.hc.b.onTime ++ two s.hc.s.onTime ++
       [byte (s.tb.quality / 65536), byte (s.tb.quality / 256), byte s.tb.quality, byte s.tb.distance, byte s.peers.length,
         byte s.uc.queue.length]) := by
  intro byte two bit
  have hbit (b : Bool) (n : Nat) : bit (b = true) n = n * b.toNat := by cases b <;> simp [bit]
  have hlocked : bit (s.rmu.state = .locked) 16 = 16 * (s.rmu.state == .locked).toNat := by
    cases s.rmu.state <;> rfl
  have hf : s.healthFlags = bit (s.bm.anchored = true) 1 + bit (s.bm.stale = true) 2 + bit (s.bm.chargeEn = true) 4 +
      bit (s.pins.chgAvl = true) 8 + bit (s.rmu.state = .locked) 16 + bit (s.cs.defaulted = true) 32 := by
    simp only [hbit, hlocked, State.healthFlags, Nat.one_mul]
  rw [State.healthSegment, hmode, Option.elim_some, hf, clampInt_eq (by decide)]
  simp only [be_one, be_three, beInt_one, beInt_two, be_two_int, List.cons_append, List.nil_append, byte, two]

theorem segmentFetch_facts (s : State) (x : Transfer) (hm : s.uc.modem = .sending) (hx : s.uc.transfer = some x)
    (hcut : x.cut = none) (hopen : x.fetched < x.segments) :
    (let fetch (bytes : List Byte) (size : Nat) : Transfer :=
       { x with fetched := x.fetched + 1, payload := x.payload ++ bytes,
                last := some { moment := s.now, size := size, left := x.leftAtFetch } }
     let gives (y : Transfer) : Prop := exec .segmentFetch s = .next (s.setUc { s.uc with transfer := some y })
     (∀ k r, (x.kind = .event ∨ x.kind = .update) → x.rid = some k → s.rec? k = some r →
      ((r.id = x.id ∧ r.update = x.update ∧ r.parts.length = x.count) →
        gives (if x.fetched = 0 then fetch (eventHead r) 10 else fetch (partSegment r (x.fetched - 1)) 4)) ∧
      ((r.id ≠ x.id ∨ r.update ≠ x.update ∨ r.parts.length ≠ x.count) →
        gives { x with cut := some .change })) ∧
     (∀ k r, x.kind = .retract → x.rid = some k → s.rec? k = some r →
      (let winner := if r.state = .merged then r.mergedInto else r.id
       gives (fetch [BitVec.ofNat 8 (winner.elim 0 EventId.origin), BitVec.ofNat 8 (winner.elim 0 EventId.seq)] 2))) ∧
     (x.kind = .health →
       gives { fetch s.healthSegment 24 with onTimes := some (s.hc.b.onTime, s.hc.s.onTime) })) := by
  intro fetch gives
  have hexec := exec_segmentFetch hm hx hcut hopen
  have hgives {bytes : List Byte} {size : Nat} (hother : x.kind ≠ .health)
      (hsame : (x.kind.isReport && (x.rid.bind s.rec?).any x.differs) = false)
      (hbytes : s.nextSegment x = bytes) (hsize : bytes.length = size) : gives (fetch bytes size) := by
    subst hbytes hsize
    show exec .segmentFetch s = _
    rw [hexec, ucFetch_of_same hsame, State.fetched, if_neg (by simpa using hother)]
  refine ⟨fun k r hkind hrid hrec => ?_, fun k r hkind hrid hrec => ?_, fun hkind => ?_⟩
  · have hreport : x.kind.isReport = true := by rcases hkind with h | h <;> rw [h] <;> rfl
    have hother : x.kind ≠ .health := by rcases hkind with h | h <;> simp [h]
    refine ⟨fun hsame => ?_, fun hdiff => ?_⟩
    · have hno : x.differs r = false := by
        rw [Bool.eq_false_iff, ne_eq, differs_iff]
        simp [hsame.1, hsame.2.1, hsame.2.2]
      have hseg := nextSegment_of_report hreport hrid hrec
      have hany : (x.kind.isReport && (x.rid.bind s.rec?).any x.differs) = false := by simp [hrid, hrec, hno]
      by_cases hz : x.fetched = 0
      · rw [if_pos hz] at hseg ⊢
        exact hgives hother hany hseg eventHead_length
      · rw [if_neg hz] at hseg ⊢
        exact hgives hother hany hseg (partSegment_length _)
    · show exec .segmentFetch s = _
      rw [hexec, ucFetch_of_cut hreport hrid hrec (differs_iff.2 hdiff)]
  · have hbytes : retractSegment r = [BitVec.ofNat 8 ((if r.state = .merged then r.mergedInto else r.id).elim 0 EventId.origin),
        BitVec.ofNat 8 ((if r.state = .merged then r.mergedInto else r.id).elim 0 EventId.seq)] := by
      simp [retractSegment, be_one]
    exact hgives (by simp [hkind]) (by simp [hkind, AlertKind.isReport])
      ((nextSegment_of_retract hkind hrid hrec).trans hbytes) rfl
  · show exec .segmentFetch s = _
    rw [hexec, ucFetch_of_same (by simp [hkind, AlertKind.isReport]), State.fetched, nextSegment_of_health hkind,
      healthSegment_length, if_pos (by simp [hkind])]

theorem upRdyRise_starts (s : State) (a : Alert) (hs : s.Settled) (hm : s.uc.modem = .readyWait) (hhead : s.uc.head = some a) :
    ∃ t x, exec .upRdyRise s = .next t ∧ t.uc.transfer = some x ∧ t.pins = { s.pins with upRdy := true } ∧
      t.uc.modem = .sending ∧ t.uc.modemTimer = none ∧ t.uc.busyCount = 0 ∧ x.kind = a.kind ∧ x.rid = a.rid ∧ x.id = a.id ∧
      x.fetched = 0 ∧ x.cut = none ∧ x.last = none ∧
      (∃ y ∈ t.uc.queue, y = { a with turn := .sending, update := x.update }) ∧
      x.payload = [BitVec.ofNat 8 a.kind.code,
          BitVec.ofNat 8 s.ownId, BitVec.ofNat 8 (a.id.elim 0 EventId.origin), BitVec.ofNat 8 (a.id.elim 0 EventId.seq),
          BitVec.ofNat 8 x.update] ++ timeBytes s.tb.time ∧
      ((a.kind = .health ∨ a.kind = .retract) → x.update = 0 ∧ x.segments = 1) ∧
      (∀ k r, (a.kind = .event ∨ a.kind = .update) → a.rid = some k → s.rec? k = some r →
        x.update = r.update ∧ x.count = r.parts.length ∧ x.segments = r.parts.length + 1) ∧ t.tb = s.tb ∧ t.bm = s.bm := by
  have hexec : exec .upRdyRise s = .next (finish (ucStart (s.setPins { s.pins with upRdy := true }))) := by
    show execUpRdyRise s = _
    simp [execUpRdyRise, hm]
  have hstart := ucStart_of_head (s := s.setPins { s.pins with upRdy := true }) (a := a) hhead
  have hset : (ucStart (s.setPins { s.pins with upRdy := true })).Settled := by
    rw [hstart]
    exact hs
  have huc := finish_uc_of_sending hset (by rw [hstart]; rfl)
  obtain ⟨_, hpins, htb, -, -, -, -, -, hbm, -⟩ := finish_leaves_settled _ hset
  have hpayload : (s.headTransfer a).payload =
      [BitVec.ofNat 8 a.kind.code,
        BitVec.ofNat 8 s.ownId, BitVec.ofNat 8 (a.id.elim 0 EventId.origin), BitVec.ofNat 8 (a.id.elim 0 EventId.seq),
        BitVec.ofNat 8 (s.headTransfer a).update] ++ timeBytes s.tb.time := by
    show headerSegment s.ownId a.kind a.id (s.headTransfer a).update s.tb.time = _
    rw [headerSegment]
    simp only [be_one, List.cons_append, List.nil_append]
  refine ⟨_, s.headTransfer a, hexec, by rw [huc, hstart]; rfl, by rw [hpins, hstart]; rfl, by rw [huc, hstart]; rfl,
    by rw [huc, hstart]; rfl, by rw [huc, hstart]; rfl, rfl, rfl, rfl, rfl, rfl, rfl, ?_, hpayload, fun hkind => ?_,
    fun k r hkind hrid hrec => ?_, by rw [htb, hstart]; rfl, by rw [hbm, hstart]; rfl⟩
  · refine ⟨_, ?_, rfl⟩
    rw [huc, hstart]
    exact mem_replace_self (mem_of_head hhead)
  · exact headTransfer_of_other (by rcases hkind with h | h <;> rw [h] <;> rfl)
  · exact headTransfer_of_report (by rcases hkind with h | h <;> rw [h] <;> rfl) hrid hrec

/-- Settles O52. -/
theorem transferSendsTheChain : Obligations.TransferSendsTheChain := by
  unfold Obligations.TransferSendsTheChain
  refine ⟨fun x => ?_, fun s => ⟨fun h => ?_, fun x h => ?_⟩, fun s a hs hm hhead => ?_, fun s hm => ?_,
    fun r => ⟨?_, fun i p h => ?_⟩, fun s mode hmode => ?_, fun s x hm hx hcut hopen => ?_,
    fun s x a hm hx hcut hall hq hturn => ?_⟩
  · have h := transfer_line x
    cases hkind : x.kind <;> simpa [Transfer.length, hkind] using h
  · simp [State.uplinkLine, h]
  · simp [State.uplinkLine, h]
  · obtain ⟨t, x, h⟩ := upRdyRise_starts s a hs hm hhead
    refine ⟨t, x, ?_⟩
    cases hkind : a.kind <;> simpa [hkind, AlertKind.code] using h
  · show execUpRdyRise s = _
    simp [execUpRdyRise, hm]
  · rw [eventHead, maxRatio_eq]
    simp only [be_one, List.append_assoc, List.cons_append, List.nil_append]
    cases r.state <;> rfl
  · rw [partSegment_of_some h, be_one, be_one, be_two]
    rfl
  · have h := healthSegment_bytes s mode hmode
    cases mode <;> cases hcls : s.bm.cls <;> simpa [hcls, OpMode.code, BatClass.code] using h
  · have h := segmentFetch_facts s x hm hx hcut hopen
    unfold Transfer.leftAtFetch at h
    cases hlast : x.last <;> simpa [hlast] using h
  · refine ⟨_, exec_messageSumSent hm hx hcut hall hq hturn, ?_, rfl, rfl, rfl, rfl⟩
    simp [setModem, setQueue, State.startTimer, State.now]

end

/-! PROOFS. Withdrawal and change of id, cuts and busy limits, stated of the only event record and at most one alert. -/
namespace Sys2Proof.Machine
set_option Elab.async false

section
variable {s t u v : State} {x : Transfer} {a : Alert} {r : EventRec}

/-! ## An alert leaves, with nothing stacked (R143, R145) -/

theorem ucPromote_of_none (h : s.uc.stacked = []) : ucPromote s = s := by
  have hone : ucPromoteOne s = s := by
    unfold ucPromoteOne
    simp [h, sortBy]
  unfold ucPromote
  generalize List.range 8 = xs
  induction xs with
  | nil => rfl
  | cons y xs ih => rw [List.foldl_cons, hone, ih]

theorem ucHealthLeft_of_not_due {kind : AlertKind} (h : (kind == .health && s.uc.healthDue) = false) :
    ucHealthLeft kind s = s := by
  simp [ucHealthLeft, h]

/-- The alert is out of the queue, and nothing has followed it yet. -/
def State.left (s : State) (a : Alert) (how : UplinkState) : State :=
  ucReportEmpty s (ucSync (ucLeft a.rid how (setQueue (s.uc.queue.erase a) s)))

theorem left_uc {how : UplinkState} : (s.left a how).uc = { s.uc with queue := s.uc.queue.erase a } := by
  simp [State.left, setQueue]

theorem left_cu {how : UplinkState} : (s.left a how).cu =
    (ucSync (ucLeft a.rid how (setQueue (s.uc.queue.erase a) s))).cu := by simp [State.left]

/-- With nothing stacked and no HEALTH alert due, the place of an alert that leaves stays free. -/
theorem ucLeave_of_none_stacked {how : UplinkState} (hstacked : s.uc.stacked = [])
    (hdue : (a.kind == .health && s.uc.healthDue) = false) : ucLeave a how s = s.left a how := by
  show ucHealthLeft a.kind (ucPromote (s.left a how)) = _
  rw [ucPromote_of_none (by rw [left_uc]; exact hstacked), ucHealthLeft_of_not_due (by rw [left_uc]; exact hdue)]

theorem not_due_of_report (hkind : a.kind.isReport = true) : (a.kind == .health && s.uc.healthDue) = false := by
  cases hk : a.kind <;> simp_all [AlertKind.isReport]

theorem isReport_of {k : AlertKind} (hkind : k = .event ∨ k = .update) : k.isReport = true := by
  rcases hkind with h | h <;> rw [h] <;> rfl

/-- The only record's only alert leaves: the queue is empty and the record stands as the alert left. -/
theorem left_only {how : UplinkState} (hqueue : s.uc.queue = [a]) (hstacked : s.uc.stacked = []) (hrid : a.rid = some r.rid)
    (hevents : s.cu.events = [r]) :
    (s.left a how).uc = { s.uc with queue := [] } ∧ (s.left a how).cu = { s.cu with events := [{ r with uplink := how }] } := by
  have huc : (s.left a how).uc = { s.uc with queue := [] } := by rw [left_uc, hqueue]; simp
  have hupd : (ucLeft a.rid how (setQueue (s.uc.queue.erase a) s)).cu = { s.cu with events := [{ r with uplink := how }] } := by
    rw [hrid]
    exact updRec_only (s := setQueue (s.uc.queue.erase a) s) (by exact hevents)
  refine ⟨huc, ?_⟩
  have hsame : (ucLeft a.rid how (setQueue (s.uc.queue.erase a) s)).uc = (s.left a how).uc := by
    rw [left_uc]
    simp [setQueue]
  rw [left_cu, ucSync_cu, hupd, hsame, huc, List.map_singleton, uplinkStateOf_of_spared ⟨by simp, by simp [hstacked]⟩]

/-! ## A RETRACT, and an EVENT beside it -/

/-- A record whose alerts all wait is QUEUED (R143). -/
theorem uplinkStateOf_of_waiting {w : Uplink} (hall : ∀ b ∈ w.queue, b.turn = .ready ∨ b.turn = .retry)
    (hmine : ∃ b ∈ w.queue, b.rid = some r.rid) : uplinkStateOf w r = .queued := by
  have hnone (p : Turn) (hp : p ≠ .ready ∧ p ≠ .retry) :
      (w.queue.filter (fun a => a.rid == some r.rid)).any (fun a => a.turn == p) = false := by
    rw [List.any_eq_false]
    intro b hb
    rcases hall b (List.mem_of_mem_filter hb) with h | h <;> simp [h, hp.1.symm, hp.2.symm]
  have hwaits : (w.queue.filter (fun a => a.rid == some r.rid)).any (fun a => a.turn == .ready || a.turn == .retry) = true := by
    obtain ⟨b, hb, hrid⟩ := hmine
    exact List.any_eq_true.2 ⟨b, by simp [hb, hrid], by rcases hall b hb with h | h <;> simp [h]⟩
  unfold uplinkStateOf
  simp only [hnone .sending (by decide), hnone .awaiting (by decide), hwaits]
  rfl

theorem freshAlert_congr {kind : AlertKind} {rid : Option Nat} {id : Option EventId} {update : Nat} (h : t.tb = s.tb) :
    t.freshAlert kind rid id update = s.freshAlert kind rid id update := by
  simp [State.freshAlert, State.now, h]

theorem ucPlace_of_short {kind : AlertKind} {k update : Nat} {id : Option EventId} (h : s.uc.queue.length < 8) :
    ucPlace kind k id update s = ucInsert kind (some k) id update s := if_pos h

/-- A RETRACT takes its place in a queue that holds none (R144). -/
theorem ucRaiseRetract_of_none {k : Nat} {id : Option EventId} (hlen : s.uc.queue.length < 8)
    (hnone : ∀ b ∈ s.uc.queue, b.kind ≠ .retract) : ucRaiseRetract k id s = ucInsert .retract (some k) id 0 s := by
  have hholds : s.uc.holds .retract id 0 = false := by
    unfold Uplink.holds
    rw [List.any_eq_false]
    exact fun b hb => by simp [hnone b hb]
  rw [ucRaiseRetract, hholds, ← ucPlace_of_short hlen]
  rfl

/-- A report of the only record takes its place in a queue without a report (R144). -/
theorem ucRaiseReport_of_none {kind : AlertKind} (hevents : s.cu.events = [r]) (hlen : s.uc.queue.length < 8)
    (hkind : kind.isReport = true) (hnone : ∀ b ∈ s.uc.queue, b.kind.isReport = false) (hstacked : s.uc.stacked = []) :
    ucRaiseReport kind r.rid s = ucInsert kind (some r.rid) r.id r.update s := by
  have hwaits : s.uc.queue.any (fun a => a.rid == some r.rid && a.kind.isReport && !a.turn.inTransfer) = false := by
    rw [List.any_eq_false]
    exact fun b hb => by simp [hnone b hb]
  have hholds : s.uc.holds kind r.id r.update = false := by
    unfold Uplink.holds
    rw [List.any_eq_false]
    intro b hb
    have hne : b.kind ≠ kind := fun h => by simpa [h, hkind] using hnone b hb
    simp [hne]
  unfold ucRaiseReport
  simp only [rec?_only hevents, hwaits, hstacked, hholds, List.any_nil, if_false, Bool.false_eq_true]
  exact ucPlace_of_short hlen

/-- An alert of the only record enters a queue in which all wait: the record is QUEUED. -/
theorem ucInsert_waiting {kind : AlertKind} {id : Option EventId} {update : Nat} (hevents : s.cu.events = [r])
    (hall : ∀ b ∈ s.uc.queue, b.turn = .ready ∨ b.turn = .retry) :
    (ucInsert kind (some r.rid) id update s).cu = { s.cu with events := [{ r with uplink := .queued }] } := by
  have hqueue : (ucInsert kind (some r.rid) id update s).uc.queue =
      placedAlert (s.freshAlert kind (some r.rid) id update) s.uc.queue := congrArg Uplink.queue ucInsert_uc
  rw [ucInsert_cu, hevents, List.map_singleton, uplinkStateOf_of_waiting (r := r)]
  · rw [hqueue]
    intro b hb
    rcases mem_placedAlert.1 hb with rfl | h
    · exact .inl rfl
    · exact hall b h
  · rw [hqueue]
    exact ⟨_, mem_placedAlert.2 (.inl rfl), rfl⟩

@[simp] theorem ucInsert_counters {kind : AlertKind} {rid : Option Nat} {id : Option EventId} {update : Nat} :
    (ucInsert kind rid id update s).counters = s.counters := by simp [ucInsert, setQueue]

theorem ucRaiseRetract_counters {k : Nat} {id : Option EventId} (hqueue : s.uc.queue = []) :
    (ucRaiseRetract k id s).counters = s.counters := by
  rw [ucRaiseRetract_of_none (by simp [hqueue]) (by simp [hqueue]), ucInsert_counters]

/-- A RETRACT of the only record in an empty queue (R144). -/
theorem ucRaiseRetract_only {id : Option EventId} (hqueue : s.uc.queue = []) (hevents : s.cu.events = [r]) :
    (ucRaiseRetract r.rid id s).uc = { s.uc with queue := [s.freshAlert .retract (some r.rid) id 0] } ∧
    (ucRaiseRetract r.rid id s).cu = { s.cu with events := [{ r with uplink := .queued }] } := by
  rw [ucRaiseRetract_of_none (by simp [hqueue]) (by simp [hqueue])]
  refine ⟨?_, ucInsert_waiting hevents (by simp [hqueue])⟩
  rw [ucInsert_uc, hqueue]
  rfl

/-- A RETRACT of the only record behind its EVENT that waits. -/
theorem ucRaiseRetract_behind {b : Alert} {id : Option EventId} (hqueue : s.uc.queue = [b]) (hkind : b.kind = .event)
    (hturn : b.turn = .ready ∨ b.turn = .retry) (hevents : s.cu.events = [r]) :
    (ucRaiseRetract r.rid id s).uc = { s.uc with queue := [b, s.freshAlert .retract (some r.rid) id 0] } ∧
    (ucRaiseRetract r.rid id s).cu = { s.cu with events := [{ r with uplink := .queued }] } := by
  rw [ucRaiseRetract_of_none (by simp [hqueue]) (by simp [hqueue, hkind])]
  refine ⟨?_, ucInsert_waiting hevents (by simpa [hqueue] using hturn)⟩
  rw [ucInsert_uc, hqueue]
  simp [placedAlert, State.freshAlert, hkind, AlertKind.priority]

/-- An EVENT of the only record before its RETRACT. -/
theorem ucRaiseReport_before {b : Alert} (hqueue : s.uc.queue = [b]) (hkind : b.kind = .retract) (hturn : b.turn = .ready)
    (hstacked : s.uc.stacked = []) (hevents : s.cu.events = [r]) :
    (ucRaiseReport .event r.rid s).uc =
      { s.uc with queue := [s.freshAlert .event (some r.rid) r.id r.update, b] } ∧
    (ucRaiseReport .event r.rid s).cu = { s.cu with events := [{ r with uplink := .queued }] } := by
  rw [ucRaiseReport_of_none hevents (by simp [hqueue]) rfl (by simp [hqueue, hkind, AlertKind.isReport]) hstacked]
  refine ⟨?_, ucInsert_waiting hevents (by simp [hqueue, hturn])⟩
  rw [ucInsert_uc, hqueue]
  simp [placedAlert, State.freshAlert, hkind, AlertKind.priority]

/-- A RETRACT of a former id and an EVENT under the new one, in an empty queue. -/
theorem retract_then_report {former : Option EventId} (hqueue : s.uc.queue = []) (hstacked : s.uc.stacked = [])
    (hevents : s.cu.events = [r]) :
    (ucRaiseReport .event r.rid (ucRaiseRetract r.rid former s)).uc = { s.uc with queue :=
      [s.freshAlert .event (some r.rid) r.id r.update, s.freshAlert .retract (some r.rid) former 0] } ∧
    (ucRaiseReport .event r.rid (ucRaiseRetract r.rid former s)).cu = { s.cu with events := [{ r with uplink := .queued }] } ∧
    (ucRaiseReport .event r.rid (ucRaiseRetract r.rid former s)).counters = s.counters := by
  obtain ⟨huc, hcu⟩ := ucRaiseRetract_only (id := former) hqueue hevents
  have hcounters : (ucRaiseReport .event r.rid (ucRaiseRetract r.rid former s)).counters = s.counters := by
    rw [ucRaiseReport_of_none (s := ucRaiseRetract r.rid former s) (r := { r with uplink := .queued })
      (congrArg Coincidence.events hcu) (by simp [huc]) rfl (by rw [huc]; simp [State.freshAlert, AlertKind.isReport])
      ((congrArg Uplink.stacked huc).trans hstacked), ucInsert_counters]
    exact ucRaiseRetract_counters hqueue
  obtain ⟨hu, hc⟩ := ucRaiseReport_before (s := ucRaiseRetract r.rid former s) (r := { r with uplink := .queued })
    (congrArg Uplink.queue huc) rfl rfl ((congrArg Uplink.stacked huc).trans hstacked) (congrArg Coincidence.events hcu)
  refine ⟨hu.trans ?_, hc.trans ?_, hcounters⟩
  · rw [huc, freshAlert_congr (t := ucRaiseRetract r.rid former s) (s := s) (by simp)]
  · rw [hcu]

/-! ## Withdrawal (R153) -/

theorem ucRetractWithdrawn_of_kept (hevents : s.cu.events = [r])
    (h : (r.delivered && !s.uc.reportInTransfer r.rid) = false) : ucRetractWithdrawn r.rid s = s := by
  unfold ucRetractWithdrawn
  simp only [rec?_only hevents, h]
  rfl

theorem ucRetractWithdrawn_of_delivered (hevents : s.cu.events = [r]) (hdelivered : r.delivered = true)
    (hfree : s.uc.reportInTransfer r.rid = false) : ucRetractWithdrawn r.rid s = ucRaiseRetract r.rid r.id s := by
  unfold ucRetractWithdrawn
  simp only [rec?_only hevents, hdelivered, hfree]
  rfl

theorem reportInTransfer_of_empty {w : Uplink} {k : Nat} (h : w.queue = []) : w.reportInTransfer k = false := by
  simp [Uplink.reportInTransfer, h]

/-- A record that the withdrawal left without an alert: a delivered one gets its RETRACT (R153). -/
theorem ucRetractWithdrawn_only (hqueue : s.uc.queue = []) (hevents : s.cu.events = [r]) :
    (ucRetractWithdrawn r.rid s).uc =
      { s.uc with queue := if r.delivered then [s.freshAlert .retract (some r.rid) r.id 0] else [] } ∧
    (ucRetractWithdrawn r.rid s).cu =
      { s.cu with events := [if r.delivered then { r with uplink := .queued } else r] } ∧
    (ucRetractWithdrawn r.rid s).counters = s.counters := by
  by_cases hdelivered : r.delivered = true
  · rw [ucRetractWithdrawn_of_delivered hevents hdelivered (reportInTransfer_of_empty hqueue), if_pos hdelivered,
      if_pos hdelivered]
    obtain ⟨huc, hcu⟩ := ucRaiseRetract_only (id := r.id) hqueue hevents
    exact ⟨huc, hcu, ucRaiseRetract_counters hqueue⟩
  · rw [ucRetractWithdrawn_of_kept hevents (by simp [hdelivered]), if_neg hdelivered, if_neg hdelivered, ← hqueue, ← hevents]
    exact ⟨rfl, rfl, rfl⟩

/-- What a withdrawal report does before any RETRACT, nothing being stacked. -/
def State.withdrawn (s : State) (k : Nat) : State :=
  let mine (a : Alert) : Bool := a.rid == some k && a.kind.isReport
  let waits (a : Alert) : Bool := mine a && !a.turn.inTransfer
  let t := s.setUc { s.uc with
    queue := (s.uc.queue.filter (fun a => !waits a)).map
      (fun a => if mine a && a.turn == .awaiting then { a with withdrawn := true } else a)
    transfer := if s.uc.queue.any (fun a => mine a && a.turn == .sending)
      then s.uc.transfer.map (Transfer.withdraw s.now (uplinkRate s.cs.image.uplinkCode)) else s.uc.transfer }
  if s.uc.queue.any waits then updRec k (fun r => { r with uplink := .withdrawn, owedUplink := none }) t else t

theorem ucWithdraw_eq {k : Nat} (huplink : s.cs.image.uplink = true) (hstacked : s.uc.stacked = []) :
    ucWithdraw k s = ucRetractWithdrawn k (ucReportEmpty s (ucSync (s.withdrawn k))) := by
  unfold ucWithdraw State.withdrawn
  simp only [huplink, hstacked, List.any_nil, List.filter_nil, Bool.or_false, Bool.not_true, Bool.false_eq_true, if_false]

/-- A waiting report alert of the only record leaves as WITHDRAWN. -/
theorem withdrawn_waiting (hqueue : s.uc.queue = [a]) (hstacked : s.uc.stacked = []) (hevents : s.cu.events = [r])
    (hkind : a.kind.isReport = true) (hrid : a.rid = some r.rid) (hturn : a.turn.inTransfer = false) :
    (ucSync (s.withdrawn r.rid)).uc = { s.uc with queue := [] } ∧
    (ucSync (s.withdrawn r.rid)).cu = { s.cu with events := [{ r with uplink := .withdrawn, owedUplink := none }] } := by
  have hsending : (a.turn == .sending) = false := by cases h : a.turn <;> simp_all [Turn.inTransfer]
  have huc : (s.withdrawn r.rid).uc = { s.uc with queue := [] } := by
    simp [State.withdrawn, hqueue, hkind, hrid, hturn, hsending, updRec, setEvents]
  have hcu : (s.withdrawn r.rid).cu = { s.cu with events := [{ r with uplink := .withdrawn, owedUplink := none }] } := by
    simp [State.withdrawn, hqueue, hkind, hrid, hturn, hevents, updRec, setEvents, sortBy, insertBy]
  refine ⟨huc, ?_⟩
  rw [ucSync_cu, huc, hcu, List.map_singleton, uplinkStateOf_of_spared ⟨by simp, by simp [hstacked]⟩]

/-- A withdrawal leaves an alert in transfer in the queue, marked where it waits for a reply. -/
theorem ucWithdraw_inTransfer (huplink : s.cs.image.uplink = true) (hqueue : s.uc.queue = [a]) (hstacked : s.uc.stacked = [])
    (hevents : s.cu.events = [r]) (hkind : a.kind.isReport = true) (hrid : a.rid = some r.rid) (hturn : a.turn.inTransfer = true) :
    (ucWithdraw r.rid s).uc = { s.uc with
      queue := [if a.turn == .awaiting then { a with withdrawn := true } else a]
      transfer := if a.turn == .sending then s.uc.transfer.map (Transfer.withdraw s.now (uplinkRate s.cs.image.uplinkCode))
        else s.uc.transfer } := by
  have hstate : s.withdrawn r.rid = s.setUc { s.uc with
      queue := [if a.turn == .awaiting then { a with withdrawn := true } else a]
      transfer := if a.turn == .sending then s.uc.transfer.map (Transfer.withdraw s.now (uplinkRate s.cs.image.uplinkCode))
        else s.uc.transfer } := by
    simp [State.withdrawn, hqueue, hkind, hrid, hturn]
  rw [ucWithdraw_eq huplink hstacked, hstate, ucRetractWithdrawn_of_kept (r := { r with uplink := uplinkStateOf _ r })]
  · simp
  · simp [ucSync_cu, hevents]
    rfl
  · have huc : (ucReportEmpty s (ucSync (s.setUc { s.uc with
        queue := [if a.turn == .awaiting then { a with withdrawn := true } else a]
        transfer := if a.turn == .sending then s.uc.transfer.map (Transfer.withdraw s.now (uplinkRate s.cs.image.uplinkCode))
          else s.uc.transfer }))).uc.queue = [if a.turn == .awaiting then { a with withdrawn := true } else a] := by simp
    rw [Uplink.reportInTransfer, huc]
    cases hawaiting : (a.turn == .awaiting) <;> simp [hrid, hkind, hturn]

/-- A waiting report alert leaves as WITHDRAWN, and the RETRACT of a delivered record takes its place. -/
theorem ucWithdraw_waiting (huplink : s.cs.image.uplink = true) (hqueue : s.uc.queue = [a]) (hstacked : s.uc.stacked = [])
    (hevents : s.cu.events = [r]) (hkind : a.kind.isReport = true) (hrid : a.rid = some r.rid) (hturn : a.turn.inTransfer = false) :
    (ucWithdraw r.rid s).uc.queue = (if r.delivered then [s.freshAlert .retract (some r.rid) r.id 0] else []) ∧
    (ucWithdraw r.rid s).cu.events =
      [{ r with uplink := if r.delivered then .queued else .withdrawn, owedUplink := none }] := by
  obtain ⟨huc, hcu⟩ := withdrawn_waiting hqueue hstacked hevents hkind hrid hturn
  have hout := ucRetractWithdrawn_only (s := ucReportEmpty s (ucSync (s.withdrawn r.rid)))
    (r := { r with uplink := .withdrawn, owedUplink := none }) (by simpa using congrArg Uplink.queue huc)
    (by simpa using congrArg Coincidence.events hcu)
  have htb : (ucReportEmpty s (ucSync (s.withdrawn r.rid))).tb = s.tb := by
    simp only [State.withdrawn]
    split <;> simp [updRec, setEvents]
  rw [ucWithdraw_eq huplink hstacked, hout.1, hout.2.1, freshAlert_congr htb]
  refine ⟨rfl, ?_⟩
  cases r.delivered <;> rfl

theorem ucWithdraw_of_none (huplink : s.cs.image.uplink = true) (hqueue : s.uc.queue = []) (hstacked : s.uc.stacked = [])
    (hevents : s.cu.events = [r]) (hdelivered : r.delivered = true) :
    (ucWithdraw r.rid s).uc.queue = [s.freshAlert .retract (some r.rid) r.id 0] := by
  have hstate : s.withdrawn r.rid = s.setUc { s.uc with queue := [] } := by simp [State.withdrawn, hqueue]
  have hout := ucRetractWithdrawn_only (s := ucReportEmpty s (ucSync (s.withdrawn r.rid)))
    (r := { r with uplink := uplinkStateOf (s.withdrawn r.rid).uc r }) (by simp [hstate])
    (by simp [ucSync_cu, hstate, hevents])
  rw [ucWithdraw_eq huplink hstacked, hout.1, freshAlert_congr (s := s) (by simp [hstate])]
  simp [hdelivered]

theorem withdraw_of_ahead {now : Elapsed} {rate : Nat} {f : Fetch} (hcut : x.cut = none) (hlast : x.last = some f)
    (hahead : since now f.moment * rate < f.left * 10 * 1048576) : x.withdraw now rate =
      { x with cut := some .withdrawal, fetched := x.fetched - 1, payload := x.payload.take (x.payload.length - f.size) } := by
  have h : x.ahead now rate = some f := by
    rw [Transfer.ahead, hlast, Option.filter_some, if_pos (decide_eq_true hahead)]
  unfold Transfer.withdraw
  rw [hcut, h]

theorem withdraw_of_current {now : Elapsed} {rate : Nat}
    (h : x.cut.isSome ∨ ∀ f, x.last = some f → ¬ since now f.moment * rate < f.left * 10 * 1048576) :
    x.withdraw now rate = { x with cut := some .withdrawal } := by
  unfold Transfer.withdraw
  rcases h with h | h
  · obtain ⟨c, hc⟩ := Option.isSome_iff_exists.1 h
    rw [hc]
  · have hnone : x.ahead now rate = none := by
      cases hlast : x.last with
      | none => rw [Transfer.ahead, hlast, Option.filter_none]
      | some f => rw [Transfer.ahead, hlast, Option.filter_some, if_neg (by simpa using h f hlast)]
    rw [hnone]
    cases x.cut <;> rfl

/-! ## Change of id (R154) -/

theorem ucChangeId_of_awaiting {former : Option EventId} (hqueue : s.uc.queue = [a]) (hevents : s.cu.events = [r])
    (hkind : a.kind.isReport = true) (hrid : a.rid = some r.rid) (hturn : a.turn = .awaiting) :
    ucChangeId r.rid former s = s := by
  unfold ucChangeId
  rw [rec?_only hevents]
  split
  · next r' _ hr' =>
    rw [if_pos]
    simp [hqueue, hrid, hkind, hturn]
  · rfl

/-- The alert that waits under its record's id (R154). -/
def takesId (k : Nat) (id : Option EventId) (delivered : Bool) (a : Alert) : Alert :=
  if a.rid == some k && a.kind.isReport && !a.turn.inTransfer then
    { a with id := id, kind := if delivered then .event else a.kind } else a

theorem ucChangeId_of_undelivered {former : Option EventId} (huplink : s.cs.image.uplink = true) (hevents : s.cu.events = [r])
    (hnone : ∀ b ∈ s.uc.queue, b.turn ≠ .awaiting) (hdelivered : r.delivered = false) :
    ucChangeId r.rid former s = setQueue (s.uc.queue.map (takesId r.rid r.id false)) s := by
  have hany : s.uc.queue.any (fun a => a.rid == some r.rid && a.kind.isReport && a.turn == .awaiting) = false := by
    rw [List.any_eq_false]
    exact fun b hb => by simp [hnone b hb]
  unfold ucChangeId
  simp only [huplink, rec?_only hevents, hany, hdelivered, Bool.not_false, if_true, Bool.false_eq_true, if_false]
  rfl

/-- The queue and the record of a change of id, before the RETRACT of the former one. -/
def State.renamed (s : State) (r : EventRec) : State :=
  updRec r.rid (fun r => { r with delivered := false }) (s.setUc { s.uc with
    queue := sortBy (alertLe s.now) (s.uc.queue.map (takesId r.rid r.id true)) })

theorem ucChangeId_of_delivered {former : Option EventId} (huplink : s.cs.image.uplink = true) (hevents : s.cu.events = [r])
    (hstacked : s.uc.stacked = []) (hnone : ∀ b ∈ s.uc.queue, b.turn ≠ .awaiting) (hdelivered : r.delivered = true) :
    ucChangeId r.rid former s =
      if s.uc.queue.any (fun a => a.rid == some r.rid && a.kind.isReport) then ucRaiseRetract r.rid former (s.renamed r)
      else ucRaiseReport .event r.rid (ucRaiseRetract r.rid former (s.renamed r)) := by
  have hany : s.uc.queue.any (fun a => a.rid == some r.rid && a.kind.isReport && a.turn == .awaiting) = false := by
    rw [List.any_eq_false]
    exact fun b hb => by simp [hnone b hb]
  have hrenamed : s.renamed r = updRec r.rid (fun r => { r with delivered := false }) (s.setUc { s.uc with
      queue := sortBy (alertLe s.now) (s.uc.queue.map (takesId r.rid r.id true)), stacked := [] }) := by
    unfold State.renamed
    rw [← hstacked]
  unfold ucChangeId
  simp only [huplink, rec?_only hevents, hany, hdelivered, hstacked, Bool.not_true, Bool.false_eq_true, if_false, List.map_nil,
    List.any_nil, Bool.or_false]
  rw [hrenamed]
  rfl

theorem renamed_of_single (hqueue : s.uc.queue = [a]) (hevents : s.cu.events = [r]) :
    (s.renamed r).uc = { s.uc with queue := [takesId r.rid r.id true a] } ∧
    (s.renamed r).cu = { s.cu with events := [{ r with delivered := false }] } ∧ (s.renamed r).tb = s.tb := by
  refine ⟨?_, updRec_only (by exact hevents), rfl⟩
  simp [State.renamed, hqueue, updRec, setEvents, sortBy, insertBy]

theorem renamed_of_empty (hqueue : s.uc.queue = []) (hevents : s.cu.events = [r]) :
    (s.renamed r).uc = { s.uc with queue := [] } ∧
    (s.renamed r).cu = { s.cu with events := [{ r with delivered := false }] } ∧ (s.renamed r).tb = s.tb := by
  refine ⟨?_, updRec_only (by exact hevents), rfl⟩
  simp [State.renamed, hqueue, updRec, setEvents, sortBy]

/-! ## The end of a transfer (R147) -/

theorem modemNext_eq (h : s.pins.upRdy = false ∨ s.uc.head = none) : modemNext s = setModem
    (if s.uc.head.isSome then .readyWait else .idle)
    (if s.uc.head.isSome then some { start := s.now, period := secs 60 }
      else if s.uc.queue = [] then some { start := s.now, period := secs 30 } else none) s := by
  rcases h with h | h
  · exact modemNext_of_low h
  · unfold modemNext enterIdle
    rw [h]
    cases s.uc.queue <;> simp [State.startTimer, State.now]

/-- A modem that has gone on stands where its queue puts it. -/
theorem rests_of_modemNext (h : s.pins.upRdy = false ∨ s.uc.head = none) (huc : t.uc = (modemNext s).uc) : t.ModemRests := by
  rw [modemNext_eq h] at huc
  refine .inr ?_
  rw [huc]
  cases hhead : s.uc.head with
  | some a => exact (congrArg Option.isSome hhead : s.uc.head.isSome = true)
  | none =>
    refine (⟨hhead, ?_⟩ : s.uc.head = none ∧ (s.uc.queue = [] ↔ _))
    show s.uc.queue = [] ↔ (if s.uc.queue = [] then some _ else none).isSome = true
    split <;> simp_all

/-- The end of a step with the modem at rest leaves the uplink, and on a busy medium the records. -/
theorem State.Firm.uc_of_rests (h : s.Firm) (hrests : s.reported.ModemRests) : (Machine.finish s).uc = s.uc := by
  rw [h.uc_eq, modemKick_of_rests _ hrests]
  rfl

theorem State.Firm.cu_of_rests (h : s.Firm) (hrests : s.reported.ModemRests) (hcd : s.pins.lkCd = true) :
    (Machine.finish s).cu = s.cu := by
  obtain ⟨b, c, k, hlc⟩ := lcKick_of_busy (s := twKick (syncOsc (modemKick s.reported))) (by simpa [State.reported] using hcd)
  rw [h.finish, finish_eq_follow reported_settled, hlc, modemKick_of_rests _ hrests]
  simp [State.reported]

/-- Records that do not leave at the end of their linger. -/
theorem lingerSweep_of_none (h : ∀ y ∈ s.cu.events, s.lingered y = false) : lingerSweep s = s := by
  have hnone : s.cu.events.filter s.lingered = [] := by
    rw [List.filter_eq_nil_iff]
    exact fun y hy => by simp [h y hy]
  rw [lingerSweep, hnone]
  rfl

theorem not_lingered_of_live (h : r.state.live = true) : s.lingered r = false := by
  rw [Bool.eq_false_iff, ne_eq, lingered_iff]
  rintro ⟨hstate | hstate, -⟩ <;> simp [hstate, RecState.live] at h

theorem not_lingered_of_queued (h : r.uplink = .queued) : s.lingered r = false := by
  rw [Bool.eq_false_iff, ne_eq, lingered_iff]
  simp [h]

theorem busyFails_of_head (h : s.uc.head = some a) :
    busyFails s = modemNext (failAttempt a (s.setUc { s.uc with busyCount := 0 })) := by
  have hhead : (s.setUc { s.uc with busyCount := 0 }).uc.head = some a := h
  unfold busyFails
  simp only [hhead]

/-- The modem goes on, the records that nothing holds leave, and the step ends. -/
def goesOn (v : State) : State := finish (lingerSweep (modemNext v))

section
variable (hactive : v.mc.standing = .active) (hgood : v.bm.cls = .good) (hrdy : v.pins.upRdy = false ∨ v.uc.head = none)
include hactive hgood

theorem goesOn_firm : (lingerSweep (modemNext v)).Firm :=
  .inr ⟨(lingerSweep_keeps (modemNext_keeps (.refl 24 .still v))).standing.trans hactive, by simpa using hgood⟩

theorem goesOn_active : (goesOn v).mc.standing = .active :=
  (goesOn_firm hactive hgood).standing.trans
    ((lingerSweep_keeps (modemNext_keeps (.refl 24 .still v))).standing.trans hactive)

theorem goesOn_count {c : Counter} (hmuster : c ≠ .musterBeacons := by decide) (hbus : c ≠ .busRecoveries := by decide) :
    (goesOn v).count c = v.count c := by
  rw [goesOn, (goesOn_firm hactive hgood).count hmuster hbus]
  exact count_of_counters_eq (by simp)

theorem goesOn_hc : (goesOn v).hc = v.hc := by
  obtain ⟨-, -, -, -, -, -, -, -, -, hhc, -⟩ := (goesOn_firm hactive hgood).leaves
  exact hhc.trans (by simp)

include hrdy

theorem goesOn_uc : (goesOn v).uc = { v.uc with
    modem := if v.uc.head.isSome then .readyWait else .idle
    modemTimer := if v.uc.head.isSome then some { start := v.now, period := secs 60 }
      else if v.uc.queue = [] then some { start := v.now, period := secs 30 } else none } := by
  rw [goesOn, (goesOn_firm hactive hgood).uc_of_rests (rests_of_modemNext hrdy (by simp [State.reported]))]
  have hsweep : (lingerSweep (modemNext v)).uc = (modemNext v).uc := by simp
  rw [hsweep, modemNext_eq hrdy]
  rfl

theorem goesOn_cu (hcd : v.pins.lkCd = true) : (goesOn v).cu = (lingerSweep (modemNext v)).cu :=
  (goesOn_firm hactive hgood).cu_of_rests (rests_of_modemNext hrdy (by simp [State.reported])) (by simpa using hcd)

/-- The records stay that have not come to the end of their linger. -/
theorem goesOn_cu_of_none (hcd : v.pins.lkCd = true) (h : ∀ y ∈ v.cu.events, ∀ w : State, w.lingered y = false) :
    (goesOn v).cu = v.cu := by
  have hnext : (modemNext v).cu = v.cu := by
    rw [modemNext_eq hrdy]
    rfl
  rw [goesOn_cu hactive hgood hrdy hcd, lingerSweep_of_none, hnext]
  intro y hy
  rw [hnext] at hy
  exact h y hy _

end

/-- The transfer is over: the state before the modem goes on. -/
def freed (v : State) : State := v.setUc { v.uc with transfer := none, modemTimer := none }

/-- The step that takes a reply, or sends a CAN, ends. -/
def transferOver (v : State) : State := goesOn (freed v)

section
variable (hactive : v.mc.standing = .active) (hgood : v.bm.cls = .good) (hrdy : v.pins.upRdy = false ∨ v.uc.head = none)
include hactive hgood

theorem transferOver_active : (transferOver v).mc.standing = .active := goesOn_active (v := freed v) hactive hgood

theorem transferOver_count {c : Counter} (hmuster : c ≠ .musterBeacons := by decide) (hbus : c ≠ .busRecoveries := by decide) :
    (transferOver v).count c = v.count c := goesOn_count (v := freed v) hactive hgood hmuster hbus

theorem transferOver_hc : (transferOver v).hc = v.hc := goesOn_hc (v := freed v) hactive hgood

include hrdy

theorem transferOver_uc : (transferOver v).uc = { v.uc with
    transfer := none
    modem := if v.uc.head.isSome then .readyWait else .idle
    modemTimer := if v.uc.head.isSome then some { start := v.now, period := secs 60 }
      else if v.uc.queue = [] then some { start := v.now, period := secs 30 } else none } :=
  goesOn_uc (v := freed v) hactive hgood hrdy

theorem transferOver_cu (hcd : v.pins.lkCd = true) : (transferOver v).cu = (lingerSweep (endAwaiting v)).cu :=
  goesOn_cu (v := freed v) hactive hgood hrdy hcd

theorem transferOver_cu_of_none (hcd : v.pins.lkCd = true) (h : ∀ y ∈ v.cu.events, ∀ w : State, w.lingered y = false) :
    (transferOver v).cu = v.cu := goesOn_cu_of_none (v := freed v) hactive hgood hrdy hcd h

end

/-! ## The alert goes back, fails one attempt, or leaves (R151, R152, R153) -/

theorem putAlert_only {b : Alert} (hqueue : s.uc.queue = [a]) (hevents : s.cu.events = [r]) :
    (putAlert a b s).uc = { s.uc with queue := [b] } ∧
    (putAlert a b s).cu = { s.cu with events := [{ r with uplink := uplinkStateOf { s.uc with queue := [b] } r }] } := by
  have huc : (putAlert a b s).uc = { s.uc with queue := [b] } := by
    simp [putAlert, setQueue, hqueue, sortBy, insertBy]
  have hcu : (putAlert a b s).cu =
      { s.cu with events := s.cu.events.map (fun r => { r with uplink := uplinkStateOf (putAlert a b s).uc r }) } := rfl
  exact ⟨huc, by rw [hcu, huc, hevents]; rfl⟩

theorem retractFormer_of_kept (hevents : s.cu.events = [r]) (hrid : a.rid = some r.rid) (h : a.id = r.id ∨ r.delivered = false) :
    retractFormer a s = s := by
  unfold retractFormer
  rw [hrid, Option.bind_some, rec?_only hevents]
  rcases h with h | h <;> simp [h]

theorem retractFormer_of_health (hrid : a.rid = none) : retractFormer a s = s := by
  unfold retractFormer
  rw [hrid]

theorem fixId_of_health {b : Alert} (hrid : a.rid = none) : fixId (a.rid.bind s.rec?) b = b := by
  rw [hrid]
  rfl

/-- The alert with its record's id: an EVENT under a new one (R154). -/
theorem fixId_of_report (hkind : a.kind.isReport = true) :
    fixId (some r) a = { a with id := r.id, kind := if a.id = r.id then a.kind else .event } := by
  unfold fixId
  by_cases hid : a.id = r.id
  · simp [← hid]
  · simp [hkind, hid]

/-- The only record's alert goes back to READY (R151, R154). -/
theorem returnAlert_only (hqueue : s.uc.queue = [a]) (hevents : s.cu.events = [r]) (hkind : a.kind.isReport = true)
    (hrid : a.rid = some r.rid) (h : a.id = r.id ∨ r.delivered = false) :
    (returnAlert a s).uc = { s.uc with queue :=
      [{ a with turn := .ready, withdrawn := false, id := r.id, kind := if a.id = r.id then a.kind else .event }] } := by
  obtain ⟨huc, hcu⟩ := putAlert_only
    (b := { a with turn := .ready, withdrawn := false, id := r.id, kind := if a.id = r.id then a.kind else .event }) hqueue hevents
  have hrec : a.rid.bind s.rec? = some r := by rw [hrid, Option.bind_some, rec?_only hevents]
  unfold returnAlert
  rw [hrec, fixId_of_report (a := { a with turn := .ready, withdrawn := false }) hkind,
    retractFormer_of_kept (congrArg Coincidence.events hcu) (by exact hrid) (by exact h)]
  exact huc

/-- The only record's withdrawn alert leaves (R153). -/
theorem leaveWithdrawn_only (hqueue : s.uc.queue = [a]) (hstacked : s.uc.stacked = []) (hevents : s.cu.events = [r])
    (hkind : a.kind.isReport = true) (hrid : a.rid = some r.rid) :
    (leaveWithdrawn a s).uc =
      { s.uc with queue := if r.delivered then [s.freshAlert .retract (some r.rid) r.id 0] else [] } ∧
    (leaveWithdrawn a s).cu =
      { s.cu with events := [{ r with uplink := if r.delivered then .queued else .withdrawn }] } ∧
    (leaveWithdrawn a s).counters = s.counters := by
  obtain ⟨huc, hcu⟩ := left_only (how := .withdrawn) hqueue hstacked hrid hevents
  have hq : (s.left a .withdrawn).uc.queue = [] := congrArg Uplink.queue huc
  have hev : (s.left a .withdrawn).cu.events = [{ r with uplink := .withdrawn }] := congrArg Coincidence.events hcu
  have hcounters : (s.left a .withdrawn).counters = s.counters := by simp [State.left, setQueue]
  have hleave : leaveWithdrawn a s = ucRetractWithdrawn r.rid (s.left a .withdrawn) := by
    unfold leaveWithdrawn
    rw [ucLeave_of_none_stacked hstacked (not_due_of_report hkind), hrid]
  obtain ⟨hu, hc, hcount⟩ := ucRetractWithdrawn_only (r := { r with uplink := .withdrawn }) hq hev
  rw [hleave]
  refine ⟨hu.trans ?_, hc.trans ?_, hcount.trans hcounters⟩
  · rw [huc, freshAlert_congr (s := s) (by simp [State.left, setQueue])]
  · rw [hcu]
    cases r.delivered <;> rfl

/-- A HEALTH alert, alone in the queue, fails an attempt that is not its fifth (R152). -/
theorem failAttempt_of_health (hqueue : s.uc.queue = [a]) (hrid : a.rid = none) (hattempts : a.attempts < 4) :
    (failAttempt a s).uc = { s.uc with queue := [{ a with
      attempts := a.attempts + 1, turn := .retry, retryWait := some { start := s.now, period := secs 30 } }] } := by
  unfold failAttempt
  simp only [fixId_of_health hrid]
  rw [if_pos (show a.attempts + 1 < 5 by omega), retractFormer_of_health hrid]
  simp [putAlert, setQueue, hqueue, sortBy, insertBy, State.startTimer, State.now]

end

end Sys2Proof.Machine

section
open Sys2Proof Sys2Proof.Machine
set_option Elab.async false

theorem withdrawal_of_only (s : State) (a : Alert) (r : EventRec) (huplink : s.cs.image.uplink = true)
    (hstacked : s.uc.stacked = []) (hevents : s.cu.events = [r]) (hkind : a.kind.isReport = true) (hrid : a.rid = some r.rid) :
    (s.uc.queue = [a] → a.turn = .ready ∨ a.turn = .retry →
      (r.delivered = false → (ucWithdraw r.rid s).uc.queue = [] ∧
        (ucWithdraw r.rid s).cu.events = [{ r with uplink := .withdrawn, owedUplink := none }]) ∧
      (r.delivered = true → (ucWithdraw r.rid s).uc.queue = [s.freshAlert .retract (some r.rid) r.id 0] ∧
        (ucWithdraw r.rid s).cu.events = [{ r with uplink := .queued, owedUplink := none }])) ∧
    (s.uc.queue = [a] → a.turn = .sending → ∀ x, s.uc.transfer = some x →
      (x.cut = none → ∀ f, x.last = some f → since s.now f.moment * uplinkRate s.cs.image.uplinkCode < f.left * 10 * 1048576 →
        (ucWithdraw r.rid s).uc = { s.uc with transfer := some { x with
          cut := some .withdrawal, fetched := x.fetched - 1, payload := x.payload.take (x.payload.length - f.size) } }) ∧
      ((x.cut.isSome ∨ ∀ f, x.last = some f →
          ¬ since s.now f.moment * uplinkRate s.cs.image.uplinkCode < f.left * 10 * 1048576) →
        (ucWithdraw r.rid s).uc = { s.uc with transfer := some { x with cut := some .withdrawal } })) ∧
    (s.uc.queue = [a] → a.turn = .awaiting → (ucWithdraw r.rid s).uc = { s.uc with queue := [{ a with withdrawn := true }] }) ∧
    (s.uc.queue = [] → r.delivered = true →
      (ucWithdraw r.rid s).uc.queue = [s.freshAlert .retract (some r.rid) r.id 0]) := by
  refine ⟨fun hqueue hturn => ?_, fun hqueue hturn x hx => ?_, fun hqueue hturn => ?_, fun hqueue hdelivered =>
    ucWithdraw_of_none huplink hqueue hstacked hevents hdelivered⟩
  · have hwaits : a.turn.inTransfer = false := by rcases hturn with h | h <;> rw [h] <;> rfl
    obtain ⟨hq, hev⟩ := ucWithdraw_waiting huplink hqueue hstacked hevents hkind hrid hwaits
    refine ⟨fun hdelivered => ?_, fun hdelivered => ?_⟩ <;>
    · rw [hq, hev, hdelivered]
      exact ⟨rfl, rfl⟩
  · have huc := ucWithdraw_inTransfer huplink hqueue hstacked hevents hkind hrid (by rw [hturn]; rfl)
    have hsame : (ucWithdraw r.rid s).uc = { s.uc with
        transfer := some (x.withdraw s.now (uplinkRate s.cs.image.uplinkCode)) } := by
      rw [huc, hturn, hx]
      show ({ s.uc with queue := [a], transfer := _ } : Uplink) = _
      rw [← hqueue]
      rfl
    refine ⟨fun hcut f hlast hahead => ?_, fun h => ?_⟩
    · rw [hsame, withdraw_of_ahead hcut hlast hahead]
    · rw [hsame, withdraw_of_current h]
  · rw [ucWithdraw_inTransfer huplink hqueue hstacked hevents hkind hrid (by rw [hturn]; rfl), hturn]
    rfl

theorem changeId_of_only (s : State) (a : Alert) (r : EventRec) (huplink : s.cs.image.uplink = true)
    (hstacked : s.uc.stacked = []) (hevents : s.cu.events = [r]) (hkind : a.kind.isReport = true) (hrid : a.rid = some r.rid)
    (former : Option EventId) :
    (s.uc.queue = [a] → a.turn = .awaiting → ucChangeId r.rid former s = s) ∧
    (s.uc.queue = [a] → a.turn = .ready ∨ a.turn = .retry →
      (r.delivered = false → (ucChangeId r.rid former s).uc = { s.uc with queue := [{ a with id := r.id }] } ∧
        (ucChangeId r.rid former s).cu = s.cu) ∧
      (r.delivered = true →
        (ucChangeId r.rid former s).cu.events = [{ r with delivered := false, uplink := .queued }] ∧
        (ucChangeId r.rid former s).uc.queue =
          [{ a with id := r.id, kind := .event }, s.freshAlert .retract (some r.rid) former 0])) ∧
    (s.uc.queue = [a] → a.turn = .sending →
      (r.delivered = false → (ucChangeId r.rid former s).uc = s.uc) ∧
      (r.delivered = true →
        (∀ b, b ∈ (ucChangeId r.rid former s).uc.queue ↔ b = a ∨ b = s.freshAlert .retract (some r.rid) former 0) ∧
        ∃ r', (ucChangeId r.rid former s).cu.events = [r'] ∧ r'.delivered = false)) ∧
    (s.uc.queue = [] → r.delivered = true →
      (ucChangeId r.rid former s).uc.queue =
        [s.freshAlert .event (some r.rid) r.id r.update, s.freshAlert .retract (some r.rid) former 0] ∧
      (ucChangeId r.rid former s).cu.events = [{ r with delivered := false, uplink := .queued }]) := by
  refine ⟨fun hqueue hturn => ucChangeId_of_awaiting hqueue hevents hkind hrid hturn, fun hqueue hturn => ?_,
    fun hqueue hturn => ?_, fun hqueue hdelivered => ?_⟩
  · have hwaits : a.turn.inTransfer = false := by rcases hturn with h | h <;> rw [h] <;> rfl
    have hnone : ∀ b ∈ s.uc.queue, b.turn ≠ .awaiting := by
      rw [hqueue]
      rcases hturn with h | h <;> simp [h]
    have htakes (d : Bool) : takesId r.rid r.id d a = { a with id := r.id, kind := if d then .event else a.kind } :=
      if_pos (by simp [hrid, hkind, hwaits])
    refine ⟨fun hdelivered => ?_, fun hdelivered => ?_⟩
    · rw [ucChangeId_of_undelivered huplink hevents hnone hdelivered, hqueue, List.map_singleton, htakes]
      exact ⟨rfl, rfl⟩
    · obtain ⟨huc, hcu, htb⟩ := renamed_of_single hqueue hevents
      rw [htakes] at huc
      obtain ⟨hu, hc⟩ := ucRaiseRetract_behind (s := s.renamed r) (r := { r with delivered := false }) (id := former)
        (congrArg Uplink.queue huc) rfl (by exact hturn) (congrArg Coincidence.events hcu)
      rw [ucChangeId_of_delivered huplink hevents hstacked hnone hdelivered, if_pos (by simp [hqueue, hrid, hkind]),
        ← freshAlert_congr htb]
      exact ⟨congrArg Coincidence.events hc, congrArg Uplink.queue hu⟩
  · have hnone : ∀ b ∈ s.uc.queue, b.turn ≠ .awaiting := by simp [hqueue, hturn]
    have htakes (d : Bool) : takesId r.rid r.id d a = a := if_neg (by simp [hturn, Turn.inTransfer])
    refine ⟨fun hdelivered => ?_, fun hdelivered => ?_⟩
    · rw [ucChangeId_of_undelivered huplink hevents hnone hdelivered, hqueue, List.map_singleton, htakes, ← hqueue]
      rfl
    · obtain ⟨huc, hcu, htb⟩ := renamed_of_single hqueue hevents
      rw [htakes] at huc
      have hq : (s.renamed r).uc.queue = [a] := congrArg Uplink.queue huc
      have hraise := ucRaiseRetract_of_none (s := s.renamed r) (k := r.rid) (id := former) (by simp [hq])
        (fun b hb => by
          rw [hq, List.mem_singleton] at hb
          rw [hb]
          intro h
          simp [h, AlertKind.isReport] at hkind)
      rw [ucChangeId_of_delivered huplink hevents hstacked hnone hdelivered, if_pos (by simp [hqueue, hrid, hkind]), hraise,
        ← freshAlert_congr htb]
      refine ⟨fun b => ?_, _, by rw [ucInsert_cu, hcu]; rfl, rfl⟩
      rw [ucInsert_uc, mem_placedAlert, hq, List.mem_singleton]
      exact or_comm
  · obtain ⟨huc, hcu, htb⟩ := renamed_of_empty hqueue hevents
    obtain ⟨hu, hc, -⟩ := retract_then_report (s := s.renamed r) (r := { r with delivered := false }) (former := former)
      (congrArg Uplink.queue huc) ((congrArg Uplink.stacked huc).trans hstacked) (congrArg Coincidence.events hcu)
    rw [ucChangeId_of_delivered huplink hevents hstacked (by simp [hqueue]) hdelivered, if_neg (by simp [hqueue]),
      ← freshAlert_congr htb, ← freshAlert_congr htb]
    exact ⟨congrArg Uplink.queue hu, congrArg Coincidence.events hc⟩

theorem canSent_of_only (s : State) (x : Transfer) (a : Alert) (r : EventRec) (hs : s.Steady) (hrdy : s.pins.upRdy = false)
    (hm : s.uc.modem = .sending) (hx : s.uc.transfer = some x) (hqueue : s.uc.queue = [a]) (hstacked : s.uc.stacked = [])
    (hturn : a.turn = .sending) (hkind : a.kind.isReport = true) (hrid : a.rid = some r.rid) (hevents : s.cu.events = [r]) :
    (x.cut = some .change → a.id = r.id ∨ r.delivered = false → ∃ t, exec .canSent s = .next t ∧
      t.uc.queue = [{ a with turn := .ready, withdrawn := false, id := r.id, kind := if a.id = r.id then a.kind else .event }] ∧
      t.uc.transfer = none ∧ t.uc.modem = .readyWait ∧ t.uc.modemTimer = some { start := s.now, period := secs 60 } ∧
      t.count .restartsOnChange = min (s.count .restartsOnChange + 1) 65535) ∧
    (x.cut = some .withdrawal → r.delivered = false → ∃ t, exec .canSent s = .next t ∧ t.uc.queue = [] ∧ t.uc.transfer = none ∧
      t.uc.modem = .idle ∧ t.uc.modemTimer = some { start := s.now, period := secs 30 } ∧
      t.count .withdrawalsInTransfer = min (s.count .withdrawalsInTransfer + 1) 65535) := by
  have hin : s.uc.inTransfer = some a := by simp [Uplink.inTransfer, hqueue, hturn, Turn.inTransfer]
  have hexec {c : Cut} (hcut : x.cut = some c) : exec .canSent s = .next (transferOver (endCut c a s)) := by
    show execCanSent s = _
    unfold execCanSent
    rw [hm, hx, Option.bind_some, hcut, hin]
    rfl
  have hactive (c : Cut) : (endCut c a s).mc.standing = .active := (endCut_keeps (.refl 24 .still s)).standing.trans hs.active
  have hgood (c : Cut) : (endCut c a s).bm.cls = .good := by simpa using hs.good
  have htb (c : Cut) : (endCut c a s).tb = s.tb := by simp
  have hlow (c : Cut) : (endCut c a s).pins.upRdy = false ∨ (endCut c a s).uc.head = none := .inl (by simpa using hrdy)
  refine ⟨fun hcut hid => ?_, fun hcut hdelivered => ?_⟩
  · have huc := returnAlert_only (s := bump .restartsOnChange s) hqueue hevents hkind hrid hid
    have hcount : (returnAlert a (bump .restartsOnChange s)).count .restartsOnChange =
        min (s.count .restartsOnChange + 1) 65535 := by
      have hreturn : returnAlert a (bump .restartsOnChange s) = putAlert a _ (bump .restartsOnChange s) :=
        retractFormer_of_kept (congrArg Coincidence.events
          (putAlert_only (s := bump .restartsOnChange s) hqueue hevents).2) (by exact hrid) (by exact hid)
      rw [hreturn, count_of_counters_eq (s := bump .restartsOnChange s) (by simp), count_bump, if_pos rfl]
    refine ⟨_, hexec hcut, ?_, ?_, ?_, ?_, ?_⟩
    · rw [transferOver_uc (hactive _) (hgood _) (hlow _)]
      exact congrArg Uplink.queue huc
    · rw [transferOver_uc (hactive _) (hgood _) (hlow _)]
    · rw [transferOver_uc (hactive _) (hgood _) (hlow _), Uplink.head, show (endCut .change a s).uc = _ from huc]
      rfl
    · rw [transferOver_uc (hactive _) (hgood _) (hlow _), Uplink.head, show (endCut .change a s).uc = _ from huc,
        State.now, htb _]
      rfl
    · rw [transferOver_count (hactive _) (hgood _)]
      exact hcount
  · obtain ⟨huc, -, hcounters⟩ :=
      leaveWithdrawn_only (s := bump .withdrawalsInTransfer s) hqueue hstacked hevents hkind hrid
    rw [hdelivered] at huc
    have hend : (endCut .withdrawal a s).uc = { s.uc with queue := [] } := huc
    refine ⟨_, hexec hcut, ?_, ?_, ?_, ?_, ?_⟩
    · rw [transferOver_uc (hactive _) (hgood _) (hlow _), hend]
    · rw [transferOver_uc (hactive _) (hgood _) (hlow _)]
    · rw [transferOver_uc (hactive _) (hgood _) (hlow _), Uplink.head, hend]
      rfl
    · rw [transferOver_uc (hactive _) (hgood _) (hlow _), Uplink.head, hend, State.now, htb _]
      rfl
    · rw [transferOver_count (hactive _) (hgood _)]
      refine (count_of_counters_eq hcounters).trans ?_
      rw [count_bump, if_pos rfl]

theorem busyLimit_powerCycles (s : State) (hs : s.Settled) (hm : s.uc.modem = .readyWait)
    (hdue : timerDue s.uc.modemTimer s.now = true) (hcount : s.uc.busyCount = 0) :
    ∃ t, exec .busyLimitExpiry s = .next t ∧
      t.uc = { s.uc with modem := .powerCycle, modemTimer := some { start := s.now, period := secs 2 }, busyCount := 1 } ∧
      t.outputs.upPwr = false ∧ t.count .busyTimeouts = min (s.count .busyTimeouts + 1) 65535 ∧
      t.count .powerCycles = min (s.count .powerCycles + 1) 65535 ∧ t.tb = s.tb ∧ t.bm = s.bm := by
  have hexec : exec .busyLimitExpiry s = .next (finish (powerCycle (bump .busyTimeouts s))) := by
    show execBusyLimitExpiry s = _
    simp [execBusyLimitExpiry, hm, hdue, hcount]
  have hset : (powerCycle (bump .busyTimeouts s)).Settled := hs
  have huc : (finish (powerCycle (bump .busyTimeouts s))).uc = { s.uc with
      modem := .powerCycle, modemTimer := some { start := s.now, period := secs 2 }, busyCount := 1 } := by
    rw [finish_eq_follow hset, modemKick_of_rests _ (.inr (by trivial))]
    simp [powerCycle, setModem, State.startTimer, State.now]
  obtain ⟨-, -, htb, -, -, -, -, -, hbm, -⟩ := finish_leaves_settled _ hset
  refine ⟨_, hexec, huc, by simp [State.outputs, huc, Modem.power], ?_, ?_, htb, hbm⟩
  · rw [finish_count hset (by decide) (by decide), powerCycle, count_bump, if_neg (by decide)]
    show (bump .busyTimeouts s).count _ = _
    rw [count_bump, if_pos rfl]
  · rw [finish_count hset (by decide) (by decide), powerCycle, count_bump, if_pos rfl]
    show min ((bump .busyTimeouts s).count _ + 1) _ = _
    rw [count_bump, if_neg (by decide)]

theorem busyLimit_fails (s : State) (a : Alert) (hs : s.Steady) (hm : s.uc.modem = .readyWait)
    (hdue : timerDue s.uc.modemTimer s.now = true) (hcount : s.uc.busyCount = 1) (hqueue : s.uc.queue = [a])
    (hturn : a.turn = .ready) (hrid : a.rid = none) (hattempts : a.attempts < 4) :
    ∃ t, exec .busyLimitExpiry s = .next t ∧
      t.uc.queue = [{ a with
        attempts := a.attempts + 1, turn := .retry, retryWait := some { start := s.now, period := secs 30 } }] ∧
      t.uc.busyCount = 0 ∧ t.uc.modem = .idle ∧ t.outputs.upPwr = true ∧
      t.count .busyTimeouts = min (s.count .busyTimeouts + 1) 65535 ∧ t.count .powerCycles = s.count .powerCycles := by
  obtain ⟨z, hz⟩ : ∃ z, z = (bump .busyTimeouts s).setUc { s.uc with busyCount := 0 } := ⟨_, rfl⟩
  have hexec : exec .busyLimitExpiry s = .next (goesOn (failAttempt a z)) := by
    have hfails := busyFails_of_head (s := bump .busyTimeouts s) (a := a) (by simp [Uplink.head, hqueue, hturn])
    show execBusyLimitExpiry s = _
    unfold execBusyLimitExpiry
    rw [if_pos (by simp [hm, hdue])]
    dsimp only
    rw [if_neg (show ¬ (bump .busyTimeouts s).uc.busyCount = 0 by simp [hcount]), hfails, hz]
    rfl
  have hnow : z.now = s.now := by rw [hz]; rfl
  have huc : (failAttempt a z).uc = { z.uc with queue := [{ a with
      attempts := a.attempts + 1, turn := .retry, retryWait := some { start := s.now, period := secs 30 } }] } :=
    hnow ▸ failAttempt_of_health (s := z) (by rw [hz]; exact hqueue) hrid hattempts
  have hnone : (failAttempt a z).uc.head = none := by rw [huc]; rfl
  have hactive : (failAttempt a z).mc.standing = .active := 
    (failAttempt_keeps (.refl 24 .still z)).standing.trans (by rw [hz]; exact hs.active)
  have hgood : (failAttempt a z).bm.cls = .good := by simpa [hz] using hs.good
  have hout := goesOn_uc hactive hgood (.inr hnone)
  have hcounters : (failAttempt a z).counters = z.counters := by
    unfold failAttempt
    simp only
    rw [if_pos (by rw [fixId_of_health hrid]; show a.attempts + 1 < 5; omega), retractFormer_of_health hrid]
    simp
  refine ⟨_, hexec, by rw [hout, huc], by rw [hout, huc, hz]; rfl, by rw [hout, hnone]; rfl, ?_, ?_, ?_⟩
  · simp [State.outputs, hout, hnone, Modem.power]
  · rw [goesOn_count hactive hgood, count_of_counters_eq hcounters, hz]
    show (bump .busyTimeouts s).count _ = _
    rw [count_bump, if_pos rfl]
  · rw [goesOn_count hactive hgood, count_of_counters_eq hcounters, hz]
    show (bump .busyTimeouts s).count _ = _
    rw [count_bump, if_neg (by decide)]

/-- Settles O54. -/
theorem cutsAndBusyLimitsReturnTheAlert : Obligations.CutsAndBusyLimitsReturnTheAlert := by
  unfold Obligations.CutsAndBusyLimitsReturnTheAlert
  refine ⟨fun s a r huplink hstacked hevents hkind hrid => ?_,
    fun s x a r hs _ _ hrdy hm hx hqueue hstacked hturn hkind hrid hevents =>
      canSent_of_only s x a r hs hrdy hm hx hqueue hstacked hturn (isReport_of hkind) hrid hevents,
    busyLimit_powerCycles, fun s a hs _ _ hm hdue hcount hqueue hturn _ hrid hattempts =>
      busyLimit_fails s a hs hm hdue hcount hqueue hturn hrid hattempts⟩
  obtain ⟨hwaits, hsending, hawaiting, hnone⟩ := withdrawal_of_only s a r huplink hstacked hevents (isReport_of hkind) hrid
  exact ⟨hwaits, hsending, hawaiting, hnone, changeId_of_only s a r huplink hstacked hevents (isReport_of hkind) hrid⟩

end

/-! PROOFS. The replies of the uplink: what ACK, NAK and the reply limit make of the alert. -/
namespace Sys2Proof.Machine
set_option Elab.async false

section
variable {s t u v : State} {x : Transfer} {a : Alert} {r : EventRec}

/-! ## The commands -/

theorem inTransfer_of_only (hqueue : s.uc.queue = [a]) (hturn : a.turn = .awaiting) : s.uc.inTransfer = some a := by
  simp [Uplink.inTransfer, hqueue, hturn, Turn.inTransfer]

theorem exec_ack (hm : s.uc.modem = .awaiting) (hx : s.uc.transfer = some x) (hin : s.uc.inTransfer = some a) :
    exec (.uplinkReply 0x06#8) s = .next (transferOver (ackAlert a x s)) := by
  show execUplinkReply _ s = _
  unfold execUplinkReply
  rw [hm, hx, hin]
  rfl

theorem exec_nak (hm : s.uc.modem = .awaiting) (hx : s.uc.transfer = some x) (hin : s.uc.inTransfer = some a) :
    exec (.uplinkReply 0x15#8) s = .next (transferOver (nakAlert a (bump .naks s))) := by
  show execUplinkReply _ s = _
  unfold execUplinkReply
  rw [hm, hx, hin]
  rfl

theorem exec_otherReply {b : Byte} (hm : s.uc.modem = .awaiting) (hx : s.uc.transfer = some x) (hin : s.uc.inTransfer = some a)
    (hack : b ≠ 0x06#8) (hnak : b ≠ 0x15#8) : exec (.uplinkReply b) s = .next s := by
  show execUplinkReply _ s = _
  unfold execUplinkReply
  rw [hm, hx, hin]
  dsimp only
  rw [if_neg hack, if_neg hnak]

theorem exec_replyLimit (hm : s.uc.modem = .awaiting) (hin : s.uc.inTransfer = some a)
    (hdue : timerDue s.uc.modemTimer s.now = true) :
    exec .replyLimitExpiry s = .next (transferOver (nakAlert a (bump .replyTimeouts s))) := by
  show execReplyLimitExpiry s = _
  unfold execReplyLimitExpiry
  rw [hm, hin]
  dsimp only
  rw [if_pos hdue]
  rfl

/-! ## An ACK (R152, R146, R153, R154) -/

/-- The on-times that the acknowledged HEALTH alert reported are taken off (R181). -/
def onTimesTaken (x : Transfer) (s : State) : State := x.onTimes.elim s (fun p => takeOnTimes p.1 p.2 s)

@[simp] theorem onTimesTaken_leaves :
    (onTimesTaken x s).pins = s.pins ∧ (onTimesTaken x s).tb = s.tb ∧ (onTimesTaken x s).cu = s.cu ∧
    (onTimesTaken x s).uc = s.uc ∧ (onTimesTaken x s).bm = s.bm ∧ (onTimesTaken x s).mc = s.mc ∧
    (onTimesTaken x s).cs = s.cs ∧ (onTimesTaken x s).counters = s.counters := by
  unfold onTimesTaken
  cases x.onTimes <;> simp

theorem ackAlert_of_health (hrid : a.rid = none) :
    ackAlert a x s = bump .acknowledgedAlerts (ucLeave a .sent (onTimesTaken x s)) := by
  unfold ackAlert onTimesTaken
  rw [hrid]
  cases x.onTimes <;> rfl

/-- An acknowledged report of the record of a key: delivered unless its id has changed, and out of the queue. -/
def State.acked (s : State) (x : Transfer) (a : Alert) (k : Nat) (changed : Bool) : State :=
  bump .acknowledgedAlerts (ucLeave a .sent (onTimesTaken x (updRec k (fun r => { r with delivered := !changed }) s)))

theorem ackAlert_of_report (hkind : a.kind.isReport = true) (hrid : a.rid = some r.rid) (hevents : s.cu.events = [r]) :
    ackAlert a x s =
      if a.withdrawn then ucRetractWithdrawn r.rid (s.acked x a r.rid (r.id != a.id))
      else if r.id != a.id then ucRaiseReport .event r.rid (ucRaiseRetract r.rid a.id (s.acked x a r.rid (r.id != a.id)))
      else if ((s.acked x a r.rid (r.id != a.id)).rec? r.rid).any (fun r => r.state.live && x.update < r.update) then
        ucRaiseReport .update r.rid (s.acked x a r.rid (r.id != a.id))
      else s.acked x a r.rid (r.id != a.id) := by
  have hrec : a.rid.bind s.rec? = some r := by rw [hrid, Option.bind_some, rec?_only hevents]
  unfold ackAlert
  rw [hrec]
  simp only [hrid, hkind, Option.any_some, Bool.true_and, if_true, Bool.not_true, Bool.false_eq_true, if_false]
  unfold State.acked onTimesTaken
  cases x.onTimes <;> rfl

theorem acked_only {changed : Bool} (hqueue : s.uc.queue = [a]) (hstacked : s.uc.stacked = []) (hkind : a.kind.isReport = true)
    (hrid : a.rid = some r.rid) (hevents : s.cu.events = [r]) :
    (s.acked x a r.rid changed).uc = { s.uc with queue := [] } ∧
    (s.acked x a r.rid changed).cu = { s.cu with events := [{ r with delivered := !changed, uplink := .sent }] } ∧
    (s.acked x a r.rid changed).count .acknowledgedAlerts = min (s.count .acknowledgedAlerts + 1) 65535 ∧
    (s.acked x a r.rid changed).tb = s.tb := by
  obtain ⟨z, hz⟩ : ∃ z, z = onTimesTaken x (updRec r.rid (fun r => { r with delivered := !changed }) s) := ⟨_, rfl⟩
  have huc : z.uc = s.uc := by simp [hz, updRec, setEvents]
  have hcu : z.cu = { s.cu with events := [{ r with delivered := !changed }] } := by
    rw [← updRec_only (f := fun r => { r with delivered := !changed }) hevents]
    simp [hz]
  have hcounters : z.counters = s.counters := by simp [hz, updRec, setEvents]
  have hacked : s.acked x a r.rid changed = bump .acknowledgedAlerts (z.left a .sent) := by
    rw [State.acked, ← hz, ucLeave_of_none_stacked (by rw [huc]; exact hstacked) (not_due_of_report hkind)]
  obtain ⟨hluc, hlcu⟩ := left_only (s := z) (r := { r with delivered := !changed }) (how := .sent) (by rw [huc]; exact hqueue)
    (by rw [huc]; exact hstacked) (by exact hrid) (by rw [hcu])
  rw [hacked]
  refine ⟨hluc.trans (by rw [huc]), hlcu.trans (by rw [hcu]), ?_, ?_⟩
  · rw [count_bump, if_pos rfl, count_of_counters_eq (s := s)]
    simp [State.left, setQueue, hcounters]
  · simp [State.left, setQueue, hz, updRec, setEvents]

/-! ## A NAK or no reply (R152, R153, R154) -/

/-- A HEALTH alert fails its fifth attempt: it leaves, counted. -/
theorem failAttempt_of_fifth (hrid : a.rid = none) (hattempts : 4 ≤ a.attempts) :
    failAttempt a s = bump .failedAlerts (ucLeave a .failed s) := by
  unfold failAttempt
  simp only [fixId_of_health hrid]
  rw [if_neg (show ¬ a.attempts + 1 < 5 by omega), retractFormer_of_health hrid]

theorem failAttempt_of_health_counters (hrid : a.rid = none) (hattempts : a.attempts < 4) :
    (failAttempt a s).counters = s.counters := by
  unfold failAttempt
  simp only [fixId_of_health hrid]
  rw [if_pos (show a.attempts + 1 < 5 by omega), retractFormer_of_health hrid]
  simp

theorem bump_counters_congr {c : Counter} (h : t.counters = s.counters) : (bump c t).counters = (bump c s).counters := by
  simp [bump, State.count, h]

/-- The alert of the only record fails an attempt under an id the record has left behind. -/
def Alert.renamedRetry (a : Alert) (r : EventRec) (now : Elapsed) : Alert :=
  { a with kind := .event, id := r.id, attempts := a.attempts + 1, turn := .retry
           retryWait := some { start := now, period := secs 30 } }

theorem retractFormer_of_delivered (hevents : s.cu.events = [r]) (hrid : a.rid = some r.rid) (hkind : a.kind.isReport = true)
    (hid : a.id ≠ r.id) (hdelivered : r.delivered = true) :
    retractFormer a s = ucRaiseRetract r.rid a.id (updRec r.rid (fun r => { r with delivered := false }) s) := by
  unfold retractFormer
  rw [hrid, Option.bind_some, rec?_only hevents]
  simp [hkind, hid, hdelivered]

theorem failAttempt_of_renamed (hkind : a.kind.isReport = true) (hrid : a.rid = some r.rid) (hevents : s.cu.events = [r])
    (hid : a.id ≠ r.id) : failAttempt a s = retractFormer a
      (if a.attempts < 4 then putAlert a (a.renamedRetry r s.now) s else bump .failedAlerts (ucLeave a .failed s)) := by
  have hrec : a.rid.bind s.rec? = some r := by rw [hrid, Option.bind_some, rec?_only hevents]
  have hfix : fixId (some r) { a with attempts := a.attempts + 1, turn := .retry, retryWait := s.startTimer (secs 30) } =
      a.renamedRetry r s.now := by
    rw [fixId_of_report (by exact hkind)]
    simp only [if_neg hid]
    rfl
  unfold failAttempt
  simp only [hrec, hfix]
  congr 1
  exact if_congr (show a.attempts + 1 < 5 ↔ a.attempts < 4 by omega) rfl rfl

/-- What the retraction of a former id makes of a queue and the only record. -/
structure State.Retracts (s : State) (r : EventRec) (a : Alert) (t : State) : Prop where
  kept : r.delivered = false → t = s
  queue : r.delivered = true → t.uc = { s.uc with queue := s.uc.queue ++ [s.freshAlert .retract (some r.rid) a.id 0] }
  record : r.delivered = true → t.cu = { s.cu with events := [{ r with delivered := false, uplink := .queued }] }
  counters : t.counters = s.counters

theorem retractFormer_retracts (hevents : s.cu.events = [r]) (hrid : a.rid = some r.rid) (hkind : a.kind.isReport = true)
    (hid : a.id ≠ r.id) (hqueue : s.uc.queue = [] ∨ ∃ b, s.uc.queue = [b] ∧ b.kind = .event ∧ b.turn = .retry) :
    s.Retracts r a (retractFormer a s) := by
  by_cases hdelivered : r.delivered = true
  · have hcu := updRec_only (f := fun r => { r with delivered := false }) hevents
    have hev : (updRec r.rid (fun r => { r with delivered := false }) s).cu.events = [{ r with delivered := false }] :=
      congrArg Coincidence.events hcu
    have hnone : ∀ b ∈ s.uc.queue, b.kind ≠ .retract := by
      rcases hqueue with h | ⟨b, h, hk, -⟩ <;> simp [h]
      simp [hk]
    have hlen : s.uc.queue.length < 8 := by rcases hqueue with h | ⟨b, h, -⟩ <;> simp [h]
    have hraise := ucRaiseRetract_of_none (s := updRec r.rid (fun r => { r with delivered := false }) s) (k := r.rid) (id := a.id)
      hlen hnone
    rw [retractFormer_of_delivered hevents hrid hkind hid hdelivered]
    refine ⟨fun h => absurd (hdelivered.symm.trans h) (by decide), fun _ => ?_, fun _ => ?_, ?_⟩
    · rcases hqueue with h | ⟨b, h, hk, hturn⟩
      · rw [(ucRaiseRetract_only (s := updRec r.rid (fun r => { r with delivered := false }) s)
          (r := { r with delivered := false }) (id := a.id) h hev).1, h]
        rfl
      · rw [(ucRaiseRetract_behind (s := updRec r.rid (fun r => { r with delivered := false }) s)
          (r := { r with delivered := false }) (id := a.id) h hk (.inr hturn) hev).1, h]
        rfl
    · rw [hraise, ucInsert_waiting (r := { r with delivered := false }) hev, hcu]
      intro b hb
      rcases hqueue with h | ⟨c, h, -, hturn⟩
      · exact absurd (h ▸ hb : b ∈ ([] : List Alert)) (by simp)
      · have hbc : b = c := by simpa using (h ▸ hb : b ∈ [c])
        exact .inr (hbc ▸ hturn)
    · rw [hraise, ucInsert_counters]
      rfl
  · have hkept := retractFormer_of_kept (a := a) hevents hrid (.inr (by simpa using hdelivered))
    rw [hkept]
    exact ⟨fun _ => rfl, fun h => absurd h hdelivered, fun h => absurd h hdelivered, rfl⟩

/-- The alert of the only record, under an id left behind, fails an attempt (R152, R154). -/
theorem failAttempt_renamed (hqueue : s.uc.queue = [a]) (hstacked : s.uc.stacked = []) (hkind : a.kind.isReport = true)
    (hrid : a.rid = some r.rid) (hevents : s.cu.events = [r]) (hid : a.id ≠ r.id) :
    (a.attempts < 4 →
      (failAttempt a s).uc = { s.uc with queue := a.renamedRetry r s.now ::
        if r.delivered then [s.freshAlert .retract (some r.rid) a.id 0] else [] } ∧
      (failAttempt a s).cu = { s.cu with events := [{ r with delivered := false, uplink := .queued }] } ∧
      (failAttempt a s).counters = s.counters) ∧
    (4 ≤ a.attempts →
      (failAttempt a s).uc = { s.uc with queue := if r.delivered then [s.freshAlert .retract (some r.rid) a.id 0] else [] } ∧
      (failAttempt a s).cu =
        { s.cu with events := [{ r with delivered := false, uplink := if r.delivered then .queued else .failed }] } ∧
      (failAttempt a s).counters = (bump .failedAlerts s).counters) := by
  rw [failAttempt_of_renamed hkind hrid hevents hid]
  refine ⟨fun hattempts => ?_, fun hattempts => ?_⟩
  · rw [if_pos hattempts]
    obtain ⟨huc, hcu⟩ := putAlert_only (b := a.renamedRetry r s.now) hqueue hevents
    have hstate : uplinkStateOf { s.uc with queue := [a.renamedRetry r s.now] } r = .queued :=
      uplinkStateOf_of_waiting (by simp [Alert.renamedRetry]) ⟨a.renamedRetry r s.now, by simp, hrid⟩
    rw [hstate] at hcu
    have hq : (putAlert a (a.renamedRetry r s.now) s).uc.queue = [a.renamedRetry r s.now] := congrArg Uplink.queue huc
    have hout := retractFormer_retracts (a := a) (r := { r with uplink := .queued })
      (congrArg Coincidence.events hcu) hrid hkind hid (.inr ⟨_, hq, rfl, rfl⟩)
    refine ⟨?_, ?_, hout.counters.trans (by simp)⟩
    · by_cases hdelivered : r.delivered = true
      · rw [hout.queue hdelivered, huc, if_pos hdelivered, freshAlert_congr (s := s) (by simp)]
        rfl
      · rw [hout.kept (by simpa using hdelivered), huc, if_neg hdelivered]
    · by_cases hdelivered : r.delivered = true
      · rw [hout.record hdelivered, hcu]
      · have hfalse : r.delivered = false := by simpa using hdelivered
        rw [hout.kept hfalse, hcu, ← hfalse]
  · rw [if_neg (by omega), ucLeave_of_none_stacked hstacked (not_due_of_report hkind)]
    obtain ⟨huc, hcu⟩ := left_only (how := .failed) hqueue hstacked hrid hevents
    have hout := retractFormer_retracts (s := bump .failedAlerts (s.left a .failed)) (a := a) (r := { r with uplink := .failed })
      (congrArg Coincidence.events hcu) hrid hkind hid (.inl (congrArg Uplink.queue huc))
    have hcounters : (s.left a .failed).counters = s.counters := by simp [State.left, setQueue]
    refine ⟨?_, ?_, hout.counters.trans (bump_counters_congr hcounters)⟩
    · by_cases hdelivered : r.delivered = true
      · rw [hout.queue hdelivered, if_pos hdelivered, freshAlert_congr (s := s) (by simp [State.left, setQueue])]
        show ({ (s.left a .failed).uc with queue := (s.left a .failed).uc.queue ++ _ } : Uplink) = _
        rw [huc]
        rfl
      · rw [hout.kept (by simpa using hdelivered), if_neg hdelivered]
        exact huc
    · by_cases hdelivered : r.delivered = true
      · rw [hout.record hdelivered, if_pos hdelivered]
        show ({ (s.left a .failed).cu with events := _ } : Coincidence) = _
        rw [hcu]
      · have hfalse : r.delivered = false := by simpa using hdelivered
        rw [hout.kept hfalse, if_neg hdelivered, ← hfalse]
        exact hcu

/-! ## A stacked entry follows (R145) -/

theorem ucPromote_fold_of_none (xs : List Nat) (h : s.uc.stacked = []) : xs.foldl (fun s _ => ucPromoteOne s) s = s := by
  have hone : ucPromoteOne s = s := by
    unfold ucPromoteOne
    simp [h, sortBy]
  induction xs with
  | nil => rfl
  | cons y xs ih => rw [List.foldl_cons, hone, ih]

theorem ucPromote_of_one (h : (ucPromoteOne s).uc.stacked = []) : ucPromote s = ucPromoteOne s := by
  rw [ucPromote, show List.range 8 = [0, 1, 2, 3, 4, 5, 6, 7] from rfl, List.foldl_cons]
  exact ucPromote_fold_of_none _ h

theorem stacked_ucInsert {kind : AlertKind} {rid : Option Nat} {id : Option EventId} {update : Nat} :
    (ucInsert kind rid id update s).uc.stacked = s.uc.stacked := by rw [ucInsert_uc]

/-- The only stacked entry, a report of a record in the table, takes the place that is free. -/
theorem ucPromote_of_report {z : Stacked} (hstacked : s.uc.stacked = [z]) (hlen : s.uc.queue.length < 8)
    (hkind : z.kind.isReport = true) (hrec : s.rec? z.rid = some r) :
    ucPromote s = ucInsert (if r.delivered then .update else .event) (some z.rid) r.id (r.owedUplink.getD r.update)
      (updRec z.rid (fun r => { r with owedUplink := none }) (setStacked [] s)) := by
  have hrec' : (setStacked [] s).rec? z.rid = some r := hrec
  have hone : ucPromoteOne s = ucInsert (if r.delivered then .update else .event) (some z.rid) r.id
      (r.owedUplink.getD r.update) (updRec z.rid (fun r => { r with owedUplink := none }) (setStacked [] s)) := by
    unfold ucPromoteOne
    rw [if_pos hlen, hstacked]
    have hhead : (sortBy (stackedLe s.cu.events) [z]).head? = some z := rfl
    rw [hhead]
    simp only [hkind, List.erase_cons_head, hrec']
  rw [ucPromote_of_one (by rw [hone, stacked_ucInsert]; rfl), hone]

/-- The only stacked entry, no report, takes the place that is free. -/
theorem ucPromote_of_other {z : Stacked} (hstacked : s.uc.stacked = [z]) (hlen : s.uc.queue.length < 8)
    (hkind : z.kind.isReport = false) :
    ucPromote s = ucInsert z.kind (some z.rid) z.retracts 0 (setStacked [] s) := by
  have hone : ucPromoteOne s = ucInsert z.kind (some z.rid) z.retracts 0 (setStacked [] s) := by
    unfold ucPromoteOne
    rw [if_pos hlen, hstacked]
    have hhead : (sortBy (stackedLe s.cu.events) [z]).head? = some z := rfl
    rw [hhead]
    simp only [hkind, List.erase_cons_head]
  rw [ucPromote_of_one (by rw [hone, stacked_ucInsert]; rfl), hone]

/-- The record of a key, of those with different keys. -/
theorem rec?_of_mem (hmem : r ∈ s.cu.events) (hnodup : (s.cu.events.map EventRec.rid).Nodup) : s.rec? r.rid = some r := by
  obtain ⟨y, hy⟩ : ∃ y, s.rec? r.rid = some y := by
    rw [← Option.isSome_iff_exists, State.rec?, List.find?_isSome]
    exact ⟨r, hmem, by simp⟩
  have hrid : y.rid = r.rid := by simpa using List.find?_some hy
  rw [hy, List.inj_on_of_nodup_map hnodup (List.mem_of_find?_eq_some hy) hmem hrid]

theorem mem_updRec {f : EventRec → EventRec} (hmem : r ∈ s.cu.events) : f r ∈ (updRec r.rid f s).cu.events := by
  show f r ∈ sortBy recLe (s.cu.events.map (fun y => if y.rid == r.rid then f y else y))
  rw [mem_sortBy]
  exact List.mem_map.2 ⟨r, hmem, by simp⟩

/-- A HEALTH alert leaves the end of a queue in which the others wait, and the only stacked entry is what follows. -/
theorem ucLeave_of_follow {how : UplinkState} (hdue : s.uc.healthDue = false)
    (h : (ucPromote (s.left a how)).uc.healthDue = s.uc.healthDue) : ucLeave a how s = ucPromote (s.left a how) := by
  show ucHealthLeft a.kind (ucPromote (s.left a how)) = _
  exact ucHealthLeft_of_not_due (by rw [h, hdue]; simp)

/-- What has followed an alert that left: the entry `z` of the record `r` is in the queue. -/
structure State.Follows (s : State) (others : List Alert) (z : Stacked) (r : EventRec) (t : State) (b : Alert) (r' : EventRec) :
    Prop where
  uc : t.uc = { s.uc with queue := placedAlert b others, stacked := [] }
  fresh : ∃ kind id update, b = s.freshAlert kind (some r.rid) id update
  record : r' ∈ t.cu.events
  mine : ∀ y ∈ t.cu.events, y.rid = r.rid → y.uplink = .queued
  rid : r'.rid = r.rid
  report : z.kind.isReport = true → b.kind = (if r.delivered then .update else .event) ∧ b.id = r.id ∧
    b.update = r.owedUplink.getD r.update ∧ r' = { r with owedUplink := none, uplink := .queued }
  other : z.kind.isReport = false → b.kind = z.kind ∧ b.id = z.retracts ∧ b.update = 0 ∧ r' = { r with uplink := .queued }
  counters : t.counters = s.counters

/-- The records after an insert into a queue in which all wait. -/
theorem ucInsert_records {kind : AlertKind} {id : Option EventId} {update : Nat} {k : Nat} (hmem : r ∈ s.cu.events) (hrid : r.rid = k)
    (hall : ∀ b ∈ s.uc.queue, b.turn = .ready ∨ b.turn = .retry) :
    { r with uplink := .queued } ∈ (ucInsert kind (some k) id update s).cu.events ∧
    ∀ y ∈ (ucInsert kind (some k) id update s).cu.events, y.rid = k → y.uplink = .queued := by
  have hqueue : (ucInsert kind (some k) id update s).uc.queue =
      placedAlert (s.freshAlert kind (some k) id update) s.uc.queue := congrArg Uplink.queue ucInsert_uc
  have hstate (y : EventRec) (hy : y.rid = k) : uplinkStateOf (ucInsert kind (some k) id update s).uc y = .queued := by
    refine uplinkStateOf_of_waiting ?_ ?_ <;> rw [hqueue]
    · intro b hb
      rcases mem_placedAlert.1 hb with rfl | h
      · exact .inl rfl
      · exact hall b h
    · exact ⟨_, mem_placedAlert.2 (.inl rfl), by rw [hy]; rfl⟩
  rw [ucInsert_cu]
  refine ⟨List.mem_map.2 ⟨r, hmem, by rw [hstate r hrid]⟩, fun y hy hyrid => ?_⟩
  obtain ⟨w, -, rfl⟩ := List.mem_map.1 hy
  exact hstate w hyrid

theorem ucLeave_follows {others : List Alert} {z : Stacked} {how : UplinkState} (hqueue : s.uc.queue = others ++ [a])
    (hlen : others.length ≤ 7) (hall : ∀ y ∈ others, y.turn = .ready ∨ y.turn = .retry) (hturn : a.turn = .awaiting)
    (hrid : a.rid = none) (hdue : s.uc.healthDue = false) (hstacked : s.uc.stacked = [z])
    (hz : z.rid = r.rid) (hmem : r ∈ s.cu.events) (hnodup : (s.cu.events.map EventRec.rid).Nodup) :
    ∃ b r', s.Follows others z r (ucLeave a how s) b r' := by
  obtain ⟨v, hv⟩ : ∃ v, v = s.left a how := ⟨_, rfl⟩
  have huc : v.uc = { s.uc with queue := others } := by
    have hnot : a ∉ others := fun h => by rcases hall a h with h | h <;> simp [h] at hturn
    rw [hv, left_uc, hqueue, List.erase_append_right _ hnot]
    simp
  have hev : v.cu.events = s.cu.events.map (fun y => { y with uplink := uplinkStateOf v.uc y }) := by
    rw [huc, hv, left_cu, ucSync_cu, hrid]
    have hsame : (setQueue (s.uc.queue.erase a) s).uc = { s.uc with queue := others } := by
      rw [← huc, hv, left_uc]
      rfl
    show List.map (fun y => { y with uplink := uplinkStateOf (setQueue (s.uc.queue.erase a) s).uc y }) s.cu.events = _
    rw [hsame]
  have hmem' : { r with uplink := uplinkStateOf v.uc r } ∈ v.cu.events := by
    rw [hev]
    exact List.mem_map.2 ⟨r, hmem, rfl⟩
  have hnodup' : (v.cu.events.map EventRec.rid).Nodup := by
    rw [hev, List.map_map]
    exact hnodup
  have hrec := rec?_of_mem hmem' hnodup'
  have hst : v.uc.stacked = [z] := by rw [huc]; exact hstacked
  have hvlen : v.uc.queue.length < 8 := by rw [huc]; exact Nat.lt_succ_of_le hlen
  have htb : v.tb = s.tb := by simp [hv, State.left, setQueue]
  have hcounters : v.counters = s.counters := by simp [hv, State.left, setQueue]
  have hq : v.uc.queue = others := by rw [huc]
  cases hreport : z.kind.isReport
  · have hpromote := ucPromote_of_other hst hvlen hreport
    have hpuc : (ucPromote v).uc = { s.uc with
        queue := placedAlert (s.freshAlert z.kind (some z.rid) z.retracts 0) others, stacked := [] } := by
      rw [hpromote, ucInsert_uc, freshAlert_congr (t := setStacked [] v) (s := s) htb]
      show ({ v.uc with queue := placedAlert _ v.uc.queue, stacked := [] } : Uplink) = _
      rw [huc]
    rw [ucLeave_of_follow hdue (by rw [← hv, hpuc]), ← hv]
    obtain ⟨hin, hmine⟩ := ucInsert_records (s := setStacked [] v) (kind := z.kind) (id := z.retracts) (update := 0)
      (r := { r with uplink := uplinkStateOf v.uc r }) hmem' hz.symm (by rw [show (setStacked [] v).uc.queue = others from hq]; exact hall)
    refine ⟨_, { r with uplink := .queued }, hpuc, ⟨_, _, _, by rw [hz]⟩, ?_, ?_, rfl, fun h => by simp [hreport] at h,
      fun _ => ⟨rfl, rfl, rfl, rfl⟩, ?_⟩
    · rw [hpromote]; exact hin
    · rw [hpromote, ← hz]; exact hmine
    · rw [hpromote, ucInsert_counters]; exact hcounters
  · have hpromote := ucPromote_of_report (r := { r with uplink := uplinkStateOf v.uc r }) hst hvlen hreport (by rw [hz]; exact hrec)
    have hpuc : (ucPromote v).uc = { s.uc with
        queue := placedAlert (s.freshAlert (if r.delivered then .update else .event) (some z.rid) r.id
          (r.owedUplink.getD r.update)) others, stacked := [] } := by
      rw [hpromote, ucInsert_uc,
        freshAlert_congr (t := updRec z.rid (fun r => { r with owedUplink := none }) (setStacked [] v)) (s := s) htb]
      show ({ v.uc with queue := placedAlert _ v.uc.queue, stacked := [] } : Uplink) = _
      rw [huc]
    rw [ucLeave_of_follow hdue (by rw [← hv, hpuc]), ← hv]
    have hupd := mem_updRec (s := setStacked [] v) (f := fun r => { r with owedUplink := none }) hmem'
    obtain ⟨hin, hmine⟩ := ucInsert_records (s := updRec z.rid (fun r => { r with owedUplink := none }) (setStacked [] v))
      (kind := if r.delivered then .update else .event) (id := r.id) (update := r.owedUplink.getD r.update) (k := z.rid)
      (r := { r with owedUplink := none, uplink := uplinkStateOf v.uc r }) (by rw [hz]; exact hupd) hz.symm
      (by rw [show (updRec z.rid (fun r => { r with owedUplink := none }) (setStacked [] v)).uc.queue = others from hq]; exact hall)
    refine ⟨_, { r with owedUplink := none, uplink := .queued }, hpuc, ⟨_, _, _, by rw [hz]⟩, ?_, ?_, rfl,
      fun _ => ⟨rfl, rfl, rfl, rfl⟩, fun h => by simp [hreport] at h, ?_⟩
    · rw [hpromote]; exact hin
    · rw [hpromote, ← hz]; exact hmine
    · rw [hpromote, ucInsert_counters]; exact hcounters

end

end Sys2Proof.Machine

section
open Sys2Proof Sys2Proof.Machine
set_option Elab.async false

theorem ack_of_health (s : State) (x : Transfer) (a : Alert) (hs : s.Steady) (hm : s.uc.modem = .awaiting)
    (hx : s.uc.transfer = some x) (hqueue : s.uc.queue = [a]) (hturn : a.turn = .awaiting) (hstacked : s.uc.stacked = [])
    (hdue : s.uc.healthDue = false) (hrid : a.rid = none) {p q : Nat} (hon : x.onTimes = some (p, q)) :
    ∃ t, exec (.uplinkReply 0x06#8) s = .next t ∧ t.uc.queue = [] ∧ t.uc.transfer = none ∧
      t.uc.modem = .idle ∧ t.uc.modemTimer = some { start := s.now, period := secs 30 } ∧
      t.hc.b.onTime = s.hc.b.onTime - p ∧ t.hc.s.onTime = s.hc.s.onTime - q ∧
      t.count .acknowledgedAlerts = min (s.count .acknowledgedAlerts + 1) 65535 ∧ t.mc.standing = .active := by
  have hack : ackAlert a x s = bump .acknowledgedAlerts ((onTimesTaken x s).left a .sent) := by
    rw [ackAlert_of_health hrid, ucLeave_of_none_stacked (by simpa using hstacked) (by simp [hdue])]
  have huc : (ackAlert a x s).uc = { s.uc with queue := [] } := by
    rw [hack]
    refine (left_uc (s := onTimesTaken x s)).trans ?_
    simp [hqueue]
  have htb : (ackAlert a x s).tb = s.tb := by simp
  have hactive : (ackAlert a x s).mc.standing = .active := (ackAlert_keeps (.refl 24 .still s)).standing.trans hs.active
  have hgood : (ackAlert a x s).bm.cls = .good := by simpa using hs.good
  have hout := transferOver_uc hactive hgood (.inr (by rw [huc]; rfl))
  have hhc : (ackAlert a x s).hc = (takeOnTimes p q s).hc := by
    rw [hack]
    show ((onTimesTaken x s).left a .sent).hc = _
    rw [onTimesTaken, hon]
    simp [State.left, setQueue]
  refine ⟨_, exec_ack hm hx (inTransfer_of_only hqueue hturn), by rw [hout, huc], by rw [hout], by rw [hout, huc]; rfl,
    by rw [hout, huc, State.now, htb]; rfl, ?_, ?_, ?_, transferOver_active hactive hgood⟩
  · rw [transferOver_hc hactive hgood, hhc]; rfl
  · rw [transferOver_hc hactive hgood, hhc]; rfl
  · rw [transferOver_count hactive hgood, hack, count_bump, if_pos rfl, count_of_counters_eq (s := s)]
    simp [State.left, setQueue]

theorem nak_of_health (s : State) (a : Alert) (k : Counter) (hk : k ≠ .failedAlerts) (hmuster : k ≠ .musterBeacons)
    (hbus : k ≠ .busRecoveries) (hs : s.Steady) (hqueue : s.uc.queue = [a]) (hstacked : s.uc.stacked = [])
    (hdue : s.uc.healthDue = false) (hrid : a.rid = none) (hwithdrawn : a.withdrawn = false) :
    (transferOver (nakAlert a (bump k s))).count k = min (s.count k + 1) 65535 ∧
    (transferOver (nakAlert a (bump k s))).uc.transfer = none ∧ (transferOver (nakAlert a (bump k s))).uc.modem = .idle ∧
    (a.attempts < 4 → (transferOver (nakAlert a (bump k s))).uc.queue = [{ a with
      attempts := a.attempts + 1, turn := .retry, retryWait := some { start := s.now, period := secs 30 } }]) ∧
    (a.attempts = 4 → (transferOver (nakAlert a (bump k s))).uc.queue = [] ∧
      (transferOver (nakAlert a (bump k s))).count .failedAlerts = min (s.count .failedAlerts + 1) 65535) := by
  have hnak : nakAlert a (bump k s) = failAttempt a (bump k s) := by simp [nakAlert, hwithdrawn]
  rw [hnak]
  have hactive : (failAttempt a (bump k s)).mc.standing = .active :=
    (failAttempt_keeps (.refl 24 .still (bump k s))).standing.trans hs.active
  have hgood : (failAttempt a (bump k s)).bm.cls = .good := by simpa using hs.good
  have hkcount : (bump k s).count k = min (s.count k + 1) 65535 := by rw [count_bump, if_pos rfl]
  by_cases hattempts : a.attempts < 4
  · have huc := failAttempt_of_health (s := bump k s) (by exact hqueue) hrid hattempts
    have hout := transferOver_uc hactive hgood (.inr (by rw [huc]; rfl))
    refine ⟨?_, by rw [hout], by rw [hout, huc]; rfl, fun _ => by rw [hout, huc]; rfl, fun h => by omega⟩
    rw [transferOver_count hactive hgood hmuster hbus,
      count_of_counters_eq (failAttempt_of_health_counters (s := bump k s) hrid hattempts), hkcount]
  · have hfail : failAttempt a (bump k s) = bump .failedAlerts ((bump k s).left a .failed) := by
      rw [failAttempt_of_fifth hrid (by omega), ucLeave_of_none_stacked (by exact hstacked) (by simp [hdue])]
    have huc : (failAttempt a (bump k s)).uc = { s.uc with queue := [] } := by
      rw [hfail]
      refine (left_uc (s := bump k s)).trans ?_
      simp [hqueue]
    have hcount (c : Counter) : ((bump k s).left a .failed).count c = (bump k s).count c :=
      count_of_counters_eq (by simp [State.left, setQueue])
    have hout := transferOver_uc hactive hgood (.inr (by rw [huc]; rfl))
    refine ⟨?_, by rw [hout], by rw [hout, huc]; rfl, fun h => absurd h hattempts, fun _ => ⟨by rw [hout, huc], ?_⟩⟩
    · rw [transferOver_count hactive hgood hmuster hbus, hfail, count_bump, if_neg (Ne.symm hk), hcount, hkcount]
    · rw [transferOver_count hactive hgood, hfail, count_bump, if_pos rfl, hcount, count_bump, if_neg hk]

theorem ack_of_report (s : State) (x : Transfer) (a : Alert) (r : EventRec) (hs : s.Steady) (hcd : s.pins.lkCd = true)
    (hm : s.uc.modem = .awaiting) (hx : s.uc.transfer = some x) (hqueue : s.uc.queue = [a]) (hturn : a.turn = .awaiting)
    (hstacked : s.uc.stacked = []) (hkind : a.kind.isReport = true) (hrid : a.rid = some r.rid) (hevents : s.cu.events = [r])
    (hlive : r.state.live = true) (hid : a.id = r.id) (hwithdrawn : a.withdrawn = false) (hupdate : r.update = x.update) :
    ∃ t, exec (.uplinkReply 0x06#8) s = .next t ∧ t.uc.queue = [] ∧ t.uc.modem = .idle ∧
      t.cu.events = [{ r with delivered := true, uplink := .sent }] ∧
      t.count .acknowledgedAlerts = min (s.count .acknowledgedAlerts + 1) 65535 := by
  obtain ⟨huc, hcu, hcount, -⟩ := acked_only (x := x) (changed := r.id != a.id) hqueue hstacked hkind hrid hevents
  have hsame : (r.id != a.id) = false := by simp [hid]
  have hack : ackAlert a x s = s.acked x a r.rid (r.id != a.id) := by
    have hrec : (s.acked x a r.rid (r.id != a.id)).rec? r.rid =
        some { r with delivered := !(r.id != a.id), uplink := .sent } :=
      rec?_only (r := { r with delivered := !(r.id != a.id), uplink := .sent }) (congrArg Coincidence.events hcu)
    rw [ackAlert_of_report hkind hrid hevents, if_neg (by simp [hwithdrawn]), if_neg (by simp [hsame]), hrec,
      if_neg (by simp [hupdate])]
  rw [← hack] at huc hcu hcount
  rw [hsame] at hcu
  have hactive : (ackAlert a x s).mc.standing = .active := (ackAlert_keeps (.refl 24 .still s)).standing.trans hs.active
  have hgood : (ackAlert a x s).bm.cls = .good := by simpa using hs.good
  have hnone : (ackAlert a x s).pins.upRdy = false ∨ (ackAlert a x s).uc.head = none := .inr (by rw [huc]; rfl)
  have hout := transferOver_uc hactive hgood hnone
  have hrec := transferOver_cu_of_none hactive hgood hnone (by simpa using hcd) (by
    rw [hcu]
    exact List.forall_mem_singleton.2 fun w => not_lingered_of_live hlive)
  exact ⟨_, exec_ack hm hx (inTransfer_of_only hqueue hturn), by rw [hout, huc], by rw [hout, huc]; rfl, by rw [hrec, hcu]; rfl,
    (transferOver_count hactive hgood).trans hcount⟩

theorem ack_of_renamed (s : State) (x : Transfer) (a : Alert) (r : EventRec) (hs : s.Steady) (hcd : s.pins.lkCd = true)
    (hrdy : s.pins.upRdy = false) (hm : s.uc.modem = .awaiting) (hx : s.uc.transfer = some x) (hqueue : s.uc.queue = [a])
    (hturn : a.turn = .awaiting) (hstacked : s.uc.stacked = []) (hkind : a.kind.isReport = true) (hrid : a.rid = some r.rid)
    (hevents : s.cu.events = [r]) (hwithdrawn : a.withdrawn = false) (hid : a.id ≠ r.id) :
    ∃ t, exec (.uplinkReply 0x06#8) s = .next t ∧
      t.uc.queue = [s.freshAlert .event (some r.rid) r.id r.update, s.freshAlert .retract (some r.rid) a.id 0] ∧
      t.cu.events = [{ r with delivered := false, uplink := .queued }] ∧ t.uc.modem = .readyWait ∧
      t.uc.modemTimer = some { start := s.now, period := secs 60 } ∧ t.uc.transfer = none ∧
      t.count .acknowledgedAlerts = min (s.count .acknowledgedAlerts + 1) 65535 := by
  obtain ⟨huc, hcu, hcount, htb⟩ := acked_only (x := x) (changed := r.id != a.id) hqueue hstacked hkind hrid hevents
  have hchanged : (r.id != a.id) = true := by simpa using fun h => hid h.symm
  obtain ⟨hruc, hrcu, hrcount⟩ := retract_then_report (s := s.acked x a r.rid (r.id != a.id))
    (r := { r with delivered := !(r.id != a.id), uplink := .sent }) (former := a.id) (congrArg Uplink.queue huc)
    ((congrArg Uplink.stacked huc).trans hstacked) (congrArg Coincidence.events hcu)
  have hack : ackAlert a x s = ucRaiseReport .event r.rid (ucRaiseRetract r.rid a.id (s.acked x a r.rid (r.id != a.id))) := by
    rw [ackAlert_of_report hkind hrid hevents, if_neg (by simp [hwithdrawn]), if_pos hchanged]
  have hquc : (ackAlert a x s).uc = { s.uc with
      queue := [s.freshAlert .event (some r.rid) r.id r.update, s.freshAlert .retract (some r.rid) a.id 0] } := by
    rw [hack, ← freshAlert_congr htb, ← freshAlert_congr htb]
    exact hruc.trans (by rw [huc])
  have hev : (ackAlert a x s).cu.events = [{ r with delivered := false, uplink := .queued }] := by
    rw [hack, hrcu, hchanged]
    rfl
  have hactive : (ackAlert a x s).mc.standing = .active := (ackAlert_keeps (.refl 24 .still s)).standing.trans hs.active
  have hgood : (ackAlert a x s).bm.cls = .good := by simpa using hs.good
  have hnow : (ackAlert a x s).tb = s.tb := by simp
  have hlow : (ackAlert a x s).pins.upRdy = false ∨ (ackAlert a x s).uc.head = none := .inl (by simpa using hrdy)
  have hout := transferOver_uc hactive hgood hlow
  have hrec := transferOver_cu_of_none hactive hgood hlow (by simpa using hcd) (by
    rw [hev]
    exact List.forall_mem_singleton.2 fun w => not_lingered_of_queued rfl)
  refine ⟨_, exec_ack hm hx (inTransfer_of_only hqueue hturn), by rw [hout, hquc], by rw [hrec, hev], by rw [hout, hquc]; rfl,
    by rw [hout, hquc, State.now, hnow]; rfl, by rw [hout], ?_⟩
  rw [transferOver_count hactive hgood, hack, count_of_counters_eq hrcount, hcount]

theorem nak_of_renamed (s : State) (a : Alert) (r : EventRec) (k : Counter) (hk : k ≠ .failedAlerts)
    (hmuster : k ≠ .musterBeacons) (hbus : k ≠ .busRecoveries) (hs : s.Steady) (hcd : s.pins.lkCd = true)
    (hrdy : s.pins.upRdy = false) (hqueue : s.uc.queue = [a]) (hstacked : s.uc.stacked = []) (hkind : a.kind.isReport = true)
    (hrid : a.rid = some r.rid) (hevents : s.cu.events = [r]) (hwithdrawn : a.withdrawn = false) (hlive : r.state.live = true)
    (hid : a.id ≠ r.id) :
    (transferOver (nakAlert a (bump k s))).count k = min (s.count k + 1) 65535 ∧
    (transferOver (nakAlert a (bump k s))).uc.transfer = none ∧
    (a.attempts < 4 →
      (transferOver (nakAlert a (bump k s))).uc.queue =
        a.renamedRetry r s.now :: (if r.delivered then [s.freshAlert .retract (some r.rid) a.id 0] else []) ∧
      (transferOver (nakAlert a (bump k s))).cu.events = [{ r with delivered := false, uplink := .queued }]) ∧
    (a.attempts = 4 →
      (transferOver (nakAlert a (bump k s))).uc.queue = (if r.delivered then [s.freshAlert .retract (some r.rid) a.id 0] else []) ∧
      (transferOver (nakAlert a (bump k s))).count .failedAlerts = min (s.count .failedAlerts + 1) 65535 ∧
      (transferOver (nakAlert a (bump k s))).cu.events =
        [{ r with delivered := false, uplink := if r.delivered then .queued else .failed }]) := by
  have hnak : nakAlert a (bump k s) = failAttempt a (bump k s) := by simp [nakAlert, hwithdrawn]
  obtain ⟨hfew, hfifth⟩ := failAttempt_renamed (s := bump k s) hqueue hstacked hkind hrid hevents hid
  rw [hnak]
  have hactive : (failAttempt a (bump k s)).mc.standing = .active :=
    (failAttempt_keeps (.refl 24 .still (bump k s))).standing.trans hs.active
  have hgood : (failAttempt a (bump k s)).bm.cls = .good := by simpa using hs.good
  have hlow : (failAttempt a (bump k s)).pins.upRdy = false ∨ (failAttempt a (bump k s)).uc.head = none := .inl (by simpa using hrdy)
  have hkcount : (bump k s).count k = min (s.count k + 1) 65535 := by rw [count_bump, if_pos rfl]
  have hout := transferOver_uc hactive hgood hlow
  have hrec {y : EventRec} (hev : (failAttempt a (bump k s)).cu.events = [y]) (hlive : y.state.live = true) :
      (transferOver (failAttempt a (bump k s))).cu.events = [y] := by
    rw [transferOver_cu_of_none hactive hgood hlow (by simpa using hcd), hev]
    rw [hev]
    exact List.forall_mem_singleton.2 fun w => not_lingered_of_live hlive
  by_cases hattempts : a.attempts < 4
  · obtain ⟨huc, hcu, hcounters⟩ := hfew hattempts
    refine ⟨?_, by rw [hout], fun _ => ⟨by rw [hout, huc]; rfl, hrec (congrArg Coincidence.events hcu) hlive⟩, fun h => by omega⟩
    rw [transferOver_count hactive hgood hmuster hbus, count_of_counters_eq hcounters, hkcount]
  · obtain ⟨huc, hcu, hcounters⟩ := hfifth (by omega)
    refine ⟨?_, by rw [hout], fun h => absurd h hattempts, fun _ => ⟨by rw [hout, huc]; rfl, ?_,
      hrec (congrArg Coincidence.events hcu) hlive⟩⟩
    · rw [transferOver_count hactive hgood hmuster hbus, count_of_counters_eq hcounters, count_bump, if_neg (Ne.symm hk), hkcount]
    · rw [transferOver_count hactive hgood, count_of_counters_eq hcounters, count_bump, if_pos rfl, count_bump, if_neg hk]

theorem replies_to_withdrawn (s : State) (x : Transfer) (a : Alert) (r : EventRec) (hs : s.Steady) (hcd : s.pins.lkCd = true)
    (hrdy : s.pins.upRdy = false) (hm : s.uc.modem = .awaiting) (hx : s.uc.transfer = some x) (hqueue : s.uc.queue = [a])
    (hturn : a.turn = .awaiting) (hstacked : s.uc.stacked = []) (hkind : a.kind.isReport = true) (hrid : a.rid = some r.rid)
    (hevents : s.cu.events = [r]) (hwithdrawn : a.withdrawn = true) (hid : a.id = r.id) :
    (∃ t, exec (.uplinkReply 0x06#8) s = .next t ∧ t.uc.queue = [s.freshAlert .retract (some r.rid) r.id 0] ∧
      t.cu.events = [{ r with delivered := true, uplink := .queued }] ∧ t.uc.modem = .readyWait ∧
      t.count .acknowledgedAlerts = min (s.count .acknowledgedAlerts + 1) 65535) ∧
    (∃ t, exec (.uplinkReply 0x15#8) s = .next t ∧
      t.uc.queue = (if r.delivered then [s.freshAlert .retract (some r.rid) r.id 0] else []) ∧
      t.count .naks = min (s.count .naks + 1) 65535 ∧ t.count .failedAlerts = s.count .failedAlerts ∧
      (r.delivered = true → t.cu.events = [{ r with uplink := .queued }])) := by
  have hin := inTransfer_of_only hqueue hturn
  constructor
  · obtain ⟨huc, hcu, hcount, htb⟩ := acked_only (x := x) (changed := r.id != a.id) hqueue hstacked hkind hrid hevents
    have hsame : (r.id != a.id) = false := by simp [hid]
    obtain ⟨hruc, hrcu, hrcount⟩ := ucRetractWithdrawn_only (s := s.acked x a r.rid (r.id != a.id))
      (r := { r with delivered := !(r.id != a.id), uplink := .sent }) (congrArg Uplink.queue huc) (congrArg Coincidence.events hcu)
    have hack : ackAlert a x s = ucRetractWithdrawn r.rid (s.acked x a r.rid (r.id != a.id)) := by
      rw [ackAlert_of_report hkind hrid hevents, if_pos hwithdrawn]
    have hquc : (ackAlert a x s).uc = { s.uc with queue := [s.freshAlert .retract (some r.rid) r.id 0] } := by
      rw [hack, ← freshAlert_congr htb]
      refine hruc.trans ?_
      rw [huc, hsame]
      rfl
    have hev : (ackAlert a x s).cu.events = [{ r with delivered := true, uplink := .queued }] := by
      rw [hack, hrcu, hsame]
      rfl
    have hactive : (ackAlert a x s).mc.standing = .active := (ackAlert_keeps (.refl 24 .still s)).standing.trans hs.active
    have hgood : (ackAlert a x s).bm.cls = .good := by simpa using hs.good
    have hlow : (ackAlert a x s).pins.upRdy = false ∨ (ackAlert a x s).uc.head = none := .inl (by simpa using hrdy)
    have hout := transferOver_uc hactive hgood hlow
    have hrec := transferOver_cu_of_none hactive hgood hlow (by simpa using hcd) (by
      rw [hev]
      exact List.forall_mem_singleton.2 fun w => not_lingered_of_queued rfl)
    refine ⟨_, exec_ack hm hx hin, by rw [hout, hquc], by rw [hrec, hev], by rw [hout, hquc]; rfl, ?_⟩
    rw [transferOver_count hactive hgood, hack, count_of_counters_eq hrcount, hcount]
  · have hnak : nakAlert a (bump .naks s) = leaveWithdrawn a (bump .naks s) := by simp [nakAlert, hwithdrawn]
    obtain ⟨huc, hcu, hcounters⟩ := leaveWithdrawn_only (s := bump .naks s) hqueue hstacked hevents hkind hrid
    rw [← hnak] at huc hcu hcounters
    have hactive : (nakAlert a (bump .naks s)).mc.standing = .active :=
      (nakAlert_keeps (.refl 24 .still (bump .naks s))).standing.trans hs.active
    have hgood : (nakAlert a (bump .naks s)).bm.cls = .good := by simpa using hs.good
    have hlow : (nakAlert a (bump .naks s)).pins.upRdy = false ∨ (nakAlert a (bump .naks s)).uc.head = none :=
      .inl (by simpa using hrdy)
    refine ⟨_, exec_nak hm hx hin, by rw [transferOver_uc hactive hgood hlow, huc]; rfl, ?_, ?_, fun hdelivered => ?_⟩
    · rw [transferOver_count hactive hgood, count_of_counters_eq hcounters, count_bump, if_pos rfl]
    · rw [transferOver_count hactive hgood, count_of_counters_eq hcounters, count_bump, if_neg (by decide)]
    · rw [transferOver_cu_of_none hactive hgood hlow (by simpa using hcd) (by
        rw [hcu, if_pos hdelivered]
        exact List.forall_mem_singleton.2 fun w => not_lingered_of_queued rfl), hcu, if_pos hdelivered]

/-- Which alerts stand before a new one of a kind (R143). -/
theorem before_eq : (fun y : Alert => decide (y.kind.priority ≤ AlertKind.event.priority)) = (fun y => y.kind == .event) ∧
    (fun y : Alert => decide (y.kind.priority ≤ AlertKind.retract.priority)) = (fun y => y.kind == .event || y.kind == .retract) ∧
    (fun y : Alert => decide (y.kind.priority ≤ AlertKind.update.priority)) = (fun y => y.kind != .health) ∧
    (fun y : Alert => decide (y.kind.priority ≤ AlertKind.health.priority)) = (fun _ => true) := by
  refine ⟨?_, ?_, ?_, ?_⟩ <;>
  · funext y
    cases y.kind <;> rfl

theorem head_isSome_of_mem {w : Uplink} {b : Alert} (hb : b ∈ w.queue) (hturn : b.turn = .ready) : w.head.isSome = true := by
  rw [Uplink.head, List.find?_isSome]
  exact ⟨b, hb, by simp [hturn]⟩

/-- The step ends behind an alert that a stacked entry has followed. -/
theorem transferOver_of_follows {s v w : State} {others : List Alert} {z : Stacked} {r r' : EventRec} {b : Alert}
    (hf : s.Follows others z r w b r') (hvuc : v.uc = w.uc) (hvcu : v.cu = w.cu) (hactive : v.mc.standing = .active) (hgood : v.bm.cls = .good)
    (hrdy : v.pins.upRdy = false) (hcd : v.pins.lkCd = true) :
    (transferOver v).uc.stacked = [] ∧ (transferOver v).uc.transfer = none ∧ (transferOver v).uc.modem = .readyWait ∧
    b.rid = some r.rid ∧ b.enqueued = s.now ∧ b.attempts = 0 ∧ b.turn = .ready ∧ b.withdrawn = false ∧
    (transferOver v).uc.queue = placedAlert b others ∧ r' ∈ (transferOver v).cu.events ∧ r'.uplink = .queued := by
  have hout := transferOver_uc hactive hgood (.inl hrdy)
  have hend : (endAwaiting v).cu = w.cu := by
    rw [endAwaiting, modemNext_eq (.inl (by exact hrdy))]
    exact hvcu
  rw [hvuc] at hout
  obtain ⟨kind, id, update, rfl⟩ := hf.fresh
  have hhead : w.uc.head.isSome = true :=
    head_isSome_of_mem (b := s.freshAlert kind (some r.rid) id update) (by rw [hf.uc]; exact mem_placedAlert.2 (.inl rfl)) rfl
  have hqueued : r'.uplink = .queued := hf.mine r' hf.record hf.rid
  refine ⟨by rw [hout, hf.uc], by rw [hout], by rw [hout, hhead]; rfl, rfl, rfl, rfl, rfl, rfl, by rw [hout, hf.uc], ?_, hqueued⟩
  rw [transferOver_cu hactive hgood (.inl hrdy) hcd]
  refine ((mem_removeEach (s := endAwaiting v) _).1 r').2 ⟨by rw [hend]; exact hf.record, fun y hy hrid => ?_⟩
  obtain ⟨hymem, hygone⟩ := List.mem_filter.1 hy
  rw [hend] at hymem
  have hno := not_lingered_of_queued (s := endAwaiting v) (hf.mine y hymem (hrid.symm.trans hf.rid))
  exact absurd (hno.symm.trans hygone) (by decide)

/-- What a stacked entry that follows a HEALTH alert leaves, as a step of the model. -/
theorem follows_of_reply (s : State) (x : Transfer) (a : Alert) (others : List Alert) (z : Stacked) (r : EventRec) (byte : Byte)
    (hs : s.Steady) (hcd : s.pins.lkCd = true) (hrdy : s.pins.upRdy = false) (hm : s.uc.modem = .awaiting)
    (hx : s.uc.transfer = some x) (hqueue : s.uc.queue = others ++ [a]) (hlen : others.length ≤ 7)
    (hall : ∀ y ∈ others, y.turn = .ready ∨ y.turn = .retry) (hturn : a.turn = .awaiting) (hrid : a.rid = none)
    (hwithdrawn : a.withdrawn = false) (hdue : s.uc.healthDue = false) (hstacked : s.uc.stacked = [z]) (hz : z.rid = r.rid)
    (hmem : r ∈ s.cu.events) (hnodup : (s.cu.events.map EventRec.rid).Nodup)
    (hbyte : byte = 0x06#8 ∨ (byte = 0x15#8 ∧ a.attempts = 4)) :
    ∃ (v w u : State) (b : Alert) (r' : EventRec), exec (.uplinkReply byte) s = .next (transferOver v) ∧ u.Follows others z r w b r' ∧ u.tb = s.tb ∧ v.uc = w.uc ∧
      v.cu = w.cu ∧ v.mc.standing = .active ∧ v.bm.cls = .good ∧ v.pins.upRdy = false ∧ v.pins.lkCd = true ∧
      (byte = 0x06#8 → v.count .acknowledgedAlerts = min (s.count .acknowledgedAlerts + 1) 65535) ∧
      (byte = 0x15#8 → v.count .failedAlerts = min (s.count .failedAlerts + 1) 65535) := by
  have hin : s.uc.inTransfer = some a := by
    have hnone : others.find? (fun a => a.turn.inTransfer) = none := by
      rw [List.find?_eq_none]
      intro y hy
      rcases hall y hy with h | h <;> simp [h, Turn.inTransfer]
    rw [Uplink.inTransfer, hqueue, List.find?_append, hnone]
    simp [hturn, Turn.inTransfer]
  rcases hbyte with rfl | ⟨rfl, hattempts⟩
  · obtain ⟨b, r', hf⟩ := ucLeave_follows (s := onTimesTaken x s) (a := a) (how := .sent) (z := z) (r := r)
      (by simpa using hqueue) hlen hall hturn hrid (by simpa using hdue) (by simpa using hstacked) hz (by simpa using hmem)
      (by simpa using hnodup)
    have hack : ackAlert a x s = _ := ackAlert_of_health hrid
    refine ⟨ackAlert a x s, _, _, b, r', exec_ack hm hx hin, hf, by simp, by rw [hack]; rfl, by rw [hack]; rfl,
      (ackAlert_keeps (.refl 24 .still s)).standing.trans hs.active, by simpa using hs.good, by simpa using hrdy,
      by simpa using hcd, fun _ => ?_, fun h => absurd h (by decide)⟩
    rw [hack, count_bump, if_pos rfl, count_of_counters_eq (s := s) (hf.counters.trans (by simp))]
  · obtain ⟨b, r', hf⟩ := ucLeave_follows (s := bump .naks s) (a := a) (how := .failed) (z := z) (r := r) hqueue hlen hall hturn hrid
      hdue hstacked hz hmem hnodup
    have hnak : nakAlert a (bump .naks s) = bump .failedAlerts (ucLeave a .failed (bump .naks s)) := by
      rw [← failAttempt_of_fifth hrid hattempts.ge]
      simp [nakAlert, hwithdrawn]
    refine ⟨nakAlert a (bump .naks s), _, _, b, r', exec_nak hm hx hin, hf, rfl, by rw [hnak]; rfl, by rw [hnak]; rfl,
      (nakAlert_keeps (.refl 24 .still (bump .naks s))).standing.trans hs.active, by simpa using hs.good, by simpa using hrdy,
      by simpa using hcd, fun h => absurd h (by decide), fun _ => ?_⟩
    rw [hnak, count_bump, if_pos rfl, count_of_counters_eq hf.counters, count_bump, if_neg (by decide)]

/-- Settles O53. -/
theorem replySettlesTheAlert : Obligations.ReplySettlesTheAlert := by
  unfold Obligations.ReplySettlesTheAlert
  refine ⟨fun s x a hs _ hcd hm hx hqueue hturn hstacked hdue => ⟨fun b hack hnak =>
      exec_otherReply hm hx (inTransfer_of_only hqueue hturn) hack hnak, fun _ hrid hwithdrawn => ⟨fun p q hon =>
        ack_of_health s x a hs hm hx hqueue hturn hstacked hdue hrid hon, ?_, fun htime => ?_⟩,
      fun r hkind hrid hevents hlive hid hwithdrawn hupdate => ack_of_report s x a r hs hcd hm hx hqueue hturn hstacked
        (isReport_of hkind) hrid hevents hlive hid hwithdrawn hupdate⟩,
    fun s x a r hs _ hcd hrdy hm hx hqueue hturn hstacked hkind hrid hevents => ⟨fun hwithdrawn _ hid =>
      ack_of_renamed s x a r hs hcd hrdy hm hx hqueue hturn hstacked (isReport_of hkind) hrid hevents hwithdrawn hid,
      fun hwithdrawn hlive hid c k hck => ?_, fun hwithdrawn _ hid => replies_to_withdrawn s x a r hs hcd hrdy hm hx hqueue hturn
        hstacked (isReport_of hkind) hrid hevents hwithdrawn hid⟩,
    fun s x a others z r byte hs _ hcd hrdy hm hx hqueue hlen hall hturn _ hrid hwithdrawn hdue hstacked hz hmem hnodup _ hbyte => ?_⟩
  · obtain ⟨hcount, htransfer, hmodem, hfew, hfifth⟩ :=
      nak_of_health s a .naks (by decide) (by decide) (by decide) hs hqueue hstacked hdue hrid hwithdrawn
    exact ⟨_, exec_nak hm hx (inTransfer_of_only hqueue hturn), hcount, htransfer, hmodem, hfew, hfifth⟩
  · obtain ⟨hcount, htransfer, hmodem, hfew, hfifth⟩ :=
      nak_of_health s a .replyTimeouts (by decide) (by decide) (by decide) hs hqueue hstacked hdue hrid hwithdrawn
    exact ⟨_, exec_replyLimit hm (inTransfer_of_only hqueue hturn) htime, hcount, htransfer, hmodem, hfew, hfifth⟩
  · rcases hck with ⟨rfl, rfl⟩ | ⟨rfl, rfl, htime⟩
    · obtain ⟨hcount, htransfer, hfew, hfifth⟩ := nak_of_renamed s a r .naks (by decide) (by decide) (by decide) hs hcd hrdy hqueue
        hstacked (isReport_of hkind) hrid hevents hwithdrawn hlive hid
      exact ⟨_, exec_nak hm hx (inTransfer_of_only hqueue hturn), hcount, htransfer, hfew, fun h => hfifth h⟩
    · obtain ⟨hcount, htransfer, hfew, hfifth⟩ := nak_of_renamed s a r .replyTimeouts (by decide) (by decide) (by decide) hs hcd
        hrdy hqueue hstacked (isReport_of hkind) hrid hevents hwithdrawn hlive hid
      exact ⟨_, exec_replyLimit hm (inTransfer_of_only hqueue hturn) htime, hcount, htransfer, hfew, fun h => hfifth h⟩
  · obtain ⟨v, w, u, b, r', hexec, hf, htb, hvuc, hvcu, hactive, hgood, hvrdy, hvcd, hack, hnak⟩ := follows_of_reply s x a others z r
      byte hs hcd hrdy hm hx hqueue hlen hall hturn hrid hwithdrawn hdue hstacked hz hmem hnodup hbyte
    obtain ⟨hst, htransfer, hmodem, hbrid, henqueued, hattempts, hbturn, hbw, hq, hr', hqueued⟩ :=
      transferOver_of_follows hf hvuc hvcu hactive hgood hvrdy hvcd
    refine ⟨_, b, r', hexec, hst, htransfer, hmodem, hbrid, by rw [henqueued, State.now, htb]; rfl, hattempts, hbturn, hbw, ?_, hr',
      hqueued, fun hkind => hf.report (isReport_of hkind), fun hkind => ?_, fun h => ?_, fun h => ?_⟩
    · obtain ⟨hevent, hretract, hupdate, hhealth⟩ := before_eq
      rw [hq, placedAlert]
      cases b.kind
      · rw [hevent]
      · rw [hretract]
      · rw [hupdate]
      · rw [hhealth]
    · obtain ⟨hbk, hbid, hbu, hbr⟩ := hf.other (by rw [hkind]; rfl)
      exact ⟨hbk.trans hkind, hbid, hbu, hbr⟩
    · rw [transferOver_count hactive hgood]
      exact hack h
    · rw [transferOver_count hactive hgood]
      exact hnak h

end

/-! PROOFS. The blocks at an entry to DORMANT or SHELTER. -/
namespace Sys2Proof.Machine
set_option Elab.async false

/-- The counters that the blocks can raise at an entry to DORMANT or SHELTER. -/
def Counter.byBlocks (c : Counter) : Bool :=
  c.byEvents ||
    decide (c = .missingMarks ∨ c = .voidedExchanges ∨ c = .onsetNoticesReplaced ∨ c = .calibrationDiscards)

section
variable {s t u : State} {c : Counter}

theorem not_byBlocks (hc : c.byBlocks = false) : c.byEvents = false ∧
    c ≠ .missingMarks ∧ c ≠ .voidedExchanges ∧ c ≠ .onsetNoticesReplaced ∧ c ≠ .calibrationDiscards := by
  simpa [Counter.byBlocks, and_assoc] using hc

/-! ## The detector stops (R110) -/

/-- What the END of a trigger at its stop moves: the events, the alerts and the notice slot. -/
structure State.EndsTrigger (s t : State) : Prop where
  mc : t.mc = { s.mc with evalDue := t.mc.evalDue, abandonDue := t.mc.abandonDue }
  lc : t.lc = { s.lc with slots := { s.lc.slots with notice := t.lc.slots.notice, declaration := t.lc.slots.declaration } }
  count : ∀ c : Counter, c.byBlocks = false → t.count c = s.count c

theorem State.EndsTrigger.trans (h : s.EndsTrigger t) (g : t.EndsTrigger u) : s.EndsTrigger u where
  mc := by rw [g.mc, h.mc]
  lc := by rw [g.lc, h.lc]
  count c hc := (g.count c hc).trans (h.count c hc)

theorem State.EndsTrigger.refl : s.EndsTrigger s := ⟨rfl, rfl, fun _ _ => rfl⟩

theorem endsTrigger_of_besideEvents (h : t.besideEvents = s.besideEvents) : s.EndsTrigger t where
  mc := mc_of_besideEvents h
  lc := by rw [lc_of_besideEvents h]
  count c hc := count_of_besideEvents h (not_byBlocks hc).1

theorem endsTrigger_requestEnd {onset : StationTime} {mask peak duration : Nat} :
    s.EndsTrigger (requestEnd onset mask peak duration s) := by
  have hnotice (n : Notice) : s.EndsTrigger (requestNotice n s) := by
    unfold requestNotice
    split
    · exact ⟨rfl, rfl, fun _ _ => rfl⟩
    · exact .refl
  unfold requestEnd
  dsimp only
  split
  · refine (hnotice _).trans ⟨rfl, rfl, fun c hc => ?_⟩
    obtain ⟨-, -, -, hreplaced, -⟩ := not_byBlocks hc
    rw [count_bump, if_neg hreplaced.symm]
    rfl
  · exact hnotice _

theorem endsTrigger_tdReport : t.EndsTrigger (tdReport s t) where
  mc := tdReport_mc
  lc := by simp
  count c _ := count_of_counters_eq (by simp)

theorem endsTrigger_tdStop : s.EndsTrigger (tdStop s) := by
  have hends (e : StationTime) : s.EndsTrigger (tdEndReports e s) := by
    unfold tdEndReports
    split
    · exact (endsTrigger_of_besideEvents cuOwnEnd_besideEvents).trans endsTrigger_requestEnd
    · exact .refl
  have hset (v : State) (x : Trigger) : v.EndsTrigger (v.setTd x) := ⟨rfl, rfl, fun _ _ => rfl⟩
  unfold tdStop
  dsimp only
  split
  · exact ((hends _).trans (hset _ _)).trans endsTrigger_tdReport
  · exact (hset _ _).trans endsTrigger_tdReport

theorem tdStop_td : (tdStop s).td.state = .stopped ∧ (tdStop s).td.z = .stopped ∧ (tdStop s).td.n = .stopped ∧
    (tdStop s).td.e = .stopped := by
  unfold tdStop
  simp

/-- With no trigger running the stop of the detector leaves events and alerts alone. -/
theorem tdStop_of_inactive (h : s.td.active = false) : (tdStop s).cu = s.cu ∧ (tdStop s).uc = s.uc := by
  unfold tdStop
  simp [h]

/-! ## The other blocks (R19, R74, R88, R6) -/

theorem rmuSleep_rmu : (rmuSleep s).rmu = { s.rmu with
    state := .holdover, sleeping := true, good := 0, bad := 0, offsets := [], prev := none, expectation := none
    lossTimer := none, openMark := none } := by
  unfold rmuSleep
  simp only [distanceUnlocked_eq]
  split <;> rfl

theorem rmuSleep_tb : (rmuSleep s).tb = s.tb.unlocked := by
  unfold rmuSleep
  simp only [distanceUnlocked_eq]
  split <;> rfl

theorem rmuSleep_count (hc : c ≠ .missingMarks) : (rmuSleep s).count c = s.count c := by
  unfold rmuSleep
  simp only [distanceUnlocked_eq]
  split
  · show (bump .missingMarks (twDiscard .label s)).count c = _
    rw [count_bump, if_neg hc.symm]
    rfl
  · rfl

theorem tauStop_tau : (tauStop s).tau.probe = none ∧ (tauStop s).tau.steerTimer = none ∧ (tauStop s).tau.steerWaiting = false := by
  unfold tauStop
  refine ⟨?_, rfl, rfl⟩
  show (clearSamples (tauVoid s)).tau.probe = none
  rw [show (clearSamples (tauVoid s)).tau = (tauVoid s).tau by simp]
  exact tauVoid_probe

/-- The records keep their ages, and their samples go. -/
theorem tauStop_peers {r : PeerRecord} (h : r ∈ (tauStop s).peers) : r.sample = none ∧
    ∃ r' ∈ s.peers, r.heldAge = r'.heldAge := by
  have hvoid {r : PeerRecord} (h : r ∈ (tauVoid s).peers) : ∃ r' ∈ s.peers, r.heldAge = r'.heldAge := by
    unfold tauVoid at h
    split at h
    · exact ⟨r, h, rfl⟩
    · next p _ =>
      have hsame : (endExchange (bump .voidedExchanges (updPeer p.target (fun r => { r with ranging := p.prior }) s))).peers =
          (updPeer p.target (fun r => { r with ranging := p.prior }) s).peers := by simp
      rw [hsame] at h
      obtain ⟨r', hr', rfl⟩ := List.mem_map.1 h
      refine ⟨r', hr', ?_⟩
      split <;> rfl
  obtain ⟨r', hr', rfl⟩ := List.mem_map.1 (show r ∈ (tauVoid s).peers.map (fun r => { r with sample := none }) from h)
  obtain ⟨r'', hr'', hage⟩ := hvoid hr'
  exact ⟨rfl, r'', hr'', hage⟩

theorem tauStop_lc : (tauStop s).lc = { s.lc with
    slots := { s.lc.slots with probe := (tauStop s).lc.slots.probe }, tx := (tauStop s).lc.tx } := by
  have hvoid : (tauStop s).lc = (tauVoid s).lc := by simp [tauStop, clearSamples]
  rw [hvoid]
  unfold tauVoid
  split
  · rfl
  · rw [endExchange_lc]
    simp [forgetProbeInFlight]

theorem tauStop_count (hc : c ≠ .voidedExchanges) : (tauStop s).count c = s.count c := by
  unfold tauStop
  show (tauVoid s).count c = _
  exact tauVoid_count hc

/-- What the blocks do alike at the entry to DORMANT and to SHELTER, the station being awake no more. -/
structure State.Slept (s t : State) : Prop where
  mc : t.mc = { s.mc with
    users := { s.mc.users with entryWork := t.mc.users.entryWork }, evalDue := t.mc.evalDue, abandonDue := t.mc.abandonDue }
  tb : t.tb = { s.tb.unlocked with calTimer := none, calOpening := false, calWindow := none }
  td : t.td.state = .stopped ∧ t.td.z = .stopped ∧ t.td.n = .stopped ∧ t.td.e = .stopped
  si : t.si = { s.si with grid := .off, slot := none, bitCount := 0, buffer := [], faultRun := 0, goodRun := 0 }
  rmu : t.rmu = { s.rmu with
    state := .holdover, sleeping := true, good := 0, bad := 0, offsets := [], prev := none, expectation := none
    lossTimer := none, openMark := none }
  tau : t.tau.probe = none ∧ t.tau.steerTimer = none
  lc : t.lc = { s.lc with tx := t.lc.tx, slots := { s.lc.slots with
    notice := t.lc.slots.notice, declaration := t.lc.slots.declaration, probe := t.lc.slots.probe } }
  peers : ∀ r ∈ t.peers, r.sample = none ∧ ∃ r' ∈ s.peers, r.heldAge = r'.heldAge
  quiet : s.td.active = false → t.cu = s.cu ∧ t.uc = s.uc
  rest : t.pins = s.pins ∧ t.bm = s.bm ∧ t.hc = s.hc ∧ t.cs = s.cs
  count : ∀ c : Counter, c.byBlocks = false → t.count c = s.count c

theorem blocksSleep_slept (hawake : s.awake = false) : s.Slept (blocksSleep s) := by
  have htd := endsTrigger_tdStop (s := s)
  obtain ⟨v, hv⟩ : ∃ v, v = siStop (tauStop (rmuSleep (tdStop s))) := ⟨_, rfl⟩
  have hsleep : blocksSleep s = joinEntryWork (calModeChange v) := by rw [hv]; rfl
  have hvmc : v.mc = (tdStop s).mc := by simp [hv]
  have hvawake : v.awake = false := by
    unfold State.awake at hawake ⊢
    rw [hvmc, htd.mc]
    exact hawake
  have hvtb : v.tb = s.tb.unlocked := by
    rw [hv, show (siStop (tauStop (rmuSleep (tdStop s)))).tb = (rmuSleep (tdStop s)).tb by simp, rmuSleep_tb]
    simp
  have hvlc : v.lc = (tauStop (rmuSleep (tdStop s))).lc := by simp [hv]
  have hruns : v.calRuns = false := by simp [State.calRuns, hvawake]
  have hsame : (blocksSleep s).td = (tdStop s).td := by simp [blocksSleep]
  refine ⟨?_, ?_, ?_, ?_, ?_, ?_, ?_, ?_, fun hquiet => ?_, by simp, fun c hc => ?_⟩
  · rw [hsleep]
    show ({ (calModeChange v).mc with users := _ } : ModeCtl) = _
    rw [show (calModeChange v).mc = v.mc by simp, hvmc, htd.mc]
    simp [joinEntryWork, hvmc]
  · rw [hsleep, show (joinEntryWork (calModeChange v)).tb = (calModeChange v).tb by simp, calModeChange_eq]
    simp [State.recalibrated, hruns, hvtb]
  · rw [hsame]
    exact tdStop_td
  · simp [blocksSleep, siStop]
  · simp [blocksSleep, rmuSleep_rmu]
  · have htau : (blocksSleep s).tau = (tauStop (rmuSleep (tdStop s))).tau := by simp [blocksSleep]
    rw [htau]
    exact ⟨tauStop_tau.1, tauStop_tau.2.1⟩
  · have hlc : (blocksSleep s).lc = (tauStop (rmuSleep (tdStop s))).lc := by simp [blocksSleep]
    rw [hlc, tauStop_lc, show (rmuSleep (tdStop s)).lc = (tdStop s).lc by simp, htd.lc]
  · have hpeers : (blocksSleep s).peers = (tauStop (rmuSleep (tdStop s))).peers := by simp [blocksSleep]
    intro r hr
    rw [hpeers] at hr
    simpa using tauStop_peers hr
  · obtain ⟨hcu, huc⟩ := tdStop_of_inactive hquiet
    rw [← hcu, ← huc]
    simp [blocksSleep]
  · obtain ⟨-, hmissing, hvoided, -, hcal⟩ := not_byBlocks hc
    have hwork : (blocksSleep s).count c = (calModeChange v).count c := by rw [hsleep]; rfl
    rw [hwork, calModeChange_count hcal, hv]
    show (tauStop (rmuSleep (tdStop s))).count c = _
    rw [tauStop_count hvoided, rmuSleep_count hmissing, htd.count c hc]

/-! ## The uplink goes off (R155) -/

@[simp] theorem ucModeOff_besideEvents : (ucModeOff s).besideEvents = s.besideEvents := by
  unfold ucModeOff
  dsimp only
  (repeat' split) <;> simp [bump_besideEvents (c := .withdrawalsInTransfer) rfl]

/-! ## The heaters are forced off (R178) -/

/-- A heater forced off. -/
def Heater.forced (x : Heater) : Heater := { x with output := false, edge := none, deferral := 0, carried := none, level := .off }

theorem offForce_heater {h : HeaterId} : (offForce h s).heater h = (s.heater h).forced := by
  unfold offForce
  dsimp only
  split <;>
  · simp
    rfl

theorem offForce_heater_other {h k : HeaterId} (hk : k ≠ h) : (offForce h s).heater k = s.heater k := by
  unfold offForce
  dsimp only
  split <;> simp [hk]

end

end Sys2Proof.Machine

/-! PROOFS. The entry to SHELTER. -/
namespace Sys2Proof.Machine
set_option Elab.async false

section
variable {s t u : State} {c : Counter}

/-! ## Work on alerts moves the queue and the uplink states of the records only -/

/-- Two records of one key in one state. -/
def EventRec.same (r r' : EventRec) : Prop := r'.rid = r.rid ∧ r'.state = r.state

/-- Work on alerts leaves the modem, the trigger table and the states of the records. -/
structure State.MovesAlerts (s t : State) : Prop where
  modem : t.uc.modem = s.uc.modem
  transfer : t.uc.transfer = s.uc.transfer
  entries : t.cu.entries = s.cu.entries
  kept : ∀ r ∈ s.cu.events, ∃ r' ∈ t.cu.events, r.same r'
  only : ∀ r' ∈ t.cu.events, ∃ r ∈ s.cu.events, r.same r'

theorem State.MovesAlerts.of_cu (huc : t.uc.modem = s.uc.modem ∧ t.uc.transfer = s.uc.transfer := by exact ⟨rfl, rfl⟩)
    (hcu : t.cu = s.cu := by rfl) : s.MovesAlerts t where
  modem := huc.1
  transfer := huc.2
  entries := by rw [hcu]
  kept r hr := ⟨r, by rw [hcu]; exact hr, rfl, rfl⟩
  only r hr := ⟨r, by rw [hcu] at hr; exact hr, rfl, rfl⟩

theorem State.MovesAlerts.trans (h : s.MovesAlerts t) (g : t.MovesAlerts u) : s.MovesAlerts u where
  modem := g.modem.trans h.modem
  transfer := g.transfer.trans h.transfer
  entries := g.entries.trans h.entries
  kept r hr := by
    obtain ⟨r', hr', hid, hstate⟩ := h.kept r hr
    obtain ⟨r'', hr'', hid', hstate'⟩ := g.kept r' hr'
    exact ⟨r'', hr'', hid'.trans hid, hstate'.trans hstate⟩
  only r hr := by
    obtain ⟨r', hr', hid, hstate⟩ := g.only r hr
    obtain ⟨r'', hr'', hid', hstate'⟩ := h.only r' hr'
    exact ⟨r'', hr'', hid.trans hid', hstate.trans hstate'⟩

theorem movesAlerts_map {f : EventRec → EventRec} (hf : ∀ r : EventRec, r.same (f r)) (huc : t.uc = s.uc)
    (hentries : t.cu.entries = s.cu.entries) (hevents : ∀ r, r ∈ t.cu.events ↔ r ∈ s.cu.events.map f) : s.MovesAlerts t where
  modem := by rw [huc]
  transfer := by rw [huc]
  entries := hentries
  kept r hr := ⟨f r, (hevents _).2 (List.mem_map.2 ⟨r, hr, rfl⟩), hf r⟩
  only r hr := by
    obtain ⟨r', hr', rfl⟩ := List.mem_map.1 ((hevents r).1 hr)
    exact ⟨r', hr', hf r'⟩

theorem movesAlerts_ucSync : s.MovesAlerts (ucSync s) :=
  movesAlerts_map (f := fun r => { r with uplink := uplinkStateOf s.uc r }) (fun _ => ⟨rfl, rfl⟩) rfl rfl fun _ => Iff.rfl

theorem movesAlerts_updRec {k : Nat} {f : EventRec → EventRec} (hf : ∀ r : EventRec, r.same (f r) := by exact fun _ => ⟨rfl, rfl⟩) :
    s.MovesAlerts (updRec k f s) :=
  movesAlerts_map (f := fun r => if r.rid == k then f r else r) (fun r => by
    split
    · exact hf r
    · exact ⟨rfl, rfl⟩) rfl rfl fun _ => mem_sortBy _ _ _

theorem movesAlerts_setQueue {q : List Alert} : s.MovesAlerts (setQueue q s) := .of_cu

theorem movesAlerts_setStacked {q : List Stacked} : s.MovesAlerts (setStacked q s) := .of_cu

theorem movesAlerts_tell : s.MovesAlerts (alarmMode (tellMode s)) := .of_cu

theorem movesAlerts_bump : s.MovesAlerts (bump c s) := .of_cu

theorem movesAlerts_ucLeft {k : Option Nat} {how : UplinkState} : s.MovesAlerts (ucLeft k how s) := by
  unfold ucLeft
  split
  · exact .of_cu
  · exact movesAlerts_updRec

theorem movesAlerts_ucInsert {kind : AlertKind} {rid : Option Nat} {id : Option EventId} {update : Nat} :
    s.MovesAlerts (ucInsert kind rid id update s) :=
  movesAlerts_setQueue.trans (movesAlerts_ucSync.trans movesAlerts_tell)

theorem movesAlerts_ucStack {kind : AlertKind} {rid : Nat} {id : Option EventId} {update : Nat} :
    s.MovesAlerts (ucStack kind rid id update s) := by
  unfold ucStack
  dsimp only
  (repeat' split)
  · exact .of_cu
  · exact (movesAlerts_setStacked.trans movesAlerts_updRec).trans (movesAlerts_ucSync.trans movesAlerts_bump)
  · exact movesAlerts_setStacked.trans (movesAlerts_ucSync.trans movesAlerts_bump)

theorem movesAlerts_ucRaiseHealth : s.MovesAlerts (ucRaiseHealth s) := by
  unfold ucRaiseHealth ucPlaceHealth
  (repeat' split) <;> first | exact .of_cu | exact movesAlerts_ucInsert

theorem movesAlerts_ucHealthLeft {kind : AlertKind} : s.MovesAlerts (ucHealthLeft kind s) := by
  unfold ucHealthLeft
  split
  · exact (State.MovesAlerts.of_cu (t := s.setUc { s.uc with healthDue := false })).trans movesAlerts_ucRaiseHealth
  · exact .of_cu

theorem movesAlerts_ucRaiseRetract {rid : Nat} {id : Option EventId} : s.MovesAlerts (ucRaiseRetract rid id s) := by
  unfold ucRaiseRetract ucPlace
  (repeat' split)
  · exact .of_cu
  · exact movesAlerts_ucInsert
  · exact ((State.MovesAlerts.of_cu (t := ucEvictHealth s)).trans movesAlerts_ucInsert).trans movesAlerts_ucHealthLeft
  · exact movesAlerts_ucStack

theorem movesAlerts_ucPromoteOne : s.MovesAlerts (ucPromoteOne s) := by
  unfold ucPromoteOne
  split
  · split
    · exact .of_cu
    · dsimp only
      split
      · next x _ _ _ _ _ _ =>
        refine (movesAlerts_setStacked (q := s.uc.stacked.erase x)).trans (State.MovesAlerts.trans ?_ movesAlerts_ucInsert)
        exact movesAlerts_updRec
      · exact movesAlerts_setStacked.trans movesAlerts_ucInsert
  · exact .of_cu

theorem movesAlerts_ucPromote : s.MovesAlerts (ucPromote s) := by
  unfold ucPromote
  generalize List.range 8 = xs
  induction xs generalizing s with
  | nil => exact .of_cu
  | cons x xs ih => exact movesAlerts_ucPromoteOne.trans ih

theorem movesAlerts_ucReportEmpty : t.MovesAlerts (ucReportEmpty s t) := by
  unfold ucReportEmpty
  split <;> exact .of_cu

theorem movesAlerts_ucLeave {a : Alert} {how : UplinkState} : s.MovesAlerts (ucLeave a how s) :=
  movesAlerts_setQueue.trans (movesAlerts_ucLeft.trans (movesAlerts_ucSync.trans
    (movesAlerts_ucReportEmpty.trans (movesAlerts_ucPromote.trans movesAlerts_ucHealthLeft))))

theorem movesAlerts_leaveWithdrawn {a : Alert} : s.MovesAlerts (leaveWithdrawn a s) := by
  unfold leaveWithdrawn ucRetractWithdrawn
  dsimp only
  (repeat' split)
  · exact movesAlerts_ucLeave
  · exact movesAlerts_ucLeave.trans movesAlerts_ucRaiseRetract
  · exact movesAlerts_ucLeave
  · exact movesAlerts_ucLeave

theorem movesAlerts_returnAlert {a : Alert} : s.MovesAlerts (returnAlert a s) := by
  have hput (b : Alert) : s.MovesAlerts (putAlert a b s) :=
    movesAlerts_setQueue.trans movesAlerts_ucSync
  have hformer (v : State) : v.MovesAlerts (retractFormer a v) := by
    unfold retractFormer
    (repeat' split)
    · exact State.MovesAlerts.trans movesAlerts_updRec movesAlerts_ucRaiseRetract
    · exact .of_cu
    · exact .of_cu
  exact (hput _).trans (hformer _)

/-- The uplink with its modem off and no transfer (R155). -/
def State.modemOff (s : State) : State := s.setUc { s.uc with modem := .off, modemTimer := none, transfer := none }

theorem ucModeOff_of_none (h : s.uc.inTransfer = none) : ucModeOff s = s.modemOff := by
  unfold ucModeOff
  simp only [h]
  rfl

theorem movesAlerts_ucModeOff : s.modemOff.MovesAlerts (ucModeOff s) := by
  unfold ucModeOff
  dsimp only
  (repeat' split)
  · exact .of_cu
  · exact movesAlerts_bump.trans movesAlerts_leaveWithdrawn
  · exact movesAlerts_leaveWithdrawn
  · exact movesAlerts_returnAlert

/-! ## The records at the entry (R139) -/

theorem cuShelter_cu : (cuShelter s).cu = { s.cu with
    entries := []
    events := (s.cu.events.filter (fun r => r.state != .holdoff)).map (fun r => if r.state.live then r.close s.now else r) } := by
  obtain ⟨v, hv⟩ : ∃ v, v = cuClear s := ⟨_, rfl⟩
  have hvcu : v.cu = { s.cu with entries := [] } := by rw [hv]; rfl
  have hfilter : (if v.cu.events.any (fun r => r.state == .holdoff) then
      cuReport (v.setCu { v.cu with events := v.cu.events.filter (fun r => r.state != .holdoff) }) else v).cu =
      { v.cu with events := v.cu.events.filter (fun r => r.state != .holdoff) } := by
    split
    · rfl
    · next hnone =>
      rw [List.filter_eq_self.2]
      intro r hr
      simp only [bne_iff_ne, ne_eq]
      exact fun h => hnone (List.any_eq_true.2 ⟨r, hr, by simp [h]⟩)
  have hnow : (if v.cu.events.any (fun r => r.state == .holdoff) then
      cuReport (v.setCu { v.cu with events := v.cu.events.filter (fun r => r.state != .holdoff) }) else v).now = s.now := by
    rw [hv]
    split <;> rfl
  have hcu : (cuShelter s).cu = (closeWhere (fun r => r.state.live) (if v.cu.events.any (fun r => r.state == .holdoff) then
      cuReport (v.setCu { v.cu with events := v.cu.events.filter (fun r => r.state != .holdoff) }) else v)).cu := by
    rw [hv]
    rfl
  rw [hcu, closeWhere_cu, hfilter, hnow, hvcu]

theorem cuShelter_mc : (cuShelter s).mc = { s.mc with
    evalDue := (cuShelter s).mc.evalDue, abandonDue := (cuShelter s).mc.abandonDue } := by
  unfold cuShelter closeWhere cuClear cuReport
  dsimp only
  (repeat' split) <;> rfl

/-- Behind the entry every record is CLOSED or MERGED. -/
theorem cuShelter_closed {r : EventRec} (h : r ∈ (cuShelter s).cu.events) : r.state = .closed ∨ r.state = .merged := by
  rw [cuShelter_cu] at h
  obtain ⟨r', hr', rfl⟩ := List.mem_map.1 h
  have hstate : r'.state ≠ .holdoff := by simpa using (List.mem_filter.1 hr').2
  cases hs : r'.state <;> simp_all [RecState.live, EventRec.close]

theorem cuShelter_kept {r : EventRec} (h : r ∈ s.cu.events) (hstate : r.state ≠ .holdoff) :
    ∃ r' ∈ (cuShelter s).cu.events, r'.rid = r.rid ∧ r'.state = if r.state = .merged then .merged else .closed := by
  rw [cuShelter_cu]
  refine ⟨_, List.mem_map.2 ⟨r, List.mem_filter.2 ⟨h, by simpa using hstate⟩, rfl⟩, ?_, ?_⟩
  · split <;> rfl
  · cases hs : r.state <;> simp_all [RecState.live, EventRec.close]

/-! ## The entry up to the final beacon (R194) -/

/-- The Mode Controller's part of the entry. -/
def shelterBegun (s : State) : State :=
  let u := bump .shelterEntries (setStanding .finalBeacon (ptResume s))
  let u := if s.dormant then runSlow u else u
  u.setMc { u.mc with wakeHold := none, capture := none }

/-- The blocks' part of it: what stops, up to the uplink. -/
def shelterStopped (s : State) : State :=
  let u := cuShelter (blocksSleep (shelterBegun s))
  ucModeOff (csDropHeld (u.setLc { u.lc with rx := .off, beaconTimer := none }))

/-- The entry up to the final beacon. -/
def shelterSlept (s : State) : State := pollModeChange (forceByAllowance (shelterStopped s))

/-- The final beacon is requested. -/
def finalAsked (fromDormant : Bool) (s : State) : State :=
  let u := s.setSlots { s.lc.slots with beacon := some { moment := s.now, mark := .final } }
  u.setMc { u.mc with
    finalLimit := u.startTimer (secs 10), users := { u.mc.users with beacon := none, final := fromDormant } }

theorem shelterEntry_eq : shelterEntry s =
    if (shelterSlept s).listenOnly then becomeSheltered (shelterSlept s) else finalAsked s.dormant (shelterSlept s) := by
  unfold shelterEntry
  extract_lets fromDormant a b c m d e l v f
  have hd : shelterBegun s = d := rfl
  have hf : f = shelterSlept s := by
    show _ = pollModeChange (forceByAllowance (shelterStopped s))
    unfold shelterStopped
    rw [hd]
  clear_value f
  generalize shelterSlept s = w at hf ⊢
  subst hf
  rfl

theorem runSlow_tb : (runSlow s).tb = if s.tb.source = .slow then s.tb else { s.tb with slowAsked := true } := by
  unfold runSlow
  split <;> simp_all

theorem shelterBegun_facts :
    (shelterBegun s).mc = { s.mc with standing := .finalBeacon, wakeHold := none, capture := none } ∧
    (shelterBegun s).tb = (if s.dormant then (runSlow s).tb else s.tb) ∧ (shelterBegun s).peers = (ptResume s).peers ∧
    (shelterBegun s).td = s.td ∧ (shelterBegun s).si = s.si ∧ (shelterBegun s).rmu = s.rmu ∧ (shelterBegun s).lc = s.lc ∧
    (shelterBegun s).cu = s.cu ∧ (shelterBegun s).uc = s.uc ∧ (shelterBegun s).bm = s.bm ∧ (shelterBegun s).hc = s.hc ∧
    (shelterBegun s).cs = s.cs ∧ (shelterBegun s).pins = s.pins := by
  unfold shelterBegun
  cases s.dormant
  · simp [setStanding]
  · simp [setStanding, runSlow_tb]

theorem shelterBegun_count : (shelterBegun s).count c =
    if c = .shelterEntries then min (s.count .shelterEntries + 1) 65535 else s.count c := by
  have hbump : (shelterBegun s).count c = (bump .shelterEntries (setStanding .finalBeacon (ptResume s))).count c := by
    unfold shelterBegun
    cases s.dormant
    · rfl
    · exact count_of_counters_eq (by simp)
  rw [hbump, count_bump]
  by_cases h : c = .shelterEntries
  · subst h; rfl
  · rw [if_neg (Ne.symm h), if_neg h]; rfl

/-- What stops at the entry to SHELTER. -/
structure State.Stops (s t : State) : Prop where
  mc : t.mc = { s.mc with
    standing := .finalBeacon, wakeHold := none, capture := none
    users := { s.mc.users with entryWork := t.mc.users.entryWork }, evalDue := t.mc.evalDue, abandonDue := t.mc.abandonDue }
  tb : t.tb = { (if s.dormant then (runSlow s).tb else s.tb).unlocked with calTimer := none, calOpening := false, calWindow := none }
  td : t.td.state = .stopped ∧ t.td.z = .stopped ∧ t.td.n = .stopped ∧ t.td.e = .stopped
  si : t.si = { s.si with grid := .off, slot := none, bitCount := 0, buffer := [], faultRun := 0, goodRun := 0 }
  rmu : t.rmu = { s.rmu with
    state := .holdover, sleeping := true, good := 0, bad := 0, offsets := [], prev := none, expectation := none
    lossTimer := none, openMark := none }
  tau : t.tau.probe = none ∧ t.tau.steerTimer = none
  lc : t.lc.rx = .off ∧ t.lc.beaconTimer = none ∧ t.lc.slots.report = s.lc.slots.report
  peers : ∀ r ∈ t.peers, r.sample = none ∧ r.heldAge = none
  entries : t.cu.entries = []
  closed : ∀ r ∈ t.cu.events, r.state = .closed ∨ r.state = .merged
  kept : s.td.active = false → ∀ r ∈ s.cu.events, r.state ≠ .holdoff →
    ∃ r' ∈ t.cu.events, r'.rid = r.rid ∧ r'.state = if r.state = .merged then .merged else .closed
  uc : t.uc.modem = .off ∧ t.uc.transfer = none
  queue : s.td.active = false → s.uc.inTransfer = none → t.uc.queue = s.uc.queue ∧ t.uc.stacked = s.uc.stacked
  rest : t.pins = s.pins ∧ t.bm = s.bm ∧ t.hc = s.hc ∧ t.cs = (csDropHeld s).cs
  count : ∀ c : Counter, c.byBlocks = false → t.count c = (shelterBegun s).count c

theorem ptResume_heldAge {r : PeerRecord} (h : r ∈ (ptResume s).peers) : r.heldAge = none := by
  obtain ⟨r', -, rfl⟩ := List.mem_map.1 h
  cases hage : r'.heldAge <;> simp [hage]

theorem csDropHeld_cs_congr (h : t.cs = s.cs) : (csDropHeld t).cs = (csDropHeld s).cs := by
  unfold csDropHeld
  rw [h]
  split <;> simp [h]

theorem shelterStopped_stops : s.Stops (shelterStopped s) := by
  obtain ⟨hmc, htb, hpeers, htd, hsi, hrmu, hlc, hcu, huc, hbm, hhc, hcs, hpins⟩ := shelterBegun_facts (s := s)
  have hawake : (shelterBegun s).awake = false := by unfold State.awake; rw [hmc]; rfl
  have hslept := blocksSleep_slept hawake
  obtain ⟨u, hu⟩ : ∃ u, u = (cuShelter (blocksSleep (shelterBegun s))).setLc
      { (cuShelter (blocksSleep (shelterBegun s))).lc with rx := .off, beaconTimer := none } := ⟨_, rfl⟩
  have hstopped : shelterStopped s = ucModeOff (csDropHeld u) := by rw [hu]; rfl
  have hlcu : u.lc = { (blocksSleep (shelterBegun s)).lc with rx := .off, beaconTimer := none } := by simp [hu]
  have hcuu : u.cu = (cuShelter (blocksSleep (shelterBegun s))).cu := by rw [hu]; rfl
  have hbeside : (shelterStopped s).besideEvents = (csDropHeld u).besideEvents := by rw [hstopped]; simp
  have hmoves : (csDropHeld u).modemOff.MovesAlerts (shelterStopped s) := by rw [hstopped]; exact movesAlerts_ucModeOff
  have hoffcu : (csDropHeld u).modemOff.cu = (cuShelter (blocksSleep (shelterBegun s))).cu := by
    simp [State.modemOff, hcuu]
  obtain ⟨-, hpinso, htbo, hrmuo, hpeerso, htauo, hsio, hbmo, hhco, -, hcso, -⟩ := rest_of_besideEvents hbeside
  refine ⟨?_, ?_, ?_, ?_, ?_, ?_, ?_, fun r hr => ?_, ?_, fun r hr => ?_, fun hquiet r hr hstate => ?_, ?_, fun hquiet hnone => ?_,
    ⟨?_, ?_, ?_, ?_⟩, fun c hc => ?_⟩
  · have hcalls : (csDropHeld u).mc = (cuShelter (blocksSleep (shelterBegun s))).mc := by simp [hu]
    rw [mc_of_besideEvents hbeside, hcalls, cuShelter_mc, hslept.mc, hmc]
  · rw [htbo, show (csDropHeld u).tb = u.tb by simp, show u.tb = (blocksSleep (shelterBegun s)).tb by simp [hu], hslept.tb, htb]
  · have htdo := td_of_besideEvents hbeside
    have htdu : (csDropHeld u).td = (blocksSleep (shelterBegun s)).td := by simp [hu]
    rw [htdo, htdu]
    exact hslept.td
  · rw [hsio, show (csDropHeld u).si = (blocksSleep (shelterBegun s)).si by simp [hu], hslept.si, hsi]
  · rw [hrmuo, show (csDropHeld u).rmu = (blocksSleep (shelterBegun s)).rmu by simp [hu], hslept.rmu, hrmu]
  · rw [htauo, show (csDropHeld u).tau = (blocksSleep (shelterBegun s)).tau by simp [hu]]
    exact hslept.tau
  · rw [lc_of_besideEvents hbeside, show (csDropHeld u).lc = u.lc by simp, hlcu, hslept.lc, hlc]
    exact ⟨rfl, rfl, rfl⟩
  · rw [hpeerso, show (csDropHeld u).peers = (blocksSleep (shelterBegun s)).peers by simp [hu]] at hr
    obtain ⟨hsample, r', hr', hage⟩ := hslept.peers r hr
    rw [hpeers] at hr'
    exact ⟨hsample, hage.trans (ptResume_heldAge hr')⟩
  · rw [hmoves.entries, hoffcu, cuShelter_cu]
  · obtain ⟨r', hr', -, hstate⟩ := hmoves.only r hr
    rw [hoffcu] at hr'
    rw [hstate]
    exact cuShelter_closed hr'
  · obtain ⟨hquietcu, -⟩ := hslept.quiet (by rw [htd]; exact hquiet)
    obtain ⟨r', hr', hid', hstate'⟩ :=
      cuShelter_kept (s := blocksSleep (shelterBegun s)) (r := r) (by rw [hquietcu, hcu]; exact hr) hstate
    obtain ⟨r'', hr'', hid'', hstate''⟩ := hmoves.kept r' (by rw [hoffcu]; exact hr')
    exact ⟨r'', hr'', hid''.trans hid', hstate''.trans hstate'⟩
  · exact ⟨hmoves.modem, hmoves.transfer⟩
  · obtain ⟨-, hquietuc⟩ := hslept.quiet (by rw [htd]; exact hquiet)
    have huu : (csDropHeld u).uc = s.uc := by
      rw [show (csDropHeld u).uc = (blocksSleep (shelterBegun s)).uc by simp [hu], hquietuc, huc]
    rw [hstopped, ucModeOff_of_none (by rw [huu]; exact hnone)]
    show (csDropHeld u).uc.queue = _ ∧ (csDropHeld u).uc.stacked = _
    rw [huu]
    exact ⟨rfl, rfl⟩
  · rw [hpinso]
    simp [hu, hpins]
  · rw [hbmo]
    simp [hu, hbm]
  · rw [hhco]
    simp [hu, hhc]
  · rw [hcso]
    exact csDropHeld_cs_congr (by simp [hu, hcs])
  · rw [count_of_besideEvents hbeside (not_byBlocks hc).1, count_of_counters_eq (s := blocksSleep (shelterBegun s)) (by simp [hu]),
      hslept.count c hc]

end

end Sys2Proof.Machine

/-! PROOFS. The entry to SHELTER by a good poll. -/
namespace Sys2Proof.Machine
set_option Elab.async false

section
variable {s t u : State} {c : Counter} {x : Reading}

/-! ## A good poll of a LOW or a CRITICAL battery (R160, R167) -/

/-- What a good poll moves beside the battery. -/
structure State.Polled (s t : State) : Prop where
  mc : t.mc = { s.mc with evalDue := t.mc.evalDue, users := { s.mc.users with poll := t.mc.users.poll } }
  td : s.td.Blanks t.td
  cu : t.cu = s.cu
  uc : t.uc = { s.uc with healthTimer := t.uc.healthTimer }
  onTime : ∀ h, (t.heater h).onTime = (s.heater h).onTime
  count : ∀ c : Counter, c.byPoll = false → c.ofHeater = false → c ≠ .fullAnchors → c ≠ .emptyAnchors → t.count c = s.count c

theorem offForce_onTime {h k : HeaterId} : ((offForce h s).heater k).onTime = (s.heater k).onTime := by
  by_cases hk : k = h
  · subst hk
    rw [offForce_heater]
    rfl
  · rw [offForce_heater_other hk]

theorem forceByAllowance_onTime {k : HeaterId} : ((forceByAllowance s).heater k).onTime = (s.heater k).onTime := by
  unfold forceByAllowance
  dsimp only
  (repeat' split) <;> simp only [offForce_onTime]

theorem overtempTest_onTime {h k : HeaterId} {n : Int} : ((overtempTest h n s).heater k).onTime = (s.heater k).onTime := by
  by_cases hk : k = h
  · subst hk
    by_cases hreading : s.setpoint k + 10 ≤ n
    · cases hover : (s.heater k).heatingOver with
      | true => rw [overtempTest_of_over (.inr hover)]
      | false => exact (overtempTest_facts hreading hover).2.2.1
    · rw [overtempTest_of_over (.inl (by omega))]
  · have hview := worksOn_overtempTest (s := s) (h := h) (reading := n)
    obtain ⟨-, hother⟩ := hview
    exact congrArg Heater.onTime (congrArg HeaterView.heater (hother k hk))

theorem classChanged_onTime {k : HeaterId} : ((classChanged s).heater k).onTime = (s.heater k).onTime := by
  have hhc (v : State) : (ucHealth v).heater k = v.heater k := by cases k <;> simp [State.heater]
  unfold classChanged
  dsimp only
  split
  · exact forceByAllowance_onTime
  · rw [hhc]
    exact forceByAllowance_onTime

theorem setClass_onTime {d : BatClass} {k : HeaterId} : ((setClass d s).heater k).onTime = (s.heater k).onTime := by
  unfold setClass
  split
  · rfl
  · exact classChanged_onTime

/-- The class becomes LOW or CRITICAL or stands so. -/
theorem setClass_poor {d : BatClass} (hd : d = .low ∨ d = .critical) :
    (s.setBm { s.bm with cls := d }).PolledTo (setClass d s) := by
  unfold setClass
  split
  · next h => exact ⟨rfl, .refl, rfl, rfl, .inl (by simpa using h), fun _ _ => rfl⟩
  · exact polledTo_classChanged hd

theorem goodPoll_polled (hcls : (goodPoll x s).bm.cls = .low ∨ (goodPoll x s).bm.cls = .critical) :
    s.Polled (goodPoll x s) := by
  have hpolled : s.polledClass x = .low ∨ s.polledClass x = .critical := by rwa [goodPoll_bm] at hcls
  obtain ⟨-, -, -, -, hmc, hhc, htd, -, hcu, huc, hcount⟩ := anchored_moves (s := s) (r := x)
  have hclass := setClass_poor (s := socTaken x s) hpolled
  obtain ⟨u, hu⟩ : ∃ u, u = (classTaken x s).setBm { (classTaken x s).bm with
    chargeEn := chargeNext (classTaken x s).bm.chargeEn s.cs.image.tCmin s.cs.image.tCmax x.t } := ⟨_, rfl⟩
  have hgood : goodPoll x s = overtempTest .b x.t u := by rw [hu]; exact goodPoll_eq
  have humc : u.mc = (classTaken x s).mc := by rw [hu]; rfl
  have hsmc : (socTaken x s).mc = s.mc := hmc
  have hstd : (socTaken x s).td = s.td := htd
  refine ⟨?_, ?_, ?_, ?_, fun h => ?_, fun c hpoll hheater hfull hempty => ?_⟩
  · have hpmc : (classTaken x s).mc = { s.mc with
        evalDue := (classTaken x s).mc.evalDue, users := { s.mc.users with poll := (classTaken x s).mc.users.poll } } := by
      rw [← hsmc]
      exact hclass.mc
    rw [hgood, show (overtempTest .b x.t u).mc = u.mc by simp, humc]
    exact hpmc
  · rw [hgood, ← hstd]
    refine Trigger.Blanks.trans ?_ (worksOn_overtempTest (h := .b)).1
    rw [hu]
    exact hclass.td
  · rw [hgood, show (overtempTest .b x.t u).cu = u.cu by simp, hu]
    exact hclass.cu.trans hcu
  · have huuc : (overtempTest .b x.t u).uc = (classTaken x s).uc := by simp [hu]
    have hsuc : (socTaken x s).uc = s.uc := huc
    rw [hgood, huuc, ← hsuc]
    exact hclass.uc
  · rw [hgood, overtempTest_onTime, hu]
    show ((setClass _ (socTaken x s)).heater h).onTime = _
    rw [setClass_onTime]
    have hshc : (socTaken x s).hc = s.hc := hhc
    cases h <;> simp [State.heater, hshc]
  · rw [hgood, overtempTest_count_other hheater, hu]
    exact (hclass.count c hpoll).trans (hcount c hfull hempty)

/-! ## The end of the entry -/

/-- A heater forced off, where it is the heater concerned or not. -/
theorem offForce_both {h : HeaterId} : ((offForce .s (offForce .b s)).heater h) = (s.heater h).forced := by
  cases h
  · rw [offForce_heater_other (by decide), offForce_heater]
  · rw [offForce_heater, offForce_heater_other (by decide)]

/-- In SHELTER both heaters are forced off (R173, R178). -/
theorem forceByAllowance_of_shelter (h : s.mc.standing.mode = some .shelter) :
    forceByAllowance s = offForce .s (offForce .b s) := by
  have hoff (v : State) (hv : v.mc.standing.mode = some .shelter) (k : HeaterId) : (v.allowance k == .off) = true := by
    unfold State.allowance
    rw [hv]
    cases k <;> cases v.bm.cls <;> rfl
  unfold forceByAllowance
  simp only [hoff s h .b, if_true]
  rw [if_pos (hoff _ (by simpa using h) .s)]

/-- The poll timer goes on from the last poll with a period of `n` seconds (R158). -/
def Battery.timed (b : Battery) (e : Elapsed) (n : Nat) : Battery :=
  { b with pollTimer := some { start := b.lastPoll.getD e, period := secs n } }

/-- A change of mode within the new period of the last poll makes no poll (R158). -/
theorem pollModeChange_of_soon {n : Nat} (hperiod : s.pollPeriod = some (secs n))
    (hpoll : ∀ m, s.bm.lastPoll = some m → since s.now m < secs n) : pollModeChange s = s.setBm (s.bm.timed s.now n) := by
  unfold pollModeChange
  rw [hperiod]
  cases hlast : s.bm.lastPoll with
  | none => simp [Battery.timed, hlast, State.startTimer]
  | some m =>
    dsimp only
    rw [if_neg (by have := hpoll m hlast; omega)]
    simp [Battery.timed, hlast]

theorem shelterStopped_now : (shelterStopped s).now = s.now := by
  have htb := (shelterStopped_stops (s := s)).tb
  have helapsed : (if s.dormant then (runSlow s).tb else s.tb).elapsed = s.tb.elapsed := by
    rw [runSlow_tb]
    (repeat' split) <;> rfl
  exact (congrArg Timebase.elapsed htb).trans helapsed

theorem shelterSlept_eq (hpoll : ∀ m, s.bm.lastPoll = some m → since s.now m < secs 600) :
    shelterSlept s = (offForce .s (offForce .b (shelterStopped s))).setBm (s.bm.timed s.now 600) := by
  obtain ⟨-, hbm, -⟩ := (shelterStopped_stops (s := s)).rest
  have hmode : (shelterStopped s).mc.standing.mode = some .shelter := by rw [(shelterStopped_stops (s := s)).mc]; rfl
  obtain ⟨v, hv⟩ : ∃ v, v = offForce .s (offForce .b (shelterStopped s)) := ⟨_, rfl⟩
  have hvmode : v.mc.standing.mode = some .shelter := by rw [hv]; simpa using hmode
  have hvbm : v.bm = s.bm := by rw [hv]; simpa using hbm
  have hvnow : v.now = s.now := by
    rw [← shelterStopped_now (s := s), hv]
    simp [State.now]
  have hvperiod : v.pollPeriod = some (secs 600) := by
    unfold State.pollPeriod
    rw [hvmode]
  unfold shelterSlept
  rw [forceByAllowance_of_shelter hmode, ← hv, pollModeChange_of_soon hvperiod (by rw [hvbm, hvnow]; exact hpoll), hvbm, hvnow]

/-- What the entry moves behind its blocks: the heaters and the poll timer. -/
structure State.SlowsDown (s t : State) : Prop where
  mc : t.mc = s.mc
  tb : t.tb = s.tb
  td : s.td.Blanks t.td
  lc : t.lc = s.lc
  alerts : t.cu = s.cu ∧ t.uc = s.uc
  blocks : t.si = s.si ∧ t.rmu = s.rmu ∧ t.tau = s.tau ∧ t.peers = s.peers ∧ t.cs = s.cs ∧ t.pins = s.pins
  heater : ∀ h, t.heater h = (s.heater h).forced
  count : ∀ c : Counter, c.ofHeater = false → t.count c = s.count c

theorem slowsDown {b : Battery} : s.SlowsDown ((offForce .s (offForce .b s)).setBm b) where
  mc := by simp
  tb := by simp
  td := polledTo_offForce.td.trans polledTo_offForce.td
  lc := by simp
  alerts := by simp
  blocks := by simp
  heater h := offForce_both
  count c hc := by
    show (offForce .s (offForce .b s)).count c = _
    rw [offForce_count_other hc, offForce_count_other hc]

theorem shelterSlept_slowsDown (hpoll : ∀ m, s.bm.lastPoll = some m → since s.now m < secs 600) :
    (shelterStopped s).SlowsDown (shelterSlept s) ∧ (shelterSlept s).bm = s.bm.timed s.now 600 := by
  rw [shelterSlept_eq hpoll]
  exact ⟨slowsDown, rfl⟩

/-! ## The station is SHELTERED, or awaits its final beacon (R194) -/

theorem becomeSheltered_facts (hreport : s.lc.slots.report = none) :
    (becomeSheltered s).mc = { s.mc with
      standing := .sheltered, finalLimit := none, users := { s.mc.users with beacon := none, final := false }, evalDue := true } ∧
    (becomeSheltered s).lc = { s.lc with slots := .empty, rx := .off, beaconTimer := none } ∧
    (becomeSheltered s).tb = (runSlow s).tb ∧ (becomeSheltered s).cu = s.cu ∧ (becomeSheltered s).uc = s.uc ∧
    (becomeSheltered s).td = s.td ∧ (becomeSheltered s).si = s.si ∧ (becomeSheltered s).rmu = s.rmu ∧
    (becomeSheltered s).tau = s.tau ∧ (becomeSheltered s).peers = s.peers ∧ (becomeSheltered s).bm = s.bm ∧
    (becomeSheltered s).hc = s.hc ∧ (becomeSheltered s).cs = s.cs ∧ (becomeSheltered s).pins = s.pins ∧
    (becomeSheltered s).counters = s.counters := by
  obtain ⟨v, hv⟩ : ∃ v, v = ((setStanding .sheltered s).setLc { s.lc with slots := .empty, rx := .off, beaconTimer := none }).setMc
      { s.mc with standing := .sheltered, finalLimit := none, users := { s.mc.users with beacon := none, final := false } } := ⟨_, rfl⟩
  have hsheltered : becomeSheltered s = tellMode (runSlow v) := by
    unfold becomeSheltered
    rw [hreport, hv]
    rfl
  have htb : (tellMode (runSlow v)).tb = (runSlow s).tb := by
    show (runSlow v).tb = _
    rw [runSlow_tb, runSlow_tb, hv]
    rfl
  rw [hsheltered]
  refine ⟨?_, by simp [tellMode, hv], htb, ?_⟩
  · show { (runSlow v).mc with evalDue := true } = _
    rw [show (runSlow v).mc = v.mc by simp, hv]
    rfl
  · simp [tellMode, hv, setStanding]

/-- The counters that the entry to SHELTER can raise beside its own. -/
def Counter.bySleep (c : Counter) : Bool := c.byBlocks || c.ofHeater

theorem not_bySleep (hc : c.bySleep = false) : c.byBlocks = false ∧ c.ofHeater = false := by
  simpa [Counter.bySleep] using hc

/-- What the entry to SHELTER stops, clears and closes. -/
structure State.Winds (s t : State) : Prop where
  td : t.td.state = .stopped ∧ t.td.z = .stopped ∧ t.td.n = .stopped ∧ t.td.e = .stopped
  si : t.si = { s.si with grid := .off, slot := none, bitCount := 0, buffer := [], faultRun := 0, goodRun := 0 }
  rmu : t.rmu.state = .holdover ∧ t.rmu.sleeping = true ∧ t.rmu.offsets = [] ∧ t.rmu.openMark = none
  tau : t.tau.probe = none ∧ t.tau.steerTimer = none
  lc : t.lc.rx = .off ∧ t.lc.beaconTimer = none
  tb : t.tb.time = s.tb.time ∧ t.tb.elapsed = s.tb.elapsed ∧ t.tb.distance = (if s.tb.distance = 0 then 1 else s.tb.distance) ∧
    t.tb.calWindow = none ∧ t.tb.calTimer = none
  peers : ∀ r ∈ t.peers, r.heldAge = none ∧ r.sample = none
  entries : t.cu.entries = []
  closed : ∀ r ∈ t.cu.events, r.state = .closed ∨ r.state = .merged
  kept : s.td.active = false → ∀ r ∈ s.cu.events, r.state ≠ .holdoff →
    ∃ r' ∈ t.cu.events, r'.rid = r.rid ∧ r'.state = if r.state = .merged then .merged else .closed
  uc : t.uc.modem = .off ∧ t.uc.transfer = none
  queue : s.td.active = false → s.uc.inTransfer = none → t.uc.queue = s.uc.queue ∧ t.uc.stacked = s.uc.stacked
  heater : ∀ h, t.heater h = (s.heater h).forced
  bm : t.bm = s.bm.timed s.now 600
  pins : t.pins = s.pins
  pending : t.cs.pending = (csDropHeld s).cs.pending
  count : ∀ c : Counter, c.bySleep = false → c ≠ .shelterEntries → c ≠ .musterBeacons → c ≠ .busRecoveries →
    t.count c = s.count c
  entered : t.count .shelterEntries = min (s.count .shelterEntries + 1) 65535

/-- Two states that differ where the entry's end moves them only. -/
structure State.alikeAsleep (s t : State) : Prop where
  blocks : t.td = s.td ∧ t.si = s.si ∧ t.rmu = s.rmu ∧ t.tau = s.tau ∧ t.peers = s.peers ∧ t.cu = s.cu ∧ t.uc = s.uc ∧
    t.bm = s.bm ∧ t.hc = s.hc ∧ t.pins = s.pins ∧ t.cs = s.cs
  lc : t.lc.rx = s.lc.rx ∧ t.lc.beaconTimer = s.lc.beaconTimer
  tb : t.tb = { s.tb with slowAsked := t.tb.slowAsked }
  count : ∀ c : Counter, c ≠ .musterBeacons → c ≠ .busRecoveries → t.count c = s.count c

theorem State.Winds.trans (h : s.Winds t) (g : t.alikeAsleep u) : s.Winds u := by
  obtain ⟨htd, hsi, hrmu, htau, hpeers, hcu, huc, hbm, hhc, hpins, hcs⟩ := g.blocks
  have hheater (k : HeaterId) : u.heater k = t.heater k := by cases k <;> simp [State.heater, hhc]
  exact
    { td := by rw [htd]; exact h.td
      si := by rw [hsi]; exact h.si
      rmu := by rw [hrmu]; exact h.rmu
      tau := by rw [htau]; exact h.tau
      lc := by rw [g.lc.1, g.lc.2]; exact h.lc
      tb := by rw [g.tb]; exact h.tb
      peers := by rw [hpeers]; exact h.peers
      entries := by rw [hcu]; exact h.entries
      closed := by rw [hcu]; exact h.closed
      kept := by rw [hcu]; exact h.kept
      uc := by rw [huc]; exact h.uc
      queue := by rw [huc]; exact h.queue
      heater := fun k => (hheater k).trans (h.heater k)
      bm := hbm.trans h.bm
      pins := hpins.trans h.pins
      pending := by rw [hcs]; exact h.pending
      count := fun c hc hentries hmuster hbus => (g.count c hmuster hbus).trans (h.count c hc hentries hmuster hbus)
      entered := (g.count _ (by decide) (by decide)).trans h.entered }

/-- What the entry to SHELTER does, the final beacon asked for or dropped at once. -/
structure State.Shelters (s t : State) : Prop where
  winds : s.Winds t
  hold : t.mc.wakeHold = none ∧ t.mc.capture = none
  asked : s.listenOnly = false → t.mc.standing = .finalBeacon ∧
    t.lc.slots.beacon = some { moment := s.now, mark := .final } ∧
    t.mc.finalLimit = some { start := s.now, period := secs 10 } ∧
    t.mc.users.beacon = none ∧ t.mc.users.final = s.dormant ∧ t.tb.source = s.tb.source ∧
    t.tb.slowAsked = if s.dormant = true ∧ s.tb.source ≠ .slow then true else s.tb.slowAsked
  dropped : s.listenOnly = true → t.mc.standing = .sheltered ∧ t.lc.slots = .empty ∧ t.mc.finalLimit = none ∧
    (s.tb.source ≠ .slow → t.tb.slowAsked = true)

theorem shelterBegun_tb : (shelterBegun s).tb = if s.dormant then (runSlow s).tb else s.tb :=
  shelterBegun_facts.2.1

/-- The Timebase behind the entry's blocks. -/
theorem State.Stops.timebase (h : s.Stops t) : t.tb.time = s.tb.time ∧ t.tb.elapsed = s.tb.elapsed ∧
    t.tb.distance = (if s.tb.distance = 0 then 1 else s.tb.distance) ∧ t.tb.calWindow = none ∧ t.tb.calTimer = none ∧
    t.tb.source = s.tb.source ∧ t.tb.slowAsked = if s.dormant = true ∧ s.tb.source ≠ .slow then true else s.tb.slowAsked := by
  rw [h.tb, runSlow_tb]
  unfold Timebase.unlocked
  by_cases hd : s.dormant = true
  · by_cases hs : s.tb.source = .slow <;> simp [hd, hs]
  · simp [hd]

theorem shelterSlept_winds (hpoll : ∀ m, s.bm.lastPoll = some m → since s.now m < secs 600) : s.Winds (shelterSlept s) := by
  have hstops := shelterStopped_stops (s := s)
  obtain ⟨hslows, hbm⟩ := shelterSlept_slowsDown hpoll
  obtain ⟨hcu, huc⟩ := hslows.alerts
  obtain ⟨hsi, hrmu, htau, hpeers, hcs, hpins⟩ := hslows.blocks
  obtain ⟨hpinsw, -, hhcw, hcsw⟩ := hstops.rest
  have htd : (shelterSlept s).td = (shelterStopped s).td := hslows.td.1 hstops.td.1
  have hheater (k : HeaterId) : (shelterStopped s).heater k = s.heater k := by cases k <;> simp [State.heater, hhcw]
  obtain ⟨htime, helapsed, hdistance, hwindow, htimer, -⟩ := hstops.timebase
  have hcount (c : Counter) (hc : c.bySleep = false) : (shelterSlept s).count c = (shelterBegun s).count c :=
    (hslows.count c (not_bySleep hc).2).trans (hstops.count c (not_bySleep hc).1)
  refine ⟨by rw [htd]; exact hstops.td, hsi.trans hstops.si, ?_, by rw [htau]; exact hstops.tau, ?_, ?_, ?_, ?_, ?_, ?_, ?_, ?_, ?_,
    hbm, hpins.trans hpinsw, ?_, fun c hc hentries _ _ => ?_, ?_⟩
  · rw [hrmu, hstops.rmu]
    exact ⟨rfl, rfl, rfl, rfl⟩
  · rw [hslows.lc]
    exact ⟨hstops.lc.1, hstops.lc.2.1⟩
  · rw [hslows.tb]
    exact ⟨htime, helapsed, hdistance, hwindow, htimer⟩
  · rw [hpeers]
    exact fun r hr => (hstops.peers r hr).symm
  · rw [hcu]; exact hstops.entries
  · rw [hcu]; exact hstops.closed
  · rw [hcu]; exact hstops.kept
  · rw [huc]; exact hstops.uc
  · rw [huc]; exact hstops.queue
  · exact fun k => (hslows.heater k).trans (congrArg Heater.forced (hheater k))
  · rw [hcs, hcsw]
  · rw [hcount c hc, shelterBegun_count, if_neg hentries]
  · rw [hcount _ rfl, shelterBegun_count, if_pos rfl]

theorem finalAsked_alikeAsleep {b : Bool} : s.alikeAsleep (finalAsked b s) :=
  ⟨⟨rfl, rfl, rfl, rfl, rfl, rfl, rfl, rfl, rfl, rfl, rfl⟩, ⟨rfl, rfl⟩, rfl, fun _ _ _ => rfl⟩

theorem finalAsked_mc {b : Bool} : (finalAsked b s).mc = { s.mc with
    finalLimit := some { start := s.now, period := secs 10 }, users := { s.mc.users with beacon := none, final := b } } := rfl

theorem finalAsked_beacon {b : Bool} : (finalAsked b s).lc.slots.beacon = some { moment := s.now, mark := .final } := rfl

theorem runSlow_tb_with : (runSlow s).tb = { s.tb with slowAsked := (runSlow s).tb.slowAsked } := by
  rw [runSlow_tb]
  split <;> rfl

theorem becomeSheltered_alikeAsleep (hreport : s.lc.slots.report = none) (hlc : s.lc.rx = .off ∧ s.lc.beaconTimer = none) :
    s.alikeAsleep (becomeSheltered s) := by
  obtain ⟨-, hblc, hbtb, hbcu, hbuc, hbtd, hbsi, hbrmu, hbtau, hbpeers, hbbm, hbhc, hbcs, hbpins, hbcounters⟩ :=
    becomeSheltered_facts hreport
  refine ⟨⟨hbtd, hbsi, hbrmu, hbtau, hbpeers, hbcu, hbuc, hbbm, hbhc, hbpins, hbcs⟩, ?_, ?_, fun c _ _ => count_of_counters_eq hbcounters⟩
  · rw [hblc]
    exact ⟨hlc.1.symm, hlc.2.symm⟩
  · rw [hbtb]
    exact runSlow_tb_with

/-- Where the entry stands behind its blocks. -/
theorem shelterSlept_moves (hpoll : ∀ m, s.bm.lastPoll = some m → since s.now m < secs 600) :
    (shelterSlept s).mc.standing = .finalBeacon ∧ (shelterSlept s).mc.wakeHold = none ∧ (shelterSlept s).mc.capture = none ∧
    (shelterSlept s).tb.source = s.tb.source ∧
    (shelterSlept s).tb.slowAsked = (if s.dormant = true ∧ s.tb.source ≠ .slow then true else s.tb.slowAsked) ∧
    (shelterSlept s).lc.slots.report = s.lc.slots.report ∧ (shelterSlept s).listenOnly = s.listenOnly := by
  have hstops := shelterStopped_stops (s := s)
  obtain ⟨hslows, -⟩ := shelterSlept_slowsDown hpoll
  obtain ⟨-, -, -, -, -, hsource, hasked⟩ := hstops.timebase
  have hmc : (shelterSlept s).mc.standing = .finalBeacon ∧ (shelterSlept s).mc.wakeHold = none ∧
      (shelterSlept s).mc.capture = none := by
    rw [hslows.mc, hstops.mc]
    exact ⟨rfl, rfl, rfl⟩
  have hcs : (shelterSlept s).cs = (csDropHeld s).cs := hslows.blocks.2.2.2.2.1.trans hstops.rest.2.2.2
  refine ⟨hmc.1, hmc.2.1, hmc.2.2, by rw [hslows.tb, hsource], by rw [hslows.tb, hasked], by rw [hslows.lc, hstops.lc.2.2], ?_⟩
  unfold State.listenOnly State.ownId
  rw [hcs]
  unfold csDropHeld
  split <;> rfl

theorem shelterEntry_shelters (hpoll : ∀ m, s.bm.lastPoll = some m → since s.now m < secs 600)
    (hreport : s.listenOnly = true → s.lc.slots.report = none) : s.Shelters (shelterEntry s) := by
  have hwinds := shelterSlept_winds hpoll
  obtain ⟨hstanding, hhold, hcapture, hsource, hasked, hslot, hlisten⟩ := shelterSlept_moves hpoll
  have hnow : (shelterSlept s).now = s.now := hwinds.tb.2.1
  rw [shelterEntry_eq, hlisten]
  generalize shelterSlept s = w at *
  cases hl : s.listenOnly with
  | false =>
    rw [if_neg (by simp)]
    refine ⟨hwinds.trans finalAsked_alikeAsleep, ⟨hhold, hcapture⟩, fun _ => ⟨hstanding, ?_, ?_, rfl, rfl, hsource, hasked⟩,
      fun h => absurd h (by simp [hl])⟩
    · rw [finalAsked_beacon, hnow]
    · rw [finalAsked_mc, hnow]
  | true =>
    have hreportw : w.lc.slots.report = none := by rw [hslot]; exact hreport hl
    obtain ⟨hbmc, hblc, hbtb, -⟩ := becomeSheltered_facts hreportw
    rw [if_pos rfl]
    refine ⟨hwinds.trans (becomeSheltered_alikeAsleep hreportw hwinds.lc), ?_, fun h => absurd h (by simp [hl]),
      fun _ => ⟨?_, ?_, ?_, fun hs => ?_⟩⟩
    · rw [hbmc]
      exact ⟨hhold, hcapture⟩
    · rw [hbmc]
    · rw [hblc]
    · rw [hbmc]
    · rw [hbtb, runSlow_tb, hsource, if_neg hs]

end

end Sys2Proof.Machine

/-! PROOFS. The evaluation of a CRITICAL class. -/
namespace Sys2Proof.Machine
set_option Elab.async false

section
variable {s t u : State} {c : Counter} {x : Reading}

/-! ## The Link Controller on a medium that is not quiet yet (R32) -/

/-- The Link Controller starts no transmission: no slot is filled, or the medium is not quiet yet. -/
def State.waits (s : State) : Prop := s.lc.slots.allEmpty = true ∨ s.quietFor 32 = false

theorem lcKick_of_waits (h : s.waits) : ∃ a b m, lcKick s = s.setLc { s.lc with access := a, busy := b, attempt := m } := by
  unfold lcKick enterGuard
  split
  · exact ⟨_, _, _, rfl⟩
  · next hslots =>
    rw [h.resolve_left hslots]
    split
    · split
      · exact ⟨.guard, true, s.lc.attempt, rfl⟩
      · exact ⟨.guard, false, s.lc.attempt, rfl⟩
    · exact ⟨_, _, _, rfl⟩

theorem waits_congr (hlc : t.lc = s.lc) (hpins : t.pins = s.pins) (htb : t.tb = s.tb) (hcs : t.cs = s.cs) (h : s.waits) : t.waits := by
  unfold State.waits State.quietFor State.now at *
  rwa [hlc, hpins, htb, hcs]

theorem finish_lc_of_waits (h : s.Settled) (hwaits : s.waits) :
    ∃ a b m, (finish s).lc = { s.lc with access := a, busy := b, attempt := m } := by
  obtain ⟨a, b, m, hkick⟩ := lcKick_of_waits (s := twKick (syncOsc (modemKick s)))
    (waits_congr (by simp) (by simp) (by simp) (by simp) hwaits)
  refine ⟨a, b, m, ?_⟩
  rw [finish_eq_follow h, hkick]
  simp

/-- The medium is not quiet yet behind the end of a transmission. -/
theorem waits_of_now (h : s.lc.quietSince = s.now) : s.waits := by
  right
  unfold State.quietFor
  rw [h, since_self]
  simp

/-! ## An entry to DORMANT is abandoned (R187) -/

theorem requestBeacon_of_awake_mc (h : s.dormant = false) : (requestBeacon s).mc = s.mc := by
  unfold requestBeacon
  split
  · rw [fillBeacon_mc, if_neg (by simp [h])]
  · rfl

theorem requestBeacon_report : (requestBeacon s).lc.slots.report = s.lc.slots.report := by
  unfold requestBeacon
  split
  · rw [fillBeacon_lc]
  · rfl

/-- An entry that is abandoned leaves ECONOMY, WATCHING. -/
theorem abandonEntry_of_entering (h : s.mc.standing = .entering) :
    (abandonEntry s).mc = { s.mc with standing := .watching } ∧ (abandonEntry s).lc.slots.report = s.lc.slots.report ∧
    (abandonEntry s).count .entriesAbandoned = min (s.count .entriesAbandoned + 1) 65535 ∧
    ∀ c : Counter, c ≠ .entriesAbandoned → (abandonEntry s).count c = s.count c := by
  have hbumped (c : Counter) : (bump .entriesAbandoned (setStanding .watching s)).count c =
      if c = .entriesAbandoned then min (s.count .entriesAbandoned + 1) 65535 else s.count c := by
    rw [count_bump]
    by_cases hc : c = .entriesAbandoned
    · subst hc; rfl
    · rw [if_neg (Ne.symm hc), if_neg hc]; rfl
  have hmoves : (abandonEntry s).mc = { s.mc with standing := .watching } ∧
      (abandonEntry s).lc.slots.report = s.lc.slots.report ∧
      (abandonEntry s).counters = (bump .entriesAbandoned (setStanding .watching s)).counters := by
    unfold abandonEntry
    rw [if_pos (by simpa using h)]
    dsimp only
    split
    · exact ⟨requestBeacon_of_awake_mc rfl, requestBeacon_report, by simp⟩
    · exact ⟨rfl, rfl, rfl⟩
  obtain ⟨hmc, hreport, hcounters⟩ := hmoves
  refine ⟨hmc, hreport, ?_, fun c hc => ?_⟩
  · rw [count_of_counters_eq hcounters, hbumped, if_pos rfl]
  · rw [count_of_counters_eq hcounters, hbumped, if_neg hc]

/-! ## The evaluation of a CRITICAL class (R184, R194) -/

/-- The station stands outside START and SHELTER. -/
def State.works (s : State) : Prop := s.mc.standing.awake = true ∨ s.mc.standing.inDormant = true

theorem evaluate_critical (hworks : s.works) (hcls : s.bm.cls = .critical) : evaluateMode s = shelterEntry (abandonEntry s) := by
  have hwanted : s.wantedMode = .shelter := by simp [State.wantedMode, hcls]
  have hother (h : s.mc.standing ≠ .entering) : abandonEntry s = s := abandonEntry_of_not_entering h
  unfold evaluateMode
  rw [hwanted]
  cases hs : s.mc.standing <;> simp_all [State.works, Standing.awake, Standing.inDormant]

/-- In SHELTER a CRITICAL class keeps the mode, and so does a final beacon that is awaited. -/
theorem evaluate_of_sheltered (h : s.mc.standing = .finalBeacon ∨ s.mc.standing = .sheltered ∧ s.bm.cls = .critical) :
    evaluateMode s = s := by
  unfold evaluateMode
  rcases h with h | ⟨h, hcls⟩
  · rw [h]
  · have hwanted : s.wantedMode = .shelter := by simp [State.wantedMode, hcls]
    rw [h, hwanted]

theorem abandonEntry_works (h : s.works) : (abandonEntry s).works := by
  by_cases hs : s.mc.standing = .entering
  · left
    rw [(abandonEntry_of_entering hs).1]
    rfl
  · rwa [abandonEntry_of_not_entering hs]

theorem abandonEntry_abandonEntry : abandonEntry (abandonEntry s) = abandonEntry s := by
  by_cases hs : s.mc.standing = .entering
  · refine abandonEntry_of_not_entering ?_
    simp [(abandonEntry_of_entering hs).1]
  · rw [abandonEntry_of_not_entering hs, abandonEntry_of_not_entering hs]

theorem mcSettleOnce_critical (hworks : s.works) (hcls : s.bm.cls = .critical) (hdue : s.mc.evalDue = true) :
    mcSettleOnce s = shelterEntry (abandonEntry s.reported) := by
  have hworks' : s.reported.works := hworks
  rw [mcSettleOnce_eq, hdue, if_pos (by simp), if_pos rfl]
  split
  · rw [evaluate_critical (abandonEntry_works hworks') (by simpa using hcls), abandonEntry_abandonEntry]
  · exact evaluate_critical hworks' hcls

/-- A CRITICAL class evaluated takes the entry to SHELTER. -/
theorem mcSettle_critical (hworks : s.works) (hcls : s.bm.cls = .critical) (hdue : s.mc.evalDue = true)
    (hstays : (shelterEntry (abandonEntry s.reported)).mc.standing = .finalBeacon ∨
      (shelterEntry (abandonEntry s.reported)).mc.standing = .sheltered ∧
        (shelterEntry (abandonEntry s.reported)).bm.cls = .critical) :
    mcSettle s = (shelterEntry (abandonEntry s.reported)).reported := by
  have honce := mcSettleOnce_critical hworks hcls hdue
  have htwice : mcSettleOnce (mcSettleOnce s) = (shelterEntry (abandonEntry s.reported)).reported := by
    rw [honce]
    refine mcSettleOnce_of_stays ?_ (evaluate_of_sheltered (by simpa using hstays))
    rcases hstays with h | ⟨h, -⟩ <;> simp [h]
  rw [mcSettle_of_twice (by rw [htwice]; exact reported_settled), htwice]

/-- The end of a step that starts no transmission, the station being in no awake mode. -/
theorem finish_alikeAsleep (hset : s.Settled) (hawake : s.awake = false) (hwaits : s.waits) :
    s.alikeAsleep (finish s) ∧ (finish s).lc.slots = s.lc.slots ∧ (finish s).tb = s.tb ∧
    (finish s).mc.finalLimit = s.mc.finalLimit := by
  obtain ⟨-, hpins, htb, hrmu, hpeers, htau, hsi, htd, hbm, hhc, hcs, -⟩ := finish_leaves_settled s hset
  obtain ⟨a, b, m, hlc⟩ := finish_lc_of_waits hset hwaits
  obtain ⟨a', b', m', hkick⟩ := lcKick_of_waits (s := twKick (syncOsc s))
    (waits_congr (by simp) (by simp) (by simp) (by simp) hwaits)
  have hfollow : finish s = lcKick (twKick (syncOsc s)) := by rw [finish_eq_follow hset, modemKick_of_not_awake hawake]
  have hlimit : (syncOsc s).mc.finalLimit = s.mc.finalLimit := by
    unfold syncOsc
    (repeat' split) <;> rfl
  refine ⟨⟨⟨htd, hsi, hrmu, htau, hpeers, ?_, ?_, hbm, hhc, hpins, hcs⟩, ?_, ?_, fun c hmuster hbus => finish_count hset hmuster hbus⟩,
    ?_, htb, ?_⟩
  · rw [hfollow, hkick]
    simp
  · rw [hfollow, hkick]
    simp
  · rw [hlc]
    exact ⟨rfl, rfl⟩
  · rw [htb]
  · rw [hlc]
  · rw [hfollow, hkick, ← hlimit]
    simp

/-- The entry to SHELTER with the end of its step on a busy medium. -/
theorem shelters_finish (hcd : s.pins.lkCd = true) (h : s.Shelters t) (hasleep : t.awake = false) : s.Shelters (finish t.reported) := by
  have hpins : t.pins = s.pins := h.winds.pins
  obtain ⟨halike, hslots, htb, hlimit⟩ :=
    finish_alikeAsleep (s := t.reported) reported_settled hasleep (.inr (by simp [State.quietFor, hpins, hcd]))
  have hsame := finish_same t.reported reported_settled
  have hreported : t.alikeAsleep t.reported :=
    ⟨⟨rfl, rfl, rfl, rfl, rfl, rfl, rfl, rfl, rfl, rfl, rfl⟩, ⟨rfl, rfl⟩, rfl, fun _ _ _ => rfl⟩
  refine ⟨(h.winds.trans hreported).trans halike, ?_, fun hl => ?_, fun hl => ?_⟩
  · rw [hsame.wakeHold, hsame.capture]
    exact h.hold
  · rw [hsame.standing, hsame.users, hslots, htb, hlimit]
    exact h.asked hl
  · rw [hsame.standing, hslots, htb, hlimit]
    exact h.dropped hl

/-! ## The end of a good poll that finds the class CRITICAL -/

theorem goodPoll_bm_congr {y : TwoWire} : (goodPoll x (s.setTwm y)).bm = (goodPoll x s).bm := by
  have hanchor : (charged x (s.setTwm y)).anchor x = (charged x s).anchor x := rfl
  have hanchored : (anchored x (s.setTwm y)).bm = (anchored x s).bm := by
    unfold anchored
    rw [hanchor]
    cases (charged x s).anchor x <;> rfl
  have hclass : (s.setTwm y).polledClass x = s.polledClass x := by
    rw [polledClass_eq, polledClass_eq, hanchored]
    rfl
  rw [goodPoll_bm, goodPoll_bm, hanchored, hclass]
  rfl

/-- The state that a good poll hands to the evaluation. -/
def goodPollTaken (x : Reading) (s : State) : State := usersLeft (tellMode (goodPoll x (s.setTwm { s.twm with bus := none })))

/-- What stands of the state before the poll, for the entry to SHELTER. -/
structure State.PollsPoorly (s t : State) : Prop where
  same : t.tb = s.tb ∧ t.lc = s.lc ∧ t.peers = s.peers ∧ t.si = s.si ∧ t.cu = s.cu ∧ t.cs = s.cs ∧ t.pins = s.pins
  mc : t.mc.standing = s.mc.standing ∧ t.mc.users.final = s.mc.users.final
  td : t.td.active = s.td.active
  uc : t.uc.queue = s.uc.queue ∧ t.uc.stacked = s.uc.stacked ∧ t.uc.inTransfer = s.uc.inTransfer
  onTime : ∀ h, (t.heater h).onTime = (s.heater h).onTime
  count : ∀ c : Counter, c = .shelterEntries ∨ c = .entriesAbandoned → t.count c = s.count c

theorem goodPollTaken_pollsPoorly (hcls : (goodPoll x s).bm.cls = .low ∨ (goodPoll x s).bm.cls = .critical) :
    s.PollsPoorly (goodPollTaken x s) := by
  have hpolled := goodPoll_polled (s := s.setTwm { s.twm with bus := none }) (x := x) (by rw [goodPoll_bm_congr]; exact hcls)
  obtain ⟨g, hg⟩ : ∃ g, g = goodPoll x (s.setTwm { s.twm with bus := none }) := ⟨_, rfl⟩
  have hleaves := goodPoll_leaves x (s.setTwm { s.twm with bus := none })
  rw [← hg] at hpolled hleaves
  obtain ⟨-, hpins, htb, -, hlc, hpeers, -, hsi, -, hcs, -⟩ := hleaves
  have htaken : goodPollTaken x s = usersLeft (tellMode g) := by rw [hg]; rfl
  have hfinal : (usersLeft (tellMode g)).mc.users.final = g.mc.users.final := by
    unfold usersLeft entryWorkLeaves pollLeaves
    split <;> rfl
  have hactive : g.td.active = s.td.active := by
    obtain ⟨-, a, b, d, -, -, -, htd⟩ := hpolled.td
    unfold Trigger.active
    rw [htd]
    rfl
  rw [htaken]
  refine ⟨?_, ⟨?_, ?_⟩, ?_, ?_, fun h => ?_, fun c hc => ?_⟩
  · simp [tellMode, htb, hlc, hpeers, hsi, hpolled.cu, hcs, hpins]
  · rw [usersLeft_mc]
    show g.mc.standing = _
    rw [hpolled.mc]
    rfl
  · rw [hfinal, hpolled.mc]
    rfl
  · simpa [tellMode] using hactive
  · have huc : (usersLeft (tellMode g)).uc = { s.uc with healthTimer := g.uc.healthTimer } := by
      rw [show (usersLeft (tellMode g)).uc = g.uc by simp [tellMode]]
      exact hpolled.uc
    rw [huc]
    exact ⟨rfl, rfl, rfl⟩
  · rw [show (usersLeft (tellMode g)).heater h = g.heater h by cases h <;> simp [State.heater, tellMode], hpolled.onTime h]
    cases h <;> rfl
  · rw [usersLeft_count]
    show g.count c = _
    rw [hpolled.count c (by rcases hc with rfl | rfl <;> rfl) (by rcases hc with rfl | rfl <;> rfl)
      (by rcases hc with rfl | rfl <;> decide) (by rcases hc with rfl | rfl <;> decide)]
    rfl

theorem goodPollTaken_bm : (goodPollTaken x s).bm = (goodPoll x s).bm := by
  rw [← goodPoll_bm_congr (s := s) (x := x) (y := { s.twm with bus := none })]
  simp [goodPollTaken, tellMode]

theorem goodPollTaken_due : (goodPollTaken x s).mc.evalDue = true := by
  unfold goodPollTaken
  rw [usersLeft_mc]
  rfl

/-- The end of a wanted transaction with a plausible reading, outside START. -/
theorem exec_goodPoll {v : Vector Byte 6} (hbus : s.onBus .battery) (hx : x = readingOf v.toList) (hplausible : x.plausible = true)
    (hstart : s.mc.standing ≠ .firstPoll) :
    exec (.batteryResult (.complete v)) s = .next (finish (goodPollTaken x s)) := by
  have hpoll : bmBattery (.complete v) (s.setTwm { s.twm with bus := none }) =
      goodPoll x (s.setTwm { s.twm with bus := none }) := by
    rw [hx] at hplausible ⊢
    exact if_pos hplausible
  have hends : batteryEnds (.complete v) (s.setTwm { s.twm with bus := none }) =
      tellMode (goodPoll x (s.setTwm { s.twm with bus := none })) := by
    rw [batteryEnds_outside_start, hpoll]
    rw [hpoll, goodPoll_standing]
    exact hstart
  rw [exec_batteryResult (r := .complete v) ⟨hbus, fun h => by cases h⟩]
  show Host.Outcome.next (finish (usersLeft (batteryEnds (.complete v) (s.setTwm { s.twm with bus := none })))) = _
  rw [hends]
  rfl

/-- The entry to SHELTER by a good poll. -/
theorem goodPoll_shelters (hcd : s.pins.lkCd = true) (hcls : (goodPoll x s).bm.cls = .critical) (hworks : s.works)
    (hpoll : ∀ m, s.bm.lastPoll = some m → since s.now m < secs 600) (hreport : s.lc.slots.report = none) :
    ∃ a : State, s.PollsPoorly (goodPollTaken x s) ∧ a = abandonEntry (goodPollTaken x s).reported ∧
      a.Shelters (finish (goodPollTaken x s)) ∧ ((finish (goodPollTaken x s)).mc.users.final = true →
        (finish (goodPollTaken x s)).mc.osc.isSome = true) := by
  have htaken := goodPollTaken_pollsPoorly (.inr hcls)
  obtain ⟨htb, hlc, -, -, -, hcs, hpins⟩ := htaken.same
  obtain ⟨v, hv⟩ : ∃ v, v = goodPollTaken x s := ⟨_, rfl⟩
  have hvbm : v.bm = (goodPoll x s).bm := by rw [hv, goodPollTaken_bm]
  have hvdue : v.mc.evalDue = true := by rw [hv, goodPollTaken_due]
  rw [← hv] at htaken htb hlc hcs hpins ⊢
  have hvworks : v.works := by
    unfold State.works
    rw [htaken.mc.1]
    exact hworks
  obtain ⟨a, ha⟩ : ∃ a, a = abandonEntry v.reported := ⟨_, rfl⟩
  have habm : a.bm = (goodPoll x s).bm := by simp [ha, hvbm]
  have hanow : a.now = s.now := by simp [ha, State.now, htb]
  have halast : a.bm.lastPoll = s.bm.lastPoll := by rw [habm, goodPoll_bm]
  have hareport : a.lc.slots.report = none := by
    have hvreport : v.reported.lc.slots.report = none := by rw [← hreport, ← hlc]; rfl
    rw [ha]
    by_cases hs : v.reported.mc.standing = .entering
    · rw [(abandonEntry_of_entering hs).2.1, hvreport]
    · rw [abandonEntry_of_not_entering hs, hvreport]
  have hshelters := shelterEntry_shelters (s := a) (by rw [halast, hanow]; exact hpoll) fun _ => hareport
  have hstanding : (shelterEntry a).mc.standing = .finalBeacon ∨ (shelterEntry a).mc.standing = .sheltered ∧
      (shelterEntry a).bm.cls = .critical := by
    cases hl : a.listenOnly with
    | false => exact .inl (hshelters.asked hl).1
    | true =>
      refine .inr ⟨(hshelters.dropped hl).1, ?_⟩
      rw [hshelters.winds.bm]
      show a.bm.cls = _
      rw [habm, hcls]
  have hsettle : mcSettle v = (shelterEntry a).reported := by
    rw [ha] at hstanding ⊢
    exact mcSettle_critical hvworks (by rw [hvbm, hcls]) hvdue hstanding
  have hfinish : finish v = finish (shelterEntry a).reported := by
    rw [finish, hsettle, finish, mcSettle_of_settled _ reported_settled]
  have hasleep : (shelterEntry a).awake = false := by
    unfold State.awake
    rcases hstanding with h | ⟨h, -⟩ <;> rw [h] <;> rfl
  refine ⟨a, htaken, ha, ?_, fun hfinal => ?_⟩
  · rw [hfinish]
    exact shelters_finish (by simpa [ha, hpins] using hcd) hshelters hasleep
  · rw [hfinish] at hfinal ⊢
    rw [finish_users reported_settled] at hfinal
    rw [(finish_osc reported_settled).1]
    unfold syncOsc
    rw [if_pos (by simp [BriefUsers.isEmpty, hfinal])]
    cases ho : (shelterEntry a).reported.mc.osc <;> simp [ho]

end

end Sys2Proof.Machine

section
open Sys2Proof Sys2Proof.Machine
set_option Elab.async false

/-- The third part of O30: a good poll that takes the class to CRITICAL, or finds it there, takes the entry to SHELTER. -/
theorem critical_poll_enters_shelter (s : State) (v : Vector Byte 6) (x : Reading) (hcd : s.pins.lkCd = true)
    (hbus : s.onBus .battery) (hx : x = readingOf v.toList) (hplausible : x.plausible = true)
    (hpoll : ∀ m, s.bm.lastPoll = some m → since s.now m < secs 10) (hcls : (goodPoll x s).bm.cls = .critical)
    (hworks : s.works) (hreport : s.lc.slots.report = none) :
    ∃ t, exec (.batteryResult (.complete v)) s = .next t ∧
      t.count .shelterEntries = min (s.count .shelterEntries + 1) 65535 ∧
      t.count .entriesAbandoned = (if s.mc.standing = .entering then min (s.count .entriesAbandoned + 1) 65535
        else s.count .entriesAbandoned) ∧
      (s.listenOnly = false → t.mc.standing = .finalBeacon ∧ t.lc.slots.beacon = some { moment := s.now, mark := .final } ∧
        t.mc.finalLimit = some { start := s.now, period := secs 10 } ∧ t.mc.users.beacon = none ∧
        (s.mc.standing.awake = true → t.mc.users.final = false ∧ t.tb.source = s.tb.source ∧ t.tb.slowAsked = s.tb.slowAsked) ∧
        (s.mc.standing.inDormant = true → t.mc.users.final = true ∧ t.mc.osc.isSome ∧
          (s.tb.source ≠ .slow → t.tb.slowAsked = true))) ∧
      (s.listenOnly = true → t.mc.standing = .sheltered ∧ t.lc.slots = Slots.empty ∧ t.mc.finalLimit = none ∧
        (s.tb.source ≠ .slow → t.tb.slowAsked = true)) ∧
      t.mc.wakeHold = none ∧ t.mc.capture = none ∧ t.lc.rx = .off ∧ t.lc.beaconTimer = none ∧
      t.td.state = .stopped ∧ t.td.z.state = .stopped ∧ t.td.n.state = .stopped ∧ t.td.e.state = .stopped ∧
      t.si = { s.si with grid := .off, slot := none, bitCount := 0, buffer := [], faultRun := 0, goodRun := 0 } ∧
      t.cu.entries = [] ∧ (∀ r ∈ t.cu.events, r.state = .closed ∨ r.state = .merged) ∧
      (s.td.active = false → ∀ r ∈ s.cu.events, r.state ≠ .holdoff →
        ∃ r' ∈ t.cu.events, r'.rid = r.rid ∧ r'.state = (if r.state = .merged then .merged else .closed)) ∧
      t.uc.modem = .off ∧ t.uc.transfer = none ∧
      (s.td.active = false → s.uc.inTransfer = none → t.uc.queue = s.uc.queue ∧ t.uc.stacked = s.uc.stacked) ∧
      (∀ h : HeaterId, (t.heater h).output = false ∧ (t.heater h).level = .off ∧ (t.heater h).edge = none ∧
        (t.heater h).onTime = (s.heater h).onTime) ∧
      t.rmu.state = .holdover ∧ t.rmu.sleeping = true ∧ t.rmu.offsets = [] ∧ t.rmu.openMark = none ∧
      t.tb.distance = (if s.tb.distance = 0 then 1 else s.tb.distance) ∧ t.tb.calWindow = none ∧ t.tb.calTimer = none ∧
      t.tau.probe = none ∧ t.tau.steerTimer = none ∧ (∀ r ∈ t.peers, r.heldAge = none ∧ r.sample = none) ∧
      t.bm = { (goodPoll x s).bm with
        pollTimer := some { start := s.bm.lastPoll.getD s.now, period := secs 600 } } ∧
      t.tb.time = s.tb.time ∧ t.tb.elapsed = s.tb.elapsed := by
  have hstart : s.mc.standing ≠ .firstPoll := by
    intro h
    simp [State.works, h, Standing.awake, Standing.inDormant] at hworks
  obtain ⟨a, htaken, ha, hshelters, hosc⟩ := goodPoll_shelters hcd hcls hworks
    (fun m hm => (hpoll m hm).trans (by decide)) hreport
  refine ⟨_, exec_goodPoll hbus hx hplausible hstart, ?_⟩
  obtain ⟨htb, hlc, hpeers, hsi, hcu, hcs, hpins⟩ := htaken.same
  obtain ⟨hvstanding, -⟩ := htaken.mc
  obtain ⟨hqueue, hstacked, htransfer⟩ := htaken.uc
  have hvbm := goodPollTaken_bm (s := s) (x := x)
  generalize goodPollTaken x s = w at *
  generalize finish w = t at *
  have hatb : a.tb = s.tb := by simp [ha, htb]
  have hasi : a.si = s.si := by simp [ha, hsi]
  have hacu : a.cu = s.cu := by simp [ha, hcu]
  have hatd : a.td = w.td := by simp [ha]
  have hauc : a.uc = w.uc := by simp [ha]
  have habm : a.bm = (goodPoll x s).bm := by simp [ha, hvbm]
  have hahc : a.hc = w.hc := by simp [ha]
  have halisten : a.listenOnly = s.listenOnly := by simp [ha, State.listenOnly, State.ownId, hcs]
  have hanow : a.now = s.now := by simp [State.now, hatb]
  have hwst : w.reported.mc.standing = s.mc.standing := hvstanding
  have hadormant : a.dormant = s.mc.standing.inDormant := by
    rw [ha, State.dormant]
    by_cases hs : s.mc.standing = .entering
    · rw [(abandonEntry_of_entering (hwst.trans hs)).1, hs]
      rfl
    · rw [abandonEntry_of_not_entering (by rw [hwst]; exact hs), hwst]
  have haentries : a.count .shelterEntries = s.count .shelterEntries := by
    rw [← htaken.count _ (.inl rfl), ha]
    by_cases hs : s.mc.standing = .entering
    · rw [(abandonEntry_of_entering (hwst.trans hs)).2.2.2 _ (by decide)]
      rfl
    · rw [abandonEntry_of_not_entering (by rw [hwst]; exact hs)]
      rfl
  have haabandoned : a.count .entriesAbandoned = if s.mc.standing = .entering then min (s.count .entriesAbandoned + 1) 65535
      else s.count .entriesAbandoned := by
    rw [← htaken.count _ (.inr rfl), ha]
    by_cases hs : s.mc.standing = .entering
    · rw [(abandonEntry_of_entering (hwst.trans hs)).2.2.1, if_pos hs]
      rfl
    · rw [abandonEntry_of_not_entering (by rw [hwst]; exact hs), if_neg hs]
      rfl
  have hw := hshelters.winds
  refine ⟨by rw [hw.entered, haentries], ?_, fun hl => ?_, fun hl => ?_, hshelters.hold.1, hshelters.hold.2, hw.lc.1, hw.lc.2,
    hw.td.1, ?_, ?_, ?_, by rw [hw.si, hasi], hw.entries, hw.closed, fun hquiet => ?_, hw.uc.1, hw.uc.2, fun hquiet hnone => ?_,
    fun h => ?_, hw.rmu.1, hw.rmu.2.1, hw.rmu.2.2.1, hw.rmu.2.2.2, by rw [hw.tb.2.2.1, hatb], hw.tb.2.2.2.1, hw.tb.2.2.2.2,
    hw.tau.1, hw.tau.2, hw.peers, ?_, by rw [hw.tb.1, hatb], by rw [hw.tb.2.1, hatb]⟩
  · rw [hw.count _ rfl (by decide) (by decide) (by decide), haabandoned]
  · obtain ⟨hstanding, hbeacon, hlimit, husers, hfinal, hsource, hasked⟩ := hshelters.asked (halisten.trans hl)
    rw [hanow] at hbeacon hlimit
    rw [hatb] at hsource
    rw [hadormant, hatb] at hasked
    rw [hadormant] at hfinal
    refine ⟨hstanding, hbeacon, hlimit, husers, fun hawake => ?_, fun hdormant => ?_⟩
    · have hd : s.mc.standing.inDormant = false := by
        cases hs : s.mc.standing <;> simp_all [Standing.awake, Standing.inDormant]
      exact ⟨hfinal.trans hd, hsource, by rw [hasked, hd]; simp⟩
    · exact ⟨hfinal.trans hdormant, hosc (hfinal.trans hdormant), fun hs => by rw [hasked, if_pos ⟨hdormant, hs⟩]⟩
  · have hdropped := hshelters.dropped (halisten.trans hl)
    rwa [hatb] at hdropped
  · rw [hw.td.2.1]; rfl
  · rw [hw.td.2.2.1]; rfl
  · rw [hw.td.2.2.2]; rfl
  · have hkept := hw.kept (by rw [hatd, htaken.td]; exact hquiet)
    rwa [hacu] at hkept
  · have hkept := hw.queue (by rw [hatd, htaken.td]; exact hquiet) (by rw [hauc, htransfer]; exact hnone)
    rwa [hauc, hqueue, hstacked] at hkept
  · have honTime := htaken.onTime h
    have haheater : a.heater h = w.heater h := by cases h <;> simp [State.heater, hahc]
    rw [hw.heater h, haheater]
    exact ⟨rfl, rfl, rfl, honTime⟩
  · rw [hw.bm, habm, hanow]
    have hlast : (goodPoll x s).bm.lastPoll = s.bm.lastPoll := by rw [goodPoll_bm]
    rw [← hlast]
    rfl

end

/-! PROOFS. The entry to DORMANT. -/
namespace Sys2Proof.Machine
set_option Elab.async false

section
variable {s t u : State} {c : Counter}

/-! ## A poll with the class LOW (R161) -/

theorem pollMissed_of_low (hlow : s.bm.cls = .low) : (pollDevice .battery batteryMissed s).hc = s.hc ∧
    ∀ c : Counter, c ≠ .pollOverruns → (pollDevice .battery batteryMissed s).count c = s.count c := by
  unfold pollDevice batteryMissed
  dsimp only
  split
  · rw [if_neg (by simp [hlow])]
    refine ⟨rfl, fun c hc => ?_⟩
    show (bump .pollOverruns s).count c = _
    rw [count_bump, if_neg hc.symm]
  · exact ⟨rfl, fun _ _ => rfl⟩

/-- With the class LOW a poll moves no heater. -/
theorem makePoll_of_low_heaters (hlow : s.bm.cls = .low) : (makePoll s).hc = s.hc ∧
    ∀ c : Counter, c ≠ .pollOverruns → c ≠ .failuresA → c ≠ .failuresB → (makePoll s).count c = s.count c := by
  obtain ⟨hhc, hcount⟩ := pollMissed_of_low hlow
  have hrest := (((polledFree_sensor (s := pollDevice .battery batteryMissed s) (x := .a) (y := .tempA)).trans
    (polledFree_sensor (x := .b) (y := .tempB))).trans polledFree_pollTimed).trans polledFree_pollJoins
  exact ⟨hrest.hc.trans hhc, fun c h1 h2 h3 => (hrest.count c h1 h2 h3).trans (hcount c h1)⟩

theorem pollModeChange_of_low (hlow : s.bm.cls = .low) : (pollModeChange s).hc = s.hc ∧ (pollModeChange s).bm.cls = .low ∧
    (pollModeChange s).uc = s.uc ∧
    ∀ c : Counter, c ≠ .pollOverruns → c ≠ .failuresA → c ≠ .failuresB → (pollModeChange s).count c = s.count c := by
  obtain ⟨hhc, hcount⟩ := makePoll_of_low_heaters hlow
  obtain ⟨hcls, -, huc⟩ := makePoll_of_low (t := s) hlow
  unfold pollModeChange
  split
  · split
    · exact ⟨hhc, hcls, huc, hcount⟩
    · exact ⟨rfl, hlow, rfl, fun _ _ _ _ => rfl⟩
  · exact ⟨rfl, hlow, rfl, fun _ _ _ _ => rfl⟩
  · exact ⟨rfl, hlow, rfl, fun _ _ _ _ => rfl⟩

/-! ## The entry to DORMANT (R188) -/

/-- The blocks at the entry to DORMANT, up to the link. -/
def dormantStopped (s : State) : State := cuClear (blocksSleep (runSlow (bump .dormantEntries (setStanding .asleep s))))

/-- The slots at the entry: only the beacon stays. -/
def dormantSlots (s : State) : Slots := { Slots.empty with beacon := s.lc.slots.beacon }

/-- The link stops; a waiting beacon joins the users of a brief run (R41, R189). -/
def dormantLink (s : State) : State :=
  let u := s.setLc { s.lc with rx := .off, slots := dormantSlots s }
  if u.lc.slots.beacon.isSome then u.setMc { u.mc with users := { u.mc.users with beacon := some u.now } } else u

/-- The entry behind the link. -/
def dormantSlept (s : State) : State :=
  pollModeChange (forceByAllowance (ucModeOff (ptHold (beaconTimerRestart (dormantLink (dormantStopped s))))))

theorem dormantStopped_slept : (runSlow (bump .dormantEntries (setStanding .asleep s))).Slept
    (blocksSleep (runSlow (bump .dormantEntries (setStanding .asleep s)))) := by
  refine blocksSleep_slept ?_
  simp [State.awake, setStanding, Standing.awake]

theorem dormantStopped_lc : (dormantStopped s).lc = { s.lc with tx := (dormantStopped s).lc.tx, slots := { s.lc.slots with
    notice := (dormantStopped s).lc.slots.notice, declaration := (dormantStopped s).lc.slots.declaration
    probe := (dormantStopped s).lc.slots.probe } } := by
  have hlc := (dormantStopped_slept (s := s)).lc
  have hbegun : (runSlow (bump .dormantEntries (setStanding .asleep s))).lc = s.lc := by simp [setStanding]
  rw [hbegun] at hlc
  exact hlc

theorem dormantEntry_eq (hreport : s.lc.slots.report = none) : dormantEntry s = dormantSlept s := by
  have hnone : (dormantStopped s).lc.slots.report = none := by
    rw [dormantStopped_lc]
    exact hreport
  have hstopped : dormantStopped s = cuClear (blocksSleep (runSlow (bump .dormantEntries (setStanding .asleep s)))) := rfl
  unfold dormantEntry dormantSlept
  dsimp only
  rw [← hstopped]
  generalize dormantStopped s = v at *
  rw [hnone]
  rfl

/-- With the class LOW only HTR_S is forced off in DORMANT (R173, R178). -/
theorem forceByAllowance_of_dormant (hmode : s.mc.standing.mode = some .dormant) (hlow : s.bm.cls = .low) :
    forceByAllowance s = offForce .s s := by
  have hb : s.allowance .b = .quarter := by
    unfold State.allowance
    rw [hmode, hlow]
    rfl
  have hs : s.allowance .s = .off := by
    unfold State.allowance
    rw [hmode, hlow]
    rfl
  unfold forceByAllowance
  rw [hb]
  simp [hs]

/-- A heater forced off counts its edge where it was on. -/
theorem offForce_count {h : HeaterId} {k : HeaterCount} (hk : k = .forced ∨ k = .taken) :
    (offForce h s).count (heaterCounter h k) = if (s.heater h).output then min (s.count (heaterCounter h k) + 1) 65535
      else s.count (heaterCounter h k) := by
  unfold offForce
  dsimp only
  split
  · rcases hk with rfl | rfl <;> simp [count_bump, heaterCounter_injective]
  · cases h <;> rfl

/-- What the entry to DORMANT does with the class LOW and no trigger on. -/
structure State.Sleeps (s t : State) : Prop where
  mc : t.mc.standing = .asleep ∧ t.mc.users.beacon = if s.lc.slots.beacon.isSome then some s.now else s.mc.users.beacon
  lc : t.lc.rx = .off ∧ t.lc.slots = dormantSlots s ∧ t.lc.quietSince = s.lc.quietSince
  tb : t.tb.time = s.tb.time ∧ t.tb.elapsed = s.tb.elapsed ∧ t.tb.slowAsked = true
  td : t.td.state = .stopped
  si : t.si.grid = .off
  rmu : t.rmu.state = .holdover ∧ t.rmu.sleeping = true
  tau : t.tau.steerTimer = none ∧ t.tau.probe = none
  uc : t.uc.modem = .off ∧ t.uc.queue = [] ∧ t.uc.stacked = []
  cu : t.cu.entries = [] ∧ t.cu.events = s.cu.events
  hc : t.hc = { s.hc with s := s.hc.s.forced }
  cls : t.bm.cls = .low
  peers : ∀ r ∈ t.peers, r.heldAge.isSome ∧ r.sample = none
  entered : t.count .dormantEntries = min (s.count .dormantEntries + 1) 65535
  counts : ∀ c : Counter, c = .offForcingsS ∨ c = .edgesTakenS →
    t.count c = if s.hc.s.output then min (s.count c + 1) 65535 else s.count c

/-- The entry up to the heaters. -/
def dormantBound (s : State) : State := (ptHold (beaconTimerRestart (dormantLink (dormantStopped s)))).modemOff

theorem dormantStopped_uc (hquiet : s.td.active = false) : (dormantStopped s).uc = s.uc ∧ (dormantStopped s).cu.events = s.cu.events := by
  have hbegun : (runSlow (bump .dormantEntries (setStanding .asleep s))).td = s.td ∧
      (runSlow (bump .dormantEntries (setStanding .asleep s))).uc = s.uc ∧
      (runSlow (bump .dormantEntries (setStanding .asleep s))).cu = s.cu := by simp [setStanding]
  obtain ⟨htd, huc, hcu⟩ := hbegun
  obtain ⟨hscu, hsuc⟩ := (dormantStopped_slept (s := s)).quiet (by rw [htd]; exact hquiet)
  have hclear (v : State) : (cuClear v).uc = v.uc ∧ (cuClear v).cu.events = v.cu.events := ⟨rfl, rfl⟩
  obtain ⟨hcuc, hcevents⟩ := hclear (blocksSleep (runSlow (bump .dormantEntries (setStanding .asleep s))))
  exact ⟨hcuc.trans (hsuc.trans huc), hcevents.trans (congrArg Coincidence.events (hscu.trans hcu))⟩

theorem dormantStopped_now : (dormantStopped s).now = s.now := by
  have htb := (dormantStopped_slept (s := s)).tb
  have hbegun : (runSlow (bump .dormantEntries (setStanding .asleep s))).tb.elapsed = s.tb.elapsed := by
    rw [runSlow_tb_with]
    rfl
  have hclear (v : State) : (cuClear v).now = v.tb.elapsed := rfl
  refine (hclear _).trans ?_
  rw [htb]
  exact hbegun

theorem dormantStopped_mc : (dormantStopped s).mc.standing = .asleep ∧ (dormantStopped s).mc.users.beacon = s.mc.users.beacon := by
  have hmc := (dormantStopped_slept (s := s)).mc
  have hbegun : (runSlow (bump .dormantEntries (setStanding .asleep s))).mc = { s.mc with standing := .asleep } := by
    simp [setStanding]
  rw [hbegun] at hmc
  have hsame : (dormantStopped s).mc = (blocksSleep (runSlow (bump .dormantEntries (setStanding .asleep s)))).mc := rfl
  rw [hsame, hmc]
  exact ⟨rfl, rfl⟩

theorem dormantLink_facts : (dormantLink s).mc.standing = s.mc.standing ∧
    (dormantLink s).mc.users.beacon = (if s.lc.slots.beacon.isSome then some s.now else s.mc.users.beacon) ∧
    (dormantLink s).lc = { s.lc with rx := .off, slots := dormantSlots s } ∧ (dormantLink s).tb = s.tb ∧
    (dormantLink s).rmu = s.rmu ∧ (dormantLink s).peers = s.peers ∧ (dormantLink s).tau = s.tau ∧ (dormantLink s).si = s.si ∧
    (dormantLink s).td = s.td ∧ (dormantLink s).cu = s.cu ∧ (dormantLink s).uc = s.uc ∧ (dormantLink s).bm = s.bm ∧
    (dormantLink s).hc = s.hc ∧ (dormantLink s).counters = s.counters := by
  have hslot : (dormantSlots s).beacon = s.lc.slots.beacon := rfl
  unfold dormantLink
  dsimp only
  cases hb : s.lc.slots.beacon <;> simp [hslot, hb, State.now]

/-- The entry up to the heaters. -/
theorem dormantBound_facts : (dormantBound s).mc.standing = .asleep ∧
    (dormantBound s).mc.users.beacon = (if s.lc.slots.beacon.isSome then some s.now else s.mc.users.beacon) ∧
    (dormantBound s).lc.rx = .off ∧ (dormantBound s).lc.slots = dormantSlots s ∧ (dormantBound s).lc.quietSince = s.lc.quietSince ∧
    (dormantBound s).bm = s.bm ∧ (dormantBound s).hc = s.hc := by
  obtain ⟨hstanding, husers⟩ := dormantStopped_mc (s := s)
  have hlc := dormantStopped_lc (s := s)
  obtain ⟨hlstanding, hlusers, hllc, -, -, -, -, -, -, -, -, hlbm, hlhc, -⟩ := dormantLink_facts (s := dormantStopped s)
  have hnow := dormantStopped_now (s := s)
  have hbeacon : (dormantStopped s).lc.slots.beacon = s.lc.slots.beacon := by rw [hlc]
  have hbound (v : State) : ((ptHold (beaconTimerRestart v)).modemOff).mc = v.mc ∧
      ((ptHold (beaconTimerRestart v)).modemOff).lc.rx = v.lc.rx ∧ ((ptHold (beaconTimerRestart v)).modemOff).lc.slots = v.lc.slots ∧
      ((ptHold (beaconTimerRestart v)).modemOff).lc.quietSince = v.lc.quietSince ∧
      ((ptHold (beaconTimerRestart v)).modemOff).bm = v.bm ∧ ((ptHold (beaconTimerRestart v)).modemOff).hc = v.hc :=
    ⟨rfl, rfl, rfl, rfl, rfl, rfl⟩
  obtain ⟨hbmc, hbrx, hbslots, hbquiet, hbbm, hbhc⟩ := hbound (dormantLink (dormantStopped s))
  obtain ⟨-, hbm, hhc, -⟩ := (dormantStopped_slept (s := s)).rest
  have hdbm : (dormantStopped s).bm = s.bm := hbm.trans (by simp [setStanding])
  have hdhc : (dormantStopped s).hc = s.hc := hhc.trans (by simp [setStanding])
  refine ⟨?_, ?_, ?_, ?_, ?_, ?_, ?_⟩
  · show (ptHold (beaconTimerRestart (dormantLink (dormantStopped s)))).modemOff.mc.standing = _
    rw [hbmc, hlstanding, hstanding]
  · show (ptHold (beaconTimerRestart (dormantLink (dormantStopped s)))).modemOff.mc.users.beacon = _
    rw [hbmc, hlusers, husers, hbeacon, hnow]
  · show (ptHold (beaconTimerRestart (dormantLink (dormantStopped s)))).modemOff.lc.rx = _
    rw [hbrx, hllc]
  · show (ptHold (beaconTimerRestart (dormantLink (dormantStopped s)))).modemOff.lc.slots = _
    rw [hbslots, hllc]
    unfold dormantSlots
    rw [hbeacon]
  · show (ptHold (beaconTimerRestart (dormantLink (dormantStopped s)))).modemOff.lc.quietSince = _
    rw [hbquiet, hllc, hlc]
  · exact hbbm.trans (hlbm.trans hdbm)
  · exact hbhc.trans (hlhc.trans hdhc)

/-- The blocks of the entry up to the heaters. -/
theorem dormantBound_blocks :
    (dormantBound s).tb = { (runSlow s).tb.unlocked with calTimer := none, calOpening := false, calWindow := none } ∧
    (dormantBound s).td.state = .stopped ∧ (dormantBound s).si.grid = .off ∧
    (dormantBound s).rmu.state = .holdover ∧ (dormantBound s).rmu.sleeping = true ∧
    (dormantBound s).tau.steerTimer = none ∧ (dormantBound s).tau.probe = none ∧
    (∀ r ∈ (dormantBound s).peers, r.heldAge.isSome ∧ r.sample = none) ∧
    ∀ c : Counter, c.byBlocks = false → (dormantBound s).count c = (bump .dormantEntries s).count c := by
  have hslept := dormantStopped_slept (s := s)
  have hbegun : (runSlow (bump .dormantEntries (setStanding .asleep s))).tb = (runSlow s).tb := by
    rw [runSlow_tb, runSlow_tb]
    rfl
  have hcount (c : Counter) : (runSlow (bump .dormantEntries (setStanding .asleep s))).count c = (bump .dormantEntries s).count c :=
    count_of_counters_eq (by simp [setStanding, bump])
  have hbound : dormantBound s = (ptHold (beaconTimerRestart (dormantLink (cuClear
      (blocksSleep (runSlow (bump .dormantEntries (setStanding .asleep s)))))))).modemOff := rfl
  rw [hbound]
  generalize runSlow (bump .dormantEntries (setStanding .asleep s)) = b at *
  generalize blocksSleep b = w at *
  obtain ⟨-, -, -, hltb, hlrmu, hlpeers, hltau, hlsi, hltd, -, -, -, -, hlcounters⟩ := dormantLink_facts (s := cuClear w)
  generalize dormantLink (cuClear w) = l at *
  have hl : (ptHold (beaconTimerRestart l)).modemOff.tb = l.tb ∧ (ptHold (beaconTimerRestart l)).modemOff.td = l.td ∧
      (ptHold (beaconTimerRestart l)).modemOff.si = l.si ∧ (ptHold (beaconTimerRestart l)).modemOff.rmu = l.rmu ∧
      (ptHold (beaconTimerRestart l)).modemOff.tau = l.tau ∧ (ptHold (beaconTimerRestart l)).modemOff.counters = l.counters :=
    ⟨rfl, rfl, rfl, rfl, rfl, rfl⟩
  obtain ⟨htb, htd, hsi, hrmu, htau, hcounters⟩ := hl
  rw [htb, htd, hsi, hrmu, htau, hltb, hltd, hlsi, hlrmu, hltau]
  refine ⟨?_, hslept.td.1, ?_, ?_, ?_, hslept.tau.2, hslept.tau.1, fun r hr => ?_, fun c hc => ?_⟩
  · exact hslept.tb.trans (by rw [hbegun])
  · exact (congrArg SampleIf.grid hslept.si)
  · exact (congrArg Rmu.state hslept.rmu)
  · exact (congrArg Rmu.sleeping hslept.rmu)
  · obtain ⟨r', hr', rfl⟩ := List.mem_map.1 hr
    exact ⟨rfl, (hslept.peers r' (by simpa [beaconTimerRestart, hlpeers, cuClear] using hr')).1⟩
  · rw [count_of_counters_eq (hcounters.trans hlcounters)]
    exact (hslept.count c hc).trans (hcount c)

/-- The tables of the entry up to the heaters, no trigger being on. -/
theorem dormantBound_tables (hquiet : s.td.active = false) :
    (dormantBound s).uc = { s.uc with modem := .off, modemTimer := none, transfer := none } ∧
    (dormantBound s).cu.entries = [] ∧ (dormantBound s).cu.events = s.cu.events := by
  obtain ⟨huc, hevents⟩ := dormantStopped_uc hquiet
  have hentries : (dormantStopped s).cu.entries = [] := rfl
  have hbound : dormantBound s = (ptHold (beaconTimerRestart (dormantLink (dormantStopped s)))).modemOff := rfl
  rw [hbound]
  generalize dormantStopped s = w at *
  obtain ⟨-, -, -, -, -, -, -, -, -, hlcu, hluc, -⟩ := dormantLink_facts (s := w)
  generalize dormantLink w = l at *
  have hl : (ptHold (beaconTimerRestart l)).modemOff.cu = l.cu ∧
      (ptHold (beaconTimerRestart l)).modemOff.uc = { l.uc with modem := .off, modemTimer := none, transfer := none } := ⟨rfl, rfl⟩
  rw [hl.1, hl.2, hlcu, hluc, huc]
  exact ⟨rfl, hentries, hevents⟩

theorem dormantSlept_eq (hlow : s.bm.cls = .low) (hquiet : s.td.active = false) (hqueue : s.uc.queue = []) :
    dormantSlept s = pollModeChange (offForce .s (dormantBound s)) := by
  obtain ⟨hstanding, -, -, -, -, hbm, -⟩ := dormantBound_facts (s := s)
  have huc : (ptHold (beaconTimerRestart (dormantLink (dormantStopped s)))).uc = s.uc := by
    rw [show (ptHold (beaconTimerRestart (dormantLink (dormantStopped s)))).uc = (dormantLink (dormantStopped s)).uc from rfl,
      dormantLink_facts.2.2.2.2.2.2.2.2.2.2.1, (dormantStopped_uc hquiet).1]
  have hnone : (ptHold (beaconTimerRestart (dormantLink (dormantStopped s)))).uc.inTransfer = none := by
    rw [huc]
    simp [Uplink.inTransfer, hqueue]
  have hoff : ucModeOff (ptHold (beaconTimerRestart (dormantLink (dormantStopped s)))) = dormantBound s := ucModeOff_of_none hnone
  unfold dormantSlept
  rw [hoff, forceByAllowance_of_dormant (by rw [hstanding]; rfl) (by rw [hbm]; exact hlow)]

theorem dormantSlept_sleeps (hlow : s.bm.cls = .low) (hquiet : s.td.active = false) (hqueue : s.uc.queue = [])
    (hstacked : s.uc.stacked = []) (hfast : s.tb.source ≠ .slow) : s.Sleeps (dormantSlept s) := by
  obtain ⟨hstanding, husers, hrx, hslots, hquietSince, hbm, hhc⟩ := dormantBound_facts (s := s)
  obtain ⟨htb, htd, hsi, hholdover, hsleeping, hsteer, hprobe, hpeers, hcount⟩ := dormantBound_blocks (s := s)
  obtain ⟨huc, hentries, hevents⟩ := dormantBound_tables hquiet
  rw [dormantSlept_eq hlow hquiet hqueue]
  generalize dormantBound s = d at *
  have hforced := polledTo_offForce (s := d) (h := .s)
  have hheater := offForce_heater (s := d) (h := .s)
  have hheaterb := offForce_heater_other (s := d) (h := .s) (k := .b) (by decide)
  have hoffcount {k : HeaterCount} (hk : k = .forced ∨ k = .taken) := offForce_count (s := d) (h := .s) hk
  have hother {c : Counter} (hc : c.ofHeater = false) := offForce_count_other (s := d) (h := .s) hc
  have hleaves : (offForce .s d).tb = d.tb ∧ (offForce .s d).lc = d.lc ∧ (offForce .s d).si = d.si ∧ (offForce .s d).rmu = d.rmu ∧
      (offForce .s d).tau = d.tau ∧ (offForce .s d).peers = d.peers ∧ (offForce .s d).mc = d.mc ∧ (offForce .s d).uc = d.uc ∧
      (offForce .s d).cu = d.cu ∧ (offForce .s d).bm = d.bm := by simp
  obtain ⟨hotb, holc, hosi, hormu, hotau, hopeers, homc, houc, hocu, hobm⟩ := hleaves
  generalize offForce .s d = o at *
  obtain ⟨hphc, hpcls, hpuc, hpcount⟩ := pollModeChange_of_low (s := o) (by rw [hobm, hbm]; exact hlow)
  have hpolled := polledTo_pollModeChange (s := o)
  obtain ⟨-, -, hptb, hprmu, hplc, hppeers, hptau, hpsi, -⟩ := pollModeChange_leaves o
  generalize pollModeChange o = p at *
  refine ⟨⟨?_, ?_⟩, ?_, ?_, ?_, ?_, ?_, ?_, ?_, ?_, ?_, hpcls, ?_, ?_, fun c hc => ?_⟩
  · rw [hpolled.mc]
    exact (congrArg ModeCtl.standing homc).trans hstanding
  · rw [hpolled.mc]
    exact (congrArg (fun m : ModeCtl => m.users.beacon) homc).trans husers
  · rw [hplc, holc]
    exact ⟨hrx, hslots, hquietSince⟩
  · rw [hptb, hotb, htb, runSlow_tb, if_neg hfast]
    exact ⟨rfl, rfl, rfl⟩
  · rw [blanks_state hpolled.td, blanks_state hforced.td, htd]
  · rw [hpsi, hosi, hsi]
  · rw [hprmu, hormu]
    exact ⟨hholdover, hsleeping⟩
  · rw [hptau, hotau]
    exact ⟨hsteer, hprobe⟩
  · rw [hpuc, houc, huc]
    exact ⟨rfl, hqueue, hstacked⟩
  · rw [hpolled.cu, hocu]
    exact ⟨hentries, hevents⟩
  · have hs : p.hc.s = s.hc.s.forced := by
      rw [hphc, ← hhc]
      exact hheater
    have hb : p.hc.b = s.hc.b := by
      rw [hphc, ← hhc]
      exact hheaterb
    exact congrArg₂ Heaters.mk hb hs
  · rw [hppeers, hopeers]
    exact hpeers
  · rw [hpcount _ (by decide) (by decide) (by decide), hother rfl, hcount _ rfl, count_bump, if_pos rfl]
  · have hc' : ∃ k, (k = .forced ∨ k = .taken) ∧ c = heaterCounter .s k := by
      rcases hc with rfl | rfl
      · exact ⟨.forced, .inl rfl, rfl⟩
      · exact ⟨.taken, .inr rfl, rfl⟩
    obtain ⟨k, hk, rfl⟩ := hc'
    have hpoll : p.count (heaterCounter .s k) = o.count (heaterCounter .s k) := by
      rcases hk with rfl | rfl <;> exact hpcount _ (by decide) (by decide) (by decide)
    have hd : d.count (heaterCounter .s k) = s.count (heaterCounter .s k) := by
      rcases hk with rfl | rfl
      · exact (hcount .offForcingsS rfl).trans (by rw [count_bump, if_neg (by decide)]; rfl)
      · exact (hcount .edgesTakenS rfl).trans (by rw [count_bump, if_neg (by decide)]; rfl)
    have houtput : (d.heater .s).output = s.hc.s.output := by rw [← hhc]; rfl
    rw [hpoll, hoffcount hk, hd, houtput]

/-! ## The completion of the entry beacon (R188) and of the final beacon (R194) -/

/-- The end of a transmission, its completion not taken yet. -/
def txDone (s : State) : State := bump .framesSent (s.setLc { s.lc with tx := none, quietSince := s.now })

theorem exec_transmissionEnd {f : TxFrame} (htx : s.lc.tx = some f) (hstamp : f.stamp.isSome = true) :
    exec .transmissionEnd s = .next (finish (reportCompletion f.owner (txDone s))) := by
  show execTransmissionEnd s = _
  unfold execTransmissionEnd
  rw [htx]
  dsimp only
  rw [if_pos hstamp]
  rfl

theorem evaluate_of_asleep (h : s.mc.standing = .asleep) (hlow : s.bm.cls = .low) (hstays : s.staysDormant = true) :
    evaluateMode s = s := by
  have hdormant : s.dormant = true := by rw [State.dormant, h]; rfl
  have hwanted : s.wantedMode = .dormant := by simp [State.wantedMode, hlow, hdormant, hstays]
  unfold evaluateMode
  rw [h, hwanted]

end

end Sys2Proof.Machine

section
open Sys2Proof Sys2Proof.Machine
set_option Elab.async false

/-- The first part of O30: the completion of the entry beacon. -/
theorem entry_beacon_sleeps (s : State) (f : TxFrame) (htx : s.lc.tx = some f) (hstamp : f.stamp.isSome = true)
    (howner : f.owner = .beacon .entry) (hstanding : s.mc.standing = .entering) (hlow : s.bm.cls = .low)
    (hquiet : s.td.active = false) (hqueue : s.uc.queue = []) (hstacked : s.uc.stacked = []) (hopen : s.openEvent = false)
    (hfast : s.tb.source = .fast) (hreport : s.lc.slots.report = none) :
    ∃ t, exec .transmissionEnd s = .next t ∧ t.mc.standing = .asleep ∧
      t.count .dormantEntries = min (s.count .dormantEntries + 1) 65535 ∧ t.td.state = .stopped ∧ t.si.grid = .off ∧
      t.rmu.state = .holdover ∧ t.rmu.sleeping = true ∧ t.tau.steerTimer = none ∧ t.tau.probe = none ∧ t.uc.modem = .off ∧
      t.cu.entries = [] ∧ t.lc.rx = .off ∧ t.tb.slowAsked = true ∧ t.tb.time = s.tb.time ∧ t.tb.elapsed = s.tb.elapsed ∧
      t.lc.slots = { Slots.empty with beacon := s.lc.slots.beacon } ∧ t.hc.s.output = false ∧
      t.mc.users.beacon = (if s.lc.slots.beacon.isSome then some s.now else s.mc.users.beacon) ∧
      t.hc = { s.hc with s := { s.hc.s with output := false, edge := none, deferral := 0, carried := none, level := .off } } ∧
      (∀ c, c = .offForcingsS ∨ c = .edgesTakenS →
        t.count c = if s.hc.s.output then min (s.count c + 1) 65535 else s.count c) ∧
      (∀ r ∈ t.peers, r.heldAge.isSome ∧ r.sample = none) := by
  obtain ⟨u, hu⟩ : ∃ u, u = txDone s := ⟨_, rfl⟩
  have hsame : u.mc = s.mc ∧ u.tb = s.tb ∧ u.hc = s.hc ∧ u.bm = s.bm ∧ u.td = s.td ∧ u.uc = s.uc ∧ u.cu = s.cu ∧
      u.lc = { s.lc with tx := none, quietSince := s.now } := by
    rw [hu]
    exact ⟨rfl, rfl, rfl, rfl, rfl, rfl, rfl, rfl⟩
  have hcount (c : Counter) (hc : c ≠ .framesSent) : u.count c = s.count c := by
    rw [hu, txDone, count_bump, if_neg hc.symm]
    rfl
  obtain ⟨humc, hutb, huhc, hubm, hutd, huuc, hucu, hulc⟩ := hsame
  have hsleeps := dormantSlept_sleeps (s := u) (by rw [hubm, hlow]) (by rw [hutd, hquiet]) (by rw [huuc, hqueue])
    (by rw [huuc, hstacked]) (by rw [hutb, hfast]; decide)
  have hexec : exec .transmissionEnd s = .next (finish (dormantSlept u)) := by
    rw [exec_transmissionEnd htx hstamp, howner, ← hu, ← dormantEntry_eq (by rw [hulc]; exact hreport)]
    show Host.Outcome.next (finish (if u.mc.standing == .entering then dormantEntry u else u)) = _
    rw [humc, hstanding]
    rfl
  rw [hexec]
  generalize dormantSlept u = v at *
  have hstays : finish v = finish v.reported := by
    refine finish_of_stays (by rw [hsleeps.mc.1]; decide) (evaluate_of_asleep hsleeps.mc.1 hsleeps.cls ?_)
    have hevents : v.reported.openEvent = false := by
      show v.cu.events.any _ = false
      rw [hsleeps.cu.2, hucu]
      exact hopen
    unfold State.staysDormant
    rw [hevents]
    show (!false && v.uc.allEmpty) = true
    simp [Uplink.allEmpty, hsleeps.uc.2.1, hsleeps.uc.2.2]
  have hnow : v.lc.quietSince = v.now := by
    have hvnow : v.now = s.now := hsleeps.tb.2.1.trans (congrArg Timebase.elapsed hutb)
    rw [hsleeps.lc.2.2, hulc, hvnow]
  obtain ⟨halike, hslots, htb, -⟩ := finish_alikeAsleep (s := v.reported) reported_settled
    (by rw [State.awake, reported_leaves.2.2.2.2.2.2.2.2.2.2.2.2.2.2.2.2.1, hsleeps.mc.1]; rfl)
    (waits_of_now (by simpa [State.now] using hnow))
  have hstand := finish_standing (s := v.reported) reported_settled
  have husers := finish_users (s := v.reported) reported_settled
  obtain ⟨htd, hsi, hrmu, htau, hpeers, hcu, huc, -, hhc, -, -⟩ := halike.blocks
  rw [hstays]
  generalize finish v.reported = t at *
  have hbeacon : u.lc.slots.beacon = s.lc.slots.beacon := by rw [hulc]
  have hunow : u.now = s.now := by rw [State.now, hutb]; rfl
  have hvcount (c : Counter) (hmuster : c ≠ .musterBeacons) (hbus : c ≠ .busRecoveries) : t.count c = v.count c :=
    halike.count c hmuster hbus
  refine ⟨t, rfl, hstand.trans hsleeps.mc.1, ?_, (congrArg Trigger.state htd).trans hsleeps.td, (congrArg SampleIf.grid hsi).trans hsleeps.si,
    (congrArg Rmu.state hrmu).trans hsleeps.rmu.1, (congrArg Rmu.sleeping hrmu).trans hsleeps.rmu.2,
    (congrArg Agreement.steerTimer htau).trans hsleeps.tau.1, (congrArg Agreement.probe htau).trans hsleeps.tau.2,
    (congrArg Uplink.modem huc).trans hsleeps.uc.1, (congrArg Coincidence.entries hcu).trans hsleeps.cu.1,
    halike.lc.1.trans hsleeps.lc.1, ?_, ?_, ?_, ?_, ?_, ?_, ?_, fun c hc => ?_, ?_⟩
  · rw [hvcount _ (by decide) (by decide), hsleeps.entered, hcount _ (by decide)]
  · rw [htb]
    exact hsleeps.tb.2.2
  · rw [htb]
    exact hsleeps.tb.1.trans (by rw [hutb])
  · rw [htb]
    exact hsleeps.tb.2.1.trans (by rw [hutb])
  · rw [hslots]
    refine hsleeps.lc.2.1.trans ?_
    rw [dormantSlots, hbeacon]
  · rw [hhc]
    exact (congrArg (fun h : Heaters => h.s.output) hsleeps.hc).trans rfl
  · rw [husers]
    refine hsleeps.mc.2.trans ?_
    rw [hbeacon, hunow, humc]
  · rw [hhc]
    refine hsleeps.hc.trans ?_
    rw [huhc]
    rfl
  · rw [hvcount _ (by rcases hc with rfl | rfl <;> decide) (by rcases hc with rfl | rfl <;> decide), hsleeps.counts c hc, huhc,
      hcount _ (by rcases hc with rfl | rfl <;> decide)]
  · rw [hpeers]
    exact hsleeps.peers

/-- The second part of O30: the completion of the final beacon. -/
theorem final_beacon_shelters (s : State) (f : TxFrame) (htx : s.lc.tx = some f) (hstamp : f.stamp.isSome = true)
    (howner : f.owner = .beacon .final) (hstanding : s.mc.standing = .finalBeacon) (hcls : s.bm.cls = .critical)
    (hreport : s.lc.slots.report = none) :
    ∃ t, exec .transmissionEnd s = .next t ∧ t.mc.standing = .sheltered ∧ t.lc.slots = Slots.empty ∧ t.lc.rx = .off ∧
      t.lc.beaconTimer = none ∧ t.mc.finalLimit = none ∧ (s.tb.source ≠ .slow → t.tb.slowAsked = true) ∧ t.peers = s.peers := by
  obtain ⟨u, hu⟩ : ∃ u, u = txDone s := ⟨_, rfl⟩
  have hsame : u.mc = s.mc ∧ u.tb = s.tb ∧ u.bm = s.bm ∧ u.peers = s.peers ∧
      u.lc = { s.lc with tx := none, quietSince := s.now } := by
    rw [hu]
    exact ⟨rfl, rfl, rfl, rfl, rfl⟩
  obtain ⟨humc, hutb, hubm, hupeers, hulc⟩ := hsame
  have hexec : exec .transmissionEnd s = .next (finish (becomeSheltered u)) := by
    rw [exec_transmissionEnd htx hstamp, howner, ← hu]
    show Host.Outcome.next (finish (if u.mc.standing == .finalBeacon then becomeSheltered u else u)) = _
    rw [humc, hstanding]
    rfl
  obtain ⟨hvmc, hvlc, hvtb, -, -, -, -, -, -, hvpeers, hvbm, -⟩ := becomeSheltered_facts (s := u) (by rw [hulc]; exact hreport)
  rw [hexec]
  generalize becomeSheltered u = v at *
  have hvstanding : v.mc.standing = .sheltered := by rw [hvmc]
  have hstays : finish v = finish v.reported := by
    refine finish_of_stays (by rw [hvstanding]; decide) (evaluate_of_sheltered (.inr ⟨hvstanding, ?_⟩))
    show v.bm.cls = _
    rw [hvbm, hubm, hcls]
  have hnow : v.lc.quietSince = v.now := by
    have hslow : (runSlow u).tb.elapsed = u.tb.elapsed := by rw [runSlow_tb_with]
    have hvnow : v.now = s.now := (congrArg Timebase.elapsed hvtb).trans (hslow.trans (congrArg Timebase.elapsed hutb))
    rw [hvlc, hulc, hvnow]
  obtain ⟨halike, hslots, htb, hlimit⟩ := finish_alikeAsleep (s := v.reported) reported_settled
    (by rw [State.awake, reported_leaves.2.2.2.2.2.2.2.2.2.2.2.2.2.2.2.2.1, hvstanding]; rfl)
    (waits_of_now (by simpa [State.now] using hnow))
  have hstand := finish_standing (s := v.reported) reported_settled
  obtain ⟨-, -, -, -, hpeers, -⟩ := halike.blocks
  rw [hstays]
  generalize finish v.reported = t at *
  refine ⟨t, rfl, hstand.trans hvstanding, ?_, ?_, ?_, ?_, fun hs => ?_, ?_⟩
  · rw [hslots]
    exact (congrArg Link.slots hvlc).trans rfl
  · rw [halike.lc.1]
    exact (congrArg Link.rx hvlc).trans rfl
  · rw [halike.lc.2]
    exact (congrArg Link.beaconTimer hvlc).trans rfl
  · rw [hlimit]
    exact (congrArg ModeCtl.finalLimit hvmc).trans rfl
  · rw [htb]
    refine (congrArg Timebase.slowAsked hvtb).trans ?_
    rw [runSlow_tb, hutb, if_neg hs]
  · rw [hpeers]
    exact hvpeers.trans hupeers

/-- Settles O30. -/
theorem beaconCompletionPutsTheStationToSleep : Obligations.BeaconCompletionPutsTheStationToSleep := by
  refine ⟨fun s f htx hstamp howner hstanding hlow hquiet hqueue hstacked hopen hfast hreport =>
      entry_beacon_sleeps s f htx hstamp howner hstanding hlow hquiet hqueue hstacked hopen hfast hreport,
    fun s f htx hstamp howner hstanding hcls hreport => final_beacon_shelters s f htx hstamp howner hstanding hcls hreport,
    fun s v x _ hcd hbus hx hv1 hv2 ht1 ht2 hpoll hcls hworks hreport => ?_⟩
  have hplausible : x.plausible = true := by simp [Reading.plausible, plausibleTemp, hv1, hv2, ht1, ht2]
  exact critical_poll_enters_shelter s v x hcd hbus hx hplausible hpoll hcls hworks hreport

end

/-! PROOFS. The evaluations behind a good poll and behind the wake hold. -/
namespace Sys2Proof.Machine
set_option Elab.async false

section
variable {s t u : State} {c : Counter} {x : Reading}

/-! ## What a good poll hands to the evaluation -/

theorem classChanged_mc : (classChanged s).mc =
    { s.mc with evalDue := (classChanged s).mc.evalDue, abandonDue := (classChanged s).mc.abandonDue } := by
  have hforced : (tellMode (forceByAllowance (bump .classChanges s))).mc = { s.mc with evalDue := true } := by
    simp [tellMode]
  have hhealth (v : State) : (ucHealth v).mc =
      { v.mc with evalDue := (ucHealth v).mc.evalDue, abandonDue := (ucHealth v).mc.abandonDue } :=
    mc_of_besideEvents ucHealth_besideEvents
  unfold classChanged
  dsimp only
  split
  · rw [hforced]
  · rw [hhealth, hforced]

theorem setClass_mc {d : BatClass} : (setClass d s).mc =
    { s.mc with evalDue := (setClass d s).mc.evalDue, abandonDue := (setClass d s).mc.abandonDue } := by
  unfold setClass
  split
  · rfl
  · exact classChanged_mc

theorem goodPoll_mc : (goodPoll x s).mc =
    { s.mc with evalDue := (goodPoll x s).mc.evalDue, abandonDue := (goodPoll x s).mc.abandonDue } := by
  obtain ⟨-, -, -, -, hmc, -⟩ := anchored_moves (s := s) (r := x)
  have hclass : (goodPoll x s).mc = (classTaken x s).mc := by
    rw [goodPoll_eq, (overtempTest_leaves _ _ _).2.2.2.2.2.2.2.2.2.2.2.1]
    rfl
  have hsoc : (socTaken x s).mc = s.mc := hmc
  rw [hclass, ← hsoc]
  exact setClass_mc

/-- What a good poll hands to the evaluation of the mode. -/
structure State.Judged (x : Reading) (s v : State) : Prop where
  tb : v.tb = s.tb
  bm : v.bm = (goodPoll x s).bm
  standing : v.mc.standing = s.mc.standing
  capture : v.mc.capture = s.mc.capture
  pins : v.pins = s.pins
  cs : v.cs = s.cs
  count : ∀ c : Counter, c.byEvents = false → c.ofHeater = false → c ≠ .classChanges → c ≠ .fullAnchors → c ≠ .emptyAnchors →
    v.count c = s.count c

theorem goodPollTaken_judged : s.Judged x (goodPollTaken x s).reported := by
  obtain ⟨w, hw⟩ : ∃ w, w = s.setTwm { s.twm with bus := none } := ⟨_, rfl⟩
  have hmc := goodPoll_mc (s := w) (x := x)
  have htaken : goodPollTaken x s = usersLeft (tellMode (goodPoll x w)) := by rw [hw]; rfl
  obtain ⟨-, hpins, htb, -, -, -, -, -, -, hcs, -⟩ := goodPoll_leaves x w
  have hwsame : w.mc = s.mc ∧ w.tb = s.tb ∧ w.pins = s.pins ∧ w.cs = s.cs := by rw [hw]; exact ⟨rfl, rfl, rfl, rfl⟩
  obtain ⟨hwmc, hwtb, hwpins, hwcs⟩ := hwsame
  refine ⟨?_, by rw [reported_leaves.2.2.2.2.2.2.2.2.2.2.2.1, goodPollTaken_bm], ?_, ?_, ?_, ?_,
    fun c hevents hheater hclass hfull hempty => ?_⟩
  · show (goodPollTaken x s).tb = _
    rw [htaken]
    simp [tellMode, htb, hwtb]
  · show (goodPollTaken x s).mc.standing = _
    rw [htaken, usersLeft_mc]
    show (goodPoll x w).mc.standing = _
    rw [hmc, hwmc]
  · show (goodPollTaken x s).mc.capture = _
    rw [htaken, usersLeft_mc]
    show (goodPoll x w).mc.capture = _
    rw [hmc, hwmc]
  · show (goodPollTaken x s).pins = _
    rw [htaken]
    simp [tellMode, hpins, hwpins]
  · show (goodPollTaken x s).cs = _
    rw [htaken]
    simp [tellMode, hcs, hwcs]
  · show (goodPollTaken x s).count c = _
    rw [htaken, usersLeft_count]
    show (goodPoll x w).count c = _
    obtain ⟨-, -, -, -, -, -, -, -, -, -, hcount⟩ := anchored_moves (s := w) (r := x)
    rw [goodPoll_count hheater hevents hclass, hcount c hfull hempty, hw]
    rfl

/-! ## The evaluation (R184) -/

/-- An evaluation that is due, in ENTERING perhaps behind an abandonment. -/
theorem mcSettleOnce_due (hdue : s.mc.evalDue = true) :
    mcSettleOnce s = evaluateMode s.reported ∨ mcSettleOnce s = evaluateMode (abandonEntry s.reported) := by
  rw [mcSettleOnce_eq, hdue]
  simp only [Bool.or_true, if_true]
  split
  · exact .inr rfl
  · exact .inl rfl

/-- A good poll whose evaluation leaves nothing reported ends with it. -/
theorem goodPoll_leads {v : Vector Byte 6} (e : State → State) (hbus : s.onBus .battery) (hx : x = readingOf v.toList)
    (hplausible : x.plausible = true) (hstart : s.mc.standing ≠ .firstPoll)
    (heval : ∀ w, w = (goodPollTaken x s).reported → s.Judged x w → w.Settled →
      evaluateMode w = e w ∧ (w.mc.standing = .entering → evaluateMode (abandonEntry w) = e w) ∧ (e w).Settled) :
    ∃ w, s.Judged x w ∧ (e w).Settled ∧ exec (.batteryResult (.complete v)) s = .next (finish (e w)) := by
  have hjudged := goodPollTaken_judged (s := s) (x := x)
  obtain ⟨hhere, hbehind, hsettled⟩ := heval _ rfl hjudged reported_settled
  have honce : mcSettleOnce (goodPollTaken x s) = e (goodPollTaken x s).reported := by
    rcases mcSettleOnce_due (goodPollTaken_due (s := s) (x := x)) with h | h
    · rw [h, hhere]
    · by_cases hs : (goodPollTaken x s).reported.mc.standing = .entering
      · rw [h, hbehind hs]
      · rw [h, abandonEntry_of_not_entering hs, hhere]
  refine ⟨_, hjudged, hsettled, ?_⟩
  rw [exec_goodPoll hbus hx hplausible hstart, finish_settle, mcSettle_of_once (by rw [honce]; exact hsettled), honce]

/-- The wanted mode outside DORMANT and SHELTER, or with a class better than LOW. -/
theorem wantedMode_of_class : (s.bm.cls = .good → s.wantedMode = .active) ∧ (s.bm.cls = .lean → s.wantedMode = .economy) ∧
    (s.bm.cls = .critical → s.wantedMode = .shelter) := by
  refine ⟨fun h => ?_, fun h => ?_, fun h => ?_⟩ <;> simp [State.wantedMode, h]

theorem wantedMode_of_not_critical (h : s.bm.cls ≠ .critical) : s.wantedMode ≠ .shelter := by
  unfold State.wantedMode
  cases hc : s.bm.cls with
  | good => simp
  | lean => simp
  | critical => exact absurd hc h
  | low =>
    dsimp only
    generalize (if s.dormant = true then s.staysDormant else s.dormancyConditions) = b
    cases b <;> simp

/-- A change between ACTIVE and ECONOMY within the new period of the last poll. -/
theorem changeAwake_of_soon {y : Standing} {n : Nat} (hperiod : (setStanding y s).pollPeriod = some (secs n))
    (hpoll : ∀ m, s.bm.lastPoll = some m → since s.now m < secs n) (hawake : y.awake = true) :
    (changeAwake y s).mc = { s.mc with standing := y } ∧ (changeAwake y s).bm = s.bm.timed s.now n ∧
    (changeAwake y s).tb = { s.tb with
      calWindow := none, calOpening := false
      calTimer := if s.tb.source = .fast then some { start := s.now, period := secs 64 } else none } ∧
    (changeAwake y s).count .calibrationDiscards =
      (if s.tb.calWindow.isSome then min (s.count .calibrationDiscards + 1) 65535 else s.count .calibrationDiscards) ∧
    (∀ c : Counter, c ≠ .calibrationDiscards → (changeAwake y s).count c = s.count c) ∧
    (changeAwake y s).pins = s.pins ∧ (changeAwake y s).cs = s.cs := by
  have hpolled : pollModeChange (setStanding y s) = (setStanding y s).setBm (s.bm.timed s.now n) := pollModeChange_of_soon hperiod hpoll
  have hruns : ((setStanding y s).setBm (s.bm.timed s.now n)).calRuns = decide (s.tb.source = .fast) := by
    unfold State.calRuns State.awake
    show (y.awake && (s.tb.source == .fast)) = _
    rw [hawake]
    cases s.tb.source <;> rfl
  have htb : ((setStanding y s).setBm (s.bm.timed s.now n)).recalibrated = { s.tb with
      calWindow := none, calOpening := false
      calTimer := if s.tb.source = .fast then some { start := s.now, period := secs 64 } else none } := by
    unfold State.recalibrated
    rw [hruns]
    simp only [decide_eq_true_eq]
    rfl
  have hchange : changeAwake y s = bumpIf s.tb.calWindow.isSome .calibrationDiscards
      (((setStanding y s).setBm (s.bm.timed s.now n)).setTb ((setStanding y s).setBm (s.bm.timed s.now n)).recalibrated) := by
    unfold changeAwake
    rw [hpolled, calModeChange_eq]
    rfl
  rw [hchange, htb]
  cases s.tb.calWindow.isSome with
  | false => exact ⟨rfl, rfl, rfl, rfl, fun _ _ => rfl, rfl, rfl⟩
  | true =>
    refine ⟨rfl, rfl, rfl, ?_, fun c hc => ?_, rfl, rfl⟩
    · show (bump _ _).count _ = _
      rw [count_bump, if_pos rfl]
      rfl
    · show (bump _ _).count _ = _
      rw [count_bump, if_neg hc.symm]
      rfl

/-! ## Where each evaluation leads -/

/-- Behind a possible abandonment the station stands in ECONOMY, WATCHING or stays where it was. -/
theorem evaluate_awake {y : Standing} (hfrom : s.mc.standing = .watching ∧ y = .active ∧ s.bm.cls = .good ∨
      s.mc.standing = .entering ∧ y = .active ∧ s.bm.cls = .good ∨
      s.mc.standing = .active ∧ y = .watching ∧ s.bm.cls = .lean) :
    evaluateMode s = changeAwake y (abandonEntry s) ∧
    (s.mc.standing = .entering → evaluateMode (abandonEntry s) = changeAwake y (abandonEntry s)) := by
  obtain ⟨hgood, hlean, -⟩ := wantedMode_of_class (s := s)
  rcases hfrom with ⟨hs, rfl, hcls⟩ | ⟨hs, rfl, hcls⟩ | ⟨hs, rfl, hcls⟩
  · refine ⟨?_, fun h => absurd (hs.symm.trans h) (by decide)⟩
    rw [abandonEntry_of_not_entering (by rw [hs]; decide)]
    unfold evaluateMode
    rw [hs, hgood hcls]
  · refine ⟨?_, fun _ => ?_⟩
    · unfold evaluateMode
      rw [hs, hgood hcls]
    · have hstanding : (abandonEntry s).mc.standing = .watching := by rw [(abandonEntry_of_entering hs).1]
      unfold evaluateMode
      rw [hstanding, wantedMode_of_class.1 (by simpa using hcls)]
  · refine ⟨?_, fun h => absurd (hs.symm.trans h) (by decide)⟩
    rw [abandonEntry_of_not_entering (by rw [hs]; decide)]
    unfold evaluateMode
    rw [hs, hlean hcls]

theorem evaluate_entering_lean (hs : s.mc.standing = .entering) (hcls : s.bm.cls = .lean) :
    evaluateMode s = abandonEntry s ∧ evaluateMode (abandonEntry s) = abandonEntry s := by
  have hstanding : (abandonEntry s).mc.standing = .watching := by rw [(abandonEntry_of_entering hs).1]
  constructor
  · unfold evaluateMode
    rw [hs, wantedMode_of_class.2.1 hcls]
  · unfold evaluateMode
    rw [hstanding, wantedMode_of_class.2.1 (by simpa using hcls)]

/-- A class that keeps the mode where it stands. -/
def State.keepsMode (s : State) : Prop :=
  (s.bm.cls = .good ∧ s.mc.standing = .active) ∨ (s.bm.cls = .lean ∧ s.mc.standing = .watching) ∨
    (s.bm.cls = .critical ∧ s.mc.standing = .sheltered) ∨ (s.bm.cls ≠ .critical ∧ s.mc.standing = .rising) ∨
    (s.bm.cls = .low ∧ s.mc.standing = .asleep ∧ s.staysDormant = true)

theorem evaluate_of_keepsMode (h : s.keepsMode) : evaluateMode s = s := by
  obtain ⟨hgood, hlean, hcritical⟩ := wantedMode_of_class (s := s)
  rcases h with ⟨hcls, hs⟩ | ⟨hcls, hs⟩ | ⟨hcls, hs⟩ | ⟨hcls, hs⟩ | ⟨hcls, hs, hstays⟩
  · unfold evaluateMode
    rw [hs, hgood hcls]
  · unfold evaluateMode
    rw [hs, hlean hcls]
  · unfold evaluateMode
    rw [hs, hcritical hcls]
  · have hwanted := wantedMode_of_not_critical hcls
    unfold evaluateMode
    rw [hs]
    cases hw : s.wantedMode <;> simp_all
  · exact evaluate_of_asleep hs hcls hstays

/-- A local wake from sleep, on a source that is SLOW. -/
theorem evaluate_asleep_wakes (hs : s.mc.standing = .asleep) (hcls : s.bm.cls = .good ∨ s.bm.cls = .lean)
    (hslow : s.tb.source = .slow) :
    evaluateMode s = bump .localWakes ((setStanding .waking s).setTb { s.tb with source := .warming, warmUp := 0 }) := by
  have heval : evaluateMode s = localWake s := by
    obtain ⟨hgood, hlean, -⟩ := wantedMode_of_class (s := s)
    unfold evaluateMode
    rcases hcls with hcls | hcls
    · rw [hs, hgood hcls]
    · rw [hs, hlean hcls]
  have hfast : runFast (setStanding .waking s) = (setStanding .waking s).setTb { s.tb with source := .warming, warmUp := 0 } :=
    if_pos (by simp [setStanding, hslow])
  rw [heval]
  unfold localWake
  rw [hs]
  dsimp only
  rw [hfast]
  exact if_neg (by simp [bump])

theorem evaluate_capturing_wakes (hs : s.mc.standing = .capturing) (hcls : s.bm.cls = .good ∨ s.bm.cls = .lean) :
    evaluateMode s = bump .localWakes (setStanding .waking s) := by
  have heval : evaluateMode s = localWake s := by
    obtain ⟨hgood, hlean, -⟩ := wantedMode_of_class (s := s)
    unfold evaluateMode
    rcases hcls with hcls | hcls
    · rw [hs, hgood hcls]
    · rw [hs, hlean hcls]
  rw [heval]
  unfold localWake
  rw [hs]

/-- A rising begins on a source that is SLOW. -/
theorem evaluate_sheltered_rises (hs : s.mc.standing = .sheltered) (hcls : s.bm.cls ≠ .critical) (hslow : s.tb.source = .slow) :
    evaluateMode s = (setStanding .rising s).setTb { s.tb with source := .warming, warmUp := 0 } := by
  have heval : evaluateMode s = rise s := by
    have hwanted := wantedMode_of_not_critical hcls
    unfold evaluateMode
    rw [hs]
    cases hw : s.wantedMode <;> simp_all
  have hfast : runFast (setStanding .rising s) = (setStanding .rising s).setTb { s.tb with source := .warming, warmUp := 0 } :=
    if_pos (by simp [setStanding, hslow])
  rw [heval]
  unfold rise
  rw [hfast]
  exact if_neg (by simp)

theorem evaluate_rising_abandons (hs : s.mc.standing = .rising) (hcls : s.bm.cls = .critical) (hsource : s.tb.source ≠ .slow) :
    evaluateMode s = (setStanding .sheltered s).setTb { s.tb with slowAsked := true } := by
  unfold evaluateMode
  rw [hs, wantedMode_of_class.2.2 hcls]
  exact if_neg (by simpa [setStanding] using hsource)

/-- From ACTIVE with the class LOW: to ECONOMY, and on to a DORMANT entry where nothing holds the station. -/
theorem evaluate_active_low_leads (hs : s.mc.standing = .active) (hcls : s.bm.cls = .low) :
    evaluateMode s = changeAwake .watching s ∨ evaluateMode s = beginEntry (changeAwake .watching s) := by
  have hdormant : s.dormant = false := by rw [State.dormant, hs]; rfl
  unfold evaluateMode State.wantedMode
  rw [hs, hcls, hdormant]
  dsimp only
  cases s.dormancyConditions with
  | false => exact .inl rfl
  | true =>
    show tryEntry _ = _ ∨ tryEntry _ = _
    unfold tryEntry
    split
    · exact .inl rfl
    · exact .inr rfl

/-- A change between ACTIVE and ECONOMY behind a good poll: the battery, the poll timer, the calibration. -/
structure State.ChangesTo (s : State) (x : Reading) (n : Nat) (t : State) : Prop where
  bm : t.bm = { (goodPoll x s).bm with pollTimer := some { start := s.bm.lastPoll.getD s.now, period := secs n } }
  tb : t.tb = { s.tb with
    calWindow := none, calOpening := false
    calTimer := if s.tb.source = .fast then some { start := s.now, period := secs 64 } else none }
  count : t.count .calibrationDiscards =
    if s.tb.calWindow.isSome then min (s.count .calibrationDiscards + 1) 65535 else s.count .calibrationDiscards

theorem goodPoll_lastPoll : (goodPoll x s).bm.lastPoll = s.bm.lastPoll := by rw [goodPoll_bm]

theorem State.Judged.abandonEntry {w : State} (h : s.Judged x w) : (abandonEntry w).tb = s.tb ∧
    (Machine.abandonEntry w).bm = (goodPoll x s).bm ∧
    (Machine.abandonEntry w).count .calibrationDiscards = s.count .calibrationDiscards ∧
    (w.mc.standing = .entering → (Machine.abandonEntry w).count .entriesAbandoned = min (s.count .entriesAbandoned + 1) 65535) := by
  have hcount := h.count .calibrationDiscards rfl rfl (by decide) (by decide) (by decide)
  refine ⟨by simp [h.tb], by simp [h.bm], ?_, fun hs => ?_⟩
  · by_cases hs : w.mc.standing = .entering
    · rw [(abandonEntry_of_entering hs).2.2.2 _ (by decide), hcount]
    · rw [abandonEntry_of_not_entering hs, hcount]
  · rw [(abandonEntry_of_entering hs).2.2.1, h.count .entriesAbandoned rfl rfl (by decide) (by decide) (by decide)]

theorem changesTo_of_changeAwake {w : State} {y : Standing} {n : Nat} (htb : w.tb = s.tb) (hbm : w.bm = (goodPoll x s).bm)
    (hcount : w.count .calibrationDiscards = s.count .calibrationDiscards)
    (hperiod : (setStanding y w).pollPeriod = some (secs n)) (hawake : y.awake = true)
    (hpoll : ∀ m, s.bm.lastPoll = some m → since s.now m < secs n) : s.ChangesTo x n (changeAwake y w) := by
  have hnow : w.now = s.now := congrArg Timebase.elapsed htb
  obtain ⟨-, hcbm, hctb, hccount, -⟩ := changeAwake_of_soon (s := w) hperiod
    (by rw [hbm, goodPoll_lastPoll, hnow]; exact hpoll) hawake
  refine ⟨?_, ?_, ?_⟩
  · rw [hcbm, hbm, hnow, Battery.timed, goodPoll_lastPoll]
    rw [← goodPoll_lastPoll (s := s) (x := x)]
  · rw [hctb, htb, hnow]
  · rw [hccount, htb, hcount]

theorem State.ChangesTo.finish {n : Nat} (h : s.ChangesTo x n t) (hset : t.Settled) : s.ChangesTo x n (finish t) := by
  obtain ⟨-, -, htb, -, -, -, -, -, hbm, -⟩ := finish_leaves_settled t hset
  exact ⟨hbm.trans h.bm, htb.trans h.tb, (finish_count hset).trans h.count⟩

end

end Sys2Proof.Machine

/-! PROOFS. The ends of good polls and of the wake hold; what O60 says. -/
namespace Sys2Proof.Machine
set_option Elab.async false

section
variable {s t : State} {v : Vector Byte 6} {x : Reading}

/-- A good poll soon behind the last one. -/
structure State.PollsWell (s : State) (v : Vector Byte 6) (x : Reading) : Prop where
  bus : s.onBus .battery
  reading : x = readingOf v.toList
  plausible : x.plausible = true
  soon : ∀ m, s.bm.lastPoll = some m → since s.now m < secs 10

theorem State.PollsWell.before {n : Nat} (h : s.PollsWell v x) (hn : secs 10 ≤ secs n) :
    ∀ m, s.bm.lastPoll = some m → since s.now m < secs n :=
  fun m hm => (h.soon m hm).trans_le hn

theorem settled_setStanding {y : Standing} (h : s.Settled) : (setStanding y s).Settled := h

theorem settled_abandonEntry (h : s.Settled) : (abandonEntry s).Settled := by
  by_cases hs : s.mc.standing = .entering
  · rw [State.Settled, (abandonEntry_of_entering hs).1]
    exact h
  · rwa [abandonEntry_of_not_entering hs]

/-- Between ACTIVE and ECONOMY a good poll's class changes the mode at once (R184, R187). -/
theorem goodPoll_changes_awake (h : s.PollsWell v x)
    (hwhen : ((goodPoll x s).bm.cls = .good ∧ (s.mc.standing = .watching ∨ s.mc.standing = .entering)) ∨
      ((goodPoll x s).bm.cls = .lean ∧ s.mc.standing = .active)) :
    ∃ t, exec (.batteryResult (.complete v)) s = .next t ∧
      t.mc.standing = (if (goodPoll x s).bm.cls = .good then .active else .watching) ∧
      s.ChangesTo x (if (goodPoll x s).bm.cls = .good then 10 else 30) t ∧
      (s.mc.standing = .entering → t.count .entriesAbandoned = min (s.count .entriesAbandoned + 1) 65535) := by
  obtain ⟨y, hy⟩ : ∃ y : Standing, y = if (goodPoll x s).bm.cls = .good then .active else .watching := ⟨_, rfl⟩
  obtain ⟨n, hn⟩ : ∃ n, n = if (goodPoll x s).bm.cls = .good then 10 else 30 := ⟨_, rfl⟩
  rw [← hy, ← hn]
  have hyn : y.awake = true ∧ secs 10 ≤ secs n ∧ ∀ u : State, (setStanding y u).pollPeriod = some (secs n) := by
    rw [hy, hn]
    split
    · exact ⟨rfl, le_rfl, fun _ => rfl⟩
    · exact ⟨rfl, by decide, fun _ => rfl⟩
  obtain ⟨hawake, hle, hperiod⟩ := hyn
  have hstart : s.mc.standing ≠ .firstPoll := by
    rcases hwhen with ⟨-, hs | hs⟩ | ⟨-, hs⟩ <;> rw [hs] <;> decide
  have hmc (u : State) (hu : u.tb = s.tb) (hbm : u.bm = (goodPoll x s).bm) :
      (changeAwake y u).mc = { u.mc with standing := y } :=
    (changeAwake_of_soon (hperiod u) (by rw [hbm, goodPoll_lastPoll, State.now, hu]; exact h.before hle) hawake).1
  obtain ⟨w, hjudged, hset, hexec⟩ := goodPoll_leads (fun w => changeAwake y (abandonEntry w)) h.bus h.reading h.plausible hstart
    fun w _ hw hwset => by
      have hfrom : w.mc.standing = .watching ∧ y = .active ∧ w.bm.cls = .good ∨
          w.mc.standing = .entering ∧ y = .active ∧ w.bm.cls = .good ∨
          w.mc.standing = .active ∧ y = .watching ∧ w.bm.cls = .lean := by
        rw [hw.standing, hw.bm, hy]
        rcases hwhen with ⟨hcls, hs | hs⟩ | ⟨hcls, hs⟩ <;> simp [hcls, hs]
      obtain ⟨hatb, habm, -, -⟩ := hw.abandonEntry
      refine ⟨(evaluate_awake hfrom).1, (evaluate_awake hfrom).2, ?_⟩
      rw [State.Settled, hmc _ hatb habm]
      exact settled_abandonEntry hwset
  obtain ⟨hatb, habm, hacount, habandoned⟩ := hjudged.abandonEntry
  refine ⟨_, hexec, ?_, ?_, fun hs => ?_⟩
  · rw [finish_standing hset, hmc _ hatb habm]
  · exact (changesTo_of_changeAwake hatb habm hacount (hperiod _) hawake (h.before hle)).finish hset
  · obtain ⟨-, -, -, -, hcount, -⟩ := changeAwake_of_soon (s := abandonEntry w) (hperiod _)
      (by rw [habm, goodPoll_lastPoll, State.now, hatb]; exact h.before hle) hawake
    rw [finish_count hset, hcount _ (by decide), habandoned (hjudged.standing.trans hs)]

/-- A LEAN class abandons an entry to DORMANT (R187). -/
theorem goodPoll_abandons_entry (h : s.PollsWell v x) (hcls : (goodPoll x s).bm.cls = .lean) (hs : s.mc.standing = .entering) :
    ∃ t, exec (.batteryResult (.complete v)) s = .next t ∧ t.mc.standing = .watching ∧ t.bm = (goodPoll x s).bm ∧
      t.count .entriesAbandoned = min (s.count .entriesAbandoned + 1) 65535 ∧ t.tb = s.tb := by
  obtain ⟨w, hjudged, hset, hexec⟩ := goodPoll_leads abandonEntry h.bus h.reading h.plausible (by rw [hs]; decide)
    fun w _ hw hwset => by
      obtain ⟨hhere, hbehind⟩ := evaluate_entering_lean (hw.standing.trans hs) (by rw [hw.bm, hcls])
      exact ⟨hhere, fun _ => hbehind, settled_abandonEntry hwset⟩
  obtain ⟨hatb, habm, -, habandoned⟩ := hjudged.abandonEntry
  obtain ⟨-, -, htb, -, -, -, -, -, hbm, -⟩ := finish_leaves_settled _ hset
  have hws := hjudged.standing.trans hs
  refine ⟨_, hexec, ?_, hbm.trans habm, ?_, htb.trans hatb⟩
  · rw [finish_standing hset, (abandonEntry_of_entering hws).1]
  · rw [finish_count hset, habandoned hws]

/-- Where the class keeps the mode, a good poll does (R184). -/
theorem goodPoll_keeps_mode (h : s.PollsWell v x)
    (hwhen : ((goodPoll x s).bm.cls = .good ∧ s.mc.standing = .active) ∨
      ((goodPoll x s).bm.cls = .lean ∧ s.mc.standing = .watching) ∨
      ((goodPoll x s).bm.cls = .critical ∧ s.mc.standing = .sheltered) ∨
      ((goodPoll x s).bm.cls ≠ .critical ∧ s.mc.standing = .rising) ∨
      ((goodPoll x s).bm.cls = .low ∧ s.mc.standing = .asleep ∧ s.openEvent = false ∧ s.uc.queue = [] ∧ s.uc.stacked = [])) :
    ∃ t, exec (.batteryResult (.complete v)) s = .next t ∧ t.mc.standing = s.mc.standing ∧ t.bm = (goodPoll x s).bm ∧
      t.tb = s.tb := by
  have hstands : s.mc.standing ≠ .firstPoll ∧ s.mc.standing ≠ .entering := by
    rcases hwhen with ⟨-, hs⟩ | ⟨-, hs⟩ | ⟨-, hs⟩ | ⟨-, hs⟩ | ⟨-, hs, -⟩ <;> rw [hs] <;> decide
  obtain ⟨w, hjudged, hset, hexec⟩ := goodPoll_leads id h.bus h.reading h.plausible hstands.1
    fun w hwt hw hwset => by
      refine ⟨evaluate_of_keepsMode ?_, fun hs => absurd (hw.standing.symm.trans hs) hstands.2, hwset⟩
      unfold State.keepsMode
      rw [hw.bm, hw.standing]
      rcases hwhen with hc | hc | hc | hc | ⟨hcls, hs, hopen, hqueue, hstacked⟩
      · exact .inl hc
      · exact .inr (.inl hc)
      · exact .inr (.inr (.inl hc))
      · exact .inr (.inr (.inr (.inl hc)))
      · have hpoor := goodPollTaken_pollsPoorly (s := s) (x := x) (.inl hcls)
        have hcu : w.cu = s.cu := by rw [hwt]; exact hpoor.same.2.2.2.2.1
        have huc : w.uc.queue = s.uc.queue ∧ w.uc.stacked = s.uc.stacked := by
          rw [hwt]
          exact ⟨hpoor.uc.1, hpoor.uc.2.1⟩
        refine .inr (.inr (.inr (.inr ⟨hcls, hs, ?_⟩)))
        have hwopen : w.openEvent = false := by rw [State.openEvent, hcu]; exact hopen
        simp [State.staysDormant, hwopen, Uplink.allEmpty, huc.1, huc.2, hqueue, hstacked]
  obtain ⟨-, -, htb, -, -, -, -, -, hbm, -⟩ := finish_leaves_settled _ hset
  exact ⟨_, hexec, (finish_standing hset).trans hjudged.standing, hbm.trans hjudged.bm, htb.trans hjudged.tb⟩

/-- The class LOW takes a station from ACTIVE to ECONOMY at least (R184 to R186). -/
theorem goodPoll_low_leaves_active (h : s.PollsWell v x) (hcls : (goodPoll x s).bm.cls = .low) (hs : s.mc.standing = .active) :
    ∃ t, exec (.batteryResult (.complete v)) s = .next t ∧ s.ChangesTo x 30 t ∧
      (t.mc.standing = .watching ∨ t.mc.standing = .entering) := by
  have hle : secs 10 ≤ secs 30 := by decide
  obtain ⟨w, hjudged, hset, hexec⟩ := goodPoll_leads evaluateMode h.bus h.reading h.plausible (by rw [hs]; decide)
    fun w _ hw hwset => by
      refine ⟨rfl, fun hentering => absurd (hw.standing.symm.trans hentering) (by rw [hs]; decide), ?_⟩
      obtain ⟨hmc, -⟩ := changeAwake_of_soon (s := w) (y := .watching) (n := 30) rfl
        (by rw [hw.bm, goodPoll_lastPoll, State.now, hw.tb]; exact h.before hle) rfl
      rcases evaluate_active_low_leads (hw.standing.trans hs) (by rw [hw.bm, hcls]) with heval | heval
      · rw [heval, State.Settled, hmc]
        exact hwset
      · rw [heval, State.Settled, beginEntry_moves.1, hmc]
        exact hwset
  have hchanges : s.ChangesTo x 30 (changeAwake .watching w) := changesTo_of_changeAwake hjudged.tb hjudged.bm
    (hjudged.count _ rfl rfl (by decide) (by decide) (by decide)) rfl rfl (h.before hle)
  refine ⟨_, hexec, ?_, ?_⟩
  · refine State.ChangesTo.finish ?_ hset
    rcases evaluate_active_low_leads (hjudged.standing.trans hs) (by rw [hjudged.bm, hcls]) with heval | heval
    · rw [heval]
      exact hchanges
    · rw [heval]
      obtain ⟨-, -, -, hcount⟩ := beginEntry_moves (s := changeAwake .watching w)
      exact ⟨by simpa using hchanges.bm, by simpa using hchanges.tb, (hcount _ (by decide)).trans hchanges.count⟩
  · rw [finish_standing hset]
    rcases evaluate_active_low_leads (hjudged.standing.trans hs) (by rw [hjudged.bm, hcls]) with heval | heval
    · rw [heval, changeAwake_standing]
      exact .inl rfl
    · rw [heval, beginEntry_moves.1]
      exact .inr rfl

/-- A better class than LOW wakes a station that sleeps (R191). -/
theorem goodPoll_wakes (h : s.PollsWell v x) (hcls : (goodPoll x s).bm.cls = .good ∨ (goodPoll x s).bm.cls = .lean)
    (hs : s.mc.standing = .asleep) (hslow : s.tb.source = .slow) :
    ∃ t, exec (.batteryResult (.complete v)) s = .next t ∧ t.mc.standing = .waking ∧ t.bm = (goodPoll x s).bm ∧
      t.tb = { s.tb with source := .warming, warmUp := 0 } ∧ t.mc.osc.isSome = true ∧
      t.count .localWakes = min (s.count .localWakes + 1) 65535 := by
  obtain ⟨w, hjudged, hset, hexec⟩ := goodPoll_leads
    (fun w => bump .localWakes ((setStanding .waking w).setTb { w.tb with source := .warming, warmUp := 0 }))
    h.bus h.reading h.plausible (by rw [hs]; decide) fun w _ hw hwset =>
      ⟨evaluate_asleep_wakes (hw.standing.trans hs) (by rw [hw.bm]; exact hcls) (by rw [hw.tb]; exact hslow),
        fun hentering => absurd (hw.standing.symm.trans hentering) (by rw [hs]; decide), hwset⟩
  obtain ⟨-, -, htb, -, -, -, -, -, hbm, -⟩ := finish_leaves_settled _ hset
  refine ⟨_, hexec, finish_standing hset, hbm.trans hjudged.bm, ?_, ?_, ?_⟩
  · rw [htb, ← hjudged.tb]
    rfl
  · rw [(finish_osc hset).1]
    exact syncOsc_osc_isSome (by simp [bump])
  · rw [finish_count hset, count_bump, if_pos rfl]
    have hcount := hjudged.count .localWakes rfl rfl (by decide) (by decide) (by decide)
    rw [← hcount]
    rfl

/-- In a capture the local wake is noted (R191). -/
theorem goodPoll_wakes_capture (h : s.PollsWell v x) (hcls : (goodPoll x s).bm.cls = .good ∨ (goodPoll x s).bm.cls = .lean)
    (hs : s.mc.standing = .capturing) :
    ∃ t, exec (.batteryResult (.complete v)) s = .next t ∧ t.mc.standing = .waking ∧ t.mc.capture = s.mc.capture ∧
      t.bm = (goodPoll x s).bm ∧ t.tb = s.tb ∧ t.count .localWakes = min (s.count .localWakes + 1) 65535 := by
  obtain ⟨w, hjudged, hset, hexec⟩ := goodPoll_leads (fun w => bump .localWakes (setStanding .waking w))
    h.bus h.reading h.plausible (by rw [hs]; decide) fun w _ hw hwset =>
      ⟨evaluate_capturing_wakes (hw.standing.trans hs) (by rw [hw.bm]; exact hcls),
        fun hentering => absurd (hw.standing.symm.trans hentering) (by rw [hs]; decide), hwset⟩
  obtain ⟨-, -, htb, -, -, -, -, -, hbm, -⟩ := finish_leaves_settled _ hset
  refine ⟨_, hexec, finish_standing hset, (finish_same _ hset).capture.trans hjudged.capture, hbm.trans hjudged.bm,
    htb.trans hjudged.tb, ?_⟩
  rw [finish_count hset, count_bump, if_pos rfl]
  have hcount := hjudged.count .localWakes rfl rfl (by decide) (by decide) (by decide)
  rw [← hcount]
  rfl

/-- A class other than CRITICAL begins a rising (R195). -/
theorem goodPoll_rises (h : s.PollsWell v x) (hcls : (goodPoll x s).bm.cls ≠ .critical) (hs : s.mc.standing = .sheltered)
    (hslow : s.tb.source = .slow) :
    ∃ t, exec (.batteryResult (.complete v)) s = .next t ∧ t.mc.standing = .rising ∧ t.bm = (goodPoll x s).bm ∧
      t.tb = { s.tb with source := .warming, warmUp := 0 } ∧ t.mc.osc.isSome = true ∧
      t.count .shelterExits = s.count .shelterExits := by
  obtain ⟨w, hjudged, hset, hexec⟩ := goodPoll_leads
    (fun w => (setStanding .rising w).setTb { w.tb with source := .warming, warmUp := 0 })
    h.bus h.reading h.plausible (by rw [hs]; decide) fun w _ hw hwset =>
      ⟨evaluate_sheltered_rises (hw.standing.trans hs) (by rw [hw.bm]; exact hcls) (by rw [hw.tb]; exact hslow),
        fun hentering => absurd (hw.standing.symm.trans hentering) (by rw [hs]; decide), hwset⟩
  obtain ⟨-, -, htb, -, -, -, -, -, hbm, -⟩ := finish_leaves_settled _ hset
  refine ⟨_, hexec, finish_standing hset, hbm.trans hjudged.bm, ?_, ?_, ?_⟩
  · rw [htb, ← hjudged.tb]
    rfl
  · rw [(finish_osc hset).1]
    exact syncOsc_osc_isSome (by simp)
  · rw [finish_count hset]
    exact hjudged.count .shelterExits rfl rfl (by decide) (by decide) (by decide)

/-- CRITICAL in RISING abandons it (R195). -/
theorem goodPoll_abandons_rising (h : s.PollsWell v x) (hcls : (goodPoll x s).bm.cls = .critical) (hs : s.mc.standing = .rising)
    (hsource : s.tb.source = .warming) :
    ∃ t, exec (.batteryResult (.complete v)) s = .next t ∧ t.mc.standing = .sheltered ∧ t.bm = (goodPoll x s).bm ∧
      t.tb = { s.tb with slowAsked := true } := by
  obtain ⟨w, hjudged, hset, hexec⟩ := goodPoll_leads (fun w => (setStanding .sheltered w).setTb { w.tb with slowAsked := true })
    h.bus h.reading h.plausible (by rw [hs]; decide) fun w _ hw hwset =>
      ⟨evaluate_rising_abandons (hw.standing.trans hs) (by rw [hw.bm]; exact hcls) (by rw [hw.tb, hsource]; decide),
        fun hentering => absurd (hw.standing.symm.trans hentering) (by rw [hs]; decide), hwset⟩
  obtain ⟨-, -, htb, -, -, -, -, -, hbm, -⟩ := finish_leaves_settled _ hset
  refine ⟨_, hexec, finish_standing hset, hbm.trans hjudged.bm, ?_⟩
  rw [htb, ← hjudged.tb]
  rfl

/-! ## The wake hold's expiry (R192) -/

/-- The wake hold has expired and an evaluation is due. -/
def holdEnded (s : State) : State := tellMode (s.setMc { s.mc with wakeHold := none })

/-- The state that the expiry of the wake hold evaluates. -/
def holdJudged (s : State) : State := s.setMc { s.mc with wakeHold := none }

theorem exec_wakeHoldExpiry (hdue : timerDue s.mc.wakeHold s.now = true) (hset : s.Settled) (hs : s.mc.standing = .watching)
    (hend : (evaluateMode (holdJudged s)).Settled) :
    exec .wakeHoldExpiry s = .next (finish (evaluateMode (holdJudged s))) := by
  have hreported : (holdEnded s).reported = holdJudged s := by
    rw [← reported_of_settled (s := holdJudged s) hset]
    rfl
  have honce : mcSettleOnce (holdEnded s) = evaluateMode (holdJudged s) := by
    have habandon : abandonEntry (holdJudged s) = holdJudged s := abandonEntry_of_not_entering (by simp [holdJudged, hs])
    rcases mcSettleOnce_due (s := holdEnded s) rfl with h | h
    · rw [h, hreported]
    · rw [h, hreported, habandon]
  show Host.Outcome.next (if timerDue s.mc.wakeHold s.now then finish (holdEnded s) else s) = _
  rw [if_pos hdue, finish_settle, mcSettle_of_once (by rw [honce]; exact hend), honce]

theorem evaluate_watching_low (hs : s.mc.standing = .watching) (hcls : s.bm.cls = .low) (hdormancy : s.dormancyConditions = true) :
    evaluateMode s = if s.hot then s else beginEntry s := by
  have hdormant : s.dormant = false := by rw [State.dormant, hs]; rfl
  have hwanted : s.wantedMode = .dormant := by simp [State.wantedMode, hcls, hdormant, hdormancy]
  unfold evaluateMode
  rw [hs, hwanted]
  rfl

theorem holdJudged_low (hs : s.mc.standing = .watching) (hcls : s.bm.cls = .low) (hopen : s.openEvent = false)
    (hquiet : s.td.active = false) (hqueue : s.uc.queue = []) (hstacked : s.uc.stacked = [])
    (hwatch : s.cs.image.mWatch ≤ s.watchCount) (hlisten : s.listenOnly = false) :
    evaluateMode (holdJudged s) = if s.hot then holdJudged s else beginEntry (holdJudged s) := by
  refine evaluate_watching_low hs hcls ?_
  have hopen' : (holdJudged s).openEvent = false := hopen
  have hlisten' : (holdJudged s).listenOnly = false := hlisten
  have hwatch' : (holdJudged s).cs.image.mWatch ≤ (holdJudged s).watchCount := hwatch
  unfold State.dormancyConditions
  rw [hopen', hlisten']
  simp only [hwatch', decide_true]
  simp [holdJudged, hquiet, Uplink.allEmpty, hqueue, hstacked]

end

end Sys2Proof.Machine

section
open Sys2Proof Sys2Proof.Machine
set_option Elab.async false

/-- The first part of O60: the expiry of the wake hold. -/
theorem wake_hold_evaluates (s : State) (hset : s.Settled) (hs : s.mc.standing = .watching)
    (hdue : timerDue s.mc.wakeHold s.now = true) (hcd : s.pins.lkCd = true) :
    (s.bm.cls = .lean → ∃ t, exec .wakeHoldExpiry s = .next t ∧ t.mc.standing = .watching ∧ t.mc.wakeHold = none ∧
      t.lc.slots = s.lc.slots ∧ t.count .dormantEntriesBegun = s.count .dormantEntriesBegun) ∧
    (s.bm.cls = .low → s.openEvent = false → s.td.active = false → s.uc.queue = [] → s.uc.stacked = [] →
      s.cs.image.mWatch ≤ s.watchCount → s.listenOnly = false →
      ∃ t, exec .wakeHoldExpiry s = .next t ∧ t.mc.wakeHold = none ∧
        (s.hot = false → t.mc.standing = .entering ∧ t.lc.slots.beacon = some { moment := s.now, mark := .entry } ∧
          t.count .dormantEntriesBegun = min (s.count .dormantEntriesBegun + 1) 65535) ∧
        (s.hot = true → t.mc.standing = .watching ∧ t.lc.slots = s.lc.slots)) := by
  have hjset : (holdJudged s).Settled := hset
  have hslots (u : State) (hu : u.Settled) (hpins : u.pins = s.pins) : (finish u).lc.slots = u.lc.slots := by
    obtain ⟨a, b, m, hlc⟩ := finish_lc_of_busy hu (by rw [hpins]; exact hcd)
    rw [hlc]
  refine ⟨fun hcls => ?_, fun hcls hopen hquiet hqueue hstacked hwatch hlisten => ?_⟩
  · have hkeeps : evaluateMode (holdJudged s) = holdJudged s := evaluate_of_keepsMode (.inr (.inl ⟨hcls, hs⟩))
    rw [exec_wakeHoldExpiry hdue hset hs (by rw [hkeeps]; exact hjset), hkeeps]
    exact ⟨_, rfl, (finish_standing hjset).trans hs, (finish_same _ hjset).wakeHold, hslots _ hjset rfl, finish_count hjset⟩
  · have heval := holdJudged_low hs hcls hopen hquiet hqueue hstacked hwatch hlisten
    obtain ⟨hbmc, hblc, hbcount, -⟩ := beginEntry_moves (s := holdJudged s)
    have hbset : (beginEntry (holdJudged s)).Settled := by
      rw [State.Settled, hbmc]
      exact hset
    cases hhot : s.hot with
    | true =>
      have heval' : evaluateMode (holdJudged s) = holdJudged s := by rw [heval, hhot]; rfl
      rw [exec_wakeHoldExpiry hdue hset hs (by rw [heval']; exact hjset), heval']
      exact ⟨_, rfl, (finish_same _ hjset).wakeHold, fun h => (by cases h),
        fun _ => ⟨(finish_standing hjset).trans hs, hslots _ hjset rfl⟩⟩
    | false =>
      have heval' : evaluateMode (holdJudged s) = beginEntry (holdJudged s) := by rw [heval, hhot]; rfl
      rw [exec_wakeHoldExpiry hdue hset hs (by rw [heval']; exact hbset), heval']
      refine ⟨_, rfl, (finish_same _ hbset).wakeHold.trans (by rw [hbmc]; rfl),
        fun _ => ⟨(finish_standing hbset).trans (by rw [hbmc]), ?_, (finish_count hbset).trans hbcount⟩, fun h => (by cases h)⟩
      rw [hslots _ hbset (by simp [holdJudged]), hblc]
      rfl

/-- The third part of O60: the limit of the final beacon. -/
theorem final_limit_shelters (s : State) (hs : s.mc.standing = .finalBeacon) (hdue : timerDue s.mc.finalLimit s.now = true)
    (hcls : s.bm.cls = .critical) (hreport : s.lc.slots.report = none) :
    ∃ t, exec .finalBeaconTimeout s = .next t ∧ t.mc.standing = .sheltered ∧ t.mc.finalLimit = none ∧
      t.lc.slots = Slots.empty ∧ t.lc.rx = .off ∧ t.lc.beaconTimer = none ∧
      t.count .finalBeaconsAbandoned = min (s.count .finalBeaconsAbandoned + 1) 65535 ∧
      (s.tb.source ≠ .slow → t.tb.slowAsked = true) ∧ t.peers = s.peers ∧ t.cu = s.cu := by
  obtain ⟨u, hu⟩ : ∃ u, u = bump .finalBeaconsAbandoned (s.setSlots { s.lc.slots with beacon := none }) := ⟨_, rfl⟩
  have hsame : u.tb = s.tb ∧ u.bm = s.bm ∧ u.peers = s.peers ∧ u.cu = s.cu ∧
      u.lc = { s.lc with slots := { s.lc.slots with beacon := none } } ∧
      u.count .finalBeaconsAbandoned = min (s.count .finalBeaconsAbandoned + 1) 65535 := by
    rw [hu, count_bump, if_pos rfl]
    exact ⟨rfl, rfl, rfl, rfl, rfl, rfl⟩
  obtain ⟨hutb, hubm, hupeers, hucu, hulc, hucount⟩ := hsame
  have hexec : exec .finalBeaconTimeout s = .next (finish (becomeSheltered u)) := by
    show Host.Outcome.next (if s.mc.standing == .finalBeacon && timerDue s.mc.finalLimit s.now then _ else s) = _
    rw [if_pos (by simp [hs, hdue]), hu]
  obtain ⟨hvmc, hvlc, hvtb, hvcu, -, -, -, -, -, hvpeers, hvbm, -, -, -, hvcounters⟩ :=
    becomeSheltered_facts (s := u) (by rw [hulc]; exact hreport)
  rw [hexec]
  generalize becomeSheltered u = v at *
  have hvstanding : v.mc.standing = .sheltered := by rw [hvmc]
  have hstays : finish v = finish v.reported := by
    refine finish_of_stays (by rw [hvstanding]; decide) (evaluate_of_sheltered (.inr ⟨hvstanding, ?_⟩))
    show v.bm.cls = _
    rw [hvbm, hubm, hcls]
  obtain ⟨halike, hslots, htb, hlimit⟩ := finish_alikeAsleep (s := v.reported) reported_settled
    (by rw [State.awake, reported_leaves.2.2.2.2.2.2.2.2.2.2.2.2.2.2.2.2.1, hvstanding]; rfl)
    (.inl (by rw [reported_leaves.2.2.2.2.1, hvlc]; rfl))
  have hstand := finish_standing (s := v.reported) reported_settled
  obtain ⟨-, -, -, -, hpeers, hcu, -⟩ := halike.blocks
  rw [hstays]
  generalize finish v.reported = t at *
  refine ⟨t, rfl, hstand.trans hvstanding, ?_, ?_, ?_, ?_, ?_, fun h => ?_, ?_, ?_⟩
  · rw [hlimit]
    exact (congrArg ModeCtl.finalLimit hvmc).trans rfl
  · rw [hslots]
    exact (congrArg Link.slots hvlc).trans rfl
  · rw [halike.lc.1]
    exact (congrArg Link.rx hvlc).trans rfl
  · rw [halike.lc.2]
    exact (congrArg Link.beaconTimer hvlc).trans rfl
  · rw [halike.count _ (by decide) (by decide)]
    exact (count_of_counters_eq hvcounters).trans hucount
  · rw [htb]
    refine (congrArg Timebase.slowAsked hvtb).trans ?_
    rw [runSlow_tb, hutb, if_neg h]
  · rw [hpeers]
    exact hvpeers.trans hupeers
  · rw [hcu]
    exact hvcu.trans hucu

/-- Settles O60. -/
theorem holdsEndInAnEvaluation : Obligations.HoldsEndInAnEvaluation := by
  refine ⟨fun s hset hs hdue hcd => wake_hold_evaluates s hset hs hdue hcd,
    fun s v x _ _ hbus hx hv1 hv2 ht1 ht2 hsoon => ?_,
    fun s hs hdue hcls hreport => final_limit_shelters s hs hdue hcls hreport⟩
  have hwell : s.PollsWell v x := ⟨hbus, hx, by simp [Reading.plausible, plausibleTemp, hv1, hv2, ht1, ht2], hsoon⟩
  intro c here polls stays recalibrates abandons
  refine ⟨fun hwhen => ?_, fun hcls hs => goodPoll_abandons_entry hwell hcls hs, fun hwhen => goodPoll_keeps_mode hwell hwhen,
    fun hcls hs => ?_, fun hcls hs hslow => goodPoll_wakes hwell hcls hs hslow, fun hcls hs => goodPoll_wakes_capture hwell hcls hs,
    fun hcls hs hslow => goodPoll_rises hwell hcls hs hslow, fun hcls hs hsource => goodPoll_abandons_rising hwell hcls hs hsource⟩
  · obtain ⟨t, hexec, hstanding, hchanges, habandons⟩ := goodPoll_changes_awake hwell hwhen
    exact ⟨t, hexec, hstanding, hchanges.bm, ⟨hchanges.tb, hchanges.count⟩, habandons⟩
  · obtain ⟨t, hexec, hchanges, hstanding⟩ := goodPoll_low_leaves_active hwell hcls hs
    exact ⟨t, hexec, hchanges.bm, ⟨hchanges.tb, hchanges.count⟩, hstanding⟩

end

/-! PROOFS. Brief runs, captures and false wakes; what O58 says. -/
namespace Sys2Proof.Machine
set_option Elab.async false

section
variable {s t u : State} {c : Counter}

/-! ## A brief run begins (R189, R202) -/

/-- The free-bus check of a transaction that starts. -/
theorem twStart_facts {x : TwUser} : ∃ b, (twStart x s).twm.bus = some b ∧ b.user = x ∧ (twStart x s).twm.place x = none ∧
    b.check = (if s.pins.scl = false then .waiting else if s.pins.sda = true then .clear else .recovered) ∧
    (twStart x s).count .busRecoveries = (if s.pins.scl = true ∧ s.pins.sda = false then min (s.count .busRecoveries + 1) 65535
      else s.count .busRecoveries) := by
  have hplace : (s.twm.setPlace x none).place x = none := by rw [setPlace_place, if_pos rfl]
  have hplace' (b : Option TwBus) : ({ s.twm.setPlace x none with bus := b } : TwoWire).place x = none := by
    rw [← hplace]
    cases x <;> rfl
  cases hscl : s.pins.scl with
  | false =>
    refine ⟨{ user := x, wanted := (s.twm.place x).any (fun r => r.wanted), check := .waiting }, ?_, rfl, ?_, by simp, ?_⟩
    all_goals
      unfold twStart
      simp [hscl, hplace']
  | true =>
    cases hsda : s.pins.sda with
    | false =>
      refine ⟨{ user := x, wanted := (s.twm.place x).any (fun r => r.wanted), check := .recovered }, ?_, rfl, ?_, by simp, ?_⟩
      all_goals
        unfold twStart freeBusCheck
        simp [hscl, hsda, hplace']
    | true =>
      refine ⟨{ user := x, wanted := (s.twm.place x).any (fun r => r.wanted), check := .clear }, ?_, rfl, ?_, by simp, ?_⟩
      all_goals
        unfold twStart freeBusCheck
        simp [hscl, hsda, hplace']

/-- The end of the step in which a brief run takes the oscillator over: the first full place starts. -/
theorem finish_starts_transaction {x : TwUser} (hset : s.Settled) (hosc : s.mc.osc.isSome = true) (husers : s.mc.users.isEmpty = false)
    (hhanded : s.mc.handed = true) (hbus : s.twm.bus = none) (hfull : s.twm.firstFull = some x) :
    ∃ b, (finish s).twm.bus = some b ∧ b.user = x ∧ (finish s).twm.place x = none ∧
      b.check = (if s.pins.scl = false then .waiting else if s.pins.sda = true then .clear else .recovered) ∧
      (finish s).count .busRecoveries = (if s.pins.scl = true ∧ s.pins.sda = false then min (s.count .busRecoveries + 1) 65535
        else s.count .busRecoveries) := by
  obtain ⟨k, hk⟩ : ∃ k, k = modemKick s := ⟨_, rfl⟩
  have hsame : k.pins = s.pins ∧ k.twm = s.twm ∧ k.mc = s.mc ∧ k.tb = s.tb := by simp [hk]
  obtain ⟨hpins, htwm, hmc, htb⟩ := hsame
  have hcount : k.count .busRecoveries = s.count .busRecoveries := by rw [hk, modemKick_count]
  have hsync : syncOsc k = k := by
    refine syncOsc_of_rests k ?_
    rw [State.OscRests, if_pos (.inr (by rw [hmc]; exact husers)), hmc]
    exact hosc
  have hkick : twKick k = twStart x k := by
    unfold twKick State.oscReady
    rw [htwm, hbus, hmc, hhanded, hfull]
    rfl
  obtain ⟨b, hb, huser, hplace, hcheck, hrecoveries⟩ := twStart_facts (s := k) (x := x)
  have hfinish : finish s = lcKick (twStart x k) := by rw [finish_eq_follow hset, ← hk, hsync, hkick]
  have hltwm : (lcKick (twStart x k)).twm = (twStart x k).twm := by simp
  rw [hfinish, hltwm]
  refine ⟨b, hb, huser, hplace, by rw [hcheck, hpins], ?_⟩
  rw [lcKick_count (by decide), hrecoveries, hpins, hcount]

/-! ## A beacon leaves the slots (R189) -/

/-- A beacon and its user leave a state in which nothing is due. -/
def beaconSkipped (s : State) : State :=
  bump .skippedBeacons ((s.setSlots { s.lc.slots with beacon := none }).setMc
    { s.mc with users := { s.mc.users with beacon := none } })

theorem exec_briefRunBeaconSkip {m : Elapsed} {q : BeaconReq} (hm : s.mc.users.beacon = some m) (hq : s.lc.slots.beacon = some q)
    (hmark : q.mark ≠ .final) :
    exec .briefRunBeaconSkip s = .next (if secs 4 ≤ since s.now m then finish (beaconSkipped s) else s) := by
  show Host.Outcome.next (if s.mc.users.beacon.any (fun t => decide (secs 4 ≤ since s.now t)) &&
    s.lc.slots.beacon.any (fun q => q.mark != .final) then finish (beaconSkipped s) else s) = _
  rw [hm, hq]
  simp [hmark]

theorem syncOsc_handed_of_false (h : s.mc.handed = false) : (syncOsc s).mc.handed = false := by
  unfold syncOsc
  (repeat' split) <;> simp [h]

theorem beaconSkipped_finish_slots (h : s.Rested) : (finish (beaconSkipped s)).lc.slots = { s.lc.slots with beacon := none } := by
  obtain ⟨u, hu⟩ : ∃ u, u = beaconSkipped s := ⟨_, rfl⟩
  have hset : u.Settled := by rw [hu]; exact h.settled
  have hmodem : u.ModemRests := by rw [hu]; exact h.modem
  have hslots : u.lc.slots = { s.lc.slots with beacon := none } := by rw [hu]; rfl
  have hbus : (syncOsc u).BusRests := by
    have htwm : (syncOsc u).twm = s.twm := by rw [(syncOsc_leaves u).2.2.2.2.2.2.2.2.2.2.2.2.2.1, hu]; rfl
    unfold State.BusRests
    rw [htwm]
    rcases h.bus with hb | hb | hb
    · exact .inl hb
    · exact .inr (.inl (syncOsc_handed_of_false (by rw [hu]; exact hb)))
    · exact .inr (.inr hb)
  have hlc : (syncOsc u).lc = u.lc := by simp
  have hlink : (syncOsc u).lc.access ≠ .idle ∨ (syncOsc u).canTransmit = false ∨ (syncOsc u).lc.slots.allEmpty = true := by
    have hrests := h.link
    unfold State.LinkRests at hrests
    rw [hlc]
    by_cases hall : s.lc.slots.allEmpty = true
    · right; right
      have hq : s.lc.slots.beacon = none := by
        simp [Slots.allEmpty] at hall
        simp [hall]
      rw [hslots, ← hq]
      exact hall
    · rw [if_neg hall] at hrests
      rcases hrests with hidle | hcan
      · exact .inl (by rw [hu]; exact hidle)
      · right; left
        have hmono : (syncOsc u).canTransmit = true → s.canTransmit = true := by
          intro ht
          have hstanding : (syncOsc u).mc.standing = s.mc.standing := by
            rw [(syncOsc_same u).standing, hu]
            rfl
          have hhanded : s.mc.handed = false → (syncOsc u).mc.handed = false :=
            fun hf => syncOsc_handed_of_false (by rw [hu]; exact hf)
          have hcs : (syncOsc u).cs = s.cs := by simp [hu, beaconSkipped, bump]
          have htx : (syncOsc u).lc.tx = s.lc.tx := by rw [hlc, hu]; rfl
          unfold State.canTransmit State.oscReady State.awake State.listenOnly State.ownId at ht ⊢
          rw [hstanding, hcs, htx] at ht
          cases hh : s.mc.handed with
          | false => rw [hhanded hh] at ht; simp at ht
          | true =>
            generalize (syncOsc u).mc.handed = b at ht
            cases b with
            | false => simp at ht
            | true => exact ht
        cases hc : (syncOsc u).canTransmit with
        | false => rfl
        | true => rw [hmono hc] at hcan; cases hcan
  obtain ⟨a, b, m, hkick⟩ := lcKick_lc hlink
  rw [← hu, finish_eq_follow hset, modemKick_of_rests u hmodem, twKick_of_rests _ hbus, hkick, hlc]
  exact hslots

/-! ## A false wake (R190) -/

@[simp] theorem beginTx_rx {o : TxOwner} {kind : FrameKind} {x : Nat} {w m : Bool} {b : List Byte} :
    (beginTx o kind x w m b s).lc.rx = s.lc.rx := rfl

theorem startTransmission_rx : (startTransmission s).lc.rx = s.lc.rx := by
  have hnotice (q : NoticeReq) (v : State) : (startNotice q v).lc.rx = v.lc.rx := rfl
  have hdeclaration (r : EventRec) (v : State) : (startDeclaration r v).lc.rx = v.lc.rx := rfl
  have hbeacon (q : BeaconReq) (v : State) : (startBeacon q v).lc.rx = v.lc.rx := by
    have hslots (w : State) (x : Slots) : (w.setSlots x).lc.rx = w.lc.rx := rfl
    have hbump (b : Bool) (d : Counter) (w : State) : (bumpIf b d w).lc = w.lc := by cases b <;> rfl
    unfold startBeacon beaconTimerRestart
    dsimp only
    (repeat' split) <;> simp [hslots, hbump]
  have hrest (v : State) : (arbitrateRest v).lc.rx = v.lc.rx := by
    unfold arbitrateRest
    (repeat' split) <;> first | exact hnotice _ _ | exact hbeacon _ _ | rfl
  unfold startTransmission
  (repeat' split)
  · exact hdeclaration _ _
  · exact hrest _
  · exact hrest _

theorem lcKick_rx : (lcKick s).lc.rx = s.lc.rx := by
  unfold lcKick enterGuard
  (repeat' split) <;> first | exact startTransmission_rx | rfl

theorem finish_rx (h : s.Settled) : (finish s).lc.rx = s.lc.rx := by
  rw [finish_eq_follow h, lcKick_rx]
  simp

/-- The capture has ended without its frame, a held request being dropped. -/
def captureDropped (s : State) : State := csDropHeld (bump .falseWakes (s.setMc { s.mc with capture := none }))

theorem captureDropped_facts : (captureDropped s).mc = { s.mc with capture := none } ∧ (captureDropped s).tb = s.tb ∧
    (captureDropped s).lc = s.lc ∧ (captureDropped s).td = s.td ∧ (captureDropped s).hc = s.hc ∧
    (captureDropped s).peers = s.peers ∧ (captureDropped s).bm = s.bm ∧ (captureDropped s).twm = s.twm ∧
    (captureDropped s).cs.image = s.cs.image ∧
    (captureDropped s).count .falseWakes = min (s.count .falseWakes + 1) 65535 ∧
    (∀ x, s.cs.pending = some x → x.held = true → (captureDropped s).cs.pending = none) ∧
    (∀ x, (captureDropped s).cs.pending = some x → x.held = false) := by
  have hcount : (captureDropped s).count .falseWakes = min (s.count .falseWakes + 1) 65535 := by
    have hbump : (bump .falseWakes (s.setMc { s.mc with capture := none })).count .falseWakes = min (s.count .falseWakes + 1) 65535 := by
      rw [count_bump, if_pos rfl]
      rfl
    rw [← hbump]
    exact count_of_counters_eq (by simp [captureDropped])
  refine ⟨?_, by simp [captureDropped], by simp [captureDropped], by simp [captureDropped], by simp [captureDropped],
    by simp [captureDropped], by simp [captureDropped], by simp [captureDropped], ?_, hcount, fun x hx hheld => ?_, fun x hx => ?_⟩
  · show (csDropHeld _).mc = _
    simp
  · unfold captureDropped csDropHeld
    split <;> rfl
  · have hdrop : (bump .falseWakes (s.setMc { s.mc with capture := none })).cs.pending.any (fun q => q.held) = true := by
      show s.cs.pending.any _ = true
      simp [hx, hheld]
    unfold captureDropped csDropHeld
    rw [if_pos hdrop]
    rfl
  · unfold captureDropped csDropHeld at hx
    split at hx
    · cases hx
    · next hkeep =>
      have hsame : s.cs.pending = some x := hx
      have hkeep' : ¬ s.cs.pending.any (fun q => q.held) = true := hkeep
      rw [hsame] at hkeep'
      simpa using hkeep'

theorem falseWake_of_capturing (h : s.mc.standing = .capturing) : falseWake s =
    (runSlow (setStanding .asleep (captureDropped s))).setLc
      { (runSlow (setStanding .asleep (captureDropped s))).lc with rx := .off } := by
  have hstanding : (captureDropped s).mc.standing = .capturing := by rw [captureDropped_facts.1]; exact h
  show (if (captureDropped s).mc.standing == .capturing then _ else _) = _
  rw [hstanding]
  rfl

theorem falseWake_of_waking (h : s.mc.standing = .waking) : falseWake s =
    if s.tb.source = .fast then enterWatching (captureDropped s) else captureDropped s := by
  have hstanding : (captureDropped s).mc.standing = .waking := by rw [captureDropped_facts.1]; exact h
  have htb : (captureDropped s).tb = s.tb := captureDropped_facts.2.1
  show (if (captureDropped s).mc.standing == .capturing then _ else if (captureDropped s).mc.standing == .waking &&
    (captureDropped s).tb.source == .fast then _ else _) = _
  rw [hstanding, htb]
  cases s.tb.source <;> rfl

theorem falseWake_of_other (hcapturing : s.mc.standing ≠ .capturing) (hwaking : s.mc.standing ≠ .waking) :
    falseWake s = captureDropped s := by
  have hstanding : (captureDropped s).mc.standing = s.mc.standing := by rw [captureDropped_facts.1]
  show (if (captureDropped s).mc.standing == .capturing then _ else if (captureDropped s).mc.standing == .waking &&
    (captureDropped s).tb.source == .fast then _ else _) = _
  rw [hstanding, if_neg (by simpa using hcapturing), if_neg (by simp [hwaking])]
  rfl

/-! ## A false wake that meets the class CRITICAL (R194) -/

/-- A capture has ended for good: none runs, a false wake is counted as before, and no request is pending where none was. -/
structure State.AfterCapture (s t : State) : Prop where
  capture : t.mc.capture = none
  count : t.count .falseWakes = s.count .falseWakes
  pending : s.cs.pending = none → t.cs.pending = none

theorem restart_afterCapture : s.AfterCapture (restart s) ∧ (restart s).starting := by
  have hvalues : (restartValues s).mc.capture = none ∧ (restartValues s).cs.pending = none ∧
      (restartValues s).count .falseWakes = s.count .falseWakes := by
    refine ⟨rfl, rfl, ?_⟩
    have hbump : (bumpIf s.tb.calWindow.isSome .calibrationDiscards s).count .falseWakes = s.count .falseWakes := by simp
    exact hbump
  obtain ⟨hcapture, hpending, hcount⟩ := hvalues
  unfold restart
  dsimp only
  split
  · next h => exact ⟨⟨hcapture, hcount, fun _ => hpending⟩, .inl (by simpa using h)⟩
  · obtain ⟨-, hmc, hcs⟩ := enterLoading_moves (s := restartValues s)
    have hecount : (enterLoading (restartValues s)).count .falseWakes = (restartValues s).count .falseWakes := by
      refine count_of_counters_eq ?_
      unfold enterLoading runFast
      dsimp only
      (repeat' split) <;> rfl
    exact ⟨⟨by rw [hmc]; exact hcapture, hecount.trans hcount, fun _ => by rw [hcs]; exact hpending⟩, .inr (by rw [hmc])⟩

/-- The station is SHELTERED, a report segment not yet told to CS. -/
def shelteredNow (s : State) : State :=
  let u := (setStanding .sheltered s).setLc { s.lc with slots := .empty, rx := .off, beaconTimer := none }
  tellMode (runSlow (u.setMc { u.mc with finalLimit := none, users := { u.mc.users with beacon := none, final := false } }))

theorem becomeSheltered_eq : becomeSheltered s = if s.lc.slots.report.isSome then csEnd (shelteredNow s) else shelteredNow s := rfl

theorem shelteredNow_afterCapture (h : s.mc.capture = none) : s.AfterCapture (shelteredNow s) ∧
    (shelteredNow s).mc.standing = .sheltered ∧ (shelteredNow s).bm = s.bm := by
  refine ⟨⟨?_, ?_, fun hp => ?_⟩, ?_, ?_⟩
  · simp [shelteredNow, tellMode, setStanding, h]
  · exact count_of_counters_eq (by simp [shelteredNow, tellMode, setStanding])
  · simpa [shelteredNow, tellMode, setStanding] using hp
  · simp [shelteredNow, tellMode, setStanding]
  · simp [shelteredNow, tellMode, setStanding]

/-- An end of a request keeps the end of a capture, RESTART or not (R203, R205). -/
theorem csEnd_afterCapture (h : s.mc.capture = none) : s.AfterCapture (csEnd s) ∧
    ((csEnd s).starting ∨ (csEnd s).mc = s.mc ∧ (csEnd s).bm = s.bm) := by
  unfold csEnd
  split
  · exact ⟨⟨h, rfl, id⟩, .inr ⟨rfl, rfl⟩⟩
  · dsimp only
    split
    · obtain ⟨hafter, hstarting⟩ := restart_afterCapture (s := s.setCs { s.cs with pending := none })
      exact ⟨⟨hafter.capture, hafter.count, fun _ => hafter.pending rfl⟩, .inl hstarting⟩
    · exact ⟨⟨h, rfl, fun _ => rfl⟩, .inr ⟨rfl, rfl⟩⟩

/-- The entry to SHELTER of a station whose capture has ended, and that it stays there or restarts. -/
theorem shelterEntry_afterCapture (hpoll : ∀ m, s.bm.lastPoll = some m → since s.now m < secs 600) (hcls : s.bm.cls = .critical) :
    s.AfterCapture (shelterEntry s) ∧ ((shelterEntry s).starting ∨ (shelterEntry s).mc.standing = .finalBeacon ∨
      (shelterEntry s).mc.standing = .sheltered ∧ (shelterEntry s).bm.cls = .critical) := by
  have hwinds := shelterSlept_winds hpoll
  obtain ⟨hstanding, -, hcapture, -⟩ := shelterSlept_moves hpoll
  have hpending : s.cs.pending = none → (shelterSlept s).cs.pending = none := by
    intro hp
    rw [hwinds.pending]
    unfold csDropHeld
    split
    · rfl
    · exact hp
  have hslept : s.AfterCapture (shelterSlept s) := ⟨hcapture, hwinds.count _ rfl (by decide) (by decide) (by decide), hpending⟩
  have hwcls : (shelterSlept s).bm.cls = .critical := by
    rw [hwinds.bm]
    exact hcls
  rw [shelterEntry_eq]
  generalize shelterSlept s = w at *
  split
  · rw [becomeSheltered_eq]
    obtain ⟨hnow, hnstanding, hnbm⟩ := shelteredNow_afterCapture hcapture
    generalize shelteredNow w = n at *
    have hn : s.AfterCapture n := ⟨hnow.capture, hnow.count.trans hslept.count, fun hp => hnow.pending (hslept.pending hp)⟩
    split
    · obtain ⟨hend, hwhere⟩ := csEnd_afterCapture hnow.capture
      refine ⟨⟨hend.capture, hend.count.trans hn.count, fun hp => hend.pending (hn.pending hp)⟩, ?_⟩
      rcases hwhere with hstarting | ⟨hmc, hbm⟩
      · exact .inl hstarting
      · exact .inr (.inr ⟨by rw [hmc]; exact hnstanding, by rw [hbm, hnbm]; exact hwcls⟩)
    · exact ⟨hn, .inr (.inr ⟨hnstanding, by rw [hnbm]; exact hwcls⟩)⟩
  · exact ⟨⟨hslept.capture, hslept.count, hslept.pending⟩, .inr (.inl hstanding)⟩

/-- Behind a change of mode the last poll is not older than the mode's period. -/
theorem pollModeChange_soon {p : Nat} (hperiod : s.pollPeriod = some p) :
    ∀ m, (pollModeChange s).bm.lastPoll = some m → since s.now m < p := by
  have hpos := pollPeriod_pos hperiod
  unfold pollModeChange
  rw [hperiod]
  intro m hm
  cases hlast : s.bm.lastPoll with
  | none =>
    rw [hlast] at hm
    dsimp only at hm
    have hm' : s.bm.lastPoll = some m := hm
    rw [hlast] at hm'
    cases hm'
  | some e =>
    rw [hlast] at hm
    dsimp only at hm
    split at hm
    · rw [makePoll_lastPoll] at hm
      obtain rfl := Option.some.inj hm
      rw [since_self]
      exact hpos
    · next hle =>
      have hm' : s.bm.lastPoll = some m := hm
      rw [hlast] at hm'
      obtain rfl := Option.some.inj hm'
      omega

/-- The station stands where no evaluation moves it: in START, or in SHELTER. -/
def State.standsStill (s : State) : Prop :=
  s.starting ∨ s.mc.standing = .finalBeacon ∨ s.mc.standing = .sheltered ∧ s.bm.cls = .critical

theorem State.standsStill.stays (h : s.standsStill) :
    s.mc.standing ≠ .entering ∧ evaluateMode s.reported = s.reported := by
  rcases h with h | h | ⟨h, hc⟩
  · refine ⟨by rcases h with h | h <;> rw [h] <;> decide, ?_⟩
    have hs : s.reported.mc.standing = .crystalWait ∨ s.reported.mc.standing = .loading := h
    unfold evaluateMode
    rcases hs with hs | hs <;> rw [hs]
  · exact ⟨by rw [h]; decide, evaluate_of_sheltered (.inl h)⟩
  · exact ⟨by rw [h]; decide, evaluate_of_sheltered (.inr ⟨h, hc⟩)⟩

/-- In WATCHING with the class CRITICAL and an evaluation due the step ends with the entry to SHELTER. -/
theorem finish_watching_critical (hs : s.mc.standing = .watching) (hcls : s.bm.cls = .critical) (hdue : s.mc.evalDue = true)
    (hstill : (shelterEntry s.reported).standsStill) : finish s = finish (shelterEntry s.reported).reported := by
  have honce : mcSettleOnce s = shelterEntry s.reported := by
    rw [mcSettleOnce_critical (.inl (by rw [hs]; rfl)) hcls hdue, abandonEntry_of_not_entering]
    rw [show s.reported.mc.standing = s.mc.standing from rfl, hs]
    decide
  obtain ⟨hentering, hstays⟩ := hstill.stays
  generalize shelterEntry s.reported = w at *
  have htwice : mcSettleOnce (mcSettleOnce s) = w.reported := by rw [honce, mcSettleOnce_of_stays hentering hstays]
  rw [finish_settle, mcSettle_of_twice (by rw [htwice]; exact reported_settled), htwice]

/-- The entry to WATCHING with the class CRITICAL, its evaluation not taken yet. -/
theorem enterWatching_poor (hcls : s.bm.cls = .critical) (hfree : ∀ x, s.cs.pending = some x → x.held = false) :
    s.AfterCapture (enterWatching s) ∧ (enterWatching s).mc.standing = .watching ∧ (enterWatching s).bm.cls = .critical ∧
    (enterWatching s).mc.evalDue = true ∧
    ∀ m, (enterWatching s).bm.lastPoll = some m → since (enterWatching s).now m < secs 600 := by
  obtain ⟨henter, hto, hstands⟩ := enterWatching_of_free hfree
  have hbegun := watchBegun_watchingAwake (s := s)
  obtain ⟨-, -, -, hbbm, -, hbcs⟩ := hbegun.rest
  have hcs : (enterWatching s).cs = s.cs := hto.rest.2.2.2.2.2.2.trans hbcs
  have hperiod : (watchingAwake s).pollPeriod = some (secs 30) := by
    unfold State.pollPeriod
    rw [hbegun.mc]
    rfl
  have hlast : (enterWatching s).bm.lastPoll = (pollModeChange (watchingAwake s)).bm.lastPoll := by rw [henter]; rfl
  have hnow : (enterWatching s).now = (watchingAwake s).now := hto.moments.2.2.2.2.1
  refine ⟨⟨hto.moments.2.1.trans hbegun.moments.2.1, ?_, fun hp => by rw [hcs]; exact hp⟩, hstands, ?_, by rw [henter]; rfl, ?_⟩
  · rw [hto.count _ rfl (by decide), hbegun.count _ (by decide)]
  · rcases hto.cls with h | ⟨h, -⟩
    · rw [h, hbbm, hcls]
    · rw [hbbm, hcls] at h
      simp at h
  · rw [hlast, hnow]
    exact fun m hm => (pollModeChange_soon hperiod m hm).trans (by decide)

/-- The evaluation behind the entry to WATCHING with the class CRITICAL: the station goes on to SHELTER. -/
theorem enterWatching_critical (hcls : s.bm.cls = .critical) (hfree : ∀ x, s.cs.pending = some x → x.held = false) :
    ∃ w, s.AfterCapture w ∧ finish (enterWatching s) = finish w.reported := by
  obtain ⟨hbefore, hstands, hvcls, hdue, hsoon⟩ := enterWatching_poor hcls hfree
  generalize enterWatching s = v at *
  obtain ⟨hafter, hstill⟩ := shelterEntry_afterCapture (s := v.reported) hsoon hvcls
  exact ⟨shelterEntry v.reported,
    ⟨hafter.capture, hafter.count.trans hbefore.count, fun hp => hafter.pending (hbefore.pending hp)⟩,
    finish_watching_critical hstands hvcls hdue hstill⟩

end

end Sys2Proof.Machine

/-! PROOFS. What O58 says. -/
section
open Sys2Proof Sys2Proof.Machine
set_option Elab.async false

/-- The first part of O58: a brief run takes the oscillator over. -/
theorem brief_run_takes_over (s : State) (hset : s.Settled) (husers : s.mc.users.isEmpty = false) (hosc : s.mc.osc = some 256)
    (hhanded : s.mc.handed = false) :
    ∃ t, exec .briefRunReady s = .next t ∧ t.mc.handed = true ∧ t.mc.standing = s.mc.standing ∧ t.mc.users = s.mc.users ∧
      (∀ u, s.twm.bus = none → s.twm.firstFull = some u → ∃ b, t.twm.bus = some b ∧ b.user = u ∧ t.twm.place u = none ∧
        b.check = (if s.pins.scl = false then .waiting else if s.pins.sda = true then .clear else .recovered) ∧
        t.count .busRecoveries = (if s.pins.scl = true ∧ s.pins.sda = false then min (s.count .busRecoveries + 1) 65535
          else s.count .busRecoveries)) ∧
      t.tb = s.tb ∧ t.bm = s.bm ∧ t.peers = s.peers := by
  obtain ⟨v, hv⟩ : ∃ v, v = s.setMc { s.mc with handed := true } := ⟨_, rfl⟩
  have hexec : exec .briefRunReady s = .next (finish v) := by
    show Host.Outcome.next (if !s.mc.users.isEmpty && s.mc.osc.any (fun n => decide (256 ≤ n)) && !s.mc.handed then _ else s) = _
    rw [if_pos (by simp [husers, hosc, hhanded]), hv]
  have hvset : v.Settled := by rw [hv]; exact hset
  have hvmc : v.mc = { s.mc with handed := true } := by rw [hv]; rfl
  have hvsame : v.twm = s.twm ∧ v.pins = s.pins ∧ v.tb = s.tb ∧ v.bm = s.bm ∧ v.peers = s.peers := by
    rw [hv]
    exact ⟨rfl, rfl, rfl, rfl, rfl⟩
  obtain ⟨hvtwm, hvpins, hvtb, hvbm, hvpeers⟩ := hvsame
  have hvcount : v.count .busRecoveries = s.count .busRecoveries := by rw [hv]; rfl
  have hsync : syncOsc v = v := by
    refine syncOsc_of_rests v ?_
    rw [State.OscRests, if_pos (.inr (by rw [hvmc]; exact husers)), hvmc]
    simp [hosc]
  have hsame := finish_same v hvset
  obtain ⟨-, -, htb, -, hpeers, -, -, -, hbm, -⟩ := finish_leaves_settled v hvset
  refine ⟨_, hexec, ?_, ?_, ?_, fun u hbus hfull => ?_, htb.trans hvtb, hbm.trans hvbm, hpeers.trans hvpeers⟩
  · rw [(finish_osc hvset).2, hsync, hvmc]
  · rw [hsame.standing, hvmc]
  · rw [hsame.users, hvmc]
  · obtain ⟨b, hb, huser, hplace, hcheck, hrecoveries⟩ := finish_starts_transaction (x := u) hvset (by rw [hvmc]; simp [hosc])
      (by rw [hvmc]; exact husers) (by rw [hvmc]) (by rw [hvtwm]; exact hbus) (by rw [hvtwm]; exact hfull)
    rw [hvpins, hvcount] at hrecoveries
    rw [hvpins] at hcheck
    exact ⟨b, hb, huser, hplace, hcheck, hrecoveries⟩

/-- The second part of O58: a beacon that has not started. -/
theorem brief_run_skips_beacon (s : State) (m : Elapsed) (q : BeaconReq) (hrest : s.Rested) (hm : s.mc.users.beacon = some m)
    (hq : s.lc.slots.beacon = some q) (hmark : q.mark ≠ .final) :
    (secs 4 ≤ since s.now m → ∃ t, exec .briefRunBeaconSkip s = .next t ∧ t.lc.slots = { s.lc.slots with beacon := none } ∧
      t.mc.users = { s.mc.users with beacon := none } ∧ t.count .skippedBeacons = min (s.count .skippedBeacons + 1) 65535 ∧
      t.mc.standing = s.mc.standing ∧ t.tb = s.tb) ∧
    (since s.now m < secs 4 → exec .briefRunBeaconSkip s = .next s) := by
  have hexec := exec_briefRunBeaconSkip hm hq hmark
  refine ⟨fun hlate => ?_, fun hearly => ?_⟩
  · rw [if_pos hlate] at hexec
    have hset : (beaconSkipped s).Settled := hrest.settled
    obtain ⟨-, -, htb, -⟩ := finish_leaves_settled _ hset
    refine ⟨_, hexec, beaconSkipped_finish_slots hrest, finish_users hset, ?_, finish_standing hset, htb⟩
    rw [finish_count hset, beaconSkipped, count_bump, if_pos rfl]
    rfl
  · rw [if_neg (by omega)] at hexec
    exact hexec

/-- The third part of O58: a wake pattern starts a capture. -/
theorem wake_pattern_captures (s : State) (hset : s.Settled) (hs : s.mc.standing = .asleep) (htx : s.lc.tx = none) :
    ∃ t, exec .wakePatternDetect s = .next t ∧ t.mc.standing = .capturing ∧
      t.mc.capture = some { start := s.now, period := 209715 } ∧ t.mc.osc.isSome ∧
      t.tb = (if s.tb.source = .slow then { s.tb with source := .warming, warmUp := 0 } else s.tb) ∧
      (s.tb.source = .fast → s.lc.rx = .off → t.lc.rx = .hunting) ∧ (s.tb.source ≠ .fast → t.lc.rx = s.lc.rx) ∧
      t.td = s.td ∧ t.hc = s.hc ∧ t.peers = s.peers ∧ t.bm = s.bm ∧ t.cu = s.cu ∧ t.cs = s.cs := by
  obtain ⟨c, hc⟩ : ∃ c, c = s.setMc { s.mc with standing := .capturing, capture := s.startTimer (millis 200) } := ⟨_, rfl⟩
  obtain ⟨v, hv⟩ : ∃ v, v = beginCapture s := ⟨_, rfl⟩
  have hexec : exec .wakePatternDetect s = .next (finish v) := by
    show Host.Outcome.next (if s.watches then finish (beginCapture s) else s) = _
    rw [if_pos (by simp [State.watches, hs, htx]), hv]
  have hbegin : v = if (runFast c).tb.source == .fast then receiverOn (runFast c) else runFast c := by rw [hv, hc]; rfl
  have hctb : c.tb = s.tb ∧ c.lc = s.lc ∧ c.mc = { s.mc with standing := .capturing, capture := s.startTimer (millis 200) } ∧
      c.td = s.td ∧ c.hc = s.hc ∧ c.peers = s.peers ∧ c.bm = s.bm ∧ c.cu = s.cu ∧ c.cs = s.cs := by
    rw [hc]
    exact ⟨rfl, rfl, rfl, rfl, rfl, rfl, rfl, rfl, rfl⟩
  obtain ⟨hctb, hclc, hcmc, hctd, hchc, hcpeers, hcbm, hccu, hccs⟩ := hctb
  have hftb : (runFast c).tb = if s.tb.source = .slow then { s.tb with source := .warming, warmUp := 0 } else s.tb := by
    rw [← hctb]
    unfold runFast
    split <;> simp_all
  have hsame : v.tb = (runFast c).tb ∧ v.mc = c.mc ∧ v.td = c.td ∧ v.hc = c.hc ∧ v.peers = c.peers ∧ v.bm = c.bm ∧ v.cu = c.cu ∧
      v.cs = c.cs := by
    rw [hbegin]
    split <;> simp
  obtain ⟨hvtb, hvmc, hvtd, hvhc, hvpeers, hvbm, hvcu, hvcs⟩ := hsame
  have hvset : v.Settled := by
    rw [State.Settled, hvmc, hcmc]
    exact hset
  have hvawake : v.awake = false := by rw [State.awake, hvmc, hcmc]; rfl
  have hvstanding : v.mc.standing = .capturing := by rw [hvmc, hcmc]
  have hsource : v.tb.source ≠ .slow := by
    rw [hvtb, hftb]
    split
    · simp
    · assumption
  obtain ⟨-, -, htb, -, hpeers, -, -, htd, hbm, hhc, hcs, -⟩ := finish_leaves_settled v hvset
  have hmc := finish_same v hvset
  have hcu : (finish v).cu = v.cu := by
    obtain ⟨a, b, m, hkick⟩ := lcKick_lc (t := twKick (syncOsc v)) (.inr (.inl (by
      have hstanding : (twKick (syncOsc v)).mc.standing = .capturing := by
        rw [← hvstanding]
        simpa using (syncOsc_same v).standing
      unfold State.canTransmit State.awake
      rw [hstanding]
      simp [Standing.awake])))
    rw [finish_eq_follow hvset, modemKick_of_not_awake hvawake, hkick]
    simp
  refine ⟨_, hexec, hmc.standing.trans hvstanding, ?_, ?_, htb.trans (hvtb.trans hftb), fun hfast hoff => ?_, fun hne => ?_,
    htd.trans (hvtd.trans hctd), hhc.trans (hvhc.trans hchc), hpeers.trans (hvpeers.trans hcpeers), hbm.trans (hvbm.trans hcbm),
    hcu.trans (hvcu.trans hccu), hcs.trans (hvcs.trans hccs)⟩
  · rw [hmc.capture, hvmc, hcmc]
    rfl
  · rw [(finish_osc hvset).1]
    exact syncOsc_osc_isSome hsource
  · rw [finish_rx hvset, hbegin, if_pos (by rw [hftb, if_neg (by rw [hfast]; decide), hfast]; rfl), receiverOn_lc]
    simp [hclc, hoff]
  · have hnot : (runFast c).tb.source ≠ .fast := by
      rw [hftb]
      split
      · simp
      · exact hne
    rw [finish_rx hvset, hbegin, if_neg (by simpa using hnot)]
    simp [hclc]

/-- What O58 says of every false wake. -/
theorem capture_limit_ends (s : State) (hset : s.Settled) (hdue : timerDue s.mc.capture s.now = true) :
    ∃ t, exec .captureLimitExpiry s = .next t ∧ t = finish (falseWake s) ∧ t.mc.capture = none ∧
      t.count .falseWakes = min (s.count .falseWakes + 1) 65535 ∧
      (∀ x, s.cs.pending = some x → x.held = true → t.cs.pending = none) := by
  obtain ⟨humc, hutb, -, -, -, -, hubm, -, -, hucount, hudrop, hufree⟩ := captureDropped_facts (s := s)
  have huset : (captureDropped s).Settled := by
    rw [State.Settled, humc]
    exact hset
  have hexec : exec .captureLimitExpiry s = .next (finish (falseWake s)) := by
    show Host.Outcome.next (if timerDue s.mc.capture s.now then finish (falseWake s) else s) = _
    rw [if_pos hdue]
  have hends (w : State) (h : (captureDropped s).AfterCapture w) (hw : w.Settled) : (finish w).mc.capture = none ∧
      (finish w).count .falseWakes = min (s.count .falseWakes + 1) 65535 ∧
      (∀ x, s.cs.pending = some x → x.held = true → (finish w).cs.pending = none) := by
    obtain ⟨-, -, -, -, -, -, -, -, -, -, hcs, -⟩ := finish_leaves_settled w hw
    refine ⟨(finish_same w hw).capture.trans h.capture, (finish_count hw).trans (h.count.trans hucount), fun x hx hheld => ?_⟩
    rw [hcs]
    exact h.pending (hudrop x hx hheld)
  have hself : (captureDropped s).AfterCapture (captureDropped s) := ⟨by rw [humc], rfl, id⟩
  refine ⟨_, hexec, rfl, ?_⟩
  by_cases hcapturing : s.mc.standing = .capturing
  · rw [falseWake_of_capturing hcapturing]
    refine hends _ ⟨?_, ?_, fun hp => by simpa [setStanding] using hp⟩ ?_
    · simp [setStanding, humc]
    · exact count_of_counters_eq (by simp [setStanding])
    · simpa [State.Settled, setStanding] using huset
  · by_cases hwaking : s.mc.standing = .waking
    · rw [falseWake_of_waking hwaking]
      split
      · by_cases hcls : (captureDropped s).bm.cls = .critical
        · obtain ⟨w, hafter, hfinish⟩ := enterWatching_critical hcls hufree
          rw [hfinish]
          exact hends w.reported ⟨hafter.capture, hafter.count, hafter.pending⟩ reported_settled
        · have hwakes := wakes_enterWatching hcls hufree
          rw [finish_settle]
          refine hends _ ⟨?_, ?_, fun hp => ?_⟩ (mcSettle_settled _)
          · exact hwakes.awake.moments.2.1.trans hwakes.begun.moments.2.1
          · rw [hwakes.awake.count _ rfl (by decide), hwakes.begun.count _ (by decide)]
          · rw [hwakes.awake.rest.2.2.2.2.2.2, hwakes.begun.rest.2.2.2.2.2]
            exact hp
      · exact hends _ hself huset
    · rw [falseWake_of_other hcapturing hwaking]
      exact hends _ hself huset

/-- Settles O58. -/
theorem briefRunServesItsUsers : Obligations.BriefRunServesItsUsers := by
  refine ⟨fun s hset husers hosc hhanded => brief_run_takes_over s hset husers hosc hhanded,
    fun s m q hrest hm hq hmark => brief_run_skips_beacon s m q hrest hm hq hmark,
    fun s hset hs htx => wake_pattern_captures s hset hs htx, fun s hset hdue => ?_⟩
  obtain ⟨t, hexec, ht, hcapture, hcount, hpending⟩ := capture_limit_ends s hset hdue
  obtain ⟨humc, hutb, hulc, hutd, huhc, hupeers, hubm, hutwm, huimage, -, -, hufree⟩ := captureDropped_facts (s := s)
  have huset : (captureDropped s).Settled := by
    rw [State.Settled, humc]
    exact hset
  refine ⟨t, hexec, hcapture, hcount, hpending, fun hs => ?_, fun hs hsource => ?_, fun hs hfast hcls => ?_⟩
  · rw [ht, falseWake_of_capturing hs]
    have hvset : ((runSlow (setStanding .asleep (captureDropped s))).setLc
        { (runSlow (setStanding .asleep (captureDropped s))).lc with rx := .off }).Settled := by
      simpa [State.Settled, setStanding] using huset
    obtain ⟨-, -, htb, -, hpeers, -, -, htd, hbm, hhc, -, -⟩ := finish_leaves_settled _ hvset
    refine ⟨?_, finish_rx hvset, ?_, htd.trans ?_, hhc.trans ?_, hpeers.trans ?_, hbm.trans ?_⟩
    · rw [finish_standing hvset]
      simp [setStanding]
    · rw [htb, ← hutb]
      have hslow : (runSlow (setStanding .asleep (captureDropped s))).tb = (runSlow (captureDropped s)).tb := by
        rw [runSlow_tb, runSlow_tb]
        rfl
      exact hslow.trans runSlow_tb
    · simp [setStanding, hutd]
    · simp [setStanding, huhc]
    · simp [setStanding, hupeers]
    · simp [setStanding, hubm]
  · rw [ht, falseWake_of_waking hs, if_neg hsource]
    obtain ⟨-, -, htb, -, hpeers, -, -, htd, hbm, hhc, -, -⟩ := finish_leaves_settled _ huset
    refine ⟨?_, htb.trans hutb, htd.trans hutd, hhc.trans huhc, hpeers.trans hupeers, hbm.trans hubm⟩
    rw [finish_standing huset, humc]
    exact hs
  · have hwakes := wakes_enterWatching (s := captureDropped s) (by rw [hubm]; exact hcls) hufree
    have hset' : (mcSettle (enterWatching (captureDropped s))).Settled := mcSettle_settled _
    obtain ⟨hhold, -, -, htime, -, htd⟩ := hwakes.awake.moments
    obtain ⟨hbhold, -, -, hbtime, -, hbtd⟩ := hwakes.begun.moments
    rw [ht, falseWake_of_waking hs, if_pos hfast, finish_settle]
    obtain ⟨-, -, hftb, -, -, -, hfsi, hftd, -⟩ := finish_leaves_settled _ hset'
    refine ⟨?_, fun hne => ?_, fun hgood hfree => ?_, ?_, ?_, ?_⟩
    · rw [(finish_same _ hset').wakeHold, hhold, hbhold]
      unfold State.startTimer State.now
      rw [hutb, huimage]
    · rw [finish_standing hset']
      exact hwakes.watching (by rw [hubm]; exact hne)
    · rw [finish_standing hset']
      exact hwakes.active (by rw [hubm]; exact hgood) (by rw [hutwm]; exact hfree)
    · rw [hftd, htd, hbtd]
    · rw [hfsi, hwakes.awake.rest.2.2.2.2.2.1, hwakes.begun.si]
    · rw [hftb, htime, hbtime, hutb]

end

/-! PROOFS. The end of a transmission. -/
namespace Sys2Proof.Machine
set_option Elab.async false

section
variable {s t u : State} {c : Counter}

/-! ## The follow-ups behind the end of a transmission -/

/-- The follow-ups of a step leave the records beside their uplink states. -/
theorem modemKick_events : ∃ f : EventRec → UplinkState,
    (modemKick s).cu.events = s.cu.events.map (fun r => { r with uplink := f r }) := by
  have hsame {v : State} (h : v.cu = s.cu) : ∃ f : EventRec → UplinkState, v.cu.events = s.cu.events.map (fun r => { r with uplink := f r }) :=
    ⟨fun r => r.uplink, by rw [h]; simp⟩
  have hsync (v : State) (hv : v.cu = s.cu) : ∃ f : EventRec → UplinkState,
      (ucSync v).cu.events = s.cu.events.map (fun r => { r with uplink := f r }) :=
    ⟨uplinkStateOf v.uc, by rw [← hv]; rfl⟩
  have hstart (v : State) (hv : v.cu = s.cu) : ∃ f : EventRec → UplinkState,
      (ucStart v).cu.events = s.cu.events.map (fun r => { r with uplink := f r }) := by
    unfold ucStart
    split
    · exact hsame hv
    · exact hsync _ hv
  have hwait : ∃ f : EventRec → UplinkState, (enterReadyWait s).cu.events = s.cu.events.map (fun r => { r with uplink := f r }) := by
    unfold enterReadyWait
    dsimp only
    split
    · exact hstart _ rfl
    · exact hsame rfl
  unfold modemKick
  (repeat' split) <;> first | exact hwait | exact hsame rfl

/-- Where the modem and the bus rest and no transmission can start, the end of a step leaves all but the access to the medium. -/
theorem finish_of_waits (hset : s.Settled) (hmodem : s.ModemRests) (hosc : s.OscRests) (hbus : s.BusRests) (hwaits : s.waits) :
    ∃ a b m, finish s = s.setLc { s.lc with access := a, busy := b, attempt := m } := by
  obtain ⟨a, b, m, hkick⟩ := lcKick_of_waits hwaits
  exact ⟨a, b, m, by
    rw [finish_eq_follow hset, modemKick_of_rests s hmodem, syncOsc_of_rests s hosc, twKick_of_rests s hbus, hkick]⟩

theorem txDone_facts : (txDone s).mc = s.mc ∧ (txDone s).tb = s.tb ∧ (txDone s).cs = s.cs ∧ (txDone s).cu = s.cu ∧
    (txDone s).td = s.td ∧ (txDone s).uc = s.uc ∧ (txDone s).twm = s.twm ∧ (txDone s).pins = s.pins ∧
    (txDone s).lc = { s.lc with tx := none, quietSince := s.now } ∧
    (txDone s).count .framesSent = min (s.count .framesSent + 1) 65535 ∧
    ∀ c : Counter, c ≠ .framesSent → (txDone s).count c = s.count c := by
  refine ⟨rfl, rfl, rfl, rfl, rfl, rfl, rfl, rfl, rfl, ?_, fun c hc => ?_⟩
  · rw [txDone, count_bump, if_pos rfl]
    rfl
  · rw [txDone, count_bump, if_neg hc.symm]
    rfl

theorem txDone_waits : (txDone s).waits := waits_of_now rfl

/-! ## Owners that only take note (R103, R130) -/

/-- What stands behind the end of a frame whose owner only takes note, the step's end included. -/
structure State.Notes (s t : State) : Prop where
  lc : t.lc.tx = none ∧ t.lc.quietSince = s.now
  count : t.count .framesSent = min (s.count .framesSent + 1) 65535
  rest : t.tb = s.tb ∧ t.rmu = s.rmu ∧ t.peers = s.peers ∧ t.tau = s.tau ∧ t.si = s.si ∧ t.bm = s.bm ∧ t.hc = s.hc ∧ t.cs = s.cs ∧
    t.cu.entries = s.cu.entries

/-- A state that an owner has left settled, its medium not quiet yet. -/
structure State.TookNote (s v : State) : Prop where
  settled : v.Settled
  lc : v.lc.tx = none ∧ v.lc.quietSince = s.now
  count : v.count .framesSent = min (s.count .framesSent + 1) 65535
  rest : v.tb = s.tb ∧ v.rmu = s.rmu ∧ v.peers = s.peers ∧ v.tau = s.tau ∧ v.si = s.si ∧ v.bm = s.bm ∧ v.hc = s.hc ∧ v.cs = s.cs ∧
    v.cu.entries = s.cu.entries

theorem State.TookNote.notes {v : State} (h : s.TookNote v) : s.Notes (finish v) := by
  obtain ⟨htb, hrmu, hpeers, htau, hsi, hbm, hhc, hcs, hentries⟩ := h.rest
  obtain ⟨-, -, hftb, hfrmu, hfpeers, hftau, hfsi, -, hfbm, hfhc, hfcs, -⟩ := finish_leaves_settled v h.settled
  have hwaits : v.waits := waits_of_now (h.lc.2.trans (congrArg Timebase.elapsed htb).symm)
  obtain ⟨a, b, m, hlc⟩ := finish_lc_of_waits h.settled hwaits
  refine ⟨?_, (finish_count h.settled).trans h.count, hftb.trans htb, hfrmu.trans hrmu, hfpeers.trans hpeers, hftau.trans htau,
    hfsi.trans hsi, hfbm.trans hbm, hfhc.trans hhc, hfcs.trans hcs, (finish_entries h.settled).trans hentries⟩
  rw [hlc]
  exact h.lc

theorem txDone_tookNote (hset : s.Settled) : s.TookNote (txDone s) :=
  ⟨hset, ⟨rfl, rfl⟩, txDone_facts.2.2.2.2.2.2.2.2.2.1, rfl, rfl, rfl, rfl, rfl, rfl, rfl, rfl, rfl⟩

theorem tookNote_onset (hset : s.Settled) {m : Elapsed} : s.TookNote (reportCompletion (.notice .onset m) (txDone s)) ∧
    (reportCompletion (.notice .onset m) (txDone s)).td = { s.td with
      outstanding := if s.td.outstanding = some m then none else s.td.outstanding } := by
  have hdone := txDone_tookNote hset
  have htd : (txDone s).td = s.td := rfl
  have hsplit : reportCompletion (.notice .onset m) (txDone s) =
      if s.td.outstanding = some m then (txDone s).setTd { s.td with outstanding := none } else txDone s := by
    show (if (txDone s).td.outstanding == some m then _ else _) = _
    rw [htd]
    by_cases h : s.td.outstanding = some m
    · rw [if_pos h, if_pos (by simp [h])]
    · rw [if_neg h, if_neg (by simpa using h)]
  rw [hsplit]
  by_cases h : s.td.outstanding = some m
  · rw [if_pos h, if_pos h]
    exact ⟨⟨hdone.settled, hdone.lc, hdone.count, hdone.rest⟩, rfl⟩
  · rw [if_neg h, if_neg h]
    exact ⟨hdone, rfl⟩

theorem requestDeclaration_lc : (requestDeclaration s).lc.tx = s.lc.tx ∧ (requestDeclaration s).lc.quietSince = s.lc.quietSince := by
  unfold requestDeclaration
  split <;> exact ⟨rfl, rfl⟩

theorem cuRequest_tx : (cuRequest s).lc.tx = s.lc.tx ∧ (cuRequest s).lc.quietSince = s.lc.quietSince := by
  unfold cuRequest
  split
  · exact requestDeclaration_lc
  · exact ⟨rfl, rfl⟩

/-- A record whose declaration has gone out. -/
def EventRec.declarationSent (r : EventRec) (update : Nat) : EventRec :=
  { r with carried := none, declOwed := r.declOwed && !(r.state == .declared && r.update == update) }

theorem cuDeclarationSent_eq {k update : Nat} :
    cuDeclarationSent k update s = cuRequest (updRec k (fun r => r.declarationSent update) s) := rfl

theorem tookNote_declaration (hset : s.Settled) {k update : Nat} : s.TookNote (cuDeclarationSent k update (txDone s)) ∧
    (cuDeclarationSent k update (txDone s)).td = s.td ∧
    ∀ r ∈ s.cu.events, r.rid = k → r.declarationSent update ∈ (cuDeclarationSent k update (txDone s)).cu.events := by
  have hdone := txDone_tookNote hset
  obtain ⟨u, hu⟩ : ∃ u, u = updRec k (fun r => r.declarationSent update) (txDone s) := ⟨_, rfl⟩
  have hucu : u.cu = { s.cu with events := u.cu.events } := by rw [hu]; rfl
  have hulc : u.lc = (txDone s).lc := by rw [hu]; rfl
  rw [cuDeclarationSent_eq, ← hu]
  refine ⟨⟨?_, ?_, ?_, ?_⟩, ?_, fun r hr hk => ?_⟩
  · have hmc : (cuRequest u).mc = s.mc := by simp [hu, updRec, setEvents, txDone]
    rw [State.Settled, hmc]
    exact hset
  · rw [cuRequest_tx.1, cuRequest_tx.2, hulc]
    exact hdone.lc
  · rw [← hdone.count]
    exact count_of_counters_eq (by simp [hu, updRec, setEvents])
  · have hcu : (cuRequest u).cu = u.cu := by simp
    rw [hcu, hucu]
    simp [hu, updRec, setEvents, txDone]
  · simp [hu, updRec, setEvents, txDone]
  · subst hk
    have hcu : (cuRequest u).cu = u.cu := by simp
    rw [hcu, hu]
    exact mem_updRec (f := fun r => r.declarationSent update) (s := txDone s) hr

/-- A record behind the end of the step that told it of its declaration. -/
theorem finish_keeps_record {v : State} {r : EventRec} (hset : v.Settled) (hwaits : v.waits) (hr : r ∈ v.cu.events) :
    ∃ x : UplinkState, { r with uplink := x } ∈ (finish v).cu.events := by
  obtain ⟨f, hevents⟩ := modemKick_events (s := v)
  obtain ⟨a, b, m, hkick⟩ := lcKick_of_waits (s := twKick (syncOsc (modemKick v)))
    (waits_congr (by simp) (by simp) (by simp) (by simp) hwaits)
  have hcu : (finish v).cu = (modemKick v).cu := by
    rw [finish_eq_follow hset, hkick]
    simp
  refine ⟨f r, ?_⟩
  rw [hcu, hevents]
  exact List.mem_map.2 ⟨r, hr, rfl⟩

end

end Sys2Proof.Machine

section
open Sys2Proof Sys2Proof.Machine
set_option Elab.async false

/-- The first part of O29: the owners that only take note. -/
theorem transmission_end_noted (s : State) (f : TxFrame) (hset : s.Settled) (htx : s.lc.tx = some f) (hstamp : f.stamp.isSome)
    (howner : (∃ k m, f.owner = .notice k m) ∨ f.owner = .reply ∨ (∃ x, f.owner = .probe x) ∨ (∃ x u, f.owner = .declaration x u)) :
    ∃ t, exec .transmissionEnd s = .next t ∧ t.lc.tx = none ∧ t.lc.quietSince = s.now ∧
       t.count .framesSent = min (s.count .framesSent + 1) 65535 ∧
       (∀ m, f.owner = .notice .onset m → t.td = { s.td with
         outstanding := if s.td.outstanding = some m then none else s.td.outstanding }) ∧
       ((∀ m, f.owner ≠ .notice .onset m) → t.td = s.td) ∧
       (∀ x u, f.owner = .declaration x u → (s.cu.events.map (fun r => r.rid)).Nodup →
         ∀ r ∈ s.cu.events, r.rid = x → r.state = .declared →
           ∃ r' ∈ t.cu.events, r'.rid = x ∧ r'.state = .declared ∧ r'.carried = none ∧ r'.update = r.update ∧ r'.parts = r.parts ∧
             r'.declOwed = (r.declOwed && decide (r.update ≠ u))) ∧
       t.tb = s.tb ∧ t.rmu = s.rmu ∧ t.peers = s.peers ∧ t.tau = s.tau ∧ t.si = s.si ∧ t.bm = s.bm ∧ t.hc = s.hc ∧ t.cs = s.cs ∧
       t.cu.entries = s.cu.entries := by
  rw [exec_transmissionEnd htx hstamp]
  have hplain (h : reportCompletion f.owner (txDone s) = txDone s) (honset : ∀ m, f.owner ≠ .notice .onset m)
      (hdecl : ∀ x u, f.owner ≠ .declaration x u) :
      s.Notes (finish (reportCompletion f.owner (txDone s))) ∧ (finish (reportCompletion f.owner (txDone s))).td = s.td := by
    rw [h]
    obtain ⟨-, -, -, -, -, -, -, htd, -⟩ := finish_leaves_settled (txDone s) hset
    exact ⟨(txDone_tookNote hset).notes, htd⟩
  rcases howner with ⟨k, m, ho⟩ | ho | ⟨x, ho⟩ | ⟨x, u, ho⟩
  · cases k with
    | onset =>
      obtain ⟨hnote, htd⟩ := tookNote_onset hset (m := m)
      obtain ⟨-, -, -, -, -, -, -, hftd, -⟩ := finish_leaves_settled _ hnote.settled
      rw [ho]
      have hnotes := hnote.notes
      refine ⟨_, rfl, hnotes.lc.1, hnotes.lc.2, hnotes.count, fun m' hm => ?_, fun h => absurd rfl (h m), fun x u h => (by cases h),
        hnotes.rest⟩
      cases hm
      exact hftd.trans htd
    | finish =>
      obtain ⟨hnotes, htd⟩ := hplain (by rw [ho]; rfl) (fun m h => by rw [ho] at h; cases h) (fun x u h => by rw [ho] at h; cases h)
      exact ⟨_, rfl, hnotes.lc.1, hnotes.lc.2, hnotes.count, fun m' hm => (by rw [ho] at hm; cases hm), fun _ => htd,
        fun x u h => (by rw [ho] at h; cases h), hnotes.rest⟩
  · obtain ⟨hnotes, htd⟩ := hplain (by rw [ho]; rfl) (fun m h => by rw [ho] at h; cases h) (fun x u h => by rw [ho] at h; cases h)
    exact ⟨_, rfl, hnotes.lc.1, hnotes.lc.2, hnotes.count, fun m' hm => (by rw [ho] at hm; cases hm), fun _ => htd,
      fun x u h => (by rw [ho] at h; cases h), hnotes.rest⟩
  · obtain ⟨hnotes, htd⟩ := hplain (by rw [ho]; rfl) (fun m h => by rw [ho] at h; cases h) (fun x u h => by rw [ho] at h; cases h)
    exact ⟨_, rfl, hnotes.lc.1, hnotes.lc.2, hnotes.count, fun m' hm => (by rw [ho] at hm; cases hm), fun _ => htd,
      fun x u h => (by rw [ho] at h; cases h), hnotes.rest⟩
  · obtain ⟨hnote, htd, hrec⟩ := tookNote_declaration hset (k := x) (update := u)
    obtain ⟨-, -, -, -, -, -, -, hftd, -⟩ := finish_leaves_settled _ hnote.settled
    have hnotes := hnote.notes
    rw [ho]
    refine ⟨_, rfl, hnotes.lc.1, hnotes.lc.2, hnotes.count, fun m' hm => (by cases hm), fun _ => hftd.trans htd,
      fun x' u' h _ r hr hrid hstate => ?_, hnotes.rest⟩
    cases h
    have hwaits : (cuDeclarationSent x u (txDone s)).waits :=
      waits_of_now (hnote.lc.2.trans (congrArg Timebase.elapsed hnote.rest.1).symm)
    obtain ⟨y, hy⟩ := finish_keeps_record hnote.settled hwaits (hrec r hr hrid)
    refine ⟨_, hy, hrid, hstate, rfl, rfl, rfl, ?_⟩
    show (r.declOwed && !(r.state == .declared && r.update == u)) = _
    rw [hstate]
    by_cases hu : r.update = u <;> simp [hu]

end

/-! PROOFS. The end of a beacon outside the waits, and of report segments. -/
namespace Sys2Proof.Machine
set_option Elab.async false

section
variable {s t u : State} {c : Counter}

/-! ## A beacon outside the entry and the final beacon's wait (R189) -/

/-- A state that differs from a rested one in the users of a brief run and in what follows the end of a transmission. -/
theorem finish_of_beacon_done {v : State} (h : s.Rested) (hset : v.Settled) (huc : v.uc = s.uc) (hstanding : v.mc.standing = s.mc.standing)
    (hcs : v.cs = s.cs) (htwm : v.twm = s.twm) (hhanded : v.mc.handed = s.mc.handed) (hwaits : v.waits) :
    ∃ a b m, finish v = (syncOsc v).setLc { v.lc with access := a, busy := b, attempt := m } := by
  have hmodem : v.ModemRests := by
    have hrests := h.modem
    unfold State.ModemRests State.awake at *
    rwa [huc, hstanding, hcs]
  have hbus : (syncOsc v).BusRests := by
    have hstwm : (syncOsc v).twm = s.twm := by rw [(syncOsc_leaves v).2.2.2.2.2.2.2.2.2.2.2.2.2.1, htwm]
    unfold State.BusRests
    rw [hstwm]
    rcases h.bus with hb | hb | hb
    · exact .inl hb
    · exact .inr (.inl (syncOsc_handed_of_false (by rw [hhanded]; exact hb)))
    · exact .inr (.inr hb)
  obtain ⟨a, b, m, hkick⟩ := lcKick_of_waits (s := syncOsc v) (waits_congr (by simp) (by simp) (by simp) (by simp) hwaits)
  refine ⟨a, b, m, ?_⟩
  rw [finish_eq_follow hset, modemKick_of_rests v hmodem, twKick_of_rests _ hbus, hkick]
  simp

/-- The users of a brief run behind the end of a beacon (R189). -/
def State.usersBehind (s : State) (mark : BeaconMark) : BriefUsers :=
  if mark = .ordinary ∧ s.lc.slots.beacon = none then { s.mc.users with beacon := none } else s.mc.users

theorem beaconComplete_outside {mark : BeaconMark} (hentry : mark = .entry → s.mc.standing ≠ .entering)
    (hfinal : mark = .final → s.mc.standing ≠ .finalBeacon) :
    beaconComplete mark s = s.setMc { s.mc with users := s.usersBehind mark } := by
  have hself : s = s.setMc { s.mc with users := s.mc.users } := rfl
  unfold beaconComplete State.usersBehind
  cases mark with
  | entry =>
    dsimp only
    rw [if_neg (by simpa using hentry rfl), if_neg (by simp)]
    exact hself
  | final =>
    dsimp only
    rw [if_neg (by simpa using hfinal rfl), if_neg (by simp)]
    exact hself
  | ordinary =>
    dsimp only
    cases hb : s.lc.slots.beacon with
    | none => simp
    | some q => simpa using hself

/-! ## The end of a report segment (R203) -/

theorem reportCompletion_report {current last : Bool} : reportCompletion (.report current last) s =
    if current then (if last then csEnd s else csNext s) else s := rfl

theorem csEnd_of_none (h : s.cs.pending = none) : csEnd s = s := by
  unfold csEnd
  rw [h]

theorem csNext_of_none (h : s.cs.pending = none) : csNext s = s := by
  unfold csNext
  rw [h]

theorem csEnd_of_some {q : ServiceReq} (h : s.cs.pending = some q) :
    csEnd s = if q.code = 5 then restart (s.setCs { s.cs with pending := none }) else s.setCs { s.cs with pending := none } := by
  unfold csEnd
  rw [h]

/-- The end of a step that changes the request only, behind the end of a transmission. -/
theorem finish_done_slots {v : State} (hset : v.Settled) (hlc : v.lc.slots = s.lc.slots) (hquiet : v.lc.quietSince = v.now)
    (htx : v.lc.tx = none) : (finish v).lc.tx = none ∧ (finish v).lc.slots = s.lc.slots := by
  obtain ⟨a, b, m, hflc⟩ := finish_lc_of_waits hset (waits_of_now hquiet)
  rw [hflc]
  exact ⟨htx, hlc⟩

/-! ## RESTART behind its last segment (R205) -/

theorem twKick_count_of_sda (h : s.pins.sda = true) : (twKick s).count c = s.count c := by
  by_cases hc : c = .busRecoveries
  · subst hc
    unfold twKick
    split
    · split
      · next x _ =>
        obtain ⟨-, -, -, -, -, hcount⟩ := twStart_facts (s := s) (x := x)
        rw [hcount, if_neg (by simp [h])]
      · rfl
    · rfl
  · exact twKick_count hc

/-- RESTART of an awake station on the fast source, its request being over. -/
theorem restart_of_awake (h : s.awake = true) : restart s = enterLoading (restartValues s) := by
  have hstanding : s.mc.standing ≠ .crystalWait := by
    intro hs
    rw [State.awake, hs] at h
    cases h
  have hloading : (restartValues s).mc.standing = .loading := by
    simp [restartValues, ModeCtl.restart, hstanding]
  unfold restart
  dsimp only
  rw [hloading]
  rfl

theorem restartValues_count (hc : c ≠ .calibrationDiscards) : (restartValues s).count c = s.count c := by
  have hbump : (bumpIf s.tb.calWindow.isSome .calibrationDiscards s).count c = s.count c := by simp [hc.symm]
  exact hbump

theorem enterLoading_same : (enterLoading s).lc = s.lc ∧ (enterLoading s).uc = s.uc ∧ (enterLoading s).counters = s.counters ∧
    (enterLoading s).pins = s.pins := by
  unfold enterLoading runFast
  dsimp only
  (repeat' split) <;> exact ⟨rfl, rfl, rfl, rfl⟩

/-- The end of the step that restarts: the link is idle, no counter moves. -/
theorem finish_loading_rest (hslots : s.lc.slots = .empty) :
    (∃ a b m, (finish (enterLoading s)).lc = { s.lc with access := a, busy := b, attempt := m }) ∧
    (finish (enterLoading s)).uc = s.uc ∧
    ∀ c : Counter, (c = .busRecoveries → s.pins.sda = true) → (finish (enterLoading s)).count c = s.count c := by
  obtain ⟨hlc, huc, hcounters, hpins⟩ := enterLoading_same (s := s)
  have hstarting : (enterLoading s).reported.starting := by
    have h := enterLoading_starting (s := s)
    exact h
  have hawake : (enterLoading s).reported.awake = false := by
    unfold State.awake
    rcases hstarting with h | h <;> rw [h] <;> rfl
  obtain ⟨v, hv⟩ : ∃ v, v = (enterLoading s).reported := ⟨_, rfl⟩
  have hvlc : v.lc = s.lc := by rw [hv]; exact hlc
  have hvuc : v.uc = s.uc := by rw [hv]; exact huc
  have hvpins : v.pins = s.pins := by rw [hv]; exact hpins
  have hvcount (c : Counter) : v.count c = s.count c := by rw [hv]; exact count_of_counters_eq hcounters
  rw [← hv] at hawake
  have hwaits : (twKick (syncOsc v)).waits := by
    left
    rw [show (twKick (syncOsc v)).lc = v.lc by simp, hvlc, hslots]
    rfl
  obtain ⟨a, b, m, hkick⟩ := lcKick_of_waits hwaits
  have hfinish : finish (enterLoading s) = lcKick (twKick (syncOsc v)) := by
    rw [finish_of_starting enterLoading_starting, ← hv, finish_eq_follow (by rw [hv]; exact reported_settled),
      modemKick_of_not_awake hawake]
  rw [hfinish, hkick]
  refine ⟨⟨a, b, m, ?_⟩, ?_, fun c hc => ?_⟩
  · rw [show (twKick (syncOsc v)).lc = v.lc by simp, hvlc]
    rfl
  · rw [← hvuc]
    simp
  · show (twKick (syncOsc v)).count c = _
    rw [← hvcount c, ← syncOsc_count (s := v) (c := c)]
    by_cases hbus : c = .busRecoveries
    · exact twKick_count_of_sda (by simpa [hvpins] using hc hbus)
    · exact twKick_count hbus

end

end Sys2Proof.Machine

section
open Sys2Proof Sys2Proof.Machine
set_option Elab.async false

/-- The second part of O29: a beacon outside the entry and the final beacon's wait. -/
theorem beacon_end_leaves_users (s : State) (f : TxFrame) (mark : BeaconMark) (hrest : s.Rested) (htx : s.lc.tx = some f)
    (hstamp : f.stamp.isSome) (howner : f.owner = .beacon mark) (hentry : mark = .entry → s.mc.standing ≠ .entering)
    (hfinal : mark = .final → s.mc.standing ≠ .finalBeacon) :
    ∃ t, exec .transmissionEnd s = .next t ∧ t.lc.tx = none ∧ t.lc.quietSince = s.now ∧ t.lc.slots = s.lc.slots ∧
      t.count .framesSent = min (s.count .framesSent + 1) 65535 ∧ t.mc.standing = s.mc.standing ∧
      t.mc.users = (if mark = .ordinary ∧ s.lc.slots.beacon = none then { s.mc.users with beacon := none } else s.mc.users) ∧
      (s.tb.source = .slow → t.mc.users = BriefUsers.empty → t.mc.osc = none) ∧
      t.tb = s.tb ∧ t.rmu = s.rmu ∧ t.peers = s.peers ∧ t.tau = s.tau ∧ t.si = s.si ∧ t.td = s.td ∧ t.cu = s.cu ∧ t.bm = s.bm ∧
      t.hc = s.hc ∧ t.cs = s.cs := by
  obtain ⟨v, hv⟩ : ∃ v, v = (txDone s).setMc { s.mc with users := s.usersBehind mark } := ⟨_, rfl⟩
  have hdone : reportCompletion f.owner (txDone s) = v := by
    rw [howner, hv]
    exact beaconComplete_outside (s := txDone s) hentry hfinal
  have hvset : v.Settled := by rw [hv]; exact hrest.settled
  have hsame : v.uc = s.uc ∧ v.mc = { s.mc with users := s.usersBehind mark } ∧ v.cs = s.cs ∧ v.twm = s.twm ∧ v.cu = s.cu ∧
      v.tb = s.tb ∧ v.rmu = s.rmu ∧ v.peers = s.peers ∧ v.tau = s.tau ∧ v.si = s.si ∧ v.td = s.td ∧ v.bm = s.bm ∧ v.hc = s.hc ∧
      v.lc = { s.lc with tx := none, quietSince := s.now } := by
    rw [hv]
    exact ⟨rfl, rfl, rfl, rfl, rfl, rfl, rfl, rfl, rfl, rfl, rfl, rfl, rfl, rfl⟩
  obtain ⟨hvuc, hvmc, hvcs, hvtwm, hvcu, hvtb, hvrmu, hvpeers, hvtau, hvsi, hvtd, hvbm, hvhc, hvlc⟩ := hsame
  have hvcount : v.count .framesSent = min (s.count .framesSent + 1) 65535 := by
    rw [← (txDone_facts (s := s)).2.2.2.2.2.2.2.2.2.1, hv]
    rfl
  have hwaits : v.waits := waits_of_now (by
    have hnow : v.now = s.now := congrArg Timebase.elapsed hvtb
    rw [hvlc, hnow])
  obtain ⟨a, b, m, hfinish⟩ := finish_of_beacon_done hrest hvset hvuc (by rw [hvmc]) hvcs hvtwm (by rw [hvmc]) hwaits
  have hcu : (finish v).cu = s.cu := by rw [hfinish, ← hvcu]; simp
  have hlc : (finish v).lc = { v.lc with access := a, busy := b, attempt := m } := by rw [hfinish]; rfl
  obtain ⟨-, -, htb, hrmu, hpeers, htau, hsi, htd, hbm, hhc, hcs, -⟩ := finish_leaves_settled v hvset
  refine ⟨finish v, by rw [exec_transmissionEnd htx hstamp, hdone], ?_, ?_, ?_, (finish_count hvset).trans hvcount, ?_, ?_,
    fun hslow hempty => ?_, htb.trans hvtb, hrmu.trans hvrmu, hpeers.trans hvpeers, htau.trans hvtau, hsi.trans hvsi, htd.trans hvtd,
    hcu, hbm.trans hvbm, hhc.trans hvhc, hcs.trans hvcs⟩
  · rw [hlc, hvlc]
  · rw [hlc, hvlc]
  · rw [hlc, hvlc]
  · rw [finish_standing hvset, hvmc]
  · rw [finish_users hvset, hvmc]
    rfl
  · rw [finish_users hvset] at hempty
    rw [(finish_osc hvset).1]
    exact (syncOsc_osc_of_slow (by rw [hvtb]; exact hslow) (by rw [hempty]; rfl)).1

end

/-! PROOFS. The counters of a report segment, and the next segment of a request. -/
namespace Sys2Proof.Machine
set_option Elab.async false

section
variable {s t u : State} {c : Counter}

/-! ## COUNTERS segments (R204) -/

theorem counters_toList : s.counters.toList = (List.finRange 102).map (fun i => s.counters[i]) := by
  apply List.ext_getElem
  · simp
  · intro i h h'
    simp

theorem countersOf_eq (segment : Nat) (cs : List Counter)
    (hcs : (((List.finRange 102).drop (38 * segment)).take 38) = cs.map Counter.idx) :
    countersOf segment s.counters.toList = cs.map s.count := by
  unfold countersOf
  rw [counters_toList, ← List.map_drop, ← List.map_take, hcs, List.map_map]
  rfl

theorem build_counters_data {q : ServiceReq} {segment : Nat} (hcode : q.code = 4) (hresume : q.resume = .counters segment)
    (cs : List Counter) (hcs : (((List.finRange 102).drop (38 * segment)).take 38) = cs.map Counter.idx) :
    (s.build q).data = cs.flatMap (fun k => [BitVec.ofNat 8 (s.count k / 256), BitVec.ofNat 8 (s.count k)]) ∧
    (s.build q).last = decide (2 ≤ segment) := by
  have hbuild : s.build q = s.buildCounters segment := by
    unfold State.build
    rw [hcode, hresume]
    rfl
  rw [hbuild]
  refine ⟨?_, rfl⟩
  show (countersOf segment s.counters.toList).flatMap (be 2) = _
  rw [countersOf_eq segment cs hcs, List.flatMap_map]
  exact List.flatMap_congr fun k _ => be_two _

/-- The counters behind the clear option (R204). -/
def State.cleared (s : State) (segment : Nat) : Vector Nat 102 := s.counters.mapIdx (fun i n => if i / 38 = segment then 0 else n)

theorem clearCounters_eq (segment : Nat) :
    ∃ x, clearCounters segment s = (s.setCounters (s.cleared segment)).setLc { s.lc with idConflict := x } := by
  unfold clearCounters
  dsimp only
  split
  · exact ⟨false, rfl⟩
  · exact ⟨s.lc.idConflict, rfl⟩

theorem getElem_cleared (segment : Nat) : (s.cleared segment)[c.idx] = if c.idx.val / 38 = segment then 0 else s.count c := by
  unfold State.cleared
  rw [Fin.getElem_fin, Vector.getElem_mapIdx]
  rfl

/-! ## The next segment (R203) -/

/-- The request behind a segment that has been built. -/
def ServiceReq.after (q : ServiceReq) (b : Built) : ServiceReq :=
  { q with nextSegment := (q.nextSegment + 1) % 128, resume := b.resume, held := false }

/-- The state once the next segment of a request is built. -/
def State.segmentBuilt (s : State) (q : ServiceReq) : State :=
  let t := if q.code = 4 && q.argument % 2 = 1 then clearCounters q.resume.segment s else s
  (t.setFreeDrawn (t.freeDrawn + (s.build q).free)).setCs { t.cs with pending := some (q.after (s.build q)) }

/-- What building a segment moves: the request, the counters of a cleared segment and the id-conflict flag with them. -/
theorem segmentBuilt_facts {q : ServiceReq} :
    (∃ x, (s.segmentBuilt q).lc = { s.lc with idConflict := x }) ∧
    (s.segmentBuilt q).cs = { s.cs with pending := some (q.after (s.build q)) } ∧
    (∀ c, (s.segmentBuilt q).count c =
      if q.code = 4 ∧ q.argument % 2 = 1 ∧ c.idx.val / 38 = q.resume.segment then 0 else s.count c) ∧
    (s.segmentBuilt q).mc = s.mc ∧ (s.segmentBuilt q).tb = s.tb ∧ (s.segmentBuilt q).uc = s.uc ∧ (s.segmentBuilt q).twm = s.twm ∧
    (s.segmentBuilt q).pins = s.pins ∧ (s.segmentBuilt q).td = s.td ∧ (s.segmentBuilt q).cu = s.cu ∧
    (s.segmentBuilt q).bm = s.bm ∧ (s.segmentBuilt q).rmu = s.rmu ∧ (s.segmentBuilt q).peers = s.peers ∧
    (s.segmentBuilt q).tau = s.tau ∧ (s.segmentBuilt q).hc = s.hc := by
  unfold State.segmentBuilt
  dsimp only
  by_cases hclear : q.code = 4 ∧ q.argument % 2 = 1
  · obtain ⟨x, hx⟩ := clearCounters_eq (s := s) q.resume.segment
    rw [if_pos (by simpa using hclear), hx]
    refine ⟨⟨x, rfl⟩, rfl, fun c => ?_, rfl, rfl, rfl, rfl, rfl, rfl, rfl, rfl, rfl, rfl, rfl, rfl⟩
    exact (getElem_cleared q.resume.segment).trans (by simp [hclear.1, hclear.2])
  · rw [if_neg (by simpa using hclear)]
    refine ⟨⟨_, rfl⟩, rfl, fun c => ?_, rfl, rfl, rfl, rfl, rfl, rfl, rfl, rfl, rfl, rfl, rfl, rfl⟩
    rw [if_neg (fun h => hclear ⟨h.1, h.2.1⟩)]
    rfl

theorem csNext_of_some {q : ServiceReq} (h : s.cs.pending = some q) :
    csNext s = if (s.segmentBuilt q).lcTakes = true then
      (s.segmentBuilt q).setSlots { (s.segmentBuilt q).lc.slots with
        report := some { moment := (s.segmentBuilt q).now, body := segmentBody q.code q.nextSegment (s.build q), last := (s.build q).last } }
      else csEnd (s.segmentBuilt q) := by
  unfold csNext
  rw [h]
  rfl

theorem segmentBody_eq {code segment : Nat} {b : Built} :
    segmentBody code segment b = [BitVec.ofNat 8 code, BitVec.ofNat 8 (segment % 128 + if b.last then 128 else 0),
      if 1 ≤ code ∧ code ≤ 5 then 0x00#8 else 0x01#8] ++ b.data := by
  have hknown : BitVec.ofNat 8 (!knownCode code).toNat = if 1 ≤ code ∧ code ≤ 5 then 0x00#8 else 0x01#8 := by
    unfold knownCode
    by_cases hc : 1 ≤ code ∧ code ≤ 5
    · rw [if_pos hc]
      simp [hc.1, hc.2]
    · rw [if_neg hc]
      have : (decide (1 ≤ code) && decide (code ≤ 5)) = false := by simpa using hc
      rw [this]
      rfl
  have hlast : 128 * b.last.toNat = if b.last then 128 else 0 := by cases b.last <;> rfl
  unfold segmentBody
  rw [be_one, be_one, be_one, hknown, hlast]
  rfl

end

end Sys2Proof.Machine

/-! PROOFS. The end of a report segment: the request's end, RESTART, the next segment (O29). -/
namespace Sys2Proof.Machine
set_option Elab.async false

section
variable {s t u : State} {c : Counter} {f : TxFrame} {q : ServiceReq}

@[simp] theorem restartValues_blocks :
    (restartValues s).pins = s.pins ∧ (restartValues s).tb = { s.tb.restart with calWindow := none } ∧
    (restartValues s).rmu = .reset ∧ (restartValues s).lc = s.lc.restart s.now ∧ (restartValues s).peers = [] ∧
    (restartValues s).si = s.si.restart ∧ (restartValues s).td = .reset ∧ (restartValues s).cu = s.cu.restart ∧
    (restartValues s).uc = .reset ∧ (restartValues s).bm = s.bm.restart ∧
    (restartValues s).hc = { b := s.hc.b.restart, s := s.hc.s.restart } ∧
    (restartValues s).mc = s.mc.restart (s.tb.source == .fast) ∧ (restartValues s).cs = { s.cs with pending := none } := by
  simp [restartValues, Trigger.restart, State.now]

/-- What stands behind RESTART of an awake station on the fast source, the step's end included (R205, R196). -/
structure State.Restarts (s t : State) : Prop where
  cs : t.cs = { s.cs with pending := none, stationId := s.pins.straps.toNat }
  mc : t.mc.standing = .loading ∧ t.mc.held = false
  loader : t.twm.busyFor .loader = true
  lc : t.lc.tx = none ∧ t.lc.slots = Slots.empty ∧ t.lc.rx = .off ∧ t.lc.ownSeq = s.lc.ownSeq ∧ t.lc.terminalSeq = none
  blocks : t.peers = [] ∧ t.rmu = Rmu.reset ∧ t.uc = Uplink.reset ∧ t.td.state = .stopped ∧ t.si.grid = .off ∧
    t.cu = { s.cu with entries := [], events := [] }
  tb : t.tb = { s.tb with
    rPhase := 0, pendingStep := none, calTimer := none, calOpening := false, calWindow := none, slowAsked := false
    distance := if s.tb.distance = 0 then 1 else s.tb.distance }
  outputs : t.outputs.htrB = false ∧ t.outputs.htrS = false ∧ t.outputs.chargeEn = false ∧ t.outputs.upPwr = false
  count : ∀ c : Counter, c ≠ .calibrationDiscards → (c = .busRecoveries → s.pins.sda = true) → t.count c = s.count c

theorem restart_restarts (hawake : s.awake = true) (hfast : s.tb.source = .fast) : s.Restarts (finish (restart s)) := by
  obtain ⟨hpins, htb, hrmu, hlc, hpeers, hsi, htd, hcu, huc, hbm, hhc, hmc, hcs⟩ := restartValues_blocks (s := s)
  have hrfast : (restartValues s).tb.source = .fast := by rw [htb]; exact hfast
  obtain ⟨hst, hheld, hcst, htbt, hrmut, hpeerst, hcut, hbmt, hhct, htdt, hsit⟩ := finish_enterLoading (s := restartValues s)
  obtain ⟨⟨a, b, m, hlct⟩, huct, hcount⟩ := finish_loading_rest (s := restartValues s) (by rw [hlc]; rfl)
  have hbusy := finish_enterLoading_busyFor hrfast
  rw [restart_of_awake hawake]
  generalize finish (enterLoading (restartValues s)) = t at *
  refine ⟨?_, ⟨hst, ?_⟩, hbusy, ?_, ⟨?_, ?_, ?_, ?_, ?_, ?_⟩, ?_, ⟨?_, ?_, ?_, ?_⟩, fun c hc hbus => ?_⟩
  · rw [hcst, hcs, hpins]
  · rw [hheld, hmc]; rfl
  · rw [hlct, hlc]; exact ⟨rfl, rfl, rfl, rfl, rfl⟩
  · rw [hpeerst, hpeers]
  · rw [hrmut, hrmu]
  · rw [huct, huc]
  · rw [htdt, htd]; rfl
  · rw [hsit, hsi]; rfl
  · rw [hcut, hcu]; rfl
  · rw [htbt, if_neg (by rw [hrfast]; simp), htb]; rfl
  · show t.hc.b.output = false
    rw [hhct, hhc]; rfl
  · show t.hc.s.output = false
    rw [hhct, hhc]; rfl
  · show t.bm.chargeEn = false
    rw [hbmt, hbm]; rfl
  · show t.uc.modem.power = false
    rw [huct, huc]; rfl
  · rw [hcount c (fun h => by rw [hpins]; exact hbus h), restartValues_count hc]

/-! ## The end of a request, and its next segment -/

/-- Behind RESTART, held off by the crystal wait or not, the link is idle. -/
theorem finish_restart_tx : (finish (restart s)).lc.tx = none := by
  have hlc : (restart s).lc = s.lc.restart s.now := by
    have hvalues : (restartValues s).lc = s.lc.restart s.now := restartValues_blocks.2.2.2.1
    unfold restart
    dsimp only
    split
    · exact hvalues
    · exact enterLoading_same.1.trans hvalues
  have hwaits : (restart s).reported.waits := .inl (by
    show (restart s).lc.slots.allEmpty = true
    rw [hlc]
    rfl)
  obtain ⟨a, b, m, hflc⟩ := finish_lc_of_waits reported_settled hwaits
  rw [finish_of_starting restart_afterCapture.2, hflc]
  show (restart s).lc.tx = none
  rw [hlc]
  rfl

/-- The end of a report segment starts no transmission, whatever it leaves. -/
theorem finish_csCompleted_tx (hset : s.Settled) (htx : s.lc.tx = none) (hquiet : s.lc.quietSince = s.now) (current last : Bool) :
    (finish (csCompleted current last s)).lc.tx = none := by
  have hplain {v : State} (hv : v.Settled) (hvtx : v.lc.tx = none) (hvq : v.lc.quietSince = v.now) : (finish v).lc.tx = none := by
    obtain ⟨a, b, m, hflc⟩ := finish_lc_of_waits hv (waits_of_now hvq)
    rw [hflc]
    exact hvtx
  have hend {v : State} (hv : v.Settled) (hvtx : v.lc.tx = none) (hvq : v.lc.quietSince = v.now) : (finish (csEnd v)).lc.tx = none := by
    unfold csEnd
    split
    · exact hplain hv hvtx hvq
    · dsimp only
      split
      · exact finish_restart_tx
      · exact hplain hv hvtx hvq
  have hnext : (finish (csNext s)).lc.tx = none := by
    cases hpending : s.cs.pending with
    | none => rw [csNext_of_none hpending]; exact hplain hset htx hquiet
    | some q =>
      obtain ⟨⟨x, hlc⟩, -, -, hmc, htb, -⟩ := segmentBuilt_facts (s := s) (q := q)
      have hbuilt : (s.segmentBuilt q).Settled := by unfold State.Settled; rw [hmc]; exact hset
      have hbuiltTx : (s.segmentBuilt q).lc.tx = none := by rw [hlc]; exact htx
      have hbuiltQuiet : (s.segmentBuilt q).lc.quietSince = (s.segmentBuilt q).now := by
        have hnow : (s.segmentBuilt q).now = s.now := congrArg Timebase.elapsed htb
        rw [hnow, hlc]
        exact hquiet
      rw [csNext_of_some hpending]
      split
      · exact hplain (v := State.setSlots _ _) hbuilt hbuiltTx hbuiltQuiet
      · exact hend hbuilt hbuiltTx hbuiltQuiet
  unfold csCompleted
  split
  · split
    · exact hend hset htx hquiet
    · exact hnext
  · exact hplain hset htx hquiet

/-- At the end of a request that is no RESTART only the request goes (R203). -/
theorem csEnd_of_other (hset : s.Settled) (hpending : s.cs.pending = some q) (hcode : q.code ≠ 5) :
    csEnd s = s.setCs { s.cs with pending := none } ∧ (csEnd s).Settled := by
  rw [csEnd_of_some hpending, if_neg hcode]
  exact ⟨rfl, hset⟩

/-- A segment that LC takes at a rested station (R203). -/
theorem segmentBuilt_taken (h : s.Rested) (hwaits : u.waits) (hmc : u.mc = s.mc) (htb : u.tb = s.tb)
    (huc : u.uc = s.uc) (htwm : u.twm = s.twm) (himage : u.cs.image = s.cs.image) (hcount : ∀ c, u.count c = t.count c) :
    (∃ a b m, (finish u).lc = { u.lc with access := a, busy := b, attempt := m }) ∧ (finish u).cs = u.cs ∧
      (finish u).mc.standing = u.mc.standing ∧ ∀ c, (finish u).count c = t.count c := by
  obtain ⟨a, b, m, hkick⟩ := lcKick_of_waits hwaits
  rw [h.finish_eq htb huc hmc htwm himage, hkick]
  exact ⟨⟨a, b, m, rfl⟩, rfl, rfl, hcount⟩

end

end Sys2Proof.Machine

section
open Sys2Proof Sys2Proof.Machine
set_option Elab.async false

/-- The last part of O29 for a segment of a replaced request, or one whose request has ended. -/
theorem report_end_of_replaced (s : State) (f : TxFrame) (current last : Bool) (hset : s.Settled) (htx : s.lc.tx = some f)
    (hstamp : f.stamp.isSome) (howner : f.owner = .report current last) (h : current = false ∨ s.cs.pending = none) :
    ∃ t, exec .transmissionEnd s = .next t ∧ t.lc.tx = none ∧ t.cs = s.cs ∧ t.lc.slots = s.lc.slots ∧ t.td = s.td ∧
      t.count .framesSent = min (s.count .framesSent + 1) 65535 := by
  have hdone : reportCompletion f.owner (txDone s) = txDone s := by
    rw [howner, reportCompletion_report]
    rcases h with h | h
    · rw [h]; rfl
    · rw [csEnd_of_none (s := txDone s) h, csNext_of_none (s := txDone s) h]
      simp
  obtain ⟨htxn, hslots⟩ := finish_done_slots (s := s) (v := txDone s) hset rfl rfl rfl
  have hleaves := finish_leaves_settled (txDone s) hset
  refine ⟨finish (txDone s), by rw [exec_transmissionEnd htx hstamp, hdone], htxn, hleaves.2.2.2.2.2.2.2.2.2.2.1, hslots,
    hleaves.2.2.2.2.2.2.2.1, ?_⟩
  rw [finish_count (s := txDone s) hset, (txDone_facts (s := s)).2.2.2.2.2.2.2.2.2.1]

/-- The last part of O29 for the last segment of a request that is no RESTART. -/
theorem report_end_of_last (s : State) (f : TxFrame) (q : ServiceReq) (hset : s.Settled) (htx : s.lc.tx = some f)
    (hstamp : f.stamp.isSome) (howner : f.owner = .report true true) (hpending : s.cs.pending = some q) (hcode : q.code ≠ 5) :
    ∃ t, exec .transmissionEnd s = .next t ∧ t.lc.tx = none ∧ t.cs = { s.cs with pending := none } ∧ t.lc.slots = s.lc.slots ∧
      t.mc.standing = s.mc.standing ∧ t.count .framesSent = min (s.count .framesSent + 1) 65535 := by
  obtain ⟨v, hv⟩ : ∃ v, v = (txDone s).setCs { s.cs with pending := none } := ⟨_, rfl⟩
  have hdone : reportCompletion f.owner (txDone s) = v := by
    rw [howner, hv]
    exact (csEnd_of_other (s := txDone s) hset hpending hcode).1
  have hvset : v.Settled := by rw [hv]; exact hset
  obtain ⟨htxn, hslots⟩ := finish_done_slots (s := s) (v := v) hvset (by rw [hv]; rfl) (by rw [hv]; rfl) (by rw [hv]; rfl)
  obtain ⟨-, -, -, -, -, -, -, -, -, -, hcs, -⟩ := finish_leaves_settled v hvset
  refine ⟨finish v, by rw [exec_transmissionEnd htx hstamp, hdone], htxn, ?_, hslots, ?_, ?_⟩
  · rw [hcs, hv]; rfl
  · rw [finish_standing hvset, hv]; rfl
  · rw [finish_count hvset, hv]
    exact (txDone_facts (s := s)).2.2.2.2.2.2.2.2.2.1

/-- The last part of O29 for the last segment of RESTART. -/
theorem report_end_restarts (s : State) (f : TxFrame) (q : ServiceReq) (htx : s.lc.tx = some f)
    (hstamp : f.stamp.isSome) (howner : f.owner = .report true true) (hpending : s.cs.pending = some q) (hcode : q.code = 5)
    (hawake : s.awake = true) (hfast : s.tb.source = .fast) :
    ∃ t, exec .transmissionEnd s = .next t ∧ ((txDone s).setCs { s.cs with pending := none }).Restarts t := by
  have hdone : reportCompletion f.owner (txDone s) = restart ((txDone s).setCs { s.cs with pending := none }) := by
    rw [howner]
    exact (csEnd_of_some (s := txDone s) hpending).trans (if_pos hcode)
  exact ⟨_, by rw [exec_transmissionEnd htx hstamp, hdone], restart_restarts (s := (txDone s).setCs { s.cs with pending := none }) hawake hfast⟩

/-- The last part of O29 for a segment before the last, at a station that sends. -/
theorem report_end_builds_next (s : State) (f : TxFrame) (q : ServiceReq) (hrest : s.Rested) (htx : s.lc.tx = some f)
    (hstamp : f.stamp.isSome) (howner : f.owner = .report true false) (hpending : s.cs.pending = some q)
    (hawake : s.awake = true) (hsends : s.listenOnly = false) :
    ∃ t, exec .transmissionEnd s = .next t ∧ t.lc.tx = none ∧
      t.lc.slots = { s.lc.slots with
        report := some { moment := s.now, body := segmentBody q.code q.nextSegment ((txDone s).build q),
                         last := ((txDone s).build q).last } } ∧
      t.cs = { s.cs with pending := some (q.after ((txDone s).build q)) } ∧ t.mc.standing = s.mc.standing ∧
      (∀ c : Counter, t.count c =
        if q.code = 4 ∧ q.argument % 2 = 1 ∧ c.idx.val / 38 = q.resume.segment then 0 else (txDone s).count c) := by
  obtain ⟨b, hb⟩ : ∃ b, b = (txDone s).build q := ⟨_, rfl⟩
  obtain ⟨⟨x, hlc⟩, hcs, hcount, hmc, htb, huc, htwm, -⟩ := segmentBuilt_facts (s := txDone s) (q := q)
  obtain ⟨w, hw⟩ : ∃ w, w = (txDone s).segmentBuilt q := ⟨_, rfl⟩
  rw [← hw, ← hb] at hcs
  rw [← hw] at hlc hcount hmc htb huc htwm
  have hnow : w.now = s.now := congrArg Timebase.elapsed htb
  have htakes : w.lcTakes = true := by
    have hw' : w.awake = s.awake := congrArg (fun m => m.standing.awake) hmc
    have hlisten : w.listenOnly = s.listenOnly := by
      unfold State.listenOnly State.ownId
      rw [hcs]
      rfl
    unfold State.lcTakes
    rw [hw', hlisten, hawake, hsends]
    rfl
  obtain ⟨v, hv⟩ : ∃ v, v = w.setSlots { w.lc.slots with
      report := some { moment := w.now, body := segmentBody q.code q.nextSegment b, last := b.last } } := ⟨_, rfl⟩
  have hdone : reportCompletion f.owner (txDone s) = v := by
    rw [howner, hv, hw, hb]
    exact (csNext_of_some (s := txDone s) hpending).trans (if_pos (by rw [← hw]; exact htakes))
  have hwaits : v.waits := waits_of_now (by
    have hvnow : v.now = s.now := by rw [hv]; exact hnow
    rw [hvnow, hv]
    show w.lc.quietSince = s.now
    rw [hlc]
    rfl)
  obtain ⟨⟨a, b', m, hflc⟩, hfcs, hfst, hfcount⟩ := segmentBuilt_taken (t := v) hrest hwaits (by rw [hv]; exact hmc) (by rw [hv]; exact htb)
    (by rw [hv]; exact huc) (by rw [hv]; exact htwm) (by rw [hv]; show w.cs.image = _; rw [hcs]; rfl) (fun _ => rfl)
  refine ⟨finish v, by rw [exec_transmissionEnd htx hstamp, hdone], ?_, ?_, ?_, ?_, fun c => ?_⟩
  · rw [hflc, hv]
    show w.lc.tx = none
    rw [hlc]
    rfl
  · rw [hflc, hv]
    simp only [setSlots_slots]
    rw [hnow, hlc, hb]
    rfl
  · rw [hfcs, hv]
    show w.cs = _
    rw [hcs, hb]
    rfl
  · rw [hfst, hv]
    exact congrArg ModeCtl.standing hmc
  · rw [hfcount, hv]
    exact hcount c

/-- The last part of O29 for a segment before the last, at a station that does not send. -/
theorem report_end_drops_next (s : State) (f : TxFrame) (q : ServiceReq) (hset : s.Settled) (htx : s.lc.tx = some f)
    (hstamp : f.stamp.isSome) (howner : f.owner = .report true false) (hpending : s.cs.pending = some q) (hcode : q.code ≠ 5)
    (hdumb : s.awake = false ∨ s.listenOnly = true) :
    ∃ t, exec .transmissionEnd s = .next t ∧ t.lc.tx = none ∧ t.cs = { s.cs with pending := none } ∧ t.lc.slots = s.lc.slots := by
  obtain ⟨⟨x, hlc⟩, hcs, -, hmc, htb, -⟩ := segmentBuilt_facts (s := txDone s) (q := q)
  obtain ⟨w, hw⟩ : ∃ w, w = (txDone s).segmentBuilt q := ⟨_, rfl⟩
  rw [← hw] at hlc hcs hmc htb
  have htakes : ¬ w.lcTakes = true := by
    have hawake : w.awake = s.awake := congrArg (fun m => m.standing.awake) hmc
    have hlisten : w.listenOnly = s.listenOnly := by
      unfold State.listenOnly State.ownId
      rw [hcs]
      rfl
    unfold State.lcTakes
    rw [hawake, hlisten]
    rcases hdumb with h | h <;> simp [h]
  obtain ⟨hend, hendset⟩ := csEnd_of_other (s := w) (q := q.after ((txDone s).build q))
    (by unfold State.Settled; rw [hmc]; exact hset) (by rw [hcs]) hcode
  have hdone : reportCompletion f.owner (txDone s) = csEnd w := by
    rw [howner]
    exact (csNext_of_some (s := txDone s) hpending).trans (by rw [← hw, if_neg htakes])
  have hlc' : (csEnd w).lc = w.lc := by rw [hend]; rfl
  have htb' : (csEnd w).tb = w.tb := by rw [hend]; rfl
  obtain ⟨htxn, hslots⟩ := finish_done_slots (s := s) (v := csEnd w) hendset (by rw [hlc', hlc]; rfl)
    (by
      have hnow : (csEnd w).now = s.now := congrArg Timebase.elapsed (htb'.trans htb)
      rw [hnow, hlc', hlc]; rfl)
    (by rw [hlc', hlc]; rfl)
  obtain ⟨-, -, -, -, -, -, -, -, -, -, hfcs, -⟩ := finish_leaves_settled (csEnd w) hendset
  refine ⟨finish (csEnd w), by rw [exec_transmissionEnd htx hstamp, hdone], htxn, ?_, hslots⟩
  rw [hfcs, hend]
  show { w.cs with pending := none } = _
  rw [hcs]
  rfl

/-- Settles O29. -/
theorem transmissionEndReportsCompletion : Obligations.TransmissionEndReportsCompletion := by
  refine ⟨transmission_end_noted, beacon_end_leaves_users, fun s f current last hset htx hstamp howner => ?_⟩
  by_cases hreplaced : current = false ∨ s.cs.pending = none
  · obtain ⟨t, hexec, htxn, hrest⟩ := report_end_of_replaced s f current last hset htx hstamp howner hreplaced
    refine ⟨t, hexec, htxn, fun _ => hrest, fun q hcurrent hpending => ?_⟩
    rcases hreplaced with h | h
    · rw [h] at hcurrent
      cases hcurrent
    · rw [h] at hpending
      cases hpending
  obtain ⟨hcurrent, q, hpending⟩ : current = true ∧ ∃ q, s.cs.pending = some q := by
    rw [not_or] at hreplaced
    exact ⟨by simpa using hreplaced.1, Option.ne_none_iff_exists'.mp hreplaced.2⟩
  rw [hcurrent] at howner
  have htx' : (finish (reportCompletion f.owner (txDone s))).lc.tx = none := by
    rw [howner]
    exact finish_csCompleted_tx (s := txDone s) hset rfl rfl true last
  have hexec := exec_transmissionEnd htx hstamp
  refine ⟨_, hexec, htx', fun h => absurd h hreplaced, fun q' _ hpending' => ?_⟩
  obtain rfl : q = q' := Option.some.inj (hpending.symm.trans hpending')
  refine ⟨fun hlast hcode => ?_, fun hlast hcode hawake hfast => ?_, fun hlast hrest hawake hsends => ?_,
    fun hlast hcode hdumb => ?_⟩
  · rw [hlast] at howner
    obtain ⟨t, ht, -, hfacts⟩ := report_end_of_last s f q hset htx hstamp howner hpending hcode
    obtain rfl := Host.Outcome.next.inj (hexec.symm.trans ht)
    exact hfacts
  · rw [hlast] at howner
    obtain ⟨t, ht, h⟩ := report_end_restarts s f q htx hstamp howner hpending hcode hawake hfast
    obtain rfl := Host.Outcome.next.inj (hexec.symm.trans ht)
    obtain ⟨-, hslots, hrx, hseq, hterminal⟩ := h.lc
    obtain ⟨hpeers, hrmu, huc, htd, hsi, hcu⟩ := h.blocks
    exact ⟨h.cs, h.mc.1, h.mc.2, h.loader, hslots, hrx, hseq, hterminal, hpeers, hrmu, huc, htd, hsi, hcu, h.tb, h.outputs.1,
      h.outputs.2.1, h.outputs.2.2.1, h.outputs.2.2.2, fun c hc hsent hbus =>
        (h.count c hc hbus).trans ((txDone_facts (s := s)).2.2.2.2.2.2.2.2.2.2 c hsent)⟩
  · rw [hlast] at howner
    obtain ⟨t, ht, -, hslots, hcs, hst, hcount⟩ := report_end_builds_next s f q hrest htx hstamp howner hpending hawake hsends
    obtain rfl := Host.Outcome.next.inj (hexec.symm.trans ht)
    refine ⟨fun hcode => ⟨fun hresume => ?_, fun hresume => ?_⟩, ?_, hcs, hst, hcount⟩
    · exact build_counters_data (s := txDone s) hcode hresume _ (by decide)
    · exact build_counters_data (s := txDone s) hcode hresume _ (by decide)
    · rw [hslots, segmentBody_eq]
      rfl
  · rw [hlast] at howner
    obtain ⟨t, ht, -, hfacts⟩ := report_end_drops_next s f q hset htx hstamp howner hpending hcode hdumb
    obtain rfl := Host.Outcome.next.inj (hexec.symm.trans ht)
    exact hfacts

end

/-! PROOFS. The admission of an onset to the trigger table, no event record standing (R115, R119). -/
namespace Sys2Proof.Machine
set_option Elab.async false

section
variable {s t u : State} {c : Counter} {x e : Entry}

/-! ## The three ways of an onset (R115) -/

theorem admitOnset_of_old (h : s.tooOld x.onset = true) : admitOnset x s = bump .staleEntries s := by
  unfold admitOnset
  rw [if_pos h]

theorem admitOnset_of_known (hnew : s.tooOld x.onset = false) (h : s.mergeTarget x.station x.onset = some e) :
    admitOnset x s = cuRequest (mergeEntry e x s) := by
  unfold admitOnset
  rw [if_neg (by simp [hnew]), h]

theorem admitOnset_of_new (hnew : s.tooOld x.onset = false) (h : s.mergeTarget x.station x.onset = none) :
    admitOnset x s = cuRequest (placeEntry x s) := by
  unfold admitOnset
  rw [if_neg (by simp [hnew]), h]

theorem mergeTarget_eq_none {station : Nat} {o : StationTime} :
    s.mergeTarget station o = none ↔ ¬∃ e ∈ s.cu.entries, e.station = station ∧ timeGap e.onset o ≤ secs s.cs.image.wc := by
  unfold State.mergeTarget State.withinWc State.window
  simp

/-! ## A place in the table (R119) -/

theorem placeEntry_of_no_place (h : s.placeFor = none) : placeEntry x s = bump .triggerTableOverflow s := by
  unfold placeEntry
  rw [h]

theorem placeFor_of_room (h : s.cu.entries.length < 24) : s.placeFor = some none := if_pos h

theorem placeFor_of_full (h : ¬ s.cu.entries.length < 24) : s.placeFor = s.evictable.map some := if_neg h

theorem firstFit_of_no_record {allow : EventRec → Bool} (h : s.cu.events = []) : firstFit s allow x = none := by
  unfold firstFit
  rw [h]
  rfl

theorem cuRequest_of_no_record (h : s.cu.events = []) : cuRequest s = s := by
  unfold cuRequest
  rw [h]
  rfl

theorem evictable_of_unprovisional (h : ∀ r ∈ s.cu.events, r.state ≠ .holdoff) :
    s.evictable = s.cu.entries.find? (fun e => e.bound.isNone) := by
  have hfree (e : Entry) : s.provisional e = false := by
    have hrec (k : Nat) : (s.rec? k).any (fun r => r.state == .holdoff) = false := by
      cases hr : s.rec? k with
      | none => rfl
      | some r => simpa using h r (List.mem_of_find?_eq_some hr)
    unfold State.provisional
    cases e.bound with
    | none => rfl
    | some k => exact hrec k
  unfold State.evictable
  congr 1
  funext e
  rw [hfree, Bool.or_false]

/-- An unbound entry that is evicted takes no record with it (R119). -/
theorem evict_of_unbound (h : e.bound = none) : evict e s =
    tdUnconfirmedIf (e.own && !e.confirmed) (bump .triggerTableOverflow (setEntries (s.cu.entries.erase e) s)) := by
  unfold evict
  rw [h]

/-- Without an own unbound entry no quorum is found (R126). -/
theorem evalQuorum_of_no_own (h : ∀ e ∈ s.cu.entries, e.bound = none → e.own = false) : evalQuorum s = s := by
  have hnone (e : Entry) : s.isQuorum e = false := by
    have hwindow : (s.windowOf e).any (fun x => x.own) = false := by
      rw [List.any_eq_false]
      intro x hx
      obtain ⟨hmem, htest⟩ := List.mem_filter.mp hx
      simp only [Bool.and_eq_true, Option.isNone_iff_eq_none] at htest
      simp [h x hmem htest.1.1]
    unfold State.isQuorum
    rw [hwindow, Bool.and_false]
  have hfind : (s.cu.entries.filter (fun e => e.bound.isNone)).find? s.isQuorum = none := by simp [hnone]
  unfold evalQuorum
  rw [hfind]
  split <;> rfl

theorem placeEntry_of_room (hevents : s.cu.events = []) (h : s.cu.entries.length < 24) :
    placeEntry x s = evalQuorum (setEntries (s.cu.entries ++ [x]) s) := by
  unfold placeEntry
  rw [placeFor_of_room h, firstFit_of_no_record hevents]
  rfl

theorem placeEntry_of_evicted (hevents : s.cu.events = []) (h : ¬ s.cu.entries.length < 24) (he : s.evictable = some e) :
    placeEntry x s = evalQuorum (setEntries ((evict e s).cu.entries ++ [x]) (evict e s)) := by
  unfold placeEntry
  rw [placeFor_of_full h, he, firstFit_of_no_record hevents]
  rfl

theorem setEntries_cu {xs : List Entry} : (setEntries xs s).cu = { s.cu with entries := sortBy entryLe xs } := rfl

theorem mem_setEntries {xs : List Entry} : e ∈ (setEntries xs s).cu.entries ↔ e ∈ xs := mem_sortBy _ _ _

/-! ## An onset that meets a full table, or an unfilled one, without records (R115, R118, R119) -/

/-- A new onset finds room in the table (R115). -/
theorem admitOnset_of_room (hevents : s.cu.events = []) (hown : ∀ e ∈ s.cu.entries, e.own = false) (hx : x.own = false)
    (hnew : s.tooOld x.onset = false) (hmerge : s.mergeTarget x.station x.onset = none) (hroom : s.cu.entries.length < 24) :
    admitOnset x s = setEntries (s.cu.entries ++ [x]) s := by
  obtain ⟨v, hv⟩ : ∃ v, v = setEntries (s.cu.entries ++ [x]) s := ⟨_, rfl⟩
  have hquorum : evalQuorum v = v := evalQuorum_of_no_own fun e he _ => by
    rw [hv, mem_setEntries] at he
    rcases List.mem_append.mp he with he | he
    · exact hown e he
    · rw [List.mem_singleton.mp he, hx]
  rw [admitOnset_of_new hnew hmerge, placeEntry_of_room hevents hroom, ← hv, hquorum,
    cuRequest_of_no_record (by rw [hv]; exact hevents)]

/-- A new onset takes the place of the first unbound entry of a full table; an own unconfirmed one is reported (R119, R108). -/
theorem admitOnset_of_giving (hevents : s.cu.events = []) (hown : ∀ y ∈ s.cu.entries.erase e, y.own = false) (hx : x.own = false)
    (hnew : s.tooOld x.onset = false) (hmerge : s.mergeTarget x.station x.onset = none) (hfull : ¬ s.cu.entries.length < 24)
    (he : s.cu.entries.find? (fun e => e.bound.isNone) = some e) : ∃ v : State,
    v = setEntries (s.cu.entries.erase e) s ∧
    admitOnset x s = setEntries (v.cu.entries ++ [x]) (tdUnconfirmedIf (e.own && !e.confirmed) (bump .triggerTableOverflow v)) := by
  refine ⟨_, rfl, ?_⟩
  have hevictable : s.evictable = some e := by rw [evictable_of_unprovisional (by rw [hevents]; simp), he]
  have hbound : e.bound = none := by simpa using List.find?_some he
  have hcu : (evict e s).cu = (setEntries (s.cu.entries.erase e) s).cu := by
    rw [evict_of_unbound hbound]
    simp [tdUnconfirmedIf, tdUnconfirmed, trimTimerStart]
    split <;> simp
  obtain ⟨v, hv⟩ : ∃ v, v = setEntries ((evict e s).cu.entries ++ [x]) (evict e s) := ⟨_, rfl⟩
  have hvevents : v.cu.events = [] := by
    rw [hv]
    exact (congrArg Coincidence.events hcu).trans hevents
  have hquorum : evalQuorum v = v := evalQuorum_of_no_own fun y hy _ => by
    rw [hv, mem_setEntries, hcu] at hy
    rcases List.mem_append.mp hy with hy | hy
    · exact hown y (mem_setEntries.mp hy)
    · rw [List.mem_singleton.mp hy, hx]
  rw [admitOnset_of_new hnew hmerge, placeEntry_of_evicted hevents hfull hevictable, ← hv, hquorum,
    cuRequest_of_no_record hvevents, hv, hcu, evict_of_unbound hbound]

/-- A new onset takes the place of the first unbound entry of a full table, no own one (R119). -/
theorem admitOnset_of_evicted (hevents : s.cu.events = []) (hown : ∀ e ∈ s.cu.entries, e.own = false) (hx : x.own = false)
    (hnew : s.tooOld x.onset = false) (hmerge : s.mergeTarget x.station x.onset = none) (hfull : ¬ s.cu.entries.length < 24)
    (he : s.cu.entries.find? (fun e => e.bound.isNone) = some e) : ∃ v : State,
    v = setEntries (s.cu.entries.erase e) s ∧
    admitOnset x s = setEntries (v.cu.entries ++ [x]) (bump .triggerTableOverflow v) := by
  obtain ⟨v, hv, hadmit⟩ := admitOnset_of_giving hevents (fun y hy => hown y (List.mem_of_mem_erase hy)) hx hnew hmerge hfull he
  refine ⟨v, hv, hadmit.trans ?_⟩
  rw [hown e (List.mem_of_find?_eq_some he)]
  rfl

/-- A new onset finds no place in a table full of bound entries, no record standing in HOLDOFF (R119). -/
theorem placeFor_of_bound (hrecords : ∀ r ∈ s.cu.events, r.state ≠ .holdoff) (hfull : ¬ s.cu.entries.length < 24)
    (hbound : ∀ e ∈ s.cu.entries, e.bound.isSome) : s.placeFor = none := by
  have hfind : s.cu.entries.find? (fun e => e.bound.isNone) = none := by
    rw [List.find?_eq_none]
    intro e he
    simpa [Option.isSome_iff_ne_none] using hbound e he
  rw [placeFor_of_full hfull, evictable_of_unprovisional hrecords, hfind]
  rfl

end

end Sys2Proof.Machine

/-! PROOFS. An accepted BEACON (O35). -/
namespace Sys2Proof.Machine
set_option Elab.async false

section
variable {s t u : State} {c : Counter} {stamp : RxStamp} {hdr : Header} {rest : List Byte} {b : BeaconBody}

/-! ## The sender's record (R44 to R46, R48, R49) -/

/-- A record with the announcements of a BEACON (R46). -/
def PeerRecord.announcing (b : BeaconBody) (r : PeerRecord) : PeerRecord :=
  { r with mode := some b.mode, cls := some b.cls, code := some b.code, distance := some b.distance,
           quality := some b.quality, unset := some b.unset, trig := some b.trig, lastOnset := b.lastOnset }

/-- The state once the records of an accepted BEACON are written, before its trigger fields are read. -/
def State.announced (s : State) (hdr : Header) (rest : List Byte) (stamp : RxStamp) (b : BeaconBody) : State :=
  tauBeacon hdr.sender b.stamp stamp (ptBeacon hdr.sender b (headerTaken { hdr, rest } stamp .beacon s))

@[simp] theorem announced_leaves :
    (s.announced hdr rest stamp b).pins = s.pins ∧ (s.announced hdr rest stamp b).tb = s.tb ∧
    (s.announced hdr rest stamp b).rmu = s.rmu ∧ (s.announced hdr rest stamp b).tau = s.tau ∧
    (s.announced hdr rest stamp b).si = s.si ∧ (s.announced hdr rest stamp b).td = s.td ∧ (s.announced hdr rest stamp b).cu = s.cu ∧
    (s.announced hdr rest stamp b).uc = s.uc ∧ (s.announced hdr rest stamp b).bm = s.bm ∧ (s.announced hdr rest stamp b).hc = s.hc ∧
    (s.announced hdr rest stamp b).mc = s.mc ∧ (s.announced hdr rest stamp b).cs = s.cs ∧
    (s.announced hdr rest stamp b).lc = { s.lc with rx := .hunting } := by
  simp [State.announced]

theorem announced_count : (s.announced hdr rest stamp b).count c =
    if c = .framesAccepted then min (s.count c + 1) 65535 else s.count c := by
  rw [← headerTaken_count (f := { hdr, rest }) (stamp := stamp) (kind := .beacon)]
  exact count_of_counters_eq (by simp [State.announced])

/-- A BEACON's offset sample goes into the record of its sender alone (R66). -/
theorem peer_tauBeacon {sender id : Nat} {time : StationTime} : ∃ f : PeerRecord → Option Int,
    (tauBeacon sender time stamp s).peer id =
      (if id = sender then (s.peer sender).map (fun r => { r with sample := f r }) else s.peer id) ∧
    (s.awake = true → s.listenOnly = false → ∀ (r : PeerRecord) (d : Nat), r.delay = some d → f r = some ((time : Int) + d - stamp.time)) := by
  unfold tauBeacon
  split
  · refine ⟨fun r => (r.delay.map fun d => (time : Int) + d - stamp.time) <|> r.sample, ?_, fun _ _ r d hd => by simp [hd]⟩
    rw [peer_updPeer (fun r => by split <;> rfl)]
    congr 2
    funext r
    cases r with
    | mk => split <;> simp_all
  · next hdumb =>
    refine ⟨fun r => r.sample, ?_, fun hawake hlisten => absurd (by simp [hawake, hlisten]) hdumb⟩
    split
    · next h =>
      subst h
      simp
    · rfl

theorem peer_ptBeacon {sender id : Nat} : (ptBeacon sender b s).peer id =
    if id = sender then (s.peer sender).map (PeerRecord.announcing b) else s.peer id := peer_updPeer

/-- The records after a BEACON: its sender's is written, the others stand. -/
theorem announced_peer : ∃ z, (s.announced hdr rest stamp b).peer hdr.sender =
      some { (takenPeer (RxFrame.facts { hdr, rest } stamp .beacon) s).announcing b with sample := z } ∧
    (s.awake = true → s.listenOnly = false →
      ∀ d : Nat, (takenPeer (RxFrame.facts { hdr, rest } stamp .beacon) s).delay = some d → z = some ((b.stamp : Int) + d - stamp.time)) := by
  obtain ⟨f, hf, hsample⟩ := peer_tauBeacon (s := ptBeacon hdr.sender b (headerTaken { hdr, rest } stamp .beacon s))
    (sender := hdr.sender) (id := hdr.sender) (time := b.stamp) (stamp := stamp)
  refine ⟨f ((takenPeer (RxFrame.facts { hdr, rest } stamp .beacon) s).announcing b), ?_, fun hawake hlisten d hd => ?_⟩
  · rw [State.announced, hf, if_pos rfl, peer_ptBeacon, if_pos rfl, headerTaken_peer (f := { hdr, rest })]
    rfl
  · refine hsample ?_ ?_ _ d hd
    · simpa [State.awake] using hawake
    · simpa [State.listenOnly, State.ownId] using hlisten

theorem announced_peer_other {id : Nat} (h : id ≠ hdr.sender) : (s.announced hdr rest stamp b).peer id = s.peer id := by
  obtain ⟨f, hf, -⟩ := peer_tauBeacon (s := ptBeacon hdr.sender b (headerTaken { hdr, rest } stamp .beacon s))
    (sender := hdr.sender) (id := id) (time := b.stamp) (stamp := stamp)
  rw [State.announced, hf, if_neg h, peer_ptBeacon, if_neg h, headerTaken, peer_ptTake]
  exact if_neg h

/-- A record's ring takes the check error count, its sixteenth before it leaving (R48). -/
theorem ringPush_sound {n : Nat} {r : PeerRecord} (h : r.RingSound) :
    (ringPush n r).ring = (if r.ring.length = 16 then r.ring.tail else r.ring) ++ [n] ∧
    (ringPush n r).ringSum = (ringPush n r).ring.sum ∧ (ringPush n r).counted = min (r.counted + 1) 16 := by
  obtain ⟨hlen, hsum, hcount⟩ := h
  unfold ringPush
  split
  · next h16 =>
    have hfull : r.ring.length = 16 := by omega
    rw [if_pos hfull]
    refine ⟨rfl, ?_, by show r.counted = _; omega⟩
    show r.ringSum - r.ring.headD 0 + n = (r.ring.tail ++ [n]).sum
    rw [hsum]
    cases hring : r.ring with
    | nil => simp
    | cons a as => simp
  · next h16 =>
    rw [if_neg (by omega)]
    refine ⟨rfl, ?_, by show r.counted + 1 = _; omega⟩
    show r.ringSum + n = (r.ring ++ [n]).sum
    rw [hsum]
    simp

/-- The taken record of a station that is known (R45, R48, R49). -/
theorem takenPeer_of_known {x : HeaderFacts} {r : PeerRecord} (h : s.peer x.sender = some r) (hb : x.isBeacon = true) :
    (takenPeer x s).ranging = r.ranging ∧ (takenPeer x s).delay = r.delay ∧ (takenPeer x s).trig = r.trig ∧
    (takenPeer x s).ring = (ringPush x.errors r).ring ∧ (takenPeer x s).ringSum = (ringPush x.errors r).ringSum ∧
    (takenPeer x s).counted = (ringPush x.errors r).counted ∧
    (takenPeer x s).grade =
      gradeOf s.cs.image.eGood s.cs.image.ePoor (ringPush x.errors r).counted (ringPush x.errors r).ringSum := by
  have hpush : ringPush x.errors { r with lastHeard := x.moment, heldAge := none, lastSeq := x.seq } =
      { ringPush x.errors r with lastHeard := x.moment, heldAge := none, lastSeq := x.seq } := by
    unfold ringPush
    dsimp only
    split <;> rfl
  have htouch : touchPeer s.cs.image.eGood s.cs.image.ePoor x r =
      { ringPush x.errors r with
        lastHeard := x.moment, heldAge := none, lastSeq := x.seq
        grade := gradeOf s.cs.image.eGood s.cs.image.ePoor (ringPush x.errors r).counted (ringPush x.errors r).ringSum } := by
    unfold touchPeer
    dsimp only
    rw [hpush, hb]
    rfl
  have hrest : (ringPush x.errors r).ranging = r.ranging ∧ (ringPush x.errors r).delay = r.delay ∧
      (ringPush x.errors r).trig = r.trig := by
    rw [ringPush_eq]
    exact ⟨rfl, rfl, rfl⟩
  obtain ⟨h1, h2, h3⟩ := hrest
  simp only [takenPeer, h, htouch]
  split <;> exact ⟨h1, h2, h3, rfl, rfl, rfl, rfl⟩

/-- The record of a station that is not known is a new one (R44). -/
theorem takenPeer_of_new {x : HeaderFacts} (h : s.peer x.sender = none) (hb : x.isBeacon = true) :
    ∃ held, takenPeer x s = { newPeer x with heldAge := held } := by
  have hnew : wakeMode x.isBeacon (newPeer x) = newPeer x := by
    rw [hb]
    rfl
  simp only [takenPeer, h, hnew]
  split
  · exact ⟨_, rfl⟩
  · exact ⟨none, rfl⟩

end

end Sys2Proof.Machine

/-! PROOFS. The trigger fields of an accepted BEACON, and its obligation (O35). -/
namespace Sys2Proof.Machine
set_option Elab.async false

section
variable {s t u : State} {c : Counter} {stamp : RxStamp} {hdr : Header} {rest : List Byte} {b : BeaconBody} {ended : Bool}
  {sender : Nat} {o : StationTime}

/-! ## The trigger fields (R118, R136) -/

/-- A BEACON's last END for the records of its sender, and their closure test (R136). -/
def beaconTested (sender : Nat) (ended : Bool) (s : State) : State :=
  closeTest (fun r => r.includes sender) (if ended then renewEnd (fun r => r.includes sender) s else s)

theorem cuBeacon_of_no_onset (h : b.lastOnset = none) : cuBeacon sender b ended s = beaconTested sender ended s := by
  unfold cuBeacon beaconTested
  rw [h]

theorem cuBeacon_of_known_onset (h : b.lastOnset = some o) (hm : (s.mergeTarget sender o).isSome = true) :
    cuBeacon sender b ended s = beaconTested sender ended s := by
  unfold cuBeacon beaconTested
  rw [h]
  simp only [hm, if_true]

theorem cuBeacon_of_new_onset (h : b.lastOnset = some o) (hm : s.mergeTarget sender o = none) :
    cuBeacon sender b ended s = beaconTested sender ended
      (bumpIf (s.findsPlace (arrival sender o none b.peak none false)) .recoveredEntries
        (admitOnset (arrival sender o none b.peak none false) s)) := by
  unfold cuBeacon beaconTested
  rw [h]
  simp only [hm, Option.isSome_none, Bool.false_eq_true, if_false]

theorem renewEnd_of_none {p : EventRec → Bool} (h : ∀ r ∈ s.cu.events, p r = false) : renewEnd p s = s := by
  have hmap : s.cu.events.map (fun r => if r.state.open && p r then { r with lastEnd := s.now } else r) = s.cu.events :=
    (List.map_congr_left fun r hr => by rw [if_neg (by simp [h r hr])]; rfl).trans (List.map_id _)
  unfold renewEnd
  rw [hmap]
  rfl

theorem closeTest_of_none {p : EventRec → Bool} (h : ∀ r ∈ s.cu.events, p r = false) : closeTest p s = s := by
  unfold closeTest closeWhere
  rw [if_neg]
  simp only [Bool.not_eq_true, List.any_eq_false]
  intro r hr
  simp [h r hr]

/-- A sender that no record holds ends none. -/
theorem beaconTested_apart (h : ∀ r ∈ s.cu.events, r.includes sender = false) : beaconTested sender ended s = s := by
  unfold beaconTested
  split
  · rw [renewEnd_of_none h, closeTest_of_none h]
  · exact closeTest_of_none h

/-- A BEACON ends its sender's trigger: its record stood ON or HOLD, the beacon's does not (R136). -/
def State.endsTrigger (s : State) (sender : Nat) (b : BeaconBody) : Bool :=
  (s.peer sender).any (fun r => r.trig == some .on || r.trig == some .hold) && !(b.trig == .on || b.trig == .hold)

theorem takenPeer_trig {x : HeaderFacts} (hb : x.isBeacon = true) : (takenPeer x s).trig = (s.peer x.sender).bind (fun r => r.trig) := by
  cases h : s.peer x.sender with
  | some r => exact (takenPeer_of_known h hb).2.2.1
  | none =>
    obtain ⟨held, hnew⟩ := takenPeer_of_new h hb
    rw [hnew]
    rfl

/-- The state in which the trigger fields of a BEACON are read. -/
def State.heardBeacon (s : State) (hdr : Header) (rest : List Byte) (stamp : RxStamp) (b : BeaconBody) : State :=
  if hdr.muster then musterHeard (s.announced hdr rest stamp b) else s.announced hdr rest stamp b

theorem musterHeard_mc : (musterHeard s).mc = if s.awake then { s.mc with
    wakeHold := some { start := s.now, period := secs s.cs.image.wakeHold }, abandonDue := true } else s.mc := by
  unfold musterHeard
  split <;> rfl

theorem heardBeacon_capture : (s.heardBeacon hdr rest stamp b).mc.capture = s.mc.capture := by
  unfold State.heardBeacon
  split
  · rw [musterHeard_mc]
    split <;> simp
  · simp

/-- The step of an accepted BEACON (R40, R46). -/
theorem exec_beaconReceived (h : s.Receives stamp hdr rest) (hj : s.judge { hdr := hdr, rest := rest } = .accepted .beacon (.beacon b)) :
    exec (.beaconReceived rest) s =
      .next (finish (cuBeacon hdr.sender b (s.endsTrigger hdr.sender b) (s.heardBeacon hdr rest stamp b))) := by
  have hended : s.endsTrigger hdr.sender b =
      ((((headerTaken { hdr := hdr, rest := rest } stamp .beacon s).peer hdr.sender).bind (fun r => r.trig) == some .on ||
        ((headerTaken { hdr := hdr, rest := rest } stamp .beacon s).peer hdr.sender).bind (fun r => r.trig) == some .hold) &&
      !(b.trig == .on || b.trig == .hold)) := by
    have hpeer := headerTaken_peer (f := { hdr := hdr, rest := rest }) (stamp := stamp) (s := s) (kind := .beacon)
    dsimp only at hpeer
    rw [hpeer, Option.bind_some, takenPeer_trig rfl]
    show State.endsTrigger s hdr.sender b = (((s.peer hdr.sender).bind _ == _ || (s.peer hdr.sender).bind _ == _) && _)
    unfold State.endsTrigger
    cases s.peer hdr.sender <;> rfl
  have hdeliver : deliver { hdr := hdr, rest := rest } stamp (.beacon b) (headerTaken { hdr := hdr, rest := rest } stamp .beacon s) =
      cuBeacon hdr.sender b (s.endsTrigger hdr.sender b) (s.heardBeacon hdr rest stamp b) := by
    rw [hended]
    rfl
  have hmc := mc_of_besideEvents (cuBeacon_besideEvents (s := s.heardBeacon hdr rest stamp b) (st := hdr.sender) (bb := b)
    (en := s.endsTrigger hdr.sender b))
  exact congrArg Host.Outcome.next (h.delivered hj (by simp) hdeliver (by
    rw [hmc]
    exact heardBeacon_capture))

end

end Sys2Proof.Machine

/-! PROOFS. An accepted BEACON: its obligation (O35). -/
namespace Sys2Proof.Machine
set_option Elab.async false

section
variable {s t u : State} {c : Counter} {stamp : RxStamp} {hdr : Header} {rest : List Byte} {b : BeaconBody} {ended : Bool}
  {sender : Nat} {o : StationTime}

theorem announced_settled (h : s.Settled) : (s.announced hdr rest stamp b).Settled := by
  unfold State.Settled at *
  simpa using h

/-- Without an event record, an onset and a muster the step is the writing of the record and its own end. -/
theorem exec_beacon_plain (h : s.Receives stamp hdr rest) (hj : s.judge { hdr := hdr, rest := rest } = .accepted .beacon (.beacon b))
    (hevents : s.cu.events = []) (honset : b.lastOnset = none) (hmuster : hdr.muster = false) :
    exec (.beaconReceived rest) s = .next (finish (s.announced hdr rest stamp b)) := by
  have hheard : s.heardBeacon hdr rest stamp b = s.announced hdr rest stamp b := by
    unfold State.heardBeacon
    rw [if_neg (by simp [hmuster])]
  rw [exec_beaconReceived h hj, hheard, cuBeacon_of_no_onset honset, beaconTested_apart (by simp [hevents])]

/-- The record of a BEACON's sender as its announcements, its ring and its grade leave it (R44 to R46, R48, R49). -/
theorem announced_record (honset : b.lastOnset = none) :
    ∃ r, (s.announced hdr rest stamp b).peer hdr.sender = some r ∧
        r.mode = some b.mode ∧ r.cls = some b.cls ∧ r.code = some b.code ∧ r.distance = some b.distance ∧
        r.quality = some b.quality ∧ r.unset = some b.unset ∧ r.trig = some b.trig ∧ r.lastOnset = none ∧
        r.lastHeard = stamp.moment ∧ r.lastSeq = hdr.sequence.toNat ∧
        (s.peer hdr.sender = none → r.ranging = .unranged ∧ r.delay = none ∧ r.attempts = 0 ∧ r.grade = .marginal ∧ r.counted = 1 ∧
          r.ring = [checkErrors hdr.sender hdr.sequence.toNat (RxFrame.check { hdr := hdr, rest := rest })]) ∧
        (∀ r0, s.peer hdr.sender = some r0 → r.ranging = r0.ranging ∧ r.delay = r0.delay ∧
          (s.awake = true → s.listenOnly = false → ∀ d, r0.delay = some d → r.sample = some ((b.stamp : Int) + d - stamp.time)) ∧
          (r0.RingSound →
            r.ring = (if r0.ring.length = 16 then r0.ring.tail else r0.ring) ++
              [checkErrors hdr.sender hdr.sequence.toNat (RxFrame.check { hdr := hdr, rest := rest })] ∧
            r.ringSum = r.ring.sum ∧ r.counted = min (r0.counted + 1) 16 ∧
            r.grade = (if r.counted ≤ 3 then .marginal else if r.ringSum ≤ s.cs.image.eGood then .good
              else if r.ringSum ≤ s.cs.image.ePoor then .marginal else .poor))) := by
  obtain ⟨z, hpeer, hsample⟩ := announced_peer (s := s) (hdr := hdr) (rest := rest) (stamp := stamp) (b := b)
  obtain ⟨hseq, hheard, -⟩ := takenPeer_facts (x := RxFrame.facts { hdr := hdr, rest := rest } stamp .beacon) (s := s)
  refine ⟨_, hpeer, rfl, rfl, rfl, rfl, rfl, rfl, rfl, honset, hheard, hseq, fun hnone => ?_, fun r0 hr0 => ?_⟩
  · obtain ⟨held, hnew⟩ := takenPeer_of_new (x := RxFrame.facts { hdr := hdr, rest := rest } stamp .beacon) (s := s) hnone rfl
    rw [hnew]
    exact ⟨rfl, rfl, rfl, rfl, rfl, rfl⟩
  · obtain ⟨hranging, hdelay, -, hring, hsum, hcounted, hgrade⟩ :=
      takenPeer_of_known (x := RxFrame.facts { hdr := hdr, rest := rest } stamp .beacon) (s := s) hr0 rfl
    refine ⟨hranging, hdelay, fun hawake hlisten d hd => hsample hawake hlisten d (hdelay.trans hd), fun hsound => ?_⟩
    obtain ⟨hpring, hpsum, hpcounted⟩ := ringPush_sound
      (n := (RxFrame.facts { hdr := hdr, rest := rest } stamp .beacon).errors) hsound
    refine ⟨hring.trans hpring, (hsum.trans hpsum).trans (congrArg List.sum hring.symm), hcounted.trans hpcounted, ?_⟩
    show (takenPeer _ s).grade = if (takenPeer _ s).counted ≤ 3 then _ else if (takenPeer _ s).ringSum ≤ _ then _
      else if (takenPeer _ s).ringSum ≤ _ then _ else _
    rw [hgrade, hcounted, hsum]
    unfold gradeOf
    simp only [Nat.lt_succ_iff]

/-! ## A last onset (R118) -/

/-- What the last onset of a BEACON does to the tables, no event record and no own entry standing: `v` before, `w` after, `x` its entry. -/
structure State.TakesOnset (v w : State) (sender : Nat) (o : StationTime) (x : Entry) : Prop where
  rest : w.mc = v.mc ∧ w.td = v.td ∧ w.cu.events = []
  known : (∃ e ∈ v.cu.entries, e.station = sender ∧ timeGap e.onset o ≤ secs v.cs.image.wc) →
    w.cu = v.cu ∧ w.count .recoveredEntries = v.count .recoveredEntries ∧ w.count .staleEntries = v.count .staleEntries
  stale : (¬∃ e ∈ v.cu.entries, e.station = sender ∧ timeGap e.onset o ≤ secs v.cs.image.wc) →
    o + secs v.cs.image.wc + secs 30 < v.tb.time →
    w.cu = v.cu ∧ w.count .recoveredEntries = v.count .recoveredEntries ∧
      w.count .staleEntries = min (v.count .staleEntries + 1) 65535
  room : (¬∃ e ∈ v.cu.entries, e.station = sender ∧ timeGap e.onset o ≤ secs v.cs.image.wc) →
    ¬ o + secs v.cs.image.wc + secs 30 < v.tb.time → v.cu.entries.length < 24 →
    (∀ e, e ∈ w.cu.entries ↔ e ∈ v.cu.entries ∨ e = x) ∧ w.count .recoveredEntries = min (v.count .recoveredEntries + 1) 65535
  evicted : (¬∃ e ∈ v.cu.entries, e.station = sender ∧ timeGap e.onset o ≤ secs v.cs.image.wc) →
    ¬ o + secs v.cs.image.wc + secs 30 < v.tb.time → ¬ v.cu.entries.length < 24 →
    ∀ y, v.cu.entries.find? (fun e => e.bound.isNone) = some y →
      (∀ e, e ∈ w.cu.entries ↔ e ∈ v.cu.entries.erase y ∨ e = x) ∧
      w.count .recoveredEntries = min (v.count .recoveredEntries + 1) 65535 ∧
      w.count .triggerTableOverflow = min (v.count .triggerTableOverflow + 1) 65535
  full : (¬∃ e ∈ v.cu.entries, e.station = sender ∧ timeGap e.onset o ≤ secs v.cs.image.wc) →
    ¬ o + secs v.cs.image.wc + secs 30 < v.tb.time → ¬ v.cu.entries.length < 24 → (∀ e ∈ v.cu.entries, e.bound.isSome) →
    w.cu = v.cu ∧ w.count .recoveredEntries = v.count .recoveredEntries ∧
      w.count .triggerTableOverflow = min (v.count .triggerTableOverflow + 1) 65535

/-- The place that an arrival finds (R115, R119), where it is new. -/
theorem findsPlace_of_new {x : Entry} (hnew : s.tooOld x.onset = false) (hmerge : s.mergeTarget x.station x.onset = none) :
    s.findsPlace x = s.placeFor.isSome := by
  unfold State.findsPlace
  rw [hnew, hmerge]
  rfl

theorem count_setEntries {xs : List Entry} : (setEntries xs s).count c = s.count c := rfl

theorem takesOnset (hevents : s.cu.events = []) (hown : ∀ e ∈ s.cu.entries, e.own = false) (honset : b.lastOnset = some o) :
    s.TakesOnset (cuBeacon sender b ended s) sender o (arrival sender o none b.peak none false) := by
  obtain ⟨x, hx⟩ : ∃ x, x = arrival sender o none b.peak none false := ⟨_, rfl⟩
  have hxown : x.own = false := by rw [hx]; rfl
  have hxonset : x.onset = o := by rw [hx]; rfl
  have hxstation : x.station = sender := by rw [hx]; rfl
  rw [← hx]
  by_cases hknown : s.mergeTarget sender o = none
  swap
  · rw [cuBeacon_of_known_onset honset (Option.isSome_iff_ne_none.mpr hknown), beaconTested_apart (by simp [hevents])]
    rw [mergeTarget_eq_none, not_not] at hknown
    exact ⟨⟨rfl, rfl, hevents⟩, fun _ => ⟨rfl, rfl, rfl⟩, fun h => absurd hknown h, fun h => absurd hknown h,
      fun h => absurd hknown h, fun h => absurd hknown h⟩
  have hmerge : s.mergeTarget x.station x.onset = none := by rw [hxonset, hxstation]; exact hknown
  have hunknown := mergeTarget_eq_none.mp hknown
  rw [cuBeacon_of_new_onset honset hknown, ← hx]
  by_cases hold : s.tooOld x.onset = true
  · have hplace : s.findsPlace x = false := by
      unfold State.findsPlace
      rw [hold]
      rfl
    rw [admitOnset_of_old hold, hplace, beaconTested_apart (by exact fun r hr => absurd hr (by simp [bumpIf, hevents]))]
    rw [tooOld_iff, hxonset] at hold
    exact ⟨⟨rfl, rfl, hevents⟩, fun h => absurd h hunknown, fun _ _ => ⟨rfl, by simp [bumpIf], by simp [bumpIf]⟩,
      fun _ h => absurd hold h, fun _ h => absurd hold h, fun _ h => absurd hold h⟩
  have hnew : s.tooOld x.onset = false := by simpa using hold
  rw [tooOld_iff, hxonset] at hold
  rw [findsPlace_of_new hnew hmerge]
  by_cases hroom : s.cu.entries.length < 24
  · rw [admitOnset_of_room hevents hown hxown hnew hmerge hroom, placeFor_of_room hroom,
      beaconTested_apart (by exact fun r hr => absurd hr (by simp [bumpIf, hevents, setEntries]))]
    exact ⟨⟨rfl, rfl, hevents⟩, fun h => absurd h hunknown, fun _ h => absurd h hold,
      fun _ _ _ => ⟨fun e => by
        show e ∈ (setEntries (s.cu.entries ++ [x]) s).cu.entries ↔ _
        rw [mem_setEntries, List.mem_append, List.mem_singleton], by simp [bumpIf, count_setEntries]⟩,
      fun _ _ h => absurd hroom h, fun _ _ h => absurd hroom h⟩
  cases hfind : s.cu.entries.find? (fun e => e.bound.isNone) with
  | some y =>
    obtain ⟨v, hv, hadmit⟩ := admitOnset_of_evicted hevents hown hxown hnew hmerge hroom hfind
    have hplace : s.placeFor.isSome = true := by
      rw [placeFor_of_full hroom, evictable_of_unprovisional (by rw [hevents]; simp), hfind]
      rfl
    have hvevents : v.cu.events = [] := by rw [hv]; exact hevents
    have hvcount (c : Counter) : v.count c = s.count c := by rw [hv]; rfl
    rw [hadmit, hplace, beaconTested_apart (by exact fun r hr => absurd hr (by simp [bumpIf, hvevents, setEntries]))]
    refine ⟨⟨by rw [hv]; rfl, by rw [hv]; rfl, hvevents⟩, fun h => absurd h hunknown, fun _ h => absurd h hold,
      fun _ _ h => absurd h hroom, fun _ _ _ z hz => ?_, fun _ _ _ h => ?_⟩
    · obtain rfl : y = z := Option.some.inj (hfind.symm.trans hz)
      refine ⟨fun e => ?_, by simp [bumpIf, count_setEntries, hvcount], by simp [bumpIf, count_setEntries, hvcount]⟩
      show e ∈ (setEntries (v.cu.entries ++ [x]) (bump .triggerTableOverflow v)).cu.entries ↔ _
      rw [mem_setEntries, List.mem_append, List.mem_singleton, hv, mem_setEntries]
    · have hbound := List.find?_some hfind
      rw [Option.isNone_iff_eq_none] at hbound
      have := h y (List.mem_of_find?_eq_some hfind)
      rw [hbound] at this
      cases this
  | none =>
    have hbound : ∀ e ∈ s.cu.entries, e.bound.isSome := by
      intro e he
      have := List.find?_eq_none.mp hfind e he
      simpa [Option.isSome_iff_ne_none] using this
    have hplace : s.placeFor = none := placeFor_of_bound (by rw [hevents]; simp) hroom hbound
    rw [admitOnset_of_new hnew hmerge, placeEntry_of_no_place hplace, cuRequest_of_no_record (by exact hevents), hplace,
      beaconTested_apart (by exact fun r hr => absurd hr (by simp [bumpIf, hevents]))]
    exact ⟨⟨rfl, rfl, hevents⟩, fun h => absurd h hunknown, fun _ h => absurd h hold, fun _ _ h => absurd h hroom,
      fun _ _ _ z hz => (by rw [hfind] at hz; cases hz), fun _ _ _ _ => ⟨rfl, by simp [bumpIf], by simp [bumpIf]⟩⟩

end

end Sys2Proof.Machine

section
open Sys2Proof Sys2Proof.Machine
set_option Elab.async false
variable {s : State} {stamp : RxStamp} {hdr : Header} {rest : List Byte} {b : BeaconBody}

/-- The first part of O35. -/
theorem beacon_writes_record (h : s.Receives stamp hdr rest) (hset : s.Settled)
    (hj : s.judge { hdr := hdr, rest := rest } = .accepted .beacon (.beacon b)) (hevents : s.cu.events = [])
    (honset : b.lastOnset = none) (hmuster : hdr.muster = false) :
      ∃ t r, exec (.beaconReceived rest) s = .next t ∧ t.peer hdr.sender = some r ∧ t.lc.rx = .hunting ∧
        t.count .framesAccepted = min (s.count .framesAccepted + 1) 65535 ∧
        r.mode = some b.mode ∧ r.cls = some b.cls ∧ r.code = some b.code ∧ r.distance = some b.distance ∧
        r.quality = some b.quality ∧ r.unset = some b.unset ∧ r.trig = some b.trig ∧ r.lastOnset = none ∧
        r.lastHeard = stamp.moment ∧ r.lastSeq = hdr.sequence.toNat ∧
        (s.peer hdr.sender = none → r.ranging = .unranged ∧ r.delay = none ∧ r.attempts = 0 ∧ r.grade = .marginal ∧ r.counted = 1 ∧
          r.ring = [checkErrors hdr.sender hdr.sequence.toNat (RxFrame.check { hdr := hdr, rest := rest })]) ∧
        (∀ r0, s.peer hdr.sender = some r0 → r.ranging = r0.ranging ∧ r.delay = r0.delay ∧
          (s.awake = true → s.listenOnly = false → ∀ d, r0.delay = some d → r.sample = some ((b.stamp : Int) + d - stamp.time)) ∧
          (r0.RingSound →
            r.ring = (if r0.ring.length = 16 then r0.ring.tail else r0.ring) ++
              [checkErrors hdr.sender hdr.sequence.toNat (RxFrame.check { hdr := hdr, rest := rest })] ∧
            r.ringSum = r.ring.sum ∧ r.counted = min (r0.counted + 1) 16 ∧
            r.grade = (if r.counted ≤ 3 then .marginal else if r.ringSum ≤ s.cs.image.eGood then .good
              else if r.ringSum ≤ s.cs.image.ePoor then .marginal else .poor))) ∧
        (∀ id, id ≠ hdr.sender → t.peer id = s.peer id) ∧
        t.tb = s.tb ∧ t.rmu = s.rmu ∧ t.tau = s.tau ∧ t.si = s.si ∧ t.td = s.td ∧ t.cu = s.cu ∧ t.bm = s.bm ∧ t.hc = s.hc ∧
        t.cs = s.cs := by
  have hvset := announced_settled (hdr := hdr) (rest := rest) (stamp := stamp) (b := b) hset
  obtain ⟨r, hr, hfields⟩ := announced_record (s := s) (stamp := stamp) (hdr := hdr) (rest := rest) honset
  have hcount := announced_count (s := s) (hdr := hdr) (rest := rest) (stamp := stamp) (b := b) (c := .framesAccepted)
  have hother (id : Nat) (hid : id ≠ hdr.sender) := announced_peer_other (s := s) (rest := rest) (stamp := stamp) (b := b) hid
  obtain ⟨-, htb, hrmu, htau, hsi, htd, hcu, -, hbm, hhc, -, hcs, hlc⟩ :=
    announced_leaves (s := s) (hdr := hdr) (rest := rest) (stamp := stamp) (b := b)
  have hexec := exec_beacon_plain h hj hevents honset hmuster
  generalize s.announced hdr rest stamp b = v at *
  obtain ⟨-, -, hftb, hfrmu, hfpeers, hftau, hfsi, hftd, hfbm, hfhc, hfcs, -⟩ := finish_leaves_settled v hvset
  obtain ⟨h1, h2, h3, h4, h5, h6, h7, h8, h9, h10, h11, h12⟩ := hfields
  refine ⟨finish v, r, hexec, (peer_of_peers_eq hfpeers).trans hr, ?_, ?_, h1, h2, h3, h4, h5, h6, h7, h8, h9, h10, h11, h12,
    fun id hid => (peer_of_peers_eq hfpeers).trans (hother id hid), hftb.trans htb, hfrmu.trans hrmu, hftau.trans htau,
    hfsi.trans hsi, hftd.trans htd, ?_, hfbm.trans hbm, hfhc.trans hhc, hfcs.trans hcs⟩
  · rw [finish_rx hvset, hlc]
  · rw [finish_count hvset, hcount, if_pos rfl]
  · rw [finish_cu_of_no_record hvset (by rw [hcu]; exact hevents), hcu]

end

/-! PROOFS. An accepted BEACON with a last onset, with a muster, and the records of its sender (O35). -/
namespace Sys2Proof.Machine
set_option Elab.async false

section
variable {s t u : State} {c : Counter} {stamp : RxStamp} {hdr : Header} {rest : List Byte} {b : BeaconBody} {ended : Bool}
  {sender : Nat} {o : StationTime}

theorem heardBeacon_of_no_muster (h : hdr.muster = false) : s.heardBeacon hdr rest stamp b = s.announced hdr rest stamp b := by
  unfold State.heardBeacon
  rw [if_neg (by simp [h])]

/-- A record behind a beacon of one of its stations (R136). -/
def State.recordTested (s : State) (sender : Nat) (ended : Bool) (r : EventRec) : EventRec :=
  if r.includes sender then
    (let renewed := if r.state.open && ended then { r with lastEnd := s.now } else r
     if s.mayClose renewed then renewed.close s.now else renewed)
  else r

theorem recordTested_eq {r : EventRec} {off : Part → Bool}
    (hoff : ∀ p, (if p.station == s.ownId then !s.td.active else s.standsOff p.station) = off p) : s.recordTested sender ended r =
    if r.includes sender then
      (let renewed := if r.state.open && ended then { r with lastEnd := s.now } else r
       if r.state.live && r.parts.all off && decide (secs s.cs.image.closeDelay ≤ since s.now renewed.lastEnd) then
         { renewed with state := .closed, finished := some s.now, declOwed := false }
       else renewed)
    else r := by
  unfold State.recordTested State.mayClose
  simp only [hoff]
  by_cases h : (r.state.open && ended) = true
  · simp only [h, if_true]
    rfl
  · simp only [h, if_false]
    rfl

theorem closeTest_cu {p : EventRec → Bool} : (closeTest p s).cu =
    { s.cu with events := s.cu.events.map (fun r => if p r && s.mayClose r then r.close s.now else r) } := closeWhere_cu

theorem beaconTested_cu : (beaconTested sender ended s).cu =
    { s.cu with events := s.cu.events.map (s.recordTested sender ended) } := by
  have hrecord (r : EventRec) : (s.recordTested sender true) r =
      (fun r => if r.includes sender && s.mayClose r then r.close s.now else r)
        (if r.state.open && r.includes sender then { r with lastEnd := s.now } else r) := by
    unfold State.recordTested
    by_cases hin : r.includes sender = true
    · have hkeep : (if (r.state.open && r.includes sender) = true then { r with lastEnd := s.now } else r).includes sender = true := by
        split <;> exact hin
      dsimp only
      rw [hkeep, if_pos hin, hin, Bool.and_true, Bool.true_and]
    · have hin : r.includes sender = false := by simpa using hin
      simp [hin]
  unfold beaconTested
  cases ended with
  | true =>
    have hmap : (renewEnd (fun r => r.includes sender) s).cu.events.map (fun r =>
        if r.includes sender && s.mayClose r then r.close s.now else r) = s.cu.events.map (s.recordTested sender true) := by
      show (s.cu.events.map _).map _ = _
      rw [List.map_map]
      exact List.map_congr_left fun r _ => (hrecord r).symm
    rw [if_pos rfl, closeTest_cu, ← hmap]
    rfl
  | false =>
    have hmap : s.cu.events.map (fun r => if r.includes sender && s.mayClose r then r.close s.now else r) =
        s.cu.events.map (s.recordTested sender false) := by
      refine List.map_congr_left fun r _ => ?_
      unfold State.recordTested
      by_cases hin : r.includes sender = true <;> simp [hin]
    rw [if_neg (by simp), closeTest_cu, ← hmap]

theorem beaconTested_besideEvents : (beaconTested sender ended s).besideEvents = s.besideEvents := by
  unfold beaconTested
  split <;> simp

/-- A station in ACTIVE with the class GOOD stays there, whatever is reported (R184). -/
theorem State.Firm.wakeHold (h : s.Firm) : (Machine.finish s).mc.wakeHold = s.mc.wakeHold := by
  rw [h.finish, (finish_same s.reported reported_settled).wakeHold]
  rfl

/-- What stands when the trigger fields of a BEACON are read at an awake station. -/
theorem heardBeacon_facts (h : s.awake = true) :
    (s.heardBeacon hdr rest stamp b).pins = s.pins ∧ (s.heardBeacon hdr rest stamp b).tb = s.tb ∧
    (s.heardBeacon hdr rest stamp b).rmu = s.rmu ∧ (s.heardBeacon hdr rest stamp b).td = s.td ∧
    (s.heardBeacon hdr rest stamp b).cu = s.cu ∧ (s.heardBeacon hdr rest stamp b).bm = s.bm ∧
    (s.heardBeacon hdr rest stamp b).hc = s.hc ∧ (s.heardBeacon hdr rest stamp b).cs = s.cs ∧
    (s.heardBeacon hdr rest stamp b).peers = (s.announced hdr rest stamp b).peers ∧
    (s.heardBeacon hdr rest stamp b).mc.standing = s.mc.standing ∧
    (s.heardBeacon hdr rest stamp b).mc.wakeHold =
      if hdr.muster then some { start := s.now, period := secs s.cs.image.wakeHold } else s.mc.wakeHold := by
  obtain ⟨hpins, htb, hrmu, -, -, htd, hcu, -, hbm, hhc, hmc, hcs, -⟩ :=
    announced_leaves (s := s) (hdr := hdr) (rest := rest) (stamp := stamp) (b := b)
  unfold State.heardBeacon
  generalize s.announced hdr rest stamp b = v at *
  have hawake : v.awake = true := by
    unfold State.awake at *
    rwa [hmc]
  have hnow : v.now = s.now := congrArg Timebase.elapsed htb
  split
  · obtain ⟨-, hmpins, hmtb, hmrmu, -, hmpeers, -, -, hmtd, hmcu, -, hmbm, hmhc, -, hmcs, -⟩ := musterHeard_leaves v
    have hmmc := musterHeard_mc (s := v)
    rw [if_pos hawake] at hmmc
    refine ⟨hmpins.trans hpins, hmtb.trans htb, hmrmu.trans hrmu, hmtd.trans htd, hmcu.trans hcu, hmbm.trans hbm, hmhc.trans hhc,
      hmcs.trans hcs, hmpeers, ?_, ?_⟩
    · rw [hmmc, ← hmc]
    · rw [hmmc, ← hnow, ← hcs]
  · exact ⟨hpins, htb, hrmu, htd, hcu, hbm, hhc, hcs, rfl, by rw [hmc], by rw [hmc]⟩

/-- What the end of a step leaves where no report to MC and no event record stands. -/
theorem finish_settled_facts (h : s.Settled) (hevents : s.cu.events = []) :
    (finish s).tb = s.tb ∧ (finish s).rmu = s.rmu ∧ (finish s).peers = s.peers ∧ (finish s).tau = s.tau ∧ (finish s).td = s.td ∧
    (finish s).bm = s.bm ∧ (finish s).hc = s.hc ∧ (finish s).cs = s.cs ∧ (finish s).cu = s.cu := by
  obtain ⟨-, -, htb, hrmu, hpeers, htau, -, htd, hbm, hhc, hcs, -⟩ := finish_leaves_settled s h
  exact ⟨htb, hrmu, hpeers, htau, htd, hbm, hhc, hcs, finish_cu_of_no_record h hevents⟩

/-- An alarm that settles into no evaluation (R187). -/
theorem finish_alarmMode (h : s.Settled) : finish (alarmMode s) = finish (abandonEntry s) := by
  have hreported : (alarmMode s).reported = s := by
    rw [← reported_of_settled h]
    rfl
  have honce : mcSettleOnce (alarmMode s) = abandonEntry s := by
    rw [mcSettleOnce_eq, hreported]
    simp [alarmMode, h.1]
  rw [finish_settle, mcSettle_of_once (by rw [honce]; exact settled_abandonEntry h), honce]

/-- An entry that is abandoned before its beacon is on the medium (R187). -/
theorem abandonEntry_of_silent (hentering : s.mc.standing = .entering) (htx : s.lc.tx = none) : abandonEntry s =
    unmarkBeacon (bump .entriesAbandoned (setStanding .watching s)) := by
  unfold abandonEntry
  rw [if_pos (by simpa using hentering)]
  dsimp only
  rw [if_neg]
  show ¬ s.lc.tx.any _ = true
  simp [htx]

/-- A muster heard awake, the entry that it abandons included (R54, R187, R192). -/
theorem finish_musterHeard (h : s.Settled) (hevents : s.cu.events = []) (hcd : s.pins.lkCd = true) (htx : s.lc.tx = none) :
    (finish (musterHeard s)).cu = s.cu ∧
    (s.awake = true → (finish (musterHeard s)).mc.wakeHold = some { start := s.now, period := secs s.cs.image.wakeHold }) ∧
    (s.awake = false → (finish (musterHeard s)).mc.wakeHold = s.mc.wakeHold) ∧
    (s.mc.standing ≠ .entering → (finish (musterHeard s)).mc.standing = s.mc.standing ∧
      (finish (musterHeard s)).lc.slots = s.lc.slots ∧
      (finish (musterHeard s)).count .entriesAbandoned = s.count .entriesAbandoned) ∧
    (s.mc.standing = .entering → (finish (musterHeard s)).mc.standing = .watching ∧
      (finish (musterHeard s)).count .entriesAbandoned = min (s.count .entriesAbandoned + 1) 65535 ∧
      (finish (musterHeard s)).lc.slots =
        { s.lc.slots with beacon := s.lc.slots.beacon.map (fun q => { q with mark := .ordinary }) }) ∧
    (finish (musterHeard s)).tb = s.tb ∧ (finish (musterHeard s)).td = s.td ∧ (finish (musterHeard s)).bm = s.bm ∧
    (finish (musterHeard s)).hc = s.hc ∧ (finish (musterHeard s)).cs = s.cs := by
  by_cases hawake : s.awake = true
  swap
  · have hself : musterHeard s = s := by
      unfold musterHeard
      rw [if_neg hawake]
    have hstanding : s.mc.standing ≠ .entering := fun hs => hawake (by rw [State.awake, hs]; rfl)
    obtain ⟨hftb, -, -, -, hftd, hfbm, hfhc, hfcs, hfcu⟩ := finish_settled_facts h hevents
    obtain ⟨a, d, m, hlc⟩ := finish_lc_of_busy h hcd
    rw [hself]
    refine ⟨hfcu, fun h => absurd h hawake, fun _ => ?_, fun _ => ⟨finish_standing h, by rw [hlc], finish_count h⟩,
      fun h => absurd h hstanding, hftb, hftd, hfbm, hfhc, hfcs⟩
    exact (finish_same s h).wakeHold
  obtain ⟨v, hv⟩ : ∃ v, v = abandonEntry (wakeHoldStart s) := ⟨_, rfl⟩
  have hset : (wakeHoldStart s).Settled := h
  have hmuster : finish (musterHeard s) = finish v := by
    unfold musterHeard
    rw [if_pos hawake, finish_alarmMode hset, hv]
  have hvset : v.Settled := by rw [hv]; exact settled_abandonEntry hset
  obtain ⟨-, hvpins, hvtb, -, -, -, -, hvtd, hvcu, -, hvbm, hvhc, -, hvcs, -⟩ := abandonEntry_leaves (wakeHoldStart s)
  rw [← hv] at hvpins hvtb hvtd hvcu hvbm hvhc hvcs
  have hmoves : v.mc.wakeHold = some { start := s.now, period := secs s.cs.image.wakeHold } ∧
      (s.mc.standing ≠ .entering → v.mc.standing = s.mc.standing ∧ v.lc.slots = s.lc.slots ∧
        v.count .entriesAbandoned = s.count .entriesAbandoned) ∧
      (s.mc.standing = .entering → v.mc.standing = .watching ∧
        v.count .entriesAbandoned = min (s.count .entriesAbandoned + 1) 65535 ∧
        v.lc.slots = { s.lc.slots with beacon := s.lc.slots.beacon.map (fun q => { q with mark := .ordinary }) }) := by
    by_cases hs : s.mc.standing = .entering
    · rw [hv, abandonEntry_of_silent (s := wakeHoldStart s) hs htx]
      refine ⟨rfl, fun h => absurd hs h, fun _ => ⟨rfl, ?_, rfl⟩⟩
      show (bump .entriesAbandoned (setStanding .watching (wakeHoldStart s))).count .entriesAbandoned = _
      rw [count_bump, if_pos rfl]
      rfl
    · rw [hv, abandonEntry_of_not_entering (t := wakeHoldStart s) hs]
      exact ⟨rfl, fun _ => ⟨rfl, rfl, rfl⟩, fun h => absurd h hs⟩
  obtain ⟨hwake, hstays, hleaves⟩ := hmoves
  obtain ⟨hftb, -, -, -, hftd, hfbm, hfhc, hfcs, hfcu⟩ := finish_settled_facts hvset (by rw [hvcu]; exact hevents)
  obtain ⟨a, d, m, hlc⟩ := finish_lc_of_busy hvset (by rw [hvpins]; exact hcd)
  have hslots : (finish v).lc.slots = v.lc.slots := by rw [hlc]
  rw [hmuster]
  refine ⟨hfcu.trans hvcu, fun _ => (finish_same v hvset).wakeHold.trans hwake, fun h => absurd hawake (by simp [h]), fun hs => ?_,
    fun hs => ?_, hftb.trans hvtb, hftd.trans hvtd, hfbm.trans hvbm, hfhc.trans hvhc, hfcs.trans hvcs⟩
  · rw [finish_standing hvset, hslots, finish_count hvset]
    exact hstays hs
  · rw [finish_standing hvset, hslots, finish_count hvset]
    exact hleaves hs

end
end Sys2Proof.Machine

section
open Sys2Proof Sys2Proof.Machine
set_option Elab.async false
variable {s : State} {stamp : RxStamp} {hdr : Header} {rest : List Byte} {b : BeaconBody}

/-- The second part of O35. -/
theorem beacon_onset_enters {o : StationTime} (h : s.Receives stamp hdr rest) (hset : s.Settled)
    (hj : s.judge { hdr := hdr, rest := rest } = .accepted .beacon (.beacon b)) (hevents : s.cu.events = [])
    (hmuster : hdr.muster = false) (honset : b.lastOnset = some o) (hown : ∀ e ∈ s.cu.entries, e.own = false) :
      ∃ t r, exec (.beaconReceived rest) s = .next t ∧ t.peer hdr.sender = some r ∧ r.lastOnset = some o ∧
        (let x : Entry := { station := hdr.sender, onset := o, mask := none, peak := b.peak, endAt := none, bound := none, own := false,
                            confirmed := false }
         let known : Prop := ∃ e ∈ s.cu.entries, e.station = hdr.sender ∧ timeGap e.onset o ≤ secs s.cs.image.wc
         let stale : Prop := o + secs s.cs.image.wc + secs 30 < s.tb.time
         (known → t.cu = s.cu ∧ t.count .recoveredEntries = s.count .recoveredEntries ∧
           t.count .staleEntries = s.count .staleEntries) ∧
         (¬ known → stale → t.cu = s.cu ∧ t.count .recoveredEntries = s.count .recoveredEntries ∧
           t.count .staleEntries = min (s.count .staleEntries + 1) 65535) ∧
         (¬ known → ¬ stale → s.cu.entries.length < 24 →
           (∀ e, e ∈ t.cu.entries ↔ e ∈ s.cu.entries ∨ e = x) ∧ t.cu.events = [] ∧
           t.count .recoveredEntries = min (s.count .recoveredEntries + 1) 65535) ∧
         (¬ known → ¬ stale → s.cu.entries.length = 24 → (∀ v, s.cu.entries.find? (fun e => e.bound.isNone) = some v →
           (∀ e, e ∈ t.cu.entries ↔ e ∈ s.cu.entries.erase v ∨ e = x) ∧ t.cu.events = [] ∧
           t.count .recoveredEntries = min (s.count .recoveredEntries + 1) 65535 ∧
           t.count .triggerTableOverflow = min (s.count .triggerTableOverflow + 1) 65535)) ∧
         (¬ known → ¬ stale → s.cu.entries.length = 24 → (∀ e ∈ s.cu.entries, e.bound.isSome) →
           t.cu = s.cu ∧ t.count .recoveredEntries = s.count .recoveredEntries ∧
           t.count .triggerTableOverflow = min (s.count .triggerTableOverflow + 1) 65535)) ∧
        t.tb = s.tb ∧ t.rmu = s.rmu ∧ t.tau = s.tau ∧ t.td = s.td ∧ t.bm = s.bm ∧ t.hc = s.hc ∧ t.cs = s.cs := by
  have hexec := exec_beaconReceived h hj
  rw [heardBeacon_of_no_muster hmuster] at hexec
  generalize s.endsTrigger hdr.sender b = ended at hexec
  obtain ⟨z, hpeer, -⟩ := announced_peer (s := s) (hdr := hdr) (rest := rest) (stamp := stamp) (b := b)
  have hcount (c : Counter) (hc : c ≠ .framesAccepted) : (s.announced hdr rest stamp b).count c = s.count c :=
    announced_count.trans (if_neg hc)
  have hvset := announced_settled (hdr := hdr) (rest := rest) (stamp := stamp) (b := b) hset
  obtain ⟨-, htb, hrmu, htau, -, htd, hcu, -, hbm, hhc, -, hcs, -⟩ :=
    announced_leaves (s := s) (hdr := hdr) (rest := rest) (stamp := stamp) (b := b)
  generalize s.announced hdr rest stamp b = v at *
  have htakes := takesOnset (s := v) (sender := hdr.sender) (ended := ended) (by rw [hcu]; exact hevents) (by rw [hcu]; exact hown) honset
  obtain ⟨-, -, hwtb, hwrmu, hwpeers, hwtau, -, hwbm, hwhc, -, hwcs, -⟩ := cuBeacon_leaves hdr.sender b ended v
  generalize cuBeacon hdr.sender b ended v = w at *
  obtain ⟨⟨hwmc, hwtd, hwevents⟩, hknown, hstale, hroom, hevicted, hfull⟩ := htakes
  have hwset : w.Settled := by
    unfold State.Settled at *
    rwa [hwmc]
  obtain ⟨hftb, hfrmu, hfpeers, hftau, hftd, hfbm, hfhc, hfcs, hfcu⟩ := finish_settled_facts hwset hwevents
  have hfcount (c : Counter) (h1 : c ≠ .musterBeacons) (h2 : c ≠ .busRecoveries) : (finish w).count c = w.count c :=
    finish_count hwset h1 h2
  generalize finish w = t at *
  refine ⟨t, _, hexec, (peer_of_peers_eq (hfpeers.trans hwpeers)).trans hpeer, honset, ?_, hftb.trans (hwtb.trans htb),
    hfrmu.trans (hwrmu.trans hrmu), hftau.trans (hwtau.trans htau), hftd.trans (hwtd.trans htd), hfbm.trans (hwbm.trans hbm),
    hfhc.trans (hwhc.trans hhc), hfcs.trans (hwcs.trans hcs)⟩
  rw [hcu, hcs, htb] at *
  rw [hfcu]
  simp only [hcount _ (show Counter.recoveredEntries ≠ .framesAccepted by decide),
    hcount _ (show Counter.staleEntries ≠ .framesAccepted by decide),
    hcount _ (show Counter.triggerTableOverflow ≠ .framesAccepted by decide)] at hknown hstale hroom hevicted hfull
  rw [hfcount .recoveredEntries (by decide) (by decide), hfcount .staleEntries (by decide) (by decide),
    hfcount .triggerTableOverflow (by decide) (by decide)]
  refine ⟨hknown, hstale, fun h1 h2 h3 => ?_, fun h1 h2 h3 y hy => ?_, fun h1 h2 h3 h4 => hfull h1 h2 (by omega) h4⟩
  · obtain ⟨hmem, hrecovered⟩ := hroom h1 h2 h3
    exact ⟨hmem, hwevents, hrecovered⟩
  · obtain ⟨hmem, hrecovered, hoverflow⟩ := hevicted h1 h2 (by omega) y hy
    exact ⟨hmem, hwevents, hrecovered, hoverflow⟩

/-- The third part of O35. -/
theorem beacon_muster_holds (h : s.Receives stamp hdr rest) (hset : s.Settled)
    (hj : s.judge { hdr := hdr, rest := rest } = .accepted .beacon (.beacon b)) (hevents : s.cu.events = [])
    (honset : b.lastOnset = none) (hmuster : hdr.muster = true) (hcd : s.pins.lkCd = true) :
      ∃ t, exec (.beaconReceived rest) s = .next t ∧ t.cu = s.cu ∧
        (s.awake = true → t.mc.wakeHold = some { start := s.now, period := secs s.cs.image.wakeHold }) ∧
        (s.awake = false → t.mc.wakeHold = s.mc.wakeHold) ∧
        (s.mc.standing ≠ .entering → t.mc.standing = s.mc.standing ∧ t.lc.slots = s.lc.slots ∧
          t.count .entriesAbandoned = s.count .entriesAbandoned) ∧
        (s.mc.standing = .entering → t.mc.standing = .watching ∧
          t.count .entriesAbandoned = min (s.count .entriesAbandoned + 1) 65535 ∧
          t.lc.slots = { s.lc.slots with beacon := s.lc.slots.beacon.map (fun q => { q with mark := .ordinary }) }) ∧
        t.tb = s.tb ∧ t.td = s.td ∧ t.bm = s.bm ∧ t.hc = s.hc ∧ t.cs = s.cs := by
  have hexec := exec_beaconReceived h hj
  have hheard : s.heardBeacon hdr rest stamp b = musterHeard (s.announced hdr rest stamp b) := by
    unfold State.heardBeacon
    rw [if_pos hmuster]
  have hcount : (s.announced hdr rest stamp b).count .entriesAbandoned = s.count .entriesAbandoned := announced_count
  have hvset := announced_settled (hdr := hdr) (rest := rest) (stamp := stamp) (b := b) hset
  obtain ⟨hpins, htb, -, -, -, htd, hcu, -, hbm, hhc, hmc, hcs, hlc⟩ :=
    announced_leaves (s := s) (hdr := hdr) (rest := rest) (stamp := stamp) (b := b)
  rw [hheard] at hexec
  generalize s.announced hdr rest stamp b = v at *
  have hawake : v.awake = s.awake := congrArg (fun m => m.standing.awake) hmc
  have hnow : v.now = s.now := congrArg Timebase.elapsed htb
  rw [cuBeacon_of_no_onset honset, beaconTested_apart (by simp [hcu, hevents])] at hexec
  obtain ⟨hfcu, hhold, hlost, hstays, hleaves, hftb, hftd, hfbm, hfhc, hfcs⟩ :=
    finish_musterHeard hvset (by rw [hcu]; exact hevents) (by rw [hpins]; exact hcd) (by rw [hlc]; exact h.silent)
  rw [hawake, hnow, hcs] at hhold
  rw [hawake, hmc] at hlost
  rw [hmc, hlc, hcount] at hstays hleaves
  exact ⟨_, hexec, hfcu.trans hcu, hhold, hlost, hstays, hleaves, hftb.trans htb, hftd.trans htd, hfbm.trans hbm, hfhc.trans hhc,
    hfcs.trans hcs⟩

/-- The fourth part of O35. -/
theorem beacon_onset_overflows {o : StationTime} (h : s.Receives stamp hdr rest) (hset : s.Settled)
    (hj : s.judge { hdr := hdr, rest := rest } = .accepted .beacon (.beacon b))
    (hactive : s.mc.standing = .active) (hgood : s.bm.cls = .good) (hcd : s.pins.lkCd = true) (hrdy : s.pins.upRdy = false)
    (hmuster : hdr.muster = false) (honset : b.lastOnset = some o) (hnew : s.tb.time ≤ o + secs s.cs.image.wc + secs 30)
    (hentries : ∀ e ∈ s.cu.entries, e.bound.isSome ∧ (e.station = hdr.sender → secs s.cs.image.wc < timeGap e.onset o))
    (hrecords : ∀ r ∈ s.cu.events, r.state ≠ .holdoff ∧ ∀ p ∈ r.parts, p.station ≠ hdr.sender) (hfull : s.cu.entries.length = 24) :
      ∃ t, exec (.beaconReceived rest) s = .next t ∧ t.cu = s.cu ∧ t.mc.standing = .active ∧
        t.count .recoveredEntries = s.count .recoveredEntries ∧ t.count .staleEntries = s.count .staleEntries ∧
        t.count .triggerTableOverflow = min (s.count .triggerTableOverflow + 1) 65535 ∧ t.tb = s.tb ∧ t.td = s.td := by
  have hexec := exec_beaconReceived h hj
  rw [heardBeacon_of_no_muster hmuster] at hexec
  generalize s.endsTrigger hdr.sender b = ended at hexec
  have hcount (c : Counter) (hc : c ≠ .framesAccepted) : (s.announced hdr rest stamp b).count c = s.count c :=
    announced_count.trans (if_neg hc)
  have hvset := announced_settled (hdr := hdr) (rest := rest) (stamp := stamp) (b := b) hset
  obtain ⟨hpins, htb, -, -, -, htd, hcu, -, hbm, -, hmc, hcs, -⟩ :=
    announced_leaves (s := s) (hdr := hdr) (rest := rest) (stamp := stamp) (b := b)
  generalize s.announced hdr rest stamp b = v at *
  obtain ⟨x, hx⟩ : ∃ x, x = arrival hdr.sender o none b.peak none false := ⟨_, rfl⟩
  have hsteady : v.Steady := ⟨hvset, by rw [hmc]; exact hactive, by rw [hbm]; exact hgood⟩
  have hmerge : v.mergeTarget hdr.sender o = none := by
    rw [mergeTarget_eq_none, hcu, hcs]
    rintro ⟨e, he, hstation, hgap⟩
    exact absurd ((hentries e he).2 hstation) (by omega)
  have hold : v.tooOld x.onset = false := by
    have hnot : ¬ v.tooOld x.onset = true := by
      rw [tooOld_iff, htb, hcs, hx]
      exact Nat.not_lt.mpr hnew
    simpa using hnot
  have hplace : v.placeFor = none := placeFor_of_bound (by rw [hcu]; exact fun r hr => (hrecords r hr).1)
    (by rw [hcu]; omega) (by rw [hcu]; exact fun e he => (hentries e he).1)
  obtain ⟨w, hw⟩ : ∃ w, w = cuRequest (bump .triggerTableOverflow v) := ⟨_, rfl⟩
  have hwcu : w.cu = s.cu := by
    rw [hw, cuRequest_cu]
    exact hcu
  have hwtd : w.td = v.td := by simp [hw]
  have hwcount (c : Counter) : w.count c = (bump .triggerTableOverflow v).count c := by rw [hw, cuRequest_count]
  have hbeside : w.besideEvents = v.besideEvents := by
    rw [hw, cuRequest_besideEvents, bump_besideEvents rfl]
  have hbeacon : cuBeacon hdr.sender b ended v = w := by
    rw [cuBeacon_of_new_onset honset hmerge, ← hx, findsPlace_of_new hold (by rw [hx]; exact hmerge), hplace,
      admitOnset_of_new hold (by rw [hx]; exact hmerge), placeEntry_of_no_place hplace, ← hw]
    refine beaconTested_apart (s := w) fun r hr => ?_
    rw [hwcu] at hr
    simpa [EventRec.includes] using (hrecords r hr).2
  rw [hbeacon] at hexec
  obtain ⟨hfcu, hfst, hftb, hftd, -⟩ := hsteady.finish_of_events hbeside (by rw [hpins]; exact hcd) (.inl (by rw [hpins]; exact hrdy))
  have hfirm := hsteady.firm_of_besideEvents hbeside
  refine ⟨finish w, hexec, hfcu.trans hwcu, hfst, ?_, ?_, ?_, hftb.trans htb, hftd.trans (hwtd.trans htd)⟩
  · rw [hfirm.count, hwcount, count_bump, if_neg (by decide), hcount _ (by decide)]
  · rw [hfirm.count, hwcount, count_bump, if_neg (by decide), hcount _ (by decide)]
  · rw [hfirm.count, hwcount, count_bump, if_pos rfl, hcount _ (by decide)]

/-- The fifth part of O35. -/
theorem beacon_tests_records (h : s.Receives stamp hdr rest) (hset : s.Settled)
    (hj : s.judge { hdr := hdr, rest := rest } = .accepted .beacon (.beacon b))
    (hactive : s.mc.standing = .active) (hgood : s.bm.cls = .good) (hcd : s.pins.lkCd = true) (hrdy : s.pins.upRdy = false)
    (honset : b.lastOnset = none) :
      ∃ t, exec (.beaconReceived rest) s = .next t ∧ t.mc.standing = .active ∧
        t.mc.wakeHold = (if hdr.muster then some { start := s.now, period := secs s.cs.image.wakeHold } else s.mc.wakeHold) ∧
        (let high (x : Option TrigState) : Bool := x == some .on || x == some .hold
         let ended : Bool := (s.peer hdr.sender).any (fun r => high r.trig) && !high (some b.trig)
         let off (p : Part) : Bool :=
           if p.station = s.ownId then !high (some s.td.state) else if p.station = hdr.sender then !high (some b.trig)
           else !(s.peer p.station).any (fun x => high x.trig)
         t.cu = { s.cu with events := s.cu.events.map (fun r =>
           if r.parts.any (fun p => p.station == hdr.sender) then
             (let renewed := if r.state.open && ended then { r with lastEnd := s.now } else r
              if r.state.live && r.parts.all off && decide (secs s.cs.image.closeDelay ≤ since s.now renewed.lastEnd) then
                { renewed with state := .closed, finished := some s.now, declOwed := false }
              else renewed)
           else r) }) ∧
        t.tb = s.tb ∧ t.rmu = s.rmu ∧ t.td = s.td ∧ t.bm = s.bm ∧ t.hc = s.hc ∧ t.cs = s.cs := by
  have hexec := exec_beaconReceived h hj
  obtain ⟨ended, hended⟩ : ∃ e, e = s.endsTrigger hdr.sender b := ⟨_, rfl⟩
  rw [← hended, cuBeacon_of_no_onset honset] at hexec
  obtain ⟨u, hu⟩ : ∃ u, u = s.heardBeacon hdr rest stamp b := ⟨_, rfl⟩
  rw [← hu] at hexec
  obtain ⟨w, hw⟩ : ∃ w, w = beaconTested hdr.sender ended u := ⟨_, rfl⟩
  rw [← hw] at hexec
  have hawake : s.awake = true := by rw [State.awake, hactive]; rfl
  obtain ⟨hpins, htb, hrmu, htd, hcu, hbm, hhc, hcs, hpeers, hstanding, hhold⟩ := heardBeacon_facts (hdr := hdr) (rest := rest)
    (stamp := stamp) (b := b) hawake
  rw [← hu] at hpins htb hrmu htd hcu hbm hhc hcs hpeers hstanding hhold
  have hbeside : w.besideEvents = u.besideEvents := by rw [hw, beaconTested_besideEvents]
  obtain ⟨-, hwpins, hwtb, hwrmu, -, -, -, hwbm, hwhc, -, hwcs, -⟩ := rest_of_besideEvents hbeside
  have hwmc := mc_of_besideEvents hbeside
  have hwstanding : w.mc.standing = .active := by rw [hwmc]; exact hstanding.trans hactive
  have hfirm : w.Firm := .inr ⟨hwstanding, by rw [hwbm, hbm]; exact hgood⟩
  have hwtd : w.td = u.td := by
    rw [hw]
    unfold beaconTested
    split <;> simp
  obtain ⟨-, -, hftb, hfrmu, -, -, -, hftd, hfbm, hfhc, hfcs, -⟩ := hfirm.leaves
  have hfcu := hfirm.cu (by rw [hwpins, hpins]; exact hcd) (.inl (by rw [hwpins, hpins]; exact hrdy))
  refine ⟨finish w, hexec, hfirm.standing.trans hwstanding, ?_, ?_, hftb.trans (hwtb.trans htb), hfrmu.trans (hwrmu.trans hrmu),
    hftd.trans (hwtd.trans htd), hfbm.trans (hwbm.trans hbm), hfhc.trans (hwhc.trans hhc), hfcs.trans (hwcs.trans hcs)⟩
  · rw [hfirm.wakeHold, hwmc]
    exact hhold
  · dsimp only
    have hnow : u.now = s.now := congrArg Timebase.elapsed htb
    have hoff (p : Part) : (if p.station == u.ownId then !u.td.active else u.standsOff p.station) =
        (if p.station = s.ownId then !(some s.td.state == some .on || some s.td.state == some .hold)
         else if p.station = hdr.sender then !(some b.trig == some .on || some b.trig == some .hold)
         else !(s.peer p.station).any (fun x => x.trig == some .on || x.trig == some .hold)) := by
      have hactive' : s.td.active = (some s.td.state == some .on || some s.td.state == some .hold) := by
        unfold Trigger.active
        cases s.td.state <;> rfl
      have hid : u.ownId = s.ownId := congrArg (fun x => x.stationId) hcs
      have hpeer (id : Nat) : u.peer id = (s.announced hdr rest stamp b).peer id := congrArg (List.find? _) hpeers
      rw [hid, htd, standsOff_eq, hpeer, hactive']
      by_cases h1 : p.station = s.ownId
      · simp [h1]
      rw [if_neg (by simpa using h1), if_neg h1]
      by_cases h2 : p.station = hdr.sender
      · obtain ⟨z, hz, -⟩ := announced_peer (s := s) (hdr := hdr) (rest := rest) (stamp := stamp) (b := b)
        rw [if_pos h2, h2, hz]
        rfl
      · rw [if_neg h2, announced_peer_other h2]
    have hends : ended = ((s.peer hdr.sender).any (fun r => r.trig == some .on || r.trig == some .hold) &&
        !(some b.trig == some .on || some b.trig == some .hold)) := by
      rw [hended]
      unfold State.endsTrigger
      cases b.trig <;> rfl
    have hmap := List.map_congr_left (l := s.cu.events) fun r _ => recordTested_eq (s := u) (sender := hdr.sender) (ended := ended)
      (r := r) hoff
    rw [hfcu, hw, beaconTested_cu, hcu, hmap, hnow, hcs, hends]
    rfl

/-- Settles O35. -/
theorem beaconWritesItsSendersRecord : Obligations.BeaconWritesItsSendersRecord := by
  intro s stamp hdr rest b h hset hj
  exact ⟨fun hevents honset hmuster => beacon_writes_record h hset hj hevents honset hmuster,
    fun o hevents hmuster honset hown => beacon_onset_enters h hset hj hevents hmuster honset hown,
    fun hevents honset hmuster hcd => beacon_muster_holds h hset hj hevents honset hmuster hcd,
    fun o hactive hgood hcd hrdy hmuster honset hnew hentries hrecords hfull =>
      beacon_onset_overflows h hset hj hactive hgood hcd hrdy hmuster honset hnew hentries hrecords hfull,
    fun hactive hgood hcd hrdy honset => beacon_tests_records h hset hj hactive hgood hcd hrdy honset⟩

end

/-! PROOFS. A SERVICE REQUEST at an awake station (O40): what it writes. -/
namespace Sys2Proof.Machine
set_option Elab.async false

section
variable {s t u v : State} {c : Counter} {stamp : RxStamp} {hdr : Header} {rest : List Byte} {code argument : Nat}

/-- The request that a SERVICE REQUEST makes (R203). -/
def requestOf (code argument : Nat) : ServiceReq := { code, argument, nextSegment := 0, resume := .start, held := false }

/-- The state once a SERVICE REQUEST is pending, before its first segment (R203). -/
def requestTaken (code argument : Nat) (s : State) : State :=
  (bumpIf (!knownCode code) .unknownRequests (bumpIf s.cs.pending.isSome .requestsReplaced (bump .requestsTaken s))).setCs
    { s.cs with pending := some (requestOf code argument) }

theorem requestTaken_facts : (requestTaken code argument s).lc = s.lc ∧
    (requestTaken code argument s).cs = { s.cs with pending := some (requestOf code argument) } ∧
    (requestTaken code argument s).mc = s.mc ∧ (requestTaken code argument s).tb = s.tb ∧ (requestTaken code argument s).rmu = s.rmu ∧
    (requestTaken code argument s).peers = s.peers ∧ (requestTaken code argument s).tau = s.tau ∧
    (requestTaken code argument s).td = s.td ∧ (requestTaken code argument s).cu = s.cu ∧ (requestTaken code argument s).bm = s.bm ∧
    (requestTaken code argument s).hc = s.hc ∧ (requestTaken code argument s).pins = s.pins := by
  simp [requestTaken]

theorem requestTaken_count : (requestTaken code argument s).count c =
    if c = .requestsTaken ∨ (c = .requestsReplaced ∧ s.cs.pending.isSome) ∨ (c = .unknownRequests ∧ knownCode code = false) then
      min (s.count c + 1) 65535 else s.count c := by
  show (bumpIf (!knownCode code) .unknownRequests (bumpIf s.cs.pending.isSome .requestsReplaced (bump .requestsTaken s))).count c = _
  by_cases h1 : c = .requestsTaken
  · subst h1
    simp
  by_cases h2 : c = .requestsReplaced
  · subst h2
    by_cases hp : s.cs.pending.isSome = true <;> simp [hp]
  by_cases h3 : c = .unknownRequests
  · subst h3
    cases hk : knownCode code <;> simp
  simp [h1, h2, h3, Ne.symm h1, Ne.symm h2, Ne.symm h3]

theorem csTake_of_awake (htx : s.lc.tx = none) (hawake : s.awake = true) :
    csTake code argument s = csNext (requestTaken code argument s) := by
  have hdormant : s.dormant = false := by
    unfold State.awake State.dormant at *
    cases hs : s.mc.standing <;> simp_all [Standing.awake, Standing.inDormant]
  obtain ⟨v, hv⟩ : ∃ v, v =
      bumpIf (!knownCode code) .unknownRequests (bumpIf s.cs.pending.isSome .requestsReplaced (bump .requestsTaken s)) := ⟨_, rfl⟩
  have hvtx : v.lc.tx = none := by simpa [hv] using htx
  have hvdormant : v.dormant = false := by
    have hmc : v.mc = s.mc := by simp [hv]
    unfold State.dormant at *
    rwa [hmc]
  have hvcs : v.cs = s.cs := by simp [hv]
  have hforget : forgetReportInFlight v = v := by
    unfold forgetReportInFlight
    rw [hvtx]
    simp only [Option.map_none]
    rw [← hvtx]
    rfl
  have htaken : requestTaken code argument s = v.setCs { v.cs with pending := some (requestOf code argument) } := by
    unfold requestTaken
    rw [← hv, hvcs]
  unfold csTake
  dsimp only
  rw [← hv, hforget, htaken, hvdormant]
  show (if v.dormant = true then _ else _) = _
  rw [hvdormant]
  rfl

/-- The state in which a SERVICE REQUEST's first segment is built. -/
def State.requested (s : State) (hdr : Header) (q : RequestBody) : State :=
  requestTaken q.code q.argument
    ((bump .framesAccepted s).setLc { s.lc with rx := .hunting, terminalSeq := some hdr.sequence.toNat })

/-- What stands when the first segment of a SERVICE REQUEST is built. -/
theorem requested_facts {q : RequestBody} :
    (s.requested hdr q).lc = { s.lc with rx := .hunting, terminalSeq := some hdr.sequence.toNat } ∧
    (s.requested hdr q).cs = { s.cs with pending := some (requestOf q.code q.argument) } ∧
    (s.requested hdr q).mc = s.mc ∧ (s.requested hdr q).tb = s.tb ∧ (s.requested hdr q).rmu = s.rmu ∧
    (s.requested hdr q).peers = s.peers ∧ (s.requested hdr q).tau = s.tau ∧ (s.requested hdr q).td = s.td ∧
    (s.requested hdr q).cu = s.cu ∧ (s.requested hdr q).bm = s.bm ∧ (s.requested hdr q).hc = s.hc ∧
    (s.requested hdr q).pins = s.pins := by
  obtain ⟨hlc, hcs, hmc, htb, hrmu, hpeers, htau, htd, hcu, hbm, hhc, hpins⟩ := requestTaken_facts (code := q.code)
    (argument := q.argument)
    (s := (bump .framesAccepted s).setLc { s.lc with rx := .hunting, terminalSeq := some hdr.sequence.toNat })
  unfold State.requested
  exact ⟨hlc, hcs, hmc, htb, hrmu, hpeers, htau, htd, hcu, hbm, hhc, hpins⟩

theorem requested_count {q : RequestBody} : (s.requested hdr q).count c =
    if c = .framesAccepted ∨ c = .requestsTaken ∨ (c = .requestsReplaced ∧ s.cs.pending.isSome) ∨
      (c = .unknownRequests ∧ knownCode q.code = false) then min (s.count c + 1) 65535 else s.count c := by
  have hbump : ((bump .framesAccepted s).setLc { s.lc with rx := .hunting, terminalSeq := some hdr.sequence.toNat }).count c =
      if c = .framesAccepted then min (s.count c + 1) 65535 else s.count c := by
    rw [count_setLc, count_bump]
    simp only [eq_comm]
  have hpending : ((bump .framesAccepted s).setLc { s.lc with rx := .hunting, terminalSeq := some hdr.sequence.toNat }).cs = s.cs := rfl
  unfold State.requested
  rw [requestTaken_count, hbump, hpending]
  by_cases h1 : c = .framesAccepted
  · subst h1
    simp
  · simp [h1]

/-- What stands behind the first segment of a request. -/
theorem serviceRequest_sent {q : RequestBody} (h : s.Receives stamp hdr rest) (hset : s.Settled) (hcd : s.pins.lkCd = true)
    (hawake : s.awake = true) (hsends : s.listenOnly = false)
    (hj : s.judge { hdr := hdr, rest := rest } = .accepted .serviceRequest (.request q)) :
    ∃ t, receiveFrame rest s = t ∧
      t.cs = { s.cs with pending := some ((requestOf q.code q.argument).after ((s.requested hdr q).build (requestOf q.code q.argument))) } ∧
      t.lc.slots = { s.lc.slots with
        report := some { moment := s.now,
                         body := segmentBody q.code 0 ((s.requested hdr q).build (requestOf q.code q.argument)),
                         last := ((s.requested hdr q).build (requestOf q.code q.argument)).last } } ∧
      t.lc.terminalSeq = some hdr.sequence.toNat ∧
      t.lc.idConflict = ((s.requested hdr q).segmentBuilt (requestOf q.code q.argument)).lc.idConflict ∧
      t.peers = s.peers ∧ t.tb = s.tb ∧ t.rmu = s.rmu ∧ t.tau = s.tau ∧ t.td = s.td ∧ t.cu.entries = s.cu.entries ∧ t.bm = s.bm ∧
      t.hc = s.hc ∧
      ∀ c : Counter, c ≠ .musterBeacons → c ≠ .busRecoveries → t.count c =
        if q.code = 4 ∧ q.argument % 2 = 1 ∧ c.idx.val / 38 = 0 then 0 else (s.requested hdr q).count c := by
  obtain ⟨r, hr⟩ : ∃ r, r = requestOf q.code q.argument := ⟨_, rfl⟩
  obtain ⟨hvlc, hvcs, hvmc, hvtb, hvrmu, hvpeers, hvtau, hvtd, hvcu, hvbm, hvhc, hvpins⟩ := requested_facts (s := s) (hdr := hdr) (q := q)
  obtain ⟨v, hv⟩ : ∃ v, v = s.requested hdr q := ⟨_, rfl⟩
  have hsender : hdr.sender = 15 := by
    obtain ⟨-, hright, -⟩ := judge_accepted hj
    rw [← Bool.not_eq_true, senderWrong_iff] at hright
    have := not_or.mp hright
    dsimp only at this
    tauto
  have haccept : acceptFrame { hdr := hdr, rest := rest } stamp .serviceRequest (.request q) s.hunts = csNext v := by
    unfold acceptFrame
    dsimp only
    rw [if_pos hsender, hv]
    exact csTake_of_awake (s := (bump .framesAccepted s.hunts).setLc
      { s.lc with rx := .hunting, terminalSeq := some hdr.sequence.toNat }) h.silent hawake
  rw [← hr, ← hv]
  rw [← hv] at hvlc hvcs hvmc hvtb hvrmu hvpeers hvtau hvtd hvcu hvbm hvhc hvpins
  rw [← hr] at hvcs
  obtain ⟨⟨x, hwlc⟩, hwcs, hwcount, hwmc, hwtb, -, -, hwpins, hwtd, hwcu, hwbm, hwrmu, hwpeers, hwtau, hwhc⟩ :=
    segmentBuilt_facts (s := v) (q := r)
  obtain ⟨b, hb⟩ : ∃ b, b = v.build r := ⟨_, rfl⟩
  obtain ⟨w, hw⟩ : ∃ w, w = v.segmentBuilt r := ⟨_, rfl⟩
  rw [← hb, ← hw]
  rw [← hb] at hwcs
  rw [← hw] at hwlc hwcs hwcount hwmc hwtb hwpins hwtd hwcu hwbm hwrmu hwpeers hwtau hwhc
  have hnow : w.now = s.now := congrArg Timebase.elapsed (hwtb.trans hvtb)
  have htakes : w.lcTakes = true := by
    have hwawake : w.awake = s.awake := congrArg (fun m => m.standing.awake) (hwmc.trans hvmc)
    have hlisten : w.listenOnly = s.listenOnly := by
      unfold State.listenOnly State.ownId
      rw [hwcs, hvcs]
    unfold State.lcTakes
    rw [hwawake, hlisten, hawake, hsends]
    rfl
  obtain ⟨z, hz⟩ : ∃ z, z = w.setSlots { w.lc.slots with
      report := some { moment := w.now, body := segmentBody q.code 0 b, last := b.last } } := ⟨_, rfl⟩
  have hnext : csNext v = z := by
    rw [csNext_of_some (q := r) (by rw [hvcs]), ← hw, if_pos htakes, ← hb, hz, hr]
    rfl
  have hzmc : z.mc = s.mc := by rw [hz]; exact hwmc.trans hvmc
  have hzset : z.Settled := by
    unfold State.Settled at *
    rwa [hzmc]
  have hframe : receiveFrame rest s = finish z := by
    rw [h.accepted hj (by rw [haccept, hnext, hzmc]; exact h.free), haccept, hnext]
  obtain ⟨-, -, hftb, hfrmu, hfpeers, hftau, -, hftd, hfbm, hfhc, hfcs, -⟩ := finish_leaves_settled z hzset
  obtain ⟨a, d, m, hflc⟩ := finish_lc_of_busy hzset (by rw [hz]; exact (congrArg Pins.lkCd (hwpins.trans hvpins)).trans hcd)
  refine ⟨finish z, hframe, ?_, ?_, ?_, ?_, ?_, ?_, ?_, ?_, ?_, ?_, ?_, ?_, fun c h1 h2 => ?_⟩
  · rw [hfcs, hz]
    show w.cs = _
    rw [hwcs, hvcs]
  · rw [hflc, hz]
    simp only [setSlots_slots]
    rw [hnow, hwlc, hvlc]
  · rw [hflc, hz]
    show w.lc.terminalSeq = _
    rw [hwlc, hvlc]
  · rw [hflc, hz]
    rfl
  · rw [hfpeers, hz]
    exact hwpeers.trans hvpeers
  · rw [hftb, hz]
    exact hwtb.trans hvtb
  · rw [hfrmu, hz]
    exact hwrmu.trans hvrmu
  · rw [hftau, hz]
    exact hwtau.trans hvtau
  · rw [hftd, hz]
    exact hwtd.trans hvtd
  · rw [finish_entries hzset, hz]
    exact congrArg Coincidence.entries (hwcu.trans hvcu)
  · rw [hfbm, hz]
    exact hwbm.trans hvbm
  · rw [hfhc, hz]
    exact hwhc.trans hvhc
  · rw [finish_count hzset h1 h2, hz]
    refine (hwcount c).trans ?_
    rw [hr]
    rfl

end

end Sys2Proof.Machine

/-! PROOFS. The first segment of each report (O40). -/
namespace Sys2Proof.Machine
set_option Elab.async false

section
variable {s t u v : State} {c : Counter} {code argument : Nat} {b : Built}

/-! ## Bytes -/

theorem be_eq_range (k n : Nat) : (List.range k).map (fun i => BitVec.ofNat 8 (n / 256 ^ (k - 1 - i))) = be k n := by
  induction k with
  | zero => rfl
  | succ k ih =>
    rw [List.range_succ_eq_map, List.map_cons, List.map_map]
    show BitVec.ofNat 8 (n / 256 ^ (k + 1 - 1 - 0)) :: _ = BitVec.ofNat 8 (n / 256 ^ k) :: be k n
    rw [← ih]
    congr 1
    refine List.map_congr_left fun i _ => ?_
    have hexp : k + 1 - 1 - (i + 1) = k - 1 - i := by omega
    show BitVec.ofNat 8 (n / 256 ^ (k + 1 - 1 - (i + 1))) = _
    rw [hexp]

theorem segmentBody_drop {segment : Nat} : (segmentBody code segment b).drop 3 = b.data := by
  rw [segmentBody_eq]
  rfl

theorem segmentBody_take (hcode : 1 ≤ code ∧ code ≤ 5) : (segmentBody code 0 b).take 3 =
    [BitVec.ofNat 8 code, if b.last then 0x80#8 else 0x00#8, 0x00#8] := by
  rw [segmentBody_eq, if_pos hcode]
  cases b.last <;> rfl

/-- The age of a range in a PEERS entry, absent where there is none (R56). -/
def rangeAgeBytes : Option Nat → List Byte
  | some t => ageBytes t
  | none => beOpt 2 none

theorem rangeAgeBytes_map {x : Option Elapsed} {f : Elapsed → Nat} :
    rangeAgeBytes (x.map f) = beOpt 2 (x.map fun m => min 65535 (f m / tps)) := by cases x <;> rfl

theorem peerEntry_eq {r : PeerRecord} : s.peerEntry r =
    be 1 r.id ++ ageBytes (r.heldAge.getD (since s.now r.lastHeard)) ++ beOpt 1 r.code ++
    beOpt 1 (if r.code.isSome then r.mode.map OpMode.code else none) ++
    beOpt 1 (r.cls.map BatClass.code) ++ beOpt 1 r.distance ++ beOpt 3 r.quality ++ beOpt 1 (r.unset.map Bool.toNat) ++
    beOpt 1 (r.trig.map TrigState.code) ++ timeOpt r.lastOnset ++ be 1 r.ranging.num ++ beOpt 2 r.delay ++
    beOpt 2 (r.rangeTime.map fun m => min 65535 (since s.now m / tps)) ++ be 1 r.grade.num ++ be 1 r.counted ++
    be 2 r.ringSum ++ be 1 r.lastSeq := by
  have hmode : (if r.code.isSome then r.mode.map OpMode.code else none) = r.shownMode.map OpMode.code := by
    unfold PeerRecord.shownMode
    split <;> rfl
  rw [hmode, ← rangeAgeBytes_map]
  rfl

/-! ## The first segments (R204) -/

theorem build_status : (s.build (requestOf 1 argument)).last = false ∧ (s.build (requestOf 1 argument)).data = s.groupCs := by
  have hlength : s.groupCs.length = 8 := rfl
  have hfits : ¬ 77 < (s.groupCs.drop 0).length := by rw [List.drop_zero, hlength]; omega
  refine ⟨?_, ?_⟩
  · show (!decide (77 < (s.groupCs.drop 0).length) && decide (8 ≤ 0)) = false
    simp
  · show (s.groupCs.drop 0).take 77 = s.groupCs
    rw [List.drop_zero, List.take_of_length_le (by rw [hlength]; omega)]

theorem build_peers (hids : ∀ r ∈ s.peers, 1 ≤ r.id) :
    ((s.build (requestOf 2 argument)).last = true ↔ s.peers.length ≤ 2) ∧
    (s.build (requestOf 2 argument)).data = (s.peers.take 2).flatMap s.peerEntry := by
  have hall : s.peers.filter (fun r => 0 < r.id) = s.peers := by
    rw [List.filter_eq_self]
    exact fun r hr => decide_eq_true (hids r hr)
  refine ⟨?_, ?_⟩
  · show decide ((s.peers.filter (fun r => 0 < r.id)).length ≤ 2) = true ↔ _
    rw [hall, decide_eq_true_iff]
  · show ((s.peers.filter (fun r => 0 < r.id)).take 2).flatMap s.peerEntry = _
    rw [hall]

theorem build_record {r : EventRec} (h : s.cu.events = [r]) (hparts : r.parts.length ≤ 14) :
    ((s.build (requestOf 3 argument)).last = true ↔ s.cu.entries = []) ∧
    ∃ spare, (s.build (requestOf 3 argument)).data = s.eventRecord r spare := by
  have hfit : fitRecords 77 [r] = [r] := by
    have hsize : r.size ≤ 77 := by
      unfold EventRec.size
      omega
    simp [fitRecords, hsize]
  have hbuild : s.build (requestOf 3 argument) = s.buildRecords [r] .start := by
    show (if s.cu.events.isEmpty then _ else s.buildRecords s.cu.events .start) = _
    rw [h]
    rfl
  rw [hbuild]
  refine ⟨?_, Config.eventsSpareByte s.freeDrawn, ?_⟩
  · show (decide ([r].length ≤ (fitRecords 77 [r]).length) && s.cu.entries.isEmpty) = true ↔ _
    rw [hfit]
    simp
  · show s.recordBytes s.freeDrawn (fitRecords 77 [r]) = _
    rw [hfit]
    exact List.append_nil _

theorem build_entries (h : s.cu.events = []) :
    ((s.build (requestOf 3 argument)).last = true ↔ s.cu.entries.length ≤ 4) ∧
    (s.build (requestOf 3 argument)).data = (s.cu.entries.take 4).flatMap s.entryBytes := by
  have hbuild : s.build (requestOf 3 argument) = s.buildEntries s.cu.entries .start := by
    show (if s.cu.events.isEmpty then s.buildEntries s.cu.entries .start else _) = _
    rw [h]
    rfl
  rw [hbuild]
  exact ⟨decide_eq_true_iff, rfl⟩

theorem eventRecord_eq {r : EventRec} {spare : Byte} : s.eventRecord r spare =
    idBytes r.id ++ be 1 r.state.num ++ timeBytes r.earliest ++ be 1 r.parts.length ++
    r.parts.flatMap (fun p => be 1 p.station ++ be 2 ((p.onset - r.earliest) * 1000 / 1048576) ++ be 1 p.peak) ++
    be 1 ((r.parts.map Part.peak).foldl max 0) ++ be 1 r.update ++ be 1 r.declOwed.toNat ++ idBytes r.mergedInto ++
    be 1 r.uplink.num ++ be 2 (min 65535 (since s.now r.opened / 1048576)) ++ [spare] := by
  rw [List.foldl_map]
  rfl

theorem entryBytes_of_unbound {e : Entry} (h : e.bound = none) : s.entryBytes e =
    be 1 e.station ++ timeBytes e.onset ++ timeOpt e.endAt ++ be 2 0xFFFF ++ be 1 e.own.toNat ++ beOpt 1 e.mask := by
  unfold State.entryBytes
  rw [h]
  rfl

/-- The counters of the first COUNTERS segment. -/
theorem build_counters (cs : List Counter) (hcs : ((List.finRange 102).take 38) = cs.map Counter.idx) :
    (s.build (requestOf 4 argument)).last = false ∧
    (s.build (requestOf 4 argument)).data = cs.flatMap (fun k => be 2 (s.count k)) := by
  refine ⟨rfl, ?_⟩
  show (countersOf 0 s.counters.toList).flatMap (be 2) = _
  rw [countersOf_eq 0 cs hcs, List.flatMap_map]

/-- RESTART and an unknown code are answered with one empty segment, the last (R203). -/
theorem build_other (h : code = 0 ∨ 5 ≤ code) :
    (s.build (requestOf code argument)).last = true ∧ (s.build (requestOf code argument)).data = [] := by
  unfold State.build
  have hcode : (requestOf code argument).code = code := rfl
  split
  · omega
  · omega
  · omega
  · omega
  · exact ⟨rfl, rfl⟩

theorem segmentBody_of_empty (hlast : b.last = true) (hdata : b.data = []) : segmentBody code 0 b =
    [BitVec.ofNat 8 code, 0x80#8, if 1 ≤ code ∧ code ≤ 5 then 0x00#8 else 0x01#8] := by
  rw [segmentBody_eq, hlast, hdata]
  rfl

/-- The clear option of the first COUNTERS segment clears the id-conflict flag as well; no other segment moves it (R204, R38). -/
theorem segmentBuilt_idConflict {q : ServiceReq} (hsegment : q.resume.segment = 0) : (s.segmentBuilt q).lc.idConflict =
    if q.code = 4 ∧ q.argument % 2 = 1 then false else s.lc.idConflict := by
  unfold State.segmentBuilt
  dsimp only
  by_cases h : q.code = 4 ∧ q.argument % 2 = 1
  · rw [if_pos h, if_pos (by simpa using h), hsegment]
    rfl
  · rw [if_neg h, if_neg (by simpa using h)]
    rfl

end

end Sys2Proof.Machine

section
open Sys2Proof Sys2Proof.Machine
set_option Elab.async false

/-- Settles O40. -/
theorem serviceRequestIsAnsweredAtOnce : Obligations.ServiceRequestIsAnsweredAtOnce := by
  intro s stamp hdr rest q c h hset hcd hawake hsends hj hrow
  obtain ⟨t, hframe, hcs, hslots, hseq, hconflict, hpeers, htb, hrmu, htau, htd, hentries, hbm, hhc, hcount⟩ :=
    serviceRequest_sent h hset hcd hawake hsends hj
  have hexec : exec c s = .next t := by
    rw [← hframe]
    rcases hrow with rfl | rfl | rfl | rfl | rfl | rfl <;> rfl
  obtain ⟨hvlc, hvcs, -, hvtb, -, hvpeers, -, -, hvcu, -⟩ := requested_facts (s := s) (hdr := hdr) (q := q)
  have hvcount (c : Counter) := requested_count (s := s) (hdr := hdr) (q := q) (c := c)
  have hvconflict := segmentBuilt_idConflict (s := s.requested hdr q) (q := requestOf q.code q.argument) rfl
  rw [hvconflict, hvlc] at hconflict
  generalize s.requested hdr q = v at *
  obtain ⟨b, hb⟩ : ∃ b, b = v.build (requestOf q.code q.argument) := ⟨_, rfl⟩
  rw [← hb] at hcs hslots
  have hkept (c : Counter) (hc : c = .requestsTaken ∨ c = .requestsReplaced ∨ c = .unknownRequests) : t.count c = v.count c := by
    rw [hcount c (by rcases hc with rfl | rfl | rfl <;> decide) (by rcases hc with rfl | rfl | rfl <;> decide), if_neg]
    rintro ⟨-, -, hidx⟩
    rcases hc with rfl | rfl | rfl <;> exact absurd hidx (by decide)
  refine ⟨t, _, _, hexec, congrArg (fun x => x.pending) hcs, congrArg Slots.report hslots, rfl, rfl, rfl, rfl, hseq, hpeers, ?_, ?_, hslots, rfl, ?_, ?_, ?_, ?_,
    htb, hrmu, htau, htd, hentries, hbm, hhc⟩
  · rw [hkept _ (.inl rfl), hvcount, if_pos (by simp)]
  · intro hpending
    rw [hkept _ (.inr (.inl rfl)), hvcount, if_pos (by simp [hpending])]
  · intro hcode
    obtain ⟨hlast, hdata⟩ := build_other (s := v) (argument := q.argument) (.inr (show 5 ≤ q.code by omega))
    rw [← hb] at hlast hdata
    refine ⟨?_, hlast⟩
    show segmentBody q.code 0 b = _
    rw [segmentBody_of_empty hlast hdata, hcode]
    rfl
  · intro hcode
    obtain ⟨hlast, hdata⟩ := build_other (s := v) (code := q.code) (argument := q.argument) (by omega)
    rw [← hb] at hlast hdata
    refine ⟨?_, hlast, ?_⟩
    · show segmentBody q.code 0 b = _
      rw [segmentBody_of_empty hlast hdata, if_neg (by omega)]
    · rw [hkept _ (.inr (.inr rfl)), hvcount, if_pos]
      refine .inr (.inr (.inr ⟨rfl, ?_⟩))
      have hunknown : ¬ (1 ≤ q.code ∧ q.code ≤ 5) := by omega
      simpa [knownCode] using hunknown
  · intro hcode
    exact segmentBody_take (by omega)
  · intro bytes opt time timeOpt seconds id first peer
    have hbytes : bytes = be := funext fun k => funext fun n => be_eq_range k n
    have hopt : opt = beOpt := by
      funext k x
      cases x with
      | none => rfl
      | some n => exact be_eq_range k n
    have htime : time = timeBytes := by
      funext x
      show bytes 4 _ ++ bytes 3 _ = _
      rw [hbytes]
      rfl
    have htimeOpt : timeOpt = Machine.timeOpt := by
      funext x
      show (x.map time).getD _ = _
      rw [htime]
      cases x <;> rfl
    have hid : id = idBytes := by
      funext x
      show (x.map (fun i => bytes 1 i.origin ++ bytes 1 i.seq)).getD _ = _
      rw [hbytes]
      cases x <;> rfl
    have hpeer : peer = v.peerEntry := by
      funext r
      have hnow : v.now = s.now := congrArg Timebase.elapsed hvtb
      rw [peerEntry_eq, hnow, ← hopt, ← htimeOpt, ← hbytes]
      rfl
    have hbody : List.drop 3 (segmentBody q.code 0 b) = b.data := segmentBody_drop
    refine ⟨fun hcode => ?_, fun hcode hids => ?_, fun r hcode hevents hparts => ?_, fun hcode hevents hbound => ?_, fun hcode => ?_⟩
    · rw [hcode] at hb
      obtain ⟨hlast, hdata⟩ := build_status (s := v) (argument := q.argument)
      rw [← hb] at hlast hdata
      refine ⟨hlast, hbody.trans (hdata.trans ?_)⟩
      unfold State.groupCs State.ownId flagByte
      rw [hvcs, hvlc, ← hbytes]
    · rw [hcode] at hb
      obtain ⟨hlast, hdata⟩ := build_peers (s := v) (argument := q.argument) (by rw [hvpeers]; exact hids)
      rw [← hb, hvpeers] at hlast hdata
      refine ⟨hlast, hbody.trans ?_⟩
      rw [hdata, hpeer]
    · rw [hcode] at hb
      obtain ⟨hlast, spare, hdata⟩ := build_record (s := v) (argument := q.argument) (by rw [hvcu]; exact hevents) hparts
      rw [← hb, hvcu] at hlast
      rw [← hb] at hdata
      refine ⟨hlast, spare, hbody.trans (hdata.trans ?_)⟩
      have hnow : v.now = s.now := congrArg Timebase.elapsed hvtb
      rw [eventRecord_eq, hnow, ← hid, ← htime, ← hbytes]
      rfl
    · rw [hcode] at hb
      obtain ⟨hlast, hdata⟩ := build_entries (s := v) (argument := q.argument) (by rw [hvcu]; exact hevents)
      rw [← hb, hvcu] at hlast hdata
      refine ⟨hlast, hbody.trans (hdata.trans ?_)⟩
      rw [List.flatMap_congr fun e he => entryBytes_of_unbound (hbound e (List.mem_of_mem_take he)), ← hopt, ← htimeOpt, ← htime,
        ← hbytes]
    · rw [hcode] at hb
      obtain ⟨hlast, hdata⟩ := build_counters (s := v) (argument := q.argument) first (by decide)
      rw [← hb] at hlast hdata
      have hfirst : ∀ k ∈ first, k ≠ .requestsTaken ∧ k ≠ .requestsReplaced ∧ k ≠ .unknownRequests ∧ k ≠ .musterBeacons ∧
          k ≠ .busRecoveries ∧ k.idx.val / 38 = 0 := by decide
      have hvfirst (k : Counter) (hk : k ∈ first) :
          v.count k = if k = .framesAccepted then min (s.count k + 1) 65535 else s.count k := by
        obtain ⟨h1, h2, h3, -⟩ := hfirst k hk
        rw [hvcount]
        simp [h1, h2, h3]
      have htfirst (k : Counter) (hk : k ∈ first) : t.count k = if q.argument % 2 = 1 then 0 else v.count k := by
        obtain ⟨-, -, -, h4, h5, h6⟩ := hfirst k hk
        rw [hcount k h4 h5]
        simp [hcode, h6]
      refine ⟨hlast, hbody.trans (hdata.trans ?_), fun hodd => ⟨?_, fun k hk => ?_⟩, fun heven => ⟨?_, fun k hk hne => ?_⟩⟩
      · rw [hbytes]
        exact List.flatMap_congr fun k hk => by rw [hvfirst k hk]
      · rw [hconflict]
        exact if_pos ⟨hcode, hodd⟩
      · rw [htfirst k hk, if_pos hodd]
      · rw [hconflict]
        exact if_neg (fun h => by have := h.2; simp only [requestOf] at this; omega)
      · rw [htfirst k hk, if_neg (by omega), hvfirst k hk, if_neg hne]

end

/-! PROOFS. An accepted TRIGGER NOTICE, no event record standing (O36). -/
namespace Sys2Proof.Machine
set_option Elab.async false

section
variable {s t u v w : State} {c : Counter} {stamp : RxStamp} {hdr : Header} {rest : List Byte} {n : Notice} {x e : Entry}

/-! ## What the notice writes beside its onset (R47) -/

/-- The state once a TRIGGER NOTICE's header and trigger word are taken, before its onset is admitted. -/
def State.noticed (s : State) (hdr : Header) (rest : List Byte) (stamp : RxStamp) (n : Notice) : State :=
  ptNotice hdr.sender n (headerTaken { hdr := hdr, rest := rest } stamp .notice s)

theorem noticed_leaves :
    (s.noticed hdr rest stamp n).pins = s.pins ∧ (s.noticed hdr rest stamp n).tb = s.tb ∧
    (s.noticed hdr rest stamp n).rmu = s.rmu ∧ (s.noticed hdr rest stamp n).tau = s.tau ∧
    (s.noticed hdr rest stamp n).td = s.td ∧ (s.noticed hdr rest stamp n).cu = s.cu ∧
    (s.noticed hdr rest stamp n).uc = s.uc ∧ (s.noticed hdr rest stamp n).bm = s.bm ∧ (s.noticed hdr rest stamp n).hc = s.hc ∧
    (s.noticed hdr rest stamp n).mc = s.mc ∧ (s.noticed hdr rest stamp n).cs = s.cs ∧
    (s.noticed hdr rest stamp n).lc = { s.lc with rx := .hunting } := by
  simp [State.noticed]

theorem noticed_count : (s.noticed hdr rest stamp n).count c =
    if c = .framesAccepted then min (s.count c + 1) 65535 else s.count c := by
  rw [← headerTaken_count (f := { hdr := hdr, rest := rest }) (stamp := stamp) (kind := .notice)]
  exact count_of_counters_eq (by simp [State.noticed])

theorem noticed_peer : ∃ r, (s.noticed hdr rest stamp n).peer hdr.sender = some r ∧
    r.trig = some (if n.kind = .onset then .on else .off) ∧ r.lastOnset = some n.onset := by
  have hpeer : (s.noticed hdr rest stamp n).peer hdr.sender = some { takenPeer (RxFrame.facts { hdr := hdr, rest := rest } stamp .notice) s with
      trig := some (if n.kind == .onset then .on else .off), lastOnset := some n.onset } := by
    refine (peer_updPeer (x := hdr.sender)).trans ?_
    rw [if_pos rfl, headerTaken_peer (f := { hdr := hdr, rest := rest })]
    rfl
  refine ⟨_, hpeer, ?_, rfl⟩
  show some (if n.kind == .onset then TrigState.on else .off) = _
  cases n.kind <;> rfl

/-- The entry of a notice's onset (R117). -/
def noticeEntry (sender : Nat) (n : Notice) : Entry :=
  { station := sender, onset := n.onset, mask := some n.mask, peak := n.peak
    endAt := if n.kind = .finish then some (n.onset + n.duration * 1048576 / 10) else none, bound := none, own := false
    confirmed := false }

theorem cuNotice_eq {sender : Nat} : cuNotice sender n s = closeTest (fun r => r.includes sender) (admitOnset (noticeEntry sender n) s) := by
  have hend : (if n.kind == .finish then some (n.onset + n.duration * 1048576 / 10) else none) =
      if n.kind = .finish then some (n.onset + n.duration * 1048576 / 10) else none := by cases n.kind <;> rfl
  unfold cuNotice noticeEntry
  rw [hend]
  rfl

/-- The step of an accepted TRIGGER NOTICE (R40, R117). -/
theorem exec_triggerNoticeReceived (h : s.Receives stamp hdr rest)
    (hj : s.judge { hdr := hdr, rest := rest } = .accepted .notice (.notice n)) :
    exec (.triggerNoticeReceived rest) s = .next (finish (cuNotice hdr.sender n (s.noticed hdr rest stamp n))) := by
  have hmc := mc_of_besideEvents (cuNotice_besideEvents (s := s.noticed hdr rest stamp n) (st := hdr.sender) (n := n))
  exact congrArg Host.Outcome.next (h.delivered hj (by simp) rfl (by
    show (cuNotice hdr.sender n (s.noticed hdr rest stamp n)).mc.capture = _
    rw [hmc]
    simp [State.noticed]))

/-- What an accepted notice leaves and counts, whatever it does to the tables. -/
structure State.HearsNotice (s : State) (hdr : Header) (n : Notice) (t : State) : Prop where
  peer : ∃ r, t.peer hdr.sender = some r ∧ r.trig = some (if n.kind = .onset then .on else .off) ∧ r.lastOnset = some n.onset
  count : t.count .framesAccepted = min (s.count .framesAccepted + 1) 65535
  rest : t.tb = s.tb ∧ t.rmu = s.rmu ∧ t.tau = s.tau ∧ t.bm = s.bm ∧ t.hc = s.hc ∧ t.cs = s.cs ∧ t.mc.standing = s.mc.standing

theorem hearsNotice_of_firm (h : w.besideEvents = (s.noticed hdr rest stamp n).besideEvents) (hfirm : w.Firm) :
    s.HearsNotice hdr n (finish w) := by
  obtain ⟨r, hpeer, htrig, honset⟩ := noticed_peer (s := s) (hdr := hdr) (rest := rest) (stamp := stamp) (n := n)
  obtain ⟨-, htb, hrmu, htau, -, -, -, hbm, hhc, hmc, hcs, -⟩ :=
    noticed_leaves (s := s) (hdr := hdr) (rest := rest) (stamp := stamp) (n := n)
  have hcount := noticed_count (s := s) (hdr := hdr) (rest := rest) (stamp := stamp) (n := n) (c := .framesAccepted)
  generalize s.noticed hdr rest stamp n = v at *
  obtain ⟨-, -, hwtb, hwrmu, hwpeers, hwtau, -, hwbm, hwhc, -, hwcs, -⟩ := rest_of_besideEvents h
  have hwmc := mc_of_besideEvents h
  obtain ⟨-, -, hftb, hfrmu, hfpeers, hftau, -, -, hfbm, hfhc, hfcs, -⟩ := hfirm.leaves
  refine ⟨⟨r, (peer_of_peers_eq (hfpeers.trans hwpeers)).trans hpeer, htrig, honset⟩, ?_, hftb.trans (hwtb.trans htb),
    hfrmu.trans (hwrmu.trans hrmu), hftau.trans (hwtau.trans htau), hfbm.trans (hwbm.trans hbm), hfhc.trans (hwhc.trans hhc),
    hfcs.trans (hwcs.trans hcs), ?_⟩
  · rw [hfirm.count, count_of_besideEvents h rfl, hcount, if_pos rfl]
  · rw [hfirm.standing, hwmc, hmc]

/-! ## An onset where no event record and no own entry stands -/

theorem mem_of_mem_replace {α : Type} [BEq α] [LawfulBEq α] {xs : List α} {x y z : α} (h : z ∈ xs.replace x y) : z ∈ xs ∨ z = y := by
  by_cases hx : x ∈ xs
  · have := (replace_perm (y := y) hx).subset h
    rcases List.mem_cons.mp this with rfl | hz
    · exact .inr rfl
    · exact .inl (List.mem_of_mem_erase hz)
  · rw [List.replace_of_not_mem (by simpa using hx)] at h
    exact .inl h

theorem updRec_of_no_record {k : Nat} {f : EventRec → EventRec} (h : s.cu.events = []) : updRec k f s = s := by
  unfold updRec setEvents
  apply setCu_same
  rw [h]
  show { s.cu with events := [] } = s.cu
  rw [← h]

theorem offerOne_of_no_record {allow : EventRec → Bool} (h : s.cu.events = []) : offerOne allow s x = s := by
  unfold offerOne
  rw [firstFit_of_no_record h]
  split <;> rfl

/-- An arrival that merges, no event record and no own entry standing (R115). -/
theorem mergeEntry_alone (hevents : s.cu.events = []) (hown : ∀ e ∈ s.cu.entries, e.own = false) (he : e ∈ s.cu.entries) :
    mergeEntry e x s = setEntries (s.cu.entries.replace e (e.absorb x)) s := by
  obtain ⟨v, hv⟩ : ∃ v, v = setEntries (s.cu.entries.replace e (e.absorb x)) s := ⟨_, rfl⟩
  have hvevents : v.cu.events = [] := by rw [hv]; exact hevents
  have hquorum : evalQuorum v = v := evalQuorum_of_no_own fun y hy _ => by
    rw [hv, mem_setEntries] at hy
    rcases mem_of_mem_replace hy with hy | rfl
    · exact hown y hy
    · exact hown e he
  unfold mergeEntry
  dsimp only
  rw [← hv]
  split
  · rw [updRec_of_no_record hvevents, renewEnd_of_no_record hvevents, ite_self]
  · rw [offerOne_of_no_record hvevents, hquorum]

/-- Where no event record and no own entry stands an onset moves the trigger table only. -/
theorem admitOnset_alone (hevents : s.cu.events = []) (hown : ∀ e ∈ s.cu.entries, e.own = false) (hx : x.own = false) :
    (admitOnset x s).cu.events = [] ∧ (admitOnset x s).td = s.td ∧ (admitOnset x s).mc = s.mc := by
  by_cases hold : s.tooOld x.onset = true
  · rw [admitOnset_of_old hold]
    exact ⟨hevents, rfl, rfl⟩
  have hnew : s.tooOld x.onset = false := by simpa using hold
  cases hmerge : s.mergeTarget x.station x.onset with
  | some e =>
    rw [admitOnset_of_known hnew hmerge, mergeEntry_alone hevents hown (List.mem_of_find?_eq_some hmerge),
      cuRequest_of_no_record (by exact hevents)]
    exact ⟨hevents, rfl, rfl⟩
  | none =>
    by_cases hroom : s.cu.entries.length < 24
    · rw [admitOnset_of_room hevents hown hx hnew hmerge hroom]
      exact ⟨hevents, rfl, rfl⟩
    cases hfind : s.cu.entries.find? (fun e => e.bound.isNone) with
    | some y =>
      obtain ⟨v, hv, hadmit⟩ := admitOnset_of_evicted hevents hown hx hnew hmerge hroom hfind
      rw [hadmit, hv]
      exact ⟨hevents, rfl, rfl⟩
    | none =>
      have hplace : s.placeFor = none := placeFor_of_bound (by rw [hevents]; simp) hroom fun e he => by
        simpa [Option.isSome_iff_ne_none] using List.find?_eq_none.mp hfind e he
      rw [admitOnset_of_new hnew hmerge, placeEntry_of_no_place hplace, cuRequest_of_no_record (by exact hevents)]
      exact ⟨hevents, rfl, rfl⟩

end

end Sys2Proof.Machine

/-! PROOFS. An accepted TRIGGER NOTICE: admission, merge, stale, a full table (O36). -/
namespace Sys2Proof.Machine
set_option Elab.async false

section
variable {s t u v w : State} {c : Counter} {stamp : RxStamp} {hdr : Header} {rest : List Byte} {n : Notice} {x e : Entry}

theorem noticed_settled (h : s.Settled) : (s.noticed hdr rest stamp n).Settled := by
  unfold State.Settled at *
  rwa [noticed_leaves.2.2.2.2.2.2.2.2.2.1]

/-- A notice's onset is near no entry of its station. -/
def State.apartFrom (s : State) (hdr : Header) (n : Notice) : Prop :=
  ∀ e ∈ s.cu.entries, e.station = hdr.sender → secs s.cs.image.wc < timeGap e.onset n.onset

theorem mergeTarget_of_apart (h : s.apartFrom hdr n) (hcu : v.cu = s.cu) (hcs : v.cs = s.cs) :
    v.mergeTarget hdr.sender n.onset = none := by
  rw [mergeTarget_eq_none, hcu, hcs]
  rintro ⟨e, he, hstation, hgap⟩
  exact absurd (h e he hstation) (by omega)

/-- The end of a step that a notice at a station without event records takes. -/
theorem notice_step (h : s.Receives stamp hdr rest) (hset : s.Settled)
    (hj : s.judge { hdr := hdr, rest := rest } = .accepted .notice (.notice n))
    (hevents : (admitOnset (noticeEntry hdr.sender n) (s.noticed hdr rest stamp n)).cu.events = [])
    (hmc : (admitOnset (noticeEntry hdr.sender n) (s.noticed hdr rest stamp n)).mc = (s.noticed hdr rest stamp n).mc) :
    ∃ t, exec (.triggerNoticeReceived rest) s = .next t ∧ s.HearsNotice hdr n t ∧
      t.cu = (admitOnset (noticeEntry hdr.sender n) (s.noticed hdr rest stamp n)).cu ∧
      t.td = (admitOnset (noticeEntry hdr.sender n) (s.noticed hdr rest stamp n)).td ∧
      ∀ c : Counter, c ≠ .musterBeacons → c ≠ .busRecoveries →
        t.count c = (admitOnset (noticeEntry hdr.sender n) (s.noticed hdr rest stamp n)).count c := by
  have hexec := exec_triggerNoticeReceived h hj
  have hvset := noticed_settled (hdr := hdr) (rest := rest) (stamp := stamp) (n := n) hset
  have hbeside : (admitOnset (noticeEntry hdr.sender n) (s.noticed hdr rest stamp n)).besideEvents =
      (s.noticed hdr rest stamp n).besideEvents := admitOnset_besideEvents
  rw [cuNotice_eq, closeTest_of_no_record hevents] at hexec
  have hwset : (admitOnset (noticeEntry hdr.sender n) (s.noticed hdr rest stamp n)).Settled := by
    unfold State.Settled at *
    rwa [hmc]
  have hhears := hearsNotice_of_firm hbeside (.inl hwset)
  generalize admitOnset (noticeEntry hdr.sender n) (s.noticed hdr rest stamp n) = w at *
  obtain ⟨-, -, -, -, hftd, -, -, -, hfcu⟩ := finish_settled_facts hwset hevents
  exact ⟨finish w, hexec, hhears, hfcu, hftd, fun c h1 h2 => finish_count hwset h1 h2⟩

theorem setEntries_single {y : Entry} : (setEntries [y] s).cu.entries = [y] := by
  rw [setEntries_cu]
  rfl

/-- An unconfirmed report behind an overflow of the table (R108, R119). -/
theorem tdUnconfirmed_overflow_count : (tdUnconfirmed (bump .triggerTableOverflow s)).count c =
    if c = .unconfirmedTriggers ∨ c = .triggerTableOverflow then min (s.count c + 1) 65535 else s.count c := by
  have hcount : (tdUnconfirmed (bump .triggerTableOverflow s)).count c =
      (bump .unconfirmedTriggers (bump .triggerTableOverflow s)).count c := rfl
  rw [hcount, count_bump, count_bump]
  by_cases h1 : c = .unconfirmedTriggers
  · subst h1
    rfl
  · by_cases h2 : c = .triggerTableOverflow
    · subst h2
      rfl
    · rw [if_neg (Ne.symm h1), if_neg (Ne.symm h2), if_neg (by simp [h1, h2])]

/-- An onset that merges into an unbound entry without a mask (R115). -/
theorem absorb_notice {sender : Nat} (hbound : e.bound = none) (hmask : e.mask = none) : e.absorb (noticeEntry sender n) =
    { e with onset := min e.onset n.onset, peak := max e.peak n.peak, mask := some n.mask, endAt := (noticeEntry sender n).endAt } := by
  unfold Entry.absorb
  rw [hbound, hmask]
  rfl

end

end Sys2Proof.Machine

section
open Sys2Proof Sys2Proof.Machine
set_option Elab.async false
variable {s : State} {stamp : RxStamp} {hdr : Header} {rest : List Byte} {n : Notice}

/-- The first part of O36. -/
theorem notice_enters_alone (h : s.Receives stamp hdr rest) (hset : s.Settled)
    (hj : s.judge { hdr := hdr, rest := rest } = .accepted .notice (.notice n)) (hevents : s.cu.events = [])
    (hown : ∀ e ∈ s.cu.entries, e.own = false) :
    ∃ t, exec (.triggerNoticeReceived rest) s = .next t ∧ s.HearsNotice hdr n t ∧ t.cu.events = [] ∧ t.td = s.td ∧
      (n.onset + secs s.cs.image.wc + secs 30 < s.tb.time →
        t.cu = s.cu ∧ t.count .staleEntries = min (s.count .staleEntries + 1) 65535) ∧
      (¬ n.onset + secs s.cs.image.wc + secs 30 < s.tb.time →
        (s.cu.entries = [] → t.cu.entries = [noticeEntry hdr.sender n]) ∧
        (s.apartFrom hdr n → s.cu.entries.length < 24 →
          ∀ e, e ∈ t.cu.entries ↔ e ∈ s.cu.entries ∨ e = noticeEntry hdr.sender n) ∧
        (∀ e, s.cu.entries = [e] → e.station = hdr.sender → timeGap e.onset n.onset ≤ secs s.cs.image.wc → e.bound = none →
          e.mask = none → t.cu.entries = [{ e with
            onset := min e.onset n.onset, peak := max e.peak n.peak, mask := some n.mask
            endAt := (noticeEntry hdr.sender n).endAt }])) := by
  obtain ⟨-, htb, -, -, htd, hcu, -, -, -, hmc, hcs, -⟩ :=
    noticed_leaves (s := s) (hdr := hdr) (rest := rest) (stamp := stamp) (n := n)
  have hcount := noticed_count (s := s) (hdr := hdr) (rest := rest) (stamp := stamp) (n := n) (c := .staleEntries)
  have hstep := notice_step h hset hj
  generalize s.noticed hdr rest stamp n = v at *
  obtain ⟨x, hx⟩ : ∃ x, x = noticeEntry hdr.sender n := ⟨_, rfl⟩
  have hxown : x.own = false := by rw [hx]; rfl
  have hxonset : x.onset = n.onset := by rw [hx]; rfl
  have hxstation : x.station = hdr.sender := by rw [hx]; rfl
  have hvevents : v.cu.events = [] := by rw [hcu]; exact hevents
  have hvown : ∀ e ∈ v.cu.entries, e.own = false := by rw [hcu]; exact hown
  rw [← hx] at hstep
  obtain ⟨hwevents, hwtd, hwmc⟩ := admitOnset_alone (x := x) hvevents hvown hxown
  obtain ⟨t, hexec, hhears, htcu, httd, htcount⟩ := hstep hwevents hwmc
  have hold_iff : v.tooOld x.onset = true ↔ n.onset + secs s.cs.image.wc + secs 30 < s.tb.time := by
    rw [tooOld_iff, hxonset, htb, hcs]
  rw [← hx]
  refine ⟨t, hexec, hhears, by rw [htcu]; exact hwevents, httd.trans (hwtd.trans htd), fun hstale => ?_, fun hfresh => ⟨fun hempty => ?_,
    fun hapart hroom e => ?_, fun e he hstation hgap hbound hmask => ?_⟩⟩
  · have hadmit : admitOnset x v = bump .staleEntries v := admitOnset_of_old (hold_iff.mpr hstale)
    rw [htcu, htcount _ (by decide) (by decide), hadmit, count_bump, if_pos rfl, hcount]
    exact ⟨hcu, rfl⟩
  all_goals have hnew : v.tooOld x.onset = false := by rw [← Bool.not_eq_true, hold_iff]; exact hfresh
  · have hmerge : v.mergeTarget x.station x.onset = none := by
      rw [mergeTarget_eq_none, hcu, hempty]
      simp
    rw [htcu, admitOnset_of_room hvevents hvown hxown hnew hmerge (by rw [hcu, hempty]; simp), hcu, hempty]
    exact setEntries_single
  · have hmerge : v.mergeTarget x.station x.onset = none := by rw [hxstation, hxonset]; exact mergeTarget_of_apart hapart hcu hcs
    rw [htcu, admitOnset_of_room hvevents hvown hxown hnew hmerge (by rw [hcu]; exact hroom), mem_setEntries, hcu, List.mem_append,
      List.mem_singleton]
  · have hmerge : v.mergeTarget x.station x.onset = some e := by
      have hnear : (e.station == x.station && v.withinWc e.onset x.onset) = true := by
        rw [Bool.and_eq_true, hxstation, hxonset]
        refine ⟨by simpa using hstation, ?_⟩
        unfold State.withinWc State.window
        rw [hcs]
        exact decide_eq_true hgap
      unfold State.mergeTarget
      rw [hcu, he]
      exact List.find?_cons_of_pos hnear
    rw [htcu, admitOnset_of_known hnew hmerge, mergeEntry_alone hvevents hvown (by rw [hcu, he]; simp),
      cuRequest_of_no_record (by exact hvevents), hcu, he]
    have hreplace : [e].replace e (e.absorb x) = [e.absorb x] := by simp
    rw [hreplace, setEntries_single, hx, absorb_notice hbound hmask]

/-- The step of a notice for which the first unbound entry gives up its place (R119): `u` is the table without that entry. -/
theorem notice_takes_place (h : s.Receives stamp hdr rest) (hset : s.Settled)
    (hj : s.judge { hdr := hdr, rest := rest } = .accepted .notice (.notice n)) (hevents : s.cu.events = [])
    (hfresh : ¬ n.onset + secs s.cs.image.wc + secs 30 < s.tb.time) (hapart : s.apartFrom hdr n) (hfull : s.cu.entries.length = 24)
    {y : Entry} (hy : s.cu.entries.find? (fun e => e.bound.isNone) = some y) (hown : ∀ e ∈ s.cu.entries.erase y, e.own = false) :
    ∃ u t : State, exec (.triggerNoticeReceived rest) s = .next t ∧ s.HearsNotice hdr n t ∧ u.td = s.td ∧ u.now = s.now ∧
      (∀ c : Counter, c ≠ .framesAccepted → u.count c = s.count c) ∧ t.cu.events = [] ∧
      (∀ e, e ∈ t.cu.entries ↔ e ∈ s.cu.entries.erase y ∨ e = noticeEntry hdr.sender n) ∧
      t.td = (tdUnconfirmedIf (y.own && !y.confirmed) (bump .triggerTableOverflow u)).td ∧
      ∀ c : Counter, c ≠ .musterBeacons → c ≠ .busRecoveries →
        t.count c = (tdUnconfirmedIf (y.own && !y.confirmed) (bump .triggerTableOverflow u)).count c := by
  obtain ⟨-, htb, -, -, htd, hcu, -, -, -, hmc, hcs, -⟩ :=
    noticed_leaves (s := s) (hdr := hdr) (rest := rest) (stamp := stamp) (n := n)
  have hcount (c : Counter) (hc : c ≠ .framesAccepted) : (s.noticed hdr rest stamp n).count c = s.count c :=
    noticed_count.trans (if_neg hc)
  have hstep := notice_step h hset hj
  generalize s.noticed hdr rest stamp n = v at *
  have hnew : v.tooOld (noticeEntry hdr.sender n).onset = false := by
    rw [← Bool.not_eq_true, tooOld_iff, htb, hcs]
    exact hfresh
  have hmerge : v.mergeTarget (noticeEntry hdr.sender n).station (noticeEntry hdr.sender n).onset = none :=
    mergeTarget_of_apart hapart hcu hcs
  obtain ⟨u, hu, hadmit⟩ := admitOnset_of_giving (s := v) (x := noticeEntry hdr.sender n) (e := y) (by rw [hcu]; exact hevents)
    (by rw [hcu]; exact hown) rfl hnew hmerge (by rw [hcu]; omega) (by rw [hcu]; exact hy)
  have hucu : u.cu.events = [] ∧ ∀ e, e ∈ u.cu.entries ↔ e ∈ s.cu.entries.erase y := by
    rw [hu]
    refine ⟨(congrArg Coincidence.events hcu).trans hevents, fun e => ?_⟩
    rw [mem_setEntries, hcu]
  have hucount (c : Counter) (hc : c ≠ .framesAccepted) : u.count c = s.count c := by
    rw [← hcount c hc, hu]
    rfl
  obtain ⟨w, hw⟩ : ∃ w, w = tdUnconfirmedIf (y.own && !y.confirmed) (bump .triggerTableOverflow u) := ⟨_, rfl⟩
  have hwcu : w.cu = u.cu := by
    rw [hw]
    simp
  have hwmc : w.mc = v.mc := by
    rw [hw, hu]
    simp
  rw [hadmit, ← hw] at hstep
  obtain ⟨t, hexec, hhears, htcu, httd, htcount⟩ := hstep ((congrArg Coincidence.events hwcu).trans hucu.1) hwmc
  refine ⟨u, t, hexec, hhears, (by rw [hu]; exact htd), (by rw [hu]; exact congrArg Timebase.elapsed htb), hucount, ?_, fun e => ?_,
    httd.trans (by rw [hw]; rfl), fun c h1 h2 => (htcount c h1 h2).trans (by rw [hw]; rfl)⟩
  · rw [htcu]
    exact (congrArg Coincidence.events hwcu).trans hucu.1
  · rw [htcu, mem_setEntries, List.mem_append, List.mem_singleton, hucu.2]

/-- The second part of O36, where the first unbound entry gives up its place. -/
theorem notice_evicts (h : s.Receives stamp hdr rest) (hset : s.Settled)
    (hj : s.judge { hdr := hdr, rest := rest } = .accepted .notice (.notice n)) (hevents : s.cu.events = [])
    (hfresh : ¬ n.onset + secs s.cs.image.wc + secs 30 < s.tb.time) (hapart : s.apartFrom hdr n) (hfull : s.cu.entries.length = 24)
    {y : Entry} (hy : s.cu.entries.find? (fun e => e.bound.isNone) = some y) (hown : ∀ e ∈ s.cu.entries.erase y, e.own = false) :
    ∃ t, exec (.triggerNoticeReceived rest) s = .next t ∧ s.HearsNotice hdr n t ∧ t.cu.events = [] ∧
      (∀ e, e ∈ t.cu.entries ↔ e ∈ s.cu.entries.erase y ∨ e = noticeEntry hdr.sender n) ∧
      t.count .triggerTableOverflow = min (s.count .triggerTableOverflow + 1) 65535 ∧
      (y.own = false ∨ y.confirmed = true → t.td = s.td) ∧
      (y.own = true → y.confirmed = false →
        t.td = { s.td with
          trim := min 64 (s.td.trim + 4), trimTimer := some { start := s.now, period := secs 3600 } } ∧
        t.count .unconfirmedTriggers = min (s.count .unconfirmedTriggers + 1) 65535) := by
  obtain ⟨u, t, hexec, hhears, hutd, hunow, hucount, htevents, hmem, httd, htcount⟩ :=
    notice_takes_place h hset hj hevents hfresh hapart hfull hy hown
  refine ⟨t, hexec, hhears, htevents, hmem, ?_⟩
  have hoverflow := htcount .triggerTableOverflow (by decide) (by decide)
  have hunconfirmed := htcount .unconfirmedTriggers (by decide) (by decide)
  cases hreport : (y.own && !y.confirmed) with
  | false =>
    rw [hreport] at hoverflow httd
    refine ⟨hoverflow.trans ?_, fun _ => httd.trans hutd, fun h1 h2 => ?_⟩
    · show (bump .triggerTableOverflow u).count _ = _
      rw [count_bump, if_pos rfl, hucount _ (by decide)]
    · rw [h1, h2] at hreport
      cases hreport
  | true =>
    rw [hreport] at hoverflow hunconfirmed httd
    have hown' : y.own = true ∧ y.confirmed = false := by simpa using hreport
    refine ⟨hoverflow.trans ?_, fun h => ?_, fun _ _ => ⟨?_, hunconfirmed.trans ?_⟩⟩
    · exact tdUnconfirmed_overflow_count.trans (by rw [if_pos (.inr rfl), hucount _ (by decide)])
    · rcases h with h | h
      · rw [h] at hown'
        cases hown'.1
      · rw [h] at hown'
        cases hown'.2
    · rw [httd, ← hutd, ← hunow]
      rfl
    · exact tdUnconfirmed_overflow_count.trans (by rw [if_pos (.inl rfl), hucount _ (by decide)])

/-- The second part of O36, where no entry gives up its place. -/
theorem notice_finds_no_place (h : s.Receives stamp hdr rest) (hset : s.Settled)
    (hj : s.judge { hdr := hdr, rest := rest } = .accepted .notice (.notice n)) (hevents : s.cu.events = [])
    (hfresh : ¬ n.onset + secs s.cs.image.wc + secs 30 < s.tb.time) (hapart : s.apartFrom hdr n) (hfull : s.cu.entries.length = 24)
    (hbound : ∀ e ∈ s.cu.entries, e.bound.isSome) :
    ∃ t, exec (.triggerNoticeReceived rest) s = .next t ∧ s.HearsNotice hdr n t ∧ t.cu = s.cu ∧ t.td = s.td ∧
      t.count .triggerTableOverflow = min (s.count .triggerTableOverflow + 1) 65535 := by
  obtain ⟨-, htb, -, -, htd, hcu, -, -, -, hmc, hcs, -⟩ :=
    noticed_leaves (s := s) (hdr := hdr) (rest := rest) (stamp := stamp) (n := n)
  have hcount := noticed_count (s := s) (hdr := hdr) (rest := rest) (stamp := stamp) (n := n) (c := .triggerTableOverflow)
  have hstep := notice_step h hset hj
  generalize s.noticed hdr rest stamp n = v at *
  have hnew : v.tooOld (noticeEntry hdr.sender n).onset = false := by
    rw [← Bool.not_eq_true, tooOld_iff, htb, hcs]
    exact hfresh
  have hmerge : v.mergeTarget (noticeEntry hdr.sender n).station (noticeEntry hdr.sender n).onset = none :=
    mergeTarget_of_apart hapart hcu hcs
  have hadmit : admitOnset (noticeEntry hdr.sender n) v = bump .triggerTableOverflow v := by
    rw [admitOnset_of_new hnew hmerge, placeEntry_of_no_place
      (placeFor_of_bound (by rw [hcu, hevents]; simp) (by rw [hcu]; omega) (by rw [hcu]; exact hbound)),
      cuRequest_of_no_record (by rw [← hevents, ← hcu]; rfl)]
  rw [hadmit] at hstep
  obtain ⟨t, hexec, hhears, htcu, httd, htcount⟩ := hstep (by rw [← hevents, ← hcu]; rfl) rfl
  refine ⟨t, hexec, hhears, htcu.trans hcu, httd.trans htd, ?_⟩
  rw [htcount _ (by decide) (by decide), count_bump, if_pos rfl, hcount]
  rfl

end

/-! PROOFS. A quorum of two stations (R126, R127). -/
namespace Sys2Proof.Machine
set_option Elab.async false

section
variable {s t u v w : State} {c : Counter} {x e a b : Entry}

/-! ## The participant merge into the only record (R123) -/

theorem earliestFits_alone {wc : Nat} {r : EventRec} {onset : StationTime} : earliestFits wc [r] r onset = true := by
  unfold earliestFits
  simp

theorem canJoin_alone {wc station : Nat} {r : EventRec} {onset : StationTime} (hlow : 1 ≤ station) (hhigh : station ≤ 14)
    (hparts : ∀ p ∈ r.parts, p.station ≠ station ∧ timeGap p.onset onset ≤ wc) : canJoin wc [r] r station onset = true := by
  unfold canJoin spanFits
  rw [earliestFits_alone]
  simp only [Bool.and_eq_true, decide_eq_true_iff, List.all_eq_true, bne_iff_ne, and_true]
  exact ⟨⟨⟨hlow, hhigh⟩, fun p hp => (hparts p hp).1⟩, fun p hp => (hparts p hp).2⟩

/-- A new participant of the only record (R123). -/
theorem mergePart_only {r : EventRec} {station peak : Nat} {onset : StationTime} (h : s.cu.events = [r]) (hlow : 1 ≤ station)
    (hhigh : station ≤ 14) (hparts : ∀ p ∈ r.parts, p.station ≠ station ∧ timeGap p.onset onset ≤ s.window) :
    mergePart r.rid station onset peak s =
      s.setCu { s.cu with events := [addPart r { station := station, onset := onset, peak := peak }] } := by
  have hupd : updRec r.rid (fun r => addPart r { station := station, onset := onset, peak := peak }) s =
      s.setCu { s.cu with events := [addPart r { station := station, onset := onset, peak := peak }] } := by
    show s.setCu _ = s.setCu _
    simp [h, sortBy, insertBy]
  have hjoin := canJoin_alone hlow hhigh hparts
  have hnone : r.parts.any (fun p => p.station == station) = false := by
    rw [List.any_eq_false]
    exact fun p hp => by simpa using (hparts p hp).1
  unfold mergePart
  rw [rec?_only h]
  dsimp only
  rw [hnone, if_neg (by simp), if_neg (by simp [hlow, hhigh]), h, if_pos hjoin, hupd]

/-! ## The record of two stations -/

/-- The record of the quorum of two entries, the first of which opens the window (R127). -/
def State.pairRecord (s : State) (a b : Entry) : EventRec :=
  addPart (addPart { newRec s .holdoff none 0 a.onset s.now with
      holdoff := s.startTimer ((if a.own then 0 else 1) * millis s.cs.image.holdoffSlot) }
    { station := a.station, onset := a.onset, peak := a.peak }) { station := b.station, onset := b.onset, peak := b.peak }

/-- Two entries that make a quorum: both unbound, the first not later, within W_c of each other, of two stations, one the own (R126). -/
structure State.Paired (s : State) (a b : Entry) : Prop where
  events : s.cu.events = []
  entries : s.cu.entries = [a, b]
  unbound : a.bound = none ∧ b.bound = none
  order : a.onset ≤ b.onset ∧ b.onset ≤ a.onset + s.window
  stations : a.station ≠ b.station
  range : (1 ≤ a.station ∧ a.station ≤ 14) ∧ (1 ≤ b.station ∧ b.station ≤ 14)
  own : a.own = !b.own
  quorum : s.cs.image.quorum = 2
  sends : s.listenOnly = false

theorem State.Paired.windowOf (h : s.Paired a b) : s.windowOf a = [a, b] := by
  obtain ⟨ha, hb⟩ := h.unbound
  obtain ⟨hle, hgap⟩ := h.order
  unfold State.windowOf
  rw [h.entries]
  simp [ha, hb, hle, hgap]

theorem State.Paired.isQuorum (h : s.Paired a b) : s.isQuorum a = true := by
  have hskipped : s.skipped a = false := by
    unfold State.skipped
    rw [h.events]
    rfl
  have hown : [a, b].any (fun x => x.own) = true := by
    have := h.own
    cases hb : b.own <;> simp_all
  unfold State.isQuorum
  rw [hskipped, h.windowOf, hown, h.quorum]
  simp [h.stations]

theorem pairRecord_facts : (s.pairRecord a b).rid = s.cu.nextRid ∧ (s.pairRecord a b).state = .holdoff ∧
    (s.pairRecord a b).id = none ∧ (s.pairRecord a b).update = 0 ∧ (s.pairRecord a b).declOwed = false ∧
    (s.pairRecord a b).uplink = .none ∧ (s.pairRecord a b).opened = s.now ∧ (s.pairRecord a b).lastEnd = s.now ∧
    (s.pairRecord a b).holdoff = some { start := s.now, period := (if a.own then 0 else 1) * millis s.cs.image.holdoffSlot } ∧
    (a.onset ≤ b.onset → (s.pairRecord a b).earliest = a.onset) ∧
    ∀ p, p ∈ (s.pairRecord a b).parts ↔ p = { station := a.station, onset := a.onset, peak := a.peak } ∨
      p = { station := b.station, onset := b.onset, peak := b.peak } := by
  refine ⟨rfl, rfl, rfl, rfl, rfl, rfl, rfl, rfl, rfl, fun hle => ?_, fun p => ?_⟩
  · show min b.onset a.onset = a.onset
    exact Nat.min_eq_right hle
  · rw [State.pairRecord, mem_addPart, mem_addPart]
    show _ ∨ _ ∨ p ∈ ([] : List Part) ↔ _
    simp [or_comm]

/-- The state of a quorum of two, its record made and its entries bound, before its holdoff (R127). -/
def State.quorumMade (s : State) (a b : Entry) : State :=
  cuReportOpen (setEntries (s.cu.entries.map (fun x => if [a, b].contains x then { x with bound := some s.cu.nextRid } else x))
    ((bump .quorums s).setCu { s.cu with events := [s.pairRecord a b], nextRid := s.cu.nextRid + 1 }))

theorem State.Paired.evalQuorum (h : s.Paired a b) : Machine.evalQuorum s =
    if a.own then holdoffExpire (s.pairRecord a b).rid (s.quorumMade a b) else s.quorumMade a b := by
  obtain ⟨ha, hb⟩ := h.unbound
  have hfind : (s.cu.entries.filter (fun e => e.bound.isNone)).find? s.isQuorum = some a := by
    rw [h.entries]
    simp [ha, h.isQuorum]
  have hrank : [a, b].findIdx (fun x => x.own) = if a.own then 0 else 1 := by
    have := h.own
    cases ha : a.own <;> cases hb : b.own <;> simp_all [List.findIdx_cons]
  have hroom : makePlace none (bump .quorums s) = some (bump .quorums s) := by
    unfold makePlace
    rw [if_pos]
    show s.cu.events.length < 8
    rw [h.events]
    simp
  obtain ⟨r0, hr0⟩ : ∃ r, r = { newRec s .holdoff none 0 a.onset s.now with
      holdoff := s.startTimer ((if a.own then 0 else 1) * millis s.cs.image.holdoffSlot) } := ⟨_, rfl⟩
  obtain ⟨v0, hv0⟩ : ∃ v, v = (bump .quorums s).setCu { s.cu with events := [r0], nextRid := s.cu.nextRid + 1 } := ⟨_, rfl⟩
  have hinsert : insertRec r0 (bump .quorums s) = v0 := by
    have hevents : (bump .quorums s).cu.events = [] := h.events
    unfold insertRec
    rw [hevents, hv0]
    rfl
  have hwindow : v0.window = s.window := by rw [hv0]; rfl
  have hfirst : mergePart r0.rid a.station a.onset a.peak v0 = v0.setCu { v0.cu with
      events := [addPart r0 { station := a.station, onset := a.onset, peak := a.peak }] } :=
    mergePart_only (by rw [hv0]; rfl) h.range.1.1 h.range.1.2 (by rw [hr0]; exact fun p hp => absurd hp (by simp [newRec]))
  obtain ⟨v1, hv1⟩ : ∃ v, v = v0.setCu { v0.cu with
      events := [addPart r0 { station := a.station, onset := a.onset, peak := a.peak }] } := ⟨_, rfl⟩
  have hsecond : mergePart r0.rid b.station b.onset b.peak v1 = v1.setCu { v1.cu with events := [s.pairRecord a b] } := by
    have hmerge := mergePart_only (s := v1) (r := addPart r0 { station := a.station, onset := a.onset, peak := a.peak })
      (station := b.station) (peak := b.peak) (onset := b.onset) (by rw [hv1]; rfl) h.range.2.1 h.range.2.2 (by
        intro p hp
        rw [mem_addPart, hr0] at hp
        rcases hp with rfl | hp
        · refine ⟨h.stations, ?_⟩
          have hwindow1 : v1.window = s.window := by rw [hv1]; exact hwindow
          rw [hwindow1]
          unfold timeGap
          rw [if_pos h.order.1]
          have := h.order.2
          show b.onset - a.onset ≤ s.window
          exact Nat.sub_le_iff_le_add'.mpr this
        · exact absurd hp (by simp [newRec]))
    rw [hr0] at hmerge ⊢
    exact hmerge
  unfold Machine.evalQuorum
  rw [h.sends, if_neg (by simp), hfind]
  dsimp only
  rw [h.windowOf, hroom, hrank]
  dsimp only
  have hnew : ({ newRec (bump .quorums s) .holdoff none 0 a.onset (bump .quorums s).now with
      holdoff := (bump .quorums s).startTimer ((if a.own then 0 else 1) * millis (bump .quorums s).cs.image.holdoffSlot) } : EventRec) = r0 := by
    rw [hr0]
    rfl
  have hnewRid : (newRec (bump .quorums s) .holdoff none 0 a.onset (bump .quorums s).now).rid = r0.rid := by
    rw [hr0]
    rfl
  rw [hnew, hinsert, hnewRid]
  have hfold : [a, b].foldl (fun s x => mergePart r0.rid x.station x.onset x.peak s) v0 =
      v1.setCu { v1.cu with events := [s.pairRecord a b] } := by
    show mergePart r0.rid b.station b.onset b.peak (mergePart r0.rid a.station a.onset a.peak v0) = _
    rw [hfirst, ← hv1, hsecond]
  rw [hfold]
  have hmade : s.quorumMade a b = cuReportOpen (setEntries ((v1.setCu { v1.cu with events := [s.pairRecord a b] }).cu.entries.map
      (fun x => if [a, b].contains x then { x with bound := some r0.rid } else x))
      (v1.setCu { v1.cu with events := [s.pairRecord a b] })) := by
    rw [hv1, hv0, hr0]
    rfl
  have hrid : r0.rid = (s.pairRecord a b).rid := by rw [hr0]; rfl
  rw [← hmade, hrid]
  cases a.own <;> rfl

end

end Sys2Proof.Machine

/-! PROOFS. A TRIGGER NOTICE that makes a quorum with the own entry (O36). -/
namespace Sys2Proof.Machine
set_option Elab.async false

section
variable {s t u v w : State} {c : Counter} {x e a b : Entry} {hdr : Header} {n : Notice}

/-- A record whose last END is now is not closed yet (R136). -/
theorem closeTest_of_young {p : EventRec → Bool} (hdelay : 1 ≤ s.cs.image.closeDelay) (h : ∀ r ∈ s.cu.events, r.lastEnd = s.now) :
    closeTest p s = s := by
  unfold closeTest closeWhere
  rw [if_neg]
  simp only [Bool.not_eq_true, List.any_eq_false]
  intro r hr
  have hyoung : s.mayClose r = false := by
    unfold State.mayClose
    rw [h r hr, since_self]
    have hpos : ¬ secs s.cs.image.closeDelay ≤ 0 := by
      unfold secs tps
      omega
    simp [hpos]
  simp [hyoung]

theorem quorumMade_cu (h : s.Paired a b) : (s.quorumMade a b).cu = { s.cu with
    entries := sortBy entryLe [{ a with bound := some s.cu.nextRid }, { b with bound := some s.cu.nextRid }]
    events := [s.pairRecord a b], nextRid := s.cu.nextRid + 1 } := by
  have hmap : s.cu.entries.map (fun x => if [a, b].contains x then { x with bound := some s.cu.nextRid } else x) =
      [{ a with bound := some s.cu.nextRid }, { b with bound := some s.cu.nextRid }] := by
    rw [h.entries]
    simp
  unfold State.quorumMade
  rw [hmap]
  rfl

theorem quorumMade_count : (s.quorumMade a b).count c = if c = .quorums then min (s.count c + 1) 65535 else s.count c := by
  show (bump .quorums s).count c = _
  rw [count_bump]
  simp only [eq_comm]

theorem quorumMade_leaves : (s.quorumMade a b).td = s.td ∧ (s.quorumMade a b).tb = s.tb ∧ (s.quorumMade a b).cs = s.cs ∧
    (s.quorumMade a b).mc.standing = s.mc.standing := by
  refine ⟨?_, ?_, ?_, rfl⟩ <;> simp [State.quorumMade, cuReportOpen]

/-- A quorum whose first entry is the own one is declared at once (R127, R128), at a station without an uplink. -/
theorem State.Paired.declared (h : s.Paired a b) (hown : a.own = true) (hno : s.cs.image.uplink = false) :
    Machine.evalQuorum s = cuRequest ((s.quorumMade a b).declaring (s.pairRecord a b).rid) := by
  have hevents : (s.quorumMade a b).cu.events = [s.pairRecord a b] := by rw [quorumMade_cu h]
  rw [h.evalQuorum, if_pos hown, holdoffExpire_only hevents rfl, declareRec_eq]
  rw [ucNewEvent_of_no_uplink]
  obtain ⟨-, -, -, -, -, -, -, -, -, -, hcs, -⟩ :=
    rest_of_besideEvents (declaring_besideEvents (s := s.quorumMade a b) (rid := (s.pairRecord a b).rid))
  rw [hcs, quorumMade_leaves.2.2.1]
  exact hno

/-- The own entry and that of a notice, in table order (R114, R126). -/
theorem paired_of_notice {sender : Nat} (hevents : v.cu.events = []) (hentries : v.cu.entries = [e]) (hown : e.own = true)
    (hstation : e.station = v.ownId) (hbound : e.bound = none) (hgap : timeGap e.onset x.onset ≤ v.window) (hx : x.bound = none)
    (hxown : x.own = false) (hxstation : x.station = sender) (hid : 1 ≤ v.ownId ∧ v.ownId ≤ 14) (hsender : 1 ≤ sender ∧ sender ≤ 14)
    (hother : sender ≠ v.ownId) (hquorum : v.cs.image.quorum = 2) (hsends : v.listenOnly = false) :
    ((e.onset < x.onset ∨ (e.onset = x.onset ∧ v.ownId < sender)) →
      (setEntries ([e] ++ [x]) v).Paired e x) ∧
    (¬ (e.onset < x.onset ∨ (e.onset = x.onset ∧ v.ownId < sender)) →
      (setEntries ([e] ++ [x]) v).Paired x e) := by
  have hne : e.station ≠ x.station := by
    rw [hstation, hxstation]
    exact Ne.symm hother
  have hgaps : (e.onset ≤ x.onset → x.onset ≤ e.onset + v.window) ∧ (x.onset ≤ e.onset → e.onset ≤ x.onset + v.window) := by
    unfold timeGap at hgap
    split at hgap
    · next hle => exact ⟨fun _ => Nat.sub_le_iff_le_add'.mp hgap, fun _ => Nat.le_trans hle (Nat.le_add_right x.onset v.window)⟩
    · next hlt => exact ⟨fun h => absurd h hlt, fun _ => Nat.sub_le_iff_le_add'.mp hgap⟩
  have hsort : sortBy entryLe [e, x] = if entryLe e x then [e, x] else [x, e] := rfl
  have hle : entryLe e x = true ↔ e.onset < x.onset ∨ (e.onset = x.onset ∧ v.ownId ≤ sender) := by
    unfold entryLe
    rw [hstation, hxstation]
    simp
  refine ⟨fun hfirst => ?_, fun hlast => ?_⟩
  · have hentryLe : entryLe e x = true := hle.mpr (hfirst.imp id fun h => ⟨h.1, h.2.le⟩)
    have honset : e.onset ≤ x.onset := by
      rcases hfirst with h | h
      · exact Nat.le_of_lt h
      · exact Nat.le_of_eq h.1
    refine ⟨hevents, ?_, ⟨hbound, hx⟩, ⟨honset, hgaps.1 honset⟩, hne, ⟨by rw [hstation]; exact hid, by rw [hxstation]; exact hsender⟩,
      by rw [hown, hxown]; rfl, hquorum, hsends⟩
    rw [setEntries_cu]
    show sortBy entryLe [e, x] = _
    rw [hsort, if_pos hentryLe]
  · have hentryLe : ¬ entryLe e x = true := by
      rw [hle]
      rintro (h | ⟨h1, h2⟩)
      · exact hlast (.inl h)
      · exact hlast (.inr ⟨h1, lt_of_le_of_ne h2 (Ne.symm hother)⟩)
    have honset : x.onset ≤ e.onset := Nat.le_of_not_lt fun h => hlast (.inl h)
    refine ⟨hevents, ?_, ⟨hx, hbound⟩, ⟨honset, hgaps.2 honset⟩, Ne.symm hne, ⟨by rw [hxstation]; exact hsender, by rw [hstation]; exact hid⟩,
      by rw [hown, hxown]; rfl, hquorum, hsends⟩
    rw [setEntries_cu]
    show sortBy entryLe [e, x] = _
    rw [hsort, if_neg hentryLe]

/-- An accepted frame of a station comes from another station, 1 to 14 (R37, R38). -/
theorem judge_station {f : RxFrame} {kind : FrameKind} {body : Body} (h : s.judge f = .accepted kind body) (hk : kind ≠ .serviceRequest) :
    (1 ≤ f.hdr.sender ∧ f.hdr.sender ≤ 14) ∧ (s.listenOnly = false → f.hdr.sender ≠ s.ownId) := by
  have h15 := judge_sender h hk
  obtain ⟨-, hright, -⟩ := judge_accepted h
  rw [← Bool.not_eq_true, senderWrong_iff] at hright
  have hbound : f.hdr.sender < 16 := by
    unfold Header.sender
    omega
  refine ⟨by omega, fun hlisten hown => ?_⟩
  unfold State.judge at h
  split at h
  · cases h
  · split at h
    · cases h
    · next hnot => exact hnot (by simp [hlisten, hown])

theorem declaring_td {rid : Nat} : (s.declaring rid).td = s.td := by
  simp [State.declaring, cuReportOpen]

end

end Sys2Proof.Machine

section
open Sys2Proof Sys2Proof.Machine
set_option Elab.async false
variable {s : State} {stamp : RxStamp} {hdr : Header} {rest : List Byte} {n : Notice}

/-- The third part of O36. -/
theorem notice_makes_quorum {e : Entry} (h : s.Receives stamp hdr rest) (hset : s.Settled)
    (hj : s.judge { hdr := hdr, rest := rest } = .accepted .notice (.notice n))
    (hactive : s.mc.standing = .active) (hgood : s.bm.cls = .good) (hno : s.cs.image.uplink = false) (hcd : s.pins.lkCd = true)
    (hsends : s.listenOnly = false) (hid : s.ownId ≤ 14) (hdelay : 1 ≤ s.cs.image.closeDelay) (hquorum : s.cs.image.quorum = 2)
    (hevents : s.cu.events = []) (hentries : s.cu.entries = [e]) (hown : e.own = true) (hstation : e.station = s.ownId)
    (hbound : e.bound = none) (hgap : timeGap e.onset n.onset ≤ secs s.cs.image.wc)
    (hfresh : ¬ n.onset + secs s.cs.image.wc + secs 30 < s.tb.time) :
       ∃ t r, exec (.triggerNoticeReceived rest) s = .next t ∧ s.HearsNotice hdr n t ∧ t.td = s.td ∧ t.cu.events = [r] ∧
         t.count .quorums = min (s.count .quorums + 1) 65535 ∧ r.earliest = min e.onset n.onset ∧
         (∀ p, p ∈ r.parts ↔ p = { station := hdr.sender, onset := n.onset, peak := n.peak } ∨
           p = { station := s.ownId, onset := e.onset, peak := e.peak }) ∧
         r.update = 0 ∧ r.uplink = .none ∧ r.opened = s.now ∧ r.lastEnd = s.now ∧
         (let first : Prop := e.onset < n.onset ∨ (e.onset = n.onset ∧ s.ownId < hdr.sender)
          (first → r.state = .declared ∧ r.id = some { origin := s.ownId, seq := s.cu.ownEventSeq } ∧ r.declOwed = true ∧
            r.holdoff = none ∧ t.cu.ownEventSeq = (s.cu.ownEventSeq + 1) % 256 ∧ t.lc.slots.declaration.isSome ∧
            t.count .declarations = min (s.count .declarations + 1) 65535 ∧
            (∀ y, y ∈ t.cu.entries ↔ y = { noticeEntry hdr.sender n with bound := some r.rid, confirmed := true } ∨
              y = { e with bound := some r.rid, confirmed := true })) ∧
          (¬ first → r.state = .holdoff ∧ r.id = none ∧ r.declOwed = false ∧
            r.holdoff = some { start := s.now, period := millis s.cs.image.holdoffSlot } ∧
            t.cu.ownEventSeq = s.cu.ownEventSeq ∧ t.count .declarations = s.count .declarations ∧
            (∀ y, y ∈ t.cu.entries ↔ y = { noticeEntry hdr.sender n with bound := some r.rid } ∨
              y = { e with bound := some r.rid }))) := by
  obtain ⟨hpins, htb, -, -, htd, hcu, -, hbm, -, hmc, hcs, -⟩ :=
    noticed_leaves (s := s) (hdr := hdr) (rest := rest) (stamp := stamp) (n := n)
  have hvcount (c : Counter) (hc : c ≠ .framesAccepted) : (s.noticed hdr rest stamp n).count c = s.count c :=
    noticed_count.trans (if_neg hc)
  have hvset := noticed_settled (hdr := hdr) (rest := rest) (stamp := stamp) (n := n) hset
  have hexec := exec_triggerNoticeReceived h hj
  have hhears (w : State) (hw : w.besideEvents = (s.noticed hdr rest stamp n).besideEvents) (hf : w.Firm) := hearsNotice_of_firm hw hf
  generalize s.noticed hdr rest stamp n = v at *
  obtain ⟨x, hx⟩ : ∃ x, x = noticeEntry hdr.sender n := ⟨_, rfl⟩
  have hsteady : v.Steady := ⟨hvset, by rw [hmc]; exact hactive, by rw [hbm]; exact hgood⟩
  have hvid : v.ownId = s.ownId := congrArg (fun y => y.stationId) hcs
  have hvsends : v.listenOnly = false := by
    unfold State.listenOnly at *
    rwa [hvid]
  have hvnow : v.now = s.now := congrArg Timebase.elapsed htb
  obtain ⟨hrange, hother⟩ := judge_station hj (by simp)
  dsimp only at hrange hother
  have hidpos : 1 ≤ s.ownId := by
    have h0 : s.ownId ≠ 0 := fun h0 => by simp [State.listenOnly, h0] at hsends
    omega
  have hxonset : x.onset = n.onset := by rw [hx]; rfl
  obtain ⟨hfirst, hlast⟩ := paired_of_notice (v := v) (e := e) (x := x) (sender := hdr.sender) (by rw [hcu]; exact hevents)
    (by rw [hcu]; exact hentries) hown (by rw [hvid]; exact hstation) hbound
    (by unfold State.window; rw [hxonset, hcs]; exact hgap) (by rw [hx]; rfl) (by rw [hx]; rfl) (by rw [hx]; rfl)
    (by rw [hvid]; exact ⟨hidpos, hid⟩) hrange (by rw [hvid]; exact hother hsends) (by rw [hcs]; exact hquorum) hvsends
  rw [hvid, hxonset] at hfirst hlast
  have hadmit : admitOnset x v = cuRequest (Machine.evalQuorum (setEntries ([e] ++ [x]) v)) := by
    have hnew : v.tooOld x.onset = false := by
      rw [← Bool.not_eq_true, tooOld_iff, hxonset, htb, hcs]
      exact hfresh
    have hmerge : v.mergeTarget x.station x.onset = none := by
      rw [mergeTarget_eq_none, hcu, hentries]
      rintro ⟨y, hy, hst, -⟩
      rw [List.mem_singleton.mp hy, hstation, hx] at hst
      exact hother hsends hst.symm
    rw [admitOnset_of_new hnew hmerge, placeEntry_of_room (by rw [hcu]; exact hevents) (by rw [hcu, hentries]; simp), hcu, hentries]
  obtain ⟨u, hu⟩ : ∃ u, u = setEntries ([e] ++ [x]) v := ⟨_, rfl⟩
  rw [← hu] at hadmit hfirst hlast
  have hubeside : u.besideEvents = v.besideEvents := by rw [hu, setEntries_besideEvents]
  have hucs : u.cs = v.cs := by rw [hu]; rfl
  have hunow : u.now = s.now := by rw [hu]; exact hvnow
  have huid : u.ownId = s.ownId := by rw [hu]; exact hvid
  have huseq : u.cu.ownEventSeq = s.cu.ownEventSeq := by rw [hu, setEntries_cu, hcu]
  have hutd : u.td = v.td := by rw [hu]; rfl
  have hucount (c : Counter) (hc : c ≠ .framesAccepted) : u.count c = s.count c := by
    rw [← hvcount c hc, hu]
    rfl
  have huno : u.cs.image.uplink = false := by rw [hucs, hcs]; exact hno
  rw [cuNotice_eq, ← hx, hadmit] at hexec
  -- the end of the step, whatever the quorum makes
  have hend (z : State) (hz : Machine.evalQuorum u = z) (hzevents : ∀ r ∈ z.cu.events, r.lastEnd = s.now) :
      ∃ t, exec (.triggerNoticeReceived rest) s = .next t ∧ s.HearsNotice hdr n t ∧ t.td = z.td ∧ t.cu = z.cu ∧
        (∀ c : Counter, c ≠ .musterBeacons → c ≠ .busRecoveries → t.count c = z.count c) ∧
        (z.cu.events.any EventRec.owes = true → t.lc.slots.declaration.isSome = true) := by
    have hwbeside : (cuRequest z).besideEvents = v.besideEvents := by
      rw [cuRequest_besideEvents, ← hz, evalQuorum_besideEvents, hubeside]
    obtain ⟨-, hwpins, hwtb, -, -, -, -, -, -, -, hwcs, -⟩ := rest_of_besideEvents hwbeside
    have hwnow : (cuRequest z).now = s.now := (congrArg Timebase.elapsed hwtb).trans hvnow
    have hyoung : closeTest (fun r => r.includes hdr.sender) (cuRequest z) = cuRequest z :=
      closeTest_of_young (by rw [hwcs, hcs]; exact hdelay) (by rw [cuRequest_cu, hwnow]; exact hzevents)
    rw [hz, hyoung] at hexec
    have hfirm := hsteady.firm_of_besideEvents hwbeside
    obtain ⟨hfcu, -, -, hftd, -⟩ := hsteady.finish_of_events hwbeside (by rw [hpins]; exact hcd) (.inr (by rw [hcs]; exact hno))
    refine ⟨_, hexec, hhears _ hwbeside hfirm, hftd.trans (by simp), hfcu.trans cuRequest_cu,
      fun c h1 h2 => (hfirm.count h1 h2).trans cuRequest_count, fun howes => ?_⟩
    rw [hfirm.slots_of_busy (by rw [hwpins, hpins]; exact hcd)]
    refine cuRequest_fills howes ?_
    rw [lcTakes_of_besideEvents ((cuRequest_besideEvents (s := z)).symm.trans hwbeside)]
    exact lcTakes_of_active hsteady.active hvsends
  by_cases hwho : e.onset < n.onset ∨ (e.onset = n.onset ∧ s.ownId < hdr.sender)
  · have hpair := hfirst hwho
    obtain ⟨hrid, -, -, hupdate, -, huplink, hopened, hlastEnd, -, hearliest, hparts⟩ := pairRecord_facts (s := u) (a := e) (b := x)
    have hle : e.onset ≤ x.onset := hpair.order.1
    have hWcu := quorumMade_cu hpair
    have hzcu := declaring_cu (s := u.quorumMade e x) (r := u.pairRecord e x) (by rw [hWcu])
    have hWid : (u.quorumMade e x).ownId = s.ownId := huid
    obtain ⟨t, ht, hh, httd, htcu, htcount, htslot⟩ := hend _ (hpair.declared hown huno) (by
      rw [cuRequest_cu, hzcu]
      intro r hr
      rw [List.mem_singleton.mp hr]
      exact hlastEnd.trans hunow)
    rw [cuRequest_cu, hzcu, hWcu] at htcu
    have hcount (c : Counter) (h1 : c ≠ .musterBeacons) (h2 : c ≠ .busRecoveries) :
        t.count c = ((u.quorumMade e x).declaring (u.pairRecord e x).rid).count c := (htcount c h1 h2).trans cuRequest_count
    refine ⟨t, (u.quorumMade e x).declares (u.pairRecord e x), ht, hh, ?_, ?_, ?_, ?_, ?_, hupdate, huplink, hopened.trans hunow,
      hlastEnd.trans hunow, fun _ => ⟨rfl, ?_, rfl, rfl, ?_, htslot ?_, ?_, fun y => ?_⟩, fun hnot => absurd hwho hnot⟩
    · rw [httd, show ∀ z : State, (cuRequest z).td = z.td from fun z => by simp, declaring_td, quorumMade_leaves.1, hutd, htd]
    · rw [htcu]
    · rw [hcount _ (by decide) (by decide), declaring_count_other (by decide), quorumMade_count, if_pos rfl, hucount _ (by decide)]
    · show (u.pairRecord e x).earliest = _
      rw [hearliest hle, ← hxonset]
      exact (Nat.min_eq_left hle).symm
    · intro p
      show p ∈ (u.pairRecord e x).parts ↔ _
      rw [hparts, hstation, hx]
      exact or_comm
    · show some (EventId.mk (u.quorumMade e x).ownId (u.quorumMade e x).cu.ownEventSeq) = _
      rw [hWid, hWcu]
      show some (EventId.mk _ u.cu.ownEventSeq) = _
      rw [huseq]
    · rw [htcu]
      show (u.cu.ownEventSeq + 1) % 256 = _
      rw [huseq]
    · rw [cuRequest_cu, hzcu]
      rfl
    · rw [hcount _ (by decide) (by decide), declaring_count, quorumMade_count, if_neg (by decide), hucount _ (by decide)]
    · rw [htcu, mem_sortBy, List.mem_map]
      show (∃ z, z ∈ sortBy entryLe _ ∧ _) ↔ y = { noticeEntry hdr.sender n with bound := some (u.pairRecord e x).rid, confirmed := true } ∨
        y = { e with bound := some (u.pairRecord e x).rid, confirmed := true }
      simp only [mem_sortBy, List.mem_cons, List.not_mem_nil, or_false, exists_eq_or_imp, exists_eq_left, hrid, ← hx]
      simp only [beq_self_eq_true, if_true, eq_comm (b := y)]
      exact or_comm
  · have hpair := hlast hwho
    obtain ⟨hrid, hstate, hidn, hupdate, howed, huplink, hopened, hlastEnd, hholdoff, hearliest, hparts⟩ :=
      pairRecord_facts (s := u) (a := x) (b := e)
    have hle : x.onset ≤ e.onset := hpair.order.1
    have hxown : x.own = false := by rw [hx]; rfl
    have hWcu := quorumMade_cu hpair
    obtain ⟨t, ht, hh, httd, htcu, htcount, -⟩ := hend (u.quorumMade x e) (by rw [hpair.evalQuorum, hxown]; rfl) (by
      rw [hWcu]
      intro r hr
      rw [List.mem_singleton.mp hr]
      exact hlastEnd.trans hunow)
    rw [hWcu] at htcu
    refine ⟨t, u.pairRecord x e, ht, hh, ?_, ?_, ?_, ?_, ?_, hupdate, huplink, hopened.trans hunow,
      hlastEnd.trans hunow, fun h => absurd h hwho, fun _ => ⟨hstate, hidn, howed, ?_, ?_, ?_, fun y => ?_⟩⟩
    · rw [httd, quorumMade_leaves.1, hutd, htd]
    · rw [htcu]
    · rw [htcount _ (by decide) (by decide), quorumMade_count, if_pos rfl, hucount _ (by decide)]
    · rw [hearliest hle, ← hxonset]
      exact (Nat.min_eq_right hle).symm
    · intro p
      rw [hparts, hstation, hx]
      rfl
    · rw [hholdoff, hxown, hunow, hucs, hcs]
      simp
    · rw [htcu]
      exact huseq
    · rw [htcount _ (by decide) (by decide), quorumMade_count, if_neg (by decide), hucount _ (by decide)]
    · rw [htcu, mem_sortBy, hrid, ← hx]
      simp

end

/-! PROOFS. An update report of the only event record (R142 to R146). -/
namespace Sys2Proof.Machine
set_option Elab.async false

section
variable {s t u v w : State} {c : Counter} {r : EventRec} {k : Nat}

/-- A report alert of a record. -/
def Alert.reportsOn (k : Nat) (a : Alert) : Bool := a.rid == some k && (a.kind == .event || a.kind == .update)

/-- A report alert of a record that waits. -/
def Alert.waitsOn (k : Nat) (a : Alert) : Bool := a.reportsOn k && (a.turn == .ready || a.turn == .retry)

/-- A report entry of a record on the stacked list. -/
def Stacked.reportsOn (k : Nat) (z : Stacked) : Bool := z.rid == k && (z.kind == .event || z.kind == .update)

/-- The kind of a record's update report (R142). -/
def EventRec.updateKind (r : EventRec) : AlertKind := if r.delivered then .update else .event

theorem isReport_eq (x : AlertKind) : x.isReport = (x == .event || x == .update) := by cases x <;> rfl

theorem inTransfer_eq (x : Turn) : x.inTransfer = !(x == .ready || x == .retry) := by cases x <;> rfl

theorem updateKind_isReport : r.updateKind.isReport = true := by
  unfold EventRec.updateKind
  split <;> rfl

theorem waitsOn_eq : (fun a : Alert => a.rid == some k && a.kind.isReport && !a.turn.inTransfer) = Alert.waitsOn k := by
  funext a
  unfold Alert.waitsOn Alert.reportsOn
  rw [isReport_eq, inTransfer_eq, Bool.not_not]

theorem stackedReportsOn_eq : (fun x : Stacked => x.rid == k && x.kind.isReport) = Stacked.reportsOn k := by
  funext z
  unfold Stacked.reportsOn
  rw [isReport_eq]

theorem reportInTransfer_eq {x : Uplink} :
    x.reportInTransfer k = x.queue.any (fun a => a.reportsOn k && !a.waitsOn k) := by
  unfold Uplink.reportInTransfer
  congr 1
  funext a
  unfold Alert.waitsOn
  rw [isReport_eq, inTransfer_eq]
  show (a.reportsOn k && !_) = _
  cases a.reportsOn k <;> simp

/-- What an update report does with the only record, which stands as updated (R142 to R146). -/
structure State.Updates (s : State) (r : EventRec) (t : State) : Prop where
  shape : ∃ x o, t.cu = { s.cu with events := [{ r with uplink := x, owedUplink := o }] }
  transfer : s.uc.queue.any (fun a => a.reportsOn r.rid && !a.waitsOn r.rid) = true → t = s
  folds : s.uc.queue.any (fun a => a.reportsOn r.rid && !a.waitsOn r.rid) = false → s.uc.queue.any (Alert.waitsOn r.rid) = true →
    t.uc = { s.uc with queue := s.uc.queue.map (fun a => if a.waitsOn r.rid then { a with update := r.update } else a) }
  piles : s.uc.queue.any (Alert.reportsOn r.rid) = false → s.uc.stacked.any (Stacked.reportsOn r.rid) = true →
    t.uc = s.uc ∧ t.cu = { s.cu with events := [{ r with owedUplink := some r.update }] }
  placed : s.uc.queue.any (Alert.reportsOn r.rid) = false → s.uc.stacked.any (Stacked.reportsOn r.rid) = false →
    (∀ a ∈ s.uc.queue, a.id ≠ r.id ∨ a.update ≠ r.update) → s.uc.queue.length ≤ 7 →
    t.uc = { s.uc with queue := placedAlert (s.freshAlert r.updateKind (some r.rid) r.id r.update) s.uc.queue } ∧
      (s.uc.Spares r.rid → t.cu = { s.cu with events := [{ r with uplink := .queued }] })
  stacked : s.uc.queue.any (Alert.reportsOn r.rid) = false → s.uc.stacked.any (Stacked.reportsOn r.rid) = false →
    (∀ a ∈ s.uc.queue, a.id ≠ r.id ∨ a.update ≠ r.update) → 8 ≤ s.uc.queue.length → (∀ a ∈ s.uc.queue, a.kind ≠ .health) →
    t.uc = { s.uc with stacked := s.uc.stacked ++ [{ kind := r.updateKind, rid := r.rid, retracts := none }] } ∧
      (∃ x, t.cu = { s.cu with events := [{ r with uplink := x, owedUplink := some r.update }] } ∧
        (s.uc.Spares r.rid → x = .stacked)) ∧
      t.count .stacks = min (s.count .stacks + 1) 65535

/-- Without a report alert of a record none of it waits, and none is in transfer. -/
theorem no_report_facts {q : List Alert} (h : q.any (Alert.reportsOn k) = false) :
    q.any (fun a => a.reportsOn k && !a.waitsOn k) = false ∧ q.any (Alert.waitsOn k) = false := by
  rw [List.any_eq_false] at h
  refine ⟨?_, ?_⟩ <;> rw [List.any_eq_false] <;> intro a ha
  · have := h a ha
    simp_all
  · unfold Alert.waitsOn
    have := h a ha
    simp_all

/-- An alert of the only record moves of the tables its uplink state. -/
theorem ucInsert_shape {kind : AlertKind} {id : Option EventId} {update : Nat} (h : s.cu.events = [r]) :
    ∃ x, (ucInsert kind (some r.rid) id update s).cu = { s.cu with events := [{ r with uplink := x }] } := by
  refine ⟨uplinkStateOf (ucInsert kind (some r.rid) id update s).uc r, ?_⟩
  rw [ucInsert_cu, h]
  rfl

/-- A stacked report of the only record. -/
theorem ucStack_only {kind : AlertKind} {id : Option EventId} (hkind : kind.isReport = true) (h : s.cu.events = [r])
    (hnone : s.uc.stacked.any (Stacked.reportsOn r.rid) = false) :
    (ucStack kind r.rid id r.update s).uc = { s.uc with stacked := s.uc.stacked ++ [{ kind := kind, rid := r.rid, retracts := none }] } ∧
    (∃ x, (ucStack kind r.rid id r.update s).cu = { s.cu with events := [{ r with uplink := x, owedUplink := some r.update }] } ∧
      (s.uc.Spares r.rid → x = .stacked)) ∧
    (ucStack kind r.rid id r.update s).count .stacks = min (s.count .stacks + 1) 65535 := by
  have hany : s.uc.stacked.any (fun x => x.rid == r.rid && x.kind.isReport == kind.isReport) = false := by
    rw [← hnone, ← stackedReportsOn_eq, hkind]
    congr 1
    funext z
    cases z.kind.isReport <;> rfl
  have hcu := updRec_only (s := setStacked (s.uc.stacked ++ [{ kind := kind, rid := r.rid, retracts := none }]) s)
    (f := fun r' => { r' with owedUplink := some r.update }) (by exact h)
  have hstack : ucStack kind r.rid id r.update s = bump .stacks (ucSync (updRec r.rid
      (fun r' => { r' with owedUplink := some r.update })
      (setStacked (s.uc.stacked ++ [{ kind := kind, rid := r.rid, retracts := none }]) s))) := by
    unfold ucStack
    rw [if_neg (by simp [hany])]
    simp only [hkind, if_true]
  rw [hstack]
  refine ⟨rfl, ⟨_, ?_, fun hspares => uplinkStateOf_of_stacked (r := { r with owedUplink := some r.update })
    (u := { s.uc with stacked := s.uc.stacked ++ [{ kind := kind, rid := r.rid, retracts := none }] }) (by exact hspares.1) (by simp)⟩, ?_⟩
  · show (ucSync _).cu = _
    rw [ucSync_cu, hcu]
    rfl
  · rw [count_bump, if_pos rfl]
    rfl

/-- The report of the only record: folded, owed, raised already, or placed (R144). -/
theorem ucRaiseReport_only {kind : AlertKind} (h : s.cu.events = [r]) :
    ucRaiseReport kind r.rid s = if s.uc.queue.any (Alert.waitsOn r.rid) = true then
        setQueue (s.uc.queue.map (fun a => if a.waitsOn r.rid then { a with update := r.update } else a)) s
      else if s.uc.stacked.any (Stacked.reportsOn r.rid) = true then updRec r.rid (fun r' => { r' with owedUplink := some r'.update }) s
      else if s.uc.holds kind r.id r.update = true then s else ucPlace kind r.rid r.id r.update s := by
  have hw (a : Alert) : (a.rid == some r.rid && a.kind.isReport && !a.turn.inTransfer) = a.waitsOn r.rid := congrFun waitsOn_eq a
  have hz (z : Stacked) : (z.rid == r.rid && z.kind.isReport) = z.reportsOn r.rid := congrFun stackedReportsOn_eq z
  unfold ucRaiseReport
  rw [rec?_only h]
  simp only [hw, hz]

/-- A report of the only record that is placed leaves it with another uplink state and perhaps an owed update at most. -/
theorem ucPlace_shape {kind : AlertKind} (hkind : kind.isReport = true) (h : s.cu.events = [r])
    (hnone : s.uc.stacked.any (Stacked.reportsOn r.rid) = false) (hdue : s.uc.healthDue = false) :
    ∃ x o, (ucPlace kind r.rid r.id r.update s).cu = { s.cu with events := [{ r with uplink := x, owedUplink := o }] } := by
  unfold ucPlace
  split
  · obtain ⟨x, hx⟩ := ucInsert_shape (kind := kind) (id := r.id) (update := r.update) h
    exact ⟨x, _, hx⟩
  · split
    · obtain ⟨x, hx⟩ := ucInsert_shape (s := ucEvictHealth s) (kind := kind) (id := r.id) (update := r.update) h
      have hleft : ucHealthLeft .health (ucInsert kind (some r.rid) r.id r.update (ucEvictHealth s)) =
          ucInsert kind (some r.rid) r.id r.update (ucEvictHealth s) := by
        unfold ucHealthLeft
        rw [ucInsert_uc]
        exact if_neg (by simp [ucEvictHealth, setQueue, hdue])
      rw [hleft]
      exact ⟨x, _, hx⟩
    · obtain ⟨x, hx, -⟩ := (ucStack_only (id := r.id) hkind h hnone).2.1
      exact ⟨x, _, hx⟩

/-- An update report of the only record (R142 to R146). -/
theorem ucUpdate_updates (h : s.cu.events = [r]) (huplink : s.cs.image.uplink = true) (hdue : s.uc.healthDue = false) :
    s.Updates r (ucUpdate r.rid s) := by
  have hkind : (if (s.rec? r.rid).any (fun r => r.delivered) then AlertKind.update else .event) = r.updateKind := by
    rw [rec?_only h]
    rfl
  have hself : s.cu = { s.cu with events := [{ r with uplink := r.uplink, owedUplink := r.owedUplink }] } := (events_only h).symm
  by_cases htransfer : s.uc.queue.any (fun a => a.reportsOn r.rid && !a.waitsOn r.rid) = true
  · have hupdate : ucUpdate r.rid s = s := by
      unfold ucUpdate
      rw [reportInTransfer_eq, htransfer, huplink]
      rfl
    rw [hupdate]
    refine ⟨⟨_, _, hself⟩, fun _ => rfl, fun hno => absurd htransfer (by simp [hno]), fun hno => ?_, fun hno => ?_, fun hno => ?_⟩
    all_goals exact absurd htransfer (by simp [(no_report_facts hno).1])
  have hnone : s.uc.queue.any (fun a => a.reportsOn r.rid && !a.waitsOn r.rid) = false := by simpa using htransfer
  have hraise : ucUpdate r.rid s = ucRaiseReport r.updateKind r.rid s := by
    unfold ucUpdate
    rw [reportInTransfer_eq, hnone, huplink, hkind]
    rfl
  rw [hraise]
  rw [ucRaiseReport_only h]
  by_cases hwaits : s.uc.queue.any (Alert.waitsOn r.rid) = true
  · rw [if_pos hwaits]
    refine ⟨⟨_, _, hself⟩, fun hno => absurd hno htransfer, fun _ _ => rfl, fun hno => ?_, fun hno => ?_, fun hno => ?_⟩
    all_goals exact absurd hwaits (by simp [(no_report_facts hno).2])
  rw [if_neg hwaits]
  by_cases hpiled : s.uc.stacked.any (Stacked.reportsOn r.rid) = true
  · rw [if_pos hpiled]
    have hcu := updRec_only (s := s) (f := fun r' => { r' with owedUplink := some r'.update }) h
    exact ⟨⟨_, _, hcu⟩, fun hno => absurd hno htransfer, fun _ hw => absurd hw hwaits, fun _ _ => ⟨rfl, hcu⟩,
      fun _ hno => absurd hpiled (by simp [hno]), fun _ hno => absurd hpiled (by simp [hno])⟩
  rw [if_neg hpiled]
  by_cases hholds : s.uc.holds r.updateKind r.id r.update = true
  · rw [if_pos hholds]
    have hheld (hid : ∀ a ∈ s.uc.queue, a.id ≠ r.id ∨ a.update ≠ r.update) : False := by
      obtain ⟨a, ha, hsame⟩ := List.any_eq_true.mp hholds
      simp only [Bool.and_eq_true, beq_iff_eq] at hsame
      rcases hid a ha with hne | hne
      · exact hne hsame.1.2
      · exact hne hsame.2
    exact ⟨⟨_, _, hself⟩, fun hno => absurd hno htransfer, fun _ hw => absurd hw hwaits, fun _ hp => absurd hp hpiled,
      fun _ _ hid => (hheld hid).elim, fun _ _ hid => (hheld hid).elim⟩
  rw [if_neg hholds]
  have hnostack : s.uc.stacked.any (Stacked.reportsOn r.rid) = false := by simpa using hpiled
  refine ⟨ucPlace_shape updateKind_isReport h hnostack hdue, fun hno => absurd hno htransfer, fun _ hw => absurd hw hwaits,
    fun _ hp => absurd hp hpiled, fun _ _ _ hlen => ?_, fun _ _ _ hlen hno => ?_⟩
  · have hplace : ucPlace r.updateKind r.rid r.id r.update s = ucInsert r.updateKind (some r.rid) r.id r.update s :=
      if_pos (by omega)
    rw [hplace]
    exact ⟨ucInsert_uc, fun hspares => ucInsert_only h hspares.1⟩
  · have hplace : ucPlace r.updateKind r.rid r.id r.update s = ucStack r.updateKind r.rid r.id r.update s := by
      have hnot : s.uc.queue.any (fun a => a.kind == .health && !a.turn.inTransfer) = false := by
        rw [List.any_eq_false]
        exact fun a ha => by simp [hno a ha]
      unfold ucPlace
      rw [if_neg (by omega), hnot]
      rfl
    rw [hplace]
    exact ucStack_only updateKind_isReport h hnostack

end

end Sys2Proof.Machine

/-! PROOFS. A TRIGGER NOTICE that joins the only record (O36). -/
namespace Sys2Proof.Machine
set_option Elab.async false

section
variable {s t u v w : State} {c : Counter} {x : Entry} {r : EventRec} {hdr : Header} {rest : List Byte} {stamp : RxStamp} {n : Notice}

/-- A record one of whose stations stands ON or in HOLD is not closed (R136). -/
theorem closeTest_of_standing {station : Nat} (hother : station ≠ s.ownId) (hstands : s.standsOff station = false) :
    closeTest (fun r => r.includes station) s = s := by
  unfold closeTest closeWhere
  rw [if_neg]
  simp only [Bool.not_eq_true, List.any_eq_false, Bool.and_eq_false_imp]
  intro r _ hincludes
  rw [← Bool.not_eq_true]
  intro hclose
  obtain ⟨p, hp, hstation⟩ := List.any_eq_true.mp hincludes
  rw [beq_iff_eq] at hstation
  simp only [State.mayClose, Bool.and_eq_true, List.all_eq_true] at hclose
  have hoff := hclose.1.2 p hp
  rw [hstation, if_neg (by simpa using hother), hstands] at hoff
  cases hoff

/-- The step of an accepted ONSET notice: the sender stands ON, so that its records stay open (R117, R136). -/
theorem notice_admitted (h : s.Receives stamp hdr rest) (hj : s.judge { hdr := hdr, rest := rest } = .accepted .notice (.notice n))
    (hkind : n.kind = .onset) (hsends : s.listenOnly = false) : exec (.triggerNoticeReceived rest) s =
      .next (finish (admitOnset (noticeEntry hdr.sender n) (s.noticed hdr rest stamp n))) := by
  have hexec := exec_triggerNoticeReceived h hj
  obtain ⟨-, hother⟩ := judge_station hj (by simp)
  dsimp only at hother
  obtain ⟨p, hpeer, htrig, -⟩ := noticed_peer (s := s) (hdr := hdr) (rest := rest) (stamp := stamp) (n := n)
  obtain ⟨-, -, -, -, -, -, -, -, -, -, hcs, -⟩ :=
    noticed_leaves (s := s) (hdr := hdr) (rest := rest) (stamp := stamp) (n := n)
  generalize s.noticed hdr rest stamp n = v at *
  obtain ⟨w, hw⟩ : ∃ w, w = admitOnset (noticeEntry hdr.sender n) v := ⟨_, rfl⟩
  have hbeside : w.besideEvents = v.besideEvents := by rw [hw, admitOnset_besideEvents]
  obtain ⟨-, -, -, -, hpeers, -, -, -, -, -, hwcs, -⟩ := rest_of_besideEvents hbeside
  rw [cuNotice_eq, ← hw] at hexec
  rw [← hw]
  have hid : w.ownId = s.ownId := congrArg (fun y => y.stationId) (hwcs.trans hcs)
  have hstands : w.standsOff hdr.sender = false := by
    unfold State.standsOff
    rw [peer_of_peers_eq hpeers, hpeer]
    simp [htrig, hkind]
  rwa [closeTest_of_standing (by rw [hid]; exact hother hsends) hstands] at hexec

/-- An arrival that fits the only record as a late participant, the table being empty (R115, R135). -/
theorem admitOnset_joins (hevents : s.cu.events = [r]) (hentries : s.cu.entries = []) (hopen : r.state.open = true)
    (hnew : s.tooOld x.onset = false) (hown : x.own = false) (hlow : 1 ≤ x.station) (hhigh : x.station ≤ 14)
    (hparts : ∀ p ∈ r.parts, p.station ≠ x.station ∧ timeGap p.onset x.onset ≤ s.window) :
    admitOnset x s = cuRequest (joinRecord r .join x (setEntries [x.bindTo r] s)) := by
  have hfit : fitOf s r x = .join := by
    have hnot : r.parts.any (fun p => p.station == x.station) = false := by
      rw [List.any_eq_false]
      exact fun p hp => by simp [(hparts p hp).1]
    unfold fitOf
    rw [hnot, hown, hevents, canJoin_alone hlow hhigh hparts]
    rfl
  have hfirst : firstFit s (fun _ => true) x = some (r, .join) := by
    rw [firstFit_only hevents, hfit, if_pos ⟨by simp [hopen], by simp⟩]
  rw [admitOnset_of_new hnew (mergeTarget_eq_none.mpr (by simp [hentries]))]
  unfold placeEntry
  rw [placeFor_of_room (by simp [hentries]), hfirst, hentries]
  rfl

theorem earliest_foldl_le {ps : List Part} {m : StationTime} :
    ps.foldl (fun (m : StationTime) (q : Part) => min m q.onset) m ≤ m ∧
    ∀ p ∈ ps, ps.foldl (fun (m : StationTime) (q : Part) => min m q.onset) m ≤ p.onset := by
  induction ps generalizing m with
  | nil => exact ⟨Nat.le_refl m, by simp⟩
  | cons p ps ih =>
    obtain ⟨hm, hps⟩ := ih (m := min m p.onset)
    rw [List.foldl_cons]
    refine ⟨Nat.le_trans hm (Nat.min_le_left _ _), fun q hq => ?_⟩
    rcases List.mem_cons.mp hq with rfl | hq
    · exact Nat.le_trans hm (Nat.min_le_right _ _)
    · exact hps q hq

/-- A record's earliest onset behind a merge is that of no later participant (R123). -/
theorem addPart_earliest_le {p q : Part} (hq : q ∈ (addPart r p).parts) : (addPart r p).earliest ≤ q.onset := by
  obtain ⟨hinit, hall⟩ := earliest_foldl_le (ps := r.parts) (m := p.onset)
  rcases mem_addPart.mp hq with rfl | hq
  · exact hinit
  · exact hall q hq

end

end Sys2Proof.Machine

section
open Sys2Proof Sys2Proof.Machine
set_option Elab.async false
variable {s : State} {stamp : RxStamp} {hdr : Header} {rest : List Byte} {n : Notice}

/-- The fourth part of O36. -/
theorem notice_joins {r : EventRec} (h : s.Receives stamp hdr rest) (hset : s.Settled)
    (hj : s.judge { hdr := hdr, rest := rest } = .accepted .notice (.notice n)) (hno : s.cs.image.uplink = false)
    (hcd : s.pins.lkCd = true) (hawake : s.awake = true) (hsends : s.listenOnly = false) (hkind : n.kind = .onset)
    (hfresh : ¬ n.onset + secs s.cs.image.wc + secs 30 < s.tb.time) (hentries : s.cu.entries = []) (hevents : s.cu.events = [r])
    (hopen : r.state.open = true) (hparts : ∀ p ∈ r.parts, p.station ≠ hdr.sender ∧ timeGap p.onset n.onset ≤ secs s.cs.image.wc) :
    ∃ t r', exec (.triggerNoticeReceived rest) s = .next t ∧ s.HearsNotice hdr n t ∧ t.td = s.td ∧ t.cu.events = [r'] ∧
      t.cu.entries = [{ noticeEntry hdr.sender n with bound := some r.rid, confirmed := r.state.live }] ∧
      (∀ p, p ∈ r'.parts ↔ p ∈ r.parts ∨ p = { station := hdr.sender, onset := n.onset, peak := n.peak }) ∧
      (∀ p ∈ r'.parts, r'.earliest ≤ p.onset) ∧ r'.rid = r.rid ∧ r'.state = r.state ∧ r'.id = r.id ∧
      (r.state ≠ .declared → r'.update = r.update ∧ r'.declOwed = r.declOwed) ∧
      (r.state = .declared →
        (r.declOwed = true → r.carried = none → r'.update = r.update ∧ r'.declOwed = true) ∧
        (r.declOwed = false ∨ r.carried.isSome →
          (r.update < 3 → r'.update = r.update + 1 ∧ r'.declOwed = true) ∧
          (3 ≤ r.update → r'.update = r.update ∧ r'.declOwed = r.declOwed)) ∧
        (r'.declOwed = true → t.lc.slots.declaration.isSome)) := by
  obtain ⟨hpins, htb, -, -, htd, hcu, -, hbm, -, hmc, hcs, -⟩ :=
    noticed_leaves (s := s) (hdr := hdr) (rest := rest) (stamp := stamp) (n := n)
  have hvset := noticed_settled (hdr := hdr) (rest := rest) (stamp := stamp) (n := n) hset
  have hexec := notice_admitted h hj hkind hsends
  have hhears (w : State) (hw : w.besideEvents = (s.noticed hdr rest stamp n).besideEvents) (hf : w.Firm) := hearsNotice_of_firm hw hf
  generalize s.noticed hdr rest stamp n = v at *
  obtain ⟨hrange, -⟩ := judge_station hj (by simp)
  dsimp only at hrange
  have hadmit := admitOnset_joins (s := v) (x := noticeEntry hdr.sender n) (r := r) (by rw [hcu]; exact hevents)
    (by rw [hcu]; exact hentries) hopen
    (by rw [← Bool.not_eq_true, tooOld_iff, htb, hcs]; exact hfresh) rfl hrange.1 hrange.2
    (by unfold State.window; rw [hcs]; exact hparts)
  obtain ⟨u, hu⟩ : ∃ u, u = setEntries [(noticeEntry hdr.sender n).bindTo r] v := ⟨_, rfl⟩
  rw [← hu] at hadmit
  have hucu : u.cu = { s.cu with entries := [(noticeEntry hdr.sender n).bindTo r] } := by
    rw [hu, setEntries_cu, hcu]
    rfl
  rw [joinRecord_only (by rw [hucu]; exact hevents) (by rw [hu]; exact (congrArg (fun x => x.image.uplink) hcs).trans hno)] at hadmit
  obtain ⟨z, hz⟩ : ∃ z, z = addPart r { station := hdr.sender, onset := n.onset, peak := n.peak } := ⟨_, rfl⟩
  obtain ⟨w, hw⟩ : ∃ w, w = u.setCu { u.cu with events := [z.owed] } := ⟨_, rfl⟩
  have hwadmit : admitOnset (noticeEntry hdr.sender n) v = cuRequest w := by rw [hadmit, hw, hz]; rfl
  have hbeside : (cuRequest w).besideEvents = v.besideEvents := by rw [← hwadmit, admitOnset_besideEvents]
  rw [hwadmit] at hexec
  have hwmc : (cuRequest w).mc = s.mc := by
    rw [← hmc]
    rw [hw, hu, show ∀ z : State, (cuRequest z).mc = z.mc from fun z => by simp]
    rfl
  have hfirm : (cuRequest w).Firm := .inl (by unfold State.Settled at *; rwa [hwmc])
  obtain ⟨-, hwpins, -, -, -, -, -, -, -, -, hwcs, -⟩ := rest_of_besideEvents hbeside
  have hfcu := hfirm.cu (by rw [hwpins, hpins]; exact hcd) (.inr (by rw [hwcs, hcs]; exact hno))
  have hwcu : w.cu = { u.cu with events := [z.owed] } := by rw [hw]; rfl
  rw [cuRequest_cu, hwcu, hucu] at hfcu
  have hzfields : z.rid = r.rid ∧ z.state = r.state ∧ z.id = r.id ∧ z.update = r.update ∧ z.declOwed = r.declOwed ∧
      z.carried = r.carried := by rw [hz]; exact ⟨rfl, rfl, rfl, rfl, rfl, rfl⟩
  obtain ⟨hzrid, hzstate, hzid, hzupdate, hzowed, hzcarried⟩ := hzfields
  obtain ⟨horid, hostate, hoid, hoparts, hoearliest, -⟩ := z.owed_facts
  have hslot (howes : r.state = .declared) (ho : z.owed.declOwed = true) : (finish (cuRequest w)).lc.slots.declaration.isSome = true := by
    rw [hfirm.slots_of_busy (by rw [hwpins, hpins]; exact hcd)]
    refine cuRequest_fills ?_ ?_
    · rw [hw]
      simp [EventRec.owes, ho, hostate, hzstate, howes]
    · rw [lcTakes_of_besideEvents ((cuRequest_besideEvents (s := w)).symm.trans hbeside)]
      have hid : v.ownId = s.ownId := congrArg (fun y => y.stationId) hcs
      unfold State.lcTakes State.awake State.listenOnly at *
      rw [hmc, hid, hawake, hsends]
      rfl
  obtain ⟨-, -, -, -, -, -, -, hftd, -⟩ := hfirm.leaves
  refine ⟨_, z.owed, hexec, hhears _ hbeside hfirm, hftd.trans (by simp [hw, hu, htd]), by rw [hfcu], ?_, ?_, ?_,
    horid.trans hzrid, hostate.trans hzstate, hoid.trans hzid, fun hnot => ?_, fun hdeclared => ⟨fun howed hcarried => ?_,
      fun hmay => ⟨fun hlt => ?_, fun hge => ?_⟩, hslot hdeclared⟩⟩
  · rw [hfcu]
    show [(noticeEntry hdr.sender n).bindTo r] = _
    simp [Entry.bindTo, noticeEntry]
  · intro p
    rw [hoparts, hz, mem_addPart]
    exact or_comm
  · intro p hp
    rw [hoparts, hz] at hp
    rw [hoearliest, hz]
    exact addPart_earliest_le hp
  · rw [EventRec.owed, if_neg (by simp [EventRec.mayOwe, hzstate, hnot])]
    exact ⟨hzupdate, hzowed⟩
  · rw [EventRec.owed, if_neg (by simp [EventRec.mayOwe, hzowed, hzcarried, howed, hcarried])]
    exact ⟨hzupdate, hzowed.trans howed⟩
  · have hmayOwe : z.mayOwe = true := by
      unfold EventRec.mayOwe
      rw [hzstate, hzowed, hzcarried, hzupdate, hdeclared]
      rcases hmay with hmay | hmay
      · simp [hmay, hlt]
      · obtain ⟨k, hk⟩ := Option.isSome_iff_exists.mp hmay
        simp [hk, hlt]
    rw [EventRec.owed, if_pos hmayOwe]
    exact ⟨congrArg (· + 1) hzupdate, rfl⟩
  · rw [EventRec.owed, if_neg (by simp [EventRec.mayOwe, hzupdate]; omega)]
    exact ⟨hzupdate, hzowed⟩

end

/-! PROOFS. A TRIGGER NOTICE whose update reaches the uplink queue, and the whole of O36. -/
namespace Sys2Proof.Machine
set_option Elab.async false

section
variable {s t u v w : State} {r : EventRec} {e : Entry}

/-- A late participant whose record then owes an update (R135). -/
theorem joinRecord_owing (h : s.cu.events = [r])
    (hmay : (addPart r { station := e.station, onset := e.onset, peak := e.peak }).mayOwe = true) :
    joinRecord r .join e s = ucUpdate r.rid (s.setCu { s.cu with
      events := [(addPart r { station := e.station, onset := e.onset, peak := e.peak }).owed] }) := by
  generalize hr : addPart r { station := e.station, onset := e.onset, peak := e.peak } = r' at *
  have hrid : r'.rid = r.rid := by rw [← hr]; rfl
  have hupd : updRec r.rid (fun x => addPart x { station := e.station, onset := e.onset, peak := e.peak }) s =
      s.setCu { s.cu with events := [r'] } := by
    show s.setCu _ = s.setCu _
    simp [h, sortBy, insertBy, hr]
  show oweUpdate r.rid (updRec r.rid _ s) = _
  rw [hupd, ← hrid, oweUpdate_only (r := r') rfl, if_pos hmay]
  rfl

/-- The place of an update report: behind the EVENTs, or behind all but the HEALTH alert (R143). -/
theorem placedAlert_report {a : Alert} (ha : a.kind = r.updateKind) (q : List Alert) :
    placedAlert a q = q.takeWhile (fun b => if r.delivered then b.kind != .health else b.kind == .event) ++ [a] ++
      q.dropWhile (fun b => if r.delivered then b.kind != .health else b.kind == .event) := by
  have hprio : (fun b : Alert => decide (b.kind.priority ≤ r.updateKind.priority)) =
      fun a => if r.delivered then a.kind != .health else a.kind == .event := by
    funext b
    unfold EventRec.updateKind
    cases r.delivered <;> cases b.kind <;> rfl
  unfold placedAlert
  rw [ha, hprio]

theorem cuRequest_mc : (cuRequest s).mc = s.mc := by simp

end

end Sys2Proof.Machine

section
open Sys2Proof Sys2Proof.Machine
set_option Elab.async false
variable {s : State} {stamp : RxStamp} {hdr : Header} {rest : List Byte} {n : Notice}

/-- The fifth part of O36. -/
theorem notice_updates {r : EventRec} (h : s.Receives stamp hdr rest) (hset : s.Settled)
    (hj : s.judge { hdr := hdr, rest := rest } = .accepted .notice (.notice n))
    (hactive : s.mc.standing = .active) (hgood : s.bm.cls = .good) (huplink : s.cs.image.uplink = true)
    (hcd : s.pins.lkCd = true) (hrdy : s.pins.upRdy = false) (hsends : s.listenOnly = false) (hdue : s.uc.healthDue = false)
    (hkind : n.kind = .onset) (hfresh : ¬ n.onset + secs s.cs.image.wc + secs 30 < s.tb.time) (hentries : s.cu.entries = [])
    (hevents : s.cu.events = [r]) (hstate : r.state = .declared) (hmay : r.declOwed = false ∨ r.carried.isSome) (hlt : r.update ≤ 2)
    (hparts : ∀ p ∈ r.parts, p.station ≠ hdr.sender ∧ timeGap p.onset n.onset ≤ secs s.cs.image.wc) :
    ∃ t r1 r', exec (.triggerNoticeReceived rest) s = .next t ∧ s.HearsNotice hdr n t ∧ t.td = s.td ∧ t.cu.events = [r'] ∧
      r1.rid = r.rid ∧ r1.id = r.id ∧ r1.update = r.update + 1 ∧ r1.delivered = r.delivered ∧ r1.owedUplink = r.owedUplink ∧
      r'.rid = r.rid ∧ r'.update = r.update + 1 ∧ r'.declOwed = true ∧ t.lc.slots.declaration.isSome ∧
      ∃ y z : State, y.Updates r1 z ∧ y.uc = s.uc ∧ y.now = s.now ∧ y.count .stacks = s.count .stacks ∧
        (∃ m x, t.uc = { z.uc with modem := m, modemTimer := x }) ∧ y.cu.events = [r1] ∧ z.cu.events = [r'] ∧
        t.count .stacks = z.count .stacks := by
  obtain ⟨hpins, htb, -, -, htd, hcu, huc, hbm, -, hmc, hcs, -⟩ :=
    noticed_leaves (s := s) (hdr := hdr) (rest := rest) (stamp := stamp) (n := n)
  have hvset := noticed_settled (hdr := hdr) (rest := rest) (stamp := stamp) (n := n) hset
  have hvcount : (s.noticed hdr rest stamp n).count .stacks = s.count .stacks := noticed_count.trans (if_neg (by decide))
  have hexec := notice_admitted h hj hkind hsends
  have hhears (w : State) (hw : w.besideEvents = (s.noticed hdr rest stamp n).besideEvents) (hf : w.Firm) := hearsNotice_of_firm hw hf
  generalize s.noticed hdr rest stamp n = v at *
  have hsteady : v.Steady := ⟨hvset, by rw [hmc]; exact hactive, by rw [hbm]; exact hgood⟩
  obtain ⟨hrange, -⟩ := judge_station hj (by simp)
  dsimp only at hrange
  have hadmit := admitOnset_joins (s := v) (x := noticeEntry hdr.sender n) (r := r) (by rw [hcu]; exact hevents)
    (by rw [hcu]; exact hentries) (by rw [hstate]; rfl)
    (by rw [← Bool.not_eq_true, tooOld_iff, htb, hcs]; exact hfresh) rfl hrange.1 hrange.2
    (by unfold State.window; rw [hcs]; exact hparts)
  obtain ⟨u, hu⟩ : ∃ u, u = setEntries [(noticeEntry hdr.sender n).bindTo r] v := ⟨_, rfl⟩
  rw [← hu] at hadmit
  have hucu : u.cu = { s.cu with entries := [(noticeEntry hdr.sender n).bindTo r] } := by
    rw [hu, setEntries_cu, hcu]
    rfl
  obtain ⟨p, hp⟩ : ∃ p, p = addPart r { station := hdr.sender, onset := n.onset, peak := n.peak } := ⟨_, rfl⟩
  have hpfields : p.rid = r.rid ∧ p.state = r.state ∧ p.id = r.id ∧ p.update = r.update ∧ p.declOwed = r.declOwed ∧
      p.carried = r.carried ∧ p.delivered = r.delivered ∧ p.owedUplink = r.owedUplink := by
    rw [hp]
    exact ⟨rfl, rfl, rfl, rfl, rfl, rfl, rfl, rfl⟩
  obtain ⟨hprid, hpstate, hpid, hpupdate, hpowed, hpcarried, hpdelivered, hpolink⟩ := hpfields
  have hmayOwe : p.mayOwe = true := by
    have hless : r.update < 3 := Nat.lt_succ_of_le hlt
    unfold EventRec.mayOwe
    rw [hpstate, hpowed, hpcarried, hpupdate, hstate]
    rcases hmay with hmay | hmay
    · simp [hmay, hless]
    · obtain ⟨k, hk⟩ := Option.isSome_iff_exists.mp hmay
      simp [hk, hless]
  obtain ⟨horid, hostate, hoid, -, -, -, hodelivered, -, -, -, hoolink⟩ := p.owed_facts
  have hoowed : p.owed.update = r.update + 1 ∧ p.owed.declOwed = true := by
    rw [EventRec.owed, if_pos hmayOwe]
    exact ⟨congrArg (· + 1) hpupdate, rfl⟩
  obtain ⟨y, hy⟩ : ∃ y, y = u.setCu { u.cu with events := [p.owed] } := ⟨_, rfl⟩
  have hyevents : y.cu.events = [p.owed] := by rw [hy]; rfl
  have hyuc : y.uc = s.uc := by
    rw [hy, hu]
    exact huc
  have hycs : y.cs = s.cs := by
    rw [hy, hu]
    exact hcs
  have hycount : y.count .stacks = s.count .stacks := by
    rw [← hvcount, hy, hu]
    rfl
  have hynow : y.now = s.now := by
    rw [hy, hu]
    exact congrArg Timebase.elapsed htb
  have hytd : y.td = s.td := by
    rw [hy, hu]
    exact htd
  have hupdates := ucUpdate_updates (s := y) hyevents (by rw [hycs]; exact huplink) (by rw [hyuc]; exact hdue)
  rw [joinRecord_owing (by rw [hucu]; exact hevents) (by rw [hp] at hmayOwe; exact hmayOwe)] at hadmit
  obtain ⟨z, hz⟩ : ∃ z, z = ucUpdate p.owed.rid y := ⟨_, rfl⟩
  have hzadmit : admitOnset (noticeEntry hdr.sender n) v = cuRequest z := by
    rw [hadmit, hz, horid, hprid, hy, hp]
    rfl
  rw [← hz] at hupdates
  obtain ⟨x, o, hzcu⟩ := hupdates.shape
  have hztd : z.td = s.td := by
    rw [hz, ← hytd]
    simp
  clear hz hadmit
  have hbeside : (cuRequest z).besideEvents = v.besideEvents := by rw [← hzadmit, admitOnset_besideEvents]
  rw [hzadmit] at hexec
  have hfirm := hsteady.firm_of_besideEvents hbeside
  have hno : v.NoTransfer := .inl (by rw [hpins]; exact hrdy)
  obtain ⟨-, hwpins, -, -, -, -, -, -, -, -, hwcs, -⟩ := rest_of_besideEvents hbeside
  obtain ⟨hfcu, -, -, hftd, -⟩ := hsteady.finish_of_events hbeside (by rw [hpins]; exact hcd) hno
  obtain ⟨m, k, hfuc⟩ := hfirm.uc (by unfold State.NoTransfer at *; rw [hwpins, hwcs]; exact hno)
  refine ⟨_, p.owed, _, hexec, hhears _ hbeside hfirm, hftd.trans ((by simp : (cuRequest z).td = z.td).trans hztd), ?_, horid.trans hprid,
    hoid.trans hpid, hoowed.1, hodelivered.trans hpdelivered, hoolink.trans hpolink, ?_, ?_, ?_, ?_,
    y, z, hupdates, hyuc, hynow, hycount, ⟨m, k, by rw [hfuc, cuRequest_uc]⟩, hyevents, by rw [hzcu],
    (hfirm.count (by decide) (by decide)).trans cuRequest_count⟩
  · rw [hfcu, cuRequest_cu, hzcu]
  · exact horid.trans hprid
  · exact hoowed.1
  · exact hoowed.2
  · rw [hfirm.slots_of_busy (by rw [hwpins, hpins]; exact hcd)]
    refine cuRequest_fills ?_ ?_
    · rw [hzcu]
      simp [EventRec.owes, hoowed.2, hostate, hpstate, hstate]
    · rw [lcTakes_of_besideEvents ((cuRequest_besideEvents (s := z)).symm.trans hbeside)]
      have hid : v.ownId = s.ownId := congrArg (fun y => y.stationId) hcs
      exact lcTakes_of_active hsteady.active (by unfold State.listenOnly at *; rwa [hid])

/-- Settles O36, the parts by what the notice does: it enters alone, evicts or finds no place, makes a quorum, joins the only record,
and brings that record's update to the uplink. -/
theorem noticeEntersTheTriggerTable : Obligations.NoticeEntersTheTriggerTable := by
  intro s stamp hdr rest n h hset hj
  refine ⟨fun hevents hown => ?_, fun hevents hfresh hapart hfull => ⟨fun y hy hown => ?_, fun hbound => ?_⟩,
    fun e hactive hgood hno hcd hsends hid hdelay hquorum hevents hentries hown hstation hbound hgap hfresh => ?_,
    fun r hno hcd hawake hsends hkind hfresh hentries hevents hopen hparts => ?_,
    fun r hactive hgood huplink hcd hrdy hsends hdue hkind hfresh hentries hevents hstate hmay hlt hparts => ?_⟩
  · obtain ⟨t, ht, hh, hrest⟩ := notice_enters_alone h hset hj hevents hown
    exact ⟨t, ht, ⟨hh.peer, hh.count, hh.rest⟩, hrest⟩
  · obtain ⟨t, ht, hh, hrest⟩ := notice_evicts h hset hj hevents hfresh hapart hfull hy hown
    exact ⟨t, ht, ⟨hh.peer, hh.count, hh.rest⟩, hrest⟩
  · obtain ⟨t, ht, hh, hrest⟩ := notice_finds_no_place h hset hj hevents hfresh hapart hfull hbound
    exact ⟨t, ht, ⟨hh.peer, hh.count, hh.rest⟩, hrest⟩
  · obtain ⟨t, r, ht, hh, hrest⟩ := notice_makes_quorum h hset hj hactive hgood hno hcd hsends hid hdelay hquorum hevents hentries
      hown hstation hbound hgap hfresh
    exact ⟨t, r, ht, ⟨hh.peer, hh.count, hh.rest⟩, hrest⟩
  · obtain ⟨t, r', ht, hh, hrest⟩ := notice_joins h hset hj hno hcd hawake hsends hkind hfresh hentries hevents hopen hparts
    exact ⟨t, r', ht, ⟨hh.peer, hh.count, hh.rest⟩, hrest⟩
  obtain ⟨t, r1, r', ht, hh, htd, htevents, hrid1, hid1, hupdate1, hdelivered1, howed1, hrid, hupdate, hdecl, hslot, y, z, hup, hyuc, hynow,
    hycount, ⟨m, x, htuc⟩, hyevents, hzevents, htstacks⟩ := notice_updates h hset hj hactive hgood huplink hcd hrdy hsends hdue hkind
      hfresh hentries hevents hstate hmay hlt hparts
  obtain ⟨-, htransfer, hfolds, hpiles, hplaced, hstacked⟩ := hup
  rw [hyuc, hrid1] at htransfer hfolds hpiles hplaced hstacked
  rw [hid1, hupdate1] at hplaced hstacked
  rw [hupdate1] at hfolds hpiles
  have hqueue : t.uc.queue = z.uc.queue := by rw [htuc]
  have hpile : t.uc.stacked = z.uc.stacked := by rw [htuc]
  have hkindOf : r1.updateKind = r.updateKind := by unfold EventRec.updateKind; rw [hdelivered1]
  rw [hkindOf] at hplaced hstacked
  have honly {c : Coincidence} {q : EventRec} (hc : z.cu = { c with events := [q] }) : r' = q := by
    rw [hc] at hzevents
    exact (List.singleton_inj.mp hzevents).symm
  refine ⟨t, r', ht, ⟨hh.peer, hh.count, hh.rest⟩, htd, htevents, hrid, hupdate, hdecl, hslot, fun hany => ?_, fun hnone hany => ?_,
    fun hnone hany => ?_, fun hnone hno hid => ⟨fun hlen => ?_, fun hlen hhealth => ?_⟩⟩
  · have hz := htransfer hany
    rw [hz, hyevents] at hzevents
    rw [hqueue, hpile, hz, hyuc, ← List.singleton_inj.mp hzevents]
    exact ⟨rfl, rfl, howed1⟩
  · have hz := hfolds hnone hany
    rw [hqueue, hpile, hz]
    exact ⟨rfl, rfl⟩
  · obtain ⟨hzuc, hzcu⟩ := hpiles hnone hany
    rw [hqueue, hpile, hzuc, honly hzcu]
    exact ⟨rfl, rfl, rfl⟩
  · obtain ⟨hzuc, hzcu⟩ := hplaced hnone hno hid hlen
    rw [hqueue, hpile, hzuc]
    refine ⟨?_, rfl, fun hspares => congrArg EventRec.uplink (honly (hzcu hspares))⟩
    rw [placedAlert_report (r := r) rfl]
    unfold State.freshAlert
    rw [hynow]
    rfl
  · obtain ⟨hzuc, ⟨x, hzcu, hstate'⟩, hcount⟩ := hstacked hnone hno hid hlen hhealth
    rw [hqueue, hpile, hzuc, honly hzcu, htstacks, hcount, hycount]
    exact ⟨rfl, rfl, rfl, rfl, hstate'⟩

end

/-! PROOFS. One record of the event table as participants are merged and entries offered to it (R123, R135), beside others. -/
namespace Sys2Proof.Machine
set_option Elab.async false

section
variable {s t u v w : State} {c : Counter} {r r' y : EventRec} {others : List EventRec} {e : Entry}

/-- The event table holds a record and the others, none of them of its key. -/
structure State.Holds (s : State) (r : EventRec) (others : List EventRec) : Prop where
  perm : s.cu.events.Perm (r :: others)
  apart : ∀ y ∈ others, y.rid ≠ r.rid

theorem holds_only (h : s.cu.events = [r]) : s.Holds r [] := ⟨by rw [h], by simp⟩

theorem State.Holds.mem (h : s.Holds r others) : y ∈ s.cu.events ↔ y = r ∨ y ∈ others := by
  rw [h.perm.mem_iff, List.mem_cons]

theorem State.Holds.events (h : s.Holds r []) : s.cu.events = [r] := List.perm_singleton.mp h.perm

theorem State.Holds.eq_of_rid (h : s.Holds r others) (hy : y ∈ s.cu.events) (hrid : y.rid = r.rid) : y = r :=
  (h.mem.mp hy).resolve_right fun hmem => h.apart y hmem hrid

theorem State.Holds.record (h : s.Holds r others) : s.rec? r.rid = some r := by
  unfold State.rec?
  cases hfind : s.cu.events.find? (fun x => x.rid == r.rid) with
  | none => exact absurd (List.find?_eq_none.mp hfind r (h.mem.mpr (.inl rfl))) (by simp)
  | some y => rw [h.eq_of_rid (List.mem_of_find?_eq_some hfind) (by simpa using List.find?_some hfind)]

theorem State.Holds.updated (h : s.Holds r others) {f : EventRec → EventRec} (hf : (f r).rid = r.rid) :
    (updRec r.rid f s).Holds (f r) others := by
  refine ⟨?_, fun y hy => by rw [hf]; exact h.apart y hy⟩
  have hothers : others.map (fun x => if (x.rid == r.rid) = true then f x else x) = others := by
    rw [List.map_congr_left (g := id), List.map_id]
    exact fun y hy => if_neg (by simpa using h.apart y hy)
  have hmap := h.perm.map (fun x => if (x.rid == r.rid) = true then f x else x)
  rw [List.map_cons, hothers, if_pos (by simp)] at hmap
  exact (sortBy_perm _ _).trans hmap

theorem State.Holds.congr (h : s.Holds r others) (hevents : t.cu.events = s.cu.events) : t.Holds r others :=
  ⟨by rw [hevents]; exact h.perm, h.apart⟩

/-- A record with more participants, or higher peak ratios of those it had: otherwise it stands as it did. -/
structure EventRec.Gains (r y : EventRec) : Prop where
  same : y = { r with earliest := y.earliest, parts := y.parts }
  parts : ∀ p ∈ r.parts, ∃ q ∈ y.parts, q.station = p.station ∧ q.onset = p.onset ∧ p.peak ≤ q.peak

theorem EventRec.Gains.refl {r : EventRec} : r.Gains r := ⟨rfl, fun p hp => ⟨p, hp, rfl, rfl, Nat.le_refl _⟩⟩

theorem EventRec.Gains.trans {a b c : EventRec} (h : a.Gains b) (g : b.Gains c) : a.Gains c := by
  refine ⟨?_, fun p hp => ?_⟩
  · have hg := g.same
    rw [h.same] at hg
    exact hg
  · obtain ⟨q, hq, hstation, honset, hpeak⟩ := h.parts p hp
    obtain ⟨z, hz, hzstation, hzonset, hzpeak⟩ := g.parts q hq
    exact ⟨z, hz, hzstation.trans hstation, hzonset.trans honset, Nat.le_trans hpeak hzpeak⟩

theorem EventRec.Gains.rid (h : r.Gains y) : y.rid = r.rid := by rw [h.same]
theorem EventRec.Gains.state (h : r.Gains y) : y.state = r.state := by rw [h.same]
theorem EventRec.Gains.id (h : r.Gains y) : y.id = r.id := by rw [h.same]
theorem EventRec.Gains.update (h : r.Gains y) : y.update = r.update := by rw [h.same]
theorem EventRec.Gains.declOwed (h : r.Gains y) : y.declOwed = r.declOwed := by rw [h.same]
theorem EventRec.Gains.opened (h : r.Gains y) : y.opened = r.opened := by rw [h.same]

theorem gains_addPart {p : Part} : r.Gains (addPart r p) :=
  ⟨rfl, fun q hq => ⟨q, mem_addPart.mpr (.inr hq), rfl, rfl, Nat.le_refl _⟩⟩

theorem mem_raisePeak {station peak : Nat} {q : Part} : q ∈ (raisePeak station peak r).parts ↔
    ∃ p ∈ r.parts, (if p.station == station then { p with peak := max p.peak peak } else p) = q := by
  simp [raisePeak]

theorem gains_raisePeak {station peak : Nat} : r.Gains (raisePeak station peak r) := by
  refine ⟨rfl, fun p hp => ⟨_, mem_raisePeak.mpr ⟨p, hp, rfl⟩, ?_⟩⟩
  split
  · exact ⟨rfl, rfl, Nat.le_max_left _ _⟩
  · exact ⟨rfl, rfl, Nat.le_refl _⟩

/-- What merges and offers to the record of a key leave of everything else. -/
structure State.Grown (s t : State) (k : Nat) : Prop where
  beside : t.besideEvents = s.besideEvents
  uc : t.uc = s.uc
  count : ∀ c, c ≠ .participantsLeftOut → t.count c = s.count c
  kept : ∀ e ∈ s.cu.entries, e.bound.isSome → e ∈ t.cu.entries
  bound : ∀ e ∈ t.cu.entries, e ∈ s.cu.entries ∨ e.bound = some k
  nextRid : t.cu.nextRid = s.cu.nextRid

theorem State.Grown.refl {k : Nat} : s.Grown s k := ⟨rfl, rfl, fun _ _ => rfl, fun _ h _ => h, fun _ h => .inl h, rfl⟩

theorem State.Grown.trans {k : Nat} (h : s.Grown t k) (g : t.Grown u k) : s.Grown u k where
  beside := g.beside.trans h.beside
  uc := g.uc.trans h.uc
  count c hc := (g.count c hc).trans (h.count c hc)
  kept e he hbound := g.kept e (h.kept e he hbound) hbound
  bound e he := (g.bound e he).elim (h.bound e) .inr
  nextRid := g.nextRid.trans h.nextRid

/-- A state with one record that gained, the others as they stood. -/
structure State.Leads (s t : State) (r r' : EventRec) (others : List EventRec) : Prop where
  holds : t.Holds r' others
  gains : r.Gains r'
  grown : s.Grown t r.rid

theorem State.Holds.leads (h : s.Holds r others) : s.Leads s r r others := ⟨h, .refl, .refl⟩

theorem State.Leads.trans (h : s.Leads t r r' others) (g : t.Leads u r' y others) : s.Leads u r y others :=
  ⟨g.holds, h.gains.trans g.gains, h.grown.trans (by rw [← h.gains.rid]; exact g.grown)⟩

theorem State.Holds.updRec_leads (h : s.Holds r others) {f : EventRec → EventRec} (hf : r.Gains (f r)) :
    s.Leads (updRec r.rid f s) r (f r) others :=
  ⟨h.updated hf.rid, hf, by simp, rfl, fun _ _ => rfl, fun _ he _ => he, fun _ he => .inl he, rfl⟩

/-! ## The participant merge (R123) -/

theorem State.Holds.mergePart_eq (h : s.Holds r others) (station : Nat) (onset : StationTime) (peak : Nat) :
    mergePart r.rid station onset peak s =
      if r.parts.any (fun p => p.station == station) then updRec r.rid (raisePeak station peak) s
      else if !(1 ≤ station && station ≤ 14) then s
      else if canJoin s.window s.cu.events r station onset then
        updRec r.rid (fun r => addPart r { station, onset, peak }) s
      else bump .participantsLeftOut s := by
  unfold mergePart
  rw [h.record]

theorem State.Holds.mergePart_leads (h : s.Holds r others) (station : Nat) (onset : StationTime) (peak : Nat) :
    ∃ r', s.Leads (mergePart r.rid station onset peak s) r r' others ∧
      ∀ q ∈ r'.parts, (∃ p ∈ r.parts, q.station = p.station ∧ q.onset = p.onset) ∨ (q.station = station ∧ q.onset = onset) := by
  rw [h.mergePart_eq]
  split
  · refine ⟨_, h.updRec_leads gains_raisePeak, fun q hq => ?_⟩
    obtain ⟨p, hp, rfl⟩ := mem_raisePeak.mp hq
    refine .inl ⟨p, hp, ?_⟩
    split <;> exact ⟨rfl, rfl⟩
  · split
    · exact ⟨r, h.leads, fun q hq => .inl ⟨q, hq, rfl, rfl⟩⟩
    · split
      · refine ⟨_, h.updRec_leads (f := fun r => addPart r { station, onset, peak }) gains_addPart, fun q hq => ?_⟩
        rcases mem_addPart.mp hq with rfl | hq
        · exact .inr ⟨rfl, rfl⟩
        · exact .inl ⟨q, hq, rfl, rfl⟩
      · exact ⟨r, ⟨h.congr rfl, .refl, bump_besideEvents rfl, rfl, fun c hc => by rw [count_bump, if_neg (Ne.symm hc)],
          fun _ he _ => he, fun _ he => .inl he, rfl⟩, fun q hq => .inl ⟨q, hq, rfl, rfl⟩⟩

/-- Beside records that are not live, a new earliest onset passes the test of R123. -/
theorem State.Holds.passes_earliest {wc : Nat} {onset : StationTime} (h : s.Holds r others) (hothers : ∀ y ∈ others, y.state.live = false) :
    earliestFits wc s.cu.events r onset = true := by
  unfold earliestFits
  rw [Bool.or_eq_true, List.all_eq_true]
  refine .inr fun y hy => ?_
  rcases h.mem.mp hy with rfl | hy
  · simp
  · simp [hothers y hy]

/-- A participant that fits is among those of the record behind its merge (R123). -/
theorem State.Holds.mergePart_covers (h : s.Holds r others) (hothers : ∀ y ∈ others, y.state.live = false) {station peak : Nat}
    {onset : StationTime} (hrange : 1 ≤ station ∧ station ≤ 14) (hnear : ∀ p ∈ r.parts, timeGap p.onset onset ≤ s.window)
    (hleads : s.Leads (mergePart r.rid station onset peak s) r r' others) :
    ∃ q ∈ r'.parts, q.station = station ∧ peak ≤ q.peak := by
  have hrec := hleads.holds.record
  rw [hleads.gains.rid] at hrec
  rw [h.mergePart_eq] at hrec
  split at hrec
  · next hany =>
    obtain ⟨p, hp, hstation⟩ := List.any_eq_true.mp hany
    obtain rfl := Option.some.inj ((h.updated (f := raisePeak station peak) rfl).record.symm.trans hrec)
    refine ⟨_, mem_raisePeak.mpr ⟨p, hp, rfl⟩, ?_⟩
    rw [if_pos hstation]
    exact ⟨by simpa using hstation, Nat.le_max_right _ _⟩
  · next hany =>
    have hjoin : canJoin s.window s.cu.events r station onset = true := by
      unfold canJoin spanFits
      rw [h.passes_earliest hothers]
      simp only [Bool.not_eq_true, List.any_eq_false, beq_iff_eq] at hany
      simp only [Bool.and_eq_true, decide_eq_true_iff, List.all_eq_true, bne_iff_ne, and_true]
      exact ⟨⟨hrange, hany⟩, hnear⟩
    rw [if_neg (by simp [hrange]), if_pos hjoin] at hrec
    obtain rfl := Option.some.inj ((h.updated (f := fun r => addPart r { station, onset, peak }) rfl).record.symm.trans hrec)
    exact ⟨_, mem_addPart.mpr (.inl rfl), rfl, Nat.le_refl _⟩

/-- Participants merged one after the other (R123). -/
def mergeParts (k : Nat) (ps : List Part) (s : State) : State :=
  ps.foldl (fun s p => mergePart k p.station p.onset p.peak s) s

/-- A declaration's participants with the onsets rebuilt from their offsets (R113). -/
def DeclBody.rebuilt (d : DeclBody) : List Part :=
  d.parts.map (fun p => { station := p.station, onset := rebuildOnset d.earliest p.offset, peak := p.peak })

theorem mergeDecl_eq {k : Nat} {d : DeclBody} : mergeDecl k d s = mergeParts k d.rebuilt s := by
  unfold mergeDecl mergeParts DeclBody.rebuilt
  rw [List.foldl_map]

/-- A row of merges: the participants come from the record or from the row, and where all fit each of the row is among them (R123). -/
theorem State.Holds.mergeParts_leads (h : s.Holds r others) (ps : List Part) :
    ∃ r', s.Leads (mergeParts r.rid ps s) r r' others ∧ 
      (∀ q ∈ r'.parts, (∃ p ∈ r.parts, q.station = p.station ∧ q.onset = p.onset) ∨ ∃ p ∈ ps, q.station = p.station ∧ q.onset = p.onset) ∧
      ((∀ y ∈ others, y.state.live = false) → (∀ p ∈ ps, ∀ q ∈ r.parts, timeGap q.onset p.onset ≤ s.window) →
        (∀ p ∈ ps, ∀ q ∈ ps, timeGap q.onset p.onset ≤ s.window) →
        ∀ p ∈ ps, 1 ≤ p.station → p.station ≤ 14 → ∃ q ∈ r'.parts, q.station = p.station ∧ p.peak ≤ q.peak) := by
  induction ps generalizing s r with
  | nil => exact ⟨r, h.leads, fun q hq => .inl ⟨q, hq, rfl, rfl⟩, by simp⟩
  | cons p ps ih =>
    obtain ⟨y, hleads, hfrom⟩ := h.mergePart_leads p.station p.onset p.peak
    obtain ⟨r', hrest, horigin, hcover⟩ := ih hleads.holds
    rw [hleads.gains.rid] at hrest
    have hwindow : (mergePart r.rid p.station p.onset p.peak s).window = s.window := by
      obtain ⟨-, -, -, -, -, -, -, -, -, -, hcs, -⟩ := rest_of_besideEvents hleads.grown.beside
      unfold State.window
      rw [hcs]
    refine ⟨r', hleads.trans hrest, fun q hq => ?_, fun hothers hnear hmutual z hz hlow hhigh => ?_⟩
    · rcases horigin q hq with ⟨x, hx, hstation, honset⟩ | ⟨x, hx, hsame⟩
      · rcases hfrom x hx with ⟨z, hz, hzstation, hzonset⟩ | ⟨hxstation, hxonset⟩
        · exact .inl ⟨z, hz, hstation.trans hzstation, honset.trans hzonset⟩
        · exact .inr ⟨p, by simp, hstation.trans hxstation, honset.trans hxonset⟩
      · exact .inr ⟨x, List.mem_cons_of_mem _ hx, hsame⟩
    · rcases List.mem_cons.mp hz with rfl | hz
      · obtain ⟨q, hq, hstation, hpeak⟩ := h.mergePart_covers hothers ⟨hlow, hhigh⟩ (hnear _ (by simp)) hleads
        obtain ⟨q', hq', hstation', -, hpeak'⟩ := hrest.gains.parts q hq
        exact ⟨q', hq', hstation'.trans hstation, Nat.le_trans hpeak hpeak'⟩
      · refine hcover hothers (fun a ha q hq => ?_) (fun a ha b hb => ?_) z hz hlow hhigh
        · rw [hwindow]
          rcases hfrom q hq with ⟨b, hb, -, honset⟩ | ⟨-, honset⟩
          · rw [honset]
            exact hnear a (List.mem_cons_of_mem _ ha) b hb
          · rw [honset]
            exact hmutual a (List.mem_cons_of_mem _ ha) p (by simp)
        · rw [hwindow]
          exact hmutual a (List.mem_cons_of_mem _ ha) b (List.mem_cons_of_mem _ hb)

end

end Sys2Proof.Machine

/-! PROOFS. Entries offered to one record of the event table (R135), and the operations of an adoption (R132). -/
namespace Sys2Proof.Machine
set_option Elab.async false

section
variable {s t u v w : State} {c : Counter} {r r' y : EventRec} {others : List EventRec} {e : Entry} {k : Nat}

/-- An operation on the event table alone that leaves the records and the bound entries. -/
theorem State.Holds.leads_of_events (h : s.Holds r others) (hg : s.Grown t r.rid) (hevents : t.cu.events = s.cu.events) :
    s.Leads t r r others := ⟨h.congr hevents, .refl, hg⟩

theorem State.Holds.firstFit_rid (h : s.Holds r others) :
    firstFit s (fun x => x.rid == r.rid) e = none ∨ ∃ f, firstFit s (fun x => x.rid == r.rid) e = some (r, f) := by
  cases hfit : firstFit s (fun x => x.rid == r.rid) e with
  | none => exact .inl rfl
  | some x =>
    unfold firstFit at hfit
    obtain ⟨y, hy, rfl⟩ := List.mem_map.mp (List.mem_of_find?_eq_some hfit)
    obtain ⟨hmem, hcond⟩ := List.mem_filter.mp hy
    simp only [Bool.and_eq_true, beq_iff_eq] at hcond
    exact .inr ⟨_, by rw [h.eq_of_rid hmem hcond.2]⟩

/-- A record that is not DECLARED owes nothing (R135). -/
theorem State.Holds.oweUpdate_of_undeclared (h : s.Holds r others) (hnot : r.state ≠ .declared) : oweUpdate r.rid s = s := by
  unfold oweUpdate
  rw [h.record]
  exact if_pos (by simpa using hnot)

theorem State.Holds.joinRecord_leads (h : s.Holds r others) (hnot : r.state ≠ .declared) {f : Fit} :
    ∃ r', s.Leads (joinRecord r f e s) r r' others := by
  cases f with
  | no | bind => exact ⟨r, h.leads⟩
  | join =>
    have hjoined := h.updRec_leads (f := fun x => addPart x { station := e.station, onset := e.onset, peak := e.peak }) gains_addPart
    refine ⟨addPart r { station := e.station, onset := e.onset, peak := e.peak }, ?_⟩
    show s.Leads (oweUpdate r.rid (updRec r.rid _ s)) r _ others
    have howe := hjoined.holds.oweUpdate_of_undeclared hnot
    rw [hjoined.gains.rid] at howe
    rwa [howe]

theorem State.Holds.offerOne_leads (h : s.Holds r others) (hnot : r.state ≠ .declared) :
    ∃ r', s.Leads (offerOne (fun x => x.rid == r.rid) s e) r r' others := by
  unfold offerOne
  split
  · next hoffered =>
    rw [Bool.and_eq_true, List.any_eq_true, Option.isNone_iff_eq_none] at hoffered
    obtain ⟨⟨x, hx, hxe⟩, hfree⟩ := hoffered
    rw [beq_iff_eq.mp hxe] at hx
    have hperm := replace_perm (y := e.bindTo r) hx
    have hbound : s.Grown (setEntries (s.cu.entries.replace e (e.bindTo r)) s) r.rid := by
      refine ⟨setEntries_besideEvents, rfl, fun _ _ => rfl, fun y hy hsome => ?_, fun y hy => ?_, rfl⟩
      · rw [mem_setEntries]
        refine hperm.symm.subset (List.mem_cons_of_mem _ ((List.mem_erase_of_ne fun he => ?_).mpr hy))
        rw [he, hfree] at hsome
        cases hsome
      · rw [mem_setEntries] at hy
        rcases mem_of_mem_replace hy with hy | rfl
        · exact .inl hy
        · exact .inr rfl
    rcases h.firstFit_rid (e := e) with hfit | ⟨f, hfit⟩
    · rw [hfit]
      exact ⟨r, h.leads⟩
    · rw [hfit]
      have hbind := h.leads_of_events hbound rfl
      obtain ⟨r', hjoin⟩ := hbind.holds.joinRecord_leads hnot (e := e) (f := f)
      exact ⟨r', hbind.trans hjoin⟩
  · exact ⟨r, h.leads⟩

/-- The unbound entries offered to a record that is not DECLARED (R131 to R135). -/
theorem State.Holds.offerTo_leads (h : s.Holds r others) (hnot : r.state ≠ .declared) :
    ∃ r', s.Leads (offerTo r.rid s) r r' others := by
  have heach (es : List Entry) : ∃ r', s.Leads (offerEach (fun x => x.rid == r.rid) es s) r r' others := by
    induction es generalizing s r with
    | nil => exact ⟨r, h.leads⟩
    | cons e es ih =>
      obtain ⟨y, hone⟩ := h.offerOne_leads hnot (e := e)
      obtain ⟨r', hrest⟩ := ih hone.holds (by rw [hone.gains.state]; exact hnot)
      rw [hone.gains.rid] at hrest
      exact ⟨r', hone.trans hrest⟩
  exact heach _

theorem offerTo_of_bound (h : ∀ e ∈ s.cu.entries, e.bound.isSome) : offerTo k s = s := by
  have hnone : s.cu.entries.filter (fun e => e.bound.isNone) = [] := by
    rw [List.filter_eq_nil_iff]
    intro e he
    simpa [Option.isSome_iff_ne_none] using h e he
  unfold offerTo
  rw [hnone]
  rfl

/-! ## The confirmed entries and the new record -/

theorem mem_confirmEntries : e ∈ (confirmEntries k s).cu.entries ↔
    ∃ x ∈ s.cu.entries, (if x.bound == some k then { x with confirmed := true } else x) = e := by
  unfold confirmEntries
  rw [mem_setEntries, List.mem_map]

theorem insertRec_holds (h : s.cu.events.Perm others) (hapart : ∀ y ∈ others, y.rid ≠ r.rid) : (insertRec r s).Holds r others :=
  ⟨(sortBy_perm _ _).trans ((List.perm_append_singleton _ _).trans (List.Perm.cons r h)), hapart⟩

end

end Sys2Proof.Machine

/-! PROOFS. The step of an EVENT DECLARATION and its branches by the record it meets (R131, O37). -/
namespace Sys2Proof.Machine
set_option Elab.async false

section
variable {s t u v w : State} {c : Counter} {r r' x : EventRec} {others : List EventRec} {hdr : Header} {rest : List Byte} {stamp : RxStamp}
  {d : DeclBody} {sender : Nat}

/-- A declaration's participants are stations, each named once (section 2.10). -/
theorem judge_decl (h : s.judge { hdr := hdr, rest := rest } = .accepted .declaration (.declaration d)) :
    (∀ p ∈ d.parts, 1 ≤ p.station ∧ p.station ≤ 14) ∧ (d.parts.map DeclPart.station).Nodup := by
  obtain ⟨-, -, hread, -⟩ := judge_accepted h
  have hd : ∃ bs, readDecl bs = some d := by
    rw [show ∀ (n : Nat) (bs : List Byte), readBody .declaration n bs =
      if n ≠ 0 then none else (readDecl bs).map Body.declaration from fun _ _ => rfl] at hread
    split at hread
    · cases hread
    · obtain ⟨y, hy, hbody⟩ := Option.map_eq_some_iff.mp hread
      cases hbody
      exact ⟨_, hy⟩
  obtain ⟨bs, hbs⟩ := hd
  unfold readDecl at hbs
  split at hbs
  · cases hbs
  · split at hbs
    · cases hbs
    · dsimp only at hbs
      split at hbs
      · cases hbs
      · next hform =>
        cases hbs
        simp only [not_or, not_not, List.any_eq_true, not_exists, not_and] at hform
        obtain ⟨-, -, -, -, -, hrange, hnodup⟩ := hform
        refine ⟨fun p hp => ?_, hnodup⟩
        have := hrange p hp
        simp only [Bool.or_eq_true, decide_eq_true_eq, not_or, Nat.not_lt] at this
        exact this

/-- What an accepted declaration does at a steady station on a busy medium, where no transfer starts: the tables stand at the end of
the step as its own operation left them. `v` is the state behind the frame's header. -/
structure State.Declares (s : State) (sender : Nat) (d : DeclBody) (v t : State) : Prop where
  cu : v.cu = s.cu
  uc : v.uc = s.uc
  cs : v.cs = s.cs
  now : v.now = s.now
  time : v.tb.time = s.tb.time
  sends : v.listenOnly = s.listenOnly
  count : ∀ c, c ≠ .framesAccepted → v.count c = s.count c
  standing : t.mc.standing = .active
  tables : t.cu = (cuDeclaration sender d v).cu
  queue : t.uc.queue = (cuDeclaration sender d v).uc.queue
  stacked : t.uc.stacked = (cuDeclaration sender d v).uc.stacked
  counts : ∀ c, c ≠ .musterBeacons → c ≠ .busRecoveries → t.count c = (cuDeclaration sender d v).count c
  slots : t.lc.slots = (cuDeclaration sender d v).lc.slots
  takes : s.listenOnly = false → (cuDeclaration sender d v).lcTakes = true

theorem exec_declarationReceived (h : s.Receives stamp hdr rest) (hs : s.Steady) (hno : s.NoTransfer) (hcd : s.pins.lkCd = true)
    (hj : s.judge { hdr := hdr, rest := rest } = .accepted .declaration (.declaration d)) :
    ∃ v t, exec (.eventDeclarationReceived rest) s = .next t ∧ s.Declares hdr.sender d v t := by
  obtain ⟨hpins, htb, -, -, -, -, hcu, huc, hbm, -, hmc, -, hcs, -⟩ :=
    headerTaken_leaves (s := s) (stamp := stamp) (f := { hdr := hdr, rest := rest }) (kind := .declaration)
  have hcount (c : Counter) (hc : c ≠ .framesAccepted) :
      (headerTaken { hdr := hdr, rest := rest } stamp .declaration s).count c = s.count c := headerTaken_count.trans (if_neg hc)
  have hexec : exec (.eventDeclarationReceived rest) s =
      .next (finish (cuDeclaration hdr.sender d (headerTaken { hdr := hdr, rest := rest } stamp .declaration s))) := by
    refine congrArg Host.Outcome.next (h.delivered hj (by simp) rfl ?_)
    show (cuDeclaration _ d _).mc.capture = _
    rw [mc_of_besideEvents cuDeclaration_besideEvents, ← hmc]
  generalize headerTaken { hdr := hdr, rest := rest } stamp .declaration s = v at *
  have hsteady : v.Steady := ⟨by have := hs.settled; unfold State.Settled at *; rwa [hmc], by rw [hmc]; exact hs.active, by rw [hbm]; exact hs.good⟩
  have hvno : v.NoTransfer := by unfold State.NoTransfer at *; rwa [hpins, hcs]
  have hid : v.ownId = s.ownId := congrArg (fun y => y.stationId) hcs
  have hbeside : (cuDeclaration hdr.sender d v).besideEvents = v.besideEvents := cuDeclaration_besideEvents
  obtain ⟨-, hwpins, -, -, -, -, -, -, -, -, hwcs, -⟩ := rest_of_besideEvents hbeside
  generalize hw : cuDeclaration hdr.sender d v = w at *
  have hfirm := hsteady.firm_of_besideEvents hbeside
  obtain ⟨hfcu, hstanding, -⟩ := hsteady.finish_of_events hbeside (by rw [hpins]; exact hcd) hvno
  obtain ⟨m, k, hfuc⟩ := hfirm.uc (by unfold State.NoTransfer at *; rw [hwpins, hwcs]; exact hvno)
  refine ⟨v, _, hexec, hcu, huc, hcs, congrArg Timebase.elapsed htb, congrArg Timebase.time htb, by unfold State.listenOnly; rw [hid],
    hcount, hstanding, ?_, ?_, ?_, fun c h1 h2 => ?_, ?_, fun hsends => ?_⟩
  · rw [hw, hfcu]
  · rw [hw, hfuc]
  · rw [hw, hfuc]
  · rw [hw, hfirm.count h1 h2]
  · rw [hw]
    exact hfirm.slots_of_busy (by rw [hwpins, hpins]; exact hcd)
  · rw [hw, lcTakes_of_besideEvents hbeside]
    exact lcTakes_of_active hsteady.active (by unfold State.listenOnly at *; rwa [hid])

/-! ## The branches (R131) -/

theorem withinWc_iff {a b : StationTime} : s.withinWc a b = true ↔ timeGap a b ≤ secs s.cs.image.wc := decide_eq_true_iff

theorem cuDeclaration_of_stranger (h : d.id.origin ≠ sender) : cuDeclaration sender d s = bump .declarationsIgnored s :=
  if_pos (by simpa using h)

theorem cuDeclaration_of_unknown (h : d.id.origin = sender)
    (hid : ∀ r ∈ s.cu.events, r.id = some d.id → ¬ timeGap r.earliest d.earliest ≤ secs s.cs.image.wc) :
    cuDeclaration sender d s = cuRequest (declAgainst d s) := by
  have hfind : s.cu.events.find? (fun r => r.id == some d.id && s.withinWc r.earliest d.earliest) = none := by
    rw [List.find?_eq_none]
    intro r hr
    have := hid r hr
    rw [Bool.and_eq_true, withinWc_iff]
    simpa using this
  unfold cuDeclaration
  rw [if_neg (by simpa using h), hfind]

theorem declAgainst_of_far
    (h : ∀ r ∈ s.cu.events, r.state.open = true → ¬ timeGap r.earliest d.earliest ≤ secs s.cs.image.wc) :
    declAgainst d s = if s.declTooOld d then bump .declarationsIgnored s else declAdoptNew d s := by
  have hfind : s.cu.events.find? (fun r => r.state.open && s.withinWc r.earliest d.earliest) = none := by
    rw [List.find?_eq_none]
    intro r hr
    have := h r hr
    rw [Bool.and_eq_true, withinWc_iff]
    simpa using this
  unfold declAgainst
  rw [hfind]

theorem cuDeclaration_of_known (h : d.id.origin = sender) (hevents : s.cu.events = [x]) (hid : x.id = some d.id)
    (hnear : timeGap x.earliest d.earliest ≤ secs s.cs.image.wc) : cuDeclaration sender d s = cuRequest (declUpdate x d s) := by
  have hfind : s.cu.events.find? (fun r => r.id == some d.id && s.withinWc r.earliest d.earliest) = some x := by
    rw [hevents]
    simp [hid, State.withinWc, State.window, hnear]
  unfold cuDeclaration
  rw [if_neg (by simpa using h), hfind]

/-- The rule that applies to a declaration against a record near it, by the record's state (R132 to R134). -/
def declMeets (x : EventRec) (d : DeclBody) (s : State) : State :=
  match x.state with
  | .declared => if declWins d x then conflictLost x d s else conflictWon x d s
  | .adopted => conflictAdopted x d s
  | .holdoff | .merged | .closed => declAdoptHoldoff x d s

theorem cuDeclaration_of_near (h : d.id.origin = sender) (hevents : s.cu.events = [x]) (hid : x.id ≠ some d.id)
    (hopen : x.state.open = true) (hnear : timeGap x.earliest d.earliest ≤ secs s.cs.image.wc) :
    cuDeclaration sender d s = cuRequest (declMeets x d s) := by
  rw [cuDeclaration_of_unknown h (by rw [hevents]; simp [hid])]
  have hfind : s.cu.events.find? (fun r => r.state.open && s.withinWc r.earliest d.earliest) = some x := by
    rw [hevents]
    simp [hopen, State.withinWc, State.window, hnear]
  unfold declAgainst
  rw [hfind]
  rfl

theorem declWins_iff : declWins d x = true ↔ d.earliest < x.earliest ∨ (d.earliest = x.earliest ∧ ∀ i, x.id = some i →
    d.id.origin < i.origin ∨ (d.id.origin = i.origin ∧ d.id.seq < i.seq)) := by
  unfold declWins
  cases hid : x.id with
  | none => simp
  | some i =>
    simp only [EventId.le, Bool.or_eq_true, Bool.and_eq_true, decide_eq_true_eq, beq_iff_eq, Bool.not_eq_true', Option.some.injEq,
      forall_eq']
    simp only [Bool.or_eq_false_iff, Bool.and_eq_false_iff, decide_eq_false_iff_not, beq_eq_false_iff_ne]
    refine or_congr_right (and_congr_right fun _ => ?_)
    omega

end

end Sys2Proof.Machine

/-! PROOFS. A declaration adopted into a new record (R125, R132, O37). -/
namespace Sys2Proof.Machine
set_option Elab.async false

section
variable {s t u v w : State} {c : Counter} {r r' x : EventRec} {others : List EventRec} {d : DeclBody} {k : Nat}

/-- All onsets lie within W_c of each other. -/
def partsNear (wc : Nat) (ps : List Part) : Prop := ∀ p ∈ ps, ∀ q ∈ ps, timeGap q.onset p.onset ≤ wc

/-- A record has each of these participants, with a peak ratio no lower. -/
def EventRec.hasParts (r : EventRec) (ps : List Part) : Prop :=
  ∀ p ∈ ps, 1 ≤ p.station → p.station ≤ 14 → ∃ q ∈ r.parts, q.station = p.station ∧ p.peak ≤ q.peak

theorem EventRec.Gains.hasParts {ps : List Part} (h : r.Gains r') (hps : r.hasParts ps) : r'.hasParts ps := by
  intro p hp hlow hhigh
  obtain ⟨q, hq, hstation, hpeak⟩ := hps p hp hlow hhigh
  obtain ⟨z, hz, hzstation, -, hzpeak⟩ := h.parts q hq
  exact ⟨z, hz, hzstation.trans hstation, Nat.le_trans hpeak hzpeak⟩

theorem EventRec.hasParts_congr {ps : List Part} (h : r'.parts = r.parts) (hps : r.hasParts ps) : r'.hasParts ps := by
  intro p hp hlow hhigh
  rw [h]
  exact hps p hp hlow hhigh

theorem State.Grown.window (h : s.Grown t k) : t.window = s.window := by
  obtain ⟨-, -, -, -, -, -, -, -, -, -, hcs, -⟩ := rest_of_besideEvents h.beside
  unfold State.window
  rw [hcs]

theorem State.Grown.uplink (h : s.Grown t k) : t.cs.image.uplink = s.cs.image.uplink := by
  obtain ⟨-, -, -, -, -, -, -, -, -, -, hcs, -⟩ := rest_of_besideEvents h.beside
  rw [hcs]

/-- The new record of an adopted declaration, before its participants (R132). -/
def State.adopting (s : State) (d : DeclBody) : EventRec := newRec s .adopted (some d.id) d.update d.earliest s.now

/-- The state in which an adopted declaration's event report is raised: its record `r` is in its place. -/
structure State.Adopts (u : State) (d : DeclBody) (others : List EventRec) (c : State) (r : EventRec) : Prop where
  holds : c.Holds r others
  gains : (u.adopting d).Gains r
  cs : c.cs = u.cs
  uc : c.uc = u.uc
  now : c.now = u.now
  adoptions : c.count .adoptions = min (u.count .adoptions + 1) 65535
  counts : ∀ z, z ≠ .adoptions → z ≠ .participantsLeftOut → c.count z = u.count z
  entries : ∀ e ∈ c.cu.entries, e ∈ u.cu.entries ∨ e.bound = some u.cu.nextRid
  origin : ∀ q ∈ r.parts, ∃ p ∈ d.rebuilt, q.station = p.station ∧ q.onset = p.onset
  parts : (∀ y ∈ others, y.state.live = false) → partsNear u.window d.rebuilt → r.hasParts d.rebuilt
  due : c.mc.evalDue = true

theorem declAdoptNew_ready (hplace : makePlace none s = some u) (hperm : u.cu.events.Perm others)
    (hapart : ∀ y ∈ others, y.rid ≠ u.cu.nextRid) :
    ∃ c r, declAdoptNew d s = offerTo u.cu.nextRid (ucNewEvent u.cu.nextRid c) ∧ u.Adopts d others c r := by
  have hinsert : (insertRec (u.adopting d) u).Holds (u.adopting d) others := insertRec_holds hperm hapart
  obtain ⟨r, hleads, horigin, hcover⟩ := hinsert.mergeParts_leads d.rebuilt
  have hwindow : (insertRec (u.adopting d) u).window = u.window := rfl
  rw [hwindow] at hcover
  refine ⟨cuReportOpen (bump .adoptions (mergeDecl u.cu.nextRid d (insertRec (u.adopting d) u))), r, ?_, ?_⟩
  · unfold declAdoptNew
    rw [hplace]
    rfl
  rw [mergeDecl_eq]
  obtain ⟨b, hb⟩ : ∃ b, b = mergeParts u.cu.nextRid d.rebuilt (insertRec (u.adopting d) u) := ⟨_, rfl⟩
  have hrid : (u.adopting d).rid = u.cu.nextRid := rfl
  rw [hrid, ← hb] at hleads
  rw [← hb]
  obtain ⟨-, -, htb, -, -, -, -, -, -, -, hcs, -⟩ := rest_of_besideEvents hleads.grown.beside
  have hcount (z : Counter) : (cuReportOpen (bump .adoptions b)).count z = if .adoptions = z then min (b.count z + 1) 65535 else b.count z :=
    (count_of_counters_eq (by simp [cuReportOpen])).trans count_bump
  refine ⟨hleads.holds.congr (by simp [cuReportOpen]), hleads.gains, by simpa [cuReportOpen] using hcs, ?_, ?_, ?_, fun z h1 h2 => ?_, ?_,
    fun q hq => ?_, fun hothers hnear => ?_, rfl⟩
  · exact (by simp [cuReportOpen] : (cuReportOpen (bump .adoptions b)).uc = b.uc).trans hleads.grown.uc
  · exact congrArg Timebase.elapsed ((by simp [cuReportOpen] : (cuReportOpen (bump .adoptions b)).tb = b.tb).trans htb)
  · rw [hcount, if_pos rfl, hleads.grown.count _ (by decide)]
    rfl
  · rw [hcount, if_neg (Ne.symm h1), hleads.grown.count z h2]
    rfl
  · intro e he
    have he' : e ∈ b.cu.entries := by simpa [cuReportOpen] using he
    exact hleads.grown.bound e he'
  · exact (horigin q hq).resolve_left fun ⟨p, hp, _⟩ => by cases hp
  · exact hcover hothers (fun _ _ q hq => by cases hq) hnear

/-- Without an uplink the record only takes the unbound entries offered to it. -/
theorem State.Adopts.offered (h : u.Adopts d others v r) (hno : u.cs.image.uplink = false) :
    ∃ r', v.Leads (offerTo u.cu.nextRid (ucNewEvent u.cu.nextRid v)) r r' others := by
  have hstate : r.state ≠ .declared := by
    rw [h.gains.state]
    exact fun hno => by cases hno
  have hraise : ucNewEvent u.cu.nextRid v = v := ucNewEvent_of_no_uplink (by rw [h.cs]; exact hno)
  rw [hraise]
  have hoffer := h.holds.offerTo_leads hstate
  rwa [h.gains.rid] at hoffer

/-- Where the declaration names each station once, a participant that came from it has the onset it declared. -/
theorem onset_of_origin {ps : List Part} {q p : Part} (horigin : ∃ z ∈ ps, q.station = z.station ∧ q.onset = z.onset)
    (hnodup : (ps.map Part.station).Nodup) (hp : p ∈ ps) (hstation : q.station = p.station) : q.onset = p.onset := by
  obtain ⟨z, hz, hzstation, honset⟩ := horigin
  rw [honset, List.inj_on_of_nodup_map hnodup hz hp (hzstation.symm.trans hstation)]

theorem rebuilt_stations (h : ∀ p ∈ d.parts, 1 ≤ p.station ∧ p.station ≤ 14) {p : Part} (hp : p ∈ d.rebuilt) :
    1 ≤ p.station ∧ p.station ≤ 14 := by
  obtain ⟨z, hz, rfl⟩ := List.mem_map.mp hp
  exact h z hz

theorem rebuilt_nodup (h : (d.parts.map DeclPart.station).Nodup) : (d.rebuilt.map Part.station).Nodup := by
  unfold DeclBody.rebuilt
  rwa [List.map_map]

end

end Sys2Proof.Machine

/-! PROOFS. Declarations at a station without an uplink: ignored, adopted into a free or an evicted place (R125, R131, R132). -/
namespace Sys2Proof.Machine
set_option Elab.async false

section
variable {s t u v w : State} {c : Counter} {r r' x : EventRec} {others : List EventRec} {d : DeclBody} {k sender : Nat}

theorem declTooOld_iff : s.declTooOld d = true ↔ d.earliest + secs s.cs.image.maxLife < s.tb.time := decide_eq_true_iff

/-- A participant of a declaration in a record: its station and onset, with a peak ratio no lower. -/
def EventRec.hasOnsets (r : EventRec) (d : DeclBody) : Prop :=
  ∀ p ∈ d.parts, ∃ x ∈ r.parts, x.station = p.station ∧ x.onset = rebuildOnset d.earliest p.offset ∧ p.peak ≤ x.peak

theorem State.Adopts.hasOnsets (h : u.Adopts d [] v r) (hrange : ∀ p ∈ d.parts, 1 ≤ p.station ∧ p.station ≤ 14)
    (hnodup : (d.parts.map DeclPart.station).Nodup) (hnear : partsNear u.window d.rebuilt) : r.hasOnsets d := by
  intro p hp
  have hmem : ({ station := p.station, onset := rebuildOnset d.earliest p.offset, peak := p.peak } : Part) ∈ d.rebuilt :=
    List.mem_map.mpr ⟨p, hp, rfl⟩
  obtain ⟨q, hq, hstation, hpeak⟩ := h.parts (by simp) hnear _ hmem (hrange p hp).1 (hrange p hp).2
  exact ⟨q, hq, hstation, onset_of_origin (h.origin q hq) (rebuilt_nodup hnodup) hmem hstation, hpeak⟩

theorem EventRec.Gains.hasOnsets (h : r.Gains r') (hr : r.hasOnsets d) : r'.hasOnsets d := by
  intro p hp
  obtain ⟨q, hq, hstation, honset, hpeak⟩ := hr p hp
  obtain ⟨z, hz, hzstation, hzonset, hzpeak⟩ := h.parts q hq
  exact ⟨z, hz, hzstation.trans hstation, hzonset.trans honset, Nat.le_trans hpeak hzpeak⟩

/-- Adopted into the empty table (R132). -/
theorem cuDeclaration_adopted_alone (hevents : s.cu.events = []) (horigin : d.id.origin = sender)
    (htime : ¬ d.earliest + secs s.cs.image.maxLife < s.tb.time) (hno : s.cs.image.uplink = false)
    (hrange : ∀ p ∈ d.parts, 1 ≤ p.station ∧ p.station ≤ 14) (hnodup : (d.parts.map DeclPart.station).Nodup) :
    ∃ r, (cuDeclaration sender d s).cu.events = [r] ∧ (s.adopting d).Gains r ∧
      (cuDeclaration sender d s).count .adoptions = min (s.count .adoptions + 1) 65535 ∧
      (partsNear s.window d.rebuilt → r.hasOnsets d) := by
  have hplace : makePlace none s = some s := if_pos (by simp [hevents])
  obtain ⟨c, r, hready, hadopts⟩ := declAdoptNew_ready (d := d) hplace (others := []) (by rw [hevents]) (by simp)
  obtain ⟨r', hleads⟩ := hadopts.offered hno
  rw [cuDeclaration_of_unknown horigin (by simp [hevents]), declAgainst_of_far (by simp [hevents]),
    if_neg (by rwa [declTooOld_iff]), hready, cuRequest_cu, cuRequest_count]
  exact ⟨r', hleads.holds.events, hadopts.gains.trans hleads.gains,
    (hleads.grown.count _ (by decide)).trans hadopts.adoptions, fun hnear => hleads.gains.hasOnsets (hadopts.hasOnsets hrange hnodup hnear)⟩

/-- One older than the maximum life, near no record of its id nor any open one (R131). -/
theorem cuDeclaration_ignored (horigin : d.id.origin = sender) (htime : d.earliest + secs s.cs.image.maxLife < s.tb.time)
    (hfar : ∀ r ∈ s.cu.events, secs s.cs.image.wc < timeGap r.earliest d.earliest ∨ (r.id ≠ some d.id ∧ r.state.open = false)) :
    cuDeclaration sender d s = cuRequest (bump .declarationsIgnored s) := by
  rw [cuDeclaration_of_unknown horigin, declAgainst_of_far, if_pos (declTooOld_iff.mpr htime)]
  · intro r hr hopen hnear
    rcases hfar r hr with h | h
    · omega
    · rw [h.2] at hopen
      cases hopen
  · intro r hr hid hnear
    rcases hfar r hr with h | h
    · omega
    · exact h.1 hid

/-! ## A full table (R125) -/

/-- The uplink states in which a finished record may go (R124). -/
theorem done_eq : (fun x : UplinkState => x.done) = fun x => x == .none || x == .sent || x == .withdrawn || x == .failed := by
  funext x
  cases x <;> rfl

/-- The record that gives up its place (R125). -/
def State.victim (s : State) : Option EventRec :=
  (s.cu.events.find? (fun r => r.removable .closed)).or (s.cu.events.find? (fun r => r.removable .merged))

theorem makePlace_of_full (h : s.cu.events.length = 8) : makePlace none s = s.victim.map (fun r => removeRec r.rid s) := by
  unfold makePlace State.victim
  rw [if_neg (by omega)]
  have hkeep (st : RecState) : s.cu.events.find? (fun r => r.removable st && some r.rid != none) =
      s.cu.events.find? (fun r => r.removable st) := by
    congr 1
    funext r
    simp
  dsimp only
  rw [hkeep, hkeep]
  cases s.cu.events.find? (fun r => r.removable .closed) with
  | some r => rfl
  | none => cases s.cu.events.find? (fun r => r.removable .merged) <;> rfl

theorem victim_mem (h : s.victim = some x) : x ∈ s.cu.events := by
  unfold State.victim at h
  rcases Option.or_eq_some_iff.mp h with h | ⟨-, h⟩ <;> exact List.mem_of_find?_eq_some h

/-- Adopted into the place of a finished record (R125). -/
theorem cuDeclaration_evicts (horigin : d.id.origin = sender) (htime : ¬ d.earliest + secs s.cs.image.maxLife < s.tb.time)
    (hno : s.cs.image.uplink = false) (hfull : s.cu.events.length = 8)
    (hfar : ∀ r ∈ s.cu.events, r.rid ≠ s.cu.nextRid ∧ r.id ≠ some d.id ∧
      (r.state.open = true → secs s.cs.image.wc < timeGap r.earliest d.earliest)) :
    (∀ x, s.victim = some x →
      (∀ r ∈ s.cu.events, r.rid ≠ x.rid → r ∈ (cuDeclaration sender d s).cu.events) ∧
      (∀ r ∈ (cuDeclaration sender d s).cu.events, r.rid ≠ s.cu.nextRid → r ∈ s.cu.events ∧ r.rid ≠ x.rid) ∧
      (∃ r ∈ (cuDeclaration sender d s).cu.events, r.rid = s.cu.nextRid ∧ r.state = .adopted ∧ r.id = some d.id ∧ r.update = d.update) ∧
      (∀ e ∈ (cuDeclaration sender d s).cu.entries, e.bound ≠ some x.rid) ∧
      (cuDeclaration sender d s).count .adoptions = min (s.count .adoptions + 1) 65535) ∧
    (s.victim = none → cuDeclaration sender d s = cuRequest (bump .eventTableOverflow s)) := by
  rw [cuDeclaration_of_unknown horigin fun r hr hid => absurd hid (hfar r hr).2.1,
    declAgainst_of_far fun r hr hopen hnear => absurd hnear (by have := (hfar r hr).2.2 hopen; omega),
    if_neg (by rwa [declTooOld_iff])]
  refine ⟨fun x hvictim => ?_, fun hvictim => ?_⟩
  · have hplace : makePlace none s = some (removeRec x.rid s) := by rw [makePlace_of_full hfull, hvictim]; rfl
    have hucu := removeRec_cu (k := x.rid) (s := s)
    have hucs : (removeRec x.rid s).cs = s.cs := by simp
    have hucount : (removeRec x.rid s).count .adoptions = s.count .adoptions := count_of_counters_eq (by simp [removeRec, cuReport])
    generalize removeRec x.rid s = u at *
    obtain ⟨others, hothers⟩ : ∃ others, others = s.cu.events.filter (fun r => r.rid != x.rid) := ⟨_, rfl⟩
    have hmem (r : EventRec) : r ∈ others ↔ r ∈ s.cu.events ∧ r.rid ≠ x.rid := by
      rw [hothers, List.mem_filter, bne_iff_ne]
    have hnext : u.cu.nextRid = s.cu.nextRid := by rw [hucu]
    obtain ⟨c, r, hready, hadopts⟩ := declAdoptNew_ready (d := d) hplace (others := others) (by rw [hucu, hothers])
      (fun y hy => by rw [hnext]; exact (hfar y ((hmem y).mp hy).1).1)
    obtain ⟨r', hleads⟩ := hadopts.offered (by rw [hucs]; exact hno)
    have hgains := hadopts.gains.trans hleads.gains
    rw [hready, cuRequest_cu, cuRequest_count]
    refine ⟨fun y hy hne => hleads.holds.mem.mpr (.inr ((hmem y).mpr ⟨hy, hne⟩)), fun y hy hne => ?_,
      ⟨r', hleads.holds.mem.mpr (.inl rfl), hgains.rid.trans hnext, hgains.state, hgains.id, hgains.update⟩, fun e he hbound => ?_,
      (hleads.grown.count _ (by decide)).trans (hadopts.adoptions.trans (by rw [hucount]))⟩
    · rcases hleads.holds.mem.mp hy with rfl | hy
      · exact absurd (hgains.rid.trans hnext) hne
      · exact (hmem y).mp hy
    · have hx := (hfar x (victim_mem hvictim)).1
      have hnot : some s.cu.nextRid ≠ some x.rid := fun h => hx (Option.some.inj h).symm
      rcases hleads.grown.bound e he with he | hnew
      · rcases hadopts.entries e he with he | hnew
        · rw [hucu] at he
          exact absurd hbound (by simpa using (List.mem_filter.mp he).2)
        · exact hnot (by rw [← hnext, ← hnew, hbound])
      · rw [hadopts.gains.rid] at hnew
        exact hnot (by rw [← hnext, ← hbound, hnew]; rfl)
  · have hplace : makePlace none s = none := by rw [makePlace_of_full hfull, hvictim]; rfl
    unfold declAdoptNew
    rw [hplace]

end

end Sys2Proof.Machine

/-! PROOFS. Declarations against the only record near them (R131 to R134). -/
namespace Sys2Proof.Machine
set_option Elab.async false

section
variable {s t u v w : State} {c : Counter} {r r' x y : EventRec} {others : List EventRec} {d : DeclBody} {k sender : Nat}

/-- All onsets of a declaration and of a record lie within W_c of each other. -/
def DeclBody.fits (d : DeclBody) (wc : Nat) (x : EventRec) : Prop :=
  (∀ p ∈ d.parts, ∀ q ∈ d.parts, timeGap (rebuildOnset d.earliest p.offset) (rebuildOnset d.earliest q.offset) ≤ wc) ∧
  (∀ p ∈ d.parts, ∀ y ∈ x.parts, timeGap (rebuildOnset d.earliest p.offset) y.onset ≤ wc ∧
    timeGap y.onset (rebuildOnset d.earliest p.offset) ≤ wc) ∧
  (∀ y ∈ x.parts, ∀ z ∈ x.parts, timeGap y.onset z.onset ≤ wc)

theorem DeclBody.fits.near {wc : Nat} (h : d.fits wc x) :
    partsNear wc d.rebuilt ∧ (∀ p ∈ d.rebuilt, ∀ q ∈ x.parts, timeGap q.onset p.onset ≤ wc) ∧
    (∀ q ∈ x.parts, ∀ p ∈ d.rebuilt, timeGap p.onset q.onset ≤ wc) ∧ partsNear wc x.parts := by
  obtain ⟨hd, hboth, hx⟩ := h
  refine ⟨fun p hp q hq => ?_, fun p hp q hq => ?_, fun q hq p hp => ?_, fun p hp q hq => hx q hq p hp⟩
  · obtain ⟨a, ha, rfl⟩ := List.mem_map.mp hp
    obtain ⟨b, hb, rfl⟩ := List.mem_map.mp hq
    exact hd b hb a ha
  · obtain ⟨a, ha, rfl⟩ := List.mem_map.mp hp
    exact (hboth a ha q hq).2
  · obtain ⟨a, ha, rfl⟩ := List.mem_map.mp hp
    exact (hboth a ha q hq).1

/-- The declaration's participants in a record. -/
def EventRec.hasDeclared (r : EventRec) (d : DeclBody) : Prop := ∀ p ∈ d.parts, ∃ y ∈ r.parts, y.station = p.station ∧ p.peak ≤ y.peak

theorem EventRec.hasParts.declared (h : r.hasParts d.rebuilt) (hrange : ∀ p ∈ d.parts, 1 ≤ p.station ∧ p.station ≤ 14) :
    r.hasDeclared d := fun p hp =>
  h { station := p.station, onset := rebuildOnset d.earliest p.offset, peak := p.peak } (List.mem_map.mpr ⟨p, hp, rfl⟩)
    (hrange p hp).1 (hrange p hp).2

theorem State.Holds.updated_of (h : s.Holds r others) {f : EventRec → EventRec} (hk : r.rid = k) (hf : (f r).rid = r.rid) :
    (updRec k f s).Holds (f r) others := by
  rw [← hk]
  exact h.updated hf

/-- A declaration merged into a record beside none or finished ones (R123). -/
theorem State.Holds.mergeDecl_leads (h : s.Holds r others) (hothers : ∀ y ∈ others, y.state.live = false) (d : DeclBody) :
    ∃ r', s.Leads (mergeDecl r.rid d s) r r' others ∧ (d.fits s.window r → r'.hasParts d.rebuilt) := by
  obtain ⟨r', hleads, -, hcover⟩ := h.mergeParts_leads d.rebuilt
  rw [mergeDecl_eq]
  exact ⟨r', hleads, fun hfits => hcover hothers hfits.near.2.1 hfits.near.1⟩

theorem State.Grown.all_bound {k : Nat} (h : s.Grown t k) (hs : ∀ e ∈ s.cu.entries, e.bound.isSome) : ∀ e ∈ t.cu.entries, e.bound.isSome :=
  fun e he => (h.bound e he).elim (hs e) fun hk => by rw [hk]; rfl

/-- A declaration of the record's own id (R131). -/
theorem declUpdate_only (hevents : s.cu.events = [x]) (hno : s.cs.image.uplink = false) (hbound : ∀ e ∈ s.cu.entries, e.bound.isSome) :
    ∃ r r1, (declUpdate x d s).cu.events = [r] ∧ x.Gains r1 ∧ r = { r1 with update := max x.update d.update } ∧
      (d.fits s.window x → r.hasParts d.rebuilt) := by
  obtain ⟨r1, hleads, hparts⟩ := (holds_only hevents).mergeDecl_leads (by simp) d
  have hraised : (updRec x.rid (fun x => { x with update := max x.update d.update }) (mergeDecl x.rid d s)).Holds
      { r1 with update := max r1.update d.update } [] :=
    hleads.holds.updated_of (f := fun x => { x with update := max x.update d.update }) hleads.gains.rid rfl
  have hupd : declUpdate x d s = updRec x.rid (fun x => { x with update := max x.update d.update }) (mergeDecl x.rid d s) := by
    have hoff : (updRec x.rid (fun x => { x with update := max x.update d.update }) (mergeDecl x.rid d s)).cs.image.uplink = false :=
      hleads.grown.uplink.trans hno
    have hfree := hleads.grown.all_bound hbound
    generalize hv : updRec x.rid (fun x => { x with update := max x.update d.update }) (mergeDecl x.rid d s) = v at *
    have hcu : v.cu.entries = (mergeDecl x.rid d s).cu.entries := by rw [← hv]; rfl
    unfold declUpdate
    dsimp only
    rw [hv, ucUpdate_of_no_uplink hoff, ite_self, offerTo_of_bound (by rw [hcu]; exact hfree)]
  rw [hupd]
  exact ⟨_, r1, hraised.events, hleads.gains, by rw [hleads.gains.update], fun hfits => EventRec.hasParts_congr rfl (hparts hfits)⟩

/-- A HOLDOFF record as the declaration adopts it (R132). -/
def EventRec.adopt (x : EventRec) (d : DeclBody) : EventRec :=
  { x with state := .adopted, id := some d.id, update := d.update, holdoff := none }

/-- The state in which the event report of an adopted HOLDOFF record is raised (R132). -/
theorem declAdoptHoldoff_ready (hevents : s.cu.events = [x]) : ∃ c r, declAdoptHoldoff x d s = offerTo x.rid (ucNewEvent x.rid c) ∧
    c.Holds r [] ∧ (x.adopt d).Gains r ∧ c.cs = s.cs ∧ c.uc = s.uc ∧ c.now = s.now ∧
    c.count .adoptions = min (s.count .adoptions + 1) 65535 ∧
    (∀ z, z ≠ .adoptions → z ≠ .participantsLeftOut → c.count z = s.count z) ∧
    (∀ e ∈ s.cu.entries, e.bound = some x.rid → { e with confirmed := true } ∈ c.cu.entries) ∧
    (d.fits s.window x → r.hasParts d.rebuilt) := by
  obtain ⟨a, ha⟩ : ∃ a, a = updRec x.rid (fun r => { r with state := .adopted, id := some d.id, update := d.update, holdoff := none }) s :=
    ⟨_, rfl⟩
  have haholds : a.Holds (x.adopt d) [] := by
    rw [ha]
    exact (holds_only hevents).updated rfl
  obtain ⟨r, hleads, hparts⟩ := haholds.mergeDecl_leads (by simp) d
  have hrid : (x.adopt d).rid = x.rid := rfl
  rw [hrid] at hleads
  obtain ⟨b, hb⟩ : ∃ b, b = mergeDecl x.rid d a := ⟨_, rfl⟩
  refine ⟨cuReportOpen (bump .adoptions (confirmEntries x.rid b)), r, by rw [hb, ha]; rfl, ?_⟩
  rw [← hb] at hleads
  obtain ⟨-, -, htb, -, -, -, -, -, -, -, hcs, -⟩ := rest_of_besideEvents hleads.grown.beside
  have hcount (z : Counter) : (cuReportOpen (bump .adoptions (confirmEntries x.rid b))).count z =
      if .adoptions = z then min (b.count z + 1) 65535 else b.count z :=
    (count_of_counters_eq (t := bump .adoptions b) rfl).symm.trans count_bump
  refine ⟨hleads.holds.congr (by simp [cuReportOpen, confirmEntries, setEntries]), hleads.gains, ?_, ?_, ?_, ?_, fun z h1 h2 => ?_,
    fun e he hbound => ?_, fun hfits => hparts ?_⟩
  · rw [show (cuReportOpen (bump .adoptions (confirmEntries x.rid b))).cs = b.cs by simp [cuReportOpen], hcs, ha]
    rfl
  · rw [show (cuReportOpen (bump .adoptions (confirmEntries x.rid b))).uc = b.uc by simp [cuReportOpen], hleads.grown.uc, ha]
    rfl
  · refine (congrArg Timebase.elapsed
      ((by simp [cuReportOpen] : (cuReportOpen (bump .adoptions (confirmEntries x.rid b))).tb = b.tb).trans htb)).trans ?_
    rw [ha]
    rfl
  · rw [hcount, if_pos rfl, hleads.grown.count _ (by decide), ha]
    rfl
  · rw [hcount, if_neg (Ne.symm h1), hleads.grown.count z h2, ha]
    rfl
  · have hmem : e ∈ b.cu.entries := hleads.grown.kept e (by rw [ha]; exact he) (by rw [hbound]; rfl)
    rw [show (cuReportOpen (bump .adoptions (confirmEntries x.rid b))).cu = (confirmEntries x.rid b).cu by simp [cuReportOpen],
      mem_confirmEntries]
    exact ⟨e, hmem, by rw [if_pos (by simp [hbound])]⟩
  · rw [ha]
    exact hfits

/-- The own DECLARED record wins (R133). -/
theorem conflictWon_only (hevents : s.cu.events = [x]) (hno : s.cs.image.uplink = false) (hbound : ∀ e ∈ s.cu.entries, e.bound.isSome) :
    ∃ r, (conflictWon x d s).cu.events = [r.owed] ∧ x.Gains r ∧ (d.fits s.window x → r.hasParts d.rebuilt) ∧
      (conflictWon x d s).count .conflictsWon = min (s.count .conflictsWon + 1) 65535 := by
  obtain ⟨r, hleads, hparts⟩ := (holds_only hevents).mergeDecl_leads (by simp) d
  obtain ⟨b, hb⟩ : ∃ b, b = mergeDecl x.rid d s := ⟨_, rfl⟩
  rw [← hb] at hleads
  have howe : (oweUpdate x.rid b).cu.events = [r.owed] ∧ (oweUpdate x.rid b).cu.entries = b.cu.entries ∧
      (oweUpdate x.rid b).count .conflictsWon = b.count .conflictsWon := by
    have hrule := oweUpdate_only hleads.holds.events
    rw [hleads.gains.rid] at hrule
    rw [hrule, ucUpdate_of_no_uplink (by exact hleads.grown.uplink.trans hno)]
    by_cases hmay : r.mayOwe = true
    · rw [if_pos hmay]
      exact ⟨rfl, rfl, rfl⟩
    · rw [if_neg hmay, EventRec.owed, if_neg hmay]
      exact ⟨hleads.holds.events, rfl, rfl⟩
  have hwon : conflictWon x d s = bump .conflictsWon (oweUpdate x.rid b) := by
    unfold conflictWon
    rw [← hb, offerTo_of_bound (by rw [howe.2.1]; exact hleads.grown.all_bound hbound)]
  rw [hwon]
  refine ⟨r, howe.1, hleads.gains, hparts, ?_⟩
  rw [count_bump, if_pos rfl, howe.2.2, hleads.grown.count _ (by decide)]

/-- An ADOPTED record and a declaration of another id near it (R134). -/
theorem conflictAdopted_only (hevents : s.cu.events = [x]) (hstate : x.state = .adopted) (hno : s.cs.image.uplink = false) :
    ∃ y r, (conflictAdopted x d s).cu.events = [r] ∧ y.Gains r ∧ (d.fits s.window x → r.hasParts d.rebuilt) ∧
      y = if declWins d x then { x with id := some d.id, update := d.update } else x := by
  obtain ⟨y, hy⟩ : ∃ y, y = if declWins d x then { x with id := some d.id, update := d.update } else x := ⟨_, rfl⟩
  obtain ⟨a, ha⟩ : ∃ a, a = if declWins d x then updRec x.rid (fun r => { r with id := some d.id, update := d.update }) s else s := ⟨_, rfl⟩
  have hafacts : a.Holds y [] ∧ y.rid = x.rid ∧ y.state = .adopted ∧ y.parts = x.parts ∧ a.cs = s.cs := by
    by_cases hwins : declWins d x = true
    · rw [ha, hy, if_pos hwins, if_pos hwins]
      exact ⟨(holds_only hevents).updated rfl, rfl, hstate, rfl, rfl⟩
    · rw [ha, hy, if_neg hwins, if_neg hwins]
      exact ⟨holds_only hevents, rfl, hstate, rfl, rfl⟩
  obtain ⟨haholds, hrid, hystate, hyparts, hacs⟩ := hafacts
  obtain ⟨r, hleads, hparts⟩ := haholds.mergeDecl_leads (by simp) d
  obtain ⟨r', hoffer⟩ := hleads.holds.offerTo_leads (by rw [hleads.gains.state, hystate]; exact fun h => by cases h)
  rw [hleads.gains.rid, hrid] at hoffer
  rw [hrid] at hleads
  have hconflict : conflictAdopted x d s = offerTo x.rid (mergeDecl x.rid d a) := by
    unfold conflictAdopted
    by_cases hwins : declWins d x = true
    · rw [if_pos hwins]
      rw [if_pos hwins] at ha
      dsimp only
      rw [← ha]
      have hchange : ucChangeId x.rid x.id (mergeDecl x.rid d a) = mergeDecl x.rid d a := by
        unfold ucChangeId
        rw [show (mergeDecl x.rid d a).cs.image.uplink = false from hleads.grown.uplink.trans (by rw [hacs]; exact hno)]
      rw [hchange]
    · rw [if_neg hwins]
      rw [if_neg hwins] at ha
      rw [ha]
  rw [hconflict]
  refine ⟨y, r', hoffer.holds.events, hleads.gains.trans hoffer.gains, fun hfits => hoffer.gains.hasParts (hparts ?_), hy⟩
  have hwindow : a.window = s.window := by
    unfold State.window
    rw [hacs]
  rw [hwindow]
  unfold DeclBody.fits at *
  rwa [hyparts]

end

end Sys2Proof.Machine

/-! PROOFS. The own DECLARED record loses to a declaration (R133). -/
namespace Sys2Proof.Machine
set_option Elab.async false

section
variable {s t u v w : State} {c : Counter} {r r' x x1 y : EventRec} {others : List EventRec} {d : DeclBody} {k sender : Nat}

/-- The record that loses to a declaration (R133). -/
def EventRec.lose (x : EventRec) (d : DeclBody) (now : Elapsed) : EventRec :=
  { x with state := .merged, mergedInto := some d.id, finished := some now, declOwed := false }

/-- The state behind the withdrawal of a losing record's report (R133, R153). -/
def State.losing (s : State) (x : EventRec) (d : DeclBody) : State :=
  ucWithdraw x.rid (cuReport (updRec x.rid (fun r =>
    { r with state := .merged, mergedInto := some d.id, finished := some s.now, declOwed := false }) s))

/-- The state in which the event report of the new record is raised: `r` is the new record, `x1` the loser. -/
structure State.Loses (u : State) (x x1 : EventRec) (d : DeclBody) (c : State) (r : EventRec) : Prop where
  holds : c.Holds r [x1]
  gains : (newRec u .adopted (some d.id) d.update d.earliest x.opened).Gains r
  cs : c.cs = u.cs
  uc : c.uc = u.uc
  now : c.now = u.now
  counts : ∀ z, z ≠ .participantsLeftOut → c.count z = u.count z
  entries : ∀ e ∈ u.cu.entries, e.bound = some x.rid → { e with bound := some u.cu.nextRid, confirmed := true } ∈ c.cu.entries
  parts : d.fits u.window x → r.hasParts d.rebuilt ∧ r.hasParts x.parts

theorem conflictLost_ready (hu : u = s.losing x d) (hevents : u.cu.events = [x1]) (hrid : x1.rid ≠ u.cu.nextRid)
    (hstate : x1.state = .merged) :
    ∃ c r, conflictLost x d s = bump .conflictsLost (ucPromote (offerTo u.cu.nextRid (ucNewEvent u.cu.nextRid c))) ∧
      u.Loses x x1 d c r := by
  obtain ⟨y, hy⟩ : ∃ y, y = newRec u .adopted (some d.id) d.update d.earliest x.opened := ⟨_, rfl⟩
  have hyrid : y.rid = u.cu.nextRid := by rw [hy]; rfl
  have hdead : ∀ z ∈ [x1], z.state.live = false := fun z hz => by rw [List.mem_singleton.mp hz, hstate]; rfl
  have hinsert : (insertRec y u).Holds y [x1] := by
    refine insertRec_holds (by rw [hevents]) fun z hz => ?_
    rw [List.mem_singleton.mp hz, hyrid]
    exact hrid
  obtain ⟨r1, hleads1, horigin, hcover1⟩ := hinsert.mergeParts_leads d.rebuilt
  obtain ⟨r, hleads2, -, hcover2⟩ := hleads1.holds.mergeParts_leads x.parts
  rw [hleads1.gains.rid] at hleads2
  have hleads := hleads1.trans hleads2
  obtain ⟨b, hb⟩ : ∃ b, b = mergeParts y.rid x.parts (mergeParts y.rid d.rebuilt (insertRec y u)) := ⟨_, rfl⟩
  rw [← hb] at hleads
  obtain ⟨c, hc⟩ : ∃ c, c = cuReportOpen (setEntries (b.cu.entries.map (fun e =>
        if e.bound == some x.rid then { e with bound := some u.cu.nextRid, confirmed := true } else e)) b) := ⟨_, rfl⟩
  refine ⟨c, r, ?_, ?_⟩
  · have hplace : makePlace (some x.rid) (s.losing x d) = some u := by
      rw [← hu]
      exact if_pos (by rw [hevents]; simp)
    unfold State.losing at hplace
    unfold conflictLost
    dsimp only
    rw [hplace]
    dsimp only
    rw [← hy, mergeDecl_eq, ← hyrid, hc, ← hyrid, hb]
    rfl
  obtain ⟨-, -, htb, -, -, -, -, -, -, -, hcs, -⟩ := rest_of_besideEvents hleads.grown.beside
  refine ⟨hleads.holds.congr (by rw [hc]; rfl), by rw [← hy]; exact hleads.gains, ?_, ?_, ?_, fun z hz => ?_, fun e he hbound => ?_,
    fun hfits => ?_⟩
  · rw [hc]
    exact hcs
  · rw [hc]
    exact hleads.grown.uc
  · rw [hc]
    exact congrArg Timebase.elapsed htb
  · rw [hc]
    exact hleads.grown.count z hz
  · have hmem : e ∈ b.cu.entries := hleads.grown.kept e he (by rw [hbound]; rfl)
    rw [hc]
    show _ ∈ (setEntries _ b).cu.entries
    rw [mem_setEntries, List.mem_map]
    exact ⟨e, hmem, by rw [if_pos (by simp [hbound])]⟩
  · obtain ⟨hdd, hdx, hxd, hxx⟩ := hfits.near
    have hwindow : (mergeParts y.rid d.rebuilt (insertRec y u)).window = u.window := hleads1.grown.window
    have hfrom (q : Part) (hq : q ∈ r1.parts) : ∃ p ∈ d.rebuilt, q.onset = p.onset := by
      rcases horigin q hq with ⟨p, hp, -⟩ | ⟨p, hp, -, honset⟩
      · rw [hy] at hp
        cases hp
      · exact ⟨p, hp, honset⟩
    refine ⟨hleads2.gains.hasParts (hcover1 hdead (fun p hp q hq => ?_) hdd), hcover2 hdead (fun p hp q hq => ?_) ?_⟩
    · rw [hy] at hq
      cases hq
    · obtain ⟨z, hz, honset⟩ := hfrom q hq
      rw [hwindow, honset]
      exact hxd p hp z hz
    · rw [hwindow]
      exact hxx

/-- Without an uplink, and with no stacked entry, the conflict is settled by the tables alone (R133). -/
theorem conflictLost_only (hevents : s.cu.events = [x]) (hrid : x.rid ≠ s.cu.nextRid) (hno : s.cs.image.uplink = false)
    (hstacked : s.uc.stacked = []) :
    ∃ r, (∀ y, y ∈ (conflictLost x d s).cu.events ↔ y = r ∨ y = x.lose d s.now) ∧
      (newRec s .adopted (some d.id) d.update d.earliest x.opened).Gains r ∧
      (d.fits s.window x → r.hasParts d.rebuilt ∧ r.hasParts x.parts) ∧
      (∀ e ∈ s.cu.entries, e.bound = some x.rid → { e with bound := some s.cu.nextRid, confirmed := true } ∈ (conflictLost x d s).cu.entries) ∧
      (conflictLost x d s).count .conflictsLost = min (s.count .conflictsLost + 1) 65535 := by
  obtain ⟨u, hu⟩ : ∃ u, u = s.losing x d := ⟨_, rfl⟩
  have hucu : u = cuReport (s.setCu { s.cu with events := [x.lose d s.now] }) := by
    have hupd := updRec_only (f := fun r => { r with state := .merged, mergedInto := some d.id, finished := some s.now, declOwed := false }) hevents
    have hwith : s.losing x d = cuReport (updRec x.rid (fun r =>
        { r with state := .merged, mergedInto := some d.id, finished := some s.now, declOwed := false }) s) := by
      unfold State.losing ucWithdraw
      exact if_pos (by simpa [cuReport] using hno)
    rw [hu, hwith]
    have hset : updRec x.rid (fun r => { r with state := .merged, mergedInto := some d.id, finished := some s.now, declOwed := false }) s =
        s.setCu { s.cu with events := [x.lose d s.now] } := by
      show s.setCu _ = s.setCu _
      exact congrArg s.setCu hupd
    rw [hset]
  obtain ⟨c, r, hready, hloses⟩ := conflictLost_ready hu (x1 := x.lose d s.now) (by rw [hucu]; rfl) (by rw [hucu]; exact hrid) rfl
  have hnext : u.cu.nextRid = s.cu.nextRid := by rw [hucu]; rfl
  have hraise : ucNewEvent u.cu.nextRid c = c := by
    refine ucNewEvent_of_no_uplink ?_
    rw [hloses.cs, hucu]
    exact hno
  obtain ⟨r', hoffer⟩ := hloses.holds.offerTo_leads (by rw [hloses.gains.state]; exact fun h => by cases h)
  rw [hloses.gains.rid] at hoffer
  change c.Leads (offerTo u.cu.nextRid c) r r' _ at hoffer
  have hpromote : ucPromote (offerTo u.cu.nextRid c) = offerTo u.cu.nextRid c := by
    refine ucPromote_of_none ?_
    rw [hoffer.grown.uc, hloses.uc, hucu]
    exact hstacked
  rw [hready, hraise, hpromote]
  refine ⟨r', fun y => ?_, ?_, fun hfits => ?_, fun e he hbound => ?_, ?_⟩
  · exact hoffer.holds.mem.trans (by rw [List.mem_singleton])
  · have := hloses.gains.trans hoffer.gains
    rw [hucu] at this
    exact this
  · have hparts := hloses.parts (by rw [hucu]; exact hfits)
    exact ⟨hoffer.gains.hasParts hparts.1, hoffer.gains.hasParts hparts.2⟩
  · have hmem := hloses.entries e (by rw [hucu]; exact he) hbound
    rw [hnext] at hmem
    exact hoffer.grown.kept _ hmem rfl
  · rw [count_bump, if_pos rfl, hoffer.grown.count _ (by decide), hloses.counts _ (by decide), hucu]
    rfl

end

end Sys2Proof.Machine

/-! PROOFS. O37 at a station without an uplink. -/
namespace Sys2Proof.Machine
set_option Elab.async false

section
variable {s t v : State} {r x : EventRec} {d : DeclBody} {sender : Nat}

theorem State.Declares.window (h : s.Declares sender d v t) : v.window = secs s.cs.image.wc := by
  unfold State.window
  rw [h.cs]

/-- A declaration merged into the record it meets (R123). -/
def DeclBody.meets (d : DeclBody) (s : State) (x r : EventRec) : Prop := d.fits (secs s.cs.image.wc) x → r.hasDeclared d

theorem EventRec.owed_of_may (hstate : r.state = .declared) :
    (r.declOwed = true → r.carried = none → r.owed.update = r.update ∧ r.owed.declOwed = true) ∧
    (r.declOwed = false ∨ r.carried.isSome →
      (r.update < 3 → r.owed.update = r.update + 1 ∧ r.owed.declOwed = true) ∧
      (3 ≤ r.update → r.owed.update = r.update ∧ r.owed.declOwed = r.declOwed)) := by
  refine ⟨fun howed hcarried => ?_, fun hmay => ⟨fun hlt => ?_, fun hge => ?_⟩⟩
  · rw [EventRec.owed, if_neg (by simp [EventRec.mayOwe, howed, hcarried])]
    exact ⟨rfl, howed⟩
  · have hmayOwe : r.mayOwe = true := by
      unfold EventRec.mayOwe
      rw [hstate]
      rcases hmay with hmay | hmay
      · simp [hmay, hlt]
      · obtain ⟨k, hk⟩ := Option.isSome_iff_exists.mp hmay
        simp [hk, hlt]
    rw [EventRec.owed, if_pos hmayOwe]
    exact ⟨rfl, rfl⟩
  · rw [EventRec.owed, if_neg (by simp [EventRec.mayOwe]; omega)]
    exact ⟨rfl, rfl⟩

/-- A declaration of the only record's own id (R131). -/
theorem declaration_updates (h : s.Declares sender d v t) (hno : s.cs.image.uplink = false) (horigin : d.id.origin = sender)
    (hrange : ∀ p ∈ d.parts, 1 ≤ p.station ∧ p.station ≤ 14) (hevents : s.cu.events = [x])
    (hnear : timeGap x.earliest d.earliest ≤ secs s.cs.image.wc) (hid : x.id = some d.id) (hbound : ∀ e ∈ s.cu.entries, e.bound.isSome) :
    ∃ r, t.cu.events = [r] ∧ r.rid = x.rid ∧ r.state = x.state ∧ r.id = x.id ∧ r.update = max x.update d.update ∧
      r.declOwed = x.declOwed ∧ r.opened = x.opened ∧ d.meets s x r := by
  obtain ⟨r, r1, hr, hgains, hsame, hparts⟩ := declUpdate_only (s := v) (d := d) (by rw [h.cu]; exact hevents) (by rw [h.cs]; exact hno)
    (by rw [h.cu]; exact hbound)
  rw [h.window] at hparts
  have hbranch := cuDeclaration_of_known (s := v) horigin (by rw [h.cu]; exact hevents) hid (by rw [h.cs]; exact hnear)
  refine ⟨r, by rw [h.tables, hbranch, cuRequest_cu, hr], ?_⟩
  have hmeets : d.meets s x r := fun hfits => (hparts hfits).declared hrange
  rw [hsame] at hmeets ⊢
  exact ⟨hgains.rid, hgains.state, hgains.id, rfl, hgains.declOwed, hgains.opened, hmeets⟩

/-- A declaration near the only record, a HOLDOFF one (R132). -/
theorem declaration_adopts_holdoff (h : s.Declares sender d v t) (hno : s.cs.image.uplink = false) (horigin : d.id.origin = sender)
    (hrange : ∀ p ∈ d.parts, 1 ≤ p.station ∧ p.station ≤ 14) (hevents : s.cu.events = [x])
    (hnear : timeGap x.earliest d.earliest ≤ secs s.cs.image.wc) (hid : x.id ≠ some d.id) (hstate : x.state = .holdoff) :
    ∃ r, t.cu.events = [r] ∧ r.rid = x.rid ∧ r.state = .adopted ∧ r.id = some d.id ∧ r.update = d.update ∧
      r.holdoff = none ∧ r.declOwed = x.declOwed ∧ d.meets s x r ∧ t.count .adoptions = min (s.count .adoptions + 1) 65535 ∧
      (∀ e ∈ s.cu.entries, e.bound = some x.rid → { e with confirmed := true } ∈ t.cu.entries) := by
  obtain ⟨c, r, hready, hholds, hgains, hcs, -, -, hadoptions, -, hentries, hparts⟩ :=
    declAdoptHoldoff_ready (s := v) (x := x) (d := d) (by rw [h.cu]; exact hevents)
  rw [h.window] at hparts
  have hraise : ucNewEvent x.rid c = c := ucNewEvent_of_no_uplink (by rw [hcs, h.cs]; exact hno)
  obtain ⟨r', hoffer⟩ := hholds.offerTo_leads (by rw [hgains.state]; exact fun h => by cases h)
  rw [hgains.rid] at hoffer
  change c.Leads (offerTo x.rid c) r r' _ at hoffer
  have hbranch := cuDeclaration_of_near (s := v) horigin (by rw [h.cu]; exact hevents) hid (by rw [hstate]; rfl) (by rw [h.cs]; exact hnear)
  have hmeet : declMeets x d v = offerTo x.rid c := by
    unfold declMeets
    rw [hstate]
    exact hready.trans (by rw [hraise])
  rw [hmeet] at hbranch
  have hg := hgains.trans hoffer.gains
  have hholdoff : r'.holdoff = none := by rw [hg.same]; rfl
  refine ⟨r', ?_, hg.rid, hg.state, hg.id, hg.update, hholdoff, hg.declOwed,
    fun hfits => (hoffer.gains.hasParts (hparts hfits)).declared hrange, ?_, fun e he hbound => ?_⟩
  · rw [h.tables, hbranch, cuRequest_cu, hoffer.holds.events]
  · rw [h.counts _ (by decide) (by decide), hbranch, cuRequest_count, hoffer.grown.count _ (by decide), hadoptions,
      h.count _ (by decide)]
  · rw [h.tables, hbranch, cuRequest_cu]
    exact hoffer.grown.kept _ (hentries e (by rw [h.cu]; exact he) hbound) (by rw [hbound]; rfl)

/-- A declaration that wins over the own DECLARED record (R133). -/
theorem declaration_wins (h : s.Declares sender d v t) (hno : s.cs.image.uplink = false) (horigin : d.id.origin = sender)
    (hrange : ∀ p ∈ d.parts, 1 ≤ p.station ∧ p.station ≤ 14) (hevents : s.cu.events = [x])
    (hnear : timeGap x.earliest d.earliest ≤ secs s.cs.image.wc) (hrid : x.rid ≠ s.cu.nextRid) (hstacked : s.uc.stacked = [])
    (hid : x.id ≠ some d.id) (hstate : x.state = .declared) (hwins : declWins d x = true) :
    ∃ r, (∀ y, y ∈ t.cu.events ↔ y = r ∨ y = x.lose d s.now) ∧
      r.rid = s.cu.nextRid ∧ r.state = .adopted ∧ r.id = some d.id ∧ r.update = d.update ∧ r.declOwed = false ∧
      r.opened = x.opened ∧ d.meets s x r ∧
      (d.fits (secs s.cs.image.wc) x → ∀ p ∈ x.parts, 1 ≤ p.station → p.station ≤ 14 → ∃ y ∈ r.parts, y.station = p.station ∧ p.peak ≤ y.peak) ∧
      (∀ e ∈ s.cu.entries, e.bound = some x.rid → { e with bound := some r.rid, confirmed := true } ∈ t.cu.entries) ∧
      t.count .conflictsLost = min (s.count .conflictsLost + 1) 65535 := by
  obtain ⟨r, hmem, hgains, hparts, hentries, hcount⟩ := conflictLost_only (s := v) (x := x) (d := d) (by rw [h.cu]; exact hevents)
    (by rw [h.cu]; exact hrid) (by rw [h.cs]; exact hno) (by rw [h.uc]; exact hstacked)
  rw [h.window] at hparts
  have hbranch := cuDeclaration_of_near (s := v) horigin (by rw [h.cu]; exact hevents) hid (by rw [hstate]; rfl) (by rw [h.cs]; exact hnear)
  have hmeet : declMeets x d v = conflictLost x d v := by
    unfold declMeets
    rw [hstate, hwins]
    rfl
  rw [hmeet] at hbranch
  have hnext : r.rid = s.cu.nextRid := hgains.rid.trans (congrArg Coincidence.nextRid h.cu)
  refine ⟨r, fun y => ?_, hnext, hgains.state, hgains.id, hgains.update, hgains.declOwed, hgains.opened,
    fun hfits => (hparts hfits).1.declared hrange, fun hfits => (hparts hfits).2, fun e he hbound => ?_, ?_⟩
  · rw [h.tables, hbranch, cuRequest_cu, hmem, h.now]
  · rw [h.tables, hbranch, cuRequest_cu, hnext]
    have := hentries e (by rw [h.cu]; exact he) hbound
    rwa [h.cu] at this
  · rw [h.counts _ (by decide) (by decide), hbranch, cuRequest_count, hcount, h.count _ (by decide)]

/-- A declaration that loses to the own DECLARED record (R133, R135). -/
theorem declaration_loses (h : s.Declares sender d v t) (hno : s.cs.image.uplink = false) (horigin : d.id.origin = sender)
    (hrange : ∀ p ∈ d.parts, 1 ≤ p.station ∧ p.station ≤ 14) (hevents : s.cu.events = [x])
    (hnear : timeGap x.earliest d.earliest ≤ secs s.cs.image.wc) (hsends : s.listenOnly = false)
    (hid : x.id ≠ some d.id) (hstate : x.state = .declared) (hwins : ¬ declWins d x = true) (hbound : ∀ e ∈ s.cu.entries, e.bound.isSome) :
    ∃ r, t.cu.events = [r] ∧ r.rid = x.rid ∧ r.state = .declared ∧ r.id = x.id ∧ d.meets s x r ∧
      (x.declOwed = true → x.carried = none → r.update = x.update ∧ r.declOwed = true) ∧
      (x.declOwed = false ∨ x.carried.isSome →
        (x.update < 3 → r.update = x.update + 1 ∧ r.declOwed = true) ∧
        (3 ≤ x.update → r.update = x.update ∧ r.declOwed = x.declOwed)) ∧
      (r.declOwed = true → t.lc.slots.declaration.isSome) ∧
      t.count .conflictsWon = min (s.count .conflictsWon + 1) 65535 := by
  obtain ⟨r, hevent, hgains, hparts, hcount⟩ := conflictWon_only (s := v) (x := x) (d := d) (by rw [h.cu]; exact hevents)
    (by rw [h.cs]; exact hno) (by rw [h.cu]; exact hbound)
  rw [h.window] at hparts
  have hbranch := cuDeclaration_of_near (s := v) horigin (by rw [h.cu]; exact hevents) hid (by rw [hstate]; rfl) (by rw [h.cs]; exact hnear)
  have hmeet : declMeets x d v = conflictWon x d v := by
    unfold declMeets
    rw [hstate, Bool.not_eq_true _ |>.mp hwins]
    rfl
  rw [hmeet] at hbranch
  have htakes := h.takes hsends
  rw [hbranch] at htakes
  have hcarried : r.carried = x.carried := by rw [hgains.same]
  have hrstate : r.state = .declared := hgains.state.trans hstate
  obtain ⟨horid, hostate, hoid, hoparts, -⟩ := r.owed_facts
  obtain ⟨hstays, hrises⟩ := EventRec.owed_of_may hrstate
  rw [hgains.declOwed, hcarried, hgains.update] at hstays hrises
  refine ⟨r.owed, ?_, horid.trans hgains.rid, hostate.trans hrstate, hoid.trans hgains.id, fun hfits => ?_, hstays, hrises,
    fun howed => ?_, ?_⟩
  · rw [h.tables, hbranch, cuRequest_cu, hevent]
  · exact (EventRec.hasParts_congr hoparts (hparts hfits)).declared hrange
  · rw [h.slots, hbranch]
    refine cuRequest_fills ?_ ?_
    · rw [hevent]
      simp [EventRec.owes, howed, hostate, hrstate]
    · rwa [lcTakes_of_besideEvents cuRequest_besideEvents] at htakes
  · rw [h.counts _ (by decide) (by decide), hbranch, cuRequest_count, hcount, h.count _ (by decide)]

/-- A declaration near the only record, an ADOPTED one of another id (R134). -/
theorem declaration_meets_adopted (h : s.Declares sender d v t) (hno : s.cs.image.uplink = false) (horigin : d.id.origin = sender)
    (hrange : ∀ p ∈ d.parts, 1 ≤ p.station ∧ p.station ≤ 14) (hevents : s.cu.events = [x])
    (hnear : timeGap x.earliest d.earliest ≤ secs s.cs.image.wc) (hid : x.id ≠ some d.id) (hstate : x.state = .adopted) :
    ∃ r, t.cu.events = [r] ∧ r.rid = x.rid ∧ r.state = .adopted ∧ r.declOwed = x.declOwed ∧ d.meets s x r ∧
      (declWins d x = true → r.id = some d.id ∧ r.update = d.update) ∧ (¬ declWins d x = true → r.id = x.id ∧ r.update = x.update) := by
  obtain ⟨y, r, hevent, hgains, hparts, hy⟩ := conflictAdopted_only (s := v) (x := x) (d := d) (by rw [h.cu]; exact hevents) hstate
    (by rw [h.cs]; exact hno)
  rw [h.window] at hparts
  have hbranch := cuDeclaration_of_near (s := v) horigin (by rw [h.cu]; exact hevents) hid (by rw [hstate]; rfl) (by rw [h.cs]; exact hnear)
  have hmeet : declMeets x d v = conflictAdopted x d v := by
    unfold declMeets
    rw [hstate]
  rw [hmeet] at hbranch
  have hfields : y.rid = x.rid ∧ y.state = .adopted ∧ y.declOwed = x.declOwed := by
    rw [hy]
    split <;> exact ⟨rfl, hstate, rfl⟩
  refine ⟨r, by rw [h.tables, hbranch, cuRequest_cu, hevent], hgains.rid.trans hfields.1, hgains.state.trans hfields.2.1,
    hgains.declOwed.trans hfields.2.2, fun hfits => (hparts hfits).declared hrange, fun hwins => ?_, fun hwins => ?_⟩
  · rw [if_pos hwins] at hy
    rw [hgains.id, hgains.update, hy]
    exact ⟨rfl, rfl⟩
  · rw [if_neg hwins] at hy
    rw [hgains.id, hgains.update, hy]
    exact ⟨rfl, rfl⟩

end

end Sys2Proof.Machine

/-! PROOFS. The event report of an adopted declaration at a station with an uplink (R138, R142 to R146, R153). -/
namespace Sys2Proof.Machine
set_option Elab.async false

section
variable {s t u v w : State} {c : Counter} {r r' x x1 y : EventRec} {others : List EventRec} {d : DeclBody} {k sender : Nat}

theorem ucNewEvent_of_uplink (h : s.cs.image.uplink = true) : ucNewEvent k s = ucRaiseReport .event k s := if_pos h

/-- An EVENT that has been raised for the only record, the unbound entries then being offered to it. -/
structure State.Raises (s : State) (r : EventRec) (t : State) (r' : EventRec) : Prop where
  events : t.cu.events = [r']
  same : r'.rid = r.rid ∧ r'.state = r.state ∧ r'.id = r.id ∧ r'.update = r.update ∧ r'.delivered = r.delivered
  short : s.uc.queue.length ≤ 7 → t.uc = { s.uc with
      queue := placedAlert (s.freshAlert .event (some r.rid) r.id r.update) s.uc.queue } ∧ r'.uplink = .queued
  full : 8 ≤ s.uc.queue.length → (∀ a ∈ s.uc.queue, a.kind ≠ .health) →
    t.uc = { s.uc with stacked := s.uc.stacked ++ [{ kind := .event, rid := r.rid, retracts := none }] } ∧
    t.count .stacks = min (s.count .stacks + 1) 65535 ∧ r'.uplink = .stacked ∧ r'.owedUplink = some r.update

/-- What an offer to the record behind a report keeps of it. -/
theorem EventRec.Gains.report (h : r.Gains y) : y.uplink = r.uplink ∧ y.owedUplink = r.owedUplink ∧ y.delivered = r.delivered := by
  rw [h.same]
  exact ⟨rfl, rfl, rfl⟩

theorem offerTo_raised (hstate : r.state ≠ .declared) {x : UplinkState} {o : Option Nat}
    (hevents : t.cu.events = [{ r with uplink := x, owedUplink := o }]) :
    ∃ r', (offerTo r.rid t).cu.events = [r'] ∧ (offerTo r.rid t).uc = t.uc ∧ (offerTo r.rid t).count .stacks = t.count .stacks ∧
      (r'.rid = r.rid ∧ r'.state = r.state ∧ r'.id = r.id ∧ r'.update = r.update ∧ r'.delivered = r.delivered) ∧
      r'.uplink = x ∧ r'.owedUplink = o := by
  obtain ⟨r', hoffer⟩ := (holds_only hevents).offerTo_leads hstate
  have hg := hoffer.gains
  exact ⟨r', hoffer.holds.events, hoffer.grown.uc, hoffer.grown.count _ (by decide),
    ⟨hg.rid, hg.state, hg.id, hg.update, hg.report.2.2⟩, hg.report.1, hg.report.2.1⟩

theorem raises_of_event (hevents : s.cu.events = [r]) (hstate : r.state ≠ .declared) (huplink : s.cs.image.uplink = true)
    (hdue : s.uc.healthDue = false) (hspares : s.uc.Spares r.rid) (hid : ∀ a ∈ s.uc.queue, a.id ≠ r.id) :
    ∃ r', s.Raises r (offerTo r.rid (ucNewEvent r.rid s)) r' := by
  rw [ucNewEvent_of_uplink huplink]
  obtain ⟨hshort, hgives, hfull⟩ := ucRaiseReport_reports (kind := .event) rfl hevents hspares hid hdue
  generalize ucRaiseReport .event r.rid s = t at *
  rcases Nat.lt_or_ge s.uc.queue.length 8 with hlen | hlen
  · obtain ⟨huc, hcu⟩ := hshort (by omega)
    obtain ⟨r', hr', htuc, -, hsame, hlink, -⟩ := offerTo_raised (t := t) (x := .queued) (o := r.owedUplink) hstate (by rw [hcu])
    exact ⟨r', hr', hsame, fun _ => ⟨htuc.trans huc, hlink⟩, fun h => absurd h (by omega)⟩
  · cases hany : s.uc.queue.any Alert.gives with
    | true =>
      obtain ⟨-, hcu, -⟩ := hgives hlen hany
      obtain ⟨r', hr', -, -, hsame, -⟩ := offerTo_raised (t := t) (x := .queued) (o := r.owedUplink) hstate (by rw [hcu])
      refine ⟨r', hr', hsame, fun h => absurd h (by omega), fun _ hno => ?_⟩
      obtain ⟨a, ha, hgive⟩ := List.any_eq_true.mp hany
      unfold Alert.gives at hgive
      exact absurd (by simpa using (Bool.and_eq_true _ _ |>.mp hgive).1) (hno a ha)
    | false =>
      obtain ⟨huc, hcu, hcount⟩ := hfull hlen hany
      obtain ⟨r', hr', htuc, hstacks, hsame, hlink, howed⟩ := offerTo_raised (t := t) (x := .stacked) (o := some r.update) hstate (by rw [hcu])
      exact ⟨r', hr', hsame, fun h => absurd h (by omega), fun _ _ => ⟨htuc.trans huc, hstacks.trans hcount, hlink, howed⟩⟩

/-! ## The report of an update (R131) -/

/-- The record of a declaration's own id, ADOPTED, where the declaration raises its update number: its report is an update report. -/
theorem declUpdate_reports (hevents : s.cu.events = [x]) (hstate : x.state = .adopted) (hless : x.update < d.update)
    (huplink : s.cs.image.uplink = true) (hdue : s.uc.healthDue = false) :
    ∃ (b : State) (r : EventRec) (t : State) (r' : EventRec), b.Updates r t ∧ b.uc = s.uc ∧ b.now = s.now ∧ b.count .stacks = s.count .stacks ∧
      (declUpdate x d s).cu.events = [r'] ∧ (declUpdate x d s).uc = t.uc ∧ (declUpdate x d s).count .stacks = t.count .stacks ∧
      r.rid = x.rid ∧ r.id = x.id ∧ r.update = d.update ∧ r.delivered = x.delivered ∧ r'.rid = x.rid ∧ r'.update = d.update ∧
      ∃ y : EventRec, t.cu.events = [y] ∧ r'.uplink = y.uplink ∧ r'.owedUplink = y.owedUplink := by
  obtain ⟨r1, hleads, -⟩ := (holds_only hevents).mergeDecl_leads (by simp) d
  obtain ⟨b, hb⟩ : ∃ b, b = updRec x.rid (fun x => { x with update := max x.update d.update }) (mergeDecl x.rid d s) := ⟨_, rfl⟩
  obtain ⟨r, hr⟩ : ∃ r, r = { r1 with update := max r1.update d.update } := ⟨_, rfl⟩
  have hbevents : b.cu.events = [r] := by
    rw [hb, hr]
    exact (hleads.holds.updated_of (f := fun x => { x with update := max x.update d.update }) hleads.gains.rid rfl).events
  have hrid : r.rid = x.rid := by rw [hr]; exact hleads.gains.rid
  have hrupdate : r.update = d.update := by
    rw [hr]
    show max r1.update d.update = d.update
    rw [hleads.gains.update]
    exact Nat.max_eq_right (Nat.le_of_lt hless)
  have hrstate : r.state ≠ .declared := by
    rw [hr]
    show r1.state ≠ _
    rw [hleads.gains.state, hstate]
    exact fun h => by cases h
  obtain ⟨-, -, htb, -, -, -, -, -, -, -, hcs, -⟩ := rest_of_besideEvents hleads.grown.beside
  have hbuc : b.uc = s.uc := by
    rw [hb]
    exact hleads.grown.uc
  have hupdates := ucUpdate_updates (s := b) hbevents (by rw [hb]; exact (congrArg (fun y => y.image.uplink) hcs).trans huplink)
    (by rw [hbuc]; exact hdue)
  obtain ⟨t, ht⟩ : ∃ t, t = ucUpdate x.rid b := ⟨_, rfl⟩
  rw [hrid, ← ht] at hupdates
  obtain ⟨l, o, htcu⟩ := hupdates.shape
  have htevents : t.cu.events = [{ r with uplink := l, owedUplink := o }] := by rw [htcu]
  obtain ⟨r', hr', huc, hstacks, hsame, hlink, howed⟩ := offerTo_raised hrstate htevents
  have hdecl : declUpdate x d s = offerTo x.rid t := by
    unfold declUpdate
    dsimp only
    rw [← hb, hstate, ht]
    rw [if_pos (by simp [hless])]
  rw [hrid] at hr' huc hstacks hsame
  obtain ⟨hrid', -, -, hupdate', -⟩ := hsame
  rw [hdecl]
  refine ⟨b, r, t, r', hupdates, hbuc, ?_, ?_, hr', huc, hstacks, hrid, ?_, hrupdate, ?_, hrid', hupdate'.trans hrupdate, _, htevents,
    hlink, howed⟩
  · rw [hb]
    exact congrArg Timebase.elapsed htb
  · rw [hb]
    exact hleads.grown.count _ (by decide)
  · rw [hr]
    exact hleads.gains.id
  · rw [hr]
    exact hleads.gains.report.2.2

/-! ## A lost conflict with an empty queue (R133, R153) -/

/-- The withdrawal of the only record's report with nothing on the uplink: a delivered record gets its RETRACT (R153). -/
theorem ucWithdraw_of_empty (huplink : s.cs.image.uplink = true) (hqueue : s.uc.queue = []) (hstacked : s.uc.stacked = [])
    (hevents : s.cu.events = [r]) :
    (ucWithdraw r.rid s).uc = { s.uc with queue := if r.delivered then [s.freshAlert .retract (some r.rid) r.id 0] else [] } ∧
    (∃ x, (ucWithdraw r.rid s).cu = { s.cu with events := [{ r with uplink := x }] }) := by
  have hstate : s.withdrawn r.rid = s := by
    have huc : ({ s.uc with queue := [] } : Uplink) = s.uc := by rw [← hqueue]
    have hwith : s.withdrawn r.rid = s.setUc { s.uc with queue := [] } := by simp [State.withdrawn, hqueue]
    rw [hwith, huc]
    rfl
  have hsync : (ucReportEmpty s (ucSync s)).cu = { s.cu with events := [{ r with uplink := uplinkStateOf s.uc r }] } := by
    simp [ucSync_cu, hevents]
  obtain ⟨huc, hcu, -⟩ := ucRetractWithdrawn_only (s := ucReportEmpty s (ucSync s)) (r := { r with uplink := uplinkStateOf s.uc r })
    (by simpa using hqueue) (by rw [hsync])
  rw [ucWithdraw_eq huplink hstacked, hstate]
  refine ⟨?_, if r.delivered then .queued else uplinkStateOf s.uc r, ?_⟩
  · rw [huc, freshAlert_congr (s := s) (by simp)]
    simp
  · rw [hcu, hsync]
    split <;> rfl

/-- An EVENT of a record beside others, behind no report. -/
theorem ucRaiseReport_first (h : s.Holds r others) (hlen : s.uc.queue.length < 8) (hstacked : s.uc.stacked = [])
    (hqueue : ∀ a ∈ s.uc.queue, a.kind = .retract ∧ a.rid ≠ some r.rid) :
    (ucRaiseReport .event r.rid s).uc = { s.uc with queue := s.freshAlert .event (some r.rid) r.id r.update :: s.uc.queue } ∧
    ∃ os, (ucRaiseReport .event r.rid s).Holds { r with uplink := .queued } os := by
  have hraise : ucRaiseReport .event r.rid s = ucInsert .event (some r.rid) r.id r.update s := by
    have hwaits : s.uc.queue.any (fun a => a.rid == some r.rid && a.kind.isReport && !a.turn.inTransfer) = false := by
      rw [List.any_eq_false]
      exact fun a ha => by simp [(hqueue a ha).2]
    have hholds : s.uc.holds .event r.id r.update = false := by
      unfold Uplink.holds
      rw [List.any_eq_false]
      exact fun a ha => by simp [(hqueue a ha).1]
    unfold ucRaiseReport
    rw [h.record]
    simp only [hwaits, hstacked, List.any_nil, hholds, Bool.false_eq_true, if_false]
    exact if_pos hlen
  have hplaced : placedAlert (s.freshAlert .event (some r.rid) r.id r.update) s.uc.queue =
      s.freshAlert .event (some r.rid) r.id r.update :: s.uc.queue := by
    rw [placedAlert_event]
    cases hq : s.uc.queue with
    | nil => rfl
    | cons a q =>
      have ha := (hqueue a (by rw [hq]; simp)).1
      rw [List.takeWhile_cons, List.dropWhile_cons, if_neg (by simp [ha]), if_neg (by simp [ha])]
      rfl
  rw [hraise]
  refine ⟨by rw [ucInsert_uc, hplaced], others.map (fun y : EventRec => { y with
      uplink := uplinkStateOf (ucInsert .event (some r.rid) r.id r.update s).uc y }), ?_, fun y hy => ?_⟩
  · have hmap := h.perm.map (fun y => { y with uplink := uplinkStateOf (ucInsert .event (some r.rid) r.id r.update s).uc y })
    rw [List.map_cons, uplinkStateOf_of_queued (congrArg Uplink.queue ucInsert_uc) (fun a ha => (hqueue a ha).2) rfl rfl] at hmap
    rw [ucInsert_cu]
    exact hmap
  · obtain ⟨z, hz, rfl⟩ := List.mem_map.mp hy
    exact h.apart z hz

/-- The own DECLARED record loses with nothing on the uplink: the new record's EVENT stands before a RETRACT of the loser's id, where
the loser was delivered (R133, R153). -/
theorem conflictLost_reports (hevents : s.cu.events = [x]) (hrid : x.rid ≠ s.cu.nextRid) (huplink : s.cs.image.uplink = true)
    (hqueue : s.uc.queue = []) (hstacked : s.uc.stacked = []) :
    ∃ r, r ∈ (conflictLost x d s).cu.events ∧ r.rid = s.cu.nextRid ∧ r.state = .adopted ∧ r.id = some d.id ∧ r.uplink = .queued ∧
      (conflictLost x d s).uc.queue = s.freshAlert .event (some s.cu.nextRid) (some d.id) d.update ::
        (if x.delivered then [s.freshAlert .retract (some x.rid) x.id 0] else []) := by
  obtain ⟨u, hu⟩ : ∃ u, u = s.losing x d := ⟨_, rfl⟩
  obtain ⟨y, hy⟩ : ∃ y, y = cuReport (s.setCu { s.cu with events := [x.lose d s.now] }) := ⟨_, rfl⟩
  have hset : cuReport (updRec x.rid (fun r => { r with state := .merged, mergedInto := some d.id, finished := some s.now, declOwed := false }) s) = y := by
    have hupd := updRec_only (f := fun r => { r with state := .merged, mergedInto := some d.id, finished := some s.now, declOwed := false }) hevents
    rw [hy]
    exact congrArg (fun c => cuReport (s.setCu c)) hupd
  have huy : u = ucWithdraw (x.lose d s.now).rid y := by
    rw [hu, State.losing, hset]
    rfl
  obtain ⟨huuc, l, hucu⟩ := ucWithdraw_of_empty (s := y) (r := x.lose d s.now) (by rw [hy]; exact huplink) (by rw [hy]; exact hqueue)
    (by rw [hy]; exact hstacked) (by rw [hy]; rfl)
  rw [← huy] at huuc hucu
  have hnext : u.cu.nextRid = s.cu.nextRid := by
    rw [hucu, hy]
    rfl
  have hutb : u.tb = s.tb := by
    rw [huy, show (ucWithdraw (x.lose d s.now).rid y).tb = y.tb by simp, hy]
    rfl
  have hucs : u.cs = s.cs := by
    rw [huy, show (ucWithdraw (x.lose d s.now).rid y).cs = y.cs by simp, hy]
    rfl
  obtain ⟨c, r, hready, hloses⟩ := conflictLost_ready hu (x1 := { x.lose d s.now with uplink := l }) (by rw [hucu])
    (by rw [hnext]; exact hrid) rfl
  have hcqueue : c.uc.queue = if x.delivered then [s.freshAlert .retract (some x.rid) x.id 0] else [] := by
    rw [hloses.uc, huuc, freshAlert_congr (t := y) (s := s) (by rw [hy]; rfl)]
    rfl
  have hcstacked : c.uc.stacked = [] := by
    rw [hloses.uc, huuc, hy]
    exact hstacked
  have hcnow : c.now = s.now := hloses.now.trans (congrArg Timebase.elapsed hutb)
  have hrrid : r.rid = s.cu.nextRid := hloses.gains.rid.trans hnext
  obtain ⟨hraised, os, hholds⟩ := ucRaiseReport_first hloses.holds (by rw [hcqueue]; split <;> simp) hcstacked (by
    rw [hcqueue, hrrid]
    intro a ha
    split at ha
    · rw [List.mem_singleton.mp ha]
      exact ⟨rfl, fun h => hrid (Option.some.inj h)⟩
    · cases ha)
  have hraise : ucNewEvent u.cu.nextRid c = ucRaiseReport .event r.rid c := by
    rw [ucNewEvent_of_uplink (by rw [hloses.cs, hucs]; exact huplink), hrrid, hnext]
  obtain ⟨r', hoffer⟩ := hholds.offerTo_leads (by
    show r.state ≠ _
    rw [hloses.gains.state]
    exact fun h => by cases h)
  have hoff : offerTo u.cu.nextRid (ucNewEvent u.cu.nextRid c) = offerTo r.rid (ucRaiseReport .event r.rid c) := by
    rw [hraise, hrrid, hnext]
  change (ucRaiseReport .event r.rid c).Leads (offerTo r.rid (ucRaiseReport .event r.rid c)) _ r' os at hoffer
  have hpromote : ucPromote (offerTo r.rid (ucRaiseReport .event r.rid c)) = offerTo r.rid (ucRaiseReport .event r.rid c) := by
    refine ucPromote_of_none ?_
    rw [hoffer.grown.uc, hraised]
    exact hcstacked
  rw [hready, hoff, hpromote]
  refine ⟨r', hoffer.holds.mem.mpr (.inl rfl), hoffer.gains.rid.trans hrrid, hoffer.gains.state.trans hloses.gains.state,
    hoffer.gains.id.trans hloses.gains.id, hoffer.gains.report.1, ?_⟩
  have hid : r.id = some d.id := hloses.gains.id
  have hupdate : r.update = d.update := hloses.gains.update
  show (offerTo r.rid (ucRaiseReport .event r.rid c)).uc.queue = _
  rw [hoffer.grown.uc, hraised, hcqueue, hrrid, hid, hupdate]
  unfold State.freshAlert
  rw [hcnow]

end

end Sys2Proof.Machine

/-! PROOFS. The whole of O37. -/
namespace Sys2Proof.Machine
set_option Elab.async false

/-- A report alert as the step of a declaration enqueues it. -/
def State.reportAlert (s : State) (kind : AlertKind) (rid : Nat) (id : Option EventId) (update : Nat) : Alert :=
  { kind := kind, rid := some rid, id := id, update := update, enqueued := s.now, attempts := 0, turn := .ready, retryWait := none
    withdrawn := false }

/-- Nothing on the uplink names a record or a declaration's id. -/
def State.freeOf (s : State) (d : DeclBody) (rid : Nat) : Prop :=
  (∀ a ∈ s.uc.queue, a.rid ≠ some rid ∧ a.id ≠ some d.id) ∧ ∀ z ∈ s.uc.stacked, z.rid ≠ rid

/-- The EVENT of an adopted record in the queue or stacked. -/
def State.eventReported (s : State) (d : DeclBody) (t : State) (r : EventRec) : Prop :=
  (s.uc.queue.length ≤ 7 → (t.uc.queue = s.uc.queue.takeWhile (fun a => a.kind == .event) ++ [s.reportAlert .event r.rid (some d.id) d.update] ++
      s.uc.queue.dropWhile (fun a => a.kind == .event) ∧ t.uc.stacked = s.uc.stacked) ∧ r.uplink = .queued) ∧
  (8 ≤ s.uc.queue.length ∧ (∀ a ∈ s.uc.queue, a.kind ≠ .health) →
    (t.uc.queue = s.uc.queue ∧ t.uc.stacked = s.uc.stacked ++ [{ kind := .event, rid := r.rid, retracts := none }] ∧
      t.count .stacks = min (s.count .stacks + 1) 65535) ∧ r.uplink = .stacked ∧ r.owedUplink = some d.update)

end Sys2Proof.Machine

section
open Sys2Proof Sys2Proof.Machine
set_option Elab.async false
variable {s v t : State} {x r : EventRec} {d : DeclBody} {sender : Nat}

/-- The report that an adoption raises, as it stands at the end of the step. -/
theorem raises_reported (h : s.Declares sender d v t) {c w : State} (hraise : c.Raises r w x) (huc : c.uc = s.uc) (hnow : c.now = s.now)
    (hstacks : c.count .stacks = s.count .stacks) (hid : r.id = some d.id) (hupdate : r.update = d.update)
    (hbranch : cuDeclaration sender d v = cuRequest w) : s.eventReported d t x := by
  obtain ⟨-, ⟨hrid, -⟩, hshort, hfull⟩ := hraise
  rw [huc] at hshort hfull
  have hqueue : t.uc.queue = w.uc.queue := by rw [h.queue, hbranch, cuRequest_uc]
  have hstacked : t.uc.stacked = w.uc.stacked := by rw [h.stacked, hbranch, cuRequest_uc]
  refine ⟨fun hlen => ?_, fun hfulls => ?_⟩
  · obtain ⟨hw, hlink⟩ := hshort hlen
    refine ⟨⟨?_, by rw [hstacked, hw]⟩, hlink⟩
    rw [hqueue, hw]
    show placedAlert _ _ = _
    rw [placedAlert_event, hid, hupdate, hrid]
    unfold State.freshAlert State.reportAlert
    rw [hnow]
  · obtain ⟨hw, hcount, hlink, howed⟩ := hfull hfulls.1 hfulls.2
    refine ⟨⟨by rw [hqueue, hw], by rw [hstacked, hw, hrid], ?_⟩, hlink, by rw [howed, hupdate]⟩
    rw [h.counts _ (by decide) (by decide), hbranch, cuRequest_count, hcount, hstacks]

/-- A declaration adopted into the empty table of a station with an uplink. -/
theorem declaration_reports_new (h : s.Declares sender d v t) (huplink : s.cs.image.uplink = true) (hdue : s.uc.healthDue = false)
    (horigin : d.id.origin = sender) (hevents : s.cu.events = []) (htime : s.tb.time ≤ d.earliest + secs s.cs.image.maxLife)
    (hfree : s.freeOf d s.cu.nextRid) :
    ∃ r, t.cu.events = [r] ∧ r.rid = s.cu.nextRid ∧ r.state = .adopted ∧ r.id = some d.id ∧ r.update = d.update ∧ r.delivered = false ∧
      s.eventReported d t r := by
  have hvevents : v.cu.events = [] := by rw [h.cu]; exact hevents
  have hnext : v.cu.nextRid = s.cu.nextRid := by rw [h.cu]
  have hplace : makePlace none v = some v := if_pos (by simp [hvevents])
  obtain ⟨c, r, hready, hadopts⟩ := declAdoptNew_ready (d := d) hplace (others := []) (by rw [hvevents]) (by simp)
  have hg := hadopts.gains
  have hcuc : c.uc = s.uc := hadopts.uc.trans h.uc
  have hrrid : r.rid = v.cu.nextRid := hg.rid
  obtain ⟨r', hraise⟩ := raises_of_event (s := c) hadopts.holds.events (by rw [hg.state]; exact fun h => by cases h)
    (by rw [hadopts.cs, h.cs]; exact huplink) (by rw [hcuc]; exact hdue)
    (by rw [hcuc, hrrid, hnext]; exact ⟨fun a ha => (hfree.1 a ha).1, hfree.2⟩)
    (by rw [hcuc, hg.id]; exact fun a ha => (hfree.1 a ha).2)
  rw [hrrid] at hraise
  have hbranch : cuDeclaration sender d v = cuRequest (offerTo v.cu.nextRid (ucNewEvent v.cu.nextRid c)) := by
    rw [cuDeclaration_of_unknown horigin (by simp [hvevents]), declAgainst_of_far (by simp [hvevents]), if_neg, hready]
    rw [declTooOld_iff, h.time, h.cs]
    exact Nat.not_lt.mpr htime
  obtain ⟨hrid, hstate, hid, hupdate, hdelivered⟩ := hraise.same
  refine ⟨r', ?_, hrid.trans (hrrid.trans hnext), hstate.trans hg.state, hid.trans hg.id, hupdate.trans hg.update,
    hdelivered.trans hg.report.2.2, raises_reported h hraise hcuc (hadopts.now.trans h.now) ?_ hg.id hg.update hbranch⟩
  · rw [h.tables, hbranch, cuRequest_cu, hraise.events]
  · rw [hadopts.counts _ (by decide) (by decide), h.count _ (by decide)]

/-- A declaration that adopts the only record, a HOLDOFF one, at a station with an uplink. -/
theorem declaration_reports_holdoff (h : s.Declares sender d v t) (huplink : s.cs.image.uplink = true) (hdue : s.uc.healthDue = false)
    (horigin : d.id.origin = sender) (hevents : s.cu.events = [x]) (hnear : timeGap x.earliest d.earliest ≤ secs s.cs.image.wc)
    (hid : x.id ≠ some d.id) (hstate : x.state = .holdoff) (hfree : s.freeOf d x.rid) :
    ∃ r, t.cu.events = [r] ∧ r.rid = x.rid ∧ r.state = .adopted ∧ r.id = some d.id ∧ r.update = d.update ∧ s.eventReported d t r := by
  obtain ⟨c, r, hready, hholds, hg, hcs, huc, hnow, -, hcounts, -⟩ :=
    declAdoptHoldoff_ready (s := v) (x := x) (d := d) (by rw [h.cu]; exact hevents)
  have hcuc : c.uc = s.uc := huc.trans h.uc
  have hrrid : r.rid = x.rid := hg.rid
  obtain ⟨r', hraise⟩ := raises_of_event (s := c) hholds.events (by rw [hg.state]; exact fun h => by cases h)
    (by rw [hcs, h.cs]; exact huplink) (by rw [hcuc]; exact hdue)
    (by rw [hcuc, hrrid]; exact ⟨fun a ha => (hfree.1 a ha).1, hfree.2⟩)
    (by rw [hcuc, hg.id]; exact fun a ha => (hfree.1 a ha).2)
  rw [hrrid] at hraise
  have hbranch : cuDeclaration sender d v = cuRequest (offerTo x.rid (ucNewEvent x.rid c)) := by
    rw [cuDeclaration_of_near horigin (by rw [h.cu]; exact hevents) hid (by rw [hstate]; rfl) (by rw [h.cs]; exact hnear), ← hready]
    unfold declMeets
    rw [hstate]
  obtain ⟨hrid, hrstate, hrid', hupdate, -⟩ := hraise.same
  refine ⟨r', ?_, hrid.trans hrrid, hrstate.trans hg.state, hrid'.trans hg.id, hupdate.trans hg.update,
    raises_reported h hraise hcuc (hnow.trans h.now) ?_ hg.id hg.update hbranch⟩
  · rw [h.tables, hbranch, cuRequest_cu, hraise.events]
  · rw [hcounts _ (by decide) (by decide), h.count _ (by decide)]

/-- A declaration of the only record's own id, which raises its update number, at a station with an uplink (R131, R142). -/
theorem declaration_reports_update (h : s.Declares sender d v t) (huplink : s.cs.image.uplink = true) (hdue : s.uc.healthDue = false)
    (horigin : d.id.origin = sender) (hevents : s.cu.events = [x]) (hnear : timeGap x.earliest d.earliest ≤ secs s.cs.image.wc)
    (hid : x.id = some d.id) (hstate : x.state = .adopted) (hless : x.update < d.update) :
    ∃ r, t.cu.events = [r] ∧ r.rid = x.rid ∧ r.update = d.update ∧
      (s.uc.queue.any (fun a => a.reportsOn x.rid && !a.waitsOn x.rid) = true →
        t.uc.queue = s.uc.queue ∧ t.uc.stacked = s.uc.stacked) ∧
      (s.uc.queue.any (fun a => a.reportsOn x.rid && !a.waitsOn x.rid) = false → s.uc.queue.any (Alert.waitsOn x.rid) = true →
        t.uc.queue = s.uc.queue.map (fun a => if a.waitsOn x.rid then { a with update := d.update } else a) ∧
        t.uc.stacked = s.uc.stacked) ∧
      (s.freeOf d x.rid → s.uc.queue.length ≤ 7 → r.uplink = .queued ∧
        t.uc.queue = placedAlert (s.reportAlert x.updateKind x.rid (some d.id) d.update) s.uc.queue ∧ t.uc.stacked = s.uc.stacked) ∧
      (s.freeOf d x.rid → 8 ≤ s.uc.queue.length ∧ (∀ a ∈ s.uc.queue, a.kind ≠ .health) →
        (t.uc.queue = s.uc.queue ∧ t.uc.stacked = s.uc.stacked ++ [{ kind := x.updateKind, rid := x.rid, retracts := none }] ∧
          t.count .stacks = min (s.count .stacks + 1) 65535) ∧ r.owedUplink = some d.update) := by
  obtain ⟨b, r, w, r', hup, hbuc, hbnow, hbcount, hr', hwuc, hwcount, hrid, hrid', hupdate, hdelivered, hrrid, hrupdate, y, hwevents, hlink,
    howed⟩ := declUpdate_reports (s := v) (x := x) (d := d) (by rw [h.cu]; exact hevents) hstate hless (by rw [h.cs]; exact huplink)
      (by rw [h.uc]; exact hdue)
  obtain ⟨-, htransfer, hfolds, -, hplaced, hstacked⟩ := hup
  rw [h.uc] at hbuc
  rw [hbuc, hrid] at htransfer hfolds hplaced hstacked
  rw [hupdate] at hfolds
  have hbranch := cuDeclaration_of_known (s := v) horigin (by rw [h.cu]; exact hevents) hid (by rw [h.cs]; exact hnear)
  have hkind : r.updateKind = x.updateKind := by unfold EventRec.updateKind; rw [hdelivered]
  rw [hkind, hrid', hid, hupdate] at hplaced hstacked
  have hqueue : t.uc.queue = w.uc.queue := by rw [h.queue, hbranch, cuRequest_uc, hwuc]
  have hpile : t.uc.stacked = w.uc.stacked := by rw [h.stacked, hbranch, cuRequest_uc, hwuc]
  have honly {z : Coincidence} {q : EventRec} (hc : w.cu = { z with events := [q] }) : y = q := by
    rw [hc] at hwevents
    exact (List.singleton_inj.mp hwevents).symm
  have hno (hfree : s.freeOf d x.rid) : s.uc.queue.any (Alert.reportsOn x.rid) = false ∧ s.uc.stacked.any (Stacked.reportsOn x.rid) = false := by
    refine ⟨List.any_eq_false.mpr fun a ha => ?_, List.any_eq_false.mpr fun z hz => ?_⟩
    · simp [Alert.reportsOn, (hfree.1 a ha).1]
    · simp [Stacked.reportsOn, hfree.2 z hz]
  refine ⟨r', by rw [h.tables, hbranch, cuRequest_cu, hr'], hrrid, hrupdate, fun hany => ?_, fun hnone hany => ?_, fun hfree hlen => ?_,
    fun hfree hfull => ?_⟩
  · rw [hqueue, hpile, htransfer hany, hbuc]
    exact ⟨rfl, rfl⟩
  · rw [hqueue, hpile, hfolds hnone hany]
    exact ⟨rfl, rfl⟩
  · obtain ⟨hw, hcu⟩ := hplaced (hno hfree).1 (hno hfree).2 (fun a ha => .inl (hfree.1 a ha).2) hlen
    have hy := honly (hcu ⟨fun a ha => (hfree.1 a ha).1, hfree.2⟩)
    refine ⟨by rw [hlink, hy], ?_, by rw [hpile, hw]⟩
    rw [hqueue, hw]
    unfold State.freshAlert State.reportAlert
    rw [hbnow, h.now]
  · obtain ⟨hw, ⟨z, hcu, -⟩, hcount⟩ := hstacked (hno hfree).1 (hno hfree).2 (fun a ha => .inl (hfree.1 a ha).2) hfull.1 hfull.2
    refine ⟨⟨by rw [hqueue, hw], by rw [hpile, hw], ?_⟩, by rw [howed, honly hcu]⟩
    rw [h.counts _ (by decide) (by decide), hbranch, cuRequest_count, hwcount, hcount, hbcount, h.count _ (by decide)]

/-- A declaration that wins over the own DECLARED record by its earliest onset, with nothing on the uplink (R133, R153). -/
theorem declaration_reports_lost (h : s.Declares sender d v t) (huplink : s.cs.image.uplink = true) (horigin : d.id.origin = sender)
    (hevents : s.cu.events = [x]) (hnear : timeGap x.earliest d.earliest ≤ secs s.cs.image.wc) (hrid : x.rid ≠ s.cu.nextRid)
    (hid : x.id ≠ some d.id) (hstate : x.state = .declared) (hearlier : d.earliest < x.earliest) (hqueue : s.uc.queue = [])
    (hstacked : s.uc.stacked = []) :
    ∃ r, r ∈ t.cu.events ∧ r.rid = s.cu.nextRid ∧ r.state = .adopted ∧ r.id = some d.id ∧ r.uplink = .queued ∧
      t.uc.queue = s.reportAlert .event r.rid (some d.id) d.update ::
        (if x.delivered then [s.reportAlert .retract x.rid x.id 0] else []) := by
  obtain ⟨r, hmem, hnext, hrstate, hrid', hlink, hreports⟩ := conflictLost_reports (s := v) (x := x) (d := d) (by rw [h.cu]; exact hevents)
    (by rw [h.cu]; exact hrid) (by rw [h.cs]; exact huplink) (by rw [h.uc]; exact hqueue) (by rw [h.uc]; exact hstacked)
  have hbranch := cuDeclaration_of_near (s := v) horigin (by rw [h.cu]; exact hevents) hid (by rw [hstate]; rfl) (by rw [h.cs]; exact hnear)
  have hmeet : declMeets x d v = conflictLost x d v := by
    unfold declMeets
    rw [hstate, declWins_iff.mpr (.inl hearlier)]
    rfl
  rw [hmeet] at hbranch
  have hvnext : v.cu.nextRid = s.cu.nextRid := by rw [h.cu]
  refine ⟨r, by rw [h.tables, hbranch, cuRequest_cu]; exact hmem, hnext.trans hvnext, hrstate, hrid', hlink, ?_⟩
  rw [h.queue, hbranch, cuRequest_uc, hreports, hnext]
  unfold State.freshAlert State.reportAlert
  rw [h.now]

/-- Settles O37, by the record the declaration meets: none, or the only one by its state, without an uplink and with one. -/
theorem declarationIsAdopted : Obligations.DeclarationIsAdopted := by
  refine ⟨fun s stamp hdr rest d h hs hno hcd hj => ?_, fun s stamp hdr rest d h hs huplink hcd hrdy hdue hj horigin => ?_⟩
  · obtain ⟨v, t, hexec, hd⟩ := exec_declarationReceived h hs (.inr hno) hcd hj
    obtain ⟨hrange, hnodup⟩ := judge_decl hj
    have hvno : v.cs.image.uplink = false := by rw [hd.cs]; exact hno
    have hcount (c : Counter) (h1 : c ≠ .musterBeacons) (h2 : c ≠ .busRecoveries) := hd.counts c h1 h2
    refine ⟨t, hexec, hd.standing, fun hstranger => ?_, fun horigin hevents htime => ?_, fun horigin htime hfar => ?_,
      fun horigin htime hfull hfar => ?_, fun x horigin hevents hnear hrid hstacked hsends => ?_⟩
    · have hbranch := cuDeclaration_of_stranger (s := v) hstranger
      rw [hd.tables, hcount _ (by decide) (by decide), hbranch, count_bump, if_pos rfl, hd.count _ (by decide)]
      exact ⟨hd.cu, rfl⟩
    · obtain ⟨r, hr, hg, hadoptions, honsets⟩ := cuDeclaration_adopted_alone (s := v) (d := d) (by rw [hd.cu]; exact hevents) horigin
        (by rw [hd.time, hd.cs]; exact Nat.not_lt.mpr htime) hvno hrange hnodup
      have hsame := hg.same
      refine ⟨r, by rw [hd.tables, hr], hg.id, hg.state, hg.update, hg.declOwed, hg.opened.trans hd.now, ?_, ?_, ?_, fun hnear => ?_⟩
      · rw [hsame]
        exact hd.now
      · rw [hsame]
        rfl
      · rw [hcount _ (by decide) (by decide), hadoptions, hd.count _ (by decide)]
      · refine honsets fun p hp q hq => ?_
        obtain ⟨a, ha, rfl⟩ := List.mem_map.mp hp
        obtain ⟨b, hb, rfl⟩ := List.mem_map.mp hq
        rw [hd.window]
        exact hnear b hb a ha
    · have hbranch := cuDeclaration_ignored (s := v) (d := d) horigin (by rw [hd.time, hd.cs]; exact htime)
        (by rw [hd.cu, hd.cs]; exact hfar)
      rw [hd.tables, hcount _ (by decide) (by decide), hbranch, cuRequest_cu, cuRequest_count, count_bump, if_pos rfl, hd.count _ (by decide)]
      exact ⟨hd.cu, rfl⟩
    · obtain ⟨hgives, hnone⟩ := cuDeclaration_evicts (s := v) (d := d) horigin (by rw [hd.time, hd.cs]; exact Nat.not_lt.mpr htime) hvno
        (by rw [hd.cu]; exact hfull) (by rw [hd.cu, hd.cs]; exact hfar)
      have hvictim : v.victim = (s.cu.events.find? (fun r => r.state == .closed &&
            (r.uplink == .none || r.uplink == .sent || r.uplink == .withdrawn || r.uplink == .failed))).or
          (s.cu.events.find? (fun r => r.state == .merged &&
            (r.uplink == .none || r.uplink == .sent || r.uplink == .withdrawn || r.uplink == .failed))) := by
        unfold State.victim EventRec.removable
        rw [hd.cu]
        simp only [congrFun done_eq]
      rw [← hd.tables, hd.cu, ← hcount _ (by decide) (by decide), hd.count _ (by decide), hvictim] at hgives
      rw [hvictim] at hnone
      refine ⟨hgives, fun hnot => ?_⟩
      have hbranch := hnone hnot
      rw [hd.tables, hcount _ (by decide) (by decide), hbranch, cuRequest_cu, cuRequest_count, count_bump, if_pos rfl, hd.count _ (by decide)]
      exact ⟨hd.cu, rfl⟩
    · refine ⟨fun hid hbound => declaration_updates hd hno horigin hrange hevents hnear hid hbound,
        fun hid hstate => declaration_adopts_holdoff hd hno horigin hrange hevents hnear hid hstate,
        fun hid hstate hwins => declaration_wins hd hno horigin hrange hevents hnear hrid hstacked hid hstate (declWins_iff.mpr hwins),
        fun hid hstate hwins hbound => declaration_loses hd hno horigin hrange hevents hnear hsends hid hstate
          (fun h => hwins (declWins_iff.mp h)) hbound, fun hid hstate => ?_⟩
      obtain ⟨r, hr, hrrid, hrstate, howed, hmeets, hwin, hlose⟩ := declaration_meets_adopted hd hno horigin hrange hevents hnear hid hstate
      exact ⟨r, hr, hrrid, hrstate, howed, hmeets, fun h => hwin (declWins_iff.mpr h), fun h => hlose fun hw => h (declWins_iff.mp hw)⟩
  · obtain ⟨v, t, hexec, hd⟩ := exec_declarationReceived h hs (.inl hrdy) hcd hj
    refine ⟨fun hevents htime hfree => ?_, fun x hevents hnear hrid hsends => ⟨fun hid hstate hfree => ?_, fun hid hstate hless => ?_,
      fun hid hstate hearlier hqueue hstacked => ?_⟩⟩
    · obtain ⟨r, hrest⟩ := declaration_reports_new hd huplink hdue horigin hevents htime hfree
      exact ⟨t, r, hexec, hrest⟩
    · obtain ⟨r, hrest⟩ := declaration_reports_holdoff hd huplink hdue horigin hevents hnear hid hstate hfree
      exact ⟨t, r, hexec, hrest⟩
    · obtain ⟨r, hr, hrrid, hupdate, htransfer, hfolds, hplaced, hpiled⟩ :=
        declaration_reports_update hd huplink hdue horigin hevents hnear hid hstate hless
      refine ⟨t, r, hexec, hr, hrrid, hupdate, htransfer, hfolds, fun hfree hlen => ?_, hpiled⟩
      obtain ⟨hlink, hqueue, hstacked⟩ := hplaced hfree hlen
      rw [placedAlert_report (r := x) rfl] at hqueue
      refine ⟨hlink, fun hdelivered => ⟨?_, hstacked⟩, fun hdelivered => ⟨?_, hstacked⟩⟩
      · unfold EventRec.updateKind at hqueue
        simp only [hdelivered, if_true] at hqueue
        exact hqueue
      · unfold EventRec.updateKind at hqueue
        simp only [hdelivered, Bool.false_eq_true, if_false] at hqueue
        exact hqueue
    · obtain ⟨r, hmem, hrest⟩ := declaration_reports_lost hd huplink horigin hevents hnear hrid hid hstate hearlier hqueue hstacked
      exact ⟨t, r, hexec, hmem, hrest⟩

end

/-! PROOFS. The vote and the station trigger, evaluated once for a set (R98 to R101). -/
namespace Sys2Proof.Machine
set_option Elab.async false

section
variable {s t u v w : State} {c : Counter} {grid : StationTime} {pk : Nat} {x : Entry}

/-! ## The onset (R100) -/

/-- The detector as an onset leaves it, but for the trim. -/
def State.onsetTd (s : State) (grid : StationTime) (pk : Nat) : Trigger :=
  { s.td with
    state := .on, onset := some grid, mask := some s.td.onMask, peak := pk, endAt := none, void := false
    overTimer := s.startTimer (secs s.cs.image.tMax), overlong := false, lastOnset := some grid, outstanding := some s.now }

/-- The state at an onset before the notice and the entry. -/
def State.onset (s : State) (grid : StationTime) (pk : Nat) : State := s.setTd (s.onsetTd grid pk)

/-- The notice of an onset. -/
def State.onsetNotice (s : State) (grid : StationTime) (pk : Nat) : Notice :=
  { kind := .onset, onset := grid, mask := s.td.onMask, peak := pk, duration := 0 }

theorem tdOnset_eq : tdOnset grid pk s =
    bump .triggers (cuOwnOnset grid s.td.onMask pk (requestNotice (s.onsetNotice grid pk) (s.onset grid pk))) := rfl

theorem requestNotice_td {n : Notice} : (requestNotice n s).td = s.td := by
  unfold requestNotice
  split <;> rfl

theorem requestNotice_count {n : Notice} : (requestNotice n s).count c = s.count c := by
  unfold requestNotice
  split <;> rfl

theorem tdOnset_td : ∃ a b, (tdOnset grid pk s).td = { s.onsetTd grid pk with trim := a, trimTimer := b } := by
  rw [tdOnset_eq]
  obtain ⟨v, hv⟩ : ∃ v, v = cuOwnOnset grid s.td.onMask pk (requestNotice (s.onsetNotice grid pk) (s.onset grid pk)) := ⟨_, rfl⟩
  have htd : v.td = { (requestNotice (s.onsetNotice grid pk) (s.onset grid pk)).td with trim := v.td.trim, trimTimer := v.td.trimTimer } :=
    td_of_besideEvents (by rw [hv, cuOwnOnset_besideEvents])
  rw [← hv]
  rw [requestNotice_td] at htd
  exact ⟨v.td.trim, v.td.trimTimer, htd⟩

theorem tdOnset_triggers : (tdOnset grid pk s).count .triggers = min (s.count .triggers + 1) 65535 := by
  rw [tdOnset_eq, count_bump, if_pos rfl, count_of_besideEvents cuOwnOnset_besideEvents rfl, requestNotice_count]
  rfl

theorem tdOnset_count (hc : c.byEvents = false) (h : c ≠ .triggers) : (tdOnset grid pk s).count c = s.count c := by
  rw [tdOnset_eq, count_bump, if_neg (Ne.symm h), count_of_besideEvents cuOwnOnset_besideEvents hc, requestNotice_count]
  rfl

theorem tdOnset_notice (h : s.lcTakes = true) :
    (tdOnset grid pk s).lc.slots.notice = some { moment := s.now, notice := s.onsetNotice grid pk } := by
  rw [tdOnset_eq]
  obtain ⟨u, hu⟩ : ∃ u, u = requestNotice (s.onsetNotice grid pk) (s.onset grid pk) := ⟨_, rfl⟩
  obtain ⟨v, hv⟩ : ∃ v, v = cuOwnOnset grid s.td.onMask pk u := ⟨_, rfl⟩
  have hlc := lc_of_besideEvents (t := v) (s := u) (by rw [hv, cuOwnOnset_besideEvents])
  have hslot : u.lc.slots.notice = some { moment := s.now, notice := s.onsetNotice grid pk } := by
    rw [hu]
    unfold requestNotice
    rw [show (s.onset grid pk).lcTakes = true from h]
    rfl
  rw [← hu, ← hv, ← hslot]
  show v.lc.slots.notice = _
  rw [hlc]

/-- A lone entry makes no quorum (R126). -/
theorem evalQuorum_of_one (h : s.cu.entries = [x]) (hquorum : 2 ≤ s.cs.image.quorum) : evalQuorum s = s := by
  have hlone (e : Entry) : s.isQuorum e = false := by
    have hlen : ((s.windowOf e).map (fun x => x.station)).dedup.length ≤ 1 := by
      refine (List.dedup_sublist _).length_le.trans ?_
      rw [List.length_map, State.windowOf, h]
      exact (List.length_filter_le _ _).trans (by simp)
    unfold State.isQuorum
    rw [decide_eq_false (by omega)]
    simp
  have hfind : (s.cu.entries.filter (fun e => e.bound.isNone)).find? s.isQuorum = none := by
    rw [List.find?_eq_none]
    exact fun e _ => by simp [hlone e]
  unfold evalQuorum
  rw [hfind]
  exact ite_self s

/-- The own entry of an onset, the tables being empty (R100, R116). -/
theorem cuOwnOnset_alone {mask : Nat} (hentries : s.cu.entries = []) (hevents : s.cu.events = []) (hquorum : 2 ≤ s.cs.image.quorum)
    (hnew : s.tooOld grid = false) : (cuOwnOnset grid mask pk s).cu.entries = [arrival s.ownId grid (some mask) pk none true] := by
  unfold cuOwnOnset
  rw [admitOnset_of_new hnew (mergeTarget_eq_none.mpr (by simp [hentries])), placeEntry_of_room hevents (by simp [hentries]), hentries,
    List.nil_append, evalQuorum_of_one setEntries_single hquorum, cuRequest_cu, setEntries_single]

theorem tdOnset_entries (hentries : s.cu.entries = []) (hevents : s.cu.events = []) (hquorum : 2 ≤ s.cs.image.quorum)
    (hnew : s.tooOld grid = false) : (tdOnset grid pk s).cu.entries =
      [{ station := s.ownId, onset := grid, mask := some s.td.onMask, peak := pk, endAt := none, bound := none, own := true
         confirmed := false }] := by
  have hcu (n : Notice) (v : State) : (requestNotice n v).cu = v.cu ∧ (requestNotice n v).cs = v.cs ∧ (requestNotice n v).tb = v.tb := by
    unfold requestNotice
    split <;> exact ⟨rfl, rfl, rfl⟩
  obtain ⟨h1, h2, h3⟩ := hcu (s.onsetNotice grid pk) (s.onset grid pk)
  rw [tdOnset_eq]
  generalize requestNotice (s.onsetNotice grid pk) (s.onset grid pk) = u at *
  have hbump (v : State) : (bump .triggers v).cu = v.cu := rfl
  rw [hbump, cuOwnOnset_alone (by rw [h1]; exact hentries) (by rw [h1]; exact hevents) (by rw [h2]; exact hquorum)]
  · unfold State.ownId arrival
    rw [h2]
    rfl
  · unfold State.tooOld State.window at *
    rw [h2, h3]
    exact hnew

/-! ## The end of a trigger (R101, R102) -/

theorem requestEnd_td {onset : StationTime} {mask duration : Nat} :
    ∃ o, (requestEnd onset mask pk duration s).td = { s.td with outstanding := o } := by
  unfold requestEnd
  dsimp only
  split
  · refine ⟨none, ?_⟩
    show ({ (requestNotice _ s).td with outstanding := none } : Trigger) = _
    rw [requestNotice_td]
  · exact ⟨s.td.outstanding, requestNotice_td⟩

theorem requestEnd_count {onset : StationTime} {mask duration : Nat} (h : c ≠ .onsetNoticesReplaced) :
    (requestEnd onset mask pk duration s).count c = s.count c := by
  unfold requestEnd
  dsimp only
  split
  · rw [count_bump, if_neg (Ne.symm h)]
    exact requestNotice_count
  · exact requestNotice_count

theorem tdEndReports_td {e : StationTime} :
    ∃ a b o, (tdEndReports e s).td = { s.td with trim := a, trimTimer := b, outstanding := o } := by
  unfold tdEndReports
  split
  · next onset _ _ =>
    obtain ⟨v, hv⟩ : ∃ v, v = cuOwnEnd onset e (s.td.mask.getD 0) s.td.peak s := ⟨_, rfl⟩
    have htd : v.td = { s.td with trim := v.td.trim, trimTimer := v.td.trimTimer } :=
      td_of_besideEvents (by rw [hv, cuOwnEnd_besideEvents])
    obtain ⟨o, ho⟩ := requestEnd_td (s := v) (onset := onset) (mask := s.td.mask.getD 0) (pk := s.td.peak) (duration := tenths (e - onset))
    refine ⟨v.td.trim, v.td.trimTimer, o, ?_⟩
    dsimp only
    rw [← hv, ho]
    conv_lhs => rw [htd]
  · exact ⟨s.td.trim, s.td.trimTimer, s.td.outstanding, rfl⟩

theorem tdEndReports_count {e : StationTime} (hc : c.byEvents = false) (h : c ≠ .onsetNoticesReplaced) :
    (tdEndReports e s).count c = s.count c := by
  unfold tdEndReports
  split
  · exact (requestEnd_count h).trans (count_of_besideEvents cuOwnEnd_besideEvents hc)
  · rfl

/-- The detector in HOLD, or with a hold of 0 s in OFF (R101). -/
theorem tdHold_td : ∃ a b o,
    (s.cs.image.hold ≠ 0 → (tdHold grid s).td = { s.td with
      state := .hold, endAt := some grid, overTimer := none, overlong := false, holdTimer := s.startTimer (secs s.cs.image.hold) }) ∧
    (s.cs.image.hold = 0 → (tdHold grid s).td = { s.td with
      state := .off, endAt := none, overTimer := none, overlong := false, holdTimer := none, trim := a, trimTimer := b, outstanding := o }) := by
  obtain ⟨v, hv⟩ : ∃ v, v = s.setTd { s.td with
    state := .hold, endAt := some grid, overTimer := none, overlong := false, holdTimer := s.startTimer (secs s.cs.image.hold) } := ⟨_, rfl⟩
  have hhold : tdHold grid s = if s.cs.image.hold = 0 then tdOff v else v := by rw [hv]; rfl
  obtain ⟨a, b, o, hoff⟩ := tdEndReports_td (s := v.setTd { v.td with state := .off, endAt := none, holdTimer := none })
    (e := v.td.endAt.getD 0)
  refine ⟨a, b, o, fun hne => ?_, fun hzero => ?_⟩
  · rw [hhold, if_neg hne, hv]
    rfl
  · rw [hhold, if_pos hzero]
    refine hoff.trans ?_
    rw [hv]
    rfl

theorem tdHold_count (hc : c.byEvents = false) (h : c ≠ .onsetNoticesReplaced) : (tdHold grid s).count c = s.count c := by
  unfold tdHold
  dsimp only
  split
  · exact tdEndReports_count hc h
  · rfl

/-- The counters that a set handed to the detector leaves. -/
theorem tdEvaluate_count {m : Nat} (hc : c.byEvents = false) (h1 : c ≠ .onsetNoticesReplaced) (h2 : c ≠ .triggers) (h3 : c ≠ .retriggers) :
    (tdEvaluate grid m s).count c = s.count c := by
  unfold tdEvaluate
  dsimp only
  split
  · rfl
  · split <;> rfl
  · split
    · exact tdOnset_count hc h2
    · rfl
  · split
    · rfl
    · exact (tdHold_count hc h1).trans rfl
  · split
    · unfold tdRetrigger
      rw [count_bump, if_neg (Ne.symm h3)]
      rfl
    · rfl

theorem tdTakeSet_count {x : SampleSet} (hc : c.byEvents = false) (h1 : c ≠ .onsetNoticesReplaced) (h2 : c ≠ .triggers)
    (h3 : c ≠ .retriggers) : (tdTakeSet grid x s).count c = s.count c := by
  unfold tdTakeSet
  split
  · rfl
  · obtain ⟨v, hv⟩ : ∃ v, v = tdEvaluate grid (max (peakOf (s.td.z.take s.chanCfg s.td.overlong x.z x.overZ))
        (max (peakOf (s.td.n.take s.chanCfg s.td.overlong x.n x.overN)) (peakOf (s.td.e.take s.chanCfg s.td.overlong x.e x.overE))))
      (s.setTd { s.td with
        z := (s.td.z.take s.chanCfg s.td.overlong x.z x.overZ).1, n := (s.td.n.take s.chanCfg s.td.overlong x.n x.overN).1
        e := (s.td.e.take s.chanCfg s.td.overlong x.e x.overE).1, lastSet := some grid }) := ⟨_, rfl⟩
    have hcount : v.count c = s.count c := by
      rw [hv, tdEvaluate_count hc h1 h2 h3]
      rfl
    dsimp only
    rw [← hv, ← hcount]
    exact count_of_counters_eq (by simp)

end

end Sys2Proof.Machine

/-! PROOFS. A sample set handed to the running detector (R90, R97 to R101). -/
namespace Sys2Proof.Machine
set_option Elab.async false

section
variable {s q t u v : State} {c : Counter} {grid : StationTime} {pk : Nat} {x : SampleSet}

/-- The state with the channels past a set, before the vote (R90). -/
def State.judging (s : State) (grid : StationTime) (x : SampleSet) : State :=
  s.setTd { s.td with
    z := (s.td.z.take s.chanCfg s.td.overlong x.z x.overZ).1, n := (s.td.n.take s.chanCfg s.td.overlong x.n x.overN).1
    e := (s.td.e.take s.chanCfg s.td.overlong x.e x.overE).1, lastSet := some grid }

/-- The largest ratio among the channels that were compared at a set and are ON (R98). -/
def State.comparedPeak (s : State) (x : SampleSet) : Nat :=
  max (peakOf (s.td.z.take s.chanCfg s.td.overlong x.z x.overZ))
    (max (peakOf (s.td.n.take s.chanCfg s.td.overlong x.n x.overN)) (peakOf (s.td.e.take s.chanCfg s.td.overlong x.e x.overE)))

theorem tdTakeSet_eq (h : s.td.state ≠ .stopped) :
    tdTakeSet grid x s = tdReport s (tdEvaluate grid (s.comparedPeak x) (s.judging grid x)) := if_neg (by simpa using h)

/-- What a set leaves of the trigger, where it moves it no way. -/
def State.Unmoved (q t : State) : Prop :=
  t.td.onset = q.td.onset ∧ t.td.lastOnset = q.td.lastOnset ∧ t.td.mask = q.td.mask ∧ t.td.peak = q.td.peak ∧
  t.count .triggers = q.count .triggers ∧ (q.pins.lkCd = true → q.pins.upRdy = false → t.cu = q.cu)

/-- The running trigger behind a set (R98). -/
def State.Runs (q : State) (x : SampleSet) (t : State) : Prop :=
  t.td.onset = q.td.onset ∧ t.td.lastOnset = q.td.lastOnset ∧ t.td.mask = some (q.td.mask.getD 0 ||| t.td.onMask) ∧
  t.td.peak = max q.td.peak (q.comparedPeak x)

/-- The station trigger at the end of the step that hands a set to the running detector (R98 to R101). -/
structure State.Hands (q : State) (grid : StationTime) (x : SampleSet) (t : State) : Prop where
  chans : t.td.z = (q.judging grid x).td.z ∧ t.td.n = (q.judging grid x).td.n ∧ t.td.e = (q.judging grid x).td.e ∧
    t.td.lastSet = some grid
  settling : q.td.state = .settling → q.Unmoved t ∧ t.td.state = if t.td.settled then .off else .settling
  offLow : q.td.state = .off → t.td.vote < q.voteK → q.Unmoved t ∧ t.td.state = .off
  offHigh : q.td.state = .off → q.voteK ≤ t.td.vote →
    t.td.state = .on ∧ t.td.onset = some grid ∧ t.td.lastOnset = some grid ∧ t.td.mask = some t.td.onMask ∧
    t.td.peak = t.td.onPeak ∧ t.td.void = false ∧ t.td.endAt = none ∧ t.td.overlong = false ∧
    t.td.overTimer = some { start := q.now, period := secs q.cs.image.tMax } ∧ t.td.outstanding = some q.now ∧
    t.count .triggers = min (q.count .triggers + 1) 65535 ∧
    (q.pins.lkCd = true → q.listenOnly = false → t.lc.slots.notice = some { moment := q.now, notice :=
      { kind := .onset, onset := grid, mask := t.td.onMask, peak := t.td.peak, duration := 0 } }) ∧
    (q.cu.entries = [] → q.cu.events = [] → 2 ≤ q.cs.image.quorum → q.tooOld grid = false → t.cu.entries =
      [{ station := q.ownId, onset := grid, mask := some t.td.onMask, peak := t.td.peak, endAt := none, bound := none, own := true
         confirmed := false }])
  onHigh : q.td.state = .on → q.Runs x t ∧ (q.voteK ≤ t.td.vote →
    t.td.state = .on ∧ t.td.endAt = q.td.endAt ∧ t.td.overTimer = q.td.overTimer ∧ t.td.overlong = q.td.overlong)
  onLow : q.td.state = .on → t.td.vote < q.voteK → t.td.overTimer = none ∧ t.td.overlong = false ∧
    (q.cs.image.hold ≠ 0 → t.td.state = .hold ∧ t.td.endAt = some grid ∧
      t.td.holdTimer = some { start := q.now, period := secs q.cs.image.hold }) ∧
    (q.cs.image.hold = 0 → t.td.state = .off ∧ t.td.endAt = none ∧ t.td.holdTimer = none)
  holdHigh : q.td.state = .hold → q.Runs x t ∧ (q.voteK ≤ t.td.vote →
    t.td.state = .on ∧ t.td.endAt = none ∧ t.td.holdTimer = none ∧
    t.td.overTimer = some { start := q.now, period := secs q.cs.image.tMax } ∧
    t.count .retriggers = min (q.count .retriggers + 1) 65535 ∧
    (q.pins.lkCd = true → q.pins.upRdy = false → t.cu = q.cu) ∧
    (q.pins.lkCd = true → t.lc.slots.notice = q.lc.slots.notice))
  holdLow : q.td.state = .hold → t.td.vote < q.voteK →
    t.td.state = .hold ∧ t.td.endAt = q.td.endAt ∧ t.td.holdTimer = q.td.holdTimer

/-- The end of the step behind an evaluation `z`. -/
structure State.Evaluated (q z t : State) : Prop where
  td : t.td = z.td
  count : ∀ c, c ≠ .musterBeacons → c ≠ .busRecoveries → t.count c = z.count c
  cu : q.pins.lkCd = true → q.pins.upRdy = false → t.cu = z.cu
  entries : t.cu.entries = z.cu.entries
  notice : q.pins.lkCd = true → t.lc.slots.notice = z.lc.slots.notice

/-- A trigger with the channels of another. -/
theorem voting_congr {a b : Trigger} (hz : a.z = b.z) (hn : a.n = b.n) (he : a.e = b.e) :
    a.vote = b.vote ∧ a.onMask = b.onMask ∧ a.onPeak = b.onPeak ∧ a.settled = b.settled := by
  unfold Trigger.vote Trigger.onMask Trigger.onPeak Trigger.settled
  rw [hz, hn, he]
  exact ⟨rfl, rfl, rfl, rfl⟩

section
variable {z : State}

theorem hands_of_settling (hs : q.td.state = .settling) (h : q.Evaluated (tdEvaluate grid (q.comparedPeak x) (q.judging grid x)) t) :
    q.Hands grid x t := by
  have hz : tdEvaluate grid (q.comparedPeak x) (q.judging grid x) =
      if (q.judging grid x).td.settled then (q.judging grid x).setTd { (q.judging grid x).td with state := .off } else q.judging grid x := by
    unfold tdEvaluate
    rw [show (q.judging grid x).td.state = .settling from hs]
  rw [hz] at h
  have htd : t.td = { (q.judging grid x).td with state := if (q.judging grid x).td.settled then .off else .settling } := by
    rw [h.td]
    split
    · rfl
    · rw [← show (q.judging grid x).td.state = .settling from hs]
  have hrest : t.count .triggers = q.count .triggers ∧ (q.pins.lkCd = true → q.pins.upRdy = false → t.cu = q.cu) := by
    refine ⟨(h.count _ (by decide) (by decide)).trans ?_, fun h1 h2 => (h.cu h1 h2).trans ?_⟩ <;> split <;> rfl
  have hsettled : t.td.settled = (q.judging grid x).td.settled := by rw [htd]; rfl
  refine ⟨?_, fun _ => ⟨?_, ?_⟩, fun h => ?_, fun h => ?_, fun h => ?_, fun h => ?_, fun h => ?_, fun h => ?_⟩
  · rw [htd]
    exact ⟨rfl, rfl, rfl, rfl⟩
  · unfold State.Unmoved
    rw [htd]
    exact ⟨rfl, rfl, rfl, rfl, hrest⟩
  · rw [hsettled, htd]
  all_goals
    rw [hs] at h
    cases h

theorem hands_of_off (hs : q.td.state = .off) (hactive : q.mc.standing = .active)
    (h : q.Evaluated (tdEvaluate grid (q.comparedPeak x) (q.judging grid x)) t) : q.Hands grid x t := by
  have hz : tdEvaluate grid (q.comparedPeak x) (q.judging grid x) =
      if decide (q.voteK ≤ (q.judging grid x).td.vote) then tdOnset grid (q.judging grid x).td.onPeak (q.judging grid x)
      else q.judging grid x := by
    unfold tdEvaluate
    rw [show (q.judging grid x).td.state = .off from hs]
    rfl
  rw [hz] at h
  by_cases hvote : q.voteK ≤ (q.judging grid x).td.vote
  · rw [decide_eq_true hvote, if_pos rfl] at h
    obtain ⟨a, b, htd⟩ := tdOnset_td (s := q.judging grid x) (grid := grid) (pk := (q.judging grid x).td.onPeak)
    rw [← h.td] at htd
    obtain ⟨hvotes, hmask, hpeak, -⟩ := voting_congr (a := t.td) (b := (q.judging grid x).td) (by rw [htd]; rfl) (by rw [htd]; rfl)
      (by rw [htd]; rfl)
    have htdpeak : t.td.peak = (q.judging grid x).td.onPeak := by rw [htd]; rfl
    refine ⟨?_, fun h => ?_, fun _ hlow => ?_, fun _ _ => ?_, fun h => ?_, fun h => ?_, fun h => ?_, fun h => ?_⟩
    · rw [htd]
      exact ⟨rfl, rfl, rfl, rfl⟩
    · rw [hs] at h
      cases h
    · rw [hvotes] at hlow
      exact absurd hvote (Nat.not_le.mpr hlow)
    · have hmasks : t.td.mask = some (q.judging grid x).td.onMask := by rw [htd]; rfl
      refine ⟨by rw [htd]; rfl, by rw [htd]; rfl, by rw [htd]; rfl, by rw [hmasks, hmask], by rw [htdpeak, hpeak], by rw [htd]; rfl,
        by rw [htd]; rfl, by rw [htd]; rfl, by rw [htd]; rfl, by rw [htd]; rfl,
        (h.count _ (by decide) (by decide)).trans tdOnset_triggers, fun hcd hsends => ?_, fun hentries hevents hquorum hnew => ?_⟩
      · rw [h.notice hcd, tdOnset_notice (s := q.judging grid x) (lcTakes_of_active hactive hsends), hmask, htdpeak]
        rfl
      · rw [h.entries, tdOnset_entries (s := q.judging grid x) hentries hevents hquorum hnew, hmask, htdpeak]
        rfl
    all_goals
      rw [hs] at h
      cases h
  · rw [decide_eq_false hvote, if_neg (by simp)] at h
    obtain ⟨hvotes, -⟩ := voting_congr (a := t.td) (b := (q.judging grid x).td) (by rw [h.td]) (by rw [h.td]) (by rw [h.td])
    refine ⟨?_, fun h => ?_, fun _ _ => ⟨?_, ?_⟩, fun _ hhigh => ?_, fun h => ?_, fun h => ?_, fun h => ?_, fun h => ?_⟩
    · rw [h.td]
      exact ⟨rfl, rfl, rfl, rfl⟩
    · rw [hs] at h
      cases h
    · unfold State.Unmoved
      rw [h.td]
      exact ⟨rfl, rfl, rfl, rfl, h.count _ (by decide) (by decide), h.cu⟩
    · rw [h.td]
      exact hs
    · rw [hvotes] at hhigh
      exact absurd hhigh hvote
    all_goals
      rw [hs] at h
      cases h

/-- The running trigger with the mask and the peak of a set taken (R98). -/
def State.running (q : State) (grid : StationTime) (x : SampleSet) : State :=
  (q.judging grid x).setTd { (q.judging grid x).td with
    peak := max (q.judging grid x).td.peak (q.comparedPeak x)
    mask := some ((q.judging grid x).td.mask.getD 0 ||| (q.judging grid x).td.onMask) }

theorem hands_of_on (hs : q.td.state = .on) (h : q.Evaluated (tdEvaluate grid (q.comparedPeak x) (q.judging grid x)) t) :
    q.Hands grid x t := by
  have hz : tdEvaluate grid (q.comparedPeak x) (q.judging grid x) =
      if decide (q.voteK ≤ (q.judging grid x).td.vote) then q.running grid x else tdHold grid (q.running grid x) := by
    unfold tdEvaluate
    rw [show (q.judging grid x).td.state = .on from hs]
    rfl
  rw [hz] at h
  by_cases hvote : q.voteK ≤ (q.judging grid x).td.vote
  · rw [decide_eq_true hvote, if_pos rfl] at h
    obtain ⟨hvotes, hmask, -⟩ := voting_congr (a := t.td) (b := (q.judging grid x).td) (by rw [h.td]; rfl) (by rw [h.td]; rfl) (by rw [h.td]; rfl)
    refine ⟨?_, fun h => ?_, fun h => ?_, fun h => ?_, fun _ => ⟨?_, fun _ => ?_⟩, fun _ hlow => ?_, fun h => ?_, fun h => ?_⟩
    · rw [h.td]
      exact ⟨rfl, rfl, rfl, rfl⟩
    iterate 3
      · rw [hs] at h
        cases h
    · unfold State.Runs
      rw [hmask, h.td]
      exact ⟨rfl, rfl, rfl, rfl⟩
    · rw [h.td]
      exact ⟨hs, rfl, rfl, rfl⟩
    · rw [hvotes] at hlow
      exact absurd hvote (Nat.not_le.mpr hlow)
    all_goals
      rw [hs] at h
      cases h
  · rw [decide_eq_false hvote, if_neg (by simp)] at h
    obtain ⟨a, b, o, hhold, hoff⟩ := tdHold_td (s := q.running grid x) (grid := grid)
    rw [← h.td] at hhold hoff
    change q.cs.image.hold ≠ 0 → _ at hhold
    change q.cs.image.hold = 0 → _ at hoff
    have hkept : (t.td.z = (q.judging grid x).td.z ∧ t.td.n = (q.judging grid x).td.n ∧ t.td.e = (q.judging grid x).td.e ∧
          t.td.lastSet = some grid) ∧ (t.td.onset = q.td.onset ∧ t.td.lastOnset = q.td.lastOnset ∧
          t.td.mask = some (q.td.mask.getD 0 ||| (q.judging grid x).td.onMask) ∧ t.td.peak = max q.td.peak (q.comparedPeak x)) ∧
        t.td.overTimer = none ∧ t.td.overlong = false := by
      by_cases hzero : q.cs.image.hold = 0
      · rw [hoff hzero]
        exact ⟨⟨rfl, rfl, rfl, rfl⟩, ⟨rfl, rfl, rfl, rfl⟩, rfl, rfl⟩
      · rw [hhold hzero]
        exact ⟨⟨rfl, rfl, rfl, rfl⟩, ⟨rfl, rfl, rfl, rfl⟩, rfl, rfl⟩
    obtain ⟨hchans, hruns, hover, hlong⟩ := hkept
    obtain ⟨hvotes, hmask, -⟩ := voting_congr hchans.1 hchans.2.1 hchans.2.2.1
    refine ⟨hchans, fun h => ?_, fun h => ?_, fun h => ?_, fun _ => ⟨?_, fun hhigh => ?_⟩, fun _ _ => ⟨hover, hlong, fun hne => ?_, fun hzero => ?_⟩,
      fun h => ?_, fun h => ?_⟩
    iterate 3
      · rw [hs] at h
        cases h
    · unfold State.Runs
      rw [hmask]
      exact hruns
    · rw [hvotes] at hhigh
      exact absurd hhigh hvote
    · rw [hhold hne]
      exact ⟨rfl, rfl, rfl⟩
    · rw [hoff hzero]
      exact ⟨rfl, rfl, rfl⟩
    all_goals
      rw [hs] at h
      cases h

theorem hands_of_hold (hs : q.td.state = .hold) (h : q.Evaluated (tdEvaluate grid (q.comparedPeak x) (q.judging grid x)) t) :
    q.Hands grid x t := by
  have hz : tdEvaluate grid (q.comparedPeak x) (q.judging grid x) =
      if decide (q.voteK ≤ (q.judging grid x).td.vote) then tdRetrigger (q.running grid x) else q.running grid x := by
    unfold tdEvaluate
    rw [show (q.judging grid x).td.state = .hold from hs]
    rfl
  rw [hz] at h
  by_cases hvote : q.voteK ≤ (q.judging grid x).td.vote
  · rw [decide_eq_true hvote, if_pos rfl] at h
    have hretrigger : (tdRetrigger (q.running grid x)).td = { (q.running grid x).td with
      state := .on, endAt := none, holdTimer := none, overTimer := q.startTimer (secs q.cs.image.tMax) } := rfl
    have htd := h.td.trans hretrigger
    obtain ⟨hvotes, hmask, -⟩ := voting_congr (a := t.td) (b := (q.judging grid x).td) (by rw [htd]; rfl) (by rw [htd]; rfl) (by rw [htd]; rfl)
    refine ⟨?_, fun h => ?_, fun h => ?_, fun h => ?_, fun h => ?_, fun h => ?_, fun _ => ⟨?_, fun _ => ?_⟩, fun _ hlow => ?_⟩
    · rw [htd]
      exact ⟨rfl, rfl, rfl, rfl⟩
    iterate 5
      · rw [hs] at h
        cases h
    · unfold State.Runs
      rw [hmask, htd]
      exact ⟨rfl, rfl, rfl, rfl⟩
    · have hcount : t.count .retriggers = min (q.count .retriggers + 1) 65535 := by
        rw [h.count _ (by decide) (by decide)]
        unfold tdRetrigger
        rw [count_bump, if_pos rfl]
        rfl
      refine ⟨by rw [htd], by rw [htd], by rw [htd], by rw [htd]; rfl, hcount, fun h1 h2 => h.cu h1 h2, fun h1 => h.notice h1⟩
    · rw [hvotes] at hlow
      exact absurd hvote (Nat.not_le.mpr hlow)
  · rw [decide_eq_false hvote, if_neg (by simp)] at h
    obtain ⟨hvotes, hmask, -⟩ := voting_congr (a := t.td) (b := (q.judging grid x).td) (by rw [h.td]; rfl) (by rw [h.td]; rfl) (by rw [h.td]; rfl)
    refine ⟨?_, fun h => ?_, fun h => ?_, fun h => ?_, fun h => ?_, fun h => ?_, fun _ => ⟨?_, fun hhigh => ?_⟩, fun _ _ => ?_⟩
    · rw [h.td]
      exact ⟨rfl, rfl, rfl, rfl⟩
    iterate 5
      · rw [hs] at h
        cases h
    · unfold State.Runs
      rw [hmask, h.td]
      exact ⟨rfl, rfl, rfl, rfl⟩
    · rw [hvotes] at hhigh
      exact absurd hhigh hvote
    · rw [h.td]
      exact ⟨hs, rfl, rfl⟩

end

/-- A set handed to the running detector, at the end of the step. -/
theorem hands_of_set (hrun : q.td.state ≠ .stopped) (hactive : q.mc.standing = .active) (hgood : q.bm.cls = .good) :
    q.Hands grid x (finish (tdTakeSet grid x q)) := by
  obtain ⟨z, hz⟩ : ∃ z, z = tdEvaluate grid (q.comparedPeak x) (q.judging grid x) := ⟨_, rfl⟩
  obtain ⟨w, hw⟩ : ∃ w, w = tdTakeSet grid x q := ⟨_, rfl⟩
  have hwz : w = tdReport q z := by rw [hw, hz, tdTakeSet_eq hrun]
  have hstanding : w.mc.standing = .active := by
    rw [hw]
    exact (tdTakeSet_keeps (.refl 24 .still q)).standing.trans hactive
  have hwpins : w.pins = q.pins ∧ w.bm = q.bm := by
    rw [hw]
    simp
  have hfirm : w.Firm := .inr ⟨hstanding, by rw [hwpins.2]; exact hgood⟩
  have hreport : w.td = z.td ∧ w.cu = z.cu ∧ w.lc = z.lc ∧ w.counters = z.counters := by
    rw [hwz]
    simp
  obtain ⟨htd, hcu, hlc, hcounters⟩ := hreport
  obtain ⟨-, -, -, -, -, -, -, hftd, -⟩ := hfirm.leaves
  have heval : q.Evaluated z (finish w) := by
    refine ⟨hftd.trans htd, fun c h1 h2 => (hfirm.count h1 h2).trans (count_of_counters_eq hcounters), fun h1 h2 => ?_,
      hfirm.entries.trans (by rw [hcu]), fun h1 => ?_⟩
    · rw [hfirm.cu (by rw [hwpins.1]; exact h1) (.inl (by rw [hwpins.1]; exact h2)), hcu]
    · rw [hfirm.slots_of_busy (by rw [hwpins.1]; exact h1), hlc]
  rw [← hw]
  rw [hz] at heval
  cases hstate : q.td.state with
  | stopped => exact absurd hstate hrun
  | settling => exact hands_of_settling hstate heval
  | off => exact hands_of_off hstate hactive heval
  | on => exact hands_of_on hstate heval
  | hold => exact hands_of_hold hstate heval

end

end Sys2Proof.Machine

/-! PROOFS. A complete set against the grid (R79, R81 to R85). -/
namespace Sys2Proof.Machine
set_option Elab.async false

section
variable {s q r t u v w : State} {c : Counter} {grid : StationTime} {x : SampleSet} {σ : SampleIf} {g g0 : GridSlot}
  {edges : List PortEdge} {set : Vector Byte 10}

/-- A state that is another but for the Sample Interface and the counters. -/
def State.Counted (s : State) (σ : SampleIf) (u : State) : Prop := u = (s.setSi σ).setCounters u.counters

theorem State.Counted.facts (h : s.Counted σ u) : u.si = σ ∧ u.td = s.td ∧ u.tb = s.tb ∧ u.cs = s.cs ∧ u.mc = s.mc ∧ u.bm = s.bm ∧
    u.cu = s.cu ∧ u.pins = s.pins ∧ u.rmu = s.rmu ∧ u.hc = s.hc ∧ u.lc = s.lc := by
  unfold State.Counted at h
  rw [h]
  exact ⟨rfl, rfl, rfl, rfl, rfl, rfl, rfl, rfl, rfl, rfl, rfl⟩

theorem State.Counted.setSi {τ : SampleIf} (h : s.Counted σ u) : s.Counted τ (u.setSi τ) := by
  unfold State.Counted at *
  rw [h]
  rfl

theorem State.Counted.bump (h : s.Counted σ u) : s.Counted σ (Machine.bump c u) := by
  unfold State.Counted at *
  conv_lhs => rw [h]
  rfl

theorem State.Counted.bumpIf {b : Bool} (h : s.Counted σ u) : s.Counted σ (Machine.bumpIf b c u) := by
  unfold Machine.bumpIf
  split
  · exact h.bump
  · exact h

/-- The set of these bytes whole in the buffer, with what it counts (R77, R79). -/
def State.holding (s : State) (edges : List PortEdge) (set : Vector Byte 10) : State :=
  bumpIf ((decodeSet set.toList).overZ || (decodeSet set.toList).overN || (decodeSet set.toList).overE) .overloadedSets (wholeSet edges set s)

theorem holding_counted : s.Counted { s.si with bitCount := 80, buffer := set.toList.flatMap bitsOf } (s.holding edges set) := by
  have hs : s.Counted { s.si with bitCount := 80, buffer := set.toList.flatMap bitsOf }
      (s.setSi { s.si with bitCount := 80, buffer := set.toList.flatMap bitsOf }) := rfl
  exact hs.bumpIf.bumpIf

theorem holding_count : (s.holding edges set).count c =
    if (c = .overloadedSets ∧ ((decodeSet set.toList).overZ || (decodeSet set.toList).overN || (decodeSet set.toList).overE) = true) ∨
       (c = .partialSets ∧ ((edges.map PortEdge.frm).head?.getD false && s.si.inSet) = true)
    then min (s.count c + 1) 65535 else s.count c := by
  have hset : (s.setSi { s.si with bitCount := 80, buffer := set.toList.flatMap bitsOf }).count c = s.count c := rfl
  unfold State.holding wholeSet
  rw [count_bumpIf, count_bumpIf, hset]
  by_cases h1 : c = .overloadedSets
  · subst h1
    simp
  · by_cases h2 : c = .partialSets
    · subst h2
      simp
    · simp [h1, h2, Ne.symm h1, Ne.symm h2]

theorem takeSet_whole : takeSet (wholeSet edges set s) =
    if s.si.grid = .off then s.holding edges set
    else if s.si.grid = .unaligned then bump .unalignedSets (s.holding edges set)
    else judgeSet (decodeSet set.toList) (s.holding edges set) := by
  have hbuffer : (wholeSet edges set s).si.buffer = set.toList.flatMap bitsOf := by
    unfold wholeSet bumpIf
    split <;> rfl
  have hgrid : (s.holding edges set).si.grid = s.si.grid := by
    obtain ⟨hsi, -⟩ := holding_counted (s := s) (edges := edges) (set := set).facts
    rw [hsi]
  unfold takeSet
  rw [hbuffer, setBytes_bits]
  dsimp only
  rw [← State.holding, hgrid]
  cases s.si.grid <;> rfl

theorem exec_sampleSetComplete (h : s.si.grid ≠ .off) (hc : s.Completes edges set) :
    exec (.sampleSetComplete edges) s = .next (finish (takeSet (wholeSet edges set s))) :=
  congrArg Host.Outcome.next (takeBits_completes edges set s h hc)

/-! ## The end of the step -/

/-- The counters that the station trigger's work moves. -/
def Counter.ofTrigger (c : Counter) : Bool :=
  c.byEvents || c == .triggers || c == .retriggers || c == .onsetNoticesReplaced || c == .musterBeacons || c == .busRecoveries

/-- The end of the step that takes a set: `u` is the state with the set judged. -/
structure State.SetTaken (s : State) (σ : SampleIf) (u t : State) : Prop where
  si : t.si = σ
  standing : t.mc.standing = .active
  rest : t.tb = s.tb ∧ t.rmu = s.rmu ∧ t.bm = s.bm ∧ t.hc = s.hc
  count : ∀ c : Counter, c.ofTrigger = false → t.count c = u.count c

theorem Counter.ofTrigger_facts (h : c.ofTrigger = false) : c.byEvents = false ∧ c ≠ .triggers ∧ c ≠ .retriggers ∧
    c ≠ .onsetNoticesReplaced ∧ c ≠ .musterBeacons ∧ c ≠ .busRecoveries := by
  unfold Counter.ofTrigger at h
  simpa [and_assoc] using h

/-- A set that goes no further than the Sample Interface. -/
theorem State.Steady.setTaken (hs : s.Steady) (h : s.Counted σ u) : s.SetTaken σ u (finish u) ∧ (finish u).td = s.td := by
  obtain ⟨hsi, htd, htb, -, hmc, hbm, -, -, hrmu, hhc, -⟩ := h.facts
  have hset : u.Settled := by
    have := hs.settled
    unfold State.Settled at *
    rwa [hmc]
  obtain ⟨-, -, hftb, hfrmu, -, -, hfsi, hftd, hfbm, hfhc, -⟩ := finish_leaves_settled u hset
  refine ⟨⟨hfsi.trans hsi, (finish_standing hset).trans (by rw [hmc]; exact hs.active),
    ⟨hftb.trans htb, hfrmu.trans hrmu, hfbm.trans hbm, hfhc.trans hhc⟩, fun c hc => ?_⟩, hftd.trans htd⟩
  obtain ⟨-, -, -, -, h1, h2⟩ := Counter.ofTrigger_facts hc
  exact finish_count hset h1 h2

/-- The state that a set is handed to: with the blanking of a calibration-active set (R87). -/
def State.blankedFor (r : State) (x : SampleSet) : State := if x.calibration then requestBlanking 1 r else r

theorem blankedFor_leaves : (r.blankedFor x).pins = r.pins ∧ (r.blankedFor x).tb = r.tb ∧ (r.blankedFor x).rmu = r.rmu ∧
    (r.blankedFor x).lc = r.lc ∧ (r.blankedFor x).si = r.si ∧ (r.blankedFor x).cu = r.cu ∧ (r.blankedFor x).bm = r.bm ∧
    (r.blankedFor x).hc = r.hc ∧ (r.blankedFor x).mc = r.mc ∧ (r.blankedFor x).cs = r.cs ∧ (r.blankedFor x).counters = r.counters := by
  unfold State.blankedFor
  split <;> simp

/-- A channel behind the blanking of a calibration-active set (R97). -/
def Channel.before (cal : Bool) (c : Channel) : Channel :=
  if cal = true ∧ c.state ≠ .stopped then { c with blank := max c.blank 1 } else c

theorem blankedFor_td (h : r.td.state ≠ .stopped) : (r.blankedFor x).td = { r.td with
    z := r.td.z.before x.calibration, n := r.td.n.before x.calibration, e := r.td.e.before x.calibration } := by
  have hblank (c : Channel) : c.blanked 1 = c.before true := by
    unfold Channel.blanked Channel.before
    by_cases hc : c.state = .stopped <;> simp [hc]
  have hnone (c : Channel) : c.before false = c := if_neg (by simp)
  unfold State.blankedFor requestBlanking
  cases x.calibration with
  | true =>
    rw [if_pos rfl, if_neg (by simpa using h), ← hblank, ← hblank, ← hblank]
    rfl
  | false =>
    rw [hnone, hnone, hnone]
    rfl

theorem blankedFor_td_of_stopped (h : r.td.state = .stopped) : (r.blankedFor x).td = r.td := by
  unfold State.blankedFor requestBlanking
  rw [h]
  split <;> rfl

/-- A set handed on: the detector's part stands in `State.Hands`. -/
theorem State.Steady.setHanded (hs : s.Steady) (h : s.Counted σ r) :
    s.SetTaken σ r (finish (tdTakeSet grid x (r.blankedFor x))) ∧
    (s.td.state = .stopped → (finish (tdTakeSet grid x (r.blankedFor x))).td = s.td) ∧
    (s.td.state ≠ .stopped → (r.blankedFor x).Hands grid x (finish (tdTakeSet grid x (r.blankedFor x)))) := by
  obtain ⟨hsi, htd, htb, -, hmc, hbm, -, -, hrmu, hhc, -⟩ := h.facts
  obtain ⟨-, hqtb, hqrmu, -, hqsi, -, hqbm, hqhc, hqmc, -, hqcount⟩ := blankedFor_leaves (r := r) (x := x)
  have hactive : (r.blankedFor x).mc.standing = .active := by rw [hqmc, hmc]; exact hs.active
  have hgood : (r.blankedFor x).bm.cls = .good := by rw [hqbm, hbm]; exact hs.good
  have hqtd : s.td.state = .stopped → (r.blankedFor x).td = s.td := fun hstop =>
    (blankedFor_td_of_stopped (by rw [htd]; exact hstop)).trans htd
  have hqrun : s.td.state ≠ .stopped → (r.blankedFor x).td.state ≠ .stopped := fun hrun => by
    rw [blankedFor_td (by rw [htd]; exact hrun), htd]
    exact hrun
  generalize r.blankedFor x = q at *
  obtain ⟨w, hw⟩ : ∃ w, w = tdTakeSet grid x q := ⟨_, rfl⟩
  have hleaves : w.tb = q.tb ∧ w.rmu = q.rmu ∧ w.si = q.si ∧ w.bm = q.bm ∧ w.hc = q.hc := by
    rw [hw]
    simp
  obtain ⟨hwtb, hwrmu, hwsi, hwbm, hwhc⟩ := hleaves
  have hstanding : w.mc.standing = .active := by
    rw [hw]
    exact (tdTakeSet_keeps (.refl 24 .still q)).standing.trans hactive
  have hfirm : w.Firm := .inr ⟨hstanding, by rw [hwbm]; exact hgood⟩
  obtain ⟨-, -, hftb, hfrmu, -, -, hfsi, hftd, hfbm, hfhc, -⟩ := hfirm.leaves
  refine ⟨⟨?_, ?_, ⟨?_, ?_, ?_, ?_⟩, fun c hc => ?_⟩, fun hstop => ?_, fun hrun => hands_of_set (hqrun hrun) hactive hgood⟩
  · rw [← hw, hfsi, hwsi, hqsi, hsi]
  · rw [← hw, hfirm.standing, hstanding]
  · rw [← hw, hftb, hwtb, hqtb, htb]
  · rw [← hw, hfrmu, hwrmu, hqrmu, hrmu]
  · rw [← hw, hfbm, hwbm, hqbm, hbm]
  · rw [← hw, hfhc, hwhc, hqhc, hhc]
  · obtain ⟨h1, h2, h3, h4, h5, h6⟩ := Counter.ofTrigger_facts hc
    rw [← hw, hfirm.count h5 h6, hw, tdTakeSet_count h1 h4 h2 h3]
    exact count_of_counters_eq hqcount
  · have hsame : tdTakeSet grid x q = q := if_pos (by rw [hqtd hstop, hstop]; rfl)
    rw [← hw, hftd, hw, hsame, hqtd hstop]

/-! ## The judgement (R82 to R85) -/

/-- The windows that have ended are closed (R85): `g` is the first slot whose window has not ended, `n` slots are counted missing. -/
theorem closeWindows_counted (h : s.Counted σ v) (hslot : σ.slot = some g0) (hopen : v.windowClosed g = false)
    (hlate : g = g0 ∨ (g0.index < v.rate ∧ g.index < v.rate ∧ g0.number v.rate < g.number v.rate ∧
      ∀ y : GridSlot, y.index < v.rate → g0.number v.rate ≤ y.number v.rate → y.number v.rate < g.number v.rate →
        v.windowClosed y = true)) :
    s.Counted { σ with slot := some g, goodRun := if σ.grid = .fault ∧ g ≠ g0 then 0 else σ.goodRun } (closeWindows v) ∧
    ∀ c, (closeWindows v).count c = if c = .missingSamples ∧ g ≠ g0 then min (v.count c + (g.number v.rate - g0.number v.rate)) 65535
      else v.count c := by
  obtain ⟨hsi, -⟩ := h.facts
  rcases hlate with rfl | ⟨hi0, hi, hlt, hclosed⟩
  · rw [closeWindows_open v g (by rw [hsi]; exact hslot) hopen]
    refine ⟨?_, fun c => by rw [if_neg (by simp)]⟩
    have hσ : ({ σ with slot := some g, goodRun := if σ.grid = .fault ∧ g ≠ g then 0 else σ.goodRun } : SampleIf) = σ := by
      rw [if_neg (by simp), ← hslot]
    rw [hσ]
    exact h
  · have hne : g ≠ g0 := fun he => by rw [he] at hlt; exact absurd hlt (Nat.lt_irrefl _)
    rw [closeWindows_late v g0 g (by rw [hsi]; exact hslot) hi0 hi hlt hclosed hopen]
    have hset := h.setSi (τ := { σ with slot := some g, goodRun := if σ.grid = .fault ∧ g ≠ g0 then 0 else σ.goodRun })
    have hmiss : countMissing (g.number v.rate - g0.number v.rate) g v = bumpBy .missingSamples (g.number v.rate - g0.number v.rate)
        (v.setSi { σ with slot := some g, goodRun := if σ.grid = .fault ∧ g ≠ g0 then 0 else σ.goodRun }) := by
      unfold countMissing
      rw [hsi]
      simp only [beq_iff_eq, hne, ne_eq, not_false_eq_true, and_true]
    rw [hmiss]
    refine ⟨?_, fun c => ?_⟩
    · unfold State.Counted at *
      conv_lhs => rw [hset]
      rfl
    · obtain ⟨τ, hτ⟩ : ∃ τ, τ = ({ σ with slot := some g, goodRun := if σ.grid = .fault ∧ g ≠ g0 then 0 else σ.goodRun } :
        SampleIf) := ⟨_, rfl⟩
      rw [← hτ, count_bumpBy, count_setSi]
      by_cases hc : c = .missingSamples
      · rw [if_pos hc.symm, if_pos ⟨hc, hne⟩]
      · rw [if_neg (Ne.symm hc), if_neg (fun h => hc h.1)]

theorem judgeSet_eq (hslot : (closeWindows v).si.slot = some g) :
    judgeSet x v = if (closeWindows v).windowOpen g then onGrid g x (closeWindows v) else offGrid (closeWindows v) := by
  unfold judgeSet
  dsimp only
  rw [hslot]

end

end Sys2Proof.Machine

/-! PROOFS. Sets against the grid: their bytes, the judgement of the expected slot, and what a set handed on moves (R79, R81 to R85, R97
to R101). -/
namespace Sys2Proof.Machine
set_option Elab.async false

/-! ## The bytes of a set (R79) -/

theorem fromBe_three (a b c : Byte) : fromBe [a, b, c] = 65536 * a.toNat + 256 * b.toNat + c.toNat := by
  rw [fromBe_cons, fromBe_cons, fromBe_cons, show fromBe [] = 0 from rfl]
  simp only [List.length_cons, List.length_nil]
  omega

theorem fromBeInt_three (a b c : Byte) : fromBeInt [a, b, c] =
    ((65536 * a.toNat + 256 * b.toNat + c.toNat : Nat) : Int) - (if 128 ≤ a.toNat then 16777216 else 0) := by
  have hb := b.isLt
  have hc := c.isLt
  unfold fromBeInt
  rw [fromBe_three]
  simp only [List.length_cons, List.length_nil]
  split <;> split <;> omega

theorem field_three {bs : List Byte} {i : Nat} (h : i + 3 ≤ bs.length) :
    field bs i 3 = [bs.getD i 0, bs.getD (i + 1) 0, bs.getD (i + 2) 0] := by
  have h0 : i < bs.length := by omega
  have h1 : i + 1 < bs.length := by omega
  have h2 : i + 2 < bs.length := by omega
  unfold field
  rw [List.drop_eq_getElem_cons h0, List.drop_eq_getElem_cons h1, List.drop_eq_getElem_cons h2]
  rw [List.take_succ_cons, List.take_succ_cons, List.take_succ_cons, List.take_zero, List.getD_eq_getElem _ _ h0,
    List.getD_eq_getElem _ _ h1, List.getD_eq_getElem _ _ h2]

theorem getLsbD_eq (b : Byte) (i : Nat) : b.getLsbD i = decide (b.toNat / 2 ^ i % 2 = 1) := by
  rw [BitVec.getLsbD, Nat.testBit_eq_decide_div_mod_eq]

theorem overloaded_iff (b : Byte) : (b.getLsbD 0 || b.getLsbD 1 || b.getLsbD 2) = true ↔ ¬ b.toNat % 8 = 0 := by
  rw [getLsbD_eq, getLsbD_eq, getLsbD_eq]
  simp only [Bool.or_eq_true, decide_eq_true_eq]
  omega

section
variable {s q r t u v : State} {c : Counter} {grid : StationTime} {x : SampleSet} {σ : SampleIf} {g g0 : GridSlot}
  {edges : List PortEdge} {set : Vector Byte 10}

/-! ## A set on the grid, and one off it (R82 to R84) -/

/-- An on-grid set that is only the first of a run in FAULT (R84). -/
def SampleIf.recovers (σ : SampleIf) : Bool := σ.grid == .fault && σ.goodRun == 0

/-- The Sample Interface behind an on-grid set (R82, R84). -/
def SampleIf.hit (σ : SampleIf) (rate : Nat) (g : GridSlot) : SampleIf :=
  { σ with
    faultRun := 0, slot := some (nextSlot rate g)
    goodRun := if σ.grid = .fault then σ.goodRun + 1 else σ.goodRun
    grid := if σ.grid = .fault ∧ σ.goodRun ≠ 0 then .tracking else σ.grid
    faultHeld := if σ.grid = .fault ∧ σ.goodRun ≠ 0 then false else σ.faultHeld
    lastHanded := if σ.recovers then σ.lastHanded else some (gridTime rate g) }

/-- The Sample Interface behind an off-grid set (R83). -/
def SampleIf.miss (σ : SampleIf) : SampleIf :=
  { σ with
    faultRun := if σ.grid = .fault then σ.faultRun else σ.faultRun + 1
    goodRun := if σ.grid = .fault ∨ 2 ≤ σ.faultRun then 0 else σ.goodRun
    grid := if 2 ≤ σ.faultRun then .fault else σ.grid
    faultHeld := if σ.grid ≠ .fault ∧ 2 ≤ σ.faultRun then true else σ.faultHeld }

theorem setSi_setSi {τ : SampleIf} : (u.setSi σ).setSi τ = u.setSi τ := rfl

theorem onGrid_eq : onGrid g x u =
    if u.si.recovers then u.setSi (u.si.hit u.rate g)
    else tdTakeSet (gridTime u.rate g) x ((u.setSi (u.si.hit u.rate g)).blankedFor x) := by
  by_cases hfault : u.si.grid = .fault
  · by_cases hgood : u.si.goodRun = 0
    · have hrec : u.si.recovers = true := by unfold SampleIf.recovers; simp [hfault, hgood]
      unfold onGrid SampleIf.hit
      simp [hfault, hgood, hrec, setSi_setSi]
    · have hrec : u.si.recovers = false := by unfold SampleIf.recovers; simp [hfault, hgood]
      have hrun : 2 ≤ u.si.goodRun + 1 := by omega
      unfold onGrid SampleIf.hit handOver State.blankedFor
      simp [hfault, hgood, hrec, hrun, setSi_setSi, State.rate]
  · have hrec : u.si.recovers = false := by unfold SampleIf.recovers; simp [hfault]
    unfold onGrid SampleIf.hit handOver State.blankedFor
    simp [hfault, hrec, setSi_setSi, State.rate]

theorem offGrid_eq (hsi : u.si = σ) : offGrid u =
    if σ.grid = .fault then (bump .timingFaults u).setSi { σ with goodRun := 0 }
    else if 2 ≤ σ.faultRun then
      bump .faultEntries ((bump .timingFaults u).setSi
        { σ with faultRun := σ.faultRun + 1, grid := .fault, faultHeld := true, goodRun := 0 })
    else (bump .timingFaults u).setSi { σ with faultRun := σ.faultRun + 1 } := by
  have hraw : offGrid u =
      if σ.grid == .fault then (bump .timingFaults u).setSi { σ with goodRun := 0 }
      else if 3 ≤ σ.faultRun + 1 then
        bump .faultEntries ((bump .timingFaults u).setSi
          { σ with faultRun := σ.faultRun + 1, grid := .fault, faultHeld := true, goodRun := 0 })
      else (bump .timingFaults u).setSi { σ with faultRun := σ.faultRun + 1 } := by
    rw [← hsi]
    rfl
  simpa only [beq_iff_eq, Nat.reduceLeDiff] using hraw

theorem offGrid_counted (h : s.Counted σ u) : s.Counted σ.miss (offGrid u) ∧
    ∀ c, (offGrid u).count c = if c = .timingFaults ∨ (c = .faultEntries ∧ σ.grid ≠ .fault ∧ 2 ≤ σ.faultRun)
      then min (u.count c + 1) 65535 else u.count c := by
  obtain ⟨hsi, -⟩ := h.facts
  have hcount (c : Counter) : (bump .timingFaults u).count c = if c = .timingFaults then min (u.count c + 1) 65535 else u.count c := by
    rw [count_bump]
    simp only [eq_comm]
  have hset (τ : SampleIf) : s.Counted τ ((bump .timingFaults u).setSi τ) := h.bump.setSi
  rw [offGrid_eq hsi]
  by_cases hfault : σ.grid = .fault
  · have hmiss : σ.miss = { σ with goodRun := 0 } := by
      unfold SampleIf.miss
      simp [hfault]
    rw [if_pos hfault, hmiss]
    exact ⟨hset _, fun c => by rw [count_setSi, hcount]; simp [hfault]⟩
  · rw [if_neg hfault]
    by_cases hrun : 2 ≤ σ.faultRun
    · have hmiss : σ.miss = { σ with faultRun := σ.faultRun + 1, grid := .fault, faultHeld := true, goodRun := 0 } := by
        unfold SampleIf.miss
        simp [hfault, hrun]
      rw [if_pos hrun, hmiss]
      refine ⟨(hset _).bump, fun c => ?_⟩
      rw [count_bump, count_setSi, hcount]
      by_cases h1 : c = .timingFaults
      · subst h1
        simp
      · by_cases h2 : c = .faultEntries
        · subst h2
          simp [hfault, hrun]
        · simp [h1, h2, Ne.symm h2]
    · have hmiss : σ.miss = { σ with faultRun := σ.faultRun + 1 } := by
        unfold SampleIf.miss
        simp [hfault, hrun]
      rw [if_neg hrun, hmiss]
      exact ⟨hset _, fun c => by rw [count_setSi, hcount]; simp [hrun]⟩

/-! ## The judgement of a set (R82 to R85) -/

theorem State.Counted.bumpBy {n : Nat} (h : s.Counted σ u) : s.Counted σ (Machine.bumpBy c n u) := by
  unfold State.Counted at *
  conv_lhs => rw [h]
  rfl

theorem closeWindows_any (h : s.Counted σ v) : ∃ τ, s.Counted τ (closeWindows v) ∧ τ.bitCount = σ.bitCount ∧ τ.buffer = σ.buffer ∧
    ∀ c, c ≠ .missingSamples → (closeWindows v).count c = v.count c := by
  obtain ⟨hsi, -⟩ := h.facts
  have hmissing (n : Nat) (g : GridSlot) : ∃ τ, s.Counted τ (countMissing n g v) ∧ τ.bitCount = σ.bitCount ∧ τ.buffer = σ.buffer ∧
      ∀ c, c ≠ .missingSamples → (countMissing n g v).count c = v.count c := by
    refine ⟨{ v.si with slot := some g, goodRun := if v.si.grid == .fault then 0 else v.si.goodRun }, h.setSi.bumpBy,
      by rw [← hsi], by rw [← hsi], fun c hc => ?_⟩
    unfold countMissing
    rw [count_bumpBy, if_neg (Ne.symm hc), count_setSi]
  unfold closeWindows
  split
  · exact ⟨σ, h, rfl, rfl, fun _ _ => rfl⟩
  · dsimp only
    split
    · exact hmissing _ _
    · exact ⟨σ, h, rfl, rfl, fun _ _ => rfl⟩

/-- A detector fed with a set: behind the blanking of a calibration-active one (R87, R97). -/
def State.fed (s : State) (x : SampleSet) : State :=
  s.setTd { s.td with z := s.td.z.before x.calibration, n := s.td.n.before x.calibration, e := s.td.e.before x.calibration }

/-- The detector's part does not turn on the Sample Interface, and of the counters on two. -/
theorem State.Hands.of_counted {p : State} {k : Vector Nat 102} (h : ((p.setSi σ).setCounters k).Hands grid x t)
    (htrig : ((p.setSi σ).setCounters k).count .triggers = p.count .triggers)
    (hre : ((p.setSi σ).setCounters k).count .retriggers = p.count .retriggers) : p.Hands grid x t := by
  have hmoved (hm : ((p.setSi σ).setCounters k).Unmoved t) : p.Unmoved t := by
    obtain ⟨h1, h2, h3, h4, h5, h6⟩ := hm
    exact ⟨h1, h2, h3, h4, h5.trans htrig, h6⟩
  refine ⟨h.chans, fun hs => ?_, fun hs hv => ?_, fun hs hv => ?_, h.onHigh, h.onLow, fun hs => ?_, h.holdLow⟩
  · exact ⟨hmoved (h.settling hs).1, (h.settling hs).2⟩
  · exact ⟨hmoved (h.offLow hs hv).1, (h.offLow hs hv).2⟩
  · obtain ⟨h1, h2, h3, h4, h5, h6, h7, h8, h9, h10, h11, h12⟩ := h.offHigh hs hv
    rw [htrig] at h11
    exact ⟨h1, h2, h3, h4, h5, h6, h7, h8, h9, h10, h11, h12⟩
  · obtain ⟨hruns, hhigh⟩ := h.holdHigh hs
    refine ⟨hruns, fun hv => ?_⟩
    obtain ⟨h1, h2, h3, h4, h5, h6⟩ := hhigh hv
    rw [hre] at h5
    exact ⟨h1, h2, h3, h4, h5, h6⟩

theorem blankedFor_counted (h : s.Counted σ r) (hrun : s.td.state ≠ .stopped) :
    r.blankedFor x = ((s.fed x).setSi σ).setCounters r.counters := by
  obtain ⟨-, htd, -⟩ := h.facts
  have hblank := blankedFor_td (x := x) (r := r) (by rw [htd]; exact hrun)
  have hset : r.blankedFor x = r.setTd (r.blankedFor x).td := by
    unfold State.blankedFor requestBlanking
    split
    · split <;> rfl
    · rfl
  rw [hset, hblank, htd]
  conv_lhs => rw [h]
  rfl

/-- A set on the grid at the end of its step (R82, R84, R87). -/
structure State.OnGrid (s : State) (σ : SampleIf) (g : GridSlot) (x : SampleSet) (u t : State) : Prop where
  taken : s.SetTaken (σ.hit s.rate g) u t
  recovering : σ.recovers = true → t.td = s.td
  stopped : s.td.state = .stopped → t.td = s.td
  handed : σ.recovers = false → s.td.state ≠ .stopped → (s.fed x).Hands (gridTime s.rate g) x t

theorem State.Steady.onGrid (hs : s.Steady) (h : s.Counted σ u) (htrig : u.count .triggers = s.count .triggers)
    (hre : u.count .retriggers = s.count .retriggers) : s.OnGrid σ g x u (finish (Machine.onGrid g x u)) := by
  obtain ⟨hsi, htd, -, hcs, -⟩ := h.facts
  have hrate : u.rate = s.rate := by
    unfold State.rate
    rw [hcs]
  have hset : s.Counted (σ.hit s.rate g) (u.setSi (σ.hit s.rate g)) := h.setSi
  rw [onGrid_eq, hsi, hrate]
  cases hrec : σ.recovers with
  | true =>
    rw [if_pos rfl]
    obtain ⟨htaken, hfin⟩ := hs.setTaken hset
    exact ⟨⟨htaken.si, htaken.standing, htaken.rest, htaken.count⟩, fun _ => hfin, fun _ => hfin, fun hno => absurd (hrec.symm.trans hno) (by decide)⟩
  | false =>
    rw [if_neg (by simp)]
    obtain ⟨htaken, hstop, hrun⟩ := hs.setHanded (grid := gridTime s.rate g) (x := x) hset
    refine ⟨⟨htaken.si, htaken.standing, htaken.rest, htaken.count⟩, fun hno => absurd (hrec.symm.trans hno) (by decide), hstop, fun _ hne => ?_⟩
    have hands := hrun hne
    generalize finish (tdTakeSet (gridTime s.rate g) x ((u.setSi (σ.hit s.rate g)).blankedFor x)) = t at *
    rw [blankedFor_counted hset hne] at hands
    exact hands.of_counted htrig hre

theorem State.Steady.offGrid (hs : s.Steady) (h : s.Counted σ u) :
    s.SetTaken σ.miss (Machine.offGrid u) (finish (Machine.offGrid u)) ∧ (finish (Machine.offGrid u)).td = s.td :=
  hs.setTaken (offGrid_counted h).1

/-- Whatever the grid says of a set, the rest of the machine stays. -/
theorem State.Steady.judged_any (hs : s.Steady) (h : s.Counted σ v) (htrig : v.count .triggers = s.count .triggers)
    (hre : v.count .retriggers = s.count .retriggers) : ∃ τ u, s.SetTaken τ u (finish (judgeSet x v)) ∧
    τ.bitCount = σ.bitCount ∧ τ.buffer = σ.buffer ∧
    ∀ c, c ≠ .missingSamples → c ≠ .timingFaults → c ≠ .faultEntries → u.count c = v.count c := by
  obtain ⟨τ, hclosed, hbits, hbuffer, hcount⟩ := closeWindows_any h
  unfold judgeSet
  dsimp only
  split
  · exact ⟨τ, _, (hs.setTaken hclosed).1, hbits, hbuffer, fun c h1 _ _ => hcount c h1⟩
  · split
    · exact ⟨_, _, (hs.onGrid hclosed ((hcount _ (by decide)).trans htrig) ((hcount _ (by decide)).trans hre)).taken, hbits, hbuffer,
        fun c h1 _ _ => hcount c h1⟩
    · refine ⟨_, _, (hs.offGrid hclosed).1, hbits, hbuffer, fun c h1 h2 h3 => ?_⟩
      rw [(offGrid_counted hclosed).2, if_neg (by simp [h2, h3]), hcount c h1]

/-- The Sample Interface at the judgement of a set: the set whole, the ended windows closed, `g` the expected slot (R85). -/
def State.judgedSi (s : State) (set : Vector Byte 10) (g0 g : GridSlot) : SampleIf :=
  { s.si with
    bitCount := 80, buffer := set.toList.flatMap bitsOf, slot := some g
    goodRun := if s.si.grid = .fault ∧ g ≠ g0 then 0 else s.si.goodRun }

/-- `g` is the first slot, from the expected one on, whose window has not ended (R85). -/
def State.FirstOpen (s : State) (g0 g : GridSlot) : Prop :=
  s.windowClosed g = false ∧ (g = g0 ∨ (g0.index < s.rate ∧ g.index < s.rate ∧ g0.number s.rate < g.number s.rate ∧
    ∀ y : GridSlot, y.index < s.rate → g0.number s.rate ≤ y.number s.rate → y.number s.rate < g.number s.rate →
      s.windowClosed y = true))

theorem judged_at (hslot : s.si.slot = some g0) (hfirst : s.FirstOpen g0 g) : ∃ u : State, s.Counted (s.judgedSi set g0 g) u ∧
    (∀ c, u.count c = if c = .missingSamples ∧ g ≠ g0
      then min ((s.holding edges set).count c + (g.number s.rate - g0.number s.rate)) 65535 else (s.holding edges set).count c) ∧
    judgeSet x (s.holding edges set) = if s.windowOpen g then onGrid g x u else Machine.offGrid u := by
  have hhold := holding_counted (s := s) (edges := edges) (set := set)
  obtain ⟨v, hv⟩ : ∃ v, v = s.holding edges set := ⟨_, rfl⟩
  rw [← hv] at hhold ⊢
  obtain ⟨-, -, htb, hcs, -⟩ := hhold.facts
  have hrate : v.rate = s.rate := by
    unfold State.rate
    rw [hcs]
  have hended (y : GridSlot) : v.windowClosed y = s.windowClosed y := by
    unfold State.windowClosed State.expected
    rw [hrate, hcs, htb]
  obtain ⟨hopen, hlate⟩ := hfirst
  obtain ⟨hclosed, hcount⟩ := closeWindows_counted (g := g) (g0 := g0) hhold hslot (by rw [hended]; exact hopen)
    (by rw [hrate]; simpa only [hended] using hlate)
  obtain ⟨husi, -, hutb, hucs, -⟩ := hclosed.facts
  refine ⟨closeWindows v, hclosed, by rw [hrate] at hcount; exact hcount, ?_⟩
  rw [judgeSet_eq (by rw [husi])]
  have hwindow : (closeWindows v).windowOpen g = s.windowOpen g := by
    unfold State.windowOpen State.expected State.rate
    rw [hucs, hutb]
  rw [hwindow]

/-- The counters that the judgement of a set moves. -/
def Counter.ofSlots (c : Counter) : Bool :=
  c == .missingSamples || c == .timingFaults || c == .faultEntries || c == .unalignedSets

/-- What every set taken leaves (R77, R79). -/
structure State.SetRead (s : State) (edges : List PortEdge) (set : Vector Byte 10) (t : State) : Prop where
  whole : t.si.bitCount = 80 ∧ t.si.buffer = set.toList.flatMap bitsOf
  standing : t.mc.standing = .active
  rest : t.tb = s.tb ∧ t.rmu = s.rmu ∧ t.bm = s.bm ∧ t.hc = s.hc
  count : ∀ c : Counter, c.ofTrigger = false → c.ofSlots = false → t.count c = (s.holding edges set).count c

theorem State.Steady.setRead (hs : s.Steady) (hgrid : s.si.grid ≠ .off) :
    s.SetRead edges set (finish (takeSet (wholeSet edges set s))) := by
  have hhold := holding_counted (s := s) (edges := edges) (set := set)
  have hread {τ : SampleIf} {u t : State} (h : s.SetTaken τ u t) (h1 : τ.bitCount = 80) (h2 : τ.buffer = set.toList.flatMap bitsOf)
      (hcount : ∀ c, c.ofSlots = false → u.count c = (s.holding edges set).count c) : s.SetRead edges set t :=
    ⟨by rw [h.si]; exact ⟨h1, h2⟩, h.standing, h.rest, fun c hc hslots => (h.count c hc).trans (hcount c hslots)⟩
  have hslots {c : Counter} (h : c.ofSlots = false) : c ≠ .missingSamples ∧ c ≠ .timingFaults ∧ c ≠ .faultEntries ∧ c ≠ .unalignedSets := by
    unfold Counter.ofSlots at h
    simpa [and_assoc] using h
  rw [takeSet_whole, if_neg hgrid]
  split
  · refine hread (hs.setTaken hhold.bump).1 rfl rfl fun c hc => ?_
    obtain ⟨-, -, -, hne⟩ := hslots hc
    rw [count_bump, if_neg (Ne.symm hne)]
  · obtain ⟨τ, u, htaken, hbits, hbuffer, hcount⟩ := hs.judged_any (x := decodeSet set.toList) hhold
      (by rw [holding_count, if_neg (by simp)]) (by rw [holding_count, if_neg (by simp)])
    refine hread htaken hbits hbuffer fun c hc => ?_
    obtain ⟨h1, h2, h3, -⟩ := hslots hc
    exact hcount c h1 h2 h3

/-! ## The channels at a set (R90 to R98) -/

theorem Channel.take_compared {cfg : ChanCfg} {overlong ovl : Bool} {y : Channel} {z : Int} :
    (y.take cfg overlong z ovl).2 = decide ((y.state = .quiet ∨ y.state = .on) ∧ y.blank = 0) := by
  have hfirst : (y.first z).state = y.state ∧ (y.first z).blank = y.blank := by
    unfold Channel.first
    split <;> exact ⟨rfl, rfl⟩
  unfold Channel.take
  cases hy : y.state with
  | stopped => simp
  | settling =>
    unfold Channel.judge
    simp [hfirst, hy]
  | quiet =>
    unfold Channel.judge
    by_cases hb : y.blank = 0 <;> simp [hfirst, hy, hb, Nat.pos_iff_ne_zero]
  | on =>
    unfold Channel.judge
    by_cases hb : y.blank = 0 <;> simp [hfirst, hy, hb, Nat.pos_iff_ne_zero]

theorem Channel.before_state {cal : Bool} {y : Channel} : (y.before cal).state = y.state := by
  unfold Channel.before
  split <;> rfl

end

end Sys2Proof.Machine

/-! PROOFS. The sample sets of the obligation: judged against the grid, and handed to the detector (R79 to R101). -/
namespace Sys2Proof.Machine
set_option Elab.async false

section
variable {s t : State} {x : SampleSet} {g g0 : GridSlot} {edges : List PortEdge} {set : Vector Byte 10}

theorem decodeSet_eq (set : Vector Byte 10) : decodeSet set.toList =
    (let y (i : Nat) : Nat := (set.toList.getD i 0).toNat
     let value (i : Nat) : Int := ((65536 * y i + 256 * y (i + 1) + y (i + 2) : Nat) : Int) - (if 128 ≤ y i then 16777216 else 0)
     let flag (i : Nat) : Bool := y 9 / 2 ^ i % 2 = 1
     { z := value 0, n := value 3, e := value 6, overZ := flag 0, overN := flag 1, overE := flag 2, calibration := flag 3 }) := by
  have hlen : set.toList.length = 10 := by simp
  unfold decodeSet
  dsimp only
  rw [field_three (by omega), field_three (by omega), field_three (by omega), fromBeInt_three, fromBeInt_three, fromBeInt_three,
    getLsbD_eq, getLsbD_eq, getLsbD_eq, getLsbD_eq]

theorem firstOpen_iff : s.FirstOpen g0 g ↔ s.tb.time ≤ s.expected g + tolerance s.rate ∧
    (g = g0 ∨ (g0.index < s.rate ∧ g.index < s.rate ∧ g0.number s.rate < g.number s.rate ∧
      ∀ y : GridSlot, y.index < s.rate → g0.number s.rate ≤ y.number s.rate → y.number s.rate < g.number s.rate →
        s.expected y + tolerance s.rate < s.tb.time)) := by
  unfold State.FirstOpen State.windowClosed
  simp only [decide_eq_true_eq, decide_eq_false_iff_not, Nat.not_lt]

theorem isOn_toNat (y : Channel) : (if y.state = .on then 1 else 0) = y.isOn.toNat := by
  unfold Channel.isOn
  cases y.state <;> rfl

theorem isOn_ratio (y : Channel) : (if y.state = .on then y.ratio else 0) = if y.isOn then y.ratio else 0 := by
  unfold Channel.isOn
  simp

theorem settled_state (y : Trigger) : (if y.settled then TrigState.off else .settling) =
    if y.z.state = .settling ∨ y.n.state = .settling ∨ y.e.state = .settling then .settling else .off := by
  unfold Trigger.settled
  by_cases h1 : y.z.state = .settling <;> by_cases h2 : y.n.state = .settling <;> by_cases h3 : y.e.state = .settling <;>
    simp [h1, h2, h3]

/-- The ratio that a channel gives the peak of a running trigger: only where it was compared (R98). -/
theorem fresh_eq {cfg : ChanCfg} {overlong ovl cal : Bool} {b y : Channel} {z : Int} (hy : y = ((b.before cal).take cfg overlong z ovl).1) :
    (if (b.state = .quiet ∨ b.state = .on) ∧ (b.before cal).blank = 0 then (if y.state = .on then y.ratio else 0) else 0) =
      peakOf ((b.before cal).take cfg overlong z ovl) := by
  rw [isOn_ratio, hy]
  unfold peakOf
  rw [Channel.take_compared, Channel.before_state]
  by_cases h : (b.state = .quiet ∨ b.state = .on) ∧ (b.before cal).blank = 0
  · rw [if_pos h, decide_eq_true h, Bool.true_and]
  · rw [if_neg h, decide_eq_false h, Bool.false_and, if_neg (by simp)]

/-- The onset of a set in its window is not past retention (R82, R120). -/
theorem gridTime_recent (hrate : s.tb.time ≤ s.expected g + tolerance s.rate) (hlat : s.cs.image.latency ≤ 262143) :
    s.tooOld (gridTime s.rate g) = false := by
  have htol : tolerance s.rate ≤ 1048576 := Nat.div_le_self _ _
  have hthirty : 262143 + 1048576 ≤ secs 30 := by decide
  unfold State.tooOld
  rw [decide_eq_false_iff_not]
  refine Nat.not_lt.mpr ?_
  calc s.tb.time ≤ gridTime s.rate g + (s.cs.image.latency + tolerance s.rate) := by rw [← Nat.add_assoc]; exact hrate
    _ ≤ gridTime s.rate g + secs 30 := Nat.add_le_add_left ((Nat.add_le_add hlat htol).trans hthirty) _
    _ ≤ gridTime s.rate g + s.window + secs 30 := Nat.add_le_add_right (Nat.le_add_right _ _) _

theorem getD_false_iff {o : Option Bool} : o.getD false = true ↔ o = some true := by
  cases o <;> simp

theorem setRead_count {c : Counter} (hgrid : s.si.grid ≠ .off) (hs : s.Steady) (h : c.ofTrigger = false) (h' : c.ofSlots = false) :
    (finish (takeSet (wholeSet edges set s))).count c =
      if (c = .overloadedSets ∧ ((decodeSet set.toList).overZ || (decodeSet set.toList).overN || (decodeSet set.toList).overE) = true) ∨
        (c = .partialSets ∧ ((edges.map PortEdge.frm).head?.getD false && s.si.inSet) = true)
      then min (s.count c + 1) 65535 else s.count c := by
  rw [(hs.setRead hgrid).count c h h', holding_count]

/-! ## The Sample Interface by its case -/

section
variable {σ : SampleIf} {rate : Nat}

theorem hit_of_tracking (h : σ.grid = .tracking) : (σ.hit rate g).grid = .tracking ∧
    (σ.hit rate g).lastHanded = some (gridTime rate g) ∧ σ.recovers = false := by
  unfold SampleIf.hit SampleIf.recovers
  simp [h]

theorem hit_of_first (h : σ.grid = .fault) (hgood : σ.goodRun = 0) : (σ.hit rate g).grid = .fault ∧ (σ.hit rate g).goodRun = 1 ∧
    (σ.hit rate g).lastHanded = σ.lastHanded ∧ σ.recovers = true := by
  unfold SampleIf.hit SampleIf.recovers
  simp [h, hgood]

theorem hit_of_second (h : σ.grid = .fault) (hgood : σ.goodRun = 1) : (σ.hit rate g).grid = .tracking ∧
    (σ.hit rate g).faultHeld = false ∧ (σ.hit rate g).lastHanded = some (gridTime rate g) ∧ σ.recovers = false := by
  unfold SampleIf.hit SampleIf.recovers
  simp [h, hgood]

theorem miss_of_early (h : σ.grid = .tracking) (hrun : σ.faultRun < 2) :
    σ.miss.grid = .tracking ∧ σ.miss.faultRun = σ.faultRun + 1 := by
  unfold SampleIf.miss
  simp [h, Nat.not_le.mpr hrun]

theorem miss_of_third (h : σ.grid = .tracking) (hrun : σ.faultRun = 2) :
    σ.miss.grid = .fault ∧ σ.miss.faultHeld = true ∧ σ.miss.goodRun = 0 := by
  unfold SampleIf.miss
  simp [h, hrun]

theorem miss_of_fault (h : σ.grid = .fault) : σ.miss.grid = .fault ∧ σ.miss.goodRun = 0 := by
  unfold SampleIf.miss
  simp [h]

end

end

end Sys2Proof.Machine

section
open Sys2Proof Sys2Proof.Machine
set_option Elab.async false

/-- Settles O45: the step takes the set, judges it behind the ended windows, and hands it to the detector, whose vote `State.Hands` states. -/
theorem setsAreJudgedAgainstTheGrid : Obligations.SetsAreJudgedAgainstTheGrid := by
  refine ⟨decodeSet_eq, fun s set edges hs => ⟨fun hoff => ?_, fun hgrid hc => ?_⟩⟩
  · exact congrArg Host.Outcome.next (takeBits_off edges s hoff)
  · have hread := hs.setRead (edges := edges) (set := set) hgrid
    obtain ⟨hbits, hbuffer⟩ := hread.whole
    obtain ⟨htb, hrmu, hbm, hhc⟩ := hread.rest
    refine ⟨_, exec_sampleSetComplete hgrid hc, hbits, hbuffer, ?_, hread.standing, htb, hrmu, hbm, hhc, ?_, fun hun => ?_,
      fun g0 g hun hslot => ?_⟩
    · rw [setRead_count hgrid hs rfl rfl]
      refine if_congr ?_ rfl rfl
      rw [Bool.and_eq_true, getD_false_iff, SampleIf.inSet, decide_eq_true_eq]
      simp
    · rw [setRead_count hgrid hs rfl rfl, ← ite_not]
      refine if_congr ?_ rfl rfl
      simp only [true_and, reduceCtorEq, false_and, or_false]
      exact (not_congr (overloaded_iff _)).trans not_not
    · have hhold := holding_counted (s := s) (edges := edges) (set := set)
      rw [takeSet_whole, if_neg hgrid, if_pos hun]
      obtain ⟨htaken, htd⟩ := hs.setTaken (hhold.bump (c := .unalignedSets))
      refine ⟨?_, htd, by rw [htaken.si]; exact hun, by rw [htaken.si]⟩
      rw [htaken.count _ rfl, count_bump, if_pos rfl, holding_count, if_neg (by simp)]
    · intro rate number expected e tol goodRun hlate hopen
      obtain ⟨u, hu, hcount, hjudge⟩ := judged_at (set := set) (edges := edges) hslot (firstOpen_iff.mpr ⟨hopen, hlate⟩)
      have hcounts (c : Counter) (h1 : c ≠ .missingSamples) (h2 : c ≠ .overloadedSets) (h3 : c ≠ .partialSets) :
          u.count c = s.count c := by
        rw [hcount, if_neg (fun h => h1 h.1), holding_count, if_neg (by simp [h2, h3])]
      have hmissing : u.count .missingSamples = if g = g0 then s.count .missingSamples
          else min (s.count .missingSamples + (number g - number g0)) 65535 := by
        have hheld : (s.holding edges set).count .missingSamples = s.count .missingSamples := by rw [holding_count, if_neg (by simp)]
        rw [hcount, hheld]
        by_cases hg : g = g0
        · rw [if_pos hg, if_neg (fun h => h.2 hg)]
        · rw [if_neg hg, if_pos ⟨rfl, hg⟩]
          rfl
      rw [takeSet_whole, if_neg hgrid, if_neg hun, hjudge]
      by_cases hearly : s.tb.time + tol < e
      · have hwin : s.windowOpen g = false := decide_eq_false (Nat.not_le.mpr hearly)
        rw [hwin, if_neg (by simp)]
        obtain ⟨htaken, htd⟩ := hs.offGrid hu
        have hoff := (offGrid_counted hu).2
        generalize finish (offGrid u) = t at *
        refine ⟨?_, fun hon => absurd hearly (Nat.not_lt.mpr hon), fun _ => ⟨?_, by rw [htaken.si]; rfl, htd, fun h1 h2 => ?_,
          fun h1 h2 => ?_, fun h1 => ?_⟩⟩
        · rw [htaken.count _ rfl, hoff, if_neg (by simp), hmissing]
        · rw [htaken.count _ rfl, hoff, if_pos (.inl rfl), hcounts _ (by decide) (by decide) (by decide)]
        · rw [htaken.si]
          exact miss_of_early h1 h2
        · have hthird : (s.judgedSi set g0 g).grid ≠ .fault ∧ 2 ≤ (s.judgedSi set g0 g).faultRun :=
            ⟨fun h => absurd (h1.symm.trans h) (by decide), Nat.le_of_eq h2.symm⟩
          obtain ⟨h3, h4, h5⟩ := miss_of_third (σ := s.judgedSi set g0 g) h1 h2
          rw [htaken.si, htaken.count _ rfl, hoff, if_pos (.inr ⟨rfl, hthird⟩), hcounts _ (by decide) (by decide) (by decide)]
          exact ⟨h3, h4, h5, rfl⟩
        · rw [htaken.si]
          exact miss_of_fault h1
      · have hwin : s.windowOpen g = true := decide_eq_true (Nat.not_lt.mp hearly)
        rw [hwin, if_pos rfl]
        have H := hs.onGrid (g := g) (x := decodeSet set.toList) hu (hcounts _ (by decide) (by decide) (by decide))
          (hcounts _ (by decide) (by decide) (by decide))
        generalize finish (onGrid g (decodeSet set.toList) u) = t at *
        have hsi := H.taken.si
        refine ⟨?_, fun _ => ⟨by rw [hsi]; rfl, by rw [hsi]; rfl, ?_, fun h1 => ?_, fun h1 h2 => ?_, fun h1 h2 => ?_, fun h1 =>
          ⟨H.stopped, fun hrun => ?_⟩⟩, fun h => absurd h hearly⟩
        · rw [H.taken.count _ rfl, hmissing]
        · rw [H.taken.count _ rfl, hcounts _ (by decide) (by decide) (by decide)]
        · rw [hsi]
          obtain ⟨h2, h3, -⟩ := hit_of_tracking (σ := s.judgedSi set g0 g) (rate := s.rate) (g := g) h1
          exact ⟨h2, h3⟩
        · obtain ⟨h3, h4, h5, h6⟩ := hit_of_first (σ := s.judgedSi set g0 g) (rate := s.rate) (g := g) h1 h2
          rw [hsi]
          exact ⟨h3, h4, H.recovering h6, h5⟩
        · rw [hsi]
          obtain ⟨h3, h4, h5, -⟩ := hit_of_second (σ := s.judgedSi set g0 g) (rate := s.rate) (g := g) h1 h2
          exact ⟨h3, h4, h5⟩
        · have hrec : (s.judgedSi set g0 g).recovers = false := by
            by_cases hfault : s.si.grid = .fault
            · rcases h1 with h2 | h2
              · exact absurd (hfault.symm.trans h2) (by decide)
              · exact (hit_of_second (σ := s.judgedSi set g0 g) (rate := s.rate) (g := g) hfault h2).2.2.2
            · exact Bool.and_eq_false_imp.mpr fun h => absurd (beq_iff_eq.mp h) hfault
          have hands := H.handed hrec hrun
          obtain ⟨hz, hn, he, hlast⟩ := hands.chans
          intro grid w rOn cfg before on high fresh k vote mask running unchanged
          have hon (y : Channel) : on y = y.isOn.toNat := isOn_toNat y
          have hvote : vote = t.td.vote := by
            show on t.td.z + on t.td.n + on t.td.e = _
            rw [hon, hon, hon]
            rfl
          have hmask : mask = t.td.onMask := by
            show on t.td.z + 2 * on t.td.n + 4 * on t.td.e = _
            rw [hon, hon, hon]
            rfl
          have hpeak : max (high t.td.z) (max (high t.td.n) (high t.td.e)) = t.td.onPeak := by
            have hhigh (y : Channel) : high y = if y.isOn then y.ratio else 0 := isOn_ratio y
            rw [hhigh, hhigh, hhigh]
            rfl
          have hfresh : max (fresh s.td.z t.td.z) (max (fresh s.td.n t.td.n) (fresh s.td.e t.td.e)) =
              (s.fed w).comparedPeak w := by
            have h2 : fresh s.td.z t.td.z = _ := fresh_eq hz
            have h3 : fresh s.td.n t.td.n = _ := fresh_eq hn
            have h4 : fresh s.td.e t.td.e = _ := fresh_eq he
            rw [h2, h3, h4]
            rfl
          have hruns (h : (s.fed w).Runs w t) : running := by
            obtain ⟨h2, h3, h4, h5⟩ := h
            refine ⟨h2, h3, ?_, ?_⟩
            · rw [hmask]
              exact h4
            · rw [hfresh]
              exact h5
          rw [hvote]
          refine ⟨hz, hn, he, hlast, fun h2 => ?_, hands.offLow, fun h2 h3 => ?_, fun h2 => ?_, fun h2 => ?_⟩
          · rw [← settled_state]
            exact hands.settling h2
          · obtain ⟨h4, h5, h6, h7, h8, h9, h10, h11, h12, h13, h14, h15, h16⟩ := hands.offHigh h2 h3
            rw [hmask, hpeak]
            exact ⟨h4, h5, h6, h7, h8, h9, h10, h11, h12, h13, h14, h15,
              fun h17 h18 h19 h20 => h16 h17 h18 h19 (gridTime_recent (s := s) hopen h20)⟩
          · obtain ⟨h3, h4⟩ := hands.onHigh h2
            exact ⟨hruns h3, h4, hands.onLow h2⟩
          · obtain ⟨h3, h4⟩ := hands.holdHigh h2
            exact ⟨hruns h3, h4, hands.holdLow h2⟩

end

/-! PROOFS. The completion of a wake, with a held request (R191, R203). -/
namespace Sys2Proof.Machine
set_option Elab.async false

section
variable {s t u w z : State} {c : Counter} {code argument : Nat}

/-! ## A held request is released (R203) -/

/-- The release of a held request moves no more than this. -/
structure State.Releases (s t : State) : Prop where
  mc : t.mc = s.mc
  bm : t.bm = s.bm
  twm : t.twm = s.twm
  moved : t.tb = s.tb ∧ t.td = s.td ∧ t.si = s.si ∧ t.rmu = s.rmu ∧ t.tau = s.tau ∧ t.peers = s.peers ∧ t.cu = s.cu ∧ t.uc = s.uc ∧
    t.pins = s.pins
  cs : ∃ q, t.cs = { s.cs with pending := q }
  lc : ∃ x y, t.lc = { s.lc with idConflict := x, slots := { s.lc.slots with report := y } }

theorem State.Releases.refl : s.Releases s :=
  ⟨rfl, rfl, rfl, ⟨rfl, rfl, rfl, rfl, rfl, rfl, rfl, rfl, rfl⟩, ⟨s.cs.pending, rfl⟩, ⟨s.lc.idConflict, s.lc.slots.report, rfl⟩⟩

/-- A request that a capture has taken: it waits for the wake. -/
def heldRequest (code argument : Nat) : ServiceReq := { requestOf code argument with held := true }

theorem segmentBuilt_si {q : ServiceReq} : (s.segmentBuilt q).si = s.si := by
  unfold State.segmentBuilt clearCounters
  dsimp only
  (repeat' split) <;> rfl

/-- The state with the first segment of a held request requested. -/
def State.answered (s : State) (code argument : Nat) : State :=
  (s.segmentBuilt (heldRequest code argument)).setSlots { (s.segmentBuilt (heldRequest code argument)).lc.slots with
    report := some { moment := s.now, body := segmentBody code 0 (s.build (heldRequest code argument))
                     last := (s.build (heldRequest code argument)).last } }

theorem csReleaseHeld_of_held (h : s.cs.pending = some (heldRequest code argument)) (htakes : s.lcTakes = true) :
    csReleaseHeld s = s.answered code argument := by
  obtain ⟨q, hq⟩ : ∃ q, q = heldRequest code argument := ⟨_, rfl⟩
  obtain ⟨-, hcs, -, hmc, htb, -⟩ := segmentBuilt_facts (s := s) (q := q)
  have htakes' : (s.segmentBuilt q).lcTakes = true := by
    unfold State.lcTakes State.awake State.listenOnly State.ownId at *
    rw [hmc, hcs]
    exact htakes
  have hnow : (s.segmentBuilt q).now = s.now := congrArg Timebase.elapsed htb
  have hheld : csReleaseHeld s = csNext s := by
    unfold csReleaseHeld
    rw [h]
    rfl
  rw [hheld, csNext_of_some (q := q) (by rw [h, hq]), if_pos htakes', hnow, hq]
  rfl

theorem answered_releases : s.Releases (s.answered code argument) := by
  obtain ⟨⟨x, hlc⟩, hcs, -, hmc, htb, huc, htwm, hpins, htd, hcu, hbm, hrmu, hpeers, htau, hhc⟩ :=
    segmentBuilt_facts (s := s) (q := heldRequest code argument)
  refine ⟨hmc, hbm, htwm, ⟨htb, htd, segmentBuilt_si, hrmu, htau, hpeers, hcu, huc, hpins⟩, ⟨_, hcs⟩, ⟨x, ?_⟩⟩
  refine ⟨(s.answered code argument).lc.slots.report, ?_⟩
  unfold State.answered
  simp only [State.setSlots, setLc_lc]
  rw [hlc]

/-- The request and its first segment as the wake leaves them (R203). -/
theorem answered_facts : ∃ x y, (s.answered code argument).cs.pending = some x ∧ x.code = code ∧ x.argument = argument ∧
    x.nextSegment = 1 ∧ x.held = false ∧ (s.answered code argument).lc.slots = { s.lc.slots with report := some y } ∧ y.moment = s.now ∧
    y.body.take 3 = [BitVec.ofNat 8 code, if y.last then 0x80#8 else 0x00#8, if 1 ≤ code ∧ code ≤ 5 then 0x00#8 else 0x01#8] := by
  obtain ⟨⟨x, hlc⟩, hcs, -⟩ := segmentBuilt_facts (s := s) (q := heldRequest code argument)
  obtain ⟨b, hb⟩ : ∃ b, b = s.build (heldRequest code argument) := ⟨_, rfl⟩
  refine ⟨(heldRequest code argument).after b, { moment := s.now, body := segmentBody code 0 b, last := b.last },
    ?_, rfl, rfl, rfl, rfl, ?_, rfl, ?_⟩
  · have hpending : (s.answered code argument).cs.pending = (s.segmentBuilt (heldRequest code argument)).cs.pending := rfl
    rw [hpending, hcs, hb]
  · unfold State.answered
    rw [setSlots_slots, hlc, hb]
  · dsimp only
    rw [segmentBody_eq]
    cases b.last <;> rfl

theorem answered_count : (s.answered code argument).count c =
    if code = 4 ∧ argument % 2 = 1 ∧ c.idx.val / 38 = 0 then 0 else s.count c := by
  obtain ⟨-, -, hcount, -⟩ := segmentBuilt_facts (s := s) (q := heldRequest code argument)
  exact hcount c

/-! ## The completion of a wake (R191) -/

/-- The state at the completion of a wake, up to the poll of the change of mode. -/
def State.rousing (z : State) : State := pollModeChange (watchingAwake z)

/-- A wake completed, its evaluations taken: `w` stands behind the blocks, `n` behind the held request's release. -/
structure State.Rouses (z w n t : State) : Prop where
  begun : z.WatchBegun w
  polled : w.AwakeTo z.rousing
  released : z.rousing.Releases n
  settles : n.AwakeTo t
  settled : t.Settled
  awake : t.mc.standing = .active ∨ t.mc.standing = .watching
  watching : z.bm.cls ≠ .good → t.mc.standing = .watching
  active : z.bm.cls = .good → z.twm.busyFor .battery = false → t.mc.standing = .active

theorem rousing_facts : z.rousing.mc.standing = .watching ∧ z.rousing.awake = true ∧ z.rousing.now = z.now ∧
    z.rousing.listenOnly = z.listenOnly ∧ z.rousing.cs = z.cs := by
  have hbegun := watchBegun_watchingAwake (s := z)
  have hto : (watchingAwake z).AwakeTo z.rousing := awakeTo_pollModeChange
  have hstanding : z.rousing.mc.standing = .watching := by
    unfold State.rousing
    rw [polledTo_pollModeChange.mc, hbegun.mc]
  have hcs : z.rousing.cs = z.cs := hto.rest.2.2.2.2.2.2.trans hbegun.rest.2.2.2.2.2
  refine ⟨hstanding, by unfold State.awake; rw [hstanding]; rfl, ?_, ?_, hcs⟩
  · exact hto.moments.2.2.2.2.1.trans hbegun.moments.2.2.2.2.1
  · unfold State.listenOnly State.ownId
    rw [hcs]

theorem rouses_enterWatching {n : State} (hcls : z.bm.cls ≠ .critical) (hn : n = csReleaseHeld z.rousing)
    (hreleases : z.rousing.Releases n) :
    z.Rouses (watchingAwake z) n (mcSettle (enterWatching z)) := by
  have hbegun := watchBegun_watchingAwake (s := z)
  obtain ⟨-, -, -, hbm, htwm, -⟩ := hbegun.rest
  obtain ⟨hstands, -⟩ := rousing_facts (z := z)
  have hto : (watchingAwake z).AwakeTo z.rousing := awakeTo_pollModeChange
  have hheldP := (hbegun.heldAwake hcls).of_awakeTo hto (.inr hstands)
  have henter : enterWatching z = tellMode n := by
    rw [hn]
    rfl
  have hnstands : (tellMode n).mc.standing = .watching := (congrArg ModeCtl.standing hreleases.mc).trans hstands
  have hheld : (tellMode n).HeldAwake :=
    ⟨.inr hnstands, by rw [← hheldP.hold, ← hreleases.mc]; rfl,
      by rw [show (tellMode n).bm = z.rousing.bm from hreleases.bm]; exact hheldP.cls⟩
  obtain ⟨hsettle, hheld'⟩ := hheld.settle
  have hnbm : (tellMode n).bm.cls = z.rousing.bm.cls := congrArg Battery.cls hreleases.bm
  rw [henter]
  refine ⟨hbegun, hto, hreleases, awakeTo_tellMode.trans hsettle, mcSettle_settled _, hheld'.standing, fun hne => ?_, fun hgood hfree => ?_⟩
  · have hpoor : (tellMode n).bm.cls ≠ .good := by
      rw [hnbm]
      exact awakeTo_cls_ne_good hto (by rw [hbm]; exact hne)
    rw [hheld.settle_of_watching hnstands hpoor]
    exact hnstands
  · have hfree' : (watchingAwake z).twm.busyFor .battery = false := by rw [htwm]; exact hfree
    have hpolled : z.rousing.now = (watchingAwake z).now := hto.moments.2.2.2.2.1
    have hntb : (tellMode n).now = z.rousing.now := congrArg Timebase.elapsed hreleases.moved.1
    have hntwm : (tellMode n).twm = z.rousing.twm := hreleases.twm
    refine hheld.settle_to_active rfl hnstands ?_ ?_
    · rw [hnbm]
      exact (pollModeChange_cls (.inl hfree')).trans (by rw [hbm, hgood])
    · rw [hntwm, hntb, hpolled]
      have hnlast : (tellMode n).bm.lastPoll = z.rousing.bm.lastPoll := congrArg Battery.lastPoll hreleases.bm
      rw [hnlast]
      exact pollModeChange_free hfree'

end

end Sys2Proof.Machine

/-! PROOFS. What the end of the step leaves of a wake: the beacon timer, the records (R32, R35, R150). -/
namespace Sys2Proof.Machine
set_option Elab.async false

section
variable {s t u w z : State} {c : Counter} {r x y : EventRec}

/-! ## The beacon timer -/

theorem beaconTimerRestart_congr (hmc : t.mc.standing = s.mc.standing) (hcs : t.cs = s.cs) (htb : t.tb = s.tb) :
    (beaconTimerRestart t).lc.beaconTimer = (beaconTimerRestart s).lc.beaconTimer := by
  unfold beaconTimerRestart State.beaconPeriod State.listenOnly State.ownId State.now
  rw [hmc, hcs, htb]
  rfl

/-- A transmission starts: the beacon timer stays, or starts afresh. -/
def State.keepsBeacon (s t : State) : Prop :=
  t.lc.beaconTimer = s.lc.beaconTimer ∨ t.lc.beaconTimer = (beaconTimerRestart s).lc.beaconTimer

theorem startBeacon_keepsBeacon {q : BeaconReq} : s.keepsBeacon (startBeacon q s) := by
  right
  obtain ⟨v, hv⟩ : ∃ v, v = bumpIf (s.isMuster q.mark) .musterBeacons (s.setSlots { s.lc.slots with beacon := none }) := ⟨_, rfl⟩
  have hsame : v.mc = s.mc ∧ v.cs = s.cs ∧ v.tb = s.tb := by
    rw [hv]
    simp
  obtain ⟨hmc, hcs, htb⟩ := hsame
  obtain ⟨b, hb⟩ : ∃ b, b = beginTx (.beacon q.mark) .beacon 0 (s.isMuster q.mark && v.dormantPresent) (s.isMuster q.mark)
    (beaconBytes (v.beaconBody q.mark)) v := ⟨_, rfl⟩
  have hbsame : b.mc = s.mc ∧ b.cs = s.cs ∧ b.tb = s.tb := by
    rw [hb]
    exact ⟨hmc, hcs, htb⟩
  obtain ⟨hbmc, hbcs, hbtb⟩ := hbsame
  have hstart : (startBeacon q s).lc = (beaconTimerRestart b).lc := by
    unfold startBeacon
    dsimp only
    rw [← hv, ← hb]
    split <;> rfl
  rw [hstart]
  exact beaconTimerRestart_congr (by rw [hbmc]) hbcs hbtb

theorem arbitrateRest_keepsBeacon : s.keepsBeacon (arbitrateRest s) := by
  unfold arbitrateRest
  (repeat' split) <;> first | exact startBeacon_keepsBeacon | exact .inl rfl

theorem startTransmission_keepsBeacon : s.keepsBeacon (startTransmission s) := by
  unfold startTransmission
  (repeat' split)
  · exact .inl rfl
  · exact arbitrateRest_keepsBeacon (s := s.setSlots { s.lc.slots with declaration := none })
  · exact arbitrateRest_keepsBeacon

theorem lcKick_keepsBeacon : s.keepsBeacon (lcKick s) := by
  unfold lcKick enterGuard
  (repeat' split) <;> first | exact startTransmission_keepsBeacon | exact .inl rfl

/-- A beacon timer that has just started stands so at the end of the step. -/
theorem finish_beaconTimer (hset : s.Settled) (h : s.lc.beaconTimer = (beaconTimerRestart s).lc.beaconTimer) :
    (finish s).lc.beaconTimer = s.lc.beaconTimer := by
  obtain ⟨q, hq⟩ : ∃ q, q = twKick (syncOsc (modemKick s)) := ⟨_, rfl⟩
  have hstanding : q.mc.standing = s.mc.standing := by
    have hsync := (syncOsc_same (modemKick s)).standing
    rw [hq]
    simpa using hsync
  have hsame : q.lc = s.lc ∧ q.cs = s.cs ∧ q.tb = s.tb := by
    rw [hq]
    simp
  obtain ⟨hlc, hcs, htb⟩ := hsame
  rw [finish_eq_follow hset, ← hq]
  rcases lcKick_keepsBeacon (s := q) with hk | hk
  · rw [hk, hlc]
  · rw [hk, beaconTimerRestart_congr hstanding hcs htb, ← h]

/-! ## The id-conflict flag -/

theorem startBeacon_idConflict {q : BeaconReq} : (startBeacon q s).lc.idConflict = s.lc.idConflict := by
  have hslots (x : Slots) : (s.setSlots x).lc.idConflict = s.lc.idConflict := rfl
  have hbump (b : Bool) (d : Counter) (w : State) : (bumpIf b d w).lc = w.lc := by cases b <;> rfl
  have hbegin (o : TxOwner) (k : FrameKind) (x : Nat) (wake muster : Bool) (b : List Byte) (w : State) :
      (beginTx o k x wake muster b w).lc.idConflict = w.lc.idConflict := rfl
  unfold startBeacon beaconTimerRestart
  dsimp only
  (repeat' split) <;> simp [hslots, hbump, hbegin]

theorem startTransmission_idConflict : (startTransmission s).lc.idConflict = s.lc.idConflict := by
  have hrest (v : State) : (arbitrateRest v).lc.idConflict = v.lc.idConflict := by
    unfold arbitrateRest
    (repeat' split) <;> first | exact startBeacon_idConflict | rfl
  unfold startTransmission
  (repeat' split)
  · rfl
  · exact hrest _
  · exact hrest _

theorem finish_idConflict (hset : s.Settled) : (finish s).lc.idConflict = s.lc.idConflict := by
  have hkick (v : State) : (lcKick v).lc.idConflict = v.lc.idConflict := by
    unfold lcKick enterGuard
    (repeat' split) <;> first | exact startTransmission_idConflict | rfl
  rw [finish_eq_follow hset, hkick]
  simp

/-! ## The records -/

/-- A record beside its uplink state and what its declaration frame carries. -/
def EventRec.core (r : EventRec) : EventRec := { r with uplink := .none, owedUplink := none, carried := none }

/-- Each record stands on, beside its uplink state and what its frame carries; the trigger table stays. -/
structure State.Marks (s t : State) : Prop where
  records : ∀ x ∈ s.cu.events, ∃ y ∈ t.cu.events, y.core = x.core
  entries : t.cu.entries = s.cu.entries

theorem State.Marks.refl : s.Marks s := ⟨fun x hx => ⟨x, hx, rfl⟩, rfl⟩

theorem State.Marks.of_cu (h : t.cu = s.cu) : s.Marks t := by
  exact ⟨fun x hx => ⟨x, by rw [h]; exact hx, rfl⟩, by rw [h]⟩

theorem State.Marks.trans (h : s.Marks t) (g : t.Marks u) : s.Marks u where
  records x hx := by
    obtain ⟨y, hy, hcore⟩ := h.records x hx
    obtain ⟨v, hv, hvcore⟩ := g.records y hy
    exact ⟨v, hv, hvcore.trans hcore⟩
  entries := g.entries.trans h.entries

theorem marks_of_map {f : EventRec → EventRec} (hf : ∀ x, (f x).core = x.core) (hevents : t.cu.events = s.cu.events.map f)
    (hentries : t.cu.entries = s.cu.entries) : s.Marks t :=
  ⟨fun x hx => ⟨f x, by rw [hevents]; exact List.mem_map_of_mem hx, hf x⟩, hentries⟩

theorem marks_updRec {k : Nat} {f : EventRec → EventRec} (hf : ∀ x, (f x).core = x.core) : s.Marks (updRec k f s) := by
  refine ⟨fun x hx => ⟨if x.rid == k then f x else x, ?_, ?_⟩, rfl⟩
  · exact (mem_sortBy _ _ _).mpr (List.mem_map_of_mem hx)
  · split
    · exact hf x
    · rfl

theorem marks_startTransmission : s.Marks (startTransmission s) := by
  have hrest (v : State) : v.Marks (arbitrateRest v) := .of_cu (by simp)
  unfold startTransmission
  (repeat' split)
  · next r _ _ =>
    have hcarried : (s.setSlots { s.lc.slots with declaration := none }).Marks (updRec r.rid (fun x => { x with carried := some r.update })
        (s.setSlots { s.lc.slots with declaration := none })) := marks_updRec fun _ => rfl
    exact ⟨hcarried.records, hcarried.entries⟩
  · have hother := hrest (s.setSlots { s.lc.slots with declaration := none })
    exact ⟨hother.records, hother.entries⟩
  · exact hrest _

theorem marks_lcKick : s.Marks (lcKick s) := by
  unfold lcKick enterGuard
  (repeat' split) <;> first | exact marks_startTransmission | exact .of_cu rfl

theorem marks_modemKick : s.Marks (modemKick s) := by
  obtain ⟨f, hf⟩ := modemKick_events (s := s)
  exact marks_of_map (f := fun r => { r with uplink := f r }) (fun _ => rfl) hf modemKick_entries

theorem marks_finish (hset : s.Settled) : s.Marks (finish s) := by
  have hkick : (modemKick s).Marks (twKick (syncOsc (modemKick s))) := .of_cu (by simp)
  rw [finish_eq_follow hset]
  exact (marks_modemKick.trans hkick).trans marks_lcKick

end

end Sys2Proof.Machine

/-! PROOFS. A wake at the end of its step (R191). -/
namespace Sys2Proof.Machine
set_option Elab.async false

section
variable {s t u w z n : State} {c : Counter}

theorem arbitrateRest_cu : (arbitrateRest s).cu = s.cu := by simp

theorem lcKick_cu_of_none_owing (h : ∀ r ∈ s.cu.events, r.owes = false) : (lcKick s).cu = s.cu := by
  have howing : s.owing = none := by
    have hnone : s.cu.events.filter EventRec.owes = [] := List.filter_eq_nil_iff.mpr fun r hr => by simp [h r hr]
    unfold State.owing
    rw [hnone]
    rfl
  have hstart : (startTransmission s).cu = s.cu := by
    unfold startTransmission
    rw [howing]
    split
    · next hsome => cases hsome
    · exact arbitrateRest_cu
    · exact arbitrateRest_cu
  unfold lcKick enterGuard
  (repeat' split) <;> first | exact hstart | rfl

/-- With the modem off the end of a step starts at most its warm-up. -/
theorem finish_of_modem_off (hset : s.Settled) (h : s.uc.modem = .off) :
    ((∀ r ∈ s.cu.events, r.owes = false) → (finish s).cu.events = s.cu.events) ∧ (finish s).uc.queue = s.uc.queue ∧
    (s.awake = true → s.cs.image.uplink = true → s.uc.queue ≠ [] → (finish s).uc.modem = .warmUp) := by
  have hkick : modemKick s = s ∨ modemKick s = setModem .warmUp (s.startTimer (secs s.cs.image.modemWarmUp)) s := by
    unfold modemKick
    rw [h]
    split
    · exact .inl rfl
    · dsimp only
      split
      · exact .inl rfl
      · exact .inr rfl
  have huc : (finish s).uc = (modemKick s).uc := by
    rw [finish_eq_follow hset]
    simp
  refine ⟨fun howes => ?_, ?_, fun hawake huplink hqueue => ?_⟩
  · have hcu : (modemKick s).cu = s.cu := by
      rcases hkick with hk | hk <;> rw [hk]
      rfl
    have hsync : (twKick (syncOsc (modemKick s))).cu = s.cu := by
      rw [← hcu]
      simp
    rw [finish_eq_follow hset, lcKick_cu_of_none_owing (by rw [hsync]; exact howes), hsync]
  · rw [huc]
    rcases hkick with hk | hk <;> rw [hk]
    rfl
  · rw [huc]
    unfold modemKick
    rw [hawake, huplink, h]
    dsimp only
    rw [if_neg (by simp), if_neg (by simpa using hqueue)]
    rfl

/-- A completed wake at the end of its step: `n` stands behind the held request's release. -/
structure State.Awakened (z n t : State) : Prop where
  moments : t.mc.capture = none ∧ t.mc.wakeHold = z.startTimer (secs z.cs.image.wakeHold)
  watching : z.bm.cls ≠ .good → t.mc.standing = .watching
  active : z.bm.cls = .good → z.twm.busyFor .battery = false → t.mc.standing = .active
  blocks : t.td.state = .settling ∧ t.si.grid = .unaligned ∧ t.tau.steerTimer = z.startTimer (secs (2 ^ z.cs.image.k))
  beacon : z.listenOnly = false → t.lc.beaconTimer = z.startTimer (secs (2 ^ z.cs.image.b))
  rmu : z.rmu.sleeping = true → t.rmu.sleeping = false ∧ t.rmu.state = if z.cs.image.receiver then .acquiring else .absent
  time : t.tb.time = z.tb.time ∧ t.tb.elapsed = z.tb.elapsed
  peers : t.peers = (ptResume z).peers
  cs : t.cs = n.cs
  marks : z.Marks t
  count : ∀ c : Counter, c.byPoll = false → c ≠ .calibrationDiscards → c ≠ .musterBeacons → c ≠ .busRecoveries →
    t.count c = n.count c ∧ z.rousing.count c = z.count c
  link : z.pins.lkCd = true → t.lc.slots = n.lc.slots ∧ t.lc.terminalSeq = n.lc.terminalSeq
  conflict : t.lc.idConflict = n.lc.idConflict
  modem : z.uc.modem = .off → ((∀ r ∈ z.cu.events, r.owes = false) → t.cu.events = z.cu.events) ∧ t.uc.queue = z.uc.queue ∧
    (z.cs.image.uplink = true → z.uc.queue ≠ [] → t.uc.modem = .warmUp)

theorem State.Rouses.awakened {m : State} (h : z.Rouses w n m) (hm : finish u = finish m) : z.Awakened n (finish u) := by
  rw [hm]
  obtain ⟨-, -, hftb, hfrmu, hfpeers, hftau, hfsi, hftd, hfbm, hfhc, hfcs, -⟩ := finish_leaves_settled m h.settled
  obtain ⟨-, hbcapture, -, hbtime, hbelapsed, hbtd⟩ := h.begun.moments
  obtain ⟨hbhold, -⟩ := h.begun.moments
  obtain ⟨hphold, hpcapture, -, hptime, hpelapsed, hptd⟩ := h.polled.moments
  obtain ⟨hshold, hscapture, -, hstime, hselapsed, hstd⟩ := h.settles.moments
  obtain ⟨hntb, hntd, hnsi, hnrmu, hntau, hnpeers, hncu, hnuc, hnpins⟩ := h.released.moved
  obtain ⟨hppins, hprmu, hplc, hppeers, hptau, hpsi, hpcs⟩ := h.polled.rest
  obtain ⟨hspins, hsrmu, hslc, hspeers, hstau, hssi, hscs⟩ := h.settles.rest
  obtain ⟨hbpins, hbcu, hbuc, hbbm, hbtwm, hbcs⟩ := h.begun.rest
  obtain ⟨x, y, hnlc⟩ := h.released.lc
  obtain ⟨q, hncs⟩ := h.released.cs
  have hsame := finish_same m h.settled
  have hmlc : m.lc.beaconTimer = w.lc.beaconTimer ∧ m.lc.slots = n.lc.slots ∧ m.lc.terminalSeq = n.lc.terminalSeq := by
    rw [hslc]
    refine ⟨?_, rfl, rfl⟩
    rw [hnlc, hplc]
  obtain ⟨hmbeacon, hmslots, hmterminal⟩ := hmlc
  have hmtime : m.tb.time = z.tb.time ∧ m.tb.elapsed = z.tb.elapsed := by
    rw [hstime, hselapsed, hntb, hptime, hpelapsed, hbtime, hbelapsed]
    exact ⟨rfl, rfl⟩
  have hmimage : m.cs.image = z.cs.image ∧ m.cs.stationId = z.cs.stationId := by
    rw [hscs, hncs, hpcs, hbcs]
    exact ⟨rfl, rfl⟩
  have hmawake : m.awake = true := by
    unfold State.awake
    rcases h.awake with hs | hs <;> rw [hs] <;> rfl
  have hmcu : m.cu = z.cu := by rw [h.settles.cu, hncu, h.polled.cu, hbcu]
  have hmuc : m.uc.queue = z.uc.queue ∧ m.uc.modem = z.uc.modem := by
    rw [h.settles.uc, hnuc, h.polled.uc, hbuc]
    exact ⟨rfl, rfl⟩
  have hmpins : m.pins = z.pins := by rw [hspins, hnpins, hppins, hbpins]
  refine ⟨⟨?_, ?_⟩, fun hne => ?_, fun hg hfree => ?_, ⟨?_, ?_, ?_⟩, fun hsends => ?_, fun hsleep => ?_, ?_, ?_, ?_, ?_,
    fun c h1 h2 h3 h4 => ?_, fun hcd => ?_, by rw [finish_idConflict h.settled, hslc], fun hoff => ?_⟩
  · rw [hsame.capture, hscapture, h.released.mc, hpcapture, hbcapture]
  · rw [hsame.wakeHold, hshold, h.released.mc, hphold, hbhold]
  · rw [finish_standing h.settled, h.watching hne]
  · rw [finish_standing h.settled, h.active hg hfree]
  · rw [hftd, hstd, hntd, hptd, hbtd]
  · rw [hfsi, hssi, hnsi, hpsi, h.begun.si]
  · rw [hftau, hstau, hntau, hptau, h.begun.tau]
  · have hstart : m.lc.beaconTimer = z.startTimer (secs (2 ^ z.cs.image.b)) := by
      rw [hmbeacon, h.begun.lc]
      exact if_neg (by simp [hsends])
    have hrestart : (beaconTimerRestart m).lc.beaconTimer = z.startTimer (secs (2 ^ z.cs.image.b)) := by
      have hperiod : m.beaconPeriod = some (secs (2 ^ z.cs.image.b)) := by
        unfold State.beaconPeriod
        rcases h.awake with hs | hs <;> rw [hs, hmimage.1] <;> rfl
      have hlisten : m.listenOnly = false := by
        unfold State.listenOnly State.ownId at *
        rw [hmimage.2]
        exact hsends
      unfold beaconTimerRestart State.startTimer State.now
      rw [hperiod, hlisten, hmtime.2]
      rfl
    rw [finish_beaconTimer h.settled (hstart.trans hrestart.symm), hstart]
  · rw [hfrmu, hsrmu, hnrmu, hprmu, h.begun.rmu]
    exact rmuWake_rmu hsleep
  · rw [hftb]
    exact hmtime
  · rw [hfpeers, hspeers, hnpeers, hppeers, h.begun.peers]
  · rw [hfcs, hscs]
  · exact (State.Marks.of_cu hmcu).trans (marks_finish h.settled)
  · refine ⟨?_, ?_⟩
    · rw [finish_count h.settled h3 h4, h.settles.count c h1 h2]
    · rw [h.polled.count c h1 h2, h.begun.count c h2]
  · obtain ⟨a, b, k, hlc⟩ := finish_lc_of_busy h.settled (by rw [hmpins]; exact hcd)
    rw [hlc]
    exact ⟨hmslots, hmterminal⟩
  · obtain ⟨hevents, hqueue, hmodem⟩ := finish_of_modem_off h.settled (hmuc.2.trans hoff)
    rw [hmcu] at hevents
    rw [hmuc.1] at hqueue hmodem
    rw [hmimage.1] at hmodem
    exact ⟨hevents, hqueue, hmodem hmawake⟩

/-- A wake with no request held. -/
theorem awakened_of_free (hcls : z.bm.cls ≠ .critical) (hfree : ∀ x, z.cs.pending = some x → x.held = false) :
    z.Awakened z.rousing (finish (enterWatching z)) := by
  have hn : z.rousing = csReleaseHeld z.rousing := by
    rw [csReleaseHeld_of_none]
    rw [rousing_facts.2.2.2.2]
    exact hfree
  exact (rouses_enterWatching hcls hn .refl).awakened finish_settle

/-- A wake with a request held. -/
theorem awakened_of_held {code argument : Nat} (hcls : z.bm.cls ≠ .critical) (hsends : z.listenOnly = false)
    (hheld : z.cs.pending = some (heldRequest code argument)) :
    z.Awakened (z.rousing.answered code argument) (finish (enterWatching z)) := by
  obtain ⟨-, hawake, -, hlisten, hcs⟩ := rousing_facts (z := z)
  have htakes : z.rousing.lcTakes = true := by
    unfold State.lcTakes
    rw [hawake, hlisten, hsends]
    rfl
  exact (rouses_enterWatching hcls (csReleaseHeld_of_held (by rw [hcs]; exact hheld) htakes).symm answered_releases).awakened finish_settle

end

end Sys2Proof.Machine

/-! PROOFS. The end of a capture, its frame's reports taken (R190, R191). -/
namespace Sys2Proof.Machine
set_option Elab.async false

section
variable {s t u v w z n : State} {c : Counter}

/-! ## The reports of a captured frame (R184, R191) -/

/-- The station stands in a capture that can end in a wake: in DORMANT, the class not CRITICAL. -/
structure State.Captive (s : State) : Prop where
  standing : s.mc.standing = .capturing ∨ s.mc.standing = .waking
  capture : s.mc.capture.isSome = true
  cls : s.bm.cls ≠ .critical

/-- The state with a local wake requested in a capture (R191). -/
def State.called (s : State) : State := bump .localWakes (setStanding .waking s.reported)

theorem called_settled : s.called.Settled := ⟨rfl, rfl⟩

theorem State.Captive.wantedMode (h : s.Captive) : s.wantedMode ≠ .shelter := by
  have hcls := h.cls
  unfold State.wantedMode
  cases hc : s.bm.cls with
  | good => exact fun hno => OpMode.noConfusion hno
  | lean => exact fun hno => OpMode.noConfusion hno
  | low =>
    dsimp only
    generalize (if s.dormant then s.staysDormant else s.dormancyConditions) = b
    cases b <;> exact fun hno => OpMode.noConfusion hno
  | critical => exact absurd hc hcls

theorem State.Captive.evaluate (h : s.Captive) : evaluateMode s.reported = s.reported ∨
    (s.mc.standing = .capturing ∧ evaluateMode s.reported = s.called) := by
  have hwanted : s.reported.wantedMode ≠ .shelter := State.Captive.wantedMode ⟨h.standing, h.capture, h.cls⟩
  unfold evaluateMode
  rcases h.standing with hs | hs
  · have hstands : s.reported.mc.standing = .capturing := hs
    have hcall : localWake s.reported = s.called := by
      unfold localWake
      rw [hstands]
      rfl
    rw [hstands]
    cases hmode : s.reported.wantedMode with
    | active => exact .inr ⟨hs, hcall⟩
    | economy => exact .inr ⟨hs, hcall⟩
    | dormant => exact .inl rfl
    | shelter => exact absurd hmode hwanted
  · have hstands : s.reported.mc.standing = .waking := hs
    have hstay : localWake s.reported = s.reported := by
      unfold localWake
      rw [hstands]
    rw [hstands]
    cases hmode : s.reported.wantedMode with
    | active => exact .inl hstay
    | economy => exact .inl hstay
    | dormant => exact .inl rfl
    | shelter => exact absurd hmode hwanted

theorem State.Captive.not_entering (h : s.Captive) : s.mc.standing ≠ .entering := by
  rcases h.standing with hs | hs <;> rw [hs] <;> decide

/-- What a captured frame reports makes the wake certain at most (R191). -/
theorem State.Captive.settle (h : s.Captive) : mcSettle s = s.reported ∨ (s.mc.standing = .capturing ∧ mcSettle s = s.called) := by
  rcases h.evaluate with heval | ⟨hs, heval⟩
  · exact .inl (mcSettle_of_stays h.not_entering heval)
  · have habandon : abandonEntry s.reported = s.reported := abandonEntry_of_not_entering h.not_entering
    have honce : mcSettleOnce s = s.called ∨ mcSettleOnce s = s.reported := by
      rw [mcSettleOnce_eq, habandon, ite_self, heval]
      split
      · split
        · exact .inl rfl
        · exact .inr rfl
      · next hnone =>
        refine .inr (reported_of_settled ?_).symm
        simpa [State.Settled, and_comm] using hnone
    rcases honce with honce | honce
    · exact .inr ⟨hs, by rw [mcSettle_of_once (by rw [honce]; exact called_settled), honce]⟩
    · exact .inl (by rw [mcSettle_of_once (by rw [honce]; exact reported_settled), honce])

/-- An open record calls for a local wake (R184, R185). -/
theorem State.Captive.settle_of_open (h : s.Captive) (hs : s.mc.standing = .capturing) (hdue : s.mc.evalDue = true)
    (hopen : s.openEvent = true) : mcSettle s = s.called := by
  have hstands : s.reported.mc.standing = .capturing := hs
  have hdormant : s.reported.dormant = true := by
    unfold State.dormant
    rw [hstands]
    rfl
  have hwanted : s.reported.wantedMode = .active ∨ s.reported.wantedMode = .economy := by
    have hstays : s.reported.staysDormant = false := by
      unfold State.staysDormant
      rw [show s.reported.openEvent = true from hopen]
      rfl
    have hcls : s.reported.bm.cls ≠ .critical := h.cls
    unfold State.wantedMode
    cases hc : s.reported.bm.cls with
    | good => exact .inl rfl
    | lean => exact .inr rfl
    | low =>
      rw [hdormant, hstays]
      exact .inr rfl
    | critical => exact absurd hc hcls
  have hcall : localWake s.reported = s.called := by
    unfold localWake
    rw [hstands]
    rfl
  have heval : evaluateMode s.reported = s.called := by
    unfold evaluateMode
    rw [hstands]
    rcases hwanted with hw | hw <;> rw [hw] <;> exact hcall
  have habandon : abandonEntry s.reported = s.reported := abandonEntry_of_not_entering h.not_entering
  have honce : mcSettleOnce s = s.called := by
    rw [mcSettleOnce_eq, habandon, ite_self, heval]
    simp [hdue]
  rw [mcSettle_of_once (by rw [honce]; exact called_settled), honce]

/-- The reports of a captured frame taken: `v` stands behind them. -/
structure State.Heeds (s v : State) : Prop where
  mc : v.mc = { s.mc with standing := v.mc.standing, evalDue := false, abandonDue := false }
  standing : v.mc.standing = s.mc.standing ∨ (s.mc.standing = .capturing ∧ v.mc.standing = .waking)
  same : v.pins = s.pins ∧ v.tb = s.tb ∧ v.rmu = s.rmu ∧ v.peers = s.peers ∧ v.tau = s.tau ∧ v.si = s.si ∧ v.td = s.td ∧
    v.cu = s.cu ∧ v.uc = s.uc ∧ v.bm = s.bm ∧ v.hc = s.hc ∧ v.twm = s.twm ∧ v.cs = s.cs ∧ v.lc = s.lc
  count : ∀ c, c ≠ .localWakes → v.count c = s.count c

theorem heeds_reported : s.Heeds s.reported :=
  ⟨rfl, .inl rfl, ⟨rfl, rfl, rfl, rfl, rfl, rfl, rfl, rfl, rfl, rfl, rfl, rfl, rfl, rfl⟩, fun _ _ => rfl⟩

theorem heeds_called (h : s.mc.standing = .capturing) : s.Heeds s.called := by
  refine ⟨rfl, .inr ⟨h, rfl⟩, ⟨rfl, rfl, rfl, rfl, rfl, rfl, rfl, rfl, rfl, rfl, rfl, rfl, rfl, rfl⟩, fun c hc => ?_⟩
  unfold State.called
  rw [count_bump, if_neg (Ne.symm hc)]
  rfl

theorem called_localWakes : s.called.count .localWakes = min (s.count .localWakes + 1) 65535 := by
  unfold State.called
  rw [count_bump, if_pos rfl]
  rfl

theorem State.Captive.heeds (h : s.Captive) : s.Heeds (mcSettle s) := by
  rcases h.settle with hs | ⟨hs, hv⟩
  · rw [hs]
    exact heeds_reported
  · rw [hv]
    exact heeds_called hs

/-- The end of a capture by its frame (R190). -/
theorem State.Captive.endCapture {woken : Bool} (h : s.Captive) :
    endCapture woken s = if woken then patternWake (mcSettle s) else falseWake (mcSettle s) := by
  have hcapture : (mcSettle s).mc.capture.isSome = true := by
    rw [h.heeds.mc]
    exact h.capture
  unfold Machine.endCapture
  dsimp only
  rw [if_pos h.capture, if_pos hcapture]

/-- A state at the completion of a wake by the pattern's frame. -/
def State.patterned (v : State) : State := bump .patternWakes (v.setMc { v.mc with capture := none })

theorem patternWake_eq : patternWake v = enterWatching v.patterned := rfl

theorem patterned_count : v.patterned.count c = if c = .patternWakes then min (v.count c + 1) 65535 else v.count c := by
  unfold State.patterned
  rw [count_bump]
  simp only [eq_comm]
  rfl

end

end Sys2Proof.Machine

/-! PROOFS. A frame that a capture accepts, handed on to its owner in DORMANT (R40, R50, R203). -/
namespace Sys2Proof.Machine
set_option Elab.async false

section
variable {s t u v w : State} {c : Counter} {stamp : RxStamp} {hdr : Header} {rest : List Byte} {kind : FrameKind} {body : Body}

/-! ## A SERVICE REQUEST is held (R203) -/

theorem csTake_of_dormant {code argument : Nat} (htx : s.lc.tx = none) (hdormant : s.dormant = true) :
    csTake code argument s = (requestTaken code argument s).setCs { s.cs with pending := some (heldRequest code argument) } := by
  obtain ⟨v, hv⟩ : ∃ v, v =
      bumpIf (!knownCode code) .unknownRequests (bumpIf s.cs.pending.isSome .requestsReplaced (bump .requestsTaken s)) := ⟨_, rfl⟩
  have hvtx : v.lc.tx = none := by simpa [hv] using htx
  have hvdormant : v.dormant = true := by
    have hmc : v.mc = s.mc := by simp [hv]
    unfold State.dormant at *
    rwa [hmc]
  have hvcs : v.cs = s.cs := by simp [hv]
  have hforget : forgetReportInFlight v = v := by
    unfold forgetReportInFlight
    rw [hvtx]
    simp only [Option.map_none]
    rw [← hvtx]
    rfl
  have htaken : (requestTaken code argument s).setCs { s.cs with pending := some (heldRequest code argument) } =
      v.setCs { s.cs with pending := some (heldRequest code argument) } := by
    unfold requestTaken
    rw [← hv]
    rfl
  unfold csTake
  dsimp only
  rw [← hv, hforget, htaken, hvdormant, ← hvcs]
  show (if v.dormant = true then _ else _) = _
  rw [hvdormant]
  rfl

/-! ## What every accepted frame leaves of a station in DORMANT -/

/-- The sender's record behind an accepted frame in DORMANT (R45 to R47, R50). -/
structure PeerRecord.Heard (r : PeerRecord) (stamp : RxStamp) (hdr : Header) (body : Body) : Prop where
  held : r.heldAge = some 0
  moment : r.lastHeard = stamp.moment
  seq : r.lastSeq = hdr.sequence.toNat
  beacon : ∀ x, body = .beacon x → r.mode = some x.mode ∧ r.cls = some x.cls ∧ r.code = some x.code ∧ r.trig = some x.trig ∧
    r.lastOnset = x.lastOnset
  notice : ∀ n, body = .notice n → r.isAwake = true ∧ r.trig = some (if n.kind = .onset then .on else .off) ∧ r.lastOnset = some n.onset

/-- A frame handed on moves no more than this beside the tables of its owner. -/
structure State.Handed (s : State) (stamp : RxStamp) (hdr : Header) (body : Body) (u : State) : Prop where
  mc : u.mc = { s.mc with evalDue := u.mc.evalDue, abandonDue := u.mc.abandonDue }
  same : u.pins = s.pins ∧ u.tb = s.tb ∧ u.rmu = s.rmu ∧ u.si = s.si ∧ u.bm = s.bm ∧ u.hc = s.hc ∧ u.twm = s.twm
  cs : u.cs = { s.cs with pending := u.cs.pending }
  pending : (∀ q, body ≠ .request q) → u.cs.pending = s.cs.pending
  request : ∀ q, body = .request q → u.cs.pending = some (heldRequest q.code q.argument)
  others : ∀ id, id ≠ hdr.sender → u.peer id = s.peer id
  record : hdr.sender ≠ 15 → ∃ r, u.peer hdr.sender = some r ∧ r.Heard stamp hdr body
  accepted : u.count .framesAccepted = min (s.count .framesAccepted + 1) 65535
  wakes : ∀ c, c = .patternWakes ∨ c = .falseWakes ∨ c = .localWakes → u.count c = s.count c

theorem takenPeer_held {x : HeaderFacts} (h : s.dormant = true) : (takenPeer x s).heldAge = some 0 := by
  unfold takenPeer
  dsimp only
  rw [h, if_pos rfl]

theorem headerTaken_peer_other {f : RxFrame} {id : Nat} (h : id ≠ f.hdr.sender) : (headerTaken f stamp kind s).peer id = s.peer id := by
  rw [headerTaken, peer_ptTake]
  exact if_neg h

/-- The header of a frame of a body that writes no record. -/
theorem headerTaken_handed (hdormant : s.dormant = true) (hbeacon : ∀ x, body ≠ .beacon x) (hnotice : ∀ n, body ≠ .notice n)
    (hrequest : ∀ q, body ≠ .request q) : s.Handed stamp hdr body (headerTaken { hdr := hdr, rest := rest } stamp kind s) := by
  obtain ⟨hpins, htb, hrmu, -, hsi, -, -, -, hbm, hhc, hmc, htwm, hcs, -⟩ :=
    headerTaken_leaves (s := s) (stamp := stamp) (f := { hdr := hdr, rest := rest }) (kind := kind)
  obtain ⟨hseq, hmoment, -⟩ := takenPeer_facts (s := s) (x := RxFrame.facts { hdr := hdr, rest := rest } stamp kind)
  refine ⟨by rw [hmc], ⟨hpins, htb, hrmu, hsi, hbm, hhc, htwm⟩, by rw [hcs], fun _ => by rw [hcs], fun q hq => absurd hq (hrequest q),
    fun id hid => headerTaken_peer_other hid, fun _ => ⟨_, headerTaken_peer, takenPeer_held hdormant, hmoment, hseq,
      fun x hx => absurd hx (hbeacon x), fun x hx => absurd hx (hnotice x)⟩, headerTaken_count.trans (if_pos rfl), fun c hc => ?_⟩
  rw [headerTaken_count, if_neg (by rcases hc with rfl | rfl | rfl <;> decide)]

theorem State.Handed.of_besideEvents (h : s.Handed stamp hdr body u) (hv : v.besideEvents = u.besideEvents) :
    s.Handed stamp hdr body v := by
  obtain ⟨-, hpins, htb, hrmu, hpeers, -, hsi, hbm, hhc, htwm, hcs, -⟩ := rest_of_besideEvents hv
  obtain ⟨gpins, gtb, grmu, gsi, gbm, ghc, gtwm⟩ := h.same
  have hpeer (id : Nat) : v.peer id = u.peer id := peer_of_peers_eq hpeers
  refine ⟨?_, ⟨hpins.trans gpins, htb.trans gtb, hrmu.trans grmu, hsi.trans gsi, hbm.trans gbm, hhc.trans ghc, htwm.trans gtwm⟩,
    by rw [hcs]; exact h.cs, by rw [hcs]; exact h.pending, by rw [hcs]; exact h.request, fun id hid => (hpeer id).trans (h.others id hid),
    fun h15 => ?_, (count_of_besideEvents hv rfl).trans h.accepted, fun c hc => (count_of_besideEvents hv ?_).trans (h.wakes c hc)⟩
  · rw [mc_of_besideEvents hv, h.mc]
  · rw [hpeer]
    exact h.record h15
  · rcases hc with rfl | rfl | rfl <;> rfl

/-- A RANGE REPLY writes of the Peer Table its sender's ranging at most (R63). -/
structure State.Ranged (s : State) (sender : Nat) (t : State) : Prop where
  others : ∀ id, id ≠ sender → t.peer id = s.peer id
  record : ∃ f : PeerRecord → PeerRecord, t.peer sender = (s.peer sender).map f ∧
    ∀ r, (f r).heldAge = r.heldAge ∧ (f r).lastHeard = r.lastHeard ∧ (f r).lastSeq = r.lastSeq
  count : ∀ c, c ≠ .lateReplies → c ≠ .rangingAnomalies → t.count c = s.count c

theorem ranged_bump {sender : Nat} (hc : c = .lateReplies ∨ c = .rangingAnomalies) : s.Ranged sender (bump c s) := by
  refine ⟨fun _ _ => rfl, ⟨id, by rw [Option.map_id]; rfl, fun _ => ⟨rfl, rfl, rfl⟩⟩, fun d h1 h2 => ?_⟩
  rw [count_bump, if_neg]
  rintro rfl
  exact hc.elim h1 h2

theorem replyMeasured_peer_other {sender id : Nat} {b : ReplyBody} (h : id ≠ sender) :
    (replyMeasured sender b stamp s).peer id = s.peer id := by
  have hbump {c : Bool} : (bumpIf c .rangingAnomalies s).peer id = s.peer id := peer_of_peers_eq (by simp)
  have hend {u : State} : (endExchange u).peer id = u.peer id := peer_of_peers_eq (by simp)
  unfold replyMeasured
  dsimp only
  rw [hend, ← hbump]
  exact (peer_updPeer (x := id)).trans (if_neg h)

theorem ranged_measured {sender : Nat} {b : ReplyBody} : s.Ranged sender (replyMeasured sender b stamp s) := by
  refine ⟨fun id hid => replyMeasured_peer_other hid, ⟨_, replyMeasured_peer, fun r => ⟨rfl, rfl, rfl⟩⟩, fun c _ h2 => ?_⟩
  have hsame : (replyMeasured sender b stamp s).count c =
      (bumpIf (decide ((exchangeResult b.t1 b.t2 b.t3 stamp.time).1 < 0 ∨
        65535 < (exchangeResult b.t1 b.t2 b.t3 stamp.time).1)) .rangingAnomalies s).count c :=
    count_of_counters_eq (by simp [replyMeasured])
  rw [hsame]
  simp [Ne.symm h2]

theorem ranged_tauReply {sender : Nat} {b : ReplyBody} : s.Ranged sender (tauReply sender b stamp s) := by
  unfold tauReply
  split
  · exact ranged_bump (.inl rfl)
  · split
    · exact ranged_bump (.inl rfl)
    · dsimp only
      split
      · exact ranged_bump (.inr rfl)
      · exact ranged_measured

/-- A reply handed on in DORMANT. -/
theorem State.Handed.replied {b : ReplyBody} (h : s.Handed stamp hdr (.reply b) u) :
    s.Handed stamp hdr (.reply b) (tauReply hdr.sender b stamp u) := by
  have hmoved : (tauReply hdr.sender b stamp u).pins = u.pins ∧ (tauReply hdr.sender b stamp u).tb = u.tb ∧
      (tauReply hdr.sender b stamp u).rmu = u.rmu ∧ (tauReply hdr.sender b stamp u).si = u.si ∧
      (tauReply hdr.sender b stamp u).bm = u.bm ∧ (tauReply hdr.sender b stamp u).hc = u.hc ∧
      (tauReply hdr.sender b stamp u).twm = u.twm ∧ (tauReply hdr.sender b stamp u).mc = u.mc ∧
      (tauReply hdr.sender b stamp u).cs = u.cs := by simp
  obtain ⟨hpins, htb, hrmu, hsi, hbm, hhc, htwm, hmc, hcs⟩ := hmoved
  obtain ⟨gpins, gtb, grmu, gsi, gbm, ghc, gtwm⟩ := h.same
  have hranged := ranged_tauReply (s := u) (sender := hdr.sender) (b := b) (stamp := stamp)
  obtain ⟨f, hf, hkeeps⟩ := hranged.record
  refine ⟨by rw [hmc]; exact h.mc,
    ⟨hpins.trans gpins, htb.trans gtb, hrmu.trans grmu, hsi.trans gsi, hbm.trans gbm, hhc.trans ghc, htwm.trans gtwm⟩,
    by rw [hcs]; exact h.cs, by rw [hcs]; exact h.pending, by rw [hcs]; exact h.request,
    fun id hid => (hranged.others id hid).trans (h.others id hid), fun h15 => ?_,
    (hranged.count _ (by decide) (by decide)).trans h.accepted, fun c hc => ?_⟩
  · obtain ⟨r, hr, hheard⟩ := h.record h15
    obtain ⟨h1, h2, h3⟩ := hkeeps r
    refine ⟨f r, by rw [hf, hr]; rfl, h1.trans hheard.held, h2.trans hheard.moment, h3.trans hheard.seq, fun x hx => ?_, fun x hx => ?_⟩
    · cases hx
    · cases hx
  · rw [hranged.count c (by rcases hc with rfl | rfl | rfl <;> decide) (by rcases hc with rfl | rfl | rfl <;> decide)]
    exact h.wakes c hc

/-- A beacon's announcements in DORMANT, before its trigger fields are read (R46). -/
theorem announced_handed {b : BeaconBody} (hdormant : s.dormant = true) :
    s.Handed stamp hdr (.beacon b) (s.announced hdr rest stamp b) := by
  obtain ⟨hpins, htb, hrmu, -, hsi, -, -, -, hbm, hhc, hmc, hcs, -⟩ :=
    announced_leaves (s := s) (stamp := stamp) (hdr := hdr) (rest := rest) (b := b)
  have htwm : (s.announced hdr rest stamp b).twm = s.twm := by simp [State.announced]
  obtain ⟨hseq, hmoment, -⟩ := takenPeer_facts (s := s) (x := RxFrame.facts { hdr := hdr, rest := rest } stamp .beacon)
  obtain ⟨z, hpeer, -⟩ := announced_peer (s := s) (stamp := stamp) (hdr := hdr) (rest := rest) (b := b)
  refine ⟨by rw [hmc], ⟨hpins, htb, hrmu, hsi, hbm, hhc, htwm⟩, by rw [hcs], fun _ => by rw [hcs], fun q hq => (nomatch hq),
    fun id hid => announced_peer_other hid, fun _ => ⟨_, hpeer, takenPeer_held hdormant, hmoment, hseq, fun x hx => ?_,
      fun x hx => (nomatch hx)⟩, announced_count.trans (if_pos rfl), fun c hc => ?_⟩
  · cases hx
    exact ⟨rfl, rfl, rfl, rfl, rfl⟩
  · rw [announced_count, if_neg (by rcases hc with rfl | rfl | rfl <;> decide)]

/-- A notice's trigger word in DORMANT (R47). -/
theorem noticed_handed {m : Notice} (hdormant : s.dormant = true) :
    s.Handed stamp hdr (.notice m) (s.noticed hdr rest stamp m) := by
  obtain ⟨hpins, htb, hrmu, -, -, -, -, hbm, hhc, hmc, hcs, -⟩ :=
    noticed_leaves (s := s) (stamp := stamp) (hdr := hdr) (rest := rest) (n := m)
  have hmore : (s.noticed hdr rest stamp m).si = s.si ∧ (s.noticed hdr rest stamp m).twm = s.twm := by simp [State.noticed, headerTaken]
  obtain ⟨hsi, htwm⟩ := hmore
  obtain ⟨hseq, hmoment, hawake⟩ := takenPeer_facts (s := s) (x := RxFrame.facts { hdr := hdr, rest := rest } stamp .notice)
  have hnoticed (id : Nat) : (s.noticed hdr rest stamp m).peer id = if id = hdr.sender then
      ((headerTaken { hdr := hdr, rest := rest } stamp .notice s).peer hdr.sender).map (fun r =>
        { r with trig := some (if m.kind == .onset then .on else .off), lastOnset := some m.onset })
      else (headerTaken { hdr := hdr, rest := rest } stamp .notice s).peer id := peer_updPeer
  have hkind : (if m.kind == NoticeKind.onset then TrigState.on else .off) = if m.kind = .onset then .on else .off := by cases m.kind <;> rfl
  refine ⟨by rw [hmc], ⟨hpins, htb, hrmu, hsi, hbm, hhc, htwm⟩, by rw [hcs], fun _ => by rw [hcs], fun q hq => (nomatch hq),
    fun id hid => ?_, fun _ => ?_, noticed_count.trans (if_pos rfl), fun c hc => ?_⟩
  · rw [hnoticed, if_neg hid]
    exact headerTaken_peer_other hid
  · rw [hnoticed, if_pos rfl, headerTaken_peer (f := { hdr := hdr, rest := rest })]
    refine ⟨_, rfl, takenPeer_held hdormant, hmoment, hseq, fun x hx => (nomatch hx), fun x hx => ?_⟩
    cases hx
    exact ⟨hawake rfl, congrArg some hkind, rfl⟩
  · rw [noticed_count, if_neg (by rcases hc with rfl | rfl | rfl <;> decide)]

/-- A request held in DORMANT. -/
theorem requested_handed {q : RequestBody} (h15 : hdr.sender = 15) (hdormant : s.dormant = true) (htx : s.lc.tx = none) :
    s.Handed stamp hdr (.request q) (acceptFrame { hdr := hdr, rest := rest } stamp kind (.request q) s.hunts) := by
  obtain ⟨v, hv⟩ : ∃ v, v = (bump .framesAccepted s.hunts).setLc { s.lc with rx := .hunting, terminalSeq := some hdr.sequence.toNat } :=
    ⟨_, rfl⟩
  have haccept : acceptFrame { hdr := hdr, rest := rest } stamp kind (.request q) s.hunts =
      (requestTaken q.code q.argument v).setCs { v.cs with pending := some (heldRequest q.code q.argument) } := by
    rw [← csTake_of_dormant (by rw [hv]; exact htx) (by rw [hv]; exact hdormant), hv]
    unfold acceptFrame
    dsimp only
    rw [if_pos h15]
    rfl
  have hvcount (c : Counter) : v.count c = if c = .framesAccepted then min (s.count c + 1) 65535 else s.count c := by
    rw [hv, count_setLc, count_bump]
    simp only [eq_comm]
    rfl
  have hmore : (requestTaken q.code q.argument v).si = v.si ∧ (requestTaken q.code q.argument v).twm = v.twm := by simp [requestTaken]
  obtain ⟨hlc, -, hmc, htb, hrmu, hpeers, -, -, -, hbm, hhc, hpins⟩ := requestTaken_facts (s := v) (code := q.code) (argument := q.argument)
  have hcount (c : Counter) : (acceptFrame { hdr := hdr, rest := rest } stamp kind (.request q) s.hunts).count c =
      (requestTaken q.code q.argument v).count c := by
    rw [haccept]
    rfl
  refine ⟨?_, ⟨?_, ?_, ?_, ?_, ?_, ?_, ?_⟩, ?_, fun hno => absurd rfl (hno q), fun q' hq' => ?_, fun id _ => ?_,
    fun hne => absurd h15 hne, ?_, fun c hc => ?_⟩
  · have hsame : (acceptFrame { hdr := hdr, rest := rest } stamp kind (.request q) s.hunts).mc = s.mc := by
      rw [haccept]
      exact hmc.trans (by rw [hv]; rfl)
    rw [hsame]
  · rw [haccept]
    exact hpins.trans (by rw [hv]; rfl)
  · rw [haccept]
    exact htb.trans (by rw [hv]; rfl)
  · rw [haccept]
    exact hrmu.trans (by rw [hv]; rfl)
  · rw [haccept]
    exact hmore.1.trans (by rw [hv]; rfl)
  · rw [haccept]
    exact hbm.trans (by rw [hv]; rfl)
  · rw [haccept]
    exact hhc.trans (by rw [hv]; rfl)
  · rw [haccept]
    exact hmore.2.trans (by rw [hv]; rfl)
  · rw [haccept, hv]
    rfl
  · cases hq'
    rw [haccept]
    rfl
  · rw [haccept]
    exact peer_of_peers_eq (hpeers.trans (by rw [hv]; rfl))
  · rw [hcount, requestTaken_count, if_neg (by simp), hvcount, if_pos rfl]
  · rw [hcount, requestTaken_count, if_neg (by rcases hc with rfl | rfl | rfl <;> simp), hvcount,
      if_neg (by rcases hc with rfl | rfl | rfl <;> decide)]

/-! ## An accepted frame reaches its owner in DORMANT (R40) -/

/-- The kind of the frame that carries a body. -/
def Body.frameKind : Body → FrameKind
  | .beacon _ => .beacon
  | .notice _ => .notice
  | .declaration _ => .declaration
  | .probe _ => .probe
  | .reply _ => .reply
  | .request _ => .serviceRequest
  | .report => .serviceReport

theorem readBody_kind {target : Nat} {bs : List Byte} (h : readBody kind target bs = some body) : kind = body.frameKind := by
  cases kind <;> unfold readBody at h <;> dsimp only at h <;> split at h <;>
    simp only [reduceCtorEq, Option.map_eq_some_iff, Option.some.injEq] at h
  case serviceRequest => rw [← h]; rfl
  case serviceReport => rw [← h]; rfl
  all_goals
    obtain ⟨x, -, rfl⟩ := h
    rfl

theorem judge_kind {f : RxFrame} (hj : s.judge f = .accepted kind body) : kind = body.frameKind := readBody_kind (judge_accepted hj).2.2.1

theorem judge_terminal {f : RxFrame} {q : RequestBody} (hj : s.judge f = .accepted kind (.request q)) : f.hdr.sender = 15 := by
  obtain ⟨-, hright, -⟩ := judge_accepted hj
  have hkind : kind = .serviceRequest := judge_kind hj
  rw [hkind, ← Bool.not_eq_true, senderWrong_iff] at hright
  have := not_or.mp hright
  tauto

theorem awake_of_dormant (h : s.dormant = true) : s.awake = false := by
  unfold State.dormant at h
  unfold State.awake
  revert h
  cases s.mc.standing <;> decide

theorem musterHeard_of_dormant (h : s.awake = false) : musterHeard s = s := by
  unfold musterHeard
  rw [h]
  rfl

theorem tauProbe_of_dormant {sender : Nat} {t1 : StationTime} (h : s.awake = false) : tauProbe sender t1 stamp s = s := by
  unfold tauProbe
  rw [h, Bool.and_false]
  rfl

section
variable (hj : s.judge { hdr := hdr, rest := rest } = .accepted kind body) (hdormant : s.dormant = true)
include hj

theorem acceptFrame_eq_deliver (hq : ∀ q, body ≠ .request q) :
    acceptFrame { hdr := hdr, rest := rest } stamp kind body s.hunts =
      deliver { hdr := hdr, rest := rest } stamp body (headerTaken { hdr := hdr, rest := rest } stamp body.frameKind s) := by
  have hkind := judge_kind hj
  have hne : kind ≠ .serviceRequest := by
    rw [hkind]
    cases body with
    | request q => exact absurd rfl (hq q)
    | _ => exact fun h => FrameKind.noConfusion h
  rw [acceptFrame_of_station (judge_sender hj hne), hkind]
  rfl

include hdormant

theorem acceptFrame_beacon {b : BeaconBody} (hb : body = .beacon b) :
    acceptFrame { hdr := hdr, rest := rest } stamp kind body s.hunts =
      cuBeacon hdr.sender b (s.endsTrigger hdr.sender b) (s.announced hdr rest stamp b) := by
  have hended : s.endsTrigger hdr.sender b =
      ((((headerTaken { hdr := hdr, rest := rest } stamp .beacon s).peer hdr.sender).bind (fun r => r.trig) == some .on ||
        ((headerTaken { hdr := hdr, rest := rest } stamp .beacon s).peer hdr.sender).bind (fun r => r.trig) == some .hold) &&
      !(b.trig == .on || b.trig == .hold)) := by
    have hpeer := headerTaken_peer (f := { hdr := hdr, rest := rest }) (stamp := stamp) (s := s) (kind := .beacon)
    dsimp only at hpeer
    rw [hpeer, Option.bind_some, takenPeer_trig rfl]
    show State.endsTrigger s hdr.sender b = (((s.peer hdr.sender).bind _ == _ || (s.peer hdr.sender).bind _ == _) && _)
    unfold State.endsTrigger
    cases s.peer hdr.sender <;> rfl
  have hheard : s.heardBeacon hdr rest stamp b = s.announced hdr rest stamp b := by
    unfold State.heardBeacon
    have hasleep : (s.announced hdr rest stamp b).awake = false := by
      unfold State.awake
      rw [announced_leaves.2.2.2.2.2.2.2.2.2.2.1]
      exact awake_of_dormant hdormant
    rw [musterHeard_of_dormant hasleep, ite_self]
  rw [acceptFrame_eq_deliver hj (by rw [hb]; exact fun q h => Body.noConfusion h), hb, ← hheard, hended]
  rfl

theorem acceptFrame_handed (htx : s.lc.tx = none) :
    s.Handed stamp hdr body (acceptFrame { hdr := hdr, rest := rest } stamp kind body s.hunts) := by
  have hasleep (k : FrameKind) : (headerTaken { hdr := hdr, rest := rest } stamp k s).awake = false := by
    unfold State.awake
    rw [headerTaken_leaves.2.2.2.2.2.2.2.2.2.2.1]
    exact awake_of_dormant hdormant
  cases hb : body with
  | beacon b =>
    rw [← hb, acceptFrame_beacon hj hdormant hb, hb]
    exact (announced_handed hdormant).of_besideEvents cuBeacon_besideEvents
  | notice n =>
    rw [← hb, acceptFrame_eq_deliver hj (by rw [hb]; exact fun q h => Body.noConfusion h), hb]
    exact (noticed_handed hdormant).of_besideEvents cuNotice_besideEvents
  | declaration d =>
    rw [← hb, acceptFrame_eq_deliver hj (by rw [hb]; exact fun q h => Body.noConfusion h), hb]
    exact (headerTaken_handed hdormant (fun x h => Body.noConfusion h) (fun x h => Body.noConfusion h)
      (fun x h => Body.noConfusion h)).of_besideEvents cuDeclaration_besideEvents
  | probe t1 =>
    rw [← hb, acceptFrame_eq_deliver hj (by rw [hb]; exact fun q h => Body.noConfusion h), hb]
    refine (congrArg (s.Handed stamp hdr (.probe t1)) (tauProbe_of_dormant (hasleep _))).mpr ?_
    exact headerTaken_handed hdormant (fun x h => Body.noConfusion h) (fun x h => Body.noConfusion h) (fun x h => Body.noConfusion h)
  | reply b =>
    rw [← hb, acceptFrame_eq_deliver hj (by rw [hb]; exact fun q h => Body.noConfusion h), hb]
    exact (headerTaken_handed hdormant (fun x h => Body.noConfusion h) (fun x h => Body.noConfusion h)
      (fun x h => Body.noConfusion h)).replied
  | request q =>
    rw [hb] at hj
    exact requested_handed (judge_terminal hj) hdormant htx
  | report =>
    rw [← hb, acceptFrame_eq_deliver hj (by rw [hb]; exact fun q h => Body.noConfusion h), hb]
    exact headerTaken_handed hdormant (fun x h => Body.noConfusion h) (fun x h => Body.noConfusion h) (fun x h => Body.noConfusion h)

end

end

end Sys2Proof.Machine

/-! PROOFS. A false wake at the end of its step (R190). -/
namespace Sys2Proof.Machine
set_option Elab.async false

section
variable {s t u v w : State} {c : Counter}

theorem captureDropped_rest : (captureDropped v).si = v.si ∧ (captureDropped v).rmu = v.rmu ∧ (captureDropped v).cu = v.cu ∧
    (captureDropped v).uc = v.uc ∧ (captureDropped v).pins = v.pins ∧ (captureDropped v).listenOnly = v.listenOnly := by
  have hcs : (captureDropped v).cs = { v.cs with pending := (captureDropped v).cs.pending } := by
    unfold captureDropped csDropHeld
    split <;> rfl
  refine ⟨by simp [captureDropped], by simp [captureDropped], by simp [captureDropped], by simp [captureDropped],
    by simp [captureDropped], ?_⟩
  unfold State.listenOnly State.ownId
  rw [hcs]

theorem captureDropped_count : (captureDropped v).count c = if c = .falseWakes then min (v.count c + 1) 65535 else v.count c := by
  have hbump : (bump .falseWakes (v.setMc { v.mc with capture := none })).count c =
      if c = .falseWakes then min (v.count c + 1) 65535 else v.count c := by
    rw [count_bump]
    simp only [eq_comm]
    rfl
  rw [← hbump]
  exact count_of_counters_eq (by simp [captureDropped])

theorem rousing_link : v.rousing.lc.slots = v.lc.slots ∧ v.rousing.lc.terminalSeq = v.lc.terminalSeq ∧
    v.rousing.lc.idConflict = v.lc.idConflict := by
  have hpolled : v.rousing.lc = (watchingAwake v).lc := (awakeTo_pollModeChange (s := watchingAwake v)).rest.2.2.1
  rw [hpolled, (watchBegun_watchingAwake (s := v)).lc]
  exact ⟨rfl, rfl, rfl⟩

/-- A station whose capture has ended returns to sleep (R190). -/
def State.asleep (v : State) : State :=
  (runSlow (setStanding .asleep (captureDropped v))).setLc { (runSlow (setStanding .asleep (captureDropped v))).lc with rx := .off }

theorem asleep_facts : v.asleep.mc = { v.mc with capture := none, standing := .asleep } ∧ v.asleep.lc.rx = .off ∧
    v.asleep.tb = (if v.tb.source = .slow then v.tb else { v.tb with slowAsked := true }) ∧ v.asleep.td = v.td ∧ v.asleep.si = v.si ∧
    v.asleep.rmu = v.rmu ∧ v.asleep.bm = v.bm ∧ v.asleep.hc = v.hc ∧ v.asleep.peers = v.peers ∧ v.asleep.cu = v.cu ∧ v.asleep.uc = v.uc ∧
    v.asleep.cs = (captureDropped v).cs ∧ v.asleep.counters = (captureDropped v).counters ∧
    v.asleep.lc.idConflict = v.lc.idConflict := by
  obtain ⟨hmc, htb, hlc, htd, hhc, hpeers, hbm, -⟩ := captureDropped_facts (s := v)
  obtain ⟨hsi, hrmu, hcu, huc, -⟩ := captureDropped_rest (v := v)
  have hslow : v.asleep.tb = (runSlow (captureDropped v)).tb := by
    show (runSlow (setStanding .asleep (captureDropped v))).tb = _
    rw [runSlow_tb, runSlow_tb]
    rfl
  refine ⟨?_, rfl, by rw [hslow, runSlow_tb, htb], ?_, ?_, ?_, ?_, ?_, ?_, ?_, ?_, ?_, ?_, ?_⟩
  all_goals simp [State.asleep, setStanding, hmc, htd, hsi, hrmu, hbm, hhc, hpeers, hcu, huc, hlc]

/-- A false wake at the end of its step, the reports of its frame taken. -/
structure State.Drowses (v t : State) : Prop where
  capture : t.mc.capture = none
  count : ∀ c : Counter, c.byPoll = false → c ≠ .calibrationDiscards → c ≠ .musterBeacons → c ≠ .busRecoveries →
    t.count c = if c = .falseWakes then min (v.count c + 1) 65535 else v.count c
  pending : ∀ x, v.cs.pending = some x → x.held = true → t.cs.pending = none
  marks : v.Marks t
  queue : v.uc.modem = .off → t.uc.queue = v.uc.queue
  conflict : t.lc.idConflict = v.lc.idConflict
  asleep : v.mc.standing = .capturing → t.mc.standing = .asleep ∧ t.lc.rx = .off ∧
    t.tb = (if v.tb.source = .slow then v.tb else { v.tb with slowAsked := true }) ∧ t.td = v.td ∧ t.si = v.si ∧ t.rmu = v.rmu ∧
    t.bm = v.bm ∧ t.hc = v.hc ∧ t.peers = v.peers
  waking : v.mc.standing = .waking → v.tb.source ≠ .fast → t.mc.standing = .waking
  woken : v.mc.standing = .waking → v.tb.source = .fast → (captureDropped v).Awakened (captureDropped v).rousing t

/-- In CAPTURING. -/
theorem drowses_of_capturing (hset : v.Settled) (hs : v.mc.standing = .capturing) : v.Drowses (finish (falseWake v)) := by
  obtain ⟨hmc, hrx, htb, htd, hsi, hrmu, hbm, hhc, hpeers, hcu, huc, hcs, hcounters, hconflict⟩ := asleep_facts (v := v)
  have hwake : falseWake v = v.asleep := falseWake_of_capturing hs
  have huset : v.asleep.Settled := by
    unfold State.Settled at *
    rw [hmc]
    exact hset
  obtain ⟨-, -, hftb, hfrmu, hfpeers, -, hfsi, hftd, hfbm, hfhc, hfcs, -⟩ := finish_leaves_settled _ huset
  rw [hwake]
  refine ⟨?_, fun c _ _ h3 h4 => ?_, fun x hx hheld => ?_, (State.Marks.of_cu hcu).trans (marks_finish huset), fun hoff => ?_,
    by rw [finish_idConflict huset, hconflict], fun _ => ?_, fun hw => ?_, fun hw => ?_⟩
  · rw [(finish_same _ huset).capture, hmc]
  · rw [finish_count huset h3 h4, count_of_counters_eq hcounters, captureDropped_count]
  · rw [hfcs, hcs]
    exact captureDropped_facts.2.2.2.2.2.2.2.2.2.2.1 x hx hheld
  · rw [(finish_of_modem_off huset (by rw [huc]; exact hoff)).2.1, huc]
  · refine ⟨by rw [finish_standing huset, hmc], by rw [finish_rx huset, hrx], hftb.trans htb, hftd.trans htd, hfsi.trans hsi,
      hfrmu.trans hrmu, hfbm.trans hbm, hfhc.trans hhc, hfpeers.trans hpeers⟩
  · rw [hs] at hw
    cases hw
  · rw [hs] at hw
    cases hw

/-- In WAKING, the fast source on its way. -/
theorem drowses_of_warming (hset : v.Settled) (hs : v.mc.standing = .waking) (hsource : v.tb.source ≠ .fast) :
    v.Drowses (finish (falseWake v)) := by
  obtain ⟨hmc, htb, hlc, -, -, -, -, -, -, -, hdrop, -⟩ := captureDropped_facts (s := v)
  obtain ⟨-, -, hcu, huc, -⟩ := captureDropped_rest (v := v)
  have huset : (captureDropped v).Settled := by
    unfold State.Settled at *
    rw [hmc]
    exact hset
  obtain ⟨-, -, -, -, -, -, -, -, -, -, hfcs, -⟩ := finish_leaves_settled _ huset
  rw [falseWake_of_waking hs, if_neg hsource]
  refine ⟨?_, fun c _ _ h3 h4 => ?_, fun x hx hheld => ?_, (State.Marks.of_cu hcu).trans (marks_finish huset), fun hoff => ?_,
    by rw [finish_idConflict huset, hlc], fun hw => ?_, fun _ _ => ?_, fun _ hf => absurd hf hsource⟩
  · rw [(finish_same _ huset).capture, hmc]
  · rw [finish_count huset h3 h4, captureDropped_count]
  · rw [hfcs]
    exact hdrop x hx hheld
  · rw [(finish_of_modem_off huset (by rw [huc]; exact hoff)).2.1, huc]
  · rw [hs] at hw
    cases hw
  · rw [finish_standing huset, hmc]
    exact hs

/-- In WAKING on the fast source: the wake requested before completes. -/
theorem drowses_of_fast (hcls : v.bm.cls ≠ .critical) (hs : v.mc.standing = .waking) (hsource : v.tb.source = .fast) :
    v.Drowses (finish (falseWake v)) := by
  obtain ⟨-, -, hlc, -, -, -, hbm, -, -, -, hdrop, hfree⟩ := captureDropped_facts (s := v)
  obtain ⟨-, -, hcu, huc, -⟩ := captureDropped_rest (v := v)
  rw [falseWake_of_waking hs, if_pos hsource]
  have hawakened := awakened_of_free (z := captureDropped v) (by rw [hbm]; exact hcls) hfree
  refine ⟨hawakened.moments.1, fun c h1 h2 h3 h4 => ?_, fun x hx hheld => ?_, (State.Marks.of_cu hcu).trans hawakened.marks, fun hoff => ?_,
    by rw [hawakened.conflict, rousing_link.2.2, hlc], fun hw => ?_, fun _ hf => absurd hsource hf, fun _ _ => hawakened⟩
  · obtain ⟨h5, h6⟩ := hawakened.count c h1 h2 h3 h4
    rw [h5, h6, captureDropped_count]
  · rw [hawakened.cs, rousing_facts.2.2.2.2]
    exact hdrop x hx hheld
  · rw [(hawakened.modem (by rw [huc]; exact hoff)).2.1, huc]
  · rw [hs] at hw
    cases hw

/-- A false wake in a capture (R190). -/
theorem drowses_falseWake (hset : v.Settled) (hcls : v.bm.cls ≠ .critical) (hs : v.mc.standing = .capturing ∨ v.mc.standing = .waking) :
    v.Drowses (finish (falseWake v)) := by
  rcases hs with hs | hs
  · exact drowses_of_capturing hset hs
  · by_cases hsource : v.tb.source = .fast
    · exact drowses_of_fast hcls hs hsource
    · exact drowses_of_warming hset hs hsource

end

end Sys2Proof.Machine

/-! PROOFS. An onset at a station whose records are all closed (R115 to R119, R136). -/
namespace Sys2Proof.Machine
set_option Elab.async false

section
variable {s t u v w : State} {c : Counter} {x e : Entry} {r : EventRec} {p : EventRec → Bool}

/-! ## No record stands open -/

/-- No event record stands open. -/
def State.Idle (s : State) : Prop := ∀ r ∈ s.cu.events, r.state.open = false

theorem State.Idle.of_events (h : s.Idle) (ht : t.cu.events = s.cu.events) : t.Idle := by
  unfold State.Idle
  rw [ht]
  exact h

theorem State.Idle.owes (h : s.Idle) : ∀ r ∈ s.cu.events, r.owes = false := by
  intro r hr
  have hopen := h r hr
  unfold EventRec.owes
  cases hs : r.state with
  | declared => rw [hs] at hopen; cases hopen
  | _ => rfl

theorem State.Idle.cuRequest (h : s.Idle) : Machine.cuRequest s = s := by
  unfold Machine.cuRequest
  rw [if_neg]
  simpa using h.owes

theorem State.Idle.firstFit {allow : EventRec → Bool} (h : s.Idle) : Machine.firstFit s allow x = none := by
  have hnone : s.cu.events.filter (fun r => r.state.open && allow r) = [] := List.filter_eq_nil_iff.mpr fun r hr => by simp [h r hr]
  unfold Machine.firstFit
  rw [hnone]
  rfl

theorem State.Idle.not_holdoff (h : s.Idle) : ∀ r ∈ s.cu.events, r.state ≠ .holdoff := by
  intro r hr hs
  have hopen := h r hr
  rw [hs] at hopen
  cases hopen

theorem State.Idle.renewEnd (h : s.Idle) : Machine.renewEnd p s = s := by
  have hmap : s.cu.events.map (fun r => if r.state.open && p r then { r with lastEnd := s.now } else r) = s.cu.events :=
    (List.map_congr_left fun r hr => by rw [h r hr]; rfl).trans (List.map_id _)
  unfold Machine.renewEnd
  rw [hmap]
  rfl

theorem State.Idle.closeTest (h : s.Idle) : Machine.closeTest p s = s := by
  have hlive : ∀ r ∈ s.cu.events, r.state.live = false := by
    intro r hr
    have hopen := h r hr
    cases hs : r.state with
    | declared => rw [hs] at hopen; cases hopen
    | adopted => rw [hs] at hopen; cases hopen
    | _ => rfl
  unfold Machine.closeTest closeWhere
  rw [if_neg]
  simp only [Bool.not_eq_true, List.any_eq_false]
  intro r hr
  unfold State.mayClose
  simp [hlive r hr]

theorem State.Idle.offerOne {allow : EventRec → Bool} (h : s.Idle) : Machine.offerOne allow s e = s := by
  unfold Machine.offerOne
  rw [h.firstFit]
  split <;> rfl

theorem idle_setEntries {xs : List Entry} (h : s.Idle) : (setEntries xs s).Idle := h

theorem idle_updRec_setPeak {k station peak : Nat} (h : s.Idle) : (updRec k (setPeak station peak) s).Idle := by
  intro r hr
  have hmem := (mem_sortBy _ _ _).mp hr
  obtain ⟨y, hy, hyr⟩ := List.mem_map.mp hmem
  rw [← hyr]
  split
  · exact h y hy
  · exact h y hy

/-! ## An onset leaves the trigger and the modes alone where no own entry stands -/

/-- An operation of the tables that no other unit hears of, where no record stands open. -/
structure State.Hushed (s t : State) : Prop where
  td : t.td = s.td
  mc : t.mc = s.mc
  idle : t.Idle

theorem State.Idle.mergeEntry (h : s.Idle) (hown : ∀ y ∈ s.cu.entries, y.own = false) (he : e ∈ s.cu.entries) :
    s.Hushed (Machine.mergeEntry e x s) := by
  obtain ⟨v, hv⟩ : ∃ v, v = setEntries (s.cu.entries.replace e (e.absorb x)) s := ⟨_, rfl⟩
  have hvidle : v.Idle := by rw [hv]; exact idle_setEntries h
  have hvsame : v.td = s.td ∧ v.mc = s.mc := by rw [hv]; exact ⟨rfl, rfl⟩
  have hquorum : evalQuorum v = v := evalQuorum_of_no_own fun y hy _ => by
    rw [hv, mem_setEntries] at hy
    rcases mem_of_mem_replace hy with hy | rfl
    · exact hown y hy
    · exact hown e he
  unfold Machine.mergeEntry
  dsimp only
  rw [← hv]
  split
  · have hpeak := idle_updRec_setPeak (k := ‹Nat›) (station := (e.absorb x).station) (peak := (e.absorb x).peak) hvidle
    rw [hpeak.renewEnd, ite_self]
    exact ⟨hvsame.1, hvsame.2, hpeak⟩
  · rw [hvidle.offerOne, hquorum]
    exact ⟨hvsame.1, hvsame.2, hvidle⟩

theorem State.Idle.placeEntry (h : s.Idle) (hown : ∀ y ∈ s.cu.entries, y.own = false) (hx : x.own = false) :
    s.Hushed (Machine.placeEntry x s) := by
  have hinsert (w : State) (hw : w.Idle) (hwown : ∀ y ∈ w.cu.entries, y.own = false) :
      evalQuorum (setEntries (w.cu.entries ++ [x]) w) = setEntries (w.cu.entries ++ [x]) w := evalQuorum_of_no_own fun y hy _ => by
    rw [mem_setEntries] at hy
    rcases List.mem_append.mp hy with hy | hy
    · exact hwown y hy
    · rw [List.mem_singleton.mp hy, hx]
  unfold Machine.placeEntry
  rw [h.firstFit]
  split
  · exact ⟨rfl, rfl, h⟩
  · next victim hplace =>
    dsimp only
    have hevict : ∃ w, w = evictFor victim s ∧ w.td = s.td ∧ w.mc = s.mc ∧ w.Idle ∧ ∀ y ∈ w.cu.entries, y.own = false := by
      refine ⟨_, rfl, ?_⟩
      cases victim with
      | none => exact ⟨rfl, rfl, h, hown⟩
      | some e =>
        have hevictable : s.evictable = some e := by
          unfold State.placeFor at hplace
          split at hplace
          · cases hplace
          · simpa using hplace
        rw [evictable_of_unprovisional h.not_holdoff] at hevictable
        have he : e.own = false := hown e (List.mem_of_find?_eq_some hevictable)
        have hbound : e.bound = none := by simpa using List.find?_some hevictable
        have hevicted : evictFor (some e) s = bump .triggerTableOverflow (setEntries (s.cu.entries.erase e) s) := by
          show evict e s = _
          rw [evict_of_unbound hbound, he]
          rfl
        rw [hevicted]
        refine ⟨rfl, rfl, h, fun y hy => ?_⟩
        exact hown y (List.mem_of_mem_erase ((mem_sortBy _ _ _).mp hy))
    obtain ⟨w, hw, htd, hmc, hidle, hwown⟩ := hevict
    rw [← hw, hinsert w hidle hwown]
    exact ⟨htd, hmc, hidle⟩

theorem State.Idle.admitOnset (h : s.Idle) (hown : ∀ y ∈ s.cu.entries, y.own = false) (hx : x.own = false) :
    s.Hushed (Machine.admitOnset x s) := by
  cases hold : s.tooOld x.onset with
  | true =>
    rw [admitOnset_of_old hold]
    exact ⟨rfl, rfl, h⟩
  | false =>
    cases hm : s.mergeTarget x.station x.onset with
    | some e =>
      have hmerge := h.mergeEntry (x := x) hown (List.mem_of_find?_eq_some hm)
      rw [admitOnset_of_known hold hm, hmerge.idle.cuRequest]
      exact hmerge
    | none =>
      have hplace := h.placeEntry hown hx
      rw [admitOnset_of_new hold hm, hplace.idle.cuRequest]
      exact hplace

theorem State.Idle.cuNotice {sender : Nat} {n : Notice} (h : s.Idle) (hown : ∀ y ∈ s.cu.entries, y.own = false) :
    s.Hushed (Machine.cuNotice sender n s) := by
  have hadmit := h.admitOnset (x := noticeEntry sender n) hown rfl
  rw [cuNotice_eq, hadmit.idle.closeTest]
  exact hadmit

theorem State.Idle.beaconTested {sender : Nat} {ended : Bool} (h : s.Idle) : Machine.beaconTested sender ended s = s := by
  unfold Machine.beaconTested
  rw [h.renewEnd, ite_self, h.closeTest]

theorem State.Idle.cuBeacon {sender : Nat} {b : BeaconBody} {ended : Bool} (h : s.Idle) (hown : ∀ y ∈ s.cu.entries, y.own = false) :
    s.Hushed (Machine.cuBeacon sender b ended s) := by
  have hself : s.Hushed s := ⟨rfl, rfl, h⟩
  cases hb : b.lastOnset with
  | none =>
    rw [cuBeacon_of_no_onset hb, h.beaconTested]
    exact hself
  | some o =>
    cases hm : s.mergeTarget sender o with
    | some e =>
      rw [cuBeacon_of_known_onset hb (by rw [hm]; rfl), h.beaconTested]
      exact hself
    | none =>
      obtain ⟨a, ha⟩ : ∃ a, a = arrival sender o none b.peak none false := ⟨_, rfl⟩
      have hadmit := h.admitOnset (x := a) hown (by rw [ha]; rfl)
      have hcounted : s.Hushed (bumpIf (s.findsPlace a) .recoveredEntries (Machine.admitOnset a s)) :=
        ⟨by simp [hadmit.td], by simp [hadmit.mc], hadmit.idle.of_events (by simp)⟩
      rw [cuBeacon_of_new_onset hb hm, ← ha, hcounted.idle.beaconTested]
      exact hcounted

/-! ## An onset enters the emptied table (R115, R118) -/

/-- What an onset makes of an empty trigger table. -/
structure State.Enters (s : State) (x : Entry) (t : State) : Prop where
  uc : t.uc = s.uc
  events : t.cu.events = s.cu.events
  fresh : s.tooOld x.onset = false → t.cu.entries = [x]
  old : s.tooOld x.onset = true → t.cu.entries = [] ∧ t.count .staleEntries = min (s.count .staleEntries + 1) 65535

theorem State.Idle.enters (h : s.Idle) (hempty : s.cu.entries = []) (hx : x.own = false) : s.Enters x (Machine.admitOnset x s) := by
  cases hold : s.tooOld x.onset with
  | true =>
    rw [admitOnset_of_old hold]
    exact ⟨rfl, rfl, fun hno => absurd (hold.symm.trans hno) (by decide), fun _ => ⟨hempty, by rw [count_bump, if_pos rfl]⟩⟩
  | false =>
    have hm : s.mergeTarget x.station x.onset = none := by
      rw [mergeTarget_eq_none, hempty]
      simp
    obtain ⟨v, hv⟩ : ∃ v, v = setEntries [x] s := ⟨_, rfl⟩
    have hplace : Machine.placeEntry x s = v := by
      unfold Machine.placeEntry
      rw [placeFor_of_room (by rw [hempty]; decide), h.firstFit]
      show evalQuorum (setEntries (s.cu.entries ++ [x]) s) = v
      rw [hempty, hv]
      exact evalQuorum_of_no_own fun y hy _ => by
        rw [mem_setEntries] at hy
        rw [List.mem_singleton.mp hy, hx]
    have hvidle : v.Idle := by rw [hv]; exact idle_setEntries h
    rw [admitOnset_of_new hold hm, hplace, hvidle.cuRequest, hv]
    exact ⟨rfl, rfl, fun _ => rfl, fun hno => by rw [hold] at hno; cases hno⟩

theorem State.Enters.idle (h : s.Enters x t) (hidle : s.Idle) : t.Idle := hidle.of_events h.events

theorem State.Idle.cuNotice_enters {sender : Nat} {n : Notice} (h : s.Idle) (hempty : s.cu.entries = []) :
    s.Enters (noticeEntry sender n) (Machine.cuNotice sender n s) := by
  have henters := h.enters (x := noticeEntry sender n) hempty rfl
  rw [cuNotice_eq, (henters.idle h).closeTest]
  exact henters

theorem State.Idle.cuBeacon_enters {sender : Nat} {b : BeaconBody} {ended : Bool} {o : StationTime} (h : s.Idle)
    (hempty : s.cu.entries = []) (hb : b.lastOnset = some o) :
    s.Enters (arrival sender o none b.peak none false) (Machine.cuBeacon sender b ended s) := by
  obtain ⟨a, ha⟩ : ∃ a, a = arrival sender o none b.peak none false := ⟨_, rfl⟩
  have hm : s.mergeTarget sender o = none := by
    rw [mergeTarget_eq_none, hempty]
    simp
  have henters := h.enters (x := a) hempty (by rw [ha]; rfl)
  have hcounted : s.Enters a (bumpIf (s.findsPlace a) .recoveredEntries (Machine.admitOnset a s)) := by
    refine ⟨by simp [henters.uc], by simp [henters.events], fun hnew => by simp [henters.fresh hnew], fun hold => ?_⟩
    obtain ⟨h1, h2⟩ := henters.old hold
    exact ⟨by simp [h1], by simp [h2]⟩
  rw [cuBeacon_of_new_onset hb hm, ← ha, (hcounted.idle h).beaconTested]
  exact hcounted

end

end Sys2Proof.Machine

/-! PROOFS. A declaration adopted in a capture (R131, R132, R142). -/
namespace Sys2Proof.Machine
set_option Elab.async false

section
variable {s t u v w : State} {c : Counter} {r : EventRec} {d : DeclBody} {sender k : Nat}

/-! ## An uplink operation beside its queue -/

/-- An operation of the uplink: the records stand on, a report to MC that waits goes on waiting, no adoption is counted, and the modem
stays. -/
structure State.Uplinked (s t : State) : Prop where
  marks : s.Marks t
  due : s.mc.evalDue = true → t.mc.evalDue = true
  count : t.count .adoptions = s.count .adoptions
  modem : t.uc.modem = s.uc.modem

theorem State.Uplinked.refl : s.Uplinked s := ⟨.refl, id, rfl, rfl⟩

theorem State.Uplinked.trans (h : s.Uplinked t) (g : t.Uplinked u) : s.Uplinked u :=
  ⟨h.marks.trans g.marks, fun hs => g.due (h.due hs), g.count.trans h.count, g.modem.trans h.modem⟩

theorem uplinked_bump (hc : c ≠ .adoptions) : s.Uplinked (bump c s) :=
  ⟨.of_cu rfl, id, by rw [count_bump, if_neg hc], rfl⟩

theorem uplinked_setUc {x : Uplink} (hx : x.modem = s.uc.modem := by rfl) : s.Uplinked (s.setUc x) := ⟨.of_cu rfl, id, rfl, hx⟩

theorem uplinked_updRec {f : EventRec → EventRec} (hf : ∀ x, (f x).core = x.core) : s.Uplinked (updRec k f s) :=
  ⟨marks_updRec hf, id, rfl, rfl⟩

theorem uplinked_ucSync : s.Uplinked (ucSync s) :=
  ⟨marks_of_map (f := fun r => { r with uplink := uplinkStateOf s.uc r }) (fun _ => rfl) rfl rfl, id, rfl, rfl⟩

theorem uplinked_ucInsert {kind : AlertKind} {rid : Option Nat} {id : Option EventId} {update : Nat} :
    s.Uplinked (ucInsert kind rid id update s) := by
  have hsync : (setQueue (insertBy (alertLe s.now) (s.freshAlert kind rid id update) s.uc.queue) s).Uplinked
      (ucSync (setQueue (insertBy (alertLe s.now) (s.freshAlert kind rid id update) s.uc.queue) s)) := uplinked_ucSync
  have hset : s.Uplinked (setQueue (insertBy (alertLe s.now) (s.freshAlert kind rid id update) s.uc.queue) s) := uplinked_setUc
  have hboth := hset.trans hsync
  exact ⟨⟨hboth.marks.records, hboth.marks.entries⟩, fun _ => rfl, hboth.count, rfl⟩

theorem uplinked_ucRaiseHealth : s.Uplinked (ucRaiseHealth s) := by
  unfold ucRaiseHealth ucPlaceHealth
  (repeat' split)
  · exact .refl
  · exact uplinked_bump (by decide)
  · exact .refl
  · exact uplinked_setUc
  · exact uplinked_ucInsert
  · exact uplinked_bump (by decide)

theorem uplinked_ucPlace {kind : AlertKind} {id : Option EventId} {update : Nat} : s.Uplinked (ucPlace kind k id update s) := by
  unfold ucPlace
  (repeat' split)
  · exact uplinked_ucInsert
  · have hevict : s.Uplinked (ucEvictHealth s) := by
      unfold ucEvictHealth
      exact State.Uplinked.trans (t := setQueue (s.uc.queue.filter (fun a => !(a.kind == .health && !a.turn.inTransfer))) s) uplinked_setUc
        (uplinked_bump (by decide))
    refine State.Uplinked.trans (hevict.trans (uplinked_ucInsert (kind := kind) (rid := some k) (id := id) (update := update))) ?_
    unfold ucHealthLeft
    split
    · exact State.Uplinked.trans uplinked_setUc uplinked_ucRaiseHealth
    · exact .refl
  · unfold ucStack
    split
    · exact .refl
    · dsimp only
      refine State.Uplinked.trans ?_ (uplinked_ucSync.trans (uplinked_bump (by decide)))
      have hset (x : Stacked) : s.Uplinked (setStacked (s.uc.stacked ++ [x]) s) := uplinked_setUc
      split
      · exact (hset _).trans (uplinked_updRec fun _ => rfl)
      · exact hset _

theorem uplinked_ucNewEvent : s.Uplinked (ucNewEvent k s) := by
  unfold ucNewEvent ucRaiseReport
  split
  · split
    · exact .refl
    · dsimp only
      (repeat' split)
      · exact uplinked_setUc
      · exact uplinked_updRec fun _ => rfl
      · exact .refl
      · exact uplinked_ucPlace
  · exact .refl

/-! ## The event report of a new record in the emptied queue (R142 to R144) -/

theorem ucNewEvent_queue {others : List EventRec} (h : s.Holds r others) (huplink : s.cs.image.uplink = true) (hqueue : s.uc.queue = [])
    (hstacked : s.uc.stacked = []) : (ucNewEvent r.rid s).uc.queue = [s.freshAlert .event (some r.rid) r.id r.update] := by
  have hplace : ucNewEvent r.rid s = ucInsert .event (some r.rid) r.id r.update s := by
    unfold ucNewEvent ucRaiseReport Uplink.holds ucPlace
    rw [if_pos huplink, h.record]
    dsimp only
    rw [hqueue, hstacked]
    rfl
  rw [hplace, ucInsert_uc, hqueue]
  rfl

/-! ## The adoption (R131, R132) -/

/-- A declaration that a station with an emptied trigger table and no open record adopts. -/
structure State.Adoptable (s : State) (sender : Nat) (d : DeclBody) : Prop where
  origin : d.id.origin = sender
  young : s.tb.time ≤ d.earliest + secs s.cs.image.maxLife
  entries : s.cu.entries = []
  room : s.cu.events.length < 8
  apart : ∀ r ∈ s.cu.events, r.state.open = false ∧ r.id ≠ some d.id ∧ r.rid ≠ s.cu.nextRid

/-- The record of an adopted declaration, beside its participants. -/
def EventRec.AdoptedFrom (r : EventRec) (s : State) (d : DeclBody) : Prop :=
  r.rid = s.cu.nextRid ∧ r.state = .adopted ∧ r.id = some d.id ∧ r.update = d.update ∧ r.declOwed = false ∧ r.opened = s.now ∧
    r.lastEnd = s.now

theorem EventRec.AdoptedFrom.of_core {r y : EventRec} (h : r.AdoptedFrom s d) (hcore : y.core = r.core) : y.AdoptedFrom s d := by
  obtain ⟨h1, h2, h3, h4, h5, h6, h7⟩ := h
  unfold EventRec.core at hcore
  rw [EventRec.mk.injEq] at hcore
  obtain ⟨g1, g2, g3, -, -, g6, g7, -, -, -, -, -, g13, g14, -⟩ := hcore
  exact ⟨g1.trans h1, g3.trans h2, g2.trans h3, g6.trans h4, g7.trans h5, g13.trans h6, g14.trans h7⟩

/-- What the adoption leaves (R132, R142). -/
structure State.TakesOn (s : State) (d : DeclBody) (t : State) : Prop where
  record : ∃ r ∈ t.cu.events, r.AdoptedFrom s d
  due : t.mc.evalDue = true
  count : t.count .adoptions = min (s.count .adoptions + 1) 65535
  queue : s.cs.image.uplink = true → s.uc.queue = [] → s.uc.stacked = [] →
    t.uc.queue = [s.freshAlert .event (some s.cu.nextRid) (some d.id) d.update]
  modem : t.uc.modem = s.uc.modem

theorem State.Adoptable.takesOn (h : s.Adoptable sender d) : s.TakesOn d (cuDeclaration sender d s) := by
  have hold : s.declTooOld d = false := by
    rw [← Bool.not_eq_true, declTooOld_iff]
    exact Nat.not_lt.mpr h.young
  have hplace : makePlace none s = some s := if_pos h.room
  obtain ⟨b, r, hadopt, hadopts⟩ := declAdoptNew_ready (d := d) hplace (.refl _) (fun y hy => (h.apart y hy).2.2)
  obtain ⟨n, hn⟩ : ∃ n, n = ucNewEvent s.cu.nextRid b := ⟨_, rfl⟩
  have huplinked : b.Uplinked n := by rw [hn]; exact uplinked_ucNewEvent
  have hbound : ∀ e ∈ n.cu.entries, e.bound.isSome := by
    rw [huplinked.marks.entries]
    intro e he
    rcases hadopts.entries e he with hs | hs
    · rw [h.entries] at hs
      cases hs
    · rw [hs]
      rfl
  have hdeclared : cuDeclaration sender d s = cuRequest n := by
    rw [cuDeclaration_of_unknown h.origin (fun x hx hid => absurd hid (h.apart x hx).2.1),
      declAgainst_of_far (fun x hx hopen => by rw [(h.apart x hx).1] at hopen; cases hopen), hold, hadopt, ← hn]
    rw [offerTo_of_bound hbound]
    rfl
  have hgains := hadopts.gains.same
  have hrid : r.rid = s.cu.nextRid := hadopts.gains.rid
  have hfrom : r.AdoptedFrom s d := by
    rw [EventRec.AdoptedFrom, hgains]
    exact ⟨rfl, rfl, rfl, rfl, rfl, rfl, rfl⟩
  have hcount : (cuRequest n).count .adoptions = n.count .adoptions := cuRequest_count
  rw [hdeclared]
  refine ⟨?_, ?_, ?_, fun huplink hqueue hstacked => ?_, ?_⟩
  · obtain ⟨y, hy, hcore⟩ := huplinked.marks.records r (hadopts.holds.mem.mpr (.inl rfl))
    exact ⟨y, by rw [cuRequest_cu]; exact hy, hfrom.of_core hcore⟩
  · have hmc : (cuRequest n).mc = n.mc := by simp
    rw [hmc]
    exact huplinked.due hadopts.due
  · rw [hcount, huplinked.count, hadopts.adoptions]
  · rw [cuRequest_uc, hn, ← hrid, ucNewEvent_queue hadopts.holds (by rw [hadopts.cs]; exact huplink) (by rw [hadopts.uc]; exact hqueue)
      (by rw [hadopts.uc]; exact hstacked), hrid]
    unfold State.freshAlert
    rw [hadopts.now, hfrom.2.2.1, hfrom.2.2.2.1]
  · rw [cuRequest_uc, huplinked.modem, hadopts.uc]

theorem State.TakesOn.openEvent (h : s.TakesOn d t) : t.openEvent = true := by
  obtain ⟨r, hr, hfrom⟩ := h.record
  unfold State.openEvent
  rw [List.any_eq_true]
  exact ⟨r, hr, by rw [hfrom.2.1]; rfl⟩

end

end Sys2Proof.Machine

/-! PROOFS. What a wake and a false wake leave of the station (R190, R191). -/
namespace Sys2Proof.Machine
set_option Elab.async false

section
variable {s t u v w z n a : State} {c : Counter} {stamp : RxStamp} {hdr : Header} {rest : List Byte}

/-- The station runs a capture that can end in a wake. -/
structure State.Captured (s : State) : Prop where
  settled : s.Settled
  standing : s.mc.standing = .capturing ∨ s.mc.standing = .waking
  capture : s.mc.capture.isSome = true
  silent : s.lc.tx = none
  sends : s.listenOnly = false
  cls : s.bm.cls ≠ .critical
  free : ∀ x, s.cs.pending = some x → x.held = false

/-- The wake of the station completes (R191, R192). -/
def State.WokenTo (s t : State) : Prop :=
  t.mc.capture = none ∧ t.mc.wakeHold = some { start := s.now, period := secs s.cs.image.wakeHold } ∧
  (s.bm.cls ≠ .good → t.mc.standing = .watching) ∧
  (s.bm.cls = .good → s.twm.busyFor .battery = false → t.mc.standing = .active) ∧
  t.td.state = .settling ∧ t.si.grid = .unaligned ∧ t.tau.steerTimer = some { start := s.now, period := secs (2 ^ s.cs.image.k) } ∧
  t.lc.beaconTimer = some { start := s.now, period := secs (2 ^ s.cs.image.b) } ∧
  (s.rmu.sleeping = true → t.rmu.sleeping = false ∧ t.rmu.state = if s.cs.image.receiver then .acquiring else .absent) ∧
  t.tb.time = s.tb.time ∧ t.tb.elapsed = s.tb.elapsed

/-- The capture ends in a false wake (R190). -/
def State.FallsTo (s t : State) : Prop :=
  t.mc.capture = none ∧ t.count .falseWakes = min (s.count .falseWakes + 1) 65535 ∧
  (s.mc.standing = .capturing → t.mc.standing = .asleep ∧ t.lc.rx = .off ∧
    t.tb = (if s.tb.source = .slow then s.tb else { s.tb with slowAsked := true }) ∧
    t.td = s.td ∧ t.si = s.si ∧ t.rmu = s.rmu ∧ t.bm = s.bm ∧ t.hc = s.hc) ∧
  (s.mc.standing = .waking → s.tb.source ≠ .fast → t.mc.standing = .waking) ∧
  (s.mc.standing = .waking → s.tb.source = .fast → s.WokenTo t)

/-- The units that the end of a capture reads stand as they stood. -/
structure State.Kept (s v : State) : Prop where
  tb : v.tb = s.tb
  rmu : v.rmu = s.rmu
  bm : v.bm = s.bm
  twm : v.twm = s.twm
  pins : v.pins = s.pins
  settings : v.cs = { s.cs with pending := v.cs.pending }

theorem State.Kept.trans (h : s.Kept t) (g : t.Kept u) : s.Kept u :=
  ⟨g.tb.trans h.tb, g.rmu.trans h.rmu, g.bm.trans h.bm, g.twm.trans h.twm, g.pins.trans h.pins, by rw [g.settings, h.settings]⟩

theorem State.Kept.now (h : s.Kept v) : v.now = s.now := congrArg Timebase.elapsed h.tb

theorem State.Kept.image (h : s.Kept v) : v.cs.image = s.cs.image := by rw [h.settings]

theorem State.Kept.listenOnly (h : s.Kept v) : v.listenOnly = s.listenOnly := by
  unfold State.listenOnly State.ownId
  rw [h.settings]

theorem State.Awakened.wokenTo (h : z.Awakened n t) (hkept : s.Kept z) (hsends : s.listenOnly = false) : s.WokenTo t := by
  obtain ⟨hcapture, hhold⟩ := h.moments
  obtain ⟨htd, hsi, htau⟩ := h.blocks
  obtain ⟨htime, helapsed⟩ := h.time
  have hbeacon := h.beacon (hkept.listenOnly.trans hsends)
  have hrmu := h.rmu
  have hwatching := h.watching
  have hactive := h.active
  unfold State.startTimer at hhold htau hbeacon
  rw [hkept.now, hkept.image] at hhold htau hbeacon
  rw [hkept.rmu, hkept.image] at hrmu
  rw [hkept.bm] at hwatching hactive
  rw [hkept.twm] at hactive
  rw [hkept.tb] at htime helapsed
  exact ⟨hcapture, hhold, hwatching, hactive, htd, hsi, htau, hbeacon, hrmu, htime, helapsed⟩

theorem captureDropped_kept : v.Kept (captureDropped v) := by
  obtain ⟨-, htb, -, -, -, -, hbm, htwm, -⟩ := captureDropped_facts (s := v)
  obtain ⟨-, hrmu, -, -, hpins, -⟩ := captureDropped_rest (v := v)
  refine ⟨htb, hrmu, hbm, htwm, hpins, ?_⟩
  unfold captureDropped csDropHeld
  split <;> rfl

theorem State.Drowses.fallsTo (h : v.Drowses t) (hkept : s.Kept v) (hsends : s.listenOnly = false)
    (hstanding : v.mc.standing = s.mc.standing) (hsame : v.td = s.td ∧ v.si = s.si ∧ v.hc = s.hc)
    (hcount : v.count .falseWakes = s.count .falseWakes) : s.FallsTo t := by
  obtain ⟨htd, hsi, hhc⟩ := hsame
  refine ⟨h.capture, ?_, fun hs => ?_, fun hs hsource => ?_, fun hs hsource => ?_⟩
  · rw [h.count .falseWakes rfl (by decide) (by decide) (by decide), if_pos rfl, hcount]
  · obtain ⟨h1, h2, h3, h4, h5, h6, h7, h8, -⟩ := h.asleep (hstanding.trans hs)
    rw [hkept.tb] at h3
    exact ⟨h1, h2, h3, h4.trans htd, h5.trans hsi, h6.trans hkept.rmu, h7.trans hkept.bm, h8.trans hhc⟩
  · exact h.waking (hstanding.trans hs) (by rw [hkept.tb]; exact hsource)
  · exact (h.woken (hstanding.trans hs) (by rw [hkept.tb]; exact hsource)).wokenTo (hkept.trans captureDropped_kept) hsends

/-! ## The records behind a wake (R50) -/

/-- A record whose held age resumes (R50). -/
def PeerRecord.resumed (now : Elapsed) (r : PeerRecord) : PeerRecord :=
  r.heldAge.elim r (fun x => { r with lastHeard := now - BitVec.ofNat 48 x, heldAge := none })

theorem peer_ptResume {id : Nat} : (ptResume s).peer id = (s.peer id).map (PeerRecord.resumed s.now) := by
  have hmap : (ptResume s).peers = s.peers.map (PeerRecord.resumed s.now) := by
    refine List.map_congr_left fun r _ => ?_
    unfold PeerRecord.resumed
    cases r.heldAge <;> rfl
  have hid : (fun r : PeerRecord => r.id == id) ∘ PeerRecord.resumed s.now = fun r => r.id == id := by
    funext r
    unfold PeerRecord.resumed
    cases h : r.heldAge <;> simp [h]
  unfold State.peer
  rw [hmap, List.find?_map, hid]

theorem State.Awakened.peer (h : z.Awakened n t) {id : Nat} : t.peer id = (z.peer id).map (PeerRecord.resumed z.now) :=
  (peer_of_peers_eq h.peers).trans peer_ptResume

/-- An age of 0 resumes now. -/
theorem resumed_of_zero {r : PeerRecord} {now : Elapsed} (h : r.heldAge = some 0) :
    r.resumed now = { r with lastHeard := now, heldAge := none } := by
  unfold PeerRecord.resumed
  rw [h]
  simp

end

end Sys2Proof.Machine

/-! PROOFS. A frame accepted with its wake flag set, in a capture (R190, R191). -/
namespace Sys2Proof.Machine
set_option Elab.async false

section
variable {s t u v w z n a : State} {c : Counter} {stamp : RxStamp} {hdr : Header} {rest : List Byte} {kind : FrameKind} {body : Body}

/-! ## The frame taken (R40) -/

/-- The state once an accepted frame has reached its owner, before the end of its capture. -/
def State.taken (s : State) (stamp : RxStamp) (hdr : Header) (rest : List Byte) (kind : FrameKind) (body : Body) : State :=
  acceptFrame { hdr := hdr, rest := rest } stamp kind body s.hunts

/-- A frame in a capture, its last bit taken. -/
structure State.Reads (s : State) (stamp : RxStamp) (hdr : Header) (rest : List Byte) : Prop where
  captured : s.Captured
  taken : s.lc.rx = .body stamp hdr
  whole : rest.length = hdr.length.toNat + 6

theorem State.Reads.receiveFrame (h : s.Reads stamp hdr rest) :
    Machine.receiveFrame rest s = finish (takeFrame { hdr := hdr, rest := rest } stamp s.hunts) := by
  unfold Machine.receiveFrame
  rw [h.taken, h.captured.silent]
  exact if_pos h.whole

theorem State.Captured.dormant (h : s.Captured) : s.dormant = true := by
  unfold State.dormant
  rcases h.standing with hs | hs <;> rw [hs] <;> rfl

theorem State.Reads.handed (h : s.Reads stamp hdr rest) (hj : s.judge { hdr := hdr, rest := rest } = .accepted kind body) :
    s.Handed stamp hdr body (s.taken stamp hdr rest kind body) := acceptFrame_handed hj h.captured.dormant h.captured.silent

theorem State.Handed.kept (h : s.Handed stamp hdr body a) : s.Kept a := by
  obtain ⟨hpins, htb, hrmu, -, hbm, -, htwm⟩ := h.same
  exact ⟨htb, hrmu, hbm, htwm, hpins, h.cs⟩

theorem State.Handed.captive (h : s.Handed stamp hdr body a) (hs : s.Captured) : a.Captive := by
  refine ⟨?_, ?_, by rw [h.kept.bm]; exact hs.cls⟩
  · rw [h.mc]
    exact hs.standing
  · rw [h.mc]
    exact hs.capture

/-- A frame accepted in a capture ends it (R190). -/
theorem State.Reads.accepted (h : s.Reads stamp hdr rest) (hj : s.judge { hdr := hdr, rest := rest } = .accepted kind body) :
    Machine.receiveFrame rest s = finish (if hdr.wake then patternWake (mcSettle (s.taken stamp hdr rest kind body))
      else falseWake (mcSettle (s.taken stamp hdr rest kind body))) := by
  rw [h.receiveFrame, ← ((h.handed hj).captive h.captured).endCapture]
  unfold takeFrame
  rw [hunts_judge, hj]
  rfl

/-! ## The state that wakes -/

/-- The state in which the wake of a taken frame completes. -/
structure State.Stirs (a z : State) : Prop where
  kept : a.Kept z
  same : z.cs = a.cs ∧ z.cu = a.cu ∧ z.uc = a.uc ∧ z.peers = a.peers ∧ z.lc = a.lc
  count : ∀ c, c ≠ .localWakes → z.count c = if c = .patternWakes then min (a.count c + 1) 65535 else a.count c

theorem patterned_facts : v.patterned.tb = v.tb ∧ v.patterned.rmu = v.rmu ∧ v.patterned.bm = v.bm ∧ v.patterned.twm = v.twm ∧
    v.patterned.pins = v.pins ∧ v.patterned.cs = v.cs ∧ v.patterned.cu = v.cu ∧ v.patterned.uc = v.uc ∧ v.patterned.peers = v.peers ∧
    v.patterned.lc = v.lc := ⟨rfl, rfl, rfl, rfl, rfl, rfl, rfl, rfl, rfl, rfl⟩

theorem State.Heeds.stirs (h : a.Heeds v) : a.Stirs v.patterned := by
  obtain ⟨hpins, htb, hrmu, hpeers, -, -, -, hcu, huc, hbm, -, htwm, hcs, hlc⟩ := h.same
  obtain ⟨gtb, grmu, gbm, gtwm, gpins, gcs, gcu, guc, gpeers, glc⟩ := patterned_facts (v := v)
  refine ⟨⟨gtb.trans htb, grmu.trans hrmu, gbm.trans hbm, gtwm.trans htwm, gpins.trans hpins, by rw [gcs, hcs]⟩,
    ⟨gcs.trans hcs, gcu.trans hcu, guc.trans huc, gpeers.trans hpeers, glc.trans hlc⟩, fun c hc => ?_⟩
  rw [patterned_count, h.count c hc]

theorem State.Captive.stirs (h : a.Captive) : a.Stirs (mcSettle a).patterned := h.heeds.stirs

/-- The state behind the blocks of a wake, a request that its frame brought being released. -/
def State.rousedBy (z : State) : Body → State
  | .request q => z.rousing.answered q.code q.argument
  | _ => z.rousing

/-- A COUNTERS request with the clear option (R204). -/
def Body.clears (body : Body) : Prop := ∃ q, body = .request q ∧ q.code = 4 ∧ q.argument % 2 = 1

theorem rousedBy_of_no_request (h : ∀ q, body ≠ .request q) : z.rousedBy body = z.rousing := by
  cases body with
  | request q => exact absurd rfl (h q)
  | _ => rfl

theorem rousedBy_count (h : ¬ body.clears ∨ c.idx.val / 38 ≠ 0) : (z.rousedBy body).count c = z.rousing.count c := by
  cases body with
  | request q =>
    show (z.rousing.answered q.code q.argument).count c = _
    rw [answered_count, if_neg]
    rintro ⟨h1, h2, h3⟩
    rcases h with h | h
    · exact h ⟨q, rfl, h1, h2⟩
    · exact h h3
  | _ => rfl

/-- The wake of a frame accepted with its flag set (R191). -/
theorem State.Reads.wakes (h : s.Reads stamp hdr rest) (hj : s.judge { hdr := hdr, rest := rest } = .accepted kind body)
    (hw : hdr.wake = true) : (mcSettle (s.taken stamp hdr rest kind body)).patterned.Awakened
      ((mcSettle (s.taken stamp hdr rest kind body)).patterned.rousedBy body) (Machine.receiveFrame rest s) := by
  have hhanded := h.handed hj
  have hcaptive := hhanded.captive h.captured
  have hstirs := hcaptive.stirs
  have hreceive := h.accepted hj
  obtain ⟨a, ha⟩ : ∃ a, a = s.taken stamp hdr rest kind body := ⟨_, rfl⟩
  rw [← ha] at hhanded hcaptive hstirs hreceive ⊢
  have hcls : (mcSettle a).patterned.bm.cls ≠ .critical := by
    rw [(hhanded.kept.trans hstirs.kept).bm]
    exact h.captured.cls
  rw [hreceive, hw, if_pos rfl, patternWake_eq]
  by_cases hq : ∃ q, body = .request q
  · obtain ⟨q, hq⟩ := hq
    rw [hq]
    refine awakened_of_held hcls ?_ ?_
    · rw [(hhanded.kept.trans hstirs.kept).listenOnly]
      exact h.captured.sends
    · rw [hstirs.same.1]
      exact hhanded.request q hq
  · have hnone : ∀ q, body ≠ .request q := fun q hb => hq ⟨q, hb⟩
    rw [rousedBy_of_no_request hnone]
    refine awakened_of_free hcls ?_
    rw [hstirs.same.1, hhanded.pending hnone]
    exact h.captured.free

/-- A counter behind the wake. -/
theorem State.Reads.wakes_count (h : s.Reads stamp hdr rest) (hj : s.judge { hdr := hdr, rest := rest } = .accepted kind body)
    (hw : hdr.wake = true) (hpoll : c.byPoll = false) (hbeside : c ≠ .calibrationDiscards ∧ c ≠ .musterBeacons ∧ c ≠ .busRecoveries)
    (hlocal : c ≠ .localWakes) (hclear : ¬ body.clears ∨ c.idx.val / 38 ≠ 0) :
    (Machine.receiveFrame rest s).count c = if c = .patternWakes then min ((s.taken stamp hdr rest kind body).count c + 1) 65535
      else (s.taken stamp hdr rest kind body).count c := by
  obtain ⟨hcal, hmuster, hrecover⟩ := hbeside
  obtain ⟨hn, hz⟩ := (h.wakes hj hw).count c hpoll hcal hmuster hrecover
  rw [hn, rousedBy_count hclear, hz, ((h.handed hj).captive h.captured).stirs.count c hlocal]

/-- The sender's record and the others behind the wake (R50). -/
theorem State.Reads.wakes_peers (h : s.Reads stamp hdr rest) (hj : s.judge { hdr := hdr, rest := rest } = .accepted kind body)
    (hw : hdr.wake = true) (id : Nat) :
    (Machine.receiveFrame rest s).peer id = ((s.taken stamp hdr rest kind body).peer id).map (PeerRecord.resumed s.now) := by
  have hstirs := ((h.handed hj).captive h.captured).stirs
  rw [(h.wakes hj hw).peer, ((h.handed hj).kept.trans hstirs.kept).now, peer_of_peers_eq hstirs.same.2.2.2.1]

/-- The record of the sender behind the wake. -/
theorem State.Reads.wakes_sender (h : s.Reads stamp hdr rest) (hj : s.judge { hdr := hdr, rest := rest } = .accepted kind body)
    (hw : hdr.wake = true) (h15 : hdr.sender ≠ 15) :
    ∃ r, (Machine.receiveFrame rest s).peer hdr.sender = some r ∧ r.heldAge = none ∧ r.lastHeard = s.now ∧
      r.lastSeq = hdr.sequence.toNat ∧
      (∀ x, body = .beacon x → r.mode = some x.mode ∧ r.cls = some x.cls ∧ r.code = some x.code ∧ r.trig = some x.trig ∧
        r.lastOnset = x.lastOnset) ∧
      (∀ n, body = .notice n → r.isAwake = true ∧ r.trig = some (if n.kind = .onset then .on else .off) ∧
        r.lastOnset = some n.onset) := by
  obtain ⟨r, hr, hheard⟩ := (h.handed hj).record h15
  refine ⟨{ r with lastHeard := s.now, heldAge := none }, ?_, rfl, rfl, hheard.seq, hheard.beacon, hheard.notice⟩
  rw [h.wakes_peers hj hw, hr, ← resumed_of_zero hheard.held]
  rfl

end

end Sys2Proof.Machine

/-! PROOFS. What the frame of a wake reported (R61, R63, R115, R132, R203). -/
namespace Sys2Proof.Machine
set_option Elab.async false

section
variable {s t u v w z n a : State} {c : Counter} {stamp : RxStamp} {hdr : Header} {rest : List Byte} {kind : FrameKind} {body : Body}
  {x : Entry} {d : DeclBody}

/-! ## The state in which the owner of a frame takes it -/

/-- The units that the tables read stand as they stood. -/
structure State.Reaches (s u : State) : Prop where
  tb : u.tb = s.tb
  cu : u.cu = s.cu
  uc : u.uc = s.uc
  cs : u.cs = s.cs
  count : ∀ c, c ≠ .framesAccepted → u.count c = s.count c

theorem State.Reaches.tooOld {o : StationTime} (h : s.Reaches u) : u.tooOld o = s.tooOld o := by
  unfold State.tooOld State.window
  rw [h.tb, h.cs]

theorem State.Reaches.idle (h : s.Reaches u) (hidle : s.Idle) : u.Idle := hidle.of_events (by rw [h.cu])

theorem reaches_announced {b : BeaconBody} : s.Reaches (s.announced hdr rest stamp b) := by
  obtain ⟨-, htb, -, -, -, -, hcu, huc, -, -, -, hcs, -⟩ := announced_leaves (s := s) (stamp := stamp) (hdr := hdr) (rest := rest) (b := b)
  exact ⟨htb, hcu, huc, hcs, fun c hc => by rw [announced_count, if_neg hc]⟩

theorem reaches_noticed {m : Notice} : s.Reaches (s.noticed hdr rest stamp m) := by
  obtain ⟨-, htb, -, -, -, hcu, huc, -, -, -, hcs, -⟩ := noticed_leaves (s := s) (stamp := stamp) (hdr := hdr) (rest := rest) (n := m)
  exact ⟨htb, hcu, huc, hcs, fun c hc => by rw [noticed_count, if_neg hc]⟩

theorem reaches_headerTaken : s.Reaches (headerTaken { hdr := hdr, rest := rest } stamp kind s) := by
  obtain ⟨-, htb, -, -, -, -, hcu, huc, -, -, -, -, hcs, -⟩ :=
    headerTaken_leaves (s := s) (stamp := stamp) (f := { hdr := hdr, rest := rest }) (kind := kind)
  exact ⟨htb, hcu, huc, hcs, fun c hc => by rw [headerTaken_count, if_neg hc]⟩

section
variable (h : s.Reads stamp hdr rest) (hj : s.judge { hdr := hdr, rest := rest } = .accepted kind body)
include h hj

theorem State.Reads.taken_beacon {b : BeaconBody} (hb : body = .beacon b) : s.taken stamp hdr rest kind body =
    cuBeacon hdr.sender b (s.endsTrigger hdr.sender b) (s.announced hdr rest stamp b) := acceptFrame_beacon hj h.captured.dormant hb

omit h in
theorem taken_notice {m : Notice} (hb : body = .notice m) : s.taken stamp hdr rest kind body =
    cuNotice hdr.sender m (s.noticed hdr rest stamp m) := by
  unfold State.taken
  rw [acceptFrame_eq_deliver hj (by rw [hb]; exact fun q h => Body.noConfusion h), hb]
  rfl

omit h in
theorem taken_declaration (hb : body = .declaration d) : s.taken stamp hdr rest kind body =
    cuDeclaration hdr.sender d (headerTaken { hdr := hdr, rest := rest } stamp .declaration s) := by
  unfold State.taken
  rw [acceptFrame_eq_deliver hj (by rw [hb]; exact fun q h => Body.noConfusion h), hb]
  rfl

theorem State.Reads.taken_probe {t1 : StationTime} (hb : body = .probe t1) : s.taken stamp hdr rest kind body =
    headerTaken { hdr := hdr, rest := rest } stamp .probe s := by
  have hasleep : (headerTaken { hdr := hdr, rest := rest } stamp .probe s).awake = false := by
    unfold State.awake
    rw [headerTaken_leaves.2.2.2.2.2.2.2.2.2.2.1]
    exact awake_of_dormant h.captured.dormant
  unfold State.taken
  rw [acceptFrame_eq_deliver hj (by rw [hb]; exact fun q h => Body.noConfusion h), hb]
  exact tauProbe_of_dormant hasleep

omit h in
theorem taken_reply {b : ReplyBody} (hb : body = .reply b) : s.taken stamp hdr rest kind body =
    tauReply hdr.sender b stamp (headerTaken { hdr := hdr, rest := rest } stamp .reply s) := by
  unfold State.taken
  rw [acceptFrame_eq_deliver hj (by rw [hb]; exact fun q h => Body.noConfusion h), hb]
  rfl

omit h in
theorem taken_report (hb : body = .report) : s.taken stamp hdr rest kind body =
    headerTaken { hdr := hdr, rest := rest } stamp .serviceReport s := by
  unfold State.taken
  rw [acceptFrame_eq_deliver hj (by rw [hb]; exact fun q h => Body.noConfusion h), hb]
  rfl

theorem State.Reads.taken_request {q : RequestBody} (hb : body = .request q) :
    ∃ v, v = (bump .framesAccepted s.hunts).setLc { s.lc with rx := .hunting, terminalSeq := some hdr.sequence.toNat } ∧
      s.taken stamp hdr rest kind body =
        (requestTaken q.code q.argument v).setCs { v.cs with pending := some (heldRequest q.code q.argument) } := by
  refine ⟨_, rfl, ?_⟩
  obtain ⟨v, hv⟩ : ∃ v, v = (bump .framesAccepted s.hunts).setLc { s.lc with rx := .hunting, terminalSeq := some hdr.sequence.toNat } :=
    ⟨_, rfl⟩
  rw [hb] at hj ⊢
  rw [← hv, ← csTake_of_dormant (by rw [hv]; exact h.captured.silent) (by rw [hv]; exact h.captured.dormant), hv]
  unfold State.taken acceptFrame
  dsimp only
  rw [if_pos (judge_terminal hj)]
  rfl

end

/-! ## The table behind a wake (R115, R118) -/

/-- An onset in the trigger table of a station that stood without entries and without open records. -/
def State.AdmitsTo (s : State) (x : Entry) (t : State) : Prop :=
  s.cu.entries = [] → s.Idle →
    (s.tb.time ≤ x.onset + secs s.cs.image.wc + secs 30 → t.cu.entries = [x]) ∧
    (x.onset + secs s.cs.image.wc + secs 30 < s.tb.time → t.cu.entries = [] ∧
      t.count .staleEntries = min (s.count .staleEntries + 1) 65535) ∧
    (s.uc.modem = .off → t.cu.events = s.cu.events)

section
variable (h : s.Reads stamp hdr rest) (hj : s.judge { hdr := hdr, rest := rest } = .accepted kind body) (hw : hdr.wake = true)
include h hj hw

theorem State.Reads.wakes_admits (hreach : s.Reaches u) (hclear : ¬ body.clears)
    (henters : u.cu.entries = [] → u.Idle → u.Enters x (s.taken stamp hdr rest kind body)) :
    s.AdmitsTo x (Machine.receiveFrame rest s) := by
  intro hempty hidle
  have henter := henters (by rw [hreach.cu]; exact hempty) (hreach.idle hidle)
  have hawakened := h.wakes hj hw
  have hstirs := ((h.handed hj).captive h.captured).stirs
  have hevents : (mcSettle (s.taken stamp hdr rest kind body)).patterned.cu.events = s.cu.events := by
    rw [hstirs.same.2.1, henter.events, hreach.cu]
  have hentries : (Machine.receiveFrame rest s).cu.entries = (s.taken stamp hdr rest kind body).cu.entries := by
    rw [hawakened.marks.entries, hstirs.same.2.1]
  have hold : u.tooOld x.onset = decide (x.onset + secs s.cs.image.wc + secs 30 < s.tb.time) := hreach.tooOld
  refine ⟨fun htime => ?_, fun htime => ?_, fun hoff => ?_⟩
  · rw [hentries]
    exact henter.fresh (by rw [hold]; exact decide_eq_false (Nat.not_lt.mpr htime))
  · obtain ⟨hnone, hstale⟩ := henter.old (by rw [hold]; exact decide_eq_true htime)
    refine ⟨by rw [hentries, hnone], ?_⟩
    rw [h.wakes_count hj hw rfl ⟨by decide, by decide, by decide⟩ (by decide) (.inl hclear), if_neg (by decide), hstale,
      hreach.count _ (by decide)]
  · have hmodem := (hawakened.modem (by rw [hstirs.same.2.2.1, henter.uc, hreach.uc]; exact hoff)).1
    rw [hmodem (State.Idle.owes (hidle.of_events hevents)), hevents]

theorem State.Reads.wakes_beacon {b : BeaconBody} {o : StationTime} (hb : body = .beacon b) (ho : b.lastOnset = some o) :
    s.AdmitsTo (arrival hdr.sender o none b.peak none false) (Machine.receiveFrame rest s) := by
  refine h.wakes_admits (u := s.announced hdr rest stamp b) hj hw reaches_announced (fun ⟨q, hq, _⟩ => by rw [hb] at hq; cases hq)
    fun hempty hidle => ?_
  rw [h.taken_beacon hj hb]
  exact hidle.cuBeacon_enters hempty ho

theorem State.Reads.wakes_notice {m : Notice} (hb : body = .notice m) :
    s.AdmitsTo (noticeEntry hdr.sender m) (Machine.receiveFrame rest s) := by
  refine h.wakes_admits (u := s.noticed hdr rest stamp m) hj hw reaches_noticed (fun ⟨q, hq, _⟩ => by rw [hb] at hq; cases hq)
    fun hempty hidle => ?_
  rw [taken_notice hj hb]
  exact hidle.cuNotice_enters hempty

/-! ## A probe, a reply, a request behind a wake (R61, R63, R203) -/

theorem State.Reads.wakes_probe {t1 : StationTime} (hb : body = .probe t1) (hcd : s.pins.lkCd = true) :
    (Machine.receiveFrame rest s).lc.slots = s.lc.slots := by
  have hstirs := ((h.handed hj).captive h.captured).stirs
  have hkept := (h.handed hj).kept.trans hstirs.kept
  have hlink := (h.wakes hj hw).link (by rw [hkept.pins]; exact hcd)
  rw [hlink.1, rousedBy_of_no_request (by rw [hb]; exact fun q h => Body.noConfusion h), rousing_link.1, hstirs.same.2.2.2.2,
    h.taken_probe hj hb, headerTaken_leaves.2.2.2.2.2.2.2.2.2.2.2.2.2]

theorem State.Reads.wakes_reply {b : ReplyBody} (hb : body = .reply b) (hprobe : s.tau.probe = none) :
    (Machine.receiveFrame rest s).count .lateReplies = min (s.count .lateReplies + 1) 65535 := by
  have hlate : s.taken stamp hdr rest kind body = bump .lateReplies (headerTaken { hdr := hdr, rest := rest } stamp .reply s) := by
    rw [taken_reply hj hb]
    unfold tauReply
    rw [headerTaken_leaves.2.2.2.1, hprobe]
  rw [h.wakes_count hj hw rfl ⟨by decide, by decide, by decide⟩ (by decide) (.inl fun ⟨q, hq, _⟩ => by rw [hb] at hq; cases hq),
    if_neg (by decide), hlate, count_bump, if_pos rfl, headerTaken_count, if_neg (by decide)]

theorem State.Reads.wakes_request {q : RequestBody} (hb : body = .request q) (hcd : s.pins.lkCd = true) :
    (Machine.receiveFrame rest s).count .requestsTaken = min (s.count .requestsTaken + 1) 65535 ∧
    (Machine.receiveFrame rest s).lc.terminalSeq = some hdr.sequence.toNat ∧
    ∃ x y, (Machine.receiveFrame rest s).cs.pending = some x ∧ x.code = q.code ∧ x.argument = q.argument ∧ x.nextSegment = 1 ∧
      x.held = false ∧ (Machine.receiveFrame rest s).lc.slots = { s.lc.slots with report := some y } ∧ y.moment = s.now ∧
      y.body.take 3 = [BitVec.ofNat 8 q.code, if y.last then 0x80#8 else 0x00#8,
        if 1 ≤ q.code ∧ q.code ≤ 5 then 0x00#8 else 0x01#8] := by
  have hawakened := h.wakes hj hw
  have hstirs := ((h.handed hj).captive h.captured).stirs
  have hkept := (h.handed hj).kept.trans hstirs.kept
  have hlink := hawakened.link (by rw [hkept.pins]; exact hcd)
  have hcounted := h.wakes_count (c := .requestsTaken) hj hw rfl ⟨by decide, by decide, by decide⟩ (by decide) (.inr (by decide))
  obtain ⟨v, hv, htaken⟩ := h.taken_request hj hb
  have hvcount : v.count .requestsTaken = s.count .requestsTaken := by
    rw [hv, count_setLc, count_bump, if_neg (by decide), hunts_count]
  have hvlc : v.lc = { s.lc with rx := .hunting, terminalSeq := some hdr.sequence.toNat } := by rw [hv]; rfl
  have htakenlc : (s.taken stamp hdr rest kind body).lc = v.lc := by
    rw [htaken]
    exact (requestTaken_facts (code := q.code) (argument := q.argument)).1
  have htakencount : (s.taken stamp hdr rest kind body).count .requestsTaken = min (s.count .requestsTaken + 1) 65535 := by
    rw [htaken, ← hvcount]
    exact (requestTaken_count (code := q.code) (argument := q.argument)).trans (if_pos (.inl rfl))
  obtain ⟨z, hz⟩ : ∃ z, z = (mcSettle (s.taken stamp hdr rest kind body)).patterned := ⟨_, rfl⟩
  rw [← hz] at hawakened hstirs hkept hlink
  have hzlc : z.rousing.lc.slots = s.lc.slots ∧ z.rousing.lc.terminalSeq = some hdr.sequence.toNat := by
    rw [rousing_link.1, rousing_link.2.1, hstirs.same.2.2.2.2, htakenlc, hvlc]
    exact ⟨rfl, rfl⟩
  have hroused : z.rousedBy body = z.rousing.answered q.code q.argument := by rw [hb]; rfl
  obtain ⟨x, y, hx, hcode, hargument, hnext, hheld, hslots, hmoment, hbody⟩ :=
    answered_facts (s := z.rousing) (code := q.code) (argument := q.argument)
  obtain ⟨_, _, hanslc⟩ := (answered_releases (s := z.rousing) (code := q.code) (argument := q.argument)).lc
  have hnow : z.rousing.now = s.now := rousing_facts.2.2.1.trans hkept.now
  refine ⟨?_, ?_, x, y, ?_, hcode, hargument, hnext, hheld, ?_, hmoment.trans hnow, hbody⟩
  · rw [hcounted, if_neg (by decide), htakencount]
  · rw [hlink.2, hroused, hanslc]
    exact hzlc.2
  · rw [hawakened.cs, hroused]
    exact hx
  · rw [hlink.1, hroused, hslots, hzlc.1]

end

end

end Sys2Proof.Machine

/-! PROOFS. A declaration adopted in a capture makes the wake certain (R132, R190, R191). -/
namespace Sys2Proof.Machine
set_option Elab.async false

section
variable {s t u v w z n a : State} {c : Counter} {stamp : RxStamp} {hdr : Header} {rest : List Byte} {kind : FrameKind} {body : Body}
  {d : DeclBody}

theorem State.Adoptable.of_reaches {sender : Nat} (h : s.Adoptable sender d) (hreach : s.Reaches u) : u.Adoptable sender d :=
  ⟨h.origin, by rw [hreach.tb, hreach.cs]; exact h.young, by rw [hreach.cu]; exact h.entries, by rw [hreach.cu]; exact h.room,
    by rw [hreach.cu]; exact h.apart⟩

/-- The state that an adoption leaves, the reports of its frame taken. -/
structure State.AdoptsIn (s : State) (d : DeclBody) (v : State) : Prop where
  standing : v.mc.standing = .waking
  record : ∃ r ∈ v.cu.events, r.AdoptedFrom s d
  adoptions : v.count .adoptions = min (s.count .adoptions + 1) 65535
  localWakes : s.mc.standing = .capturing → v.count .localWakes = min (s.count .localWakes + 1) 65535
  queue : s.cs.image.uplink = true → s.uc.queue = [] → s.uc.stacked = [] →
    v.uc.queue = [s.freshAlert .event (some s.cu.nextRid) (some d.id) d.update]
  modem : v.uc.modem = s.uc.modem

/-- What an adoption in a capture leaves at the end of the step. -/
def State.AdoptsTo (s : State) (d : DeclBody) (t : State) : Prop :=
  (∃ r ∈ t.cu.events, r.AdoptedFrom s d) ∧ t.count .adoptions = min (s.count .adoptions + 1) 65535 ∧
  (s.mc.standing = .capturing → t.count .localWakes = min (s.count .localWakes + 1) 65535) ∧
  (s.cs.image.uplink = true → s.uc.modem = .off → s.uc.queue = [] → s.uc.stacked = [] →
    t.uc.queue = [s.freshAlert .event (some s.cu.nextRid) (some d.id) d.update])

theorem State.AdoptsIn.adoptsTo (h : s.AdoptsIn d v) (hmarks : v.Marks t)
    (hcount : ∀ c, c = .adoptions ∨ c = .localWakes → t.count c = v.count c) (hqueue : v.uc.modem = .off → t.uc.queue = v.uc.queue) :
    s.AdoptsTo d t := by
  refine ⟨?_, ?_, fun hs => ?_, fun huplink hoff hq hstacked => ?_⟩
  · obtain ⟨r, hr, hfrom⟩ := h.record
    obtain ⟨y, hy, hcore⟩ := hmarks.records r hr
    exact ⟨y, hy, hfrom.of_core hcore⟩
  · rw [hcount _ (.inl rfl), h.adoptions]
  · rw [hcount _ (.inr rfl), h.localWakes hs]
  · rw [hqueue (h.modem.trans hoff), h.queue huplink hq hstacked]

section
variable (h : s.Reads stamp hdr rest) (hj : s.judge { hdr := hdr, rest := rest } = .accepted kind body)
include h hj

theorem State.Reads.adopts (hb : body = .declaration d) (hadopt : s.Adoptable hdr.sender d) :
    s.AdoptsIn d (mcSettle (s.taken stamp hdr rest kind body)) := by
  have hreach : s.Reaches (headerTaken { hdr := hdr, rest := rest } stamp .declaration s) := reaches_headerTaken
  have htakes := (hadopt.of_reaches hreach).takesOn
  rw [← taken_declaration (stamp := stamp) hj hb] at htakes
  have hhanded := h.handed hj
  have hcaptive := hhanded.captive h.captured
  obtain ⟨a, ha⟩ : ∃ a, a = s.taken stamp hdr rest kind body := ⟨_, rfl⟩
  rw [← ha] at htakes hhanded hcaptive ⊢
  have hnow : (headerTaken { hdr := hdr, rest := rest } stamp .declaration s).now = s.now := congrArg Timebase.elapsed hreach.tb
  obtain ⟨-, -, -, -, -, -, -, hcu, huc, -⟩ := hcaptive.heeds.same
  have hstanding : a.mc.standing = s.mc.standing := by rw [hhanded.mc]
  have hlocal : a.count .localWakes = s.count .localWakes := hhanded.wakes _ (.inr (.inr rfl))
  refine ⟨?_, ?_, ?_, fun hs => ?_, fun huplink hq hstacked => ?_, ?_⟩
  · rcases h.captured.standing with hs | hs
    · rw [hcaptive.settle_of_open (hstanding.trans hs) htakes.due htakes.openEvent]
      rfl
    · rcases hcaptive.heeds.standing with hv | ⟨hv, -⟩
      · rw [hv, hstanding, hs]
      · rw [hstanding, hs] at hv
        cases hv
  · obtain ⟨r, hr, hfrom⟩ := htakes.record
    refine ⟨r, by rw [hcu]; exact hr, ?_⟩
    unfold EventRec.AdoptedFrom at hfrom ⊢
    rw [hreach.cu, hnow] at hfrom
    exact hfrom
  · rw [hcaptive.heeds.count _ (by decide), htakes.count, hreach.count _ (by decide)]
  · rw [hcaptive.settle_of_open (hstanding.trans hs) htakes.due htakes.openEvent, called_localWakes, hlocal]
  · rw [huc, htakes.queue (by rw [hreach.cs]; exact huplink) (by rw [hreach.uc]; exact hq) (by rw [hreach.uc]; exact hstacked), hreach.cu]
    unfold State.freshAlert
    rw [hnow]
  · rw [huc, htakes.modem, hreach.uc]

theorem State.Reads.wakes_declaration (hw : hdr.wake = true) (hb : body = .declaration d) (hadopt : s.Adoptable hdr.sender d) :
    s.AdoptsTo d (Machine.receiveFrame rest s) ∧ (s.cs.image.uplink = true → s.uc.modem = .off → s.uc.queue = [] → s.uc.stacked = [] →
      (Machine.receiveFrame rest s).uc.modem = .warmUp) := by
  have hin := h.adopts hj hb hadopt
  have hawakened := h.wakes hj hw
  have hkept := (h.handed hj).kept.trans ((h.handed hj).captive h.captured).stirs.kept
  obtain ⟨v, hv⟩ : ∃ v, v = mcSettle (s.taken stamp hdr rest kind body) := ⟨_, rfl⟩
  rw [← hv] at hin hawakened hkept
  obtain ⟨-, -, -, -, -, -, hcu, huc, -⟩ := patterned_facts (v := v)
  have hroused : v.patterned.rousedBy body = v.patterned.rousing := rousedBy_of_no_request (by rw [hb]; exact fun q h => Body.noConfusion h)
  refine ⟨hin.adoptsTo ((State.Marks.of_cu hcu).trans hawakened.marks) (fun c hc => ?_) (fun hoff => ?_), fun huplink hoff hq hstacked => ?_⟩
  · obtain ⟨h1, h2⟩ := hawakened.count c (by rcases hc with rfl | rfl <;> rfl) (by rcases hc with rfl | rfl <;> decide)
      (by rcases hc with rfl | rfl <;> decide) (by rcases hc with rfl | rfl <;> decide)
    rw [h1, hroused, h2, patterned_count, if_neg (by rcases hc with rfl | rfl <;> decide)]
  · rw [(hawakened.modem (by rw [huc]; exact hoff)).2.1, huc]
  · refine (hawakened.modem (by rw [huc, hin.modem]; exact hoff)).2.2 (by rw [hkept.image]; exact huplink) ?_
    rw [huc, hin.queue huplink hq hstacked]
    exact List.cons_ne_nil _ _

/-! ## Without the wake flag (R190) -/

theorem State.Reads.drowses (hw : hdr.wake = false) :
    (mcSettle (s.taken stamp hdr rest kind body)).Drowses (Machine.receiveFrame rest s) := by
  have hcaptive := (h.handed hj).captive h.captured
  obtain ⟨-, -, -, -, -, -, -, -, -, hbm, -⟩ := hcaptive.heeds.same
  rw [h.accepted hj, hw, if_neg (by decide)]
  refine drowses_falseWake (mcSettle_settled _) (by rw [hbm]; exact hcaptive.cls) ?_
  rcases hcaptive.heeds.standing with hs | ⟨-, hs⟩
  · rw [hs]
    exact hcaptive.standing
  · exact .inr hs

theorem State.Reads.drowses_count (hw : hdr.wake = false) (hpoll : c.byPoll = false)
    (hbeside : c ≠ .calibrationDiscards ∧ c ≠ .musterBeacons ∧ c ≠ .busRecoveries) (hlocal : c ≠ .localWakes) :
    (Machine.receiveFrame rest s).count c = if c = .falseWakes then min ((s.taken stamp hdr rest kind body).count c + 1) 65535
      else (s.taken stamp hdr rest kind body).count c := by
  obtain ⟨hcal, hmuster, hrecover⟩ := hbeside
  rw [(h.drowses hj hw).count c hpoll hcal hmuster hrecover, ((h.handed hj).captive h.captured).heeds.count c hlocal]

omit h hj in
theorem State.Captive.kept_settle (hs : a.Captive) : a.Kept (mcSettle a) := by
  obtain ⟨hpins, htb, hrmu, -, -, -, -, -, -, hbm, -, htwm, hcs, -⟩ := hs.heeds.same
  exact ⟨htb, hrmu, hbm, htwm, hpins, by rw [hcs]⟩

theorem State.Reads.drowses_declaration (hw : hdr.wake = false) (hb : body = .declaration d) (hadopt : s.Adoptable hdr.sender d) :
    s.AdoptsTo d (Machine.receiveFrame rest s) ∧ (Machine.receiveFrame rest s).mc.capture = none ∧
    (Machine.receiveFrame rest s).count .falseWakes = min (s.count .falseWakes + 1) 65535 ∧
    (s.tb.source ≠ .fast → (Machine.receiveFrame rest s).mc.standing = .waking) ∧
    (s.tb.source = .fast → s.WokenTo (Machine.receiveFrame rest s)) := by
  have hin := h.adopts hj hb hadopt
  have hdrowses := h.drowses hj hw
  have hkept := (h.handed hj).kept.trans ((h.handed hj).captive h.captured).kept_settle
  have hfalse := h.drowses_count (c := .falseWakes) hj hw rfl ⟨by decide, by decide, by decide⟩ (by decide)
  rw [if_pos rfl, (h.handed hj).wakes _ (.inr (.inl rfl))] at hfalse
  refine ⟨hin.adoptsTo hdrowses.marks (fun c hc => ?_) hdrowses.queue, hdrowses.capture, hfalse, fun hsource => ?_, fun hsource => ?_⟩
  · rw [hdrowses.count c (by rcases hc with rfl | rfl <;> rfl) (by rcases hc with rfl | rfl <;> decide)
      (by rcases hc with rfl | rfl <;> decide) (by rcases hc with rfl | rfl <;> decide), if_neg (by rcases hc with rfl | rfl <;> decide)]
  · exact hdrowses.waking hin.standing (by rw [hkept.tb]; exact hsource)
  · exact (hdrowses.woken hin.standing (by rw [hkept.tb]; exact hsource)).wokenTo (hkept.trans captureDropped_kept) h.captured.sends

end

end

end Sys2Proof.Machine

/-! PROOFS. A frame accepted without its wake flag, or not accepted, in a capture (R37, R190). -/
namespace Sys2Proof.Machine
set_option Elab.async false

section
variable {s t u v w z n a : State} {c : Counter} {stamp : RxStamp} {hdr : Header} {rest : List Byte} {kind : FrameKind} {body : Body}
  {f : RxFrame}

/-! ## A frame accepted without its flag -/

section
variable (h : s.Reads stamp hdr rest) (hj : s.judge { hdr := hdr, rest := rest } = .accepted kind body)
include h hj

/-- No frame but a declaration is heard of beside the tables, where no record is open and no own entry stands. -/
theorem State.Reads.hushed (hd : ∀ d, body ≠ .declaration d) (hidle : s.Idle) (hown : ∀ e ∈ s.cu.entries, e.own = false) :
    (s.taken stamp hdr rest kind body).td = s.td ∧ (s.taken stamp hdr rest kind body).mc = s.mc := by
  have hheader (k : FrameKind) : (headerTaken { hdr := hdr, rest := rest } stamp k s).td = s.td ∧
      (headerTaken { hdr := hdr, rest := rest } stamp k s).mc = s.mc := by
    obtain ⟨-, -, -, -, -, htd, -, -, -, -, hmc, -⟩ :=
      headerTaken_leaves (s := s) (stamp := stamp) (f := { hdr := hdr, rest := rest }) (kind := k)
    exact ⟨htd, hmc⟩
  cases hb : body with
  | beacon b =>
    obtain ⟨-, -, -, -, -, htd, -, -, -, -, hmc, -⟩ := announced_leaves (s := s) (stamp := stamp) (hdr := hdr) (rest := rest) (b := b)
    have hreach : s.Reaches (s.announced hdr rest stamp b) := reaches_announced
    have hhush := (hreach.idle hidle).cuBeacon (sender := hdr.sender) (b := b) (ended := s.endsTrigger hdr.sender b)
      (by rw [hreach.cu]; exact hown)
    rw [← hb, h.taken_beacon hj hb]
    exact ⟨hhush.td.trans htd, hhush.mc.trans hmc⟩
  | notice m =>
    obtain ⟨-, -, -, -, htd, -, -, -, -, hmc, -⟩ := noticed_leaves (s := s) (stamp := stamp) (hdr := hdr) (rest := rest) (n := m)
    have hreach : s.Reaches (s.noticed hdr rest stamp m) := reaches_noticed
    have hhush := (hreach.idle hidle).cuNotice (sender := hdr.sender) (n := m) (by rw [hreach.cu]; exact hown)
    rw [← hb, taken_notice hj hb]
    exact ⟨hhush.td.trans htd, hhush.mc.trans hmc⟩
  | declaration d => exact absurd hb (hd d)
  | probe t1 =>
    rw [← hb, h.taken_probe hj hb]
    exact hheader _
  | reply b =>
    rw [← hb, taken_reply hj hb]
    have hreply (x : State) : (tauReply hdr.sender b stamp x).td = x.td ∧ (tauReply hdr.sender b stamp x).mc = x.mc := by simp
    exact ⟨(hreply _).1.trans (hheader _).1, (hreply _).2.trans (hheader _).2⟩
  | request q =>
    obtain ⟨v, hv, htaken⟩ := h.taken_request hj hb
    obtain ⟨-, -, hmc, -, -, -, -, htd, -⟩ := requestTaken_facts (s := v) (code := q.code) (argument := q.argument)
    rw [← hb, htaken]
    exact ⟨htd.trans (by rw [hv]; rfl), hmc.trans (by rw [hv]; rfl)⟩
  | report =>
    rw [← hb, taken_report hj hb]
    exact hheader _

/-- A frame accepted without its flag that reports nothing is a false wake (R190). -/
theorem State.Reads.falls (hw : hdr.wake = false) (hd : ∀ d, body ≠ .declaration d) (hidle : s.Idle)
    (hown : ∀ e ∈ s.cu.entries, e.own = false) : s.FallsTo (Machine.receiveFrame rest s) ∧
    (s.mc.standing = .capturing →
      (∀ id, id ≠ hdr.sender → (Machine.receiveFrame rest s).peer id = s.peer id) ∧
      (hdr.sender ≠ 15 → ∃ r, (Machine.receiveFrame rest s).peer hdr.sender = some r ∧ r.heldAge = some 0 ∧
        r.lastHeard = stamp.moment ∧ r.lastSeq = hdr.sequence.toNat)) := by
  have hhanded := h.handed hj
  have hdrowses := h.drowses hj hw
  obtain ⟨htd, hmc⟩ := h.hushed hj hd hidle hown
  obtain ⟨-, -, -, hsi, -, hhc, -⟩ := hhanded.same
  obtain ⟨a, ha⟩ : ∃ a, a = s.taken stamp hdr rest kind body := ⟨_, rfl⟩
  rw [← ha] at hhanded hdrowses htd hmc hsi hhc
  have hset : a.Settled := by
    unfold State.Settled
    rw [hmc]
    exact h.captured.settled
  rw [mcSettle_of_settled _ hset] at hdrowses
  refine ⟨hdrowses.fallsTo hhanded.kept h.captured.sends (by rw [hmc]) ⟨htd, hsi, hhc⟩ (hhanded.wakes _ (.inr (.inl rfl))), fun hs => ?_⟩
  have hpeers := (hdrowses.asleep (by rw [hmc]; exact hs)).2.2.2.2.2.2.2.2
  refine ⟨fun id hid => (peer_of_peers_eq hpeers).trans (hhanded.others id hid), fun h15 => ?_⟩
  obtain ⟨r, hr, hheard⟩ := hhanded.record h15
  exact ⟨r, (peer_of_peers_eq hpeers).trans hr, hheard.held, hheard.moment, hheard.seq⟩

/-- The request of a frame without its flag is dropped (R203). -/
theorem State.Reads.drops_request (hw : hdr.wake = false) {q : RequestBody} (hb : body = .request q) :
    (Machine.receiveFrame rest s).cs.pending = none := by
  have hhanded := h.handed hj
  obtain ⟨-, -, -, -, -, -, -, -, -, -, -, -, hcs, -⟩ := (hhanded.captive h.captured).heeds.same
  exact (h.drowses hj hw).pending (heldRequest q.code q.argument) (by rw [hcs]; exact hhanded.request q hb) rfl

end

/-! ## A frame that is not accepted -/

/-- The reasons of a discard (R37). -/
def Counter.ofJudge : Counter → Bool
  | .discardCrc | .discardKind | .discardSender | .discardMalformed | .discardRepeat => true
  | _ => false

theorem judge_discarded {k : Counter} (hj : s.judge f = .discarded k) : k.ofJudge = true := by
  unfold State.judge at hj
  (repeat' split at hj) <;> first | (injection hj with hj; rw [← hj]; rfl) | cases hj

theorem ofJudge_facts (h : c.ofJudge = true) : c.byPoll = false ∧ c ≠ .calibrationDiscards ∧ c ≠ .musterBeacons ∧ c ≠ .busRecoveries ∧
    c ≠ .falseWakes := by
  unfold Counter.ofJudge at h
  split at h
  case h_6 => cases h
  all_goals exact ⟨rfl, by decide, by decide, by decide, by decide⟩

/-- A capture's end in which nothing has reached an owner. -/
structure State.Misses (s u : State) : Prop where
  mc : u.mc = s.mc
  kept : s.Kept u
  same : u.td = s.td ∧ u.si = s.si ∧ u.hc = s.hc ∧ u.peers = s.peers

theorem State.Captured.misses (h : s.Captured) (hu : s.Misses u) (hcount : u.count .falseWakes = s.count .falseWakes) :
    u.Drowses (finish (endCapture false u)) ∧ s.FallsTo (finish (endCapture false u)) ∧
    (s.mc.standing = .capturing → (finish (endCapture false u)).peers = s.peers) := by
  have hset : u.Settled := by
    unfold State.Settled
    rw [hu.mc]
    exact h.settled
  have hcaptive : u.Captive := ⟨by rw [hu.mc]; exact h.standing, by rw [hu.mc]; exact h.capture, by rw [hu.kept.bm]; exact h.cls⟩
  have hdrowses : u.Drowses (finish (endCapture false u)) := by
    rw [hcaptive.endCapture, if_neg (by decide), mcSettle_of_settled _ hset]
    exact drowses_falseWake hset hcaptive.cls hcaptive.standing
  obtain ⟨htd, hsi, hhc, hpeers⟩ := hu.same
  refine ⟨hdrowses, hdrowses.fallsTo hu.kept h.sends (by rw [hu.mc]) ⟨htd, hsi, hhc⟩ hcount, fun hs => ?_⟩
  exact (hdrowses.asleep (by rw [hu.mc]; exact hs)).2.2.2.2.2.2.2.2.trans hpeers

theorem misses_setLc {x : Link} : s.Misses (s.setLc x) :=
  ⟨rfl, ⟨rfl, rfl, rfl, rfl, rfl, rfl⟩, ⟨rfl, rfl, rfl, rfl⟩⟩

theorem State.Misses.bump (h : s.Misses u) : s.Misses (Machine.bump c u) :=
  ⟨h.mc, ⟨h.kept.tb, h.kept.rmu, h.kept.bm, h.kept.twm, h.kept.pins, h.kept.settings⟩, h.same⟩

/-- A frame that is not accepted is a false wake, and counted (R37, R190). -/
theorem State.Reads.not_accepted (h : s.Reads stamp hdr rest)
    (hj : ∀ kind body, s.judge { hdr := hdr, rest := rest } ≠ .accepted kind body) :
    s.FallsTo (Machine.receiveFrame rest s) ∧ (s.mc.standing = .capturing → (Machine.receiveFrame rest s).peers = s.peers) ∧
    (∀ k, s.judge { hdr := hdr, rest := rest } = .discarded k →
      (Machine.receiveFrame rest s).count k = min (s.count k + 1) 65535) ∧
    (s.judge { hdr := hdr, rest := rest } = .conflict →
      (Machine.receiveFrame rest s).count .idConflicts = min (s.count .idConflicts + 1) 65535 ∧
      (Machine.receiveFrame rest s).lc.idConflict = true) := by
  rw [h.receiveFrame]
  unfold takeFrame
  rw [hunts_judge]
  cases hv : s.judge { hdr := hdr, rest := rest } with
  | accepted kind body => exact absurd hv (hj kind body)
  | discarded k =>
    obtain ⟨hpoll, hcal, hmuster, hrecover, hfalse⟩ := ofJudge_facts (judge_discarded hv)
    have hcount (c : Counter) : (Machine.bump k s.hunts).count c = if k = c then min (s.count c + 1) 65535 else s.count c := by
      rw [count_bump, hunts_count]
    have hmisses : s.Misses (Machine.bump k s.hunts) := misses_setLc.bump
    obtain ⟨hdrowses, hfalls, hpeers⟩ := h.captured.misses hmisses (by rw [hcount, if_neg hfalse])
    refine ⟨hfalls, hpeers, fun k' hk => ?_, fun hno => Judged.noConfusion hno⟩
    injection hk with hk
    subst hk
    exact (hdrowses.count k hpoll hcal hmuster hrecover).trans (by rw [if_neg hfalse, hcount, if_pos rfl])
  | conflict =>
    obtain ⟨u, hu⟩ : ∃ u, u = s.hunts.setLc { s.hunts.lc with idConflict := true } := ⟨_, rfl⟩
    have hmisses : s.Misses (Machine.bump .idConflicts u) := by
      rw [hu]
      exact State.Misses.bump (u := s.setLc { s.lc with rx := .hunting, idConflict := true }) misses_setLc
    have hcount (c : Counter) : (Machine.bump .idConflicts u).count c =
        if .idConflicts = c then min (s.count c + 1) 65535 else s.count c := by
      rw [count_bump, hu, count_setLc, hunts_count]
    obtain ⟨hdrowses, hfalls, hpeers⟩ := h.captured.misses hmisses (by rw [hcount, if_neg (by decide)])
    dsimp only
    rw [← hu]
    refine ⟨hfalls, hpeers, fun k' hk => Judged.noConfusion hk, fun _ => ⟨?_, ?_⟩⟩
    · rw [hdrowses.count _ rfl (by decide) (by decide) (by decide), if_neg (by decide), hcount, if_pos rfl]
    · rw [hdrowses.conflict, hu]
      rfl
  | ignored =>
    obtain ⟨-, hfalls, hpeers⟩ := h.captured.misses (u := s.hunts) misses_setLc rfl
    exact ⟨hfalls, hpeers, fun k' hk => Judged.noConfusion hk, fun hno => Judged.noConfusion hno⟩

/-- A frame cut short in a capture (R36). -/
theorem State.Captured.truncated (h : s.Captured) (hreading : s.lc.rx.reading = true) (hcd : s.pins.lkCd = false) :
    ∃ t, exec .frameTruncated s = .next t ∧ s.FallsTo t ∧ t.count .discardCrc = min (s.count .discardCrc + 1) 65535 ∧
      (s.mc.standing = .capturing → t.peers = s.peers) := by
  have hexec : exec .frameTruncated s = .next (finish (endCapture false (Machine.bump .discardCrc s.hunts))) := by
    show Host.Outcome.next (if s.lc.rx.reading && s.lc.tx.isNone && !s.pins.lkCd then
      finish (endCapture false (Machine.bump .discardCrc s.hunts)) else s) = _
    rw [if_pos (by simp [hreading, hcd, h.silent])]
  have hcount (c : Counter) : (Machine.bump .discardCrc s.hunts).count c =
      if .discardCrc = c then min (s.count c + 1) 65535 else s.count c := by
    rw [count_bump, hunts_count]
  have hmisses : s.Misses (Machine.bump .discardCrc s.hunts) := misses_setLc.bump
  obtain ⟨hdrowses, hfalls, hpeers⟩ := h.misses hmisses (by rw [hcount, if_neg (by decide)])
  refine ⟨_, hexec, hfalls, ?_, hpeers⟩
  rw [hdrowses.count _ rfl (by decide) (by decide) (by decide), if_neg (by decide), hcount, if_pos rfl]

end

end Sys2Proof.Machine

/-! PROOFS. What O59 says. -/
section
open Sys2Proof Sys2Proof.Machine
set_option Elab.async false

/-- Settles O59. -/
theorem captureWakesOrSleepsAgain : Obligations.CaptureWakesOrSleepsAgain := by
  intro s hset hstanding hcapture htx hsends hcls hfree
  have hcaptured : s.Captured := ⟨hset, hstanding, hcapture, htx, hsends, hcls, hfree⟩
  intro rises started wakes falls resumed idle
  refine ⟨fun stamp hdr rest hrx hlen => ?_, fun hreading hcd => hcaptured.truncated hreading hcd⟩
  intro verdict row clears admitted arrives adoptable adopts
  have hreads : s.Reads stamp hdr rest := ⟨hcaptured, hrx, hlen⟩
  have hrow (b : Body) : exec (row b) s = .next (receiveFrame rest s) := by
    cases b with
    | request q =>
      obtain ⟨code, argument⟩ := q
      rcases code with _ | _ | _ | _ | _ | _ | n <;> rfl
    | _ => rfl
  have hresumed : resumed = PeerRecord.resumed s.now := by
    funext r
    show resumed r = _
    unfold PeerRecord.resumed
    cases hr : r.heldAge with
    | none => simp only [resumed, hr, Option.elim_none]
    | some x => simp only [resumed, hr, Option.elim_some]
  refine ⟨fun kind b hj hw => ?_, fun kind b hj hw hidle hown => ?_, fun hj => ?_⟩
  · have hhanded := hreads.handed hj
    have hstirs := (hhanded.captive hcaptured).stirs
    have hcount (c : Counter) (hpoll : c.byPoll = false)
        (hbeside : c ≠ .calibrationDiscards ∧ c ≠ .musterBeacons ∧ c ≠ .busRecoveries) (hlocal : c ≠ .localWakes) :=
      hreads.wakes_count (c := c) hj hw hpoll hbeside hlocal
    refine ⟨_, hrow b, (hreads.wakes hj hw).wokenTo (hhanded.kept.trans hstirs.kept) hsends, ?_, fun hno => ?_, fun id hid => ?_,
      fun h15 => hreads.wakes_sender hj hw h15, fun x o hb ho => hreads.wakes_beacon hj hw hb ho, fun m hb => hreads.wakes_notice hj hw hb,
      fun d hb hadopt => ?_, fun x hb hcd => hreads.wakes_probe hj hw hb hcd, fun x hb hprobe => hreads.wakes_reply hj hw hb hprobe,
      fun q hb hcd => hreads.wakes_request hj hw hb hcd⟩
    · show (receiveFrame rest s).count .patternWakes = min (s.count .patternWakes + 1) 65535
      rw [hcount _ rfl ⟨by decide, by decide, by decide⟩ (by decide) (.inr (by decide)), if_pos rfl, hhanded.wakes _ (.inl rfl)]
    · show (receiveFrame rest s).count .framesAccepted = min (s.count .framesAccepted + 1) 65535
      rw [hcount _ rfl ⟨by decide, by decide, by decide⟩ (by decide) (.inl hno), if_neg (by decide), hhanded.accepted]
    · rw [hresumed, hreads.wakes_peers hj hw, hhanded.others id hid]
    · obtain ⟨horigin, hyoung, hentries, hroom, hapart⟩ := hadopt
      exact hreads.wakes_declaration hj hw hb ⟨horigin, hyoung, hentries, hroom, hapart⟩
  · have hhanded := hreads.handed hj
    refine ⟨_, hrow b, ?_, fun hd => (hreads.falls hj hw hd hidle hown).1, fun hs hd => (hreads.falls hj hw hd hidle hown).2 hs,
      fun q hb => hreads.drops_request hj hw hb, fun d hb hadopt => ?_⟩
    · show (receiveFrame rest s).count .framesAccepted = min (s.count .framesAccepted + 1) 65535
      rw [hreads.drowses_count hj hw rfl ⟨by decide, by decide, by decide⟩ (by decide), if_neg (by decide), hhanded.accepted]
    · obtain ⟨horigin, hyoung, hentries, hroom, hapart⟩ := hadopt
      exact hreads.drowses_declaration hj hw hb ⟨horigin, hyoung, hentries, hroom, hapart⟩
  · obtain ⟨hfalls, hpeers, hreason, hconflict⟩ := hreads.not_accepted hj
    exact ⟨_, rfl, hfalls, hpeers, hreason, hconflict⟩

end
